-- ==== Sys2Proof/Word.lean ====
section
/-!
DEFINITION. The word types of the device's registers and buffers, and the type of its sparse stores.
-/

namespace Sys2Proof

/-- A 32-bit register (R7). -/
abbrev Word := BitVec 32

/-- A byte of a buffer, page or frame. -/
abbrev Byte := BitVec 8

/-- A sparse store: key and value pairs, keys strictly rising, no entry equal to what an unlisted key reads as. -/
abbrev SMap (α : Type) := List (Nat × α)

end Sys2Proof
end

