-- ==== Sys2Proof/Machine/Bits.lean ====
section
/-!
DEFINITION. Bit-field, byte-order, saturation and checksum helpers, each written once.
-/

namespace Sys2Proof.Machine

/-- Bits [lo + w - 1 : lo] of a number. -/
def bitsOf (v lo w : Nat) : Nat := v / 2 ^ lo % 2 ^ w

/-- Bit `i` of a number, as 0 or 1. -/
def bitOf (v i : Nat) : Nat := v / 2 ^ i % 2

/-- `v` with bits [lo + w - 1 : lo] replaced by the low `w` bits of `x`. -/
def putBits (v lo w x : Nat) : Nat :=
  v / 2 ^ (lo + w) * 2 ^ (lo + w) + (x % 2 ^ w) * 2 ^ lo + v % 2 ^ lo

/-- 1 for true, 0 for false. -/
def b2n (b : Bool) : Nat := if b then 1 else 0

/-- A signed value of `w` bits, read from its two's complement. -/
def signedOf (w v : Nat) : Int := if v % 2 ^ w < 2 ^ (w - 1) then (v % 2 ^ w : Nat) else ((v % 2 ^ w : Nat) : Int) - (2 ^ w : Nat)

/-- The two's complement of a signed value in `w` bits. -/
def unsignedOf (w : Nat) (x : Int) : Nat := (x % ((2 ^ w : Nat) : Int)).toNat

/-- Held to the range [lo, hi]. -/
def clampInt (lo hi x : Int) : Int := max lo (min hi x)

/-- Held to the range [lo, hi]: the nearer limit outside it. -/
def clampNat (lo hi x : Nat) : Nat := max lo (min hi x)

/-- Parity (XOR) of the low `w` bits of a number. -/
def parity (v : Nat) : Nat → Nat
  | 0 => 0
  | w + 1 => (parity v w + bitOf v w) % 2

/-- How many of the low `w` bits of a number are 1. -/
def popCount (v : Nat) : Nat → Nat
  | 0 => 0
  | w + 1 => popCount v w + bitOf v w

/-- The little-endian number that bytes spell. -/
def leNat : List Byte → Nat
  | [] => 0
  | b :: bs => b.toNat + 256 * leNat bs

/-- The `n` little-endian bytes of a number. -/
def leBytes : Nat → Nat → List Byte
  | 0, _ => []
  | n + 1, v => BitVec.ofNat 8 v :: leBytes n (v / 256)

/-- The big-endian number that bytes spell. -/
def beNat (bs : List Byte) : Nat := leNat bs.reverse

/-- `n` bytes of a list from offset `o`, as a little-endian number. -/
def leAt (bs : List Byte) (o n : Nat) : Nat := leNat ((bs.drop o).take n)

/-- One bit step of a reflected CRC with polynomial `poly`. -/
def crcStepR (poly c : Nat) : Nat := if c % 2 = 1 then Nat.xor (c / 2) poly else c / 2

/-- Eight bit steps. -/
def crcByteR (poly c b : Nat) : Nat :=
  let s := crcStepR poly
  s (s (s (s (s (s (s (s (Nat.xor c b))))))))

/-- CRC-32C (Castagnoli, R228): reflected polynomial 0x82F63B78, initial value and final XOR 0xFFFF_FFFF. -/
def crc32c (bs : List Byte) : Nat :=
  Nat.xor (bs.foldl (fun c b => crcByteR 0x82F63B78 c b.toNat) 0xFFFFFFFF) 0xFFFFFFFF

/-- A running CRC-32C over more bytes, before the final XOR. -/
def crc32cRun (c : Nat) (bs : List Byte) : Nat := bs.foldl (fun c b => crcByteR 0x82F63B78 c b.toNat) c

/-- CRC-16 with polynomial 0x1021, initial value 0xFFFF, most significant bit first. -/
def crc16 (bs : List Byte) : Nat :=
  bs.foldl (fun c b =>
    (List.range 8).foldl (fun c i =>
      let top := (c / 2 ^ 15 + b.toNat / 2 ^ (7 - i)) % 2
      let x := 2 * c % 2 ^ 16
      if top = 1 then Nat.xor x 0x1021 else x) c) 0xFFFF

/-- Numbers 0 to n - 1. -/
def upTo (n : Nat) : List Nat := List.range n

end Sys2Proof.Machine
end

