-- ==== Sys2Proof/Reg.lean ====
section
/-!
DEFINITION. The register names of the spec (R7), without their instance suffixes: one constructor per
register of the chapters' register tables. The instance (column, bench, router, lane, ...) is a separate
number; where a register has several indices the instance is the mixed-radix number of them, first index
most significant (`HOP_CFG` of hopper h of bench b is instance 32·b + h).
-/

namespace Sys2Proof

/-- A register name (R7). -/
inductive Reg where
  | CAL_BORE_SEL
  | CAL_BORE_TRIM
  | CAL_BORE_STAT
  | CAL_BORE_SPARE
  | CAL_BORE_CTL
  | CAL_BORE_LIMIT
  | CAL_REPAIR_CNT
  | BENCH_DLYMON_SEL
  | BENCH_DLYMON_VAL
  | BENCH_DLYMON_WORST
  | BENCH_DLYMON_CTL
  | MEMT_SEL
  | MEMT_FLIP_0
  | MEMT_FLIP_1
  | MEMT_FLIP_2
  | MEMT_REMAP_IDX
  | MEMT_PATROL_CTL
  | MEMT_BLK_STAT
  | MEMT_REMAP_VAL
  | MEMT_INV
  | MEMT_ARB
  | MEMT_PATROL_STAT
  | MEMT_ECC_CNT
  | MEMT_FENCE_CNT
  | MEMT_EVT
  | MEMT_EVT_EN
  | MEMT_ERR_LOG_0
  | MEMT_ERR_LOG_1
  | HOP_CFG
  | HOP_CTL
  | HOP_STAT
  | HOP_COUNT
  | HOP_LEVEL
  | HOP_TAIL
  | HOP_IDLE_0
  | HOP_IDLE_1
  | HOP_IDLE_2
  | HOP_OWNER
  | HOP_ERRCNT
  | HOP_EVT
  | HOP_EVT_EN
  | BENCH_PLANE_SEL
  | BENCH_PLANE_STAT
  | BENCH_PLANE_STATE
  | BENCH_PLANE_CNT
  | BENCH_PLANE_ERRCNT
  | BENCH_PLANE_EVT
  | BENCH_PLANE_EVT_EN
  | BENCH_SCHED_CTL
  | BENCH_SCHED_LIST
  | BENCH_SCHED_QUANT
  | BENCH_BND_MODE
  | BENCH_BND_CTL
  | BENCH_USER_CONST
  | BENCH_USER_STAT
  | BENCH_CLKSRC
  | BENCH_PLANE_TIME_LO
  | BENCH_PLANE_TIME_HI
  | BENCH_SURGE_CTL
  | CTX_CMD
  | CTX_STAT
  | CTX_CE_CNT
  | CTX_EVT
  | CTX_EVT_EN
  | CTX_HOME
  | CTX_SLOT_SEL
  | CTX_REFRESH
  | CTX_PATROL
  | CTX_SCRUB_STAT
  | CTX_SCRUB_MASK
  | CTX_SCRUB_CNT
  | CTX_SCRUB_LOG_0
  | CTX_SCRUB_LOG_1
  | CTX_SLOT_STAT
  | CTX_SLOT_OWNER
  | CTX_SLOT_CTL
  | MEY_LOAD_CTL
  | MEY_LOAD_SRC_LO
  | MEY_LOAD_SRC_HI
  | MEY_LOAD_LEN
  | MEY_LOAD_TMO
  | MEY_LOAD_STAT
  | MEY_LOAD_PROG
  | MEY_LOAD_FAULT
  | MEY_LOAD_EVT
  | MEY_LOAD_EVT_EN
  | MEY_LOAD_TGT
  | BENCH_ASSIGN
  | BENCH_GANG_STAT
  | BENCH_GANG_CMD
  | BENCH_MFENCE
  | BENCH_HWIN_LO
  | BENCH_HWIN_HI
  | BENCH_LANE_TX_LO
  | BENCH_LANE_TX_HI
  | BENCH_LANE_RX_LO
  | BENCH_LANE_RX_HI
  | BENCH_FENCE_STAT
  | BENCH_PCAP
  | BENCH_PCAP_STAT
  | BENCH_WB_CTL
  | BENCH_WB_HELD
  | BENCH_TALLY_LO
  | BENCH_TALLY_HI
  | BENCH_TALLY_IDLE_LO
  | BENCH_TALLY_IDLE_HI
  | BENCH_TALLY_PLANE_LO
  | BENCH_TALLY_PLANE_HI
  | BENCH_RING_BASE_LO
  | PF_RING_BASE_LO
  | BENCH_RING_BASE_HI
  | PF_RING_BASE_HI
  | BENCH_RING_CTL
  | PF_RING_CTL
  | BENCH_RING_HEAD
  | PF_RING_HEAD
  | BENCH_RING_TAIL
  | PF_RING_TAIL
  | HN_RT_SEL
  | HN_RT_ENT
  | HN_RTR_CTL
  | HN_RTR_STAT
  | HN_RTR_ECC
  | HN_RTR_EPOCH
  | HN_FENCE
  | HN_DARK
  | HN_LINK_SPARE
  | HN_PRB_SEL
  | HN_PRB_AVAL_LO
  | HN_PRB_AVAL_HI
  | HN_PRB_AMSK_LO
  | HN_PRB_AMSK_HI
  | HN_PRB_SRC
  | HN_PRB_TAG
  | HN_PRB_EVT
  | HN_PRB_CNT
  | HN_DDR_ILV
  | HN_EPOCH_CTL
  | HN_EPOCH_STAT
  | HN_TMO
  | HN_LATE_RSP
  | HN_TOCNT
  | HN_TRC_CTL
  | HN_TRC_STAT
  | BENCH_HPORT_CFG
  | BENCH_HPORT_STAT
  | BENCH_HPORT_ERR
  | BENCH_HPORT_DROP
  | BENCH_HPORT_TMO
  | BENCH_HPORT_TOCNT
  | BENCH_SHIFT
  | BENCH_REPAIR_STAT
  | CTX_SCRUB_BENCH
  | PCIE_LINK_STAT
  | PCIE_ERR
  | PCIE_DMA_BASE_LO
  | PCIE_DMA_BASE_HI
  | PCIE_DMA_CTL
  | PCIE_DMA_PROD
  | PCIE_DMA_CONS
  | PCIE_VF_MAP_LO
  | PCIE_VF_MAP_HI
  | PCIE_DEV_CTL
  | PCIE_VF_APER
  | LANE_CTL
  | LANE_STAT
  | LANE_LINKID
  | LANE_USER
  | LANE_PEER_ID
  | LANE_PEER_USER
  | LANE_TX
  | LANE_PRBS
  | LANE_PRBS_ERR
  | LANE_PRBS_BITS
  | LANE_SQ
  | LANE_DROP
  | ETH_OCT_CFG
  | ETH_OCT_STAT
  | ETH_PORT_CFG
  | ETH_PORT_STAT
  | ETH_RX_FRAMES
  | ETH_RX_ERR
  | ETH_TX_FRAMES
  | ETH_TX_ERR
  | ETH_FEC_CORR
  | ETH_FEC_UNCORR
  | ETH_TXTS_ID
  | ETH_TXTS_LO
  | ETH_TXTS_HI
  | CLK_OSC_STAT
  | CLK_RAMP_CTL
  | CLK_MON
  | CLK_FAB
  | CLK_OUT
  | PWR_RAIL_STAT
  | PWR_DOM
  | PWR_RST_CTL
  | PWR_RST_STAT
  | PWR_BOOT_STAT
  | THM_SITE
  | THM_SITE_CAL
  | THM_LIMITS
  | THM_SHDN_MODE
  | THM_PRIV_CTL
  | THM_STAT
  | THM_COL
  | THM_BENCH
  | THM_BENCH_REF
  | TEL_RAIL
  | TEL_PWR
  | TEL_MEM_E_LO
  | TEL_MEM_E_HI
  | TEL_CFG_E_LO
  | TEL_CFG_E_HI
  | MBX_CMD_DOOR
  | MBX_RSP_DOOR
  | MBX_STATUS
  | MBX_CTL
  | MBX_FW_STAT
  | MBX_FW_CTL
  | HLU_ABS
  | HLU_BOARD
  | HLU_FW
  | HLU_EFF
  | HLU_CTL
  | HLU_REFUSE
  | WPL_STAT
  | WPL_CTL
  | WPL_DROP
  | WPL_REC_TIME_LO
  | WPL_REC_TIME_HI
  | WPL_REC_INFO
  | WPL_REC_ENTRIES
  | DDR_CH_CFG
  | DDR_CH_STAT
  | DDR_ECC
  | DBG_STRAP
  | DBG_GPIO_IN
  | DBG_GPIO_OUT
  | DBG_GPIO_OE
  | DBG_TMUX_STAT
  deriving DecidableEq, Repr

end Sys2Proof
end

