-- ==== Sys2Proof/Machine/RegTable.lean ====
section
/-!
DEFINITION. What the register tables of the chapters say of each register: the bits its RW fields occupy, the
bits its RW1C fields occupy, its reset value, and its place in the PF BAR0 (R672, R673).
-/

namespace Sys2Proof.Machine

/-- Register names, part 0. -/
def allRegs0 : List Reg := [Reg.CAL_BORE_SEL, Reg.CAL_BORE_TRIM, Reg.CAL_BORE_STAT, Reg.CAL_BORE_SPARE,
  Reg.CAL_BORE_CTL, Reg.CAL_BORE_LIMIT, Reg.CAL_REPAIR_CNT, Reg.BENCH_DLYMON_SEL,
  Reg.BENCH_DLYMON_VAL, Reg.BENCH_DLYMON_WORST, Reg.BENCH_DLYMON_CTL, Reg.MEMT_SEL,
  Reg.MEMT_FLIP_0, Reg.MEMT_FLIP_1, Reg.MEMT_FLIP_2, Reg.MEMT_REMAP_IDX,
  Reg.MEMT_PATROL_CTL, Reg.MEMT_BLK_STAT, Reg.MEMT_REMAP_VAL, Reg.MEMT_INV,
  Reg.MEMT_ARB, Reg.MEMT_PATROL_STAT, Reg.MEMT_ECC_CNT, Reg.MEMT_FENCE_CNT,
  Reg.MEMT_EVT, Reg.MEMT_EVT_EN, Reg.MEMT_ERR_LOG_0, Reg.MEMT_ERR_LOG_1,
  Reg.HOP_CFG, Reg.HOP_CTL, Reg.HOP_STAT, Reg.HOP_COUNT,
  Reg.HOP_LEVEL, Reg.HOP_TAIL, Reg.HOP_IDLE_0, Reg.HOP_IDLE_1,
  Reg.HOP_IDLE_2, Reg.HOP_OWNER, Reg.HOP_ERRCNT, Reg.HOP_EVT]

/-- Register names, part 1. -/
def allRegs1 : List Reg := [Reg.HOP_EVT_EN, Reg.BENCH_PLANE_SEL, Reg.BENCH_PLANE_STAT, Reg.BENCH_PLANE_STATE,
  Reg.BENCH_PLANE_CNT, Reg.BENCH_PLANE_ERRCNT, Reg.BENCH_PLANE_EVT, Reg.BENCH_PLANE_EVT_EN,
  Reg.BENCH_SCHED_CTL, Reg.BENCH_SCHED_LIST, Reg.BENCH_SCHED_QUANT, Reg.BENCH_BND_MODE,
  Reg.BENCH_BND_CTL, Reg.BENCH_USER_CONST, Reg.BENCH_USER_STAT, Reg.BENCH_CLKSRC,
  Reg.BENCH_PLANE_TIME_LO, Reg.BENCH_PLANE_TIME_HI, Reg.BENCH_SURGE_CTL, Reg.CTX_CMD,
  Reg.CTX_STAT, Reg.CTX_CE_CNT, Reg.CTX_EVT, Reg.CTX_EVT_EN,
  Reg.CTX_HOME, Reg.CTX_SLOT_SEL, Reg.CTX_REFRESH, Reg.CTX_PATROL,
  Reg.CTX_SCRUB_STAT, Reg.CTX_SCRUB_MASK, Reg.CTX_SCRUB_CNT, Reg.CTX_SCRUB_LOG_0,
  Reg.CTX_SCRUB_LOG_1, Reg.CTX_SLOT_STAT, Reg.CTX_SLOT_OWNER, Reg.CTX_SLOT_CTL,
  Reg.MEY_LOAD_CTL, Reg.MEY_LOAD_SRC_LO, Reg.MEY_LOAD_SRC_HI, Reg.MEY_LOAD_LEN]

/-- Register names, part 2. -/
def allRegs2 : List Reg := [Reg.MEY_LOAD_TMO, Reg.MEY_LOAD_STAT, Reg.MEY_LOAD_PROG, Reg.MEY_LOAD_FAULT,
  Reg.MEY_LOAD_EVT, Reg.MEY_LOAD_EVT_EN, Reg.MEY_LOAD_TGT, Reg.BENCH_ASSIGN,
  Reg.BENCH_GANG_STAT, Reg.BENCH_GANG_CMD, Reg.BENCH_MFENCE, Reg.BENCH_HWIN_LO,
  Reg.BENCH_HWIN_HI, Reg.BENCH_LANE_TX_LO, Reg.BENCH_LANE_TX_HI, Reg.BENCH_LANE_RX_LO,
  Reg.BENCH_LANE_RX_HI, Reg.BENCH_FENCE_STAT, Reg.BENCH_PCAP, Reg.BENCH_PCAP_STAT,
  Reg.BENCH_WB_CTL, Reg.BENCH_WB_HELD, Reg.BENCH_TALLY_LO, Reg.BENCH_TALLY_HI,
  Reg.BENCH_TALLY_IDLE_LO, Reg.BENCH_TALLY_IDLE_HI, Reg.BENCH_TALLY_PLANE_LO, Reg.BENCH_TALLY_PLANE_HI,
  Reg.BENCH_RING_BASE_LO, Reg.PF_RING_BASE_LO, Reg.BENCH_RING_BASE_HI, Reg.PF_RING_BASE_HI,
  Reg.BENCH_RING_CTL, Reg.PF_RING_CTL, Reg.BENCH_RING_HEAD, Reg.PF_RING_HEAD,
  Reg.BENCH_RING_TAIL, Reg.PF_RING_TAIL, Reg.HN_RT_SEL, Reg.HN_RT_ENT]

/-- Register names, part 3. -/
def allRegs3 : List Reg := [Reg.HN_RTR_CTL, Reg.HN_RTR_STAT, Reg.HN_RTR_ECC, Reg.HN_RTR_EPOCH,
  Reg.HN_FENCE, Reg.HN_DARK, Reg.HN_LINK_SPARE, Reg.HN_PRB_SEL,
  Reg.HN_PRB_AVAL_LO, Reg.HN_PRB_AVAL_HI, Reg.HN_PRB_AMSK_LO, Reg.HN_PRB_AMSK_HI,
  Reg.HN_PRB_SRC, Reg.HN_PRB_TAG, Reg.HN_PRB_EVT, Reg.HN_PRB_CNT,
  Reg.HN_DDR_ILV, Reg.HN_EPOCH_CTL, Reg.HN_EPOCH_STAT, Reg.HN_TMO,
  Reg.HN_LATE_RSP, Reg.HN_TOCNT, Reg.HN_TRC_CTL, Reg.HN_TRC_STAT,
  Reg.BENCH_HPORT_CFG, Reg.BENCH_HPORT_STAT, Reg.BENCH_HPORT_ERR, Reg.BENCH_HPORT_DROP,
  Reg.BENCH_HPORT_TMO, Reg.BENCH_HPORT_TOCNT, Reg.BENCH_SHIFT, Reg.BENCH_REPAIR_STAT,
  Reg.CTX_SCRUB_BENCH, Reg.PCIE_LINK_STAT, Reg.PCIE_ERR, Reg.PCIE_DMA_BASE_LO,
  Reg.PCIE_DMA_BASE_HI, Reg.PCIE_DMA_CTL, Reg.PCIE_DMA_PROD, Reg.PCIE_DMA_CONS]

/-- Register names, part 4. -/
def allRegs4 : List Reg := [Reg.PCIE_VF_MAP_LO, Reg.PCIE_VF_MAP_HI, Reg.PCIE_DEV_CTL, Reg.PCIE_VF_APER,
  Reg.LANE_CTL, Reg.LANE_STAT, Reg.LANE_LINKID, Reg.LANE_USER,
  Reg.LANE_PEER_ID, Reg.LANE_PEER_USER, Reg.LANE_TX, Reg.LANE_PRBS,
  Reg.LANE_PRBS_ERR, Reg.LANE_PRBS_BITS, Reg.LANE_SQ, Reg.LANE_DROP,
  Reg.ETH_OCT_CFG, Reg.ETH_OCT_STAT, Reg.ETH_PORT_CFG, Reg.ETH_PORT_STAT,
  Reg.ETH_RX_FRAMES, Reg.ETH_RX_ERR, Reg.ETH_TX_FRAMES, Reg.ETH_TX_ERR,
  Reg.ETH_FEC_CORR, Reg.ETH_FEC_UNCORR, Reg.ETH_TXTS_ID, Reg.ETH_TXTS_LO,
  Reg.ETH_TXTS_HI, Reg.CLK_OSC_STAT, Reg.CLK_RAMP_CTL, Reg.CLK_MON,
  Reg.CLK_FAB, Reg.CLK_OUT, Reg.PWR_RAIL_STAT, Reg.PWR_DOM,
  Reg.PWR_RST_CTL, Reg.PWR_RST_STAT, Reg.PWR_BOOT_STAT, Reg.THM_SITE]

/-- Register names, part 5. -/
def allRegs5 : List Reg := [Reg.THM_SITE_CAL, Reg.THM_LIMITS, Reg.THM_SHDN_MODE, Reg.THM_PRIV_CTL,
  Reg.THM_STAT, Reg.THM_COL, Reg.THM_BENCH, Reg.THM_BENCH_REF,
  Reg.TEL_RAIL, Reg.TEL_PWR, Reg.TEL_MEM_E_LO, Reg.TEL_MEM_E_HI,
  Reg.TEL_CFG_E_LO, Reg.TEL_CFG_E_HI, Reg.MBX_CMD_DOOR, Reg.MBX_RSP_DOOR,
  Reg.MBX_STATUS, Reg.MBX_CTL, Reg.MBX_FW_STAT, Reg.MBX_FW_CTL,
  Reg.HLU_ABS, Reg.HLU_BOARD, Reg.HLU_FW, Reg.HLU_EFF,
  Reg.HLU_CTL, Reg.HLU_REFUSE, Reg.WPL_STAT, Reg.WPL_CTL,
  Reg.WPL_DROP, Reg.WPL_REC_TIME_LO, Reg.WPL_REC_TIME_HI, Reg.WPL_REC_INFO,
  Reg.WPL_REC_ENTRIES, Reg.DDR_CH_CFG, Reg.DDR_CH_STAT, Reg.DDR_ECC,
  Reg.DBG_STRAP, Reg.DBG_GPIO_IN, Reg.DBG_GPIO_OUT, Reg.DBG_GPIO_OE]

/-- Register names, part 6. -/
def allRegs6 : List Reg := [Reg.DBG_TMUX_STAT]

/-- Every register name, in the order of the constructors. -/
def allRegs : List Reg :=
  allRegs0 ++ (allRegs1 ++ (allRegs2 ++ (allRegs3 ++ (allRegs4 ++ (allRegs5 ++ (allRegs6))))))

/-- The bits of RW and RWO fields (R8): a write stores them. -/
def rwMask : Reg → BitVec 32
  | .CAL_BORE_SEL => 0xffffffff
  | .CAL_BORE_TRIM => 0x00ffff00
  | .CAL_BORE_CTL => 0x0000fff1
  | .CAL_REPAIR_CNT => 0xffffffff
  | .BENCH_DLYMON_SEL => 0x0000003f
  | .BENCH_DLYMON_CTL => 0x0fff0001
  | .MEMT_SEL => 0x003f07ff
  | .MEMT_FLIP_0 => 0xffffffff
  | .MEMT_FLIP_1 => 0xffffffff
  | .MEMT_FLIP_2 => 0x000000ff
  | .MEMT_REMAP_IDX => 0x00000007
  | .MEMT_PATROL_CTL => 0xfffff001
  | .MEMT_INV => 0x00ffc3ff
  | .MEMT_ARB => 0x00000003
  | .MEMT_ECC_CNT => 0xffffffff
  | .MEMT_FENCE_CNT => 0xffffffff
  | .MEMT_EVT_EN => 0x0000007f
  | .HOP_CFG => 0xf077fc0f
  | .HOP_LEVEL => 0x1fff1fff
  | .HOP_TAIL => 0x0000001f
  | .HOP_IDLE_0 => 0xffffffff
  | .HOP_IDLE_1 => 0xffffffff
  | .HOP_IDLE_2 => 0x000000ff
  | .HOP_OWNER => 0x80000007
  | .HOP_ERRCNT => 0xffffffff
  | .HOP_EVT_EN => 0x0000000f
  | .BENCH_PLANE_SEL => 0x00000007
  | .BENCH_PLANE_ERRCNT => 0xffffffff
  | .BENCH_PLANE_EVT_EN => 0x0000000f
  | .BENCH_SCHED_CTL => 0x80070000
  | .BENCH_SCHED_LIST => 0x00ffffff
  | .BENCH_SCHED_QUANT => 0x000fffff
  | .BENCH_BND_MODE => 0xffffffff
  | .BENCH_BND_CTL => 0x00000001
  | .BENCH_USER_CONST => 0xffffffff
  | .BENCH_CLKSRC => 0xffffffff
  | .BENCH_SURGE_CTL => 0x0000001f
  | .CTX_CMD => 0x370003ff
  | .CTX_CE_CNT => 0xffffffff
  | .CTX_EVT_EN => 0x00000003
  | .CTX_SLOT_SEL => 0x000003ff
  | .CTX_PATROL => 0xfffff001
  | .CTX_SCRUB_CNT => 0xffffffff
  | .CTX_SLOT_OWNER => 0x8000003f
  | .MEY_LOAD_CTL => 0x3ff00000
  | .MEY_LOAD_SRC_LO => 0xffffffff
  | .MEY_LOAD_SRC_HI => 0xffffffff
  | .MEY_LOAD_LEN => 0xffffffff
  | .MEY_LOAD_TMO => 0x000fffff
  | .MEY_LOAD_EVT_EN => 0x00000003
  | .MEY_LOAD_TGT => 0x80000fff
  | .BENCH_ASSIGN => 0xc0000000
  | .BENCH_GANG_CMD => 0x000f0f00
  | .BENCH_MFENCE => 0x800fffff
  | .BENCH_HWIN_LO => 0xfffff000
  | .BENCH_HWIN_HI => 0xe03fffff
  | .BENCH_LANE_TX_LO => 0xffffffff
  | .BENCH_LANE_TX_HI => 0xffffffff
  | .BENCH_LANE_RX_LO => 0xffffffff
  | .BENCH_LANE_RX_HI => 0xffffffff
  | .BENCH_FENCE_STAT => 0x0000ffff
  | .BENCH_PCAP => 0x800fffff
  | .BENCH_WB_CTL => 0x001f07ff
  | .BENCH_RING_BASE_LO => 0xfffff000
  | .PF_RING_BASE_LO => 0xfffff000
  | .BENCH_RING_BASE_HI => 0xffffffff
  | .PF_RING_BASE_HI => 0xffffffff
  | .BENCH_RING_CTL => 0x801f03ff
  | .PF_RING_CTL => 0x801f03ff
  | .BENCH_RING_HEAD => 0x0000ffff
  | .PF_RING_HEAD => 0x0000ffff
  | .HN_RT_SEL => 0x0001001f
  | .HN_RT_ENT => 0x00000007
  | .HN_RTR_CTL => 0x00000001
  | .HN_RTR_ECC => 0xffffffff
  | .HN_DARK => 0xffffffff
  | .HN_PRB_SEL => 0xc000000f
  | .HN_PRB_AVAL_LO => 0xffffffff
  | .HN_PRB_AVAL_HI => 0x0000ffff
  | .HN_PRB_AMSK_LO => 0xffffffff
  | .HN_PRB_AMSK_HI => 0x0000ffff
  | .HN_PRB_SRC => 0x03ff03ff
  | .HN_PRB_TAG => 0xffff0fff
  | .HN_PRB_EVT => 0x0000ffff
  | .HN_PRB_CNT => 0xffffffff
  | .HN_DDR_ILV => 0x00001f03
  | .HN_TMO => 0x000fffff
  | .HN_LATE_RSP => 0xffffffff
  | .HN_TOCNT => 0xffffffff
  | .HN_TRC_CTL => 0x80000001
  | .HN_TRC_STAT => 0x0000ffff
  | .BENCH_HPORT_CFG => 0x0000010f
  | .BENCH_HPORT_ERR => 0xffffffff
  | .BENCH_HPORT_DROP => 0xffffffff
  | .BENCH_HPORT_TMO => 0x000fffff
  | .BENCH_HPORT_TOCNT => 0xffffffff
  | .CTX_SCRUB_BENCH => 0x0000ffff
  | .PCIE_LINK_STAT => 0x000000ff
  | .PCIE_ERR => 0xffffffff
  | .PCIE_DMA_BASE_LO => 0xfffff000
  | .PCIE_DMA_BASE_HI => 0xffffffff
  | .PCIE_DMA_CTL => 0x801f0000
  | .PCIE_DMA_PROD => 0x0000ffff
  | .PCIE_VF_MAP_LO => 0xffffffff
  | .PCIE_VF_MAP_HI => 0xffffffff
  | .PCIE_DEV_CTL => 0x00000001
  | .PCIE_VF_APER => 0x00000001
  | .LANE_CTL => 0x73ff0000
  | .LANE_STAT => 0x000000ff
  | .LANE_LINKID => 0xffffffff
  | .LANE_USER => 0xffffffff
  | .LANE_TX => 0x800007ff
  | .LANE_PRBS => 0xceff0000
  | .LANE_PRBS_ERR => 0xffffffff
  | .LANE_DROP => 0xffffffff
  | .ETH_OCT_CFG => 0xffffffff
  | .ETH_PORT_CFG => 0x80003fff
  | .ETH_RX_ERR => 0xffffffff
  | .ETH_TX_ERR => 0x0000ffff
  | .ETH_FEC_CORR => 0xffffffff
  | .ETH_FEC_UNCORR => 0xffffffff
  | .CLK_RAMP_CTL => 0x00000007
  | .CLK_MON => 0x06000000
  | .CLK_FAB => 0x000001ff
  | .CLK_OUT => 0x800f01ff
  | .PWR_DOM => 0x80000000
  | .PWR_RST_CTL => 0x000003ff
  | .THM_SITE_CAL => 0x00ffff00
  | .THM_LIMITS => 0xffffffff
  | .THM_SHDN_MODE => 0x00000001
  | .THM_PRIV_CTL => 0x007f0007
  | .MBX_CTL => 0x00000002
  | .HLU_BOARD => 0xffffffff
  | .HLU_CTL => 0x80000000
  | .HLU_REFUSE => 0xffff0000
  | .WPL_DROP => 0xffffffff
  | .DDR_CH_CFG => 0x00000303
  | .DDR_ECC => 0xffffffff
  | .DBG_GPIO_OUT => 0xffffffff
  | .DBG_GPIO_OE => 0xffffffff
  | _ => 0x00000000

/-- The bits of RW1C fields (R8): writing 1 clears. -/
def w1cMask : Reg → BitVec 32
  | .BENCH_DLYMON_CTL => 0x00000100
  | .MEMT_EVT => 0x0000007f
  | .MEMT_ERR_LOG_0 => 0x80000000
  | .HOP_STAT => 0x01000000
  | .HOP_EVT => 0x0000000f
  | .BENCH_PLANE_STAT => 0x00820100
  | .BENCH_PLANE_EVT => 0x0000000f
  | .BENCH_SURGE_CTL => 0x00000100
  | .CTX_STAT => 0x40000000
  | .CTX_EVT => 0x00000003
  | .CTX_SCRUB_STAT => 0x10000000
  | .CTX_SCRUB_LOG_0 => 0x80000000
  | .CTX_SLOT_STAT => 0x01000000
  | .MEY_LOAD_STAT => 0x40000000
  | .MEY_LOAD_EVT => 0x00000003
  | .BENCH_ASSIGN => 0x00000003
  | .BENCH_GANG_CMD => 0x20000000
  | .BENCH_FENCE_STAT => 0x80000000
  | .BENCH_RING_CTL => 0x20000000
  | .PF_RING_CTL => 0x20000000
  | .HN_RTR_STAT => 0x40000000
  | .HN_EPOCH_STAT => 0x70000000
  | .BENCH_HPORT_CFG => 0x80000000
  | .CTX_SCRUB_BENCH => 0xff000000
  | .PCIE_DMA_CTL => 0x30000000
  | .PCIE_DEV_CTL => 0x80000000
  | .ETH_OCT_STAT => 0x00000001
  | .ETH_PORT_STAT => 0x08000000
  | .CLK_MON => 0x40000000
  | .CLK_FAB => 0x80000000
  | .CLK_OUT => 0x40000000
  | .PWR_RAIL_STAT => 0x01ff0000
  | .PWR_DOM => 0x40800000
  | .PWR_RST_STAT => 0x40000000
  | .THM_SITE => 0x20000000
  | .THM_STAT => 0x90000000
  | .MBX_STATUS => 0x10000000
  | .MBX_FW_STAT => 0x08000000
  | .DDR_CH_STAT => 0x18000000
  | _ => 0x00000000

/-- The reset value of the chapters' register tables. A field whose table names no value (an em dash, or a value
read from elsewhere) counts 0 here; `regReset` adds the values that depend on the instance. -/
def resetWord : Reg → BitVec 32
  | .CAL_BORE_CTL => 0x000010a1
  | .CAL_BORE_LIMIT => 0xf0080ff0
  | .BENCH_DLYMON_CTL => 0x049a0000
  | .MEMT_PATROL_CTL => 0x15180001
  | .MEMT_ARB => 0x00000001
  | .MEMT_EVT_EN => 0x0000007e
  | .HOP_STAT => 0x50000000
  | .HOP_LEVEL => 0x000c0004
  | .HOP_EVT_EN => 0x00000003
  | .BENCH_PLANE_EVT_EN => 0x00000007
  | .BENCH_SCHED_QUANT => 0x000003e8
  | .BENCH_SURGE_CTL => 0x00000010
  | .CTX_EVT_EN => 0x00000003
  | .CTX_REFRESH => 0x0000c801
  | .CTX_PATROL => 0x00e10001
  | .CTX_SCRUB_MASK => 0x0000ffff
  | .MEY_LOAD_TMO => 0x000003e8
  | .MEY_LOAD_EVT_EN => 0x00000003
  | .BENCH_ASSIGN => 0x80000000
  | .BENCH_HWIN_HI => 0x000c0000
  | .BENCH_PCAP => 0x00061f40
  | .BENCH_WB_CTL => 0x000c0000
  | .BENCH_RING_CTL => 0x00080000
  | .PF_RING_CTL => 0x00080000
  | .HN_PRB_TAG => 0xf0000000
  | .HN_DDR_ILV => 0x00000c00
  | .HN_TMO => 0x00000064
  | .BENCH_HPORT_CFG => 0x0000000c
  | .BENCH_HPORT_STAT => 0x80000000
  | .BENCH_HPORT_TMO => 0x00000064
  | .BENCH_SHIFT => 0x00000020
  | .PCIE_LINK_STAT => 0x20000000
  | .PCIE_DMA_CTL => 0x40080000
  | .PCIE_VF_MAP_HI => 0xffffffff
  | .LANE_CTL => 0x417d0000
  | .LANE_TX => 0x00000320
  | .LANE_PRBS => 0x00010000
  | .ETH_PORT_CFG => 0x800005ee
  | .CLK_OSC_STAT => 0x40000000
  | .CLK_RAMP_CTL => 0x00000002
  | .CLK_MON => 0x06000000
  | .CLK_FAB => 0x000000a0
  | .CLK_OUT => 0x00000003
  | .PWR_RST_CTL => 0x0000000a
  | .THM_LIMITS => 0x968c7d55
  | .THM_PRIV_CTL => 0x000a0004
  | .THM_COL => 0x08000000
  | .DDR_CH_CFG => 0x00000002
  | _ => 0x00000000

/-- The rule of the spec that gives the register. -/
def regRule : Reg → Nat
  | .CAL_BORE_SEL => 35
  | .CAL_BORE_TRIM => 36
  | .CAL_BORE_STAT => 37
  | .CAL_BORE_SPARE => 38
  | .CAL_BORE_CTL => 39
  | .CAL_BORE_LIMIT => 40
  | .CAL_REPAIR_CNT => 393
  | .BENCH_DLYMON_SEL => 75
  | .BENCH_DLYMON_VAL => 76
  | .BENCH_DLYMON_WORST => 77
  | .BENCH_DLYMON_CTL => 78
  | .MEMT_SEL => 110
  | .MEMT_FLIP_0 => 112
  | .MEMT_FLIP_1 => 112
  | .MEMT_FLIP_2 => 112
  | .MEMT_REMAP_IDX => 113
  | .MEMT_PATROL_CTL => 116
  | .MEMT_BLK_STAT => 111
  | .MEMT_REMAP_VAL => 113
  | .MEMT_INV => 114
  | .MEMT_ARB => 115
  | .MEMT_PATROL_STAT => 117
  | .MEMT_ECC_CNT => 118
  | .MEMT_FENCE_CNT => 119
  | .MEMT_EVT => 120
  | .MEMT_EVT_EN => 120
  | .MEMT_ERR_LOG_0 => 121
  | .MEMT_ERR_LOG_1 => 121
  | .HOP_CFG => 140
  | .HOP_CTL => 141
  | .HOP_STAT => 142
  | .HOP_COUNT => 143
  | .HOP_LEVEL => 144
  | .HOP_TAIL => 145
  | .HOP_IDLE_0 => 146
  | .HOP_IDLE_1 => 146
  | .HOP_IDLE_2 => 146
  | .HOP_OWNER => 147
  | .HOP_ERRCNT => 148
  | .HOP_EVT => 149
  | .HOP_EVT_EN => 149
  | .BENCH_PLANE_SEL => 182
  | .BENCH_PLANE_STAT => 183
  | .BENCH_PLANE_STATE => 184
  | .BENCH_PLANE_CNT => 185
  | .BENCH_PLANE_ERRCNT => 186
  | .BENCH_PLANE_EVT => 187
  | .BENCH_PLANE_EVT_EN => 187
  | .BENCH_SCHED_CTL => 188
  | .BENCH_SCHED_LIST => 189
  | .BENCH_SCHED_QUANT => 190
  | .BENCH_BND_MODE => 192
  | .BENCH_BND_CTL => 193
  | .BENCH_USER_CONST => 194
  | .BENCH_USER_STAT => 194
  | .BENCH_CLKSRC => 191
  | .BENCH_PLANE_TIME_LO => 195
  | .BENCH_PLANE_TIME_HI => 195
  | .BENCH_SURGE_CTL => 196
  | .CTX_CMD => 216
  | .CTX_STAT => 217
  | .CTX_CE_CNT => 219
  | .CTX_EVT => 220
  | .CTX_EVT_EN => 220
  | .CTX_HOME => 218
  | .CTX_SLOT_SEL => 221
  | .CTX_REFRESH => 225
  | .CTX_PATROL => 226
  | .CTX_SCRUB_STAT => 408
  | .CTX_SCRUB_MASK => 409
  | .CTX_SCRUB_CNT => 410
  | .CTX_SCRUB_LOG_0 => 411
  | .CTX_SCRUB_LOG_1 => 411
  | .CTX_SLOT_STAT => 222
  | .CTX_SLOT_OWNER => 223
  | .CTX_SLOT_CTL => 224
  | .MEY_LOAD_CTL => 249
  | .MEY_LOAD_SRC_LO => 250
  | .MEY_LOAD_SRC_HI => 250
  | .MEY_LOAD_LEN => 251
  | .MEY_LOAD_TMO => 252
  | .MEY_LOAD_STAT => 253
  | .MEY_LOAD_PROG => 254
  | .MEY_LOAD_FAULT => 255
  | .MEY_LOAD_EVT => 256
  | .MEY_LOAD_EVT_EN => 256
  | .MEY_LOAD_TGT => 257
  | .BENCH_ASSIGN => 262
  | .BENCH_GANG_STAT => 266
  | .BENCH_GANG_CMD => 266
  | .BENCH_MFENCE => 270
  | .BENCH_HWIN_LO => 274
  | .BENCH_HWIN_HI => 274
  | .BENCH_LANE_TX_LO => 277
  | .BENCH_LANE_TX_HI => 277
  | .BENCH_LANE_RX_LO => 277
  | .BENCH_LANE_RX_HI => 277
  | .BENCH_FENCE_STAT => 277
  | .BENCH_PCAP => 287
  | .BENCH_PCAP_STAT => 287
  | .BENCH_WB_CTL => 280
  | .BENCH_WB_HELD => 280
  | .BENCH_TALLY_LO => 284
  | .BENCH_TALLY_HI => 284
  | .BENCH_TALLY_IDLE_LO => 284
  | .BENCH_TALLY_IDLE_HI => 284
  | .BENCH_TALLY_PLANE_LO => 284
  | .BENCH_TALLY_PLANE_HI => 284
  | .BENCH_RING_BASE_LO => 295
  | .PF_RING_BASE_LO => 295
  | .BENCH_RING_BASE_HI => 295
  | .PF_RING_BASE_HI => 295
  | .BENCH_RING_CTL => 295
  | .PF_RING_CTL => 295
  | .BENCH_RING_HEAD => 295
  | .PF_RING_HEAD => 295
  | .BENCH_RING_TAIL => 295
  | .PF_RING_TAIL => 295
  | .HN_RT_SEL => 333
  | .HN_RT_ENT => 334
  | .HN_RTR_CTL => 335
  | .HN_RTR_STAT => 336
  | .HN_RTR_ECC => 337
  | .HN_RTR_EPOCH => 362
  | .HN_FENCE => 363
  | .HN_DARK => 363
  | .HN_LINK_SPARE => 394
  | .HN_PRB_SEL => 367
  | .HN_PRB_AVAL_LO => 367
  | .HN_PRB_AVAL_HI => 367
  | .HN_PRB_AMSK_LO => 367
  | .HN_PRB_AMSK_HI => 367
  | .HN_PRB_SRC => 367
  | .HN_PRB_TAG => 367
  | .HN_PRB_EVT => 367
  | .HN_PRB_CNT => 367
  | .HN_DDR_ILV => 338
  | .HN_EPOCH_CTL => 364
  | .HN_EPOCH_STAT => 364
  | .HN_TMO => 365
  | .HN_LATE_RSP => 366
  | .HN_TOCNT => 366
  | .HN_TRC_CTL => 368
  | .HN_TRC_STAT => 368
  | .BENCH_HPORT_CFG => 339
  | .BENCH_HPORT_STAT => 340
  | .BENCH_HPORT_ERR => 341
  | .BENCH_HPORT_DROP => 341
  | .BENCH_HPORT_TMO => 365
  | .BENCH_HPORT_TOCNT => 366
  | .BENCH_SHIFT => 391
  | .BENCH_REPAIR_STAT => 392
  | .CTX_SCRUB_BENCH => 412
  | .PCIE_LINK_STAT => 430
  | .PCIE_ERR => 431
  | .PCIE_DMA_BASE_LO => 432
  | .PCIE_DMA_BASE_HI => 432
  | .PCIE_DMA_CTL => 433
  | .PCIE_DMA_PROD => 434
  | .PCIE_DMA_CONS => 434
  | .PCIE_VF_MAP_LO => 435
  | .PCIE_VF_MAP_HI => 435
  | .PCIE_DEV_CTL => 436
  | .PCIE_VF_APER => 437
  | .LANE_CTL => 460
  | .LANE_STAT => 461
  | .LANE_LINKID => 462
  | .LANE_USER => 462
  | .LANE_PEER_ID => 462
  | .LANE_PEER_USER => 462
  | .LANE_TX => 463
  | .LANE_PRBS => 464
  | .LANE_PRBS_ERR => 464
  | .LANE_PRBS_BITS => 464
  | .LANE_SQ => 465
  | .LANE_DROP => 465
  | .ETH_OCT_CFG => 459
  | .ETH_OCT_STAT => 459
  | .ETH_PORT_CFG => 466
  | .ETH_PORT_STAT => 466
  | .ETH_RX_FRAMES => 466
  | .ETH_RX_ERR => 466
  | .ETH_TX_FRAMES => 466
  | .ETH_TX_ERR => 466
  | .ETH_FEC_CORR => 466
  | .ETH_FEC_UNCORR => 466
  | .ETH_TXTS_ID => 466
  | .ETH_TXTS_LO => 466
  | .ETH_TXTS_HI => 466
  | .CLK_OSC_STAT => 484
  | .CLK_RAMP_CTL => 485
  | .CLK_MON => 486
  | .CLK_FAB => 487
  | .CLK_OUT => 488
  | .PWR_RAIL_STAT => 505
  | .PWR_DOM => 506
  | .PWR_RST_CTL => 636
  | .PWR_RST_STAT => 637
  | .PWR_BOOT_STAT => 638
  | .THM_SITE => 530
  | .THM_SITE_CAL => 531
  | .THM_LIMITS => 532
  | .THM_SHDN_MODE => 533
  | .THM_PRIV_CTL => 534
  | .THM_STAT => 535
  | .THM_COL => 536
  | .THM_BENCH => 537
  | .THM_BENCH_REF => 537
  | .TEL_RAIL => 538
  | .TEL_PWR => 539
  | .TEL_MEM_E_LO => 540
  | .TEL_MEM_E_HI => 540
  | .TEL_CFG_E_LO => 540
  | .TEL_CFG_E_HI => 540
  | .MBX_CMD_DOOR => 570
  | .MBX_RSP_DOOR => 570
  | .MBX_STATUS => 571
  | .MBX_CTL => 572
  | .MBX_FW_STAT => 573
  | .MBX_FW_CTL => 573
  | .HLU_ABS => 574
  | .HLU_BOARD => 574
  | .HLU_FW => 574
  | .HLU_EFF => 574
  | .HLU_CTL => 575
  | .HLU_REFUSE => 575
  | .WPL_STAT => 620
  | .WPL_CTL => 621
  | .WPL_DROP => 622
  | .WPL_REC_TIME_LO => 623
  | .WPL_REC_TIME_HI => 623
  | .WPL_REC_INFO => 623
  | .WPL_REC_ENTRIES => 623
  | .DDR_CH_CFG => 654
  | .DDR_CH_STAT => 654
  | .DDR_ECC => 655
  | .DBG_STRAP => 656
  | .DBG_GPIO_IN => 656
  | .DBG_GPIO_OUT => 656
  | .DBG_GPIO_OE => 656
  | .DBG_TMUX_STAT => 656

/-- Offset in the PF BAR0 of instance 0 and the (stride, count) of each index (R672, R673 and the chapters).
`MBX_` registers are the PF mailbox's; `PCIE_VF_APER` lies in a VF BAR0 and has no place here. -/
def regPlace : Reg → Nat × List (Nat × Nat)
  | .CAL_BORE_SEL => (0x1110000, [])
  | .CAL_BORE_TRIM => (0x1110004, [])
  | .CAL_BORE_STAT => (0x1110008, [])
  | .CAL_BORE_SPARE => (0x111000c, [])
  | .CAL_BORE_CTL => (0x1110040, [(0x100, 4)])
  | .CAL_BORE_LIMIT => (0x1110044, [(0x100, 4)])
  | .CAL_REPAIR_CNT => (0x1110048, [(0x100, 4)])
  | .BENCH_DLYMON_SEL => (0x400, [(0x10000, 64)])
  | .BENCH_DLYMON_VAL => (0x404, [(0x10000, 64)])
  | .BENCH_DLYMON_WORST => (0x408, [(0x10000, 64)])
  | .BENCH_DLYMON_CTL => (0x40c, [(0x10000, 64)])
  | .MEMT_SEL => (0x1111000, [])
  | .MEMT_FLIP_0 => (0x1111010, [])
  | .MEMT_FLIP_1 => (0x1111014, [])
  | .MEMT_FLIP_2 => (0x1111018, [])
  | .MEMT_REMAP_IDX => (0x111101c, [])
  | .MEMT_PATROL_CTL => (0x1111040, [])
  | .MEMT_BLK_STAT => (0x1111004, [])
  | .MEMT_REMAP_VAL => (0x1111020, [])
  | .MEMT_INV => (0x1111030, [])
  | .MEMT_ARB => (0x1111034, [])
  | .MEMT_PATROL_STAT => (0x1111044, [])
  | .MEMT_ECC_CNT => (0x1111050, [])
  | .MEMT_FENCE_CNT => (0x1111054, [])
  | .MEMT_EVT => (0x1111058, [])
  | .MEMT_EVT_EN => (0x111105c, [])
  | .MEMT_ERR_LOG_0 => (0x1111060, [])
  | .MEMT_ERR_LOG_1 => (0x1111064, [])
  | .HOP_CFG => (0x1000, [(0x10000, 64), (0x40, 32)])
  | .HOP_CTL => (0x1004, [(0x10000, 64), (0x40, 32)])
  | .HOP_STAT => (0x1008, [(0x10000, 64), (0x40, 32)])
  | .HOP_COUNT => (0x100c, [(0x10000, 64), (0x40, 32)])
  | .HOP_LEVEL => (0x1010, [(0x10000, 64), (0x40, 32)])
  | .HOP_TAIL => (0x1014, [(0x10000, 64), (0x40, 32)])
  | .HOP_IDLE_0 => (0x1018, [(0x10000, 64), (0x40, 32)])
  | .HOP_IDLE_1 => (0x101c, [(0x10000, 64), (0x40, 32)])
  | .HOP_IDLE_2 => (0x1020, [(0x10000, 64), (0x40, 32)])
  | .HOP_OWNER => (0x1024, [(0x10000, 64), (0x40, 32)])
  | .HOP_ERRCNT => (0x1028, [(0x10000, 64), (0x40, 32)])
  | .HOP_EVT => (0x102c, [(0x10000, 64), (0x40, 32)])
  | .HOP_EVT_EN => (0x1030, [(0x10000, 64), (0x40, 32)])
  | .BENCH_PLANE_SEL => (0x100, [(0x10000, 64)])
  | .BENCH_PLANE_STAT => (0x104, [(0x10000, 64)])
  | .BENCH_PLANE_STATE => (0x108, [(0x10000, 64)])
  | .BENCH_PLANE_CNT => (0x10c, [(0x10000, 64)])
  | .BENCH_PLANE_ERRCNT => (0x110, [(0x10000, 64)])
  | .BENCH_PLANE_EVT => (0x114, [(0x10000, 64)])
  | .BENCH_PLANE_EVT_EN => (0x118, [(0x10000, 64)])
  | .BENCH_SCHED_CTL => (0x120, [(0x10000, 64)])
  | .BENCH_SCHED_LIST => (0x124, [(0x10000, 64)])
  | .BENCH_SCHED_QUANT => (0x128, [(0x10000, 64)])
  | .BENCH_BND_MODE => (0x180, [(0x10000, 64)])
  | .BENCH_BND_CTL => (0x184, [(0x10000, 64)])
  | .BENCH_USER_CONST => (0x188, [(0x10000, 64)])
  | .BENCH_USER_STAT => (0x18c, [(0x10000, 64)])
  | .BENCH_CLKSRC => (0x140, [(0x10000, 64), (0x4, 8)])
  | .BENCH_PLANE_TIME_LO => (0x1c0, [(0x10000, 64), (0x8, 8)])
  | .BENCH_PLANE_TIME_HI => (0x1c4, [(0x10000, 64), (0x8, 8)])
  | .BENCH_SURGE_CTL => (0x1113000, [(0x4, 4)])
  | .CTX_CMD => (0x200, [(0x10000, 64)])
  | .CTX_STAT => (0x204, [(0x10000, 64)])
  | .CTX_CE_CNT => (0x230, [(0x10000, 64)])
  | .CTX_EVT => (0x234, [(0x10000, 64)])
  | .CTX_EVT_EN => (0x238, [(0x10000, 64)])
  | .CTX_HOME => (0x210, [(0x10000, 64), (0x4, 8)])
  | .CTX_SLOT_SEL => (0x1112000, [(0x100, 4)])
  | .CTX_REFRESH => (0x1112010, [(0x100, 4)])
  | .CTX_PATROL => (0x1112014, [(0x100, 4)])
  | .CTX_SCRUB_STAT => (0x1112040, [(0x100, 4)])
  | .CTX_SCRUB_MASK => (0x1112044, [(0x100, 4)])
  | .CTX_SCRUB_CNT => (0x1112048, [(0x100, 4)])
  | .CTX_SCRUB_LOG_0 => (0x111204c, [(0x100, 4)])
  | .CTX_SCRUB_LOG_1 => (0x1112050, [(0x100, 4)])
  | .CTX_SLOT_STAT => (0x1112004, [(0x100, 4)])
  | .CTX_SLOT_OWNER => (0x1112008, [(0x100, 4)])
  | .CTX_SLOT_CTL => (0x111200c, [(0x100, 4)])
  | .MEY_LOAD_CTL => (0x1116000, [(0x1000, 4)])
  | .MEY_LOAD_SRC_LO => (0x1116004, [(0x1000, 4)])
  | .MEY_LOAD_SRC_HI => (0x1116008, [(0x1000, 4)])
  | .MEY_LOAD_LEN => (0x111600c, [(0x1000, 4)])
  | .MEY_LOAD_TMO => (0x1116010, [(0x1000, 4)])
  | .MEY_LOAD_STAT => (0x1116014, [(0x1000, 4)])
  | .MEY_LOAD_PROG => (0x1116018, [(0x1000, 4)])
  | .MEY_LOAD_FAULT => (0x111601c, [(0x1000, 4)])
  | .MEY_LOAD_EVT => (0x1116020, [(0x1000, 4)])
  | .MEY_LOAD_EVT_EN => (0x1116024, [(0x1000, 4)])
  | .MEY_LOAD_TGT => (0x1116100, [(0x1000, 4), (0x4, 64)])
  | .BENCH_ASSIGN => (0x500, [(0x10000, 64)])
  | .BENCH_GANG_STAT => (0x504, [(0x10000, 64)])
  | .BENCH_GANG_CMD => (0x1114000, [(0x4, 4)])
  | .BENCH_MFENCE => (0x600, [(0x10000, 64), (0x10, 8), (0x4, 4)])
  | .BENCH_HWIN_LO => (0x680, [(0x10000, 64), (0x8, 16)])
  | .BENCH_HWIN_HI => (0x684, [(0x10000, 64), (0x8, 16)])
  | .BENCH_LANE_TX_LO => (0x700, [(0x10000, 64)])
  | .BENCH_LANE_TX_HI => (0x704, [(0x10000, 64)])
  | .BENCH_LANE_RX_LO => (0x708, [(0x10000, 64)])
  | .BENCH_LANE_RX_HI => (0x70c, [(0x10000, 64)])
  | .BENCH_FENCE_STAT => (0x710, [(0x10000, 64)])
  | .BENCH_PCAP => (0x780, [(0x10000, 64)])
  | .BENCH_PCAP_STAT => (0x784, [(0x10000, 64)])
  | .BENCH_WB_CTL => (0x740, [(0x10000, 64), (0x10, 2), (0x4, 3)])
  | .BENCH_WB_HELD => (0x760, [(0x10000, 64), (0x4, 2)])
  | .BENCH_TALLY_LO => (0x800, [(0x10000, 64)])
  | .BENCH_TALLY_HI => (0x804, [(0x10000, 64)])
  | .BENCH_TALLY_IDLE_LO => (0x808, [(0x10000, 64)])
  | .BENCH_TALLY_IDLE_HI => (0x80c, [(0x10000, 64)])
  | .BENCH_TALLY_PLANE_LO => (0x810, [(0x10000, 64), (0x8, 8)])
  | .BENCH_TALLY_PLANE_HI => (0x814, [(0x10000, 64), (0x8, 8)])
  | .BENCH_RING_BASE_LO => (0x900, [(0x10000, 64)])
  | .PF_RING_BASE_LO => (0x1115000, [])
  | .BENCH_RING_BASE_HI => (0x904, [(0x10000, 64)])
  | .PF_RING_BASE_HI => (0x1115004, [])
  | .BENCH_RING_CTL => (0x908, [(0x10000, 64)])
  | .PF_RING_CTL => (0x1115008, [])
  | .BENCH_RING_HEAD => (0x90c, [(0x10000, 64)])
  | .PF_RING_HEAD => (0x111500c, [])
  | .BENCH_RING_TAIL => (0x910, [(0x10000, 64)])
  | .PF_RING_TAIL => (0x1115010, [])
  | .HN_RT_SEL => (0x1000000, [(0x1000, 80)])
  | .HN_RT_ENT => (0x1000004, [(0x1000, 80)])
  | .HN_RTR_CTL => (0x1000010, [(0x1000, 80)])
  | .HN_RTR_STAT => (0x1000014, [(0x1000, 80)])
  | .HN_RTR_ECC => (0x1000018, [(0x1000, 80)])
  | .HN_RTR_EPOCH => (0x100001c, [(0x1000, 80)])
  | .HN_FENCE => (0x1000030, [(0x1000, 80)])
  | .HN_DARK => (0x1000034, [(0x1000, 80)])
  | .HN_LINK_SPARE => (0x1000040, [(0x1000, 80)])
  | .HN_PRB_SEL => (0x1000100, [(0x1000, 80)])
  | .HN_PRB_AVAL_LO => (0x1000104, [(0x1000, 80)])
  | .HN_PRB_AVAL_HI => (0x1000108, [(0x1000, 80)])
  | .HN_PRB_AMSK_LO => (0x100010c, [(0x1000, 80)])
  | .HN_PRB_AMSK_HI => (0x1000110, [(0x1000, 80)])
  | .HN_PRB_SRC => (0x1000114, [(0x1000, 80)])
  | .HN_PRB_TAG => (0x1000118, [(0x1000, 80)])
  | .HN_PRB_EVT => (0x100011c, [(0x1000, 80)])
  | .HN_PRB_CNT => (0x1000120, [(0x1000, 80), (0x4, 4)])
  | .HN_DDR_ILV => (0x1050000, [])
  | .HN_EPOCH_CTL => (0x1050004, [])
  | .HN_EPOCH_STAT => (0x1050008, [])
  | .HN_TMO => (0x1050010, [(0x4, 4)])
  | .HN_LATE_RSP => (0x1050020, [(0x4, 4)])
  | .HN_TOCNT => (0x1050030, [(0x4, 4)])
  | .HN_TRC_CTL => (0x1050100, [(0x10, 4)])
  | .HN_TRC_STAT => (0x1050104, [(0x10, 4)])
  | .BENCH_HPORT_CFG => (0xa00, [(0x10000, 64), (0x20, 2)])
  | .BENCH_HPORT_STAT => (0xa04, [(0x10000, 64), (0x20, 2)])
  | .BENCH_HPORT_ERR => (0xa08, [(0x10000, 64), (0x20, 2)])
  | .BENCH_HPORT_DROP => (0xa0c, [(0x10000, 64), (0x20, 2)])
  | .BENCH_HPORT_TMO => (0xa10, [(0x10000, 64), (0x20, 2)])
  | .BENCH_HPORT_TOCNT => (0xa14, [(0x10000, 64), (0x20, 2)])
  | .BENCH_SHIFT => (0x480, [(0x10000, 64)])
  | .BENCH_REPAIR_STAT => (0x484, [(0x10000, 64)])
  | .CTX_SCRUB_BENCH => (0x240, [(0x10000, 64)])
  | .PCIE_LINK_STAT => (0x600000, [(0x1000, 2)])
  | .PCIE_ERR => (0x600004, [(0x1000, 2)])
  | .PCIE_DMA_BASE_LO => (0x600010, [(0x1000, 2)])
  | .PCIE_DMA_BASE_HI => (0x600014, [(0x1000, 2)])
  | .PCIE_DMA_CTL => (0x600018, [(0x1000, 2)])
  | .PCIE_DMA_PROD => (0x60001c, [(0x1000, 2)])
  | .PCIE_DMA_CONS => (0x600020, [(0x1000, 2)])
  | .PCIE_VF_MAP_LO => (0x602000, [])
  | .PCIE_VF_MAP_HI => (0x602004, [])
  | .PCIE_DEV_CTL => (0x602008, [])
  | .PCIE_VF_APER => (0x11000, [(0x0, 64)])
  | .LANE_CTL => (0x1100000, [(0x100, 64)])
  | .LANE_STAT => (0x1100004, [(0x100, 64)])
  | .LANE_LINKID => (0x1100008, [(0x100, 64)])
  | .LANE_USER => (0x110000c, [(0x100, 64)])
  | .LANE_PEER_ID => (0x1100010, [(0x100, 64)])
  | .LANE_PEER_USER => (0x1100014, [(0x100, 64)])
  | .LANE_TX => (0x1100020, [(0x100, 64)])
  | .LANE_PRBS => (0x1100024, [(0x100, 64)])
  | .LANE_PRBS_ERR => (0x1100028, [(0x100, 64)])
  | .LANE_PRBS_BITS => (0x110002c, [(0x100, 64)])
  | .LANE_SQ => (0x1100030, [(0x100, 64)])
  | .LANE_DROP => (0x1100034, [(0x100, 64)])
  | .ETH_OCT_CFG => (0x1108000, [(0x40, 8)])
  | .ETH_OCT_STAT => (0x1108004, [(0x40, 8)])
  | .ETH_PORT_CFG => (0x110a000, [(0x40, 64)])
  | .ETH_PORT_STAT => (0x110a004, [(0x40, 64)])
  | .ETH_RX_FRAMES => (0x110a010, [(0x40, 64)])
  | .ETH_RX_ERR => (0x110a014, [(0x40, 64)])
  | .ETH_TX_FRAMES => (0x110a018, [(0x40, 64)])
  | .ETH_TX_ERR => (0x110a01c, [(0x40, 64)])
  | .ETH_FEC_CORR => (0x110a020, [(0x40, 64)])
  | .ETH_FEC_UNCORR => (0x110a024, [(0x40, 64)])
  | .ETH_TXTS_ID => (0x110a028, [(0x40, 64)])
  | .ETH_TXTS_LO => (0x110a02c, [(0x40, 64)])
  | .ETH_TXTS_HI => (0x110a030, [(0x40, 64)])
  | .CLK_OSC_STAT => (0x111a000, [])
  | .CLK_RAMP_CTL => (0x111a004, [])
  | .CLK_MON => (0x111a100, [(0x4, 54)])
  | .CLK_FAB => (0x111a300, [(0x4, 32)])
  | .CLK_OUT => (0x111a400, [(0x4, 2)])
  | .PWR_RAIL_STAT => (0x111b000, [])
  | .PWR_DOM => (0x111b100, [(0x4, 97)])
  | .PWR_RST_CTL => (0x111b010, [])
  | .PWR_RST_STAT => (0x111b014, [])
  | .PWR_BOOT_STAT => (0x111b018, [])
  | .THM_SITE => (0x111c000, [(0x4, 96)])
  | .THM_SITE_CAL => (0x111c200, [(0x4, 96)])
  | .THM_LIMITS => (0x111c400, [])
  | .THM_SHDN_MODE => (0x111c404, [])
  | .THM_PRIV_CTL => (0x111c408, [])
  | .THM_STAT => (0x111c40c, [])
  | .THM_COL => (0x111c440, [(0x4, 4)])
  | .THM_BENCH => (0x111c500, [(0x8, 64)])
  | .THM_BENCH_REF => (0x111c504, [(0x8, 64)])
  | .TEL_RAIL => (0x111c800, [(0x4, 9)])
  | .TEL_PWR => (0x111c840, [])
  | .TEL_MEM_E_LO => (0x111c880, [(0x10, 4)])
  | .TEL_MEM_E_HI => (0x111c884, [(0x10, 4)])
  | .TEL_CFG_E_LO => (0x111c888, [(0x10, 4)])
  | .TEL_CFG_E_HI => (0x111c88c, [(0x10, 4)])
  | .MBX_CMD_DOOR => (0x402000, [])
  | .MBX_RSP_DOOR => (0x402004, [])
  | .MBX_STATUS => (0x402008, [])
  | .MBX_CTL => (0x40200c, [])
  | .MBX_FW_STAT => (0x402010, [])
  | .MBX_FW_CTL => (0x402014, [])
  | .HLU_ABS => (0x111d100, [(0x10, 20)])
  | .HLU_BOARD => (0x111d104, [(0x10, 20)])
  | .HLU_FW => (0x111d108, [(0x10, 20)])
  | .HLU_EFF => (0x111d10c, [(0x10, 20)])
  | .HLU_CTL => (0x111d000, [])
  | .HLU_REFUSE => (0x111d004, [])
  | .WPL_STAT => (0x500000, [])
  | .WPL_CTL => (0x500004, [])
  | .WPL_DROP => (0x500008, [])
  | .WPL_REC_TIME_LO => (0x500100, [(0x10, 8)])
  | .WPL_REC_TIME_HI => (0x500104, [(0x10, 8)])
  | .WPL_REC_INFO => (0x500108, [(0x10, 8)])
  | .WPL_REC_ENTRIES => (0x50010c, [(0x10, 8)])
  | .DDR_CH_CFG => (0x111e000, [(0x100, 8)])
  | .DDR_CH_STAT => (0x111e004, [(0x100, 8)])
  | .DDR_ECC => (0x111e008, [(0x100, 8)])
  | .DBG_STRAP => (0x111f000, [])
  | .DBG_GPIO_IN => (0x111f004, [])
  | .DBG_GPIO_OUT => (0x111f008, [])
  | .DBG_GPIO_OE => (0x111f00c, [])
  | .DBG_TMUX_STAT => (0x111f010, [])

/-- What VF b's BAR0 may do to a register of bench b's control block. -/
inductive VfAccess where
  | none   -- not in the bench control block
  | read   -- behaves as RO
  | write  -- as through the PF window
  deriving DecidableEq, Repr

/-- How a register behaves through the VF BAR0 of its bench. -/
def vfAccess : Reg → VfAccess
  | .BENCH_DLYMON_SEL => .write
  | .BENCH_DLYMON_VAL => .write
  | .BENCH_DLYMON_WORST => .write
  | .BENCH_DLYMON_CTL => .write
  | .HOP_CFG => .read
  | .HOP_CTL => .write
  | .HOP_STAT => .write
  | .HOP_COUNT => .write
  | .HOP_LEVEL => .write
  | .HOP_TAIL => .write
  | .HOP_IDLE_0 => .write
  | .HOP_IDLE_1 => .write
  | .HOP_IDLE_2 => .write
  | .HOP_OWNER => .read
  | .HOP_ERRCNT => .write
  | .HOP_EVT => .write
  | .HOP_EVT_EN => .write
  | .BENCH_PLANE_SEL => .write
  | .BENCH_PLANE_STAT => .write
  | .BENCH_PLANE_STATE => .write
  | .BENCH_PLANE_CNT => .write
  | .BENCH_PLANE_ERRCNT => .write
  | .BENCH_PLANE_EVT => .write
  | .BENCH_PLANE_EVT_EN => .write
  | .BENCH_SCHED_CTL => .write
  | .BENCH_SCHED_LIST => .write
  | .BENCH_SCHED_QUANT => .write
  | .BENCH_BND_MODE => .read
  | .BENCH_BND_CTL => .read
  | .BENCH_USER_CONST => .read
  | .BENCH_USER_STAT => .write
  | .BENCH_CLKSRC => .read
  | .BENCH_PLANE_TIME_LO => .write
  | .BENCH_PLANE_TIME_HI => .write
  | .CTX_CMD => .write
  | .CTX_STAT => .write
  | .CTX_CE_CNT => .write
  | .CTX_EVT => .write
  | .CTX_EVT_EN => .write
  | .CTX_HOME => .write
  | .BENCH_ASSIGN => .read
  | .BENCH_GANG_STAT => .read
  | .BENCH_MFENCE => .read
  | .BENCH_HWIN_LO => .read
  | .BENCH_HWIN_HI => .read
  | .BENCH_LANE_TX_LO => .read
  | .BENCH_LANE_TX_HI => .read
  | .BENCH_LANE_RX_LO => .read
  | .BENCH_LANE_RX_HI => .read
  | .BENCH_FENCE_STAT => .read
  | .BENCH_PCAP => .read
  | .BENCH_PCAP_STAT => .read
  | .BENCH_WB_CTL => .read
  | .BENCH_WB_HELD => .read
  | .BENCH_TALLY_LO => .read
  | .BENCH_TALLY_HI => .read
  | .BENCH_TALLY_IDLE_LO => .read
  | .BENCH_TALLY_IDLE_HI => .read
  | .BENCH_TALLY_PLANE_LO => .read
  | .BENCH_TALLY_PLANE_HI => .read
  | .BENCH_RING_BASE_LO => .write
  | .BENCH_RING_BASE_HI => .write
  | .BENCH_RING_CTL => .write
  | .BENCH_RING_HEAD => .write
  | .BENCH_RING_TAIL => .write
  | .BENCH_HPORT_CFG => .read
  | .BENCH_HPORT_STAT => .write
  | .BENCH_HPORT_ERR => .write
  | .BENCH_HPORT_DROP => .write
  | .BENCH_HPORT_TMO => .write
  | .BENCH_HPORT_TOCNT => .write
  | .BENCH_SHIFT => .read
  | .BENCH_REPAIR_STAT => .read
  | .CTX_SCRUB_BENCH => .read
  | .MBX_CMD_DOOR => .write
  | .MBX_RSP_DOOR => .write
  | .MBX_STATUS => .write
  | .MBX_CTL => .write
  | _ => .none

/-- Which domain holds a register, before its instance is known. -/
inductive DomKind where
  | fixed (d : Nat) | bench (per : Nat) | benchCfg (per : Nat) | col (base per : Nat) | router (per : Nat)
  | port | lane | octet | ddr | mem | slot
  deriving DecidableEq, Repr

/-- The domain each register lies in, as its chapter states it. DESIGN CHOICE (log entry 67): no chapter states that of
BENCH_SURGE_CTL_c, which is taken to lie in PD_MGT. -/
def domKind : Reg → DomKind
  | .BENCH_DLYMON_SEL => .bench 1
  | .BENCH_DLYMON_VAL => .bench 1
  | .BENCH_DLYMON_WORST => .bench 1
  | .BENCH_DLYMON_CTL => .bench 1
  | .MEMT_BLK_STAT => .mem
  | .MEMT_REMAP_VAL => .mem
  | .MEMT_INV => .mem
  | .MEMT_ARB => .mem
  | .MEMT_PATROL_STAT => .mem
  | .MEMT_ECC_CNT => .mem
  | .MEMT_FENCE_CNT => .mem
  | .MEMT_EVT => .mem
  | .MEMT_EVT_EN => .mem
  | .MEMT_ERR_LOG_0 => .mem
  | .MEMT_ERR_LOG_1 => .mem
  | .HOP_CFG => .bench 32
  | .HOP_CTL => .bench 32
  | .HOP_STAT => .bench 32
  | .HOP_COUNT => .bench 32
  | .HOP_LEVEL => .bench 32
  | .HOP_TAIL => .bench 32
  | .HOP_IDLE_0 => .bench 32
  | .HOP_IDLE_1 => .bench 32
  | .HOP_IDLE_2 => .bench 32
  | .HOP_OWNER => .bench 32
  | .HOP_ERRCNT => .bench 32
  | .HOP_EVT => .bench 32
  | .HOP_EVT_EN => .bench 32
  | .BENCH_PLANE_SEL => .bench 1
  | .BENCH_PLANE_STAT => .bench 1
  | .BENCH_PLANE_STATE => .benchCfg 1
  | .BENCH_PLANE_CNT => .bench 1
  | .BENCH_PLANE_ERRCNT => .bench 1
  | .BENCH_PLANE_EVT => .bench 1
  | .BENCH_PLANE_EVT_EN => .bench 1
  | .BENCH_SCHED_CTL => .bench 1
  | .BENCH_SCHED_LIST => .bench 1
  | .BENCH_SCHED_QUANT => .bench 1
  | .BENCH_BND_MODE => .bench 1
  | .BENCH_BND_CTL => .bench 1
  | .BENCH_USER_CONST => .bench 1
  | .BENCH_USER_STAT => .bench 1
  | .BENCH_CLKSRC => .bench 8
  | .BENCH_PLANE_TIME_LO => .bench 8
  | .BENCH_PLANE_TIME_HI => .bench 8
  | .CTX_CMD => .bench 1
  | .CTX_STAT => .bench 1
  | .CTX_CE_CNT => .bench 1
  | .CTX_EVT => .bench 1
  | .CTX_EVT_EN => .bench 1
  | .CTX_HOME => .benchCfg 8
  | .CTX_SLOT_SEL => .col 29 1
  | .CTX_REFRESH => .col 29 1
  | .CTX_PATROL => .col 29 1
  | .CTX_SCRUB_STAT => .col 29 1
  | .CTX_SCRUB_MASK => .col 29 1
  | .CTX_SCRUB_CNT => .col 29 1
  | .CTX_SCRUB_LOG_0 => .col 29 1
  | .CTX_SCRUB_LOG_1 => .col 29 1
  | .CTX_SLOT_STAT => .slot
  | .CTX_SLOT_OWNER => .slot
  | .CTX_SLOT_CTL => .slot
  | .BENCH_MFENCE => .bench 32
  | .BENCH_HWIN_LO => .bench 16
  | .BENCH_HWIN_HI => .bench 16
  | .BENCH_LANE_TX_LO => .bench 1
  | .BENCH_LANE_TX_HI => .bench 1
  | .BENCH_LANE_RX_LO => .bench 1
  | .BENCH_LANE_RX_HI => .bench 1
  | .BENCH_FENCE_STAT => .bench 1
  | .BENCH_PCAP => .bench 1
  | .BENCH_PCAP_STAT => .bench 1
  | .BENCH_WB_CTL => .bench 6
  | .BENCH_WB_HELD => .bench 2
  | .BENCH_TALLY_LO => .fixed 4
  | .BENCH_TALLY_HI => .fixed 4
  | .BENCH_TALLY_IDLE_LO => .fixed 4
  | .BENCH_TALLY_IDLE_HI => .fixed 4
  | .BENCH_TALLY_PLANE_LO => .fixed 4
  | .BENCH_TALLY_PLANE_HI => .fixed 4
  | .HN_RT_SEL => .router 1
  | .HN_RT_ENT => .router 1
  | .HN_RTR_CTL => .router 1
  | .HN_RTR_STAT => .router 1
  | .HN_RTR_ECC => .router 1
  | .HN_RTR_EPOCH => .router 1
  | .HN_FENCE => .router 1
  | .HN_DARK => .router 1
  | .HN_LINK_SPARE => .router 1
  | .HN_PRB_SEL => .router 1
  | .HN_PRB_AVAL_LO => .router 1
  | .HN_PRB_AVAL_HI => .router 1
  | .HN_PRB_AMSK_LO => .router 1
  | .HN_PRB_AMSK_HI => .router 1
  | .HN_PRB_SRC => .router 1
  | .HN_PRB_TAG => .router 1
  | .HN_PRB_EVT => .router 1
  | .HN_PRB_CNT => .router 4
  | .HN_TMO => .col 6 1
  | .HN_LATE_RSP => .col 6 1
  | .HN_TOCNT => .col 6 1
  | .HN_TRC_CTL => .col 6 1
  | .HN_TRC_STAT => .col 6 1
  | .BENCH_HPORT_CFG => .bench 2
  | .BENCH_HPORT_STAT => .bench 2
  | .BENCH_HPORT_ERR => .bench 2
  | .BENCH_HPORT_DROP => .bench 2
  | .BENCH_HPORT_TMO => .bench 2
  | .BENCH_HPORT_TOCNT => .bench 2
  | .BENCH_SHIFT => .benchCfg 1
  | .BENCH_REPAIR_STAT => .benchCfg 1
  | .CTX_SCRUB_BENCH => .bench 1
  | .PCIE_LINK_STAT => .port
  | .PCIE_ERR => .port
  | .PCIE_DMA_BASE_LO => .port
  | .PCIE_DMA_BASE_HI => .port
  | .PCIE_DMA_CTL => .port
  | .PCIE_DMA_PROD => .port
  | .PCIE_DMA_CONS => .port
  | .LANE_CTL => .lane
  | .LANE_STAT => .lane
  | .LANE_LINKID => .lane
  | .LANE_USER => .lane
  | .LANE_PEER_ID => .lane
  | .LANE_PEER_USER => .lane
  | .LANE_TX => .lane
  | .LANE_PRBS => .lane
  | .LANE_PRBS_ERR => .lane
  | .LANE_PRBS_BITS => .lane
  | .LANE_SQ => .lane
  | .LANE_DROP => .lane
  | .ETH_OCT_CFG => .octet
  | .ETH_OCT_STAT => .octet
  | .ETH_PORT_CFG => .lane
  | .ETH_PORT_STAT => .lane
  | .ETH_RX_FRAMES => .lane
  | .ETH_RX_ERR => .lane
  | .ETH_TX_FRAMES => .lane
  | .ETH_TX_ERR => .lane
  | .ETH_FEC_CORR => .lane
  | .ETH_FEC_UNCORR => .lane
  | .ETH_TXTS_ID => .lane
  | .ETH_TXTS_LO => .lane
  | .ETH_TXTS_HI => .lane
  | .CLK_OSC_STAT => .fixed 0
  | .CLK_RAMP_CTL => .fixed 0
  | .CLK_MON => .fixed 0
  | .CLK_FAB => .fixed 3
  | .CLK_OUT => .fixed 3
  | .PWR_RAIL_STAT => .fixed 0
  | .PWR_DOM => .fixed 0
  | .PWR_RST_CTL => .fixed 0
  | .PWR_RST_STAT => .fixed 0
  | .PWR_BOOT_STAT => .fixed 0
  | .THM_SITE => .fixed 4
  | .THM_SITE_CAL => .fixed 4
  | .THM_LIMITS => .fixed 4
  | .THM_SHDN_MODE => .fixed 4
  | .THM_PRIV_CTL => .fixed 4
  | .THM_STAT => .fixed 4
  | .THM_COL => .fixed 4
  | .THM_BENCH => .fixed 4
  | .THM_BENCH_REF => .fixed 4
  | .TEL_RAIL => .fixed 4
  | .TEL_PWR => .fixed 4
  | .TEL_MEM_E_LO => .fixed 4
  | .TEL_MEM_E_HI => .fixed 4
  | .TEL_CFG_E_LO => .fixed 4
  | .TEL_CFG_E_HI => .fixed 4
  | .HLU_ABS => .fixed 0
  | .HLU_BOARD => .fixed 0
  | .HLU_FW => .fixed 0
  | .HLU_EFF => .fixed 0
  | .HLU_CTL => .fixed 0
  | .HLU_REFUSE => .fixed 0
  | .WPL_STAT => .fixed 0
  | .WPL_CTL => .fixed 0
  | .WPL_DROP => .fixed 0
  | .WPL_REC_TIME_LO => .fixed 0
  | .WPL_REC_TIME_HI => .fixed 0
  | .WPL_REC_INFO => .fixed 0
  | .WPL_REC_ENTRIES => .fixed 0
  | .DDR_CH_CFG => .ddr
  | .DDR_CH_STAT => .ddr
  | .DDR_ECC => .ddr
  | .DBG_STRAP => .fixed 5
  | .DBG_GPIO_IN => .fixed 5
  | .DBG_GPIO_OUT => .fixed 5
  | .DBG_GPIO_OE => .fixed 5
  | .DBG_TMUX_STAT => .fixed 5
  | _ => .fixed 1

end Sys2Proof.Machine
end

