-- ==== Sys2Proof/Machine/Fields.lean ====
section
/-!
DEFINITION. The fields of the registers, by the bit ranges of the chapters' register tables: `F.REG_FIELD`.
-/

namespace Sys2Proof.Machine

/-- A register field: bits [lo + w - 1 : lo] of `reg`. -/
structure Fld where
  reg : Reg
  lo  : Nat
  w   : Nat
  deriving DecidableEq, Repr

end Sys2Proof.Machine

namespace Sys2Proof.Machine.F

def CAL_BORE_SEL_GROUP_ID : Fld := ⟨.CAL_BORE_SEL, 0, 32⟩
def CAL_BORE_TRIM_EFFECTIVE : Fld := ⟨.CAL_BORE_TRIM, 24, 8⟩
def CAL_BORE_TRIM_BACKGROUND : Fld := ⟨.CAL_BORE_TRIM, 16, 8⟩
def CAL_BORE_TRIM_USER_OFS : Fld := ⟨.CAL_BORE_TRIM, 8, 8⟩
def CAL_BORE_TRIM_FACTORY : Fld := ⟨.CAL_BORE_TRIM, 0, 8⟩
def CAL_BORE_STAT_SEL_INVALID : Fld := ⟨.CAL_BORE_STAT, 31, 1⟩
def CAL_BORE_STAT_PAUSED : Fld := ⟨.CAL_BORE_STAT, 30, 1⟩
def CAL_BORE_STAT_FOLD : Fld := ⟨.CAL_BORE_STAT, 28, 2⟩
def CAL_BORE_STAT_CAL_HOLD : Fld := ⟨.CAL_BORE_STAT, 27, 1⟩
def CAL_BORE_STAT_ACQ_DONE : Fld := ⟨.CAL_BORE_STAT, 26, 1⟩
def CAL_BORE_STAT_CLAMPED : Fld := ⟨.CAL_BORE_STAT, 25, 1⟩
def CAL_BORE_STAT_TRANS_K : Fld := ⟨.CAL_BORE_STAT, 8, 8⟩
def CAL_BORE_STAT_CENTRE_ERR : Fld := ⟨.CAL_BORE_STAT, 0, 8⟩
def CAL_BORE_SPARE_SPARE3 : Fld := ⟨.CAL_BORE_SPARE, 24, 8⟩
def CAL_BORE_SPARE_SPARE2 : Fld := ⟨.CAL_BORE_SPARE, 16, 8⟩
def CAL_BORE_SPARE_SPARE1 : Fld := ⟨.CAL_BORE_SPARE, 8, 8⟩
def CAL_BORE_SPARE_SPARE0 : Fld := ⟨.CAL_BORE_SPARE, 0, 8⟩
def CAL_BORE_CTL_MIN_TRANS : Fld := ⟨.CAL_BORE_CTL, 8, 8⟩
def CAL_BORE_CTL_WINDOW : Fld := ⟨.CAL_BORE_CTL, 4, 4⟩
def CAL_BORE_CTL_CAL_EN : Fld := ⟨.CAL_BORE_CTL, 0, 1⟩
def CAL_BORE_LIMIT_CM_MAX : Fld := ⟨.CAL_BORE_LIMIT, 24, 8⟩
def CAL_BORE_LIMIT_CM_MIN : Fld := ⟨.CAL_BORE_LIMIT, 16, 8⟩
def CAL_BORE_LIMIT_LC_MAX : Fld := ⟨.CAL_BORE_LIMIT, 8, 4⟩
def CAL_BORE_LIMIT_FL_MAX : Fld := ⟨.CAL_BORE_LIMIT, 4, 4⟩
def CAL_REPAIR_CNT_TRANSIENT : Fld := ⟨.CAL_REPAIR_CNT, 24, 8⟩
def CAL_REPAIR_CNT_SWAPS : Fld := ⟨.CAL_REPAIR_CNT, 16, 8⟩
def CAL_REPAIR_CNT_FOLDS : Fld := ⟨.CAL_REPAIR_CNT, 8, 8⟩
def CAL_REPAIR_CNT_LOST : Fld := ⟨.CAL_REPAIR_CNT, 0, 8⟩
def BENCH_DLYMON_SEL_PHYS_SX : Fld := ⟨.BENCH_DLYMON_SEL, 0, 6⟩
def BENCH_DLYMON_VAL_STALE : Fld := ⟨.BENCH_DLYMON_VAL, 31, 1⟩
def BENCH_DLYMON_VAL_VALID : Fld := ⟨.BENCH_DLYMON_VAL, 30, 1⟩
def BENCH_DLYMON_VAL_DERATE : Fld := ⟨.BENCH_DLYMON_VAL, 16, 12⟩
def BENCH_DLYMON_VAL_REPLICA_PS : Fld := ⟨.BENCH_DLYMON_VAL, 0, 12⟩
def BENCH_DLYMON_WORST_VALID : Fld := ⟨.BENCH_DLYMON_WORST, 31, 1⟩
def BENCH_DLYMON_WORST_PHYS_SX : Fld := ⟨.BENCH_DLYMON_WORST, 24, 6⟩
def BENCH_DLYMON_WORST_DERATE : Fld := ⟨.BENCH_DLYMON_WORST, 12, 12⟩
def BENCH_DLYMON_WORST_REPLICA_PS : Fld := ⟨.BENCH_DLYMON_WORST, 0, 12⟩
def BENCH_DLYMON_CTL_ALARM_DERATE : Fld := ⟨.BENCH_DLYMON_CTL, 16, 12⟩
def BENCH_DLYMON_CTL_ALARM : Fld := ⟨.BENCH_DLYMON_CTL, 8, 1⟩
def BENCH_DLYMON_CTL_ALARM_EN : Fld := ⟨.BENCH_DLYMON_CTL, 0, 1⟩
def MEMT_SEL_BENCH : Fld := ⟨.MEMT_SEL, 16, 6⟩
def MEMT_SEL_BLOCK : Fld := ⟨.MEMT_SEL, 0, 11⟩
def MEMT_FLIP_0_MASK_LO : Fld := ⟨.MEMT_FLIP_0, 0, 32⟩
def MEMT_FLIP_1_MASK_MID : Fld := ⟨.MEMT_FLIP_1, 0, 32⟩
def MEMT_FLIP_2_PENDING : Fld := ⟨.MEMT_FLIP_2, 31, 1⟩
def MEMT_FLIP_2_ARM : Fld := ⟨.MEMT_FLIP_2, 8, 1⟩
def MEMT_FLIP_2_MASK_HI : Fld := ⟨.MEMT_FLIP_2, 0, 8⟩
def MEMT_REMAP_IDX_ENTRY : Fld := ⟨.MEMT_REMAP_IDX, 0, 3⟩
def MEMT_PATROL_CTL_PERIOD_S : Fld := ⟨.MEMT_PATROL_CTL, 12, 20⟩
def MEMT_PATROL_CTL_EN : Fld := ⟨.MEMT_PATROL_CTL, 0, 1⟩
def MEMT_BLK_STAT_SEL_INVALID : Fld := ⟨.MEMT_BLK_STAT, 31, 1⟩
def MEMT_BLK_STAT_RETIRED : Fld := ⟨.MEMT_BLK_STAT, 30, 1⟩
def MEMT_BLK_STAT_DEGRADED : Fld := ⟨.MEMT_BLK_STAT, 29, 1⟩
def MEMT_BLK_STAT_SPARE_USED : Fld := ⟨.MEMT_BLK_STAT, 28, 1⟩
def MEMT_BLK_STAT_INVALIDATING : Fld := ⟨.MEMT_BLK_STAT, 27, 1⟩
def MEMT_BLK_STAT_REMAP_USED : Fld := ⟨.MEMT_BLK_STAT, 20, 4⟩
def MEMT_BLK_STAT_MAPPED : Fld := ⟨.MEMT_BLK_STAT, 0, 11⟩
def MEMT_REMAP_VAL_USED : Fld := ⟨.MEMT_REMAP_VAL, 31, 1⟩
def MEMT_REMAP_VAL_POISON : Fld := ⟨.MEMT_REMAP_VAL, 30, 1⟩
def MEMT_REMAP_VAL_WORD : Fld := ⟨.MEMT_REMAP_VAL, 0, 13⟩
def MEMT_INV_START : Fld := ⟨.MEMT_INV, 31, 1⟩
def MEMT_INV_ACTIVE : Fld := ⟨.MEMT_INV, 30, 1⟩
def MEMT_INV_RANGE_ERR : Fld := ⟨.MEMT_INV, 29, 1⟩
def MEMT_INV_BUSY_ERR : Fld := ⟨.MEMT_INV, 28, 1⟩
def MEMT_INV_FIRST : Fld := ⟨.MEMT_INV, 14, 10⟩
def MEMT_INV_COUNT_M1 : Fld := ⟨.MEMT_INV, 0, 10⟩
def MEMT_ARB_SHARE : Fld := ⟨.MEMT_ARB, 0, 2⟩
def MEMT_PATROL_STAT_PASSES : Fld := ⟨.MEMT_PATROL_STAT, 16, 16⟩
def MEMT_PATROL_STAT_BLOCK : Fld := ⟨.MEMT_PATROL_STAT, 0, 10⟩
def MEMT_ECC_CNT_UE_CNT : Fld := ⟨.MEMT_ECC_CNT, 16, 16⟩
def MEMT_ECC_CNT_CE_CNT : Fld := ⟨.MEMT_ECC_CNT, 0, 16⟩
def MEMT_FENCE_CNT_COUNT : Fld := ⟨.MEMT_FENCE_CNT, 0, 32⟩
def MEMT_EVT_INV_DONE : Fld := ⟨.MEMT_EVT, 6, 1⟩
def MEMT_EVT_FENCE : Fld := ⟨.MEMT_EVT, 5, 1⟩
def MEMT_EVT_DEGRADED : Fld := ⟨.MEMT_EVT, 4, 1⟩
def MEMT_EVT_RETIRE : Fld := ⟨.MEMT_EVT, 3, 1⟩
def MEMT_EVT_REMAP : Fld := ⟨.MEMT_EVT, 2, 1⟩
def MEMT_EVT_UE : Fld := ⟨.MEMT_EVT, 1, 1⟩
def MEMT_EVT_CE : Fld := ⟨.MEMT_EVT, 0, 1⟩
def MEMT_EVT_EN_EN : Fld := ⟨.MEMT_EVT_EN, 0, 7⟩
def MEMT_ERR_LOG_0_VALID : Fld := ⟨.MEMT_ERR_LOG_0, 31, 1⟩
def MEMT_ERR_LOG_0_SRC : Fld := ⟨.MEMT_ERR_LOG_0, 29, 2⟩
def MEMT_ERR_LOG_0_BLOCK : Fld := ⟨.MEMT_ERR_LOG_0, 18, 11⟩
def MEMT_ERR_LOG_0_WORD : Fld := ⟨.MEMT_ERR_LOG_0, 0, 13⟩
def MEMT_ERR_LOG_1_P : Fld := ⟨.MEMT_ERR_LOG_1, 7, 1⟩
def MEMT_ERR_LOG_1_S : Fld := ⟨.MEMT_ERR_LOG_1, 0, 7⟩
def HOP_CFG_PAIR : Fld := ⟨.HOP_CFG, 31, 1⟩
def HOP_CFG_PKT : Fld := ⟨.HOP_CFG, 30, 1⟩
def HOP_CFG_WR_RAW : Fld := ⟨.HOP_CFG, 29, 1⟩
def HOP_CFG_RD_RAW : Fld := ⟨.HOP_CFG, 28, 1⟩
def HOP_CFG_WR_SRC : Fld := ⟨.HOP_CFG, 20, 3⟩
def HOP_CFG_RD_SRC : Fld := ⟨.HOP_CFG, 16, 3⟩
def HOP_CFG_LANE : Fld := ⟨.HOP_CFG, 10, 6⟩
def HOP_CFG_DEPTH : Fld := ⟨.HOP_CFG, 0, 4⟩
def HOP_CTL_FLUSH : Fld := ⟨.HOP_CTL, 0, 1⟩
def HOP_STAT_FULL : Fld := ⟨.HOP_STAT, 31, 1⟩
def HOP_STAT_EMPTY : Fld := ⟨.HOP_STAT, 30, 1⟩
def HOP_STAT_AFULL : Fld := ⟨.HOP_STAT, 29, 1⟩
def HOP_STAT_AEMPTY : Fld := ⟨.HOP_STAT, 28, 1⟩
def HOP_STAT_FLUSH_BUSY : Fld := ⟨.HOP_STAT, 27, 1⟩
def HOP_STAT_WR_IN_PKT : Fld := ⟨.HOP_STAT, 26, 1⟩
def HOP_STAT_RD_IN_PKT : Fld := ⟨.HOP_STAT, 25, 1⟩
def HOP_STAT_CFG_ERR : Fld := ⟨.HOP_STAT, 24, 1⟩
def HOP_COUNT_RCOUNT : Fld := ⟨.HOP_COUNT, 16, 13⟩
def HOP_COUNT_WCOUNT : Fld := ⟨.HOP_COUNT, 0, 13⟩
def HOP_LEVEL_AF_LEVEL : Fld := ⟨.HOP_LEVEL, 16, 13⟩
def HOP_LEVEL_AE_LEVEL : Fld := ⟨.HOP_LEVEL, 0, 13⟩
def HOP_TAIL_TAIL_EXP : Fld := ⟨.HOP_TAIL, 0, 5⟩
def HOP_IDLE_0_IDLE_LO : Fld := ⟨.HOP_IDLE_0, 0, 32⟩
def HOP_IDLE_1_IDLE_MID : Fld := ⟨.HOP_IDLE_1, 0, 32⟩
def HOP_IDLE_2_IDLE_HI : Fld := ⟨.HOP_IDLE_2, 0, 8⟩
def HOP_OWNER_OWN_VALID : Fld := ⟨.HOP_OWNER, 31, 1⟩
def HOP_OWNER_PLANE : Fld := ⟨.HOP_OWNER, 0, 3⟩
def HOP_ERRCNT_DROP_CNT : Fld := ⟨.HOP_ERRCNT, 16, 16⟩
def HOP_ERRCNT_CUT_CNT : Fld := ⟨.HOP_ERRCNT, 0, 16⟩
def HOP_EVT_FENCE : Fld := ⟨.HOP_EVT, 3, 1⟩
def HOP_EVT_OVF : Fld := ⟨.HOP_EVT, 2, 1⟩
def HOP_EVT_CUT : Fld := ⟨.HOP_EVT, 1, 1⟩
def HOP_EVT_TAIL : Fld := ⟨.HOP_EVT, 0, 1⟩
def HOP_EVT_EN_EN : Fld := ⟨.HOP_EVT_EN, 0, 4⟩
def BENCH_PLANE_SEL_PENDING : Fld := ⟨.BENCH_PLANE_SEL, 31, 1⟩
def BENCH_PLANE_SEL_CMD : Fld := ⟨.BENCH_PLANE_SEL, 8, 2⟩
def BENCH_PLANE_SEL_PLANE : Fld := ⟨.BENCH_PLANE_SEL, 0, 3⟩
def BENCH_PLANE_STAT_ONLINE : Fld := ⟨.BENCH_PLANE_STAT, 31, 1⟩
def BENCH_PLANE_STAT_DEFERRED : Fld := ⟨.BENCH_PLANE_STAT, 30, 1⟩
def BENCH_PLANE_STAT_GANG_MEMBER : Fld := ⟨.BENCH_PLANE_STAT, 29, 1⟩
def BENCH_PLANE_STAT_LAST_SRC : Fld := ⟨.BENCH_PLANE_STAT, 27, 2⟩
def BENCH_PLANE_STAT_ACTIVE : Fld := ⟨.BENCH_PLANE_STAT, 24, 3⟩
def BENCH_PLANE_STAT_LOST : Fld := ⟨.BENCH_PLANE_STAT, 23, 1⟩
def BENCH_PLANE_STAT_LOST_SRC : Fld := ⟨.BENCH_PLANE_STAT, 21, 2⟩
def BENCH_PLANE_STAT_LOST_PLANE : Fld := ⟨.BENCH_PLANE_STAT, 18, 3⟩
def BENCH_PLANE_STAT_REFUSED : Fld := ⟨.BENCH_PLANE_STAT, 17, 1⟩
def BENCH_PLANE_STAT_REF_SRC : Fld := ⟨.BENCH_PLANE_STAT, 15, 2⟩
def BENCH_PLANE_STAT_REF_PLANE : Fld := ⟨.BENCH_PLANE_STAT, 12, 3⟩
def BENCH_PLANE_STAT_REF_REASON : Fld := ⟨.BENCH_PLANE_STAT, 9, 3⟩
def BENCH_PLANE_STAT_CFG_ERR : Fld := ⟨.BENCH_PLANE_STAT, 8, 1⟩
def BENCH_PLANE_STATE_PLANE7 : Fld := ⟨.BENCH_PLANE_STATE, 28, 4⟩
def BENCH_PLANE_STATE_PLANE6 : Fld := ⟨.BENCH_PLANE_STATE, 24, 4⟩
def BENCH_PLANE_STATE_PLANE5 : Fld := ⟨.BENCH_PLANE_STATE, 20, 4⟩
def BENCH_PLANE_STATE_PLANE4 : Fld := ⟨.BENCH_PLANE_STATE, 16, 4⟩
def BENCH_PLANE_STATE_PLANE3 : Fld := ⟨.BENCH_PLANE_STATE, 12, 4⟩
def BENCH_PLANE_STATE_PLANE2 : Fld := ⟨.BENCH_PLANE_STATE, 8, 4⟩
def BENCH_PLANE_STATE_PLANE1 : Fld := ⟨.BENCH_PLANE_STATE, 4, 4⟩
def BENCH_PLANE_STATE_PLANE0 : Fld := ⟨.BENCH_PLANE_STATE, 0, 4⟩
def BENCH_PLANE_CNT_SWITCHES : Fld := ⟨.BENCH_PLANE_CNT, 0, 32⟩
def BENCH_PLANE_ERRCNT_DEFER_CNT : Fld := ⟨.BENCH_PLANE_ERRCNT, 16, 16⟩
def BENCH_PLANE_ERRCNT_LOST_CNT : Fld := ⟨.BENCH_PLANE_ERRCNT, 8, 8⟩
def BENCH_PLANE_ERRCNT_REFUSE_CNT : Fld := ⟨.BENCH_PLANE_ERRCNT, 0, 8⟩
def BENCH_PLANE_EVT_DONE : Fld := ⟨.BENCH_PLANE_EVT, 3, 1⟩
def BENCH_PLANE_EVT_REFUSE : Fld := ⟨.BENCH_PLANE_EVT, 2, 1⟩
def BENCH_PLANE_EVT_LOST : Fld := ⟨.BENCH_PLANE_EVT, 1, 1⟩
def BENCH_PLANE_EVT_DEFER : Fld := ⟨.BENCH_PLANE_EVT, 0, 1⟩
def BENCH_PLANE_EVT_EN_EN : Fld := ⟨.BENCH_PLANE_EVT_EN, 0, 4⟩
def BENCH_SCHED_CTL_EN : Fld := ⟨.BENCH_SCHED_CTL, 31, 1⟩
def BENCH_SCHED_CTL_IDX : Fld := ⟨.BENCH_SCHED_CTL, 24, 3⟩
def BENCH_SCHED_CTL_LEN_M1 : Fld := ⟨.BENCH_SCHED_CTL, 16, 3⟩
def BENCH_SCHED_LIST_LIST : Fld := ⟨.BENCH_SCHED_LIST, 0, 24⟩
def BENCH_SCHED_QUANT_QUANTUM_US : Fld := ⟨.BENCH_SCHED_QUANT, 0, 20⟩
def BENCH_BND_MODE_HOP_CONST : Fld := ⟨.BENCH_BND_MODE, 0, 32⟩
def BENCH_BND_CTL_STAT_CONST : Fld := ⟨.BENCH_BND_CTL, 0, 1⟩
def BENCH_USER_CONST_VALUE : Fld := ⟨.BENCH_USER_CONST, 0, 32⟩
def BENCH_USER_STAT_VALUE : Fld := ⟨.BENCH_USER_STAT, 0, 32⟩
def BENCH_CLKSRC_CLK3 : Fld := ⟨.BENCH_CLKSRC, 24, 8⟩
def BENCH_CLKSRC_CLK2 : Fld := ⟨.BENCH_CLKSRC, 16, 8⟩
def BENCH_CLKSRC_CLK1 : Fld := ⟨.BENCH_CLKSRC, 8, 8⟩
def BENCH_CLKSRC_CLK0 : Fld := ⟨.BENCH_CLKSRC, 0, 8⟩
def BENCH_PLANE_TIME_LO_TIME_LO : Fld := ⟨.BENCH_PLANE_TIME_LO, 0, 32⟩
def BENCH_PLANE_TIME_HI_TIME_HI : Fld := ⟨.BENCH_PLANE_TIME_HI, 0, 32⟩
def BENCH_SURGE_CTL_SURGE_ERR : Fld := ⟨.BENCH_SURGE_CTL, 8, 1⟩
def BENCH_SURGE_CTL_SURGE_MAX : Fld := ⟨.BENCH_SURGE_CTL, 0, 5⟩
def CTX_CMD_GO : Fld := ⟨.CTX_CMD, 31, 1⟩
def CTX_CMD_ABORT : Fld := ⟨.CTX_CMD, 30, 1⟩
def CTX_CMD_OP : Fld := ⟨.CTX_CMD, 28, 2⟩
def CTX_CMD_PLANE : Fld := ⟨.CTX_CMD, 24, 3⟩
def CTX_CMD_SLOT : Fld := ⟨.CTX_CMD, 0, 10⟩
def CTX_STAT_BUSY : Fld := ⟨.CTX_STAT, 31, 1⟩
def CTX_STAT_REJECT : Fld := ⟨.CTX_STAT, 30, 1⟩
def CTX_STAT_PHASE : Fld := ⟨.CTX_STAT, 28, 2⟩
def CTX_STAT_RESULT : Fld := ⟨.CTX_STAT, 24, 4⟩
def CTX_STAT_FRAMES : Fld := ⟨.CTX_STAT, 0, 16⟩
def CTX_CE_CNT_CE_CNT : Fld := ⟨.CTX_CE_CNT, 0, 32⟩
def CTX_EVT_ERR : Fld := ⟨.CTX_EVT, 1, 1⟩
def CTX_EVT_DONE : Fld := ⟨.CTX_EVT, 0, 1⟩
def CTX_EVT_EN_EN : Fld := ⟨.CTX_EVT_EN, 0, 2⟩
def CTX_HOME_VALID : Fld := ⟨.CTX_HOME, 31, 1⟩
def CTX_HOME_SLOT : Fld := ⟨.CTX_HOME, 0, 10⟩
def CTX_SLOT_SEL_SLOT : Fld := ⟨.CTX_SLOT_SEL, 0, 10⟩
def CTX_REFRESH_INTERVAL_US : Fld := ⟨.CTX_REFRESH, 8, 16⟩
def CTX_REFRESH_BAND : Fld := ⟨.CTX_REFRESH, 0, 3⟩
def CTX_PATROL_PERIOD_S : Fld := ⟨.CTX_PATROL, 12, 20⟩
def CTX_PATROL_EN : Fld := ⟨.CTX_PATROL, 0, 1⟩
def CTX_SCRUB_STAT_S1_FAIL : Fld := ⟨.CTX_SCRUB_STAT, 31, 1⟩
def CTX_SCRUB_STAT_S0_FAIL : Fld := ⟨.CTX_SCRUB_STAT, 30, 1⟩
def CTX_SCRUB_STAT_REPORT_ONLY : Fld := ⟨.CTX_SCRUB_STAT, 29, 1⟩
def CTX_SCRUB_STAT_NVS_ERR : Fld := ⟨.CTX_SCRUB_STAT, 28, 1⟩
def CTX_SCRUB_STAT_PASS_S1 : Fld := ⟨.CTX_SCRUB_STAT, 8, 8⟩
def CTX_SCRUB_STAT_PASS_S0 : Fld := ⟨.CTX_SCRUB_STAT, 0, 8⟩
def CTX_SCRUB_MASK_BENCH_EN : Fld := ⟨.CTX_SCRUB_MASK, 0, 16⟩
def CTX_SCRUB_CNT_RESTORES : Fld := ⟨.CTX_SCRUB_CNT, 16, 16⟩
def CTX_SCRUB_CNT_HARD : Fld := ⟨.CTX_SCRUB_CNT, 8, 8⟩
def CTX_SCRUB_CNT_VOTE_FIX : Fld := ⟨.CTX_SCRUB_CNT, 0, 8⟩
def CTX_SCRUB_LOG_0_VALID : Fld := ⟨.CTX_SCRUB_LOG_0, 31, 1⟩
def CTX_SCRUB_LOG_0_BENCH : Fld := ⟨.CTX_SCRUB_LOG_0, 27, 4⟩
def CTX_SCRUB_LOG_0_PLANE : Fld := ⟨.CTX_SCRUB_LOG_0, 24, 3⟩
def CTX_SCRUB_LOG_0_PHYS_SX : Fld := ⟨.CTX_SCRUB_LOG_0, 18, 6⟩
def CTX_SCRUB_LOG_0_SY : Fld := ⟨.CTX_SCRUB_LOG_0, 13, 5⟩
def CTX_SCRUB_LOG_1_DELIVERY : Fld := ⟨.CTX_SCRUB_LOG_1, 16, 1⟩
def CTX_SCRUB_LOG_1_BIT : Fld := ⟨.CTX_SCRUB_LOG_1, 0, 16⟩
def CTX_SLOT_STAT_STATE : Fld := ⟨.CTX_SLOT_STAT, 30, 2⟩
def CTX_SLOT_STAT_READERS : Fld := ⟨.CTX_SLOT_STAT, 25, 5⟩
def CTX_SLOT_STAT_CFG_ERR : Fld := ⟨.CTX_SLOT_STAT, 24, 1⟩
def CTX_SLOT_STAT_HOMES : Fld := ⟨.CTX_SLOT_STAT, 16, 8⟩
def CTX_SLOT_STAT_GEN : Fld := ⟨.CTX_SLOT_STAT, 0, 16⟩
def CTX_SLOT_OWNER_OWN_VALID : Fld := ⟨.CTX_SLOT_OWNER, 31, 1⟩
def CTX_SLOT_OWNER_VF : Fld := ⟨.CTX_SLOT_OWNER, 0, 6⟩
def CTX_SLOT_CTL_RELEASE : Fld := ⟨.CTX_SLOT_CTL, 0, 1⟩
def MEY_LOAD_CTL_GO : Fld := ⟨.MEY_LOAD_CTL, 31, 1⟩
def MEY_LOAD_CTL_ABORT : Fld := ⟨.MEY_LOAD_CTL, 30, 1⟩
def MEY_LOAD_CTL_SRC_KIND : Fld := ⟨.MEY_LOAD_CTL, 28, 2⟩
def MEY_LOAD_CTL_PRELOAD_EN : Fld := ⟨.MEY_LOAD_CTL, 27, 1⟩
def MEY_LOAD_CTL_SW_ALLOW : Fld := ⟨.MEY_LOAD_CTL, 26, 1⟩
def MEY_LOAD_CTL_PRELOAD_BENCH : Fld := ⟨.MEY_LOAD_CTL, 20, 6⟩
def MEY_LOAD_SRC_LO_SRC_LO : Fld := ⟨.MEY_LOAD_SRC_LO, 0, 32⟩
def MEY_LOAD_SRC_HI_SRC_HI : Fld := ⟨.MEY_LOAD_SRC_HI, 0, 32⟩
def MEY_LOAD_LEN_LEN : Fld := ⟨.MEY_LOAD_LEN, 0, 32⟩
def MEY_LOAD_TMO_TMO_US : Fld := ⟨.MEY_LOAD_TMO, 0, 20⟩
def MEY_LOAD_STAT_BUSY : Fld := ⟨.MEY_LOAD_STAT, 31, 1⟩
def MEY_LOAD_STAT_REJECT : Fld := ⟨.MEY_LOAD_STAT, 30, 1⟩
def MEY_LOAD_STAT_PHASE : Fld := ⟨.MEY_LOAD_STAT, 27, 3⟩
def MEY_LOAD_STAT_RESULT : Fld := ⟨.MEY_LOAD_STAT, 22, 5⟩
def MEY_LOAD_STAT_MISMATCH : Fld := ⟨.MEY_LOAD_STAT, 18, 4⟩
def MEY_LOAD_PROG_FRAMES : Fld := ⟨.MEY_LOAD_PROG, 0, 32⟩
def MEY_LOAD_FAULT_VALID : Fld := ⟨.MEY_LOAD_FAULT, 31, 1⟩
def MEY_LOAD_FAULT_SECTION : Fld := ⟨.MEY_LOAD_FAULT, 16, 4⟩
def MEY_LOAD_FAULT_SEQ : Fld := ⟨.MEY_LOAD_FAULT, 0, 16⟩
def MEY_LOAD_EVT_ERR : Fld := ⟨.MEY_LOAD_EVT, 1, 1⟩
def MEY_LOAD_EVT_DONE : Fld := ⟨.MEY_LOAD_EVT, 0, 1⟩
def MEY_LOAD_EVT_EN_EN : Fld := ⟨.MEY_LOAD_EVT_EN, 0, 2⟩
def MEY_LOAD_TGT_VALID : Fld := ⟨.MEY_LOAD_TGT, 31, 1⟩
def MEY_LOAD_TGT_GSLOT : Fld := ⟨.MEY_LOAD_TGT, 0, 12⟩
def BENCH_ASSIGN_FN : Fld := ⟨.BENCH_ASSIGN, 31, 1⟩
def BENCH_ASSIGN_PRIV : Fld := ⟨.BENCH_ASSIGN, 30, 1⟩
def BENCH_ASSIGN_LOST_REC : Fld := ⟨.BENCH_ASSIGN, 1, 1⟩
def BENCH_ASSIGN_ASSIGN_ERR : Fld := ⟨.BENCH_ASSIGN, 0, 1⟩
def BENCH_GANG_STAT_IN_GANG : Fld := ⟨.BENCH_GANG_STAT, 31, 1⟩
def BENCH_GANG_STAT_IS_LEADER : Fld := ⟨.BENCH_GANG_STAT, 30, 1⟩
def BENCH_GANG_STAT_LEADER : Fld := ⟨.BENCH_GANG_STAT, 16, 4⟩
def BENCH_GANG_STAT_W_M1 : Fld := ⟨.BENCH_GANG_STAT, 10, 2⟩
def BENCH_GANG_STAT_H_M1 : Fld := ⟨.BENCH_GANG_STAT, 8, 2⟩
def BENCH_GANG_STAT_DX : Fld := ⟨.BENCH_GANG_STAT, 4, 4⟩
def BENCH_GANG_STAT_DY : Fld := ⟨.BENCH_GANG_STAT, 0, 4⟩
def BENCH_GANG_CMD_FORM : Fld := ⟨.BENCH_GANG_CMD, 31, 1⟩
def BENCH_GANG_CMD_DISSOLVE : Fld := ⟨.BENCH_GANG_CMD, 30, 1⟩
def BENCH_GANG_CMD_GANG_ERR : Fld := ⟨.BENCH_GANG_CMD, 29, 1⟩
def BENCH_GANG_CMD_REASON : Fld := ⟨.BENCH_GANG_CMD, 26, 3⟩
def BENCH_GANG_CMD_LEADER : Fld := ⟨.BENCH_GANG_CMD, 16, 4⟩
def BENCH_GANG_CMD_W_M1 : Fld := ⟨.BENCH_GANG_CMD, 10, 2⟩
def BENCH_GANG_CMD_H_M1 : Fld := ⟨.BENCH_GANG_CMD, 8, 2⟩
def BENCH_MFENCE_EN : Fld := ⟨.BENCH_MFENCE, 31, 1⟩
def BENCH_MFENCE_COUNT_M1 : Fld := ⟨.BENCH_MFENCE, 10, 10⟩
def BENCH_MFENCE_FIRST : Fld := ⟨.BENCH_MFENCE, 0, 10⟩
def BENCH_HWIN_LO_BASE_LO : Fld := ⟨.BENCH_HWIN_LO, 12, 20⟩
def BENCH_HWIN_HI_EN : Fld := ⟨.BENCH_HWIN_HI, 31, 1⟩
def BENCH_HWIN_HI_WRITE : Fld := ⟨.BENCH_HWIN_HI, 30, 1⟩
def BENCH_HWIN_HI_READ : Fld := ⟨.BENCH_HWIN_HI, 29, 1⟩
def BENCH_HWIN_HI_SIZE_EXP : Fld := ⟨.BENCH_HWIN_HI, 16, 6⟩
def BENCH_HWIN_HI_BASE_HI : Fld := ⟨.BENCH_HWIN_HI, 0, 16⟩
def BENCH_LANE_TX_LO_TX_LO : Fld := ⟨.BENCH_LANE_TX_LO, 0, 32⟩
def BENCH_LANE_TX_HI_TX_HI : Fld := ⟨.BENCH_LANE_TX_HI, 0, 32⟩
def BENCH_LANE_RX_LO_RX_LO : Fld := ⟨.BENCH_LANE_RX_LO, 0, 32⟩
def BENCH_LANE_RX_HI_RX_HI : Fld := ⟨.BENCH_LANE_RX_HI, 0, 32⟩
def BENCH_FENCE_STAT_FENCE_ERR : Fld := ⟨.BENCH_FENCE_STAT, 31, 1⟩
def BENCH_FENCE_STAT_HFENCE_CNT : Fld := ⟨.BENCH_FENCE_STAT, 0, 16⟩
def BENCH_PCAP_EN : Fld := ⟨.BENCH_PCAP, 31, 1⟩
def BENCH_PCAP_WIN_EXP : Fld := ⟨.BENCH_PCAP, 16, 4⟩
def BENCH_PCAP_CAP_MW : Fld := ⟨.BENCH_PCAP, 0, 16⟩
def BENCH_PCAP_STAT_CAPPED : Fld := ⟨.BENCH_PCAP_STAT, 31, 1⟩
def BENCH_PCAP_STAT_SUPPR : Fld := ⟨.BENCH_PCAP_STAT, 0, 4⟩
def BENCH_WB_CTL_BURST_EXP : Fld := ⟨.BENCH_WB_CTL, 16, 5⟩
def BENCH_WB_CTL_RATE : Fld := ⟨.BENCH_WB_CTL, 0, 11⟩
def BENCH_WB_HELD_HELD : Fld := ⟨.BENCH_WB_HELD, 0, 32⟩
def BENCH_TALLY_LO_MJ_LO : Fld := ⟨.BENCH_TALLY_LO, 0, 32⟩
def BENCH_TALLY_HI_MJ_HI : Fld := ⟨.BENCH_TALLY_HI, 0, 32⟩
def BENCH_TALLY_IDLE_LO_MJ_LO : Fld := ⟨.BENCH_TALLY_IDLE_LO, 0, 32⟩
def BENCH_TALLY_IDLE_HI_MJ_HI : Fld := ⟨.BENCH_TALLY_IDLE_HI, 0, 32⟩
def BENCH_TALLY_PLANE_LO_MJ_LO : Fld := ⟨.BENCH_TALLY_PLANE_LO, 0, 32⟩
def BENCH_TALLY_PLANE_HI_MJ_HI : Fld := ⟨.BENCH_TALLY_PLANE_HI, 0, 32⟩
def BENCH_RING_BASE_LO_BASE_LO : Fld := ⟨.BENCH_RING_BASE_LO, 12, 20⟩
def PF_RING_BASE_LO_BASE_LO : Fld := ⟨.PF_RING_BASE_LO, 12, 20⟩
def BENCH_RING_BASE_HI_BASE_HI : Fld := ⟨.BENCH_RING_BASE_HI, 0, 32⟩
def PF_RING_BASE_HI_BASE_HI : Fld := ⟨.PF_RING_BASE_HI, 0, 32⟩
def BENCH_RING_CTL_EN : Fld := ⟨.BENCH_RING_CTL, 31, 1⟩
def BENCH_RING_CTL_FULL : Fld := ⟨.BENCH_RING_CTL, 30, 1⟩
def BENCH_RING_CTL_DMA_ERR : Fld := ⟨.BENCH_RING_CTL, 29, 1⟩
def BENCH_RING_CTL_SIZE_EXP : Fld := ⟨.BENCH_RING_CTL, 16, 5⟩
def BENCH_RING_CTL_MOD_US : Fld := ⟨.BENCH_RING_CTL, 0, 10⟩
def PF_RING_CTL_EN : Fld := ⟨.PF_RING_CTL, 31, 1⟩
def PF_RING_CTL_FULL : Fld := ⟨.PF_RING_CTL, 30, 1⟩
def PF_RING_CTL_DMA_ERR : Fld := ⟨.PF_RING_CTL, 29, 1⟩
def PF_RING_CTL_SIZE_EXP : Fld := ⟨.PF_RING_CTL, 16, 5⟩
def PF_RING_CTL_MOD_US : Fld := ⟨.PF_RING_CTL, 0, 10⟩
def BENCH_RING_HEAD_HEAD : Fld := ⟨.BENCH_RING_HEAD, 0, 16⟩
def PF_RING_HEAD_HEAD : Fld := ⟨.PF_RING_HEAD, 0, 16⟩
def BENCH_RING_TAIL_TAIL : Fld := ⟨.BENCH_RING_TAIL, 0, 16⟩
def PF_RING_TAIL_TAIL : Fld := ⟨.PF_RING_TAIL, 0, 16⟩
def HN_RT_SEL_BANK : Fld := ⟨.HN_RT_SEL, 16, 1⟩
def HN_RT_SEL_DEST : Fld := ⟨.HN_RT_SEL, 0, 5⟩
def HN_RT_ENT_PORT : Fld := ⟨.HN_RT_ENT, 0, 3⟩
def HN_RTR_CTL_FORCE_QUEUED : Fld := ⟨.HN_RTR_CTL, 0, 1⟩
def HN_RTR_STAT_QUEUED : Fld := ⟨.HN_RTR_STAT, 31, 1⟩
def HN_RTR_STAT_BYP_FAULT : Fld := ⟨.HN_RTR_STAT, 30, 1⟩
def HN_RTR_STAT_RETIRED : Fld := ⟨.HN_RTR_STAT, 29, 1⟩
def HN_RTR_ECC_UE_CNT : Fld := ⟨.HN_RTR_ECC, 16, 16⟩
def HN_RTR_ECC_CE_CNT : Fld := ⟨.HN_RTR_ECC, 0, 16⟩
def HN_RTR_EPOCH_OLD_CNT : Fld := ⟨.HN_RTR_EPOCH, 0, 16⟩
def HN_FENCE_L2 : Fld := ⟨.HN_FENCE, 4, 2⟩
def HN_FENCE_L1 : Fld := ⟨.HN_FENCE, 2, 2⟩
def HN_FENCE_L0 : Fld := ⟨.HN_FENCE, 0, 2⟩
def HN_DARK_UNREACH : Fld := ⟨.HN_DARK, 16, 16⟩
def HN_DARK_DARK_DROP : Fld := ⟨.HN_DARK, 0, 16⟩
def HN_LINK_SPARE_L2 : Fld := ⟨.HN_LINK_SPARE, 24, 4⟩
def HN_LINK_SPARE_L1 : Fld := ⟨.HN_LINK_SPARE, 20, 4⟩
def HN_LINK_SPARE_L0 : Fld := ⟨.HN_LINK_SPARE, 16, 4⟩
def HN_LINK_SPARE_W : Fld := ⟨.HN_LINK_SPARE, 12, 4⟩
def HN_LINK_SPARE_S : Fld := ⟨.HN_LINK_SPARE, 8, 4⟩
def HN_LINK_SPARE_E : Fld := ⟨.HN_LINK_SPARE, 4, 4⟩
def HN_LINK_SPARE_N : Fld := ⟨.HN_LINK_SPARE, 0, 4⟩
def HN_PRB_SEL_RUN : Fld := ⟨.HN_PRB_SEL, 31, 1⟩
def HN_PRB_SEL_TRACE : Fld := ⟨.HN_PRB_SEL, 30, 1⟩
def HN_PRB_SEL_DIR : Fld := ⟨.HN_PRB_SEL, 3, 1⟩
def HN_PRB_SEL_PORT : Fld := ⟨.HN_PRB_SEL, 0, 3⟩
def HN_PRB_AVAL_LO_A_VAL_LO : Fld := ⟨.HN_PRB_AVAL_LO, 0, 32⟩
def HN_PRB_AVAL_HI_A_VAL_HI : Fld := ⟨.HN_PRB_AVAL_HI, 0, 16⟩
def HN_PRB_AMSK_LO_A_MASK_LO : Fld := ⟨.HN_PRB_AMSK_LO, 0, 32⟩
def HN_PRB_AMSK_HI_A_MASK_HI : Fld := ⟨.HN_PRB_AMSK_HI, 0, 16⟩
def HN_PRB_SRC_S_MASK : Fld := ⟨.HN_PRB_SRC, 16, 10⟩
def HN_PRB_SRC_S_VAL : Fld := ⟨.HN_PRB_SRC, 0, 10⟩
def HN_PRB_TAG_CLASS_EN : Fld := ⟨.HN_PRB_TAG, 28, 4⟩
def HN_PRB_TAG_T_MASK : Fld := ⟨.HN_PRB_TAG, 16, 12⟩
def HN_PRB_TAG_T_VAL : Fld := ⟨.HN_PRB_TAG, 0, 12⟩
def HN_PRB_EVT_EVT3 : Fld := ⟨.HN_PRB_EVT, 12, 4⟩
def HN_PRB_EVT_EVT2 : Fld := ⟨.HN_PRB_EVT, 8, 4⟩
def HN_PRB_EVT_EVT1 : Fld := ⟨.HN_PRB_EVT, 4, 4⟩
def HN_PRB_EVT_EVT0 : Fld := ⟨.HN_PRB_EVT, 0, 4⟩
def HN_PRB_CNT_COUNT : Fld := ⟨.HN_PRB_CNT, 0, 32⟩
def HN_DDR_ILV_G : Fld := ⟨.HN_DDR_ILV, 8, 5⟩
def HN_DDR_ILV_MODE : Fld := ⟨.HN_DDR_ILV, 0, 2⟩
def HN_EPOCH_CTL_FLIP : Fld := ⟨.HN_EPOCH_CTL, 31, 1⟩
def HN_EPOCH_STAT_DRAINING : Fld := ⟨.HN_EPOCH_STAT, 31, 1⟩
def HN_EPOCH_STAT_FLIP_ERR : Fld := ⟨.HN_EPOCH_STAT, 30, 1⟩
def HN_EPOCH_STAT_RT_ERR : Fld := ⟨.HN_EPOCH_STAT, 29, 1⟩
def HN_EPOCH_STAT_DRAIN_TMO : Fld := ⟨.HN_EPOCH_STAT, 28, 1⟩
def HN_EPOCH_STAT_LAST_DRAIN_US : Fld := ⟨.HN_EPOCH_STAT, 8, 16⟩
def HN_EPOCH_STAT_CUR : Fld := ⟨.HN_EPOCH_STAT, 0, 1⟩
def HN_TMO_TMO_US : Fld := ⟨.HN_TMO, 0, 20⟩
def HN_LATE_RSP_COUNT : Fld := ⟨.HN_LATE_RSP, 0, 32⟩
def HN_TOCNT_COUNT : Fld := ⟨.HN_TOCNT, 0, 32⟩
def HN_TRC_CTL_EN : Fld := ⟨.HN_TRC_CTL, 31, 1⟩
def HN_TRC_CTL_CLEAR : Fld := ⟨.HN_TRC_CTL, 30, 1⟩
def HN_TRC_CTL_MODE : Fld := ⟨.HN_TRC_CTL, 0, 1⟩
def HN_TRC_STAT_FULL : Fld := ⟨.HN_TRC_STAT, 31, 1⟩
def HN_TRC_STAT_WRAPPED : Fld := ⟨.HN_TRC_STAT, 30, 1⟩
def HN_TRC_STAT_NEXT : Fld := ⟨.HN_TRC_STAT, 16, 11⟩
def HN_TRC_STAT_LOST : Fld := ⟨.HN_TRC_STAT, 0, 16⟩
def BENCH_HPORT_CFG_CFG_ERR : Fld := ⟨.BENCH_HPORT_CFG, 31, 1⟩
def BENCH_HPORT_CFG_DELIVERY : Fld := ⟨.BENCH_HPORT_CFG, 8, 1⟩
def BENCH_HPORT_CFG_RXBUF_EXP : Fld := ⟨.BENCH_HPORT_CFG, 0, 4⟩
def BENCH_HPORT_STAT_UP : Fld := ⟨.BENCH_HPORT_STAT, 31, 1⟩
def BENCH_HPORT_STAT_FENCED : Fld := ⟨.BENCH_HPORT_STAT, 30, 1⟩
def BENCH_HPORT_STAT_TAGS : Fld := ⟨.BENCH_HPORT_STAT, 16, 10⟩
def BENCH_HPORT_STAT_RESERVE : Fld := ⟨.BENCH_HPORT_STAT, 0, 11⟩
def BENCH_HPORT_ERR_MALFORMED : Fld := ⟨.BENCH_HPORT_ERR, 16, 16⟩
def BENCH_HPORT_ERR_REFUSED : Fld := ⟨.BENCH_HPORT_ERR, 0, 16⟩
def BENCH_HPORT_DROP_PST_DROP : Fld := ⟨.BENCH_HPORT_DROP, 16, 16⟩
def BENCH_HPORT_DROP_RSP_DROP : Fld := ⟨.BENCH_HPORT_DROP, 0, 16⟩
def BENCH_HPORT_TMO_TMO_US : Fld := ⟨.BENCH_HPORT_TMO, 0, 20⟩
def BENCH_HPORT_TOCNT_COUNT : Fld := ⟨.BENCH_HPORT_TOCNT, 0, 32⟩
def BENCH_SHIFT_REPAIRING : Fld := ⟨.BENCH_SHIFT, 31, 1⟩
def BENCH_SHIFT_SHIFTED : Fld := ⟨.BENCH_SHIFT, 30, 1⟩
def BENCH_SHIFT_SPARE_LOST : Fld := ⟨.BENCH_SHIFT, 29, 1⟩
def BENCH_SHIFT_DEGRADED : Fld := ⟨.BENCH_SHIFT, 28, 1⟩
def BENCH_SHIFT_DEG_WHY : Fld := ⟨.BENCH_SHIFT, 24, 4⟩
def BENCH_SHIFT_RETIRED_SX : Fld := ⟨.BENCH_SHIFT, 0, 6⟩
def BENCH_REPAIR_STAT_STATE_LOST : Fld := ⟨.BENCH_REPAIR_STAT, 24, 8⟩
def BENCH_REPAIR_STAT_UNVERIFIED : Fld := ⟨.BENCH_REPAIR_STAT, 16, 8⟩
def BENCH_REPAIR_STAT_LAST_US : Fld := ⟨.BENCH_REPAIR_STAT, 0, 16⟩
def CTX_SCRUB_BENCH_PERR : Fld := ⟨.CTX_SCRUB_BENCH, 24, 8⟩
def CTX_SCRUB_BENCH_NO_HOME : Fld := ⟨.CTX_SCRUB_BENCH, 16, 8⟩
def CTX_SCRUB_BENCH_RESTORES : Fld := ⟨.CTX_SCRUB_BENCH, 0, 16⟩
def PCIE_LINK_STAT_UP : Fld := ⟨.PCIE_LINK_STAT, 31, 1⟩
def PCIE_LINK_STAT_FLIT : Fld := ⟨.PCIE_LINK_STAT, 30, 1⟩
def PCIE_LINK_STAT_PERST : Fld := ⟨.PCIE_LINK_STAT, 29, 1⟩
def PCIE_LINK_STAT_SPEED : Fld := ⟨.PCIE_LINK_STAT, 24, 3⟩
def PCIE_LINK_STAT_WIDTH : Fld := ⟨.PCIE_LINK_STAT, 16, 5⟩
def PCIE_LINK_STAT_DOWN_CNT : Fld := ⟨.PCIE_LINK_STAT, 0, 8⟩
def PCIE_ERR_BAR_ERR : Fld := ⟨.PCIE_ERR, 16, 16⟩
def PCIE_ERR_HOST_ERR : Fld := ⟨.PCIE_ERR, 0, 16⟩
def PCIE_DMA_BASE_LO_BASE_LO : Fld := ⟨.PCIE_DMA_BASE_LO, 12, 20⟩
def PCIE_DMA_BASE_HI_BASE_HI : Fld := ⟨.PCIE_DMA_BASE_HI, 0, 32⟩
def PCIE_DMA_CTL_EN : Fld := ⟨.PCIE_DMA_CTL, 31, 1⟩
def PCIE_DMA_CTL_IDLE : Fld := ⟨.PCIE_DMA_CTL, 30, 1⟩
def PCIE_DMA_CTL_FETCH_ERR : Fld := ⟨.PCIE_DMA_CTL, 29, 1⟩
def PCIE_DMA_CTL_PROD_ERR : Fld := ⟨.PCIE_DMA_CTL, 28, 1⟩
def PCIE_DMA_CTL_SIZE_EXP : Fld := ⟨.PCIE_DMA_CTL, 16, 5⟩
def PCIE_DMA_PROD_PROD : Fld := ⟨.PCIE_DMA_PROD, 0, 16⟩
def PCIE_DMA_CONS_CONS : Fld := ⟨.PCIE_DMA_CONS, 0, 16⟩
def PCIE_VF_MAP_LO_MAP_LO : Fld := ⟨.PCIE_VF_MAP_LO, 0, 32⟩
def PCIE_VF_MAP_HI_MAP_HI : Fld := ⟨.PCIE_VF_MAP_HI, 0, 32⟩
def PCIE_DEV_CTL_MAP_ERR : Fld := ⟨.PCIE_DEV_CTL, 31, 1⟩
def PCIE_DEV_CTL_PF_VEC_PORT : Fld := ⟨.PCIE_DEV_CTL, 0, 1⟩
def PCIE_VF_APER_APER : Fld := ⟨.PCIE_VF_APER, 0, 1⟩
def LANE_CTL_RESTART : Fld := ⟨.LANE_CTL, 31, 1⟩
def LANE_CTL_AUTO_RESTART : Fld := ⟨.LANE_CTL, 30, 1⟩
def LANE_CTL_DETECT_EN : Fld := ⟨.LANE_CTL, 29, 1⟩
def LANE_CTL_PEER_CHK : Fld := ⟨.LANE_CTL, 28, 1⟩
def LANE_CTL_WAYS : Fld := ⟨.LANE_CTL, 24, 2⟩
def LANE_CTL_TRAIN_TMO : Fld := ⟨.LANE_CTL, 16, 8⟩
def LANE_STAT_STATE : Fld := ⟨.LANE_STAT, 29, 3⟩
def LANE_STAT_LOS : Fld := ⟨.LANE_STAT, 28, 1⟩
def LANE_STAT_LOL : Fld := ⟨.LANE_STAT, 27, 1⟩
def LANE_STAT_FAULT_WHY : Fld := ⟨.LANE_STAT, 24, 3⟩
def LANE_STAT_CAL_EXH : Fld := ⟨.LANE_STAT, 23, 1⟩
def LANE_STAT_FAULT_CNT : Fld := ⟨.LANE_STAT, 0, 8⟩
def LANE_LINKID_VALUE : Fld := ⟨.LANE_LINKID, 0, 32⟩
def LANE_USER_VALUE : Fld := ⟨.LANE_USER, 0, 32⟩
def LANE_PEER_ID_VALUE : Fld := ⟨.LANE_PEER_ID, 0, 32⟩
def LANE_PEER_USER_VALUE : Fld := ⟨.LANE_PEER_USER, 0, 32⟩
def LANE_TX_TX_DIS : Fld := ⟨.LANE_TX, 31, 1⟩
def LANE_TX_SWING_MV : Fld := ⟨.LANE_TX, 0, 11⟩
def LANE_PRBS_GEN_EN : Fld := ⟨.LANE_PRBS, 31, 1⟩
def LANE_PRBS_CHK_EN : Fld := ⟨.LANE_PRBS, 30, 1⟩
def LANE_PRBS_INJ_1 : Fld := ⟨.LANE_PRBS, 29, 1⟩
def LANE_PRBS_INJ_BURST : Fld := ⟨.LANE_PRBS, 28, 1⟩
def LANE_PRBS_PAT : Fld := ⟨.LANE_PRBS, 25, 3⟩
def LANE_PRBS_CHK_LOCK : Fld := ⟨.LANE_PRBS, 24, 1⟩
def LANE_PRBS_BURST_LEN : Fld := ⟨.LANE_PRBS, 16, 8⟩
def LANE_PRBS_ERR_ERRORS : Fld := ⟨.LANE_PRBS_ERR, 0, 32⟩
def LANE_PRBS_BITS_MBITS : Fld := ⟨.LANE_PRBS_BITS, 0, 32⟩
def LANE_SQ_STALE : Fld := ⟨.LANE_SQ, 31, 1⟩
def LANE_SQ_VALID : Fld := ⟨.LANE_SQ, 30, 1⟩
def LANE_SQ_EYE_MV : Fld := ⟨.LANE_SQ, 16, 10⟩
def LANE_SQ_SNR : Fld := ⟨.LANE_SQ, 0, 10⟩
def LANE_DROP_RX_DROP : Fld := ⟨.LANE_DROP, 16, 16⟩
def LANE_DROP_FENCE_DROP : Fld := ⟨.LANE_DROP, 0, 16⟩
def ETH_OCT_CFG_LANES : Fld := ⟨.ETH_OCT_CFG, 0, 32⟩
def ETH_OCT_STAT_CFG_ERR : Fld := ⟨.ETH_OCT_STAT, 0, 1⟩
def ETH_PORT_CFG_FCS_DROP : Fld := ⟨.ETH_PORT_CFG, 31, 1⟩
def ETH_PORT_CFG_MAX_FRAME : Fld := ⟨.ETH_PORT_CFG, 0, 14⟩
def ETH_PORT_STAT_LINK_UP : Fld := ⟨.ETH_PORT_STAT, 31, 1⟩
def ETH_PORT_STAT_AN_DONE : Fld := ⟨.ETH_PORT_STAT, 30, 1⟩
def ETH_PORT_STAT_RF : Fld := ⟨.ETH_PORT_STAT, 29, 1⟩
def ETH_PORT_STAT_LF : Fld := ⟨.ETH_PORT_STAT, 28, 1⟩
def ETH_PORT_STAT_TS_OVF : Fld := ⟨.ETH_PORT_STAT, 27, 1⟩
def ETH_RX_FRAMES_COUNT : Fld := ⟨.ETH_RX_FRAMES, 0, 32⟩
def ETH_RX_ERR_FCS_ERR : Fld := ⟨.ETH_RX_ERR, 16, 16⟩
def ETH_RX_ERR_DROP : Fld := ⟨.ETH_RX_ERR, 0, 16⟩
def ETH_TX_FRAMES_COUNT : Fld := ⟨.ETH_TX_FRAMES, 0, 32⟩
def ETH_TX_ERR_TX_BAD : Fld := ⟨.ETH_TX_ERR, 0, 16⟩
def ETH_FEC_CORR_COUNT : Fld := ⟨.ETH_FEC_CORR, 0, 32⟩
def ETH_FEC_UNCORR_COUNT : Fld := ⟨.ETH_FEC_UNCORR, 0, 32⟩
def ETH_TXTS_ID_VALID : Fld := ⟨.ETH_TXTS_ID, 31, 1⟩
def ETH_TXTS_ID_FRAC : Fld := ⟨.ETH_TXTS_ID, 16, 8⟩
def ETH_TXTS_ID_TS_ID : Fld := ⟨.ETH_TXTS_ID, 0, 16⟩
def ETH_TXTS_LO_TS_LO : Fld := ⟨.ETH_TXTS_LO, 0, 32⟩
def ETH_TXTS_HI_TS_HI : Fld := ⟨.ETH_TXTS_HI, 0, 32⟩
def CLK_OSC_STAT_DT_SRC : Fld := ⟨.CLK_OSC_STAT, 30, 2⟩
def CLK_OSC_STAT_REF_FAIL : Fld := ⟨.CLK_OSC_STAT, 8, 1⟩
def CLK_OSC_STAT_B_FAIL : Fld := ⟨.CLK_OSC_STAT, 7, 1⟩
def CLK_OSC_STAT_A_FAIL : Fld := ⟨.CLK_OSC_STAT, 6, 1⟩
def CLK_OSC_STAT_B_TRIM : Fld := ⟨.CLK_OSC_STAT, 5, 1⟩
def CLK_OSC_STAT_A_TRIM : Fld := ⟨.CLK_OSC_STAT, 4, 1⟩
def CLK_OSC_STAT_REF_STABLE : Fld := ⟨.CLK_OSC_STAT, 2, 1⟩
def CLK_OSC_STAT_B_STABLE : Fld := ⟨.CLK_OSC_STAT, 1, 1⟩
def CLK_OSC_STAT_A_STABLE : Fld := ⟨.CLK_OSC_STAT, 0, 1⟩
def CLK_RAMP_CTL_DWELL : Fld := ⟨.CLK_RAMP_CTL, 0, 3⟩
def CLK_MON_ARMED : Fld := ⟨.CLK_MON, 31, 1⟩
def CLK_MON_TRIPPED : Fld := ⟨.CLK_MON, 30, 1⟩
def CLK_MON_ON_FALLBACK : Fld := ⟨.CLK_MON, 29, 1⟩
def CLK_MON_GATED : Fld := ⟨.CLK_MON, 28, 1⟩
def CLK_MON_FB_OSC : Fld := ⟨.CLK_MON, 27, 1⟩
def CLK_MON_FB_PREF : Fld := ⟨.CLK_MON, 26, 1⟩
def CLK_MON_AUTO_RET : Fld := ⟨.CLK_MON, 25, 1⟩
def CLK_MON_RETURN : Fld := ⟨.CLK_MON, 24, 1⟩
def CLK_MON_LOCKED : Fld := ⟨.CLK_MON, 23, 1⟩
def CLK_MON_TWIN : Fld := ⟨.CLK_MON, 22, 1⟩
def CLK_MON_STBY_OK : Fld := ⟨.CLK_MON, 21, 1⟩
def CLK_MON_LAST_COUNT : Fld := ⟨.CLK_MON, 0, 20⟩
def CLK_FAB_CFG_ERR : Fld := ⟨.CLK_FAB, 31, 1⟩
def CLK_FAB_IN_USE : Fld := ⟨.CLK_FAB, 30, 1⟩
def CLK_FAB_MULT : Fld := ⟨.CLK_FAB, 0, 9⟩
def CLK_OUT_EN : Fld := ⟨.CLK_OUT, 31, 1⟩
def CLK_OUT_CFG_ERR : Fld := ⟨.CLK_OUT, 30, 1⟩
def CLK_OUT_K_M1 : Fld := ⟨.CLK_OUT, 16, 4⟩
def CLK_OUT_SEL : Fld := ⟨.CLK_OUT, 0, 9⟩
def PWR_RAIL_STAT_ORDER_ERR : Fld := ⟨.PWR_RAIL_STAT, 16, 9⟩
def PWR_RAIL_STAT_UP : Fld := ⟨.PWR_RAIL_STAT, 0, 9⟩
def PWR_DOM_ON : Fld := ⟨.PWR_DOM, 31, 1⟩
def PWR_DOM_ERR : Fld := ⟨.PWR_DOM, 30, 1⟩
def PWR_DOM_REASON : Fld := ⟨.PWR_DOM, 27, 3⟩
def PWR_DOM_STATE : Fld := ⟨.PWR_DOM, 24, 3⟩
def PWR_DOM_FENCE_TMO : Fld := ⟨.PWR_DOM, 23, 1⟩
def PWR_DOM_LAST_T : Fld := ⟨.PWR_DOM, 0, 16⟩
def PWR_RST_CTL_FLOOR : Fld := ⟨.PWR_RST_CTL, 31, 1⟩
def PWR_RST_CTL_HOLD_US : Fld := ⟨.PWR_RST_CTL, 0, 10⟩
def PWR_RST_STAT_BUSY : Fld := ⟨.PWR_RST_STAT, 31, 1⟩
def PWR_RST_STAT_RST_ERR : Fld := ⟨.PWR_RST_STAT, 30, 1⟩
def PWR_RST_STAT_LAST : Fld := ⟨.PWR_RST_STAT, 24, 2⟩
def PWR_RST_STAT_FLOOR_CNT : Fld := ⟨.PWR_RST_STAT, 0, 16⟩
def PWR_BOOT_STAT_DONE : Fld := ⟨.PWR_BOOT_STAT, 31, 1⟩
def PWR_BOOT_STAT_SHELL_RESULT : Fld := ⟨.PWR_BOOT_STAT, 26, 5⟩
def PWR_BOOT_STAT_SHELL_PRESENT : Fld := ⟨.PWR_BOOT_STAT, 25, 1⟩
def PWR_BOOT_STAT_DESC_ERR : Fld := ⟨.PWR_BOOT_STAT, 24, 1⟩
def PWR_BOOT_STAT_BOOT_US : Fld := ⟨.PWR_BOOT_STAT, 0, 24⟩
def THM_SITE_STALE : Fld := ⟨.THM_SITE, 31, 1⟩
def THM_SITE_VALID : Fld := ⟨.THM_SITE, 30, 1⟩
def THM_SITE_MISMATCH : Fld := ⟨.THM_SITE, 29, 1⟩
def THM_SITE_FAIL : Fld := ⟨.THM_SITE, 28, 1⟩
def THM_SITE_CLAMPED : Fld := ⟨.THM_SITE, 27, 1⟩
def THM_SITE_DIODE_FAIL : Fld := ⟨.THM_SITE, 25, 2⟩
def THM_SITE_TEMP : Fld := ⟨.THM_SITE, 0, 16⟩
def THM_SITE_CAL_EFFECTIVE : Fld := ⟨.THM_SITE_CAL, 24, 8⟩
def THM_SITE_CAL_BACKGROUND : Fld := ⟨.THM_SITE_CAL, 16, 8⟩
def THM_SITE_CAL_USER_OFS : Fld := ⟨.THM_SITE_CAL, 8, 8⟩
def THM_SITE_CAL_FACTORY : Fld := ⟨.THM_SITE_CAL, 0, 8⟩
def THM_LIMITS_SHDN_C : Fld := ⟨.THM_LIMITS, 24, 8⟩
def THM_LIMITS_THROT_C : Fld := ⟨.THM_LIMITS, 16, 8⟩
def THM_LIMITS_WARN_C : Fld := ⟨.THM_LIMITS, 8, 8⟩
def THM_LIMITS_THROT_HYST : Fld := ⟨.THM_LIMITS, 4, 4⟩
def THM_LIMITS_WARN_HYST : Fld := ⟨.THM_LIMITS, 0, 4⟩
def THM_SHDN_MODE_MODE : Fld := ⟨.THM_SHDN_MODE, 0, 1⟩
def THM_PRIV_CTL_GRACE_MS : Fld := ⟨.THM_PRIV_CTL, 16, 7⟩
def THM_PRIV_CTL_PRIV_TGT : Fld := ⟨.THM_PRIV_CTL, 0, 3⟩
def THM_STAT_SHDN : Fld := ⟨.THM_STAT, 31, 1⟩
def THM_STAT_SHDN_IMM : Fld := ⟨.THM_STAT, 30, 1⟩
def THM_STAT_WARN : Fld := ⟨.THM_STAT, 29, 1⟩
def THM_STAT_LIM_ERR : Fld := ⟨.THM_STAT, 28, 1⟩
def THM_STAT_HOT_SITE : Fld := ⟨.THM_STAT, 16, 7⟩
def THM_STAT_HOT_C : Fld := ⟨.THM_STAT, 0, 16⟩
def THM_COL_FAST : Fld := ⟨.THM_COL, 31, 1⟩
def THM_COL_SENS_FAIL : Fld := ⟨.THM_COL, 30, 1⟩
def THM_COL_BAND : Fld := ⟨.THM_COL, 27, 3⟩
def THM_COL_LEVEL : Fld := ⟨.THM_COL, 20, 4⟩
def THM_COL_HOT_L_C : Fld := ⟨.THM_COL, 0, 16⟩
def THM_BENCH_GRACE : Fld := ⟨.THM_BENCH, 31, 1⟩
def THM_BENCH_ENFORCED : Fld := ⟨.THM_BENCH, 30, 1⟩
def THM_BENCH_EXEMPT : Fld := ⟨.THM_BENCH, 29, 1⟩
def THM_BENCH_LEVEL : Fld := ⟨.THM_BENCH, 0, 4⟩
def THM_BENCH_REF_TARGET_MW : Fld := ⟨.THM_BENCH_REF, 16, 16⟩
def THM_BENCH_REF_REF_MW : Fld := ⟨.THM_BENCH_REF, 0, 16⟩
def TEL_RAIL_STALE : Fld := ⟨.TEL_RAIL, 31, 1⟩
def TEL_RAIL_CURRENT : Fld := ⟨.TEL_RAIL, 16, 12⟩
def TEL_RAIL_VOLT_MV : Fld := ⟨.TEL_RAIL, 0, 12⟩
def TEL_PWR_TOTAL_MW : Fld := ⟨.TEL_PWR, 0, 20⟩
def TEL_MEM_E_LO_MJ_LO : Fld := ⟨.TEL_MEM_E_LO, 0, 32⟩
def TEL_MEM_E_HI_MJ_HI : Fld := ⟨.TEL_MEM_E_HI, 0, 32⟩
def TEL_CFG_E_LO_MJ_LO : Fld := ⟨.TEL_CFG_E_LO, 0, 32⟩
def TEL_CFG_E_HI_MJ_HI : Fld := ⟨.TEL_CFG_E_HI, 0, 32⟩
def MBX_CMD_DOOR_RING : Fld := ⟨.MBX_CMD_DOOR, 0, 1⟩
def MBX_RSP_DOOR_ACK : Fld := ⟨.MBX_RSP_DOOR, 0, 1⟩
def MBX_STATUS_STATE : Fld := ⟨.MBX_STATUS, 29, 3⟩
def MBX_STATUS_DOOR_ERR : Fld := ⟨.MBX_STATUS, 28, 1⟩
def MBX_STATUS_FW_UP : Fld := ⟨.MBX_STATUS, 27, 1⟩
def MBX_STATUS_TAG : Fld := ⟨.MBX_STATUS, 0, 16⟩
def MBX_CTL_IRQ_EN : Fld := ⟨.MBX_CTL, 1, 1⟩
def MBX_CTL_ABORT : Fld := ⟨.MBX_CTL, 0, 1⟩
def MBX_FW_STAT_FW_UP : Fld := ⟨.MBX_FW_STAT, 31, 1⟩
def MBX_FW_STAT_FAILED : Fld := ⟨.MBX_FW_STAT, 30, 1⟩
def MBX_FW_STAT_RECOVERY : Fld := ⟨.MBX_FW_STAT, 29, 1⟩
def MBX_FW_STAT_BOOT_SLOT : Fld := ⟨.MBX_FW_STAT, 28, 1⟩
def MBX_FW_STAT_FALLBACK : Fld := ⟨.MBX_FW_STAT, 27, 1⟩
def MBX_FW_STAT_LAST_CAUSE : Fld := ⟨.MBX_FW_STAT, 24, 3⟩
def MBX_FW_STAT_RESTARTS : Fld := ⟨.MBX_FW_STAT, 16, 8⟩
def MBX_FW_STAT_SVN : Fld := ⟨.MBX_FW_STAT, 0, 16⟩
def MBX_FW_CTL_RESTART : Fld := ⟨.MBX_FW_CTL, 31, 1⟩
def HLU_ABS_VALUE : Fld := ⟨.HLU_ABS, 0, 32⟩
def HLU_BOARD_VALUE : Fld := ⟨.HLU_BOARD, 0, 32⟩
def HLU_FW_VALUE : Fld := ⟨.HLU_FW, 0, 32⟩
def HLU_EFF_VALUE : Fld := ⟨.HLU_EFF, 0, 32⟩
def HLU_CTL_LOCK : Fld := ⟨.HLU_CTL, 31, 1⟩
def HLU_CTL_OTP_BOARD : Fld := ⟨.HLU_CTL, 30, 1⟩
def HLU_REFUSE_COUNT : Fld := ⟨.HLU_REFUSE, 16, 16⟩
def HLU_REFUSE_SRC : Fld := ⟨.HLU_REFUSE, 13, 3⟩
def HLU_REFUSE_Q : Fld := ⟨.HLU_REFUSE, 0, 5⟩
def WPL_STAT_FROZEN : Fld := ⟨.WPL_STAT, 31, 1⟩
def WPL_STAT_COPYING : Fld := ⟨.WPL_STAT, 30, 1⟩
def WPL_STAT_VALID_CNT : Fld := ⟨.WPL_STAT, 16, 13⟩
def WPL_STAT_REC_ANY : Fld := ⟨.WPL_STAT, 15, 1⟩
def WPL_STAT_NEWEST_R : Fld := ⟨.WPL_STAT, 12, 3⟩
def WPL_STAT_NEXT : Fld := ⟨.WPL_STAT, 0, 12⟩
def WPL_CTL_FREEZE : Fld := ⟨.WPL_CTL, 31, 1⟩
def WPL_CTL_RESUME : Fld := ⟨.WPL_CTL, 30, 1⟩
def WPL_DROP_FROZEN_DROP : Fld := ⟨.WPL_DROP, 16, 16⟩
def WPL_DROP_QUEUE_DROP : Fld := ⟨.WPL_DROP, 0, 16⟩
def WPL_REC_TIME_LO_TIME_LO : Fld := ⟨.WPL_REC_TIME_LO, 0, 32⟩
def WPL_REC_TIME_HI_TIME_HI : Fld := ⟨.WPL_REC_TIME_HI, 0, 32⟩
def WPL_REC_INFO_VALID : Fld := ⟨.WPL_REC_INFO, 31, 1⟩
def WPL_REC_INFO_SEQ : Fld := ⟨.WPL_REC_INFO, 24, 7⟩
def WPL_REC_INFO_TRIGGER : Fld := ⟨.WPL_REC_INFO, 16, 2⟩
def WPL_REC_INFO_CAUSE : Fld := ⟨.WPL_REC_INFO, 0, 16⟩
def WPL_REC_ENTRIES_ENTRIES : Fld := ⟨.WPL_REC_ENTRIES, 0, 13⟩
def DDR_CH_CFG_TRAIN : Fld := ⟨.DDR_CH_CFG, 31, 1⟩
def DDR_CH_CFG_CAP : Fld := ⟨.DDR_CH_CFG, 8, 2⟩
def DDR_CH_CFG_RATE : Fld := ⟨.DDR_CH_CFG, 0, 2⟩
def DDR_CH_STAT_STATE : Fld := ⟨.DDR_CH_STAT, 29, 3⟩
def DDR_CH_STAT_TRAIN_ERR : Fld := ⟨.DDR_CH_STAT, 28, 1⟩
def DDR_CH_STAT_LOST_DATA : Fld := ⟨.DDR_CH_STAT, 27, 1⟩
def DDR_CH_STAT_SIZE_GIB : Fld := ⟨.DDR_CH_STAT, 16, 8⟩
def DDR_CH_STAT_TRAIN_MS : Fld := ⟨.DDR_CH_STAT, 0, 16⟩
def DDR_ECC_UE_CNT : Fld := ⟨.DDR_ECC, 16, 16⟩
def DDR_ECC_CE_CNT : Fld := ⟨.DDR_ECC, 0, 16⟩
def DBG_STRAP_FLASH_SLOW : Fld := ⟨.DBG_STRAP, 4, 1⟩
def DBG_STRAP_FLASH_OCT : Fld := ⟨.DBG_STRAP, 3, 1⟩
def DBG_STRAP_SB_ADDR : Fld := ⟨.DBG_STRAP, 1, 2⟩
def DBG_STRAP_SB_SEL : Fld := ⟨.DBG_STRAP, 0, 1⟩
def DBG_GPIO_IN_IN : Fld := ⟨.DBG_GPIO_IN, 0, 32⟩
def DBG_GPIO_OUT_OUT : Fld := ⟨.DBG_GPIO_OUT, 0, 32⟩
def DBG_GPIO_OE_OE : Fld := ⟨.DBG_GPIO_OE, 0, 32⟩
def DBG_TMUX_STAT_DRIVING : Fld := ⟨.DBG_TMUX_STAT, 3, 1⟩
def DBG_TMUX_STAT_HLU_OK : Fld := ⟨.DBG_TMUX_STAT, 2, 1⟩
def DBG_TMUX_STAT_DBG_EN : Fld := ⟨.DBG_TMUX_STAT, 1, 1⟩
def DBG_TMUX_STAT_UNLOCKED : Fld := ⟨.DBG_TMUX_STAT, 0, 1⟩

end Sys2Proof.Machine.F
end

