-- ==== Sys2Proof/Machine/Store.lean ====
section
/-!
DEFINITION. Sparse stores in one canonical form: keys strictly rising, and no entry equal to what an unlisted key
reads as. Equal stores are then equal lists.
-/

namespace Sys2Proof.Machine

variable {α : Type}

/-- What key `k` holds; `d` says what an unlisted key reads as. -/
def mapGet (d : Nat → α) : SMap α → Nat → α
  | [], k => d k
  | (k', v) :: m, k => if k' = k then v else mapGet d m k

/-- Insert or replace, keeping the keys rising. -/
def mapIns (k : Nat) (v : α) : SMap α → SMap α
  | [] => [(k, v)]
  | (k', v') :: m =>
    if k < k' then (k, v) :: (k', v') :: m
    else if k = k' then (k, v) :: m
    else (k', v') :: mapIns k v m

/-- Remove a key. -/
def mapDel (k : Nat) (m : SMap α) : SMap α := m.filter fun e => e.1 != k

/-- Write a key; writing what the key reads as unlisted removes its entry. -/
def mapSet [DecidableEq α] (d : Nat → α) (m : SMap α) (k : Nat) (v : α) : SMap α :=
  if v = d k then mapDel k m else mapIns k v m

/-- Keep the keys that satisfy `p`; the others return to what they read as unlisted. -/
def mapKeep (p : Nat → Bool) (m : SMap α) : SMap α := m.filter fun e => p e.1

/-- The canonical form. -/
def mapWf [DecidableEq α] (d : Nat → α) (m : SMap α) : Prop :=
  m.Pairwise (fun a b => a.1 < b.1) ∧ ∀ e ∈ m, e.2 ≠ d e.1

/-- Set the `i`-th element of a list; a position beyond the end changes nothing. -/
def listSet (l : List α) (i : Nat) (v : α) : List α := l.set i v

/-- Insert into a list ordered by `le`, behind the elements not after `x`. -/
def insertBy (le : α → α → Bool) (x : α) : List α → List α
  | [] => [x]
  | y :: ys => if le y x then y :: insertBy le x ys else x :: y :: ys

/-- A stable sort. -/
def sortBy (le : α → α → Bool) (l : List α) : List α := l.foldl (fun acc x => insertBy le x acc) []

/-- Change every value, dropping the entries that become what an unlisted key reads as. -/
def mapUpd [DecidableEq α] (d : Nat → α) (f : Nat → α → α) (m : SMap α) : SMap α :=
  (m.map fun e => (e.1, f e.1 e.2)).filter fun e => decide (e.2 ≠ d e.1)

end Sys2Proof.Machine
end

