-- ==== Sys2Proof/Machine/RegFile.lean ====
section
/-!
DEFINITION. The register file as one sparse store: where instance i of a register lies in it, and what it holds after
reset; which instances a register has; the numbers of bore groups.
-/

namespace Sys2Proof.Machine

/-- The key of instance `i` of register `r`. -/
def regKey (r : Reg) (i : Nat) : Nat := i * 512 + r.ctorIdx

/-- The absolute layer of HLU quantity `q` (R564). -/
def hluAbs : Nat → Nat
  | 0 => 14 | 1 => 7 | 2 => 1500 | 3 => 482 | 4 => 880 | 5 => 3774 | 6 => 673 | 7 => 157 | 8 => 101
  | 9 => 550 | 10 => 24000 | 11 => 0xFFFFFFFF | 12 => 0xFFFFFFFF | 13 => 1000 | 14 => 0xFFFFFFFF
  | 15 => 150 | 16 => 16 | 17 => 0x3 | 18 => 0xF0080FF0 | 19 => 64 | _ => 0

/-- Column of router `k`, its mesh row and its mesh position (R296). -/
def routerCol (k : Nat) : Nat := k / 20
def routerRow (k : Nat) : Nat := k % 20 / 4
def routerX (k : Nat) : Nat := k % 4

/-- Whether local port `l` of router `k` has an end point attached (R297, R299): a bridge is not an end point. -/
def hasEndPoint (k l : Nat) : Bool :=
  if routerRow k ≠ 0 then decide (l < 3)
  else match routerX k with
    | 0 => decide (l < 3)
    | 1 => decide (l < 3)
    | 2 => l == 0 || (l == 1 && (routerCol k == 0 || routerCol k == 3))
    | _ => false

/-- The reset value of instance `i` of `r`: the table's, and for these registers a value of the instance.
A weighbridge for RSP starts at RATE 0x010 (R280); an absent local port's fence reads 3 (R363), a bridge port's CLOSED, since PD_BRG is
down at reset (R350); a fixed domain's ON
reads 1 (R506), and PD_AON and PD_NVS are on after power-on reset (R495); each HLU layer starts at the absolute layer
(R574); VDD_AON is up (R493); FB_PREF and AUTO_RET are reserved in monitors 0 to 2 (R486); PRIV and FN per R262. -/
def regReset (r : Reg) (i : Nat) : Word :=
  match r with
  | .BENCH_WB_CTL => if i % 3 = 1 then 0x000C0010 else 0x000C0000
  | .HN_FENCE =>
    if routerRow i = 0 ∧ routerX i = 3 then 0x3A
    else BitVec.ofNat 32 ((if hasEndPoint i 0 then 0 else 3) + 4 * (if hasEndPoint i 1 then 0 else 3)
      + 16 * (if hasEndPoint i 2 then 0 else 3))
  | .PWR_DOM => if i = 0 ∨ i = 2 then 0x83000000 else if i < 6 then 0x80000000 else 0
  | .CLK_MON => if i < 3 then 0 else 0x06000000
  | .PWR_RAIL_STAT => 1
  | .HLU_ABS => BitVec.ofNat 32 (hluAbs i)
  | .HLU_BOARD => BitVec.ofNat 32 (hluAbs i)
  | .HLU_FW => BitVec.ofNat 32 (hluAbs i)
  | .HLU_EFF => BitVec.ofNat 32 (hluAbs i)
  | _ => resetWord r

/-- What a key of the register file reads as unlisted. -/
def regDefault (k : Nat) : Word := regReset (allRegs.getD (k % 512) .CAL_BORE_SEL) (k / 512)

/-- The domain that holds instance `i` of `r` (R494 and the chapters). -/
def regDomain (r : Reg) (i : Nat) : Nat :=
  match domKind r with
  | .fixed d => d
  | .bench per => 33 + i / per
  | .benchCfg per => 29 + i / per / 16
  | .col base per => base + i / per
  | .router per => 6 + routerCol (i / per)
  | .port => 11 + i
  | .lane => 13 + i / 8
  | .octet => 13 + i
  | .ddr => 21 + i / 2
  | .mem => 25 + i / 16
  | .slot => 29 + i / 1024

/-- Column c, row y and position x of bench b (R6). -/
def benchCol (b : Nat) : Nat := b / 16
def benchPos (b : Nat) : Nat := b % 16
def benchY (b : Nat) : Nat := b % 16 / 4
def benchX (b : Nat) : Nat := b % 4

/-- The domain numbers of R494. -/
def dHn (c : Nat) : Nat := 6 + c
def dBrg : Nat := 10
def dPcie (x : Nat) : Nat := 11 + x
def dEth (o : Nat) : Nat := 13 + o
def dDdr (c : Nat) : Nat := 21 + c
def dMem (c : Nat) : Nat := 25 + c
def dCfg (c : Nat) : Nat := 29 + c
def dBench (b : Nat) : Nat := 33 + b

/-- Whether `i` is an instance of `r`. -/
def validInst (r : Reg) (i : Nat) : Bool :=
  match r with
  | .MBX_CMD_DOOR => decide (i < 65)
  | .MBX_RSP_DOOR => decide (i < 65)
  | .MBX_STATUS => decide (i < 65)
  | .MBX_CTL => decide (i < 65)
  | .CAL_BORE_SEL => decide (i < 2)
  | .MEMT_BLK_STAT => decide (i < 64)
  | .MEMT_REMAP_VAL => decide (i < 64)
  | .MEMT_INV => decide (i < 64)
  | .MEMT_ARB => decide (i < 64)
  | .MEMT_PATROL_STAT => decide (i < 64)
  | .MEMT_ECC_CNT => decide (i < 64)
  | .MEMT_FENCE_CNT => decide (i < 64)
  | .MEMT_EVT => decide (i < 64)
  | .MEMT_EVT_EN => decide (i < 64)
  | .MEMT_ERR_LOG_0 => decide (i < 64)
  | .MEMT_ERR_LOG_1 => decide (i < 64)
  | .CTX_SLOT_STAT => decide (i < 4096)
  | .CTX_SLOT_OWNER => decide (i < 4096)
  | .CTX_SLOT_CTL => decide (i < 4096)
  | _ => decide (i < (regPlace r).2.foldl (fun a e => a * e.2) 1)

/-- The fields of a group identifier (R22). -/
def gidCol (g : Nat) : Nat := bitsOf g 30 2
def gidIface (g : Nat) : Nat := bitsOf g 28 2
def gidPeriph (g : Nat) : Nat := bitsOf g 27 1
def gidBenchPos (g : Nat) : Nat := bitsOf g 23 4
def gidIndex (g : Nat) : Nat := bitsOf g 0 19
/-- The bench a group of a bench belongs to. -/
def gidBench (g : Nat) : Nat := 16 * gidCol g + gidBenchPos g

/-- Groups per bench or per column periphery of an interface (R18). -/
def groupCount (iface periph : Nat) : Nat :=
  match iface with
  | 0 => if periph = 1 then 512 else 1248
  | 1 => if periph = 1 then 4096 else 278528
  | 2 => if periph = 1 then 512 else 4096
  | _ => 0

/-- A valid identifier (R23). -/
def gidValid (g : Nat) : Bool :=
  gidIface g != 3 && bitsOf g 19 4 == 0 && !(gidPeriph g == 1 && gidBenchPos g != 0)
    && decide (gidIndex g < groupCount (gidIface g) (gidPeriph g)) && decide (g < 2 ^ 32)

end Sys2Proof.Machine
end

