-- ==== Sys2Proof/Operand.lean ====
section
/-!
DEFINITION. The types of the operands that commands carry: who sent a register access, what a request outside the
device asks, and the data that arrives from outside.
-/

namespace Sys2Proof

/-- Who makes a register access. -/
inductive Src where
  | pf (port : Nat)  -- the PF window through PCIe port 0 (A) or 1 (B)
  | vf (n : Nat)     -- VF n's BAR0
  | fw               -- the Burig controller, over the management network or the private bus
  | other            -- any other haul source
  deriving DecidableEq, Repr

/-- What a configuration request asks of a function's configuration space (R414 to R418, R429). -/
inductive CfgReq where
  | readId                      -- vendor and device ID
  | readClass                   -- class code
  | readCommand                 -- Memory Space Enable and Bus Master Enable
  | setCommand (mse bme : Bool)
  | setVfEnable (on : Bool)     -- SR-IOV VF Enable, PF only
  | readVfEnable
  | readVfs                     -- SR-IOV InitialVFs and TotalVFs
  | readVfPlaces                -- SR-IOV First VF Offset and VF Stride
  | readVfDevice                -- SR-IOV VF Device ID
  | readMsix
  | setMsix (en fm : Bool)      -- MSI-X Enable and Function Mask
  | readBar (hi : Bool)         -- BAR0, its lower or upper half
  | setBar (hi : Bool) (v : Nat)
  | readVfBar (hi : Bool)       -- SR-IOV VF BAR0
  | setVfBar (hi : Bool) (v : Nat)
  | readDevCap                  -- Device Capabilities
  | readDevCtl                  -- Device Control
  | setDevCtl (v : Nat)
  | readDevCap2                 -- Device Capabilities 2
  | readDevCap3                 -- Device Capabilities 3
  | readLinkCap                 -- Link Capabilities
  | readLinkCap2                -- Link Capabilities 2
  | readAerCap                  -- Advanced Error Capabilities and Control
  | findCap (ext : Bool) (id : Nat) -- whether the capability list, or the extended one, holds an ID
  | other (offset : Nat)        -- any other offset, as the standard defines it
  deriving DecidableEq, Repr

/-- A requester's TAG (R322, R326): TAG i of port p of bench b, of PCIe port x for BAR accesses, or of its engine, which
keeps TAGs of its own (R425). -/
inductive Requester where
  | bench (b p i : Nat)
  | pcie (x i : Nat)
  | dma (x i : Nat)
  deriving DecidableEq, Repr

/-- Progress of a DMA piece (R427): the engine issues the next piece of the descriptor at position d with TAG i, `host` the
bytes that host memory gives for a WRITE (none where the host completes with an error); or the haul response arrives. -/
inductive DmaEv where
  | issue (d i : Nat) (host : Option (List Byte))
  | answer (hdr : Nat) (flits : List (Nat × Bool))
  deriving DecidableEq, Repr

/-- What a memory-block port samples at an edge of its clock: no edge of its clock now, the up bundle latched at the
fabric's last edge, or a bundle given with the command (R82, R85). -/
inductive PortIn where
  | noEdge
  | latched
  | bundle (u : Nat)
  deriving DecidableEq, Repr

end Sys2Proof
end

