-- ==== Sys2Proof/Syntax.lean ====
section
/-!
DEFINITION. The commands of the device: one constructor per row of the operation table. An operand carries what the row
is told from outside: an instance, the word of a write, who writes, data that arrives, a measurement.
-/

namespace Sys2Proof

/-- The commands (one constructor per row of the operation table). -/
inductive Instr where
  | registerWrite (src : Src) (r : Reg) (i : Nat) (v : Word)  -- REGISTER_WRITE (R8)
  | powerOnReset  -- POWER_ON_RESET (R624)
  | railUp (n : Nat)  -- RAIL_UP (R493)
  | pwrgoodRise (sbSel : Bool) (sbAddr : Nat) (flashOct : Bool)  -- PWRGOOD_RISE (R627)
  | pwrgoodFall  -- PWRGOOD_FALL (R492)
  | bootRom  -- BOOT_ROM (R627)
  | bootNet  -- BOOT_NET (R627)
  | bootPorts  -- BOOT_PORTS (R627)
  | bootTiers  -- BOOT_TIERS (R627)
  | bootBenches  -- BOOT_BENCHES (R627)
  | bootShell  -- BOOT_SHELL (R629)
  | bootOpen  -- BOOT_OPEN (R628)
  | perstAssert (x : Nat)  -- PERST_ASSERT (R624)
  | perstDeassert (x : Nat)  -- PERST_DEASSERT (R630)
  | pcieLinkUp (x : Nat) (speed : Nat) (width : Nat) (flit : Bool)  -- PCIE_LINK_UP (R428)
  | pcieLinkDown (x : Nat)  -- PCIE_LINK_DOWN (R428)
  | pcieConfigRequest (x : Nat) (fn : Nat) (tag : Nat) (q : CfgReq)  -- PCIE_CONFIG_REQUEST (R416)
  | pcieBarRead (x : Nat) (fn : Nat) (tag : Nat) (o : Nat) (len : Nat) (ht : Nat)  -- PCIE_BAR_READ (R424)
  | pcieBarWrite (x : Nat) (fn : Nat) (o : Nat) (data : List Byte) (ht : Nat)  -- PCIE_BAR_WRITE (R424)
  | barHaulResponse (x : Nat) (hdr : Nat) (flits : List (Nat × Bool))  -- BAR_HAUL_RESPONSE (R424)
  | vfFlr (x : Nat) (n : Nat)  -- VF_FLR (R419)
  | pfFlr (x : Nat)  -- PF_FLR (R419)
  | vfMapWrite (src : Src) (half : Nat) (v : Word)  -- VF_MAP_WRITE (R418)
  | msixUnmask (x : Nat) (fn : Nat) (vec : Nat)  -- MSIX_UNMASK (R429)
  | dmaRingEnable (src : Src) (x : Nat) (v : Word)  -- DMA_RING_ENABLE (R433)
  | dmaRingDisable (src : Src) (x : Nat) (v : Word)  -- DMA_RING_DISABLE (R428)
  | dmaProdWrite (src : Src) (x : Nat) (v : Word)  -- DMA_PROD_WRITE (R428)
  | dmaDescFetch (x : Nat) (word : Option Nat)  -- DMA_DESC_FETCH (R427)
  | dmaPieceComplete (x : Nat) (e : DmaEv)  -- DMA_PIECE_COMPLETE (R427)
  | dmaWriteback (x : Nat)  -- DMA_WRITEBACK (R427)
  | fabricClockEdge (edges : List (Nat × Nat)) (late : List (Nat × Nat × Nat))  -- FABRIC_CLOCK_EDGE (R50)
  | asyncResetAssert (b : Nat) (sx : Nat) (sy : Nat) (g : Nat)  -- ASYNC_RESET_ASSERT (R50)
  | dlymonMeasure (b : Nat) (ps : List Nat)  -- DLYMON_MEASURE (R72)
  | dlymonConverterRotate (b : Nat) (sx : Nat)  -- DLYMON_CONVERTER_ROTATE (R73)
  | idleSpareMismatch (g : Nat) (n : Nat)  -- IDLE_SPARE_MISMATCH (R21)
  | calEvaluationEnd (g : Nat) (bins : List Nat)  -- CAL_EVALUATION_END (R30)
  | trimChangeover (g : Nat)  -- TRIM_CHANGEOVER (R31)
  | trimAcqStep (g : Nat) (bit : Nat)  -- TRIM_ACQ_STEP (R32)
  | evalRestartAfterPause (g : Nat)  -- EVAL_RESTART_AFTER_PAUSE (R33)
  | calBoreTrimWrite (src : Src) (v : Word)  -- CAL_BORE_TRIM_WRITE (R36)
  | portAccess (b : Nat) (n : Nat) (inA : PortIn) (inB : PortIn) (ups : List (Nat × Nat))  -- PORT_ACCESS (R86)
  | blockRetireDone (b : Nat) (n : Nat)  -- BLOCK_RETIRE_DONE (R103)
  | correctionWriteBack (b : Nat) (n : Nat) (port : Nat)  -- CORRECTION_WRITE_BACK (R97)
  | haulMemoryAccess (b : Nat) (n : Nat) (arr : Bool) (q0 : Nat) (q1 : Nat) (q2 : Nat) (flits : List (Nat × Bool)) (fabEn : Bool) (ups : List (Nat × Nat))  -- HAUL_MEMORY_ACCESS (R91)
  | patrolStep (b : Nat) (ups : List (Nat × Nat))  -- PATROL_STEP (R105)
  | patrolForcedCycle (b : Nat) (ups : List (Nat × Nat))  -- PATROL_FORCED_CYCLE (R105)
  | memtInvStart (src : Src) (v : Word)  -- MEMT_INV_START (R114)
  | bulkInvalidateDone (b : Nat)  -- BULK_INVALIDATE_DONE (R94)
  | memtFlipArm (src : Src) (v : Word)  -- MEMT_FLIP_ARM (R112)
  | hopperWrite (b : Nat) (h : Nat) (data : Nat) (sop : Bool) (eop : Bool)  -- HOPPER_WRITE (R127)
  | hopperRead (b : Nat) (h : Nat)  -- HOPPER_READ (R127)
  | hopperPointerSync (b : Nat) (h : Nat) (toRead : Bool)  -- HOPPER_POINTER_SYNC (R130)
  | hopCfgWrite (src : Src) (b : Nat) (h : Nat) (v : Word)  -- HOP_CFG_WRITE (R126)
  | hopperFlush (src : Src) (b : Nat) (h : Nat) (v : Word)  -- HOPPER_FLUSH (R134)
  | hopperFlushApply (b : Nat) (h : Nat) (readSide : Bool)  -- HOPPER_FLUSH_APPLY (R134)
  | hopperTailTimeout (b : Nat) (h : Nat)  -- HOPPER_TAIL_TIMEOUT (R135)
  | hopOwnerWrite (src : Src) (b : Nat) (h : Nat) (v : Word)  -- HOP_OWNER_WRITE (R137)
  | switchCellRequest (b : Nat) (last : Bool)  -- SWITCH_CELL_REQUEST (R160)
  | planeSelSwitch (src : Src) (b : Nat) (v : Word)  -- PLANE_SEL_SWITCH (R162)
  | planeSelOnline (src : Src) (b : Nat) (v : Word)  -- PLANE_SEL_ONLINE (R175)
  | planeSelOffline (src : Src) (b : Nat) (v : Word)  -- PLANE_SEL_OFFLINE (R174)
  | hostRequestPresented (b : Nat) (fab : Bool) (last : Bool)  -- HOST_REQUEST_PRESENTED (R158)
  | deferredCandidateRetry (b : Nat) (last : Bool)  -- DEFERRED_CANDIDATE_RETRY (R178)
  | scheduleEnable (src : Src) (b : Nat) (v : Word)  -- SCHEDULE_ENABLE (R163)
  | schedQuantWrite (src : Src) (b : Nat) (v : Word)  -- SCHED_QUANT_WRITE (R190)
  | scheduleExpiry (b : Nat)  -- SCHEDULE_EXPIRY (R163)
  | scheduleRequestPresented (b : Nat) (fab : Bool) (host : Bool) (last : Bool)  -- SCHEDULE_REQUEST_PRESENTED (R164)
  | benchClksrcWrite (src : Src) (b : Nat) (p : Nat) (v : Word)  -- BENCH_CLKSRC_WRITE (R169)
  | surgeCtlWrite (src : Src) (c : Nat) (v : Word)  -- SURGE_CTL_WRITE (R196)
  | imageEvent (b : Nat)  -- IMAGE_EVENT (R171)
  | stateInitDone (b : Nat)  -- STATE_INIT_DONE (R153)
  | ctxStage (src : Src) (b : Nat) (v : Word)  -- CTX_STAGE (R207)
  | ctxPage (src : Src) (b : Nat) (v : Word)  -- CTX_PAGE (R208)
  | ctxPageFree (src : Src) (b : Nat) (v : Word)  -- CTX_PAGE_FREE (R208)
  | ctxAbort (src : Src) (b : Nat) (v : Word)  -- CTX_ABORT (R675)
  | ctxCopyFrame (b : Nat) (ups : List Nat)  -- CTX_COPY_FRAME (R209)
  | ctxStageCommit (b : Nat)  -- CTX_STAGE_COMMIT (R207)
  | ctxPageCommit (b : Nat)  -- CTX_PAGE_COMMIT (R208)
  | ctxSlotRelease (src : Src) (c : Nat) (v : Word)  -- CTX_SLOT_RELEASE (R202)
  | ctxSlotOwnerWrite (src : Src) (c : Nat) (v : Word)  -- CTX_SLOT_OWNER_WRITE (R201)
  | bulkStoreRefresh (c : Nat)  -- BULK_STORE_REFRESH (R214)
  | slotPatrolStep (c : Nat) (ups : List Nat)  -- SLOT_PATROL_STEP (R215)
  | slotCopyDone (a : Nat) (d : Nat) (ups : List (Nat × Nat))  -- SLOT_COPY_DONE (R213)
  | loadGo (src : Src) (n : Nat) (v : Word)  -- LOAD_GO (R242)
  | loadAbort (src : Src) (n : Nat) (v : Word)  -- LOAD_ABORT (R245)
  | loadDataArrival (n : Nat) (bytes : List Byte)  -- LOAD_DATA_ARRIVAL (R242)
  | loadHoldDone (n : Nat)  -- LOAD_HOLD_DONE (R243)
  | loadCommit (n : Nat)  -- LOAD_COMMIT (R244)
  | loadSourceTimeout (n : Nat)  -- LOAD_SOURCE_TIMEOUT (R245)
  | loadSourceError (n : Nat)  -- LOAD_SOURCE_ERROR (R245)
  | benchAssignWrite (src : Src) (b : Nat) (v : Word)  -- BENCH_ASSIGN_WRITE (R260)
  | fnChangeEffect (b : Nat)  -- FN_CHANGE_EFFECT (R260)
  | gangForm (src : Src) (c : Nat) (v : Word)  -- GANG_FORM (R263)
  | gangFormDone (l : Nat)  -- GANG_FORM_DONE (R264)
  | gangDissolve (src : Src) (c : Nat) (v : Word)  -- GANG_DISSOLVE (R265)
  | mfenceWrite (src : Src) (b : Nat) (p : Nat) (k : Nat) (v : Word)  -- MFENCE_WRITE (R269)
  | hwinWrite (src : Src) (b : Nat) (i : Nat) (v : Word)  -- HWIN_WRITE (R273)
  | laneFenceWrite (src : Src) (b : Nat) (rx : Bool) (hi : Bool) (v : Word)  -- LANE_FENCE_WRITE (R275)
  | wbCtlWrite (src : Src) (b : Nat) (p : Nat) (k : Nat) (v : Word)  -- WB_CTL_WRITE (R279)
  | weighbridgeRefill (b : Nat) (p : Nat)  -- WEIGHBRIDGE_REFILL (R278)
  | weighbridgeAdmit (b : Nat) (p : Nat) (k : Nat)  -- WEIGHBRIDGE_ADMIT (R278)
  | tallySample (b : Nat) (nj : Nat)  -- TALLY_SAMPLE (R282)
  | pcapUpdate (b : Nat)  -- PCAP_UPDATE (R285)
  | collectorEvent (source : Nat)  -- COLLECTOR_EVENT (R288)
  | collectorRecordWrite (ok : Bool)  -- COLLECTOR_RECORD_WRITE (R294)
  | msixModerationExpiry (r : Nat) (vec : Nat)  -- MSIX_MODERATION_EXPIRY (R293)
  | ringEnable (src : Src) (r : Nat) (v : Word)  -- RING_ENABLE (R295)
  | benchPortRequest (b : Nat) (p : Nat) (h : Nat) (tag : Nat)  -- BENCH_PORT_REQUEST (R326)
  | flitArrival (k : Nat) (port : Nat) (w : Nat)  -- FLIT_ARRIVAL (R315)
  | flitFallbackDepart (k : Nat) (out : Nat)  -- FLIT_FALLBACK_DEPART (R315)
  | haulCalibratorTest (k : Nat) (mainSound : Bool) (fallbackSound : Bool)  -- HAUL_CALIBRATOR_TEST (R316)
  | benchPortResponse (b : Nat) (p : Nat) (hdr : Nat) (flits : List (Nat × Bool))  -- BENCH_PORT_RESPONSE (R327)
  | benchPortIncomingRequest (b : Nat) (p : Nat) (hdr : Nat) (flits : List (Nat × Bool))  -- BENCH_PORT_INCOMING_REQUEST (R330)
  | benchPortImageResponse (b : Nat) (p : Nat) (h : Nat)  -- BENCH_PORT_IMAGE_RESPONSE (R330)
  | pendingEntryExpiry (b : Nat) (p : Nat)  -- PENDING_ENTRY_EXPIRY (R330)
  | hportCfgWrite (src : Src) (b : Nat) (p : Nat) (v : Word)  -- HPORT_CFG_WRITE (R332)
  | hportCfgApply (b : Nat) (p : Nat)  -- HPORT_CFG_APPLY (R332)
  | ddrRequest (ch : Nat) (hdr : Nat) (flits : List (Nat × Bool)) (ups : List (Nat × Nat))  -- DDR_REQUEST (R677)
  | ddrRefresh (ch : Nat)  -- DDR_REFRESH (R639)
  | rtEntWrite (src : Src) (k : Nat) (v : Word)  -- RT_ENT_WRITE (R343)
  | epochFlip (src : Src) (v : Word)  -- EPOCH_FLIP (R344)
  | drainComplete  -- DRAIN_COMPLETE (R344)
  | drainTimeout  -- DRAIN_TIMEOUT (R345)
  | fenceClosingDone (k : Nat) (l : Nat)  -- FENCE_CLOSING_DONE (R348)
  | fenceClosingTimeout (k : Nat) (l : Nat)  -- FENCE_CLOSING_TIMEOUT (R348)
  | requestTimeout (q : Requester)  -- REQUEST_TIMEOUT (R353)
  | tagReturn (q : Requester)  -- TAG_RETURN (R353)
  | traceClear (src : Src) (c : Nat) (v : Word)  -- TRACE_CLEAR (R368)
  | boreTestRound (g : Nat)  -- BORE_TEST_ROUND (R371)
  | boreTestEnd (g : Nat) (mismatch : Bool)  -- BORE_TEST_END (R371)
  | groupResume (g : Nat)  -- GROUP_RESUME (R374)
  | shiftStop (b : Nat) (fab : Bool) (host : Bool) (sched : Bool) (last : Bool)  -- SHIFT_STOP (R381)
  | shiftMovePlane (b : Nat) (flips : List Nat)  -- SHIFT_MOVE_PLANE (R382)
  | shiftResume (b : Nat) (fab : Bool) (host : Bool) (sched : Bool) (last : Bool)  -- SHIFT_RESUME (R381)
  | linkRetrainDone (k : Nat) (port : Nat)  -- LINK_RETRAIN_DONE (R385)
  | detourTablesWritten  -- DETOUR_TABLES_WRITTEN (R387)
  | scrubPassStart (c : Nat) (i : Nat) (nvsOk : Bool) (ups : List (Nat × Nat × Nat))  -- SCRUB_PASS_START (R396)
  | scrubFrameCompare (c : Nat) (i : Nat) (slotUps : List Nat) (latchUps : List Nat) (delivery : List Nat)  -- SCRUB_FRAME_COMPARE (R398)
  | scrubRestore (c : Nat) (i : Nat)  -- SCRUB_RESTORE (R399)
  | scrubStateParityCheck (b : Nat) (p : Nat) (flips : List Nat)  -- SCRUB_STATE_PARITY_CHECK (R403)
  | octCfgWrite (src : Src) (o : Nat) (v : Word)  -- OCT_CFG_WRITE (R440)
  | ethRxFrame (n : Nat) (bs : List Byte) (fcsOk : Bool) (ns : Nat) (frac : Nat) (carried : Bool) (corr : Nat) (uncorr : Nat)  -- ETH_RX_FRAME (R443)
  | ethTxFrame (n : Nat) (ns : Nat) (frac : Nat)  -- ETH_TX_FRAME (R444)
  | txtsRead (n : Nat)  -- TXTS_READ (R466)
  | rawRxItem (n : Nat) (item : Nat) (carried : Bool)  -- RAW_RX_ITEM (R449)
  | rawTxItem (n : Nat)  -- RAW_TX_ITEM (R449)
  | laneRestart (src : Src) (n : Nat) (v : Word)  -- LANE_RESTART (R451)
  | detectStep (n : Nat) (present : Bool)  -- DETECT_STEP (R451)
  | trainingFrame (n : Nat) (ctl : Nat) (crc : Nat) (tap : Nat) (ready : Bool)  -- TRAINING_FRAME (R452)
  | lockFrame (n : Nat) (marker : Bool) (chip : Bool)  -- LOCK_FRAME (R451)
  | capabilityFrame (n : Nat) (f : Option (Nat × Nat))  -- CAPABILITY_FRAME (R454)
  | laneTimerExpiry (n : Nat)  -- LANE_TIMER_EXPIRY (R451)
  | losAssert (n : Nat)  -- LOS_ASSERT (R456)
  | lolAssert (n : Nat)  -- LOL_ASSERT (R456)
  | faultRestartTimer (n : Nat)  -- FAULT_RESTART_TIMER (R451)
  | prbsInject (src : Src) (n : Nat) (v : Word)  -- PRBS_INJECT (R455)
  | lanePrbsWrite (src : Src) (n : Nat) (v : Word)  -- LANE_PRBS_WRITE (R455)
  | elementRecalStart (n : Nat) (e : Nat)  -- ELEMENT_RECAL_START (R457)
  | elementRecalDone (n : Nat) (ok : Bool) (bg : Nat) (eye : Nat) (snr : Nat)  -- ELEMENT_RECAL_DONE (R457)
  | oscStable (o : Nat)  -- OSC_STABLE (R468)
  | pllLock (m : Nat) (t : Nat)  -- PLL_LOCK (R469)
  | pllLockDrop (m : Nat) (t : Nat)  -- PLL_LOCK_DROP (R469)
  | clkFabWrite (src : Src) (n : Nat) (v : Word)  -- CLK_FAB_WRITE (R470)
  | monitorWindowEnd (m : Nat) (cnt : Nat)  -- MONITOR_WINDOW_END (R473)
  | twinBlankEnd (o : Nat) (lost : List Nat)  -- TWIN_BLANK_END (R479)
  | rampDwellEnd (m : Nat)  -- RAMP_DWELL_END (R472)
  | dividerStep (b : Nat) (j : Nat)  -- DIVIDER_STEP (R471)
  | clkReturn (m : Nat) (w : Option (Src × Word))  -- CLK_RETURN (R480)
  | deviceTimeTick  -- DEVICE_TIME_TICK (R482)
  | clkoutWrite (src : Src) (i : Nat) (v : Word)  -- CLKOUT_WRITE (R483)
  | domainPowerDown (src : Src) (d : Nat) (v : Word)  -- DOMAIN_POWER_DOWN (R498)
  | domainPowerUp (src : Src) (d : Nat) (v : Word)  -- DOMAIN_POWER_UP (R500)
  | quiesceDone (d : Nat) (fab : Bool) (host : Bool) (sched : Bool) (last : Bool)  -- QUIESCE_DONE (R499)
  | isolateDone (d : Nat)  -- ISOLATE_DONE (R498)
  | gateDone (d : Nat)  -- GATE_DONE (R498)
  | rampSlotFree  -- RAMP_SLOT_FREE (R502)
  | rampDone (d : Nat)  -- RAMP_DONE (R500)
  | initDone (d : Nat)  -- INIT_DONE (R500)
  | measurementInterval (c : Nat) (rd : List (Option Int × Option Int))  -- MEASUREMENT_INTERVAL (R509)
  | throttleRiseTimer (c : Nat)  -- THROTTLE_RISE_TIMER (R518)
  | throttleRecoveryTimer (c : Nat)  -- THROTTLE_RECOVERY_TIMER (R518)
  | thermalLevelUpdate (b : Nat)  -- THERMAL_LEVEL_UPDATE (R519)
  | graceEnd (b : Nat)  -- GRACE_END (R520)
  | exemptCheck (b : Nat)  -- EXEMPT_CHECK (R520)
  | hardwareTrip (n : Nat)  -- HARDWARE_TRIP (R526)
  | converterRotate (bank : Nat) (ch : Nat) (bgs : List Nat)  -- CONVERTER_ROTATE (R511)
  | railMeasure (rails : List (Nat × Nat)) (tiers : List Nat)  -- RAIL_MEASURE (R528)
  | hluLevelTimer  -- HLU_LEVEL_TIMER (R569)
  | thmLimitsWrite (src : Src) (v : Word)  -- THM_LIMITS_WRITE (R517)
  | hluBoardWrite (src : Src) (q : Nat) (v : Word)  -- HLU_BOARD_WRITE (R565)
  | hluLock (src : Src) (v : Word)  -- HLU_LOCK (R575)
  | lockstepMismatch  -- LOCKSTEP_MISMATCH (R541)
  | watchdogExpiry  -- WATCHDOG_EXPIRY (R545)
  | fwRestart (src : Src) (v : Word)  -- FW_RESTART (R545)
  | controllerOpen  -- CONTROLLER_OPEN (R546)
  | mbxRing (src : Src) (m : Nat) (v : Word) (page : List Byte)  -- MBX_RING (R552)
  | mbxAck (src : Src) (m : Nat) (v : Word)  -- MBX_ACK (R552)
  | mbxAbort (src : Src) (m : Nat) (v : Word)  -- MBX_ABORT (R555)
  | pageTimerExpiry (m : Nat)  -- PAGE_TIMER_EXPIRY (R554)
  | mctpMessage (tag : Nat) (msg : List Byte)  -- MCTP_MESSAGE (R561)
  | setEndpointId (eid : Nat)  -- SET_ENDPOINT_ID (R560)
  | getEndpointId  -- GET_ENDPOINT_ID (R560)
  | getMctpVersionSupport (msgType : Nat)  -- GET_MCTP_VERSION_SUPPORT (R560)
  | getMessageTypeSupport  -- GET_MESSAGE_TYPE_SUPPORT (R560)
  | getVendorDefinedMsgSupport (selector : Nat)  -- GET_VENDOR_DEFINED_MSG_SUPPORT (R560)
  | devInfo (mb : Nat)  -- DEV_INFO (R583)
  | devTime (mb : Nat)  -- DEV_TIME (R583)
  | otpStep (mb : Nat) (vpp : Bool)  -- OTP_STEP (R584)
  | otpStepTimeout  -- OTP_STEP_TIMEOUT (R584)
  | otpBoard (mb : Nat) (vpp : Bool)  -- OTP_BOARD (R585)
  | benchAssign (mb : Nat)  -- BENCH_ASSIGN (R586)
  | gangFormCmd (mb : Nat)  -- GANG_FORM_CMD (R587)
  | gangDissolveCmd (mb : Nat)  -- GANG_DISSOLVE_CMD (R587)
  | mfenceSet (mb : Nat)  -- MFENCE_SET (R587)
  | hwinSet (mb : Nat)  -- HWIN_SET (R587)
  | laneFence (mb : Nat)  -- LANE_FENCE (R587)
  | wbSet (mb : Nat)  -- WB_SET (R586)
  | pcapSet (mb : Nat)  -- PCAP_SET (R586)
  | hopperSet (mb : Nat)  -- HOPPER_SET (R587)
  | declApply (mb : Nat)  -- DECL_APPLY (R588)
  | benchStatus (mb : Nat)  -- BENCH_STATUS (R586)
  | slotCopy (mb : Nat)  -- SLOT_COPY (R590)
  | slotOwner (mb : Nat)  -- SLOT_OWNER (R590)
  | slotRelease (mb : Nat)  -- SLOT_RELEASE (R590)
  | slotList (mb : Nat)  -- SLOT_LIST (R590)
  | scrubSet (mb : Nat) (ok : Bool)  -- SCRUB_SET (R591)
  | octetCfg (mb : Nat)  -- OCTET_CFG (R592)
  | laneStatus (mb : Nat)  -- LANE_STATUS (R592)
  | laneRestartCmd (mb : Nat)  -- LANE_RESTART_CMD (R592)
  | domainSet (mb : Nat)  -- DOMAIN_SET (R594)
  | domainList (mb : Nat)  -- DOMAIN_LIST (R593)
  | thmSet (mb : Nat)  -- THM_SET (R595)
  | telemetry (mb : Nat)  -- TELEMETRY (R593)
  | hluFwSet (mb : Nat)  -- HLU_FW_SET (R596)
  | calRead (mb : Nat)  -- CAL_READ (R598)
  | calWrite (mb : Nat)  -- CAL_WRITE (R598)
  | spoilRead (mb : Nat)  -- SPOIL_READ (R599)
  | spoilClear (mb : Nat) (ok : Bool)  -- SPOIL_CLEAR (R600)
  | routerRetire (mb : Nat)  -- ROUTER_RETIRE (R601)
  | columnShift (mb : Nat)  -- COLUMN_SHIFT (R602)
  | wplRingRead (mb : Nat)  -- WPL_RING_READ (R604)
  | wplFreeze (mb : Nat)  -- WPL_FREEZE (R604)
  | wplResume (mb : Nat)  -- WPL_RESUME (R604)
  | wplRecordList (mb : Nat)  -- WPL_RECORD_LIST (R603)
  | wplRecordRead (mb : Nat)  -- WPL_RECORD_READ (R603)
  | fwWrite (mb : Nat) (back : List Byte)  -- FW_WRITE (R606)
  | fwVerify (mb : Nat)  -- FW_VERIFY (R606)
  | fwActivate (mb : Nat)  -- FW_ACTIVATE (R607)
  | fwMinSvn (mb : Nat) (vpp : Bool)  -- FW_MIN_SVN (R607)
  | tmuxUnlock (mb : Nat)  -- TMUX_UNLOCK (R609)
  | tmuxSelect (mb : Nat)  -- TMUX_SELECT (R609)
  | dbgEnChange (on : Bool)  -- DBG_EN_CHANGE (R653)
  | weapelEntry  -- WEAPEL_ENTRY (R613)
  | recordCopyDone (ok : Bool)  -- RECORD_COPY_DONE (R617)
  | wplCtlFreeze (src : Src) (v : Word)  -- WPL_CTL_FREEZE (R621)
  | wplCtlResume (src : Src) (v : Word)  -- WPL_CTL_RESUME (R621)
  | floorReset (src : Src) (v : Word)  -- FLOOR_RESET (R631)
  | floorResetEnterDone  -- FLOOR_RESET_ENTER_DONE (R632)
  | floorResetHoldEnd  -- FLOOR_RESET_HOLD_END (R632)
  | floorResetReleaseDone (evals : List (Nat × List Nat))  -- FLOOR_RESET_RELEASE_DONE (R634)
  | ddrTrain (src : Src) (ch : Nat) (v : Word)  -- DDR_TRAIN (R642)
  | ddrTrainingDone (ch : Nat) (spd : Option Nat) (ok : Bool) (ms : Nat)  -- DDR_TRAINING_DONE (R642)
  | ddrSelfrefEntryDone (ch : Nat)  -- DDR_SELFREF_ENTRY_DONE (R642)
  | tapReset  -- TAP_RESET (R624)
  | tapBypass  -- TAP_BYPASS (R652)
  | tapIdcode  -- TAP_IDCODE (R652)
  | tapSamplePreload  -- TAP_SAMPLE_PRELOAD (R652)
  | tapExtest  -- TAP_EXTEST (R653)
  | tapClamp  -- TAP_CLAMP (R653)
  | tapHighz  -- TAP_HIGHZ (R653)
  | tapExtestPulse  -- TAP_EXTEST_PULSE (R653)
  | tapExtestTrain  -- TAP_EXTEST_TRAIN (R653)
  | railDown (n : Nat)  -- RAIL_DOWN (R505)
  | losClear (n : Nat)  -- LOS_CLEAR (R456)
  | readingLoLatchesHi (src : Src) (r : Reg) (i : Nat)  -- READING_LO_LATCHES_HI (R283)
  | cataloguedTimeExceeded (mb : Nat)  -- CATALOGUED_TIME_EXCEEDED (R578)
  | autoNegotiationPage (n : Nat) (rf : Bool) (done : Bool)  -- AUTO_NEGOTIATION_PAGE (R451)
  | linkTrainingFrame (n : Nat) (done : Bool)  -- LINK_TRAINING_FRAME (R451)
  | dynamicAddressAssignment (addr : Nat)  -- DYNAMIC_ADDRESS_ASSIGNMENT (R648)
  deriving DecidableEq, Repr

end Sys2Proof
end

