-- ==== Sys2Proof/WellFormed.lean ====
section
/-!
DEFINITION. Which commands the device can be given: every number of an instance within the range that the spec counts
(R6, R18, R22, R296, R322, R353, R550 and the register tables), every datum within its width. The meanings are total;
statements about commands take this as their premise where they need a range.
-/

namespace Sys2Proof

open Sys2Proof.Machine (validInst gidValid)

/-- A sender: PCIe port A or B, a VF of the 64, the controller, another source. -/
def Src.wf : Src → Bool
  | .pf x => decide (x < 2)
  | .vf n => decide (n < 64)
  | .fw => true
  | .other => true

/-- A TAG of 512 at a bench port, at a PCIe end point or at its engine (R322, R326, R425). -/
def Requester.wf : Requester → Bool
  | .bench b p i => decide (b < 64 ∧ p < 2 ∧ i < 512)
  | .pcie x i => decide (x < 2 ∧ i < 512)
  | .dma x i => decide (x < 2 ∧ i < 512)

/-- A DMA event: a place among the 8 descriptors in progress and a TAG, or a haul header (R302, R427). -/
def DmaEv.wf : DmaEv → Bool
  | .issue d i _ => decide (d < 8 ∧ i < 512)
  | .answer hdr _ => decide (hdr < 2 ^ 192)

/-- A well-formed command. -/
def Instr.wf : Instr → Bool
  | .registerWrite src r i _ => src.wf && validInst r i
  | .powerOnReset => true
  | .railUp n => decide (n < 9)
  | .pwrgoodRise _ sbAddr _ => decide (sbAddr < 4)
  | .pwrgoodFall => true
  | .bootRom => true
  | .bootNet => true
  | .bootPorts => true
  | .bootTiers => true
  | .bootBenches => true
  | .bootShell => true
  | .bootOpen => true
  | .perstAssert x => decide (x < 2)
  | .perstDeassert x => decide (x < 2)
  | .pcieLinkUp x speed width flit =>
    decide (x < 2 ∧ 1 ≤ speed ∧ speed ≤ 6) && [1, 2, 4, 8, 16].contains width && flit == (speed == 6)
  | .pcieLinkDown x => decide (x < 2)
  | .pcieConfigRequest x fn _ _ => decide (x < 2 ∧ fn < 65)
  | .pcieBarRead x fn _ _ len ht => decide (x < 2 ∧ fn < 65 ∧ 0 < len ∧ ht < 512)
  | .pcieBarWrite x fn _ data ht => decide (x < 2 ∧ fn < 65 ∧ data ≠ [] ∧ ht < 512)
  | .barHaulResponse x hdr _ => decide (x < 2 ∧ hdr < 2 ^ 192)
  | .vfFlr x n => decide (x < 2 ∧ n < 64)
  | .pfFlr x => decide (x < 2)
  | .vfMapWrite src half _ => decide (half < 2) && src.wf
  | .msixUnmask x fn vec => decide (x < 2 ∧ fn < 65 ∧ vec < 8)
  | .dmaRingEnable src x _ => decide (x < 2) && src.wf
  | .dmaRingDisable src x _ => decide (x < 2) && src.wf
  | .dmaProdWrite src x _ => decide (x < 2) && src.wf
  | .dmaDescFetch x word => decide (x < 2) && (word.all fun w => decide (w < 2 ^ 256))
  | .dmaPieceComplete x e => decide (x < 2) && e.wf
  | .dmaWriteback x => decide (x < 2)
  | .fabricClockEdge _ _ => true
  | .asyncResetAssert b sx sy g => decide (b < 64 ∧ sx < 33 ∧ sy < 32 ∧ g < 8)
  | .dlymonMeasure b ps => decide (b < 64 ∧ ps.length = 33)
  | .dlymonConverterRotate b sx => decide (b < 64 ∧ sx < 33)
  | .idleSpareMismatch g n => decide (n < 4) && gidValid g
  | .calEvaluationEnd g bins => decide (bins.length = 16) && gidValid g
  | .trimChangeover g => gidValid g
  | .trimAcqStep g bit => decide (bit < 2) && gidValid g
  | .evalRestartAfterPause g => gidValid g
  | .calBoreTrimWrite src _ => src.wf
  | .portAccess b n _ _ _ => decide (b < 64 ∧ n < 1024)
  | .blockRetireDone b n => decide (b < 64 ∧ n < 1024)
  | .correctionWriteBack b n port => decide (b < 64 ∧ n < 1024 ∧ port < 2)
  | .haulMemoryAccess b n _ q0 q1 q2 _ _ _ => decide (b < 64 ∧ n < 1024 ∧ q0 < 2 ^ 64 ∧ q1 < 2 ^ 64 ∧ q2 < 2 ^ 64)
  | .patrolStep b _ => decide (b < 64)
  | .patrolForcedCycle b _ => decide (b < 64)
  | .memtInvStart src _ => src.wf
  | .bulkInvalidateDone b => decide (b < 64)
  | .memtFlipArm src _ => src.wf
  | .hopperWrite b h data _ _ => decide (b < 64 ∧ h < 32 ∧ data < 2 ^ 144)
  | .hopperRead b h => decide (b < 64 ∧ h < 32)
  | .hopperPointerSync b h _ => decide (b < 64 ∧ h < 32)
  | .hopCfgWrite src b h _ => decide (b < 64 ∧ h < 32) && src.wf
  | .hopperFlush src b h _ => decide (b < 64 ∧ h < 32) && src.wf
  | .hopperFlushApply b h _ => decide (b < 64 ∧ h < 32)
  | .hopperTailTimeout b h => decide (b < 64 ∧ h < 32)
  | .hopOwnerWrite src b h _ => decide (b < 64 ∧ h < 32) && src.wf
  | .switchCellRequest b _ => decide (b < 64)
  | .planeSelSwitch src b _ => decide (b < 64) && src.wf
  | .planeSelOnline src b _ => decide (b < 64) && src.wf
  | .planeSelOffline src b _ => decide (b < 64) && src.wf
  | .hostRequestPresented b _ _ => decide (b < 64)
  | .deferredCandidateRetry b _ => decide (b < 64)
  | .scheduleEnable src b _ => decide (b < 64) && src.wf
  | .schedQuantWrite src b _ => decide (b < 64) && src.wf
  | .scheduleExpiry b => decide (b < 64)
  | .scheduleRequestPresented b _ _ _ => decide (b < 64)
  | .benchClksrcWrite src b p _ => decide (b < 64 ∧ p < 8) && src.wf
  | .surgeCtlWrite src c _ => decide (c < 4) && src.wf
  | .imageEvent b => decide (b < 64)
  | .stateInitDone b => decide (b < 64)
  | .ctxStage src b _ => decide (b < 64) && src.wf
  | .ctxPage src b _ => decide (b < 64) && src.wf
  | .ctxPageFree src b _ => decide (b < 64) && src.wf
  | .ctxAbort src b _ => decide (b < 64) && src.wf
  | .ctxCopyFrame b _ => decide (b < 64)
  | .ctxStageCommit b => decide (b < 64)
  | .ctxPageCommit b => decide (b < 64)
  | .ctxSlotRelease src c _ => decide (c < 4) && src.wf
  | .ctxSlotOwnerWrite src c _ => decide (c < 4) && src.wf
  | .bulkStoreRefresh c => decide (c < 4)
  | .slotPatrolStep c _ => decide (c < 4)
  | .slotCopyDone a d _ => decide (a < 4096 ∧ d < 4096)
  | .loadGo src n _ => decide (n < 4) && src.wf
  | .loadAbort src n _ => decide (n < 4) && src.wf
  | .loadDataArrival n _ => decide (n < 4)
  | .loadHoldDone n => decide (n < 4)
  | .loadCommit n => decide (n < 4)
  | .loadSourceTimeout n => decide (n < 4)
  | .loadSourceError n => decide (n < 4)
  | .benchAssignWrite src b _ => decide (b < 64) && src.wf
  | .fnChangeEffect b => decide (b < 64)
  | .gangForm src c _ => decide (c < 4) && src.wf
  | .gangFormDone l => decide (l < 64)
  | .gangDissolve src c _ => decide (c < 4) && src.wf
  | .mfenceWrite src b p k _ => decide (b < 64 ∧ p < 8 ∧ k < 4) && src.wf
  | .hwinWrite src b i _ => decide (b < 64 ∧ i < 16) && src.wf
  | .laneFenceWrite src b _ _ _ => decide (b < 64) && src.wf
  | .wbCtlWrite src b p k _ => decide (b < 64 ∧ p < 2 ∧ k < 3) && src.wf
  | .weighbridgeRefill b p => decide (b < 64 ∧ p < 2)
  | .weighbridgeAdmit b p k => decide (b < 64 ∧ p < 2 ∧ k < 3)
  | .tallySample b _ => decide (b < 64)
  | .pcapUpdate b => decide (b < 64)
  | .collectorEvent source => decide (source < 96)
  | .collectorRecordWrite _ => true
  | .msixModerationExpiry r vec => decide (r < 65 ∧ vec < 8)
  | .ringEnable src r _ => decide (r < 65) && src.wf
  | .benchPortRequest b p h tag => decide (b < 64 ∧ p < 2 ∧ h < 32 ∧ tag < 512)
  | .flitArrival k port w => decide (k < 80 ∧ port < 11 ∧ port ≠ 7 ∧ w < 2 ^ 580)
  | .flitFallbackDepart k out => decide (k < 80 ∧ out < 7)
  | .haulCalibratorTest k _ _ => decide (k < 80)
  | .benchPortResponse b p hdr _ => decide (b < 64 ∧ p < 2 ∧ hdr < 2 ^ 192)
  | .benchPortIncomingRequest b p hdr _ => decide (b < 64 ∧ p < 2 ∧ hdr < 2 ^ 192)
  | .benchPortImageResponse b p h => decide (b < 64 ∧ p < 2 ∧ h < 32)
  | .pendingEntryExpiry b p => decide (b < 64 ∧ p < 2)
  | .hportCfgWrite src b p _ => decide (b < 64 ∧ p < 2) && src.wf
  | .hportCfgApply b p => decide (b < 64 ∧ p < 2)
  | .ddrRequest ch hdr _ _ => decide (ch < 8 ∧ hdr < 2 ^ 192)
  | .ddrRefresh ch => decide (ch < 8)
  | .rtEntWrite src k _ => decide (k < 80) && src.wf
  | .epochFlip src _ => src.wf
  | .drainComplete => true
  | .drainTimeout => true
  | .fenceClosingDone k l => decide (k < 80 ∧ l < 3)
  | .fenceClosingTimeout k l => decide (k < 80 ∧ l < 3)
  | .requestTimeout q => q.wf
  | .tagReturn q => q.wf
  | .traceClear src c _ => decide (c < 4) && src.wf
  | .boreTestRound g => gidValid g
  | .boreTestEnd g _ => gidValid g
  | .groupResume g => gidValid g
  | .shiftStop b _ _ _ _ => decide (b < 64)
  | .shiftMovePlane b _ => decide (b < 64)
  | .shiftResume b _ _ _ _ => decide (b < 64)
  | .linkRetrainDone k port => decide (k < 80 ∧ port < 11 ∧ port ≠ 7)
  | .detourTablesWritten => true
  | .scrubPassStart c i _ _ => decide (c < 4 ∧ i < 2)
  | .scrubFrameCompare c i _ _ _ => decide (c < 4 ∧ i < 2)
  | .scrubRestore c i => decide (c < 4 ∧ i < 2)
  | .scrubStateParityCheck b p _ => decide (b < 64 ∧ p < 8)
  | .octCfgWrite src o _ => decide (o < 8) && src.wf
  | .ethRxFrame n _ _ ns frac _ _ _ => decide (n < 64 ∧ ns < 40 ∧ frac < 2 ^ 8)
  | .ethTxFrame n ns frac => decide (n < 64 ∧ ns < 40 ∧ frac < 2 ^ 8)
  | .txtsRead n => decide (n < 64)
  | .rawRxItem n item _ => decide (n < 64 ∧ item < 2 ^ 66)
  | .rawTxItem n => decide (n < 64)
  | .laneRestart src n _ => decide (n < 64) && src.wf
  | .detectStep n _ => decide (n < 64)
  | .trainingFrame n ctl crc tap _ => decide (n < 64 ∧ ctl < 2 ^ 16 ∧ crc < 2 ^ 16 ∧ tap < 2 ^ 8)
  | .lockFrame n _ _ => decide (n < 64)
  | .capabilityFrame n f => decide (n < 64) && (f.all fun x => decide (x.1 < 2 ^ 256 ∧ x.2 < 2 ^ 32))
  | .laneTimerExpiry n => decide (n < 64)
  | .losAssert n => decide (n < 64)
  | .lolAssert n => decide (n < 64)
  | .faultRestartTimer n => decide (n < 64)
  | .prbsInject src n _ => decide (n < 64) && src.wf
  | .lanePrbsWrite src n _ => decide (n < 64) && src.wf
  | .elementRecalStart n e => decide (n < 64 ∧ e < 72)
  | .elementRecalDone n _ bg _ _ => decide (n < 64 ∧ bg < 256)
  | .oscStable o => decide (o < 13)
  | .pllLock m t => decide (3 ≤ m ∧ m < 54 ∧ t < 2)
  | .pllLockDrop m t => decide (3 ≤ m ∧ m < 54 ∧ t < 2)
  | .clkFabWrite src n _ => decide (n < 32) && src.wf
  | .monitorWindowEnd m _ => decide (m < 54)
  | .twinBlankEnd o lost => decide (o < 8) && (lost.all fun j => decide (j < 8))
  | .rampDwellEnd m => decide (3 ≤ m ∧ m < 54)
  | .dividerStep b j => decide (b < 64 ∧ j < 4)
  | .clkReturn m w => decide (3 ≤ m ∧ m < 54) && (w.all fun x => x.1.wf)
  | .deviceTimeTick => true
  | .clkoutWrite src i _ => decide (i < 2) && src.wf
  | .domainPowerDown src d _ => decide (d < 97) && src.wf
  | .domainPowerUp src d _ => decide (d < 97) && src.wf
  | .quiesceDone d _ _ _ _ => decide (d < 97)
  | .isolateDone d => decide (d < 97)
  | .gateDone d => decide (d < 97)
  | .rampSlotFree => true
  | .rampDone d => decide (d < 97)
  | .initDone d => decide (d < 97)
  | .measurementInterval c rd => decide (c < 4 ∧ rd.length = 24)
  | .throttleRiseTimer c => decide (c < 4)
  | .throttleRecoveryTimer c => decide (c < 4)
  | .thermalLevelUpdate b => decide (b < 64)
  | .graceEnd b => decide (b < 64)
  | .exemptCheck b => decide (b < 64)
  | .hardwareTrip n => decide (n < 96 ∧ (n % 24 < 16 ∨ 20 ≤ n % 24))
  | .converterRotate bank ch _ => decide (bank < 5 ∧ ch < (if bank = 4 then 18 else 8))
  | .railMeasure rails tiers => decide (rails.length = 9 ∧ tiers.length = 8)
  | .hluLevelTimer => true
  | .thmLimitsWrite src _ => src.wf
  | .hluBoardWrite src q _ => decide (q < 20) && src.wf
  | .hluLock src _ => src.wf
  | .lockstepMismatch => true
  | .watchdogExpiry => true
  | .fwRestart src _ => src.wf
  | .controllerOpen => true
  | .mbxRing src m _ _ => decide (m < 65) && src.wf
  | .mbxAck src m _ => decide (m < 65) && src.wf
  | .mbxAbort src m _ => decide (m < 65) && src.wf
  | .pageTimerExpiry m => decide (m < 66)
  | .mctpMessage _ _ => true
  | .setEndpointId eid => decide (eid < 256)
  | .getEndpointId => true
  | .getMctpVersionSupport _ => true
  | .getMessageTypeSupport => true
  | .getVendorDefinedMsgSupport _ => true
  | .devInfo mb => decide (mb < 66)
  | .devTime mb => decide (mb < 66)
  | .otpStep mb _ => decide (mb < 66)
  | .otpStepTimeout => true
  | .otpBoard mb _ => decide (mb < 66)
  | .benchAssign mb => decide (mb < 66)
  | .gangFormCmd mb => decide (mb < 66)
  | .gangDissolveCmd mb => decide (mb < 66)
  | .mfenceSet mb => decide (mb < 66)
  | .hwinSet mb => decide (mb < 66)
  | .laneFence mb => decide (mb < 66)
  | .wbSet mb => decide (mb < 66)
  | .pcapSet mb => decide (mb < 66)
  | .hopperSet mb => decide (mb < 66)
  | .declApply mb => decide (mb < 66)
  | .benchStatus mb => decide (mb < 66)
  | .slotCopy mb => decide (mb < 66)
  | .slotOwner mb => decide (mb < 66)
  | .slotRelease mb => decide (mb < 66)
  | .slotList mb => decide (mb < 66)
  | .scrubSet mb _ => decide (mb < 66)
  | .octetCfg mb => decide (mb < 66)
  | .laneStatus mb => decide (mb < 66)
  | .laneRestartCmd mb => decide (mb < 66)
  | .domainSet mb => decide (mb < 66)
  | .domainList mb => decide (mb < 66)
  | .thmSet mb => decide (mb < 66)
  | .telemetry mb => decide (mb < 66)
  | .hluFwSet mb => decide (mb < 66)
  | .calRead mb => decide (mb < 66)
  | .calWrite mb => decide (mb < 66)
  | .spoilRead mb => decide (mb < 66)
  | .spoilClear mb _ => decide (mb < 66)
  | .routerRetire mb => decide (mb < 66)
  | .columnShift mb => decide (mb < 66)
  | .wplRingRead mb => decide (mb < 66)
  | .wplFreeze mb => decide (mb < 66)
  | .wplResume mb => decide (mb < 66)
  | .wplRecordList mb => decide (mb < 66)
  | .wplRecordRead mb => decide (mb < 66)
  | .fwWrite mb _ => decide (mb < 66)
  | .fwVerify mb => decide (mb < 66)
  | .fwActivate mb => decide (mb < 66)
  | .fwMinSvn mb _ => decide (mb < 66)
  | .tmuxUnlock mb => decide (mb < 66)
  | .tmuxSelect mb => decide (mb < 66)
  | .dbgEnChange _ => true
  | .weapelEntry => true
  | .recordCopyDone _ => true
  | .wplCtlFreeze src _ => src.wf
  | .wplCtlResume src _ => src.wf
  | .floorReset src _ => src.wf
  | .floorResetEnterDone => true
  | .floorResetHoldEnd => true
  | .floorResetReleaseDone _ => true
  | .ddrTrain src ch _ => decide (ch < 8) && src.wf
  | .ddrTrainingDone ch _ _ _ => decide (ch < 8)
  | .ddrSelfrefEntryDone ch => decide (ch < 8)
  | .tapReset => true
  | .tapBypass => true
  | .tapIdcode => true
  | .tapSamplePreload => true
  | .tapExtest => true
  | .tapClamp => true
  | .tapHighz => true
  | .tapExtestPulse => true
  | .tapExtestTrain => true
  | .railDown n => decide (n < 9)
  | .losClear n => decide (n < 64)
  | .readingLoLatchesHi src r i => src.wf && validInst r i
  | .cataloguedTimeExceeded mb => decide (mb < 66)
  | .autoNegotiationPage n _ _ => decide (n < 64)
  | .linkTrainingFrame n _ => decide (n < 64)
  | .dynamicAddressAssignment addr => decide (addr < 128)

/-- Who sends a command that writes a register, as far as the command says. -/
def Instr.sender : Instr → Option Src
  | .registerWrite src _ _ _ => some src
  | .powerOnReset => none
  | .railUp _ => none
  | .pwrgoodRise _ _ _ => none
  | .pwrgoodFall => none
  | .bootRom => none
  | .bootNet => none
  | .bootPorts => none
  | .bootTiers => none
  | .bootBenches => none
  | .bootShell => none
  | .bootOpen => none
  | .perstAssert _ => none
  | .perstDeassert _ => none
  | .pcieLinkUp _ _ _ _ => none
  | .pcieLinkDown _ => none
  | .pcieConfigRequest _ _ _ _ => none
  | .pcieBarRead _ _ _ _ _ _ => none
  | .pcieBarWrite _ _ _ _ _ => none
  | .barHaulResponse _ _ _ => none
  | .vfFlr _ _ => none
  | .pfFlr _ => none
  | .vfMapWrite src _ _ => some src
  | .msixUnmask _ _ _ => none
  | .dmaRingEnable src _ _ => some src
  | .dmaRingDisable src _ _ => some src
  | .dmaProdWrite src _ _ => some src
  | .dmaDescFetch _ _ => none
  | .dmaPieceComplete _ _ => none
  | .dmaWriteback _ => none
  | .fabricClockEdge _ _ => none
  | .asyncResetAssert _ _ _ _ => none
  | .dlymonMeasure _ _ => none
  | .dlymonConverterRotate _ _ => none
  | .idleSpareMismatch _ _ => none
  | .calEvaluationEnd _ _ => none
  | .trimChangeover _ => none
  | .trimAcqStep _ _ => none
  | .evalRestartAfterPause _ => none
  | .calBoreTrimWrite src _ => some src
  | .portAccess _ _ _ _ _ => none
  | .blockRetireDone _ _ => none
  | .correctionWriteBack _ _ _ => none
  | .haulMemoryAccess _ _ _ _ _ _ _ _ _ => none
  | .patrolStep _ _ => none
  | .patrolForcedCycle _ _ => none
  | .memtInvStart src _ => some src
  | .bulkInvalidateDone _ => none
  | .memtFlipArm src _ => some src
  | .hopperWrite _ _ _ _ _ => none
  | .hopperRead _ _ => none
  | .hopperPointerSync _ _ _ => none
  | .hopCfgWrite src _ _ _ => some src
  | .hopperFlush src _ _ _ => some src
  | .hopperFlushApply _ _ _ => none
  | .hopperTailTimeout _ _ => none
  | .hopOwnerWrite src _ _ _ => some src
  | .switchCellRequest _ _ => none
  | .planeSelSwitch src _ _ => some src
  | .planeSelOnline src _ _ => some src
  | .planeSelOffline src _ _ => some src
  | .hostRequestPresented _ _ _ => none
  | .deferredCandidateRetry _ _ => none
  | .scheduleEnable src _ _ => some src
  | .schedQuantWrite src _ _ => some src
  | .scheduleExpiry _ => none
  | .scheduleRequestPresented _ _ _ _ => none
  | .benchClksrcWrite src _ _ _ => some src
  | .surgeCtlWrite src _ _ => some src
  | .imageEvent _ => none
  | .stateInitDone _ => none
  | .ctxStage src _ _ => some src
  | .ctxPage src _ _ => some src
  | .ctxPageFree src _ _ => some src
  | .ctxAbort src _ _ => some src
  | .ctxCopyFrame _ _ => none
  | .ctxStageCommit _ => none
  | .ctxPageCommit _ => none
  | .ctxSlotRelease src _ _ => some src
  | .ctxSlotOwnerWrite src _ _ => some src
  | .bulkStoreRefresh _ => none
  | .slotPatrolStep _ _ => none
  | .slotCopyDone _ _ _ => none
  | .loadGo src _ _ => some src
  | .loadAbort src _ _ => some src
  | .loadDataArrival _ _ => none
  | .loadHoldDone _ => none
  | .loadCommit _ => none
  | .loadSourceTimeout _ => none
  | .loadSourceError _ => none
  | .benchAssignWrite src _ _ => some src
  | .fnChangeEffect _ => none
  | .gangForm src _ _ => some src
  | .gangFormDone _ => none
  | .gangDissolve src _ _ => some src
  | .mfenceWrite src _ _ _ _ => some src
  | .hwinWrite src _ _ _ => some src
  | .laneFenceWrite src _ _ _ _ => some src
  | .wbCtlWrite src _ _ _ _ => some src
  | .weighbridgeRefill _ _ => none
  | .weighbridgeAdmit _ _ _ => none
  | .tallySample _ _ => none
  | .pcapUpdate _ => none
  | .collectorEvent _ => none
  | .collectorRecordWrite _ => none
  | .msixModerationExpiry _ _ => none
  | .ringEnable src _ _ => some src
  | .benchPortRequest _ _ _ _ => none
  | .flitArrival _ _ _ => none
  | .flitFallbackDepart _ _ => none
  | .haulCalibratorTest _ _ _ => none
  | .benchPortResponse _ _ _ _ => none
  | .benchPortIncomingRequest _ _ _ _ => none
  | .benchPortImageResponse _ _ _ => none
  | .pendingEntryExpiry _ _ => none
  | .hportCfgWrite src _ _ _ => some src
  | .hportCfgApply _ _ => none
  | .ddrRequest _ _ _ _ => none
  | .ddrRefresh _ => none
  | .rtEntWrite src _ _ => some src
  | .epochFlip src _ => some src
  | .drainComplete => none
  | .drainTimeout => none
  | .fenceClosingDone _ _ => none
  | .fenceClosingTimeout _ _ => none
  | .requestTimeout _ => none
  | .tagReturn _ => none
  | .traceClear src _ _ => some src
  | .boreTestRound _ => none
  | .boreTestEnd _ _ => none
  | .groupResume _ => none
  | .shiftStop _ _ _ _ _ => none
  | .shiftMovePlane _ _ => none
  | .shiftResume _ _ _ _ _ => none
  | .linkRetrainDone _ _ => none
  | .detourTablesWritten => none
  | .scrubPassStart _ _ _ _ => none
  | .scrubFrameCompare _ _ _ _ _ => none
  | .scrubRestore _ _ => none
  | .scrubStateParityCheck _ _ _ => none
  | .octCfgWrite src _ _ => some src
  | .ethRxFrame _ _ _ _ _ _ _ _ => none
  | .ethTxFrame _ _ _ => none
  | .txtsRead _ => none
  | .rawRxItem _ _ _ => none
  | .rawTxItem _ => none
  | .laneRestart src _ _ => some src
  | .detectStep _ _ => none
  | .trainingFrame _ _ _ _ _ => none
  | .lockFrame _ _ _ => none
  | .capabilityFrame _ _ => none
  | .laneTimerExpiry _ => none
  | .losAssert _ => none
  | .lolAssert _ => none
  | .faultRestartTimer _ => none
  | .prbsInject src _ _ => some src
  | .lanePrbsWrite src _ _ => some src
  | .elementRecalStart _ _ => none
  | .elementRecalDone _ _ _ _ _ => none
  | .oscStable _ => none
  | .pllLock _ _ => none
  | .pllLockDrop _ _ => none
  | .clkFabWrite src _ _ => some src
  | .monitorWindowEnd _ _ => none
  | .twinBlankEnd _ _ => none
  | .rampDwellEnd _ => none
  | .dividerStep _ _ => none
  | .clkReturn _ w => w.map fun x => x.1
  | .deviceTimeTick => none
  | .clkoutWrite src _ _ => some src
  | .domainPowerDown src _ _ => some src
  | .domainPowerUp src _ _ => some src
  | .quiesceDone _ _ _ _ _ => none
  | .isolateDone _ => none
  | .gateDone _ => none
  | .rampSlotFree => none
  | .rampDone _ => none
  | .initDone _ => none
  | .measurementInterval _ _ => none
  | .throttleRiseTimer _ => none
  | .throttleRecoveryTimer _ => none
  | .thermalLevelUpdate _ => none
  | .graceEnd _ => none
  | .exemptCheck _ => none
  | .hardwareTrip _ => none
  | .converterRotate _ _ _ => none
  | .railMeasure _ _ => none
  | .hluLevelTimer => none
  | .thmLimitsWrite src _ => some src
  | .hluBoardWrite src _ _ => some src
  | .hluLock src _ => some src
  | .lockstepMismatch => none
  | .watchdogExpiry => none
  | .fwRestart src _ => some src
  | .controllerOpen => none
  | .mbxRing src _ _ _ => some src
  | .mbxAck src _ _ => some src
  | .mbxAbort src _ _ => some src
  | .pageTimerExpiry _ => none
  | .mctpMessage _ _ => none
  | .setEndpointId _ => none
  | .getEndpointId => none
  | .getMctpVersionSupport _ => none
  | .getMessageTypeSupport => none
  | .getVendorDefinedMsgSupport _ => none
  | .devInfo _ => none
  | .devTime _ => none
  | .otpStep _ _ => none
  | .otpStepTimeout => none
  | .otpBoard _ _ => none
  | .benchAssign _ => none
  | .gangFormCmd _ => none
  | .gangDissolveCmd _ => none
  | .mfenceSet _ => none
  | .hwinSet _ => none
  | .laneFence _ => none
  | .wbSet _ => none
  | .pcapSet _ => none
  | .hopperSet _ => none
  | .declApply _ => none
  | .benchStatus _ => none
  | .slotCopy _ => none
  | .slotOwner _ => none
  | .slotRelease _ => none
  | .slotList _ => none
  | .scrubSet _ _ => none
  | .octetCfg _ => none
  | .laneStatus _ => none
  | .laneRestartCmd _ => none
  | .domainSet _ => none
  | .domainList _ => none
  | .thmSet _ => none
  | .telemetry _ => none
  | .hluFwSet _ => none
  | .calRead _ => none
  | .calWrite _ => none
  | .spoilRead _ => none
  | .spoilClear _ _ => none
  | .routerRetire _ => none
  | .columnShift _ => none
  | .wplRingRead _ => none
  | .wplFreeze _ => none
  | .wplResume _ => none
  | .wplRecordList _ => none
  | .wplRecordRead _ => none
  | .fwWrite _ _ => none
  | .fwVerify _ => none
  | .fwActivate _ => none
  | .fwMinSvn _ _ => none
  | .tmuxUnlock _ => none
  | .tmuxSelect _ => none
  | .dbgEnChange _ => none
  | .weapelEntry => none
  | .recordCopyDone _ => none
  | .wplCtlFreeze src _ => some src
  | .wplCtlResume src _ => some src
  | .floorReset src _ => some src
  | .floorResetEnterDone => none
  | .floorResetHoldEnd => none
  | .floorResetReleaseDone _ => none
  | .ddrTrain src _ _ => some src
  | .ddrTrainingDone _ _ _ _ => none
  | .ddrSelfrefEntryDone _ => none
  | .tapReset => none
  | .tapBypass => none
  | .tapIdcode => none
  | .tapSamplePreload => none
  | .tapExtest => none
  | .tapClamp => none
  | .tapHighz => none
  | .tapExtestPulse => none
  | .tapExtestTrain => none
  | .railDown _ => none
  | .losClear _ => none
  | .readingLoLatchesHi src _ _ => some src
  | .cataloguedTimeExceeded _ => none
  | .autoNegotiationPage _ _ _ => none
  | .linkTrainingFrame _ _ => none
  | .dynamicAddressAssignment _ => none

end Sys2Proof
end

