-- ==== Sys2Proof/Decode.lean ====
section
/-!
DEFINITION. Commands as words. The operation table gives no row any bits: a command reaches the device as an access,
a packet, a pin or an event, and not as a word, so no word spells one (log entry 4).
-/

namespace Sys2Proof

/-- The command that a word of `nbits` bits spells by the table's bits: the table gives none. -/
def decodeTableWord (_nbits _w : Nat) : Option Instr := none

end Sys2Proof
end

