-- ==== Sys2Proof/Config.lean ====
section
/-!
DEFINITION. What one device fixes and the spec does not: factory words in OTP, and the free values, constants with no
body, so that no proof can see a value of them.
-/

namespace Sys2Proof.Config

/-- The n-th fresh free value (log entry 2). -/
opaque freeNat : Nat → Nat

/-- Factory trim baseline of a bore group class in OTP (R28). -/
opaque trimBaseline : Nat → Nat

/-- Factory trim offset of a bore group class for a temperature band, in OTP (R28). -/
opaque trimBandOfs : Nat → Nat → Int

/-- The trim code that an acquisition of all groups of a class finds for a group; the first argument tells the
acquisitions apart (R32, log entry 10). -/
opaque acqCode : Nat → Nat → Nat

/-- The vendor ID in OTP (R415). -/
opaque vendorId : Nat

/-- What a configuration read at an offset the spec leaves to the standard returns (R414). -/
opaque cfgStd : Nat → Nat

/-- The haul address at which a port carries accesses to VF n's mailbox; R423 gives none (log entry 50). -/
opaque vfMailboxAddr : Nat → Nat

/-- The credits that the end point at port p of router k grants its router, where the spec gives no number (R313,
log entry 21). -/
opaque endPointCredits : Nat → Nat → Nat

/-- What the response reserve of a PCIe port (0, 1) or of its engine (2, 3) holds beyond the 65 flits of one 4 KiB read, in flits: R322 gives every floor
end point a reserve and no size (log entry 73). -/
opaque floorReserve : Nat → Nat

/-- Bits of configuration words that the PCI Express standard leaves to an implementation (R414, log entry 75). -/
opaque cfgOpen : Nat → Nat

/-- The order of the 15,872 configuration bits of a sett: R44 leaves it to the image chapter, which gives none (log entry
30). It is drawn by exchanges, so that it is one of the orders and any of them: `settPick i` is the i-th draw. -/
opaque settPick : Nat → Nat

def settOrder : Array Nat :=
  (List.range 15872).foldl (fun a i => a.swapIfInBounds i (i + settPick i % (15872 - i))) (Array.range 15872)

/-- Where bit i of a sett's configuration, counted in the order of R44's table, lies in its slot bits. -/
def settBit (i : Nat) : Nat := settOrder.getD i i

/-- The value at one instant of a wire of a combinational loop (R62); the first argument tells instants apart (log entry
31). -/
opaque loopBit : Nat → Nat → Bool

/-- Bytes of the boot flash, at least 32 MiB (R645). -/
opaque flashBytes : Nat

/-- What word w of DDR channel ch holds, as a codeword, before anything is written to it after its contents have become
undefined for the g-th time (R642, log entry 42). -/
opaque dramWord : (ch g w : Nat) → Nat

/-- The codeword that a memory-tier word holds which has not been written since it was last erased, by its key: seen only
when upsets set two of its three valid bits (R79, R93; log entry 72). -/
opaque staleWord : Nat → Nat

/-- Factory delay in ps, less 1 and modulo 4,095, of the delay monitor of physical column sx of bench b, in OTP (R72). -/
opaque monitorRef : (b sx : Nat) → Nat

/-- DERATE where the quotient of R72 exceeds its field (log entry 46). -/
opaque derateOver : Nat → Nat

/-- Factory value of a calibrated value of classes 3 to 6, in OTP (R597), and the range Krovant gives the class, low and
high end (R564). -/
opaque calFactory : (cls idx : Nat) → BitVec 8
opaque calRange : (cls : Nat) → Int × Int

/-- What byte a of the boot flash holds as supplied (R646). -/
opaque flashInit : Nat → BitVec 8

/-- The boot flash's SFDP offers the octal mode (true) or the quad mode (false) (R645). -/
opaque flashOffers : Bool → Bool

/-- OTP words: the key hash, the minimum SVN, the serial number, the manufacturer code of the IDCODE (R543, R583, R652). -/
opaque keyHash : List (BitVec 8)
opaque minSvn : Nat
opaque serial : Nat
opaque jtagMaker : Nat

/-- SHA-384, and ECDSA P-384 verification of a digest under a public key (R542, R543), functions that the spec names and
does not define. -/
opaque sha384 : List (BitVec 8) → List (BitVec 8)
opaque ecdsaVerify : (pubkey digest signature : List (BitVec 8)) → Bool

/-- The levels that the board puts on the GPIO pins at an instant (R649). -/
opaque gpioLevel : (time : Nat) → BitVec 32

/-- The version entries and the vendor's command-set value that MCTP answers carry (R560). -/
opaque mctpVersions : (msgType : Nat) → List Nat
opaque mctpVendorSet : Nat

end Sys2Proof.Config
end

