-- ==== Sys2Proof/Machine/State.lean ====
section
/-!
DEFINITION. The state of the device as plain data: the register file, and beside it what the chapters keep outside
registers (queues, buffers, latches, stores, sequences in progress), and the queue of commands that wait.
-/

namespace Sys2Proof.Machine

/-- An event on its way to the completion collector (R288): its source, its kind bit, and what its record would hold. -/
structure Event where
  source : Nat
  kind   : Nat
  time   : Nat
  plane  : Nat
  online : Bool
  deriving DecidableEq, Repr

/-- A staging entry of the collector (R288, R291). -/
structure Staged where
  full   : Bool := false
  time   : Nat := 0
  count  : Nat := 0
  kinds  : Nat := 0
  plane  : Nat := 0
  online : Bool := false
  deriving DecidableEq, Repr

/-- What an event ring keeps beside its registers: the phase of the next record, and per message vector the device
time of the last message and whether a moderated message waits (R291, R293). -/
structure RingSt where
  phase    : Bool := true
  lastMsg  : SMap (Option Nat) := []
  waiting  : SMap Bool := []
  deriving DecidableEq, Repr

/-- The completion collector (R288 to R294). -/
structure Collector where
  inFlight : List Event := []
  staged   : SMap Staged := []
  nextSrc  : Nat := 0
  rings    : SMap RingSt := []
  /-- FN that bench b takes once its staged record is delivered or discarded (R260). -/
  fnPending : SMap (Option Nat) := []
  /-- Device time of the write that asked for it. -/
  fnSince  : SMap Nat := []
  deriving DecidableEq, Repr

/-- A Weapel entry (R611). -/
structure WplEntry where
  time     : Nat
  code     : Nat
  source   : Nat
  severity : Nat
  detail   : Nat
  deriving DecidableEq, Repr

/-- A record in NVS (R617). -/
structure WplRecord where
  valid   : Bool := false
  time    : Nat := 0
  cause   : Nat := 0
  trigger : Nat := 0
  seq     : Nat := 0
  entries : List WplEntry := []
  deriving DecidableEq, Repr

/-- The Weapel recorder beside its registers (R610 to R618). -/
structure Weapel where
  /-- Entries that sources have offered and the input queue has not yet taken, oldest first. -/
  offers    : List WplEntry := []
  /-- The 64-entry input queue, oldest first. -/
  queue     : List WplEntry := []
  /-- The ring, by position. -/
  ring      : SMap (Option WplEntry) := []
  /-- Entries discarded since the ring last froze (detail of 0x0A03). -/
  discarded : Nat := 0
  /-- The record a running copy writes. -/
  copy      : Option WplRecord := none
  /-- The NVS records, by position, and the record index: newest position, its SEQ, and whether any was written. -/
  records   : SMap WplRecord := []
  newest    : Nat := 7
  lastSeq   : Nat := 0
  anyYet    : Bool := false
  deriving DecidableEq, Repr


/-- A bore group's calibration and repair state beside the register layouts of R36 to R38. -/
structure Group where
  /-- Signed 8-bit layers of R28, as two's complement. -/
  bg       : Nat := 0
  ofs      : Nat := 0
  /-- The applied trim code; a changeover moves it by 1 (R31). -/
  eff      : Nat := 0
  acqDone  : Bool := false
  /-- Search bits already set by the acquisition (R32), and the code they spell. -/
  acqStep  : Nat := 0
  acqCode  : Nat := 0
  /-- The temperature band of the column, and the HLU's trim word, when the acquisition last began or ended: the trim that
  a group applies moves away from them by changeovers alone (R31). -/
  acqBand  : Nat := 1
  acqRange : Nat := 0xF0080FF0
  /-- A restored background value replaces the search result (R32). -/
  restored : Bool := false
  paused   : Bool := false
  /-- An evaluation is running (R30); false after a discard, until the changeovers end, and in a pause. -/
  evalRun  : Bool := true
  /-- The pause has ended, at device time `waitAt`, and evaluation restarts 1 µs later (R33). -/
  evalWait : Bool := false
  waitAt   : Nat := 0
  fold     : Nat := 0
  calHold  : Bool := false
  clamped  : Bool := false
  transK   : Nat := 0
  centreErr : Nat := 0
  /-- The data bore under test and whether it is tested again, and the device time of the last round (R371). -/
  test     : Option (Nat × Bool) := none
  round    : Option Nat := none
  /-- Lost (R379). -/
  lost     : Bool := false
  /-- The four bytes of CAL_BORE_SPARE (R38), spare bore 64 + n at position n. -/
  spares   : List Nat := [0, 0, 0, 0]
  deriving DecidableEq, Repr

/-- Bore groups. A group not listed shares the acquisition state of its class: the groups of one bench on one
interface, or one column periphery interface. -/
structure Bores where
  groups : SMap (Option Group) := []
  classes : SMap Group := []
  deriving DecidableEq, Repr

/-- Configuration space of one function on one port, as far as the spec uses it (R414 to R418, R429). -/
structure CfgSpace where
  mse      : Bool := false
  bme      : Bool := false
  vfEnable : Bool := false
  msixEn   : Bool := false
  msixFm   : Bool := false
  /-- The base in BAR0, and for a PF the base in VF BAR0 (R420, R422). -/
  bar      : Nat := 0
  vfBar    : Nat := 0
  /-- Device Control (R414, log entry 75). -/
  devCtl   : Nat := 0x2810
  deriving DecidableEq, Repr

/-- An MSI-X table entry: message address, message data, Mask bit (set at reset, R429). -/
structure MsixEntry where
  addr : Nat := 0
  data : Nat := 0
  mask : Bool := true
  deriving DecidableEq, Repr

/-- A TAG of a PCIe end point or of its engine (R322, R353, R425): its generation, whether a request holds it, and the device time of an expiry
after which it stays out of use. -/
structure FloorTag where
  gen   : Nat := 0
  busy  : Bool := false
  since : Option Nat := none
  deriving DecidableEq, Repr

/-- A BAR access carried on the haul network (R424): the TLP's tag, the haul request, the TAG it holds, and the device
time at which it entered the network. A read waits for the earlier writes of its function. -/
structure BarReq where
  port    : Nat
  fn      : Nat
  tag     : Nat
  write   : Bool
  cls     : Nat
  addr    : Nat
  dst     : Nat
  data    : List Byte
  len     : Nat
  ht      : Nat
  inj     : Option Nat := none
  /-- Its data are discarded without a completion (R419). -/
  discard : Bool := false
  deriving DecidableEq, Repr

/-- A haul piece of a copy descriptor that is on the network: address, length, TAG, device time of its injection. -/
structure DmaPiece where
  addr : Nat
  len  : Nat
  ht   : Nat
  inj  : Nat
  deriving DecidableEq, Repr

/-- A copy descriptor in progress (R427): its ring index, its words, the pieces still to issue as (address, length), those
on the network, its status so far. -/
structure DmaDesc where
  idx    : Nat
  word   : Nat
  todo   : List (Nat × Nat) := []
  open_  : List DmaPiece := []
  status : Nat := 0
  deriving DecidableEq, Repr

/-- A port's DMA engine (R425 to R428). -/
structure DmaEng where
  fetchIdx : Nat := 0
  descs    : List DmaDesc := []
  deriving DecidableEq, Repr

/-- The PCI Express ports beside their registers. Configuration spaces are keyed 65·port + fn, fn 0 the PF and n + 1
VF n; MSI-X table entries 8·(65·port + fn) + vector. -/
structure Pcie where
  cfg      : SMap CfgSpace := []
  msix     : SMap MsixEntry := []
  /-- Pending bits of the PF vectors, held in PD_MGT, and of each VF's vectors (R429). -/
  pendPf   : Nat := 0
  pendVf   : SMap Nat := []
  bars     : List BarReq := []
  dma      : SMap DmaEng := []
  /-- TAG i of port x, keyed 512·x + i for BAR accesses and 512·(x + 2) + i for the engine (R425). -/
  ftags    : SMap FloorTag := []
  deriving DecidableEq, Repr

/-- Tenancy state beside the registers (R263 to R287). -/
structure Tenancy where
  /-- Leaders (bench numbers) of gangs whose formation has been accepted and not yet completed (R264). -/
  forming  : List Nat := []
  /-- Energy in nJ of bench b's accumulator a, a = 0..7 the planes and 8 IDLE, keyed 9·b + a (R282). -/
  energy   : SMap Nat := []
  /-- Energy in nJ of bench b since its last power-cap update, and of the microseconds before, newest first (R285). -/
  sinceUpd : SMap Nat := []
  history  : SMap (List Nat) := []
  /-- The cap's suppression level (R285). -/
  capLevel : SMap Nat := []
  /-- BASE_LO of the windows in force, as the HI write took it, keyed 16·b + i (R273). -/
  hwins    : SMap Nat := []
  /-- Token counts of the weighbridges in 1/16 byte, keyed 6·b + 3·p + k (R278). -/
  tokens   : SMap Int := []
  deriving DecidableEq, Repr

/-- A spoil-list entry (R388). -/
structure SpoilEntry where
  type : Nat
  sub  : Nat
  id   : Nat
  time : Nat
  deriving DecidableEq, Repr

/-- Non-volatile stores: the spoil list, oldest first (R388). -/
structure Nvs where
  spoil : List SpoilEntry := []
  /-- Scrub settings of column c: BENCH_EN + 2^16·REPORT_ONLY (R405, R591). -/
  scrub : SMap Nat := []
  /-- The preferred firmware slot (R543, R607). -/
  preferred : Nat := 0
  /-- OTP: the board area once programmed, and the minimum SVN once raised (R565, R584). -/
  otpBoard : Option (List Nat) := none
  minSvn   : Option Nat := none
  /-- Bytes of the boot flash (R646), unlisted as the flash was supplied, or all-ones in a slot that has been erased. -/
  flash : SMap Byte := []
  erased : SMap Bool := []
  deriving DecidableEq, Repr

/-- A flit on a virtual channel: its 512 bits, its place in the packet, its poison (R304, R305). -/
structure Flit where
  data   : Nat
  head   : Bool
  tail   : Bool
  poison : Bool
  deriving DecidableEq, Repr

/-- What a router does with the packet open on one virtual channel of one input. -/
inductive PktMode where
  | pass (out vc : Nat)      -- forwarded to output `out` on downstream channel `vc`
  | drop                     -- consumed and discarded (R307)
  | answer (out : Nat)       -- consumed at a fence; a READ or WRITE is answered at its tail (R351)
  deriving DecidableEq, Repr

/-- A packet whose head has entered a router input and whose tail has not. -/
structure OpenPkt where
  hdr  : Nat
  mode : PktMode
  deriving DecidableEq, Repr

/-- A flit waiting in an input queue, with the output and channel its packet takes and the packet's header. -/
structure QFlit where
  flit : Flit
  out  : Nat
  vc   : Nat
  hdr  : Nat
  deriving DecidableEq, Repr

/-- A packet that an end point injects, as far as it has not entered its router's input (R313, R315): its channel, its
header, the data flits still to send, and whether the header is still to send. -/
structure InjPkt where
  vc    : Nat
  hdr   : Nat
  data  : List (Nat × Bool)
  head  : Bool := true
  deriving DecidableEq, Repr

/-- Routers and epochs beside their registers (R296 to R361). An input channel is keyed 8·(7·k + port) + vc, an output
channel likewise. -/
structure Haul where
  queues  : SMap (List QFlit) := []
  opens   : SMap (Option OpenPkt) := []
  /-- The input channel whose packet holds an output channel (R314). -/
  held    : SMap (Option Nat) := []
  /-- Credits spent on an output channel (R313). -/
  spent   : SMap Nat := []
  /-- Round-robin positions: the last input served per output channel, the last channel per output. -/
  rrIn    : SMap Nat := []
  rrVc    : SMap Nat := []
  /-- Round-robin position of an input over its channels, keyed 7·k + port (R314). -/
  rrCh    : SMap Nat := []
  /-- Packets that an end point still injects, in order, keyed 3·k + l, and the credits it has spent on a channel of its
  router's input, keyed 8·(3·k + l) + vc (R313). -/
  inj     : SMap (List InjPkt) := []
  epSpent : SMap Nat := []
  /-- Link words in the bridge queue ahead of an input channel of router (3, 0) (R298). -/
  bridgeQ : SMap (List Nat) := []
  /-- Responses that router k has synthesised and not yet launched (R351). -/
  synth   : SMap (List Nat) := []
  /-- Local ports permanently out, keyed 3·k + l (R369). -/
  dead    : SMap Bool := []
  /-- Route table entries, keyed 23·(2·k + bank) + entry, unlisted at R317's routes. -/
  tables  : SMap Nat := []
  /-- Packets inside a router by epoch, keyed 2·k + epoch (R346). -/
  inside  : SMap Nat := []
  /-- Ports of a bench domain in its FENCE step whose admitted packets are still being served, keyed 3·k + l (R348, R498). -/
  fenceWait : SMap Bool := []
  /-- Mesh outputs whose sender keeps them closed: toward a retired router or over a lost link, keyed 7·k + port. -/
  closed  : SMap Bool := []
  /-- Links retraining, by receiving input 7·k + port, and times of the last corrections of a wire, keyed
  580·(7·k + port) + wire, newest first (R373, R385). -/
  retrain : SMap Bool := []
  wireHits : SMap (List Nat) := []
  /-- Wires that a retrain moves to a spare: spoil entry pending. -/
  wireHard : SMap Bool := []
  /-- Spare wires known to be hard, keyed 4·link + n (R373). -/
  badSpare : SMap Bool := []
  /-- Spares in use on the link into the end point at local port l of router k, plus 8 once it is lost, keyed 3·k + l
  (R385, R386). -/
  epSpare  : SMap Nat := []
  /-- Device time T0 at which a fence went CLOSING, keyed 3·k + l (R348). -/
  closing : SMap Nat := []
  /-- Device time of the accepted FLIP (R344). -/
  flipTime : Nat := 0
  /-- The running drain has timed out (R345). -/
  drainTmo : Bool := false
  /-- The calibrator's last test found the main path sound, and nothing has put the router in queued mode since (R316). -/
  sound   : SMap Bool := []
  /-- Calibrator failures of a router's fallback path in succession (R373). -/
  fbFails : SMap Nat := []
  /-- Trace records, keyed 2048·c + i; and the records that stand in the queue of each column (R360). -/
  trace   : SMap Nat := []
  trcQ    : SMap Nat := []
  deriving DecidableEq, Repr

/-- The internal stage registers of an arithmetic block, beside its accumulators, flags and operand register (R58, R233): the
operations in flight behind the one in the operand register, newest first, and VALID. -/
structure AbStage where
  ops   : List Nat := []
  valid : Bool := false
  deriving DecidableEq, Repr

/-- Who asks for a switch, online or offline edge (R158, R165). -/
inductive ReqBy where
  | fabric
  | host
  | sched
  | device
  deriving DecidableEq, Repr

/-- What is asked: CMD of R182. -/
inductive ReqCmd where
  | switch
  | online
  | offline
  deriving DecidableEq, Repr

/-- A request that waits or competes; `n` is its deferral count (R178). -/
structure PlaneReq where
  by_   : ReqBy
  cmd   : ReqCmd
  plane : Nat
  n     : Nat := 0
  deriving DecidableEq, Repr

/-- Hot planes and switching beside the registers (R150 to R196). A plane is keyed 8·b + p; its frames, in slot order,
32341·(8·b + p) + f. -/
structure Planes where
  /-- Configuration and state frames 1..32340 of each plane (R197), 512 bits each. -/
  frames  : SMap Nat := []
  /-- Arithmetic-block stages, keyed 128·loc + 4·sx + k, where loc is 8·b + p for a plane and 512 + g for slot g. -/
  stages  : SMap AbStage := []
  /-- The 64 parity bits of a frozen state frame, keyed as the frames (R402). -/
  parity  : SMap Nat := []
  /-- Parity groups of plane 8·b + p that have failed during this freezing, and during earlier ones (R403, R404). -/
  parSeen : SMap (List Nat) := []
  parPast : SMap (List Nat) := []
  /-- Switch-cell enables, keyed 8·b + p. -/
  swEn    : SMap Bool := []
  /-- The state initialisation of R153 runs on bench b. -/
  initing : SMap Bool := []
  /-- Candidates of the open tick of a column, by leader (R178), in the order in which they came. -/
  cands   : SMap (List (Nat × PlaneReq)) := []
  /-- The request that stands deferred, by leader. -/
  defer   : SMap (Option PlaneReq) := []
  /-- A host request between its write and E3 (R162). -/
  hostReq : SMap (Option PlaneReq) := []
  /-- A device-issued command that waits for its E3 edge, by leader (R165). -/
  devReq  : SMap (Option PlaneReq) := []
  /-- A fabric request has been presented and has not ended (R161). -/
  fabOpen : SMap Bool := []
  /-- The last refused request, for runs of consecutive edges (R158): (source, plane, reason) + 1 as a number. -/
  lastRef : SMap Nat := []
  /-- Next expiry of the schedule, the time held while offline, and an expiry that waits for its E3 (R163, R164). -/
  expiry  : SMap (Option Nat) := []
  held    : SMap (Option Nat) := []
  schedDue : SMap Bool := []
  /-- Device time of the last activating edge, and the time in ns that plane p has been active before it (R195). -/
  since   : SMap Nat := []
  active  : SMap Nat := []
  /-- Previous samples of IMG_DONE (bit 0) and IMG_ERR (bit 1) (R171). -/
  imgPrev : SMap Nat := []
  /-- The up bundle that a memory port latched at the last edge of its clock (R85), keyed 2·(1024·b + n) + port. -/
  portIn  : SMap (Option Nat) := []
  /-- The CLK0 byte that bench clock 0 of an offline bench keeps from the former active plane (R174). -/
  parkClk : SMap Nat := []
  /-- What the switch cell (8·SW_REQ + SW_PLANE) and the image events port sampled at bench b's last edge of clock 0, until
  the command that acts on the sample (R154, R160, R171). -/
  cellIn  : SMap (Option Nat) := []
  imgIn   : SMap (Option Nat) := []
  /-- What the write-side boundary cell of hopper j last captured (R170): item, WSOP at bit 144, WEOP at bit 145. -/
  bnd     : SMap Nat := []
  /-- Edges of bench clock 0 that the fold pause of bench b still suppresses (R377). -/
  foldEdges : SMap Nat := []
  /-- Frames of the physical sett column that no logical column uses (R150): of the idle spare, physical column 32, until a
  column shift, under the places of logical column 31; from then on of the retired column, as its latches and copies were
  left (R382), under the places of the logical column it served. Keyed as the plane frames. -/
  retired : SMap Nat := []
  /-- Arithmetic-block stages of that column, keyed 4·(8·b + p) + k (R150). -/
  retStages : SMap AbStage := []
  deriving DecidableEq, Repr

/-- What a running context operation is doing (R207, R208). -/
structure CtxRun where
  op    : Nat            -- 0 stage, 1 page, 2 page and free
  plane : Nat
  slot  : Nat
  src   : Option Nat     -- the VF that commanded it
  abort : Bool := false
  prevHome : Option Nat := none
  deriving DecidableEq, Repr

/-- A slot copy between columns (R213): global slots. -/
structure SlotCopy where
  from_ : Nat
  to_   : Nat
  bad   : Bool := false
  deriving DecidableEq, Repr

/-- Context slots beside the registers (R197 to R215). A frame of global slot g = 1024·c + s is keyed 32341·g + f. -/
structure Slots where
  /-- Frames as 533-bit codewords (R198), unlisted all zero. -/
  words  : SMap Nat := []
  gen    : SMap Nat := []
  run    : SMap (Option CtxRun) := []
  copies : List SlotCopy := []
  /-- Targets held by load channels (R243): channel + 1, 0 none. -/
  hold   : SMap Nat := []
  /-- Position of the slot patrol of column c: slot and frame. -/
  patrol : SMap Nat := []
  /-- The scrubber of column c whose Refresh last read NVS (R408, R409). -/
  scrubShown : SMap Nat := []
  deriving DecidableEq, Repr


/-- A remap entry (R102): the physical word it stands for and its codeword; `none` while the word is invalid. -/
structure RemapEnt where
  word : Nat
  cw   : Option Nat
  deriving DecidableEq, Repr

/-- A pending correction write-back (R97): physical words with corrected data, and how many port edges ago the error was
found. -/
structure WbItem where
  words : List (Nat × Nat)
  age   : Nat := 0
  deriving DecidableEq, Repr

/-- What a memory block keeps beside its words (R82 to R104). -/
structure MemBlock where
  /-- Watch list: word and syndrome {P, S}, oldest first, at most 4. -/
  watch : List (Nat × Nat) := []
  remap : List RemapEnt := []
  /-- The armed flip mask, 0 when none. -/
  mask  : Nat := 0
  wbA   : List WbItem := []
  wbB   : List WbItem := []
  /-- Results on their way to the down bundle: of the last access and the one before it (R86). -/
  pipeA : List Nat := [0, 0]
  pipeB : List Nat := [0, 0]
  downA : Nat := 0
  downB : Nat := 0
  /-- Haul share count (R91). -/
  share : Nat := 0
  /-- A haul access or the patrol takes the port-B cycle in which the fabric samples next (R91, R105). -/
  stolen : Bool := false
  /-- The block is being copied to its spare (R103). -/
  copying  : Bool := false
  degraded : Bool := false
  deriving DecidableEq, Repr

/-- A request that a bench's memory port has accepted and not yet ended (R91, R320): its header, its data flits, how many
of its words have been performed, the words read with their poison, and whether a word was stored poisoned. -/
structure MemReq where
  hdr    : Nat
  flits  : List (Nat × Bool)
  done   : Nat := 0
  items  : List Nat := []
  poison : Bool := false
  /-- The load channel whose preload it is, if it is one (R238). -/
  chan   : Option Nat := none
  deriving DecidableEq, Repr

/-- The memory tier (R79 to R109). Physical block n of bench b, 0..1023 primary and 1024 + k spare, is keyed
1040·b + n; its word wd 8192·(1040·b + n) + wd. -/
structure Memt where
  /-- Codewords of the words written since the last erasure; the others are invalid (R93). -/
  words  : SMap (Option Nat) := []
  /-- The three stored copies of a word's valid bit, where an upset has struck one since the word was last written or
  erased; unlisted, all three say whether it has been written (R79). -/
  vbits  : SMap (Option Nat) := []
  /-- Requests at the memory port of bench b, in order of arrival (R91). -/
  reqs   : SMap (List MemReq) := []
  blocks : SMap MemBlock := []
  /-- The primary that spare k of bench b stands in for, keyed 16·b + k. -/
  spares : SMap (Option Nat) := []
  /-- FIRST and COUNT_M1 of the bulk invalidate in progress. -/
  inv    : SMap (Option (Nat × Nat)) := []
  /-- A fenced access has been met since the last plane activation (R106). -/
  fenced : SMap Bool := []
  /-- Next place of the patrol engine: 8200·n + i, i = 0..8191 the words and 8192 + e the remap entries. -/
  patrol : SMap Nat := []
  deriving DecidableEq, Repr


/-- A stored hopper slot (R123, R132): a data item, or a length word (reserved until its packet closes). -/
inductive HopSlot where
  | data (v : Nat)
  | length (cut : Bool) (n : Nat)
  deriving DecidableEq, Repr

/-- A hopper beside its registers (R122 to R139). Pointers count items since power-up; counts are their differences. -/
structure Hopper where
  /-- The stored slots, from the read pointer to the write pointer. -/
  slots  : List HopSlot := []
  rd     : Nat := 0
  wr     : Nat := 0
  /-- The published write pointer (R129). -/
  pub    : Nat := 0
  /-- What the read side has seen of `pub`, and the write side of `rd`, and what is on its way (R130). -/
  pubSeen : Nat := 0
  rdSeen  : Nat := 0
  pubFly  : List Nat := []
  rdFly   : List Nat := []
  /-- Data items of the open packet, and whether the rest of the writer's packet is discarded (R131, R133, R134). -/
  wopen   : Option Nat := none
  discard : Bool := false
  /-- Data items left of the packet that the reader is inside. -/
  ropen   : Option Nat := none
  /-- Flush: not yet applied at the write side, at the read side; the flush point not yet at the read side; a cut end is
  owed (R134). -/
  flushW  : Bool := false
  flushR  : Bool := false
  flushP  : Bool := false
  point   : Nat := 0
  cutEnd  : Bool := false
  /-- The items, and in packet mode the length word, that a haul port has taken of a transfer not yet whole (R325). -/
  asm     : List Nat := []
  asmLen  : Option (Bool × Nat) := none
  /-- Read-side cycles since the last read or flush, and whether TAIL has been raised since the last read (R135). -/
  tail    : Nat := 0
  tailed  : Bool := false
  /-- A fenced access has been met since the last plane activation (R136). -/
  fenced  : Bool := false
  deriving DecidableEq, Repr


/-- A section table entry as far as it is used (R229). -/
structure LoadSection where
  type   : Nat
  frames : Nat
  deriving DecidableEq, Repr

/-- A load channel beside its registers (R240 to R246). -/
structure LoadRun where
  /-- Bytes that have arrived and are not yet used, oldest first. -/
  buf      : List Byte := []
  /-- The image header's fields, once checked. -/
  hdr      : Bool := false
  flags    : Nat := 0
  nsec     : Nat := 0
  imageId  : Nat := 0
  total    : Nat := 0
  /-- The section table, once checked, and the place in it: section, frame within it. -/
  table    : List LoadSection := []
  sect     : Nat := 0
  seq      : Nat := 0
  /-- Code words so far, for CHAIN_CRC, as a running CRC. -/
  chain    : Nat := 0xFFFFFFFF
  /-- The DECL bytes; then what the declarations say: MEMORY ranges, the CLOCK word and SW_EN. -/
  decl     : List Byte := []
  ranges   : List (Nat × Nat) := []
  clkSrc   : Nat := 0
  swEn     : Nat := 0
  /-- The command's settings. -/
  kind     : Nat := 0
  preload  : Bool := false
  swAllow  : Bool := false
  bench    : Nat := 0
  len      : Nat := 0
  /-- The source address, the bytes taken from it, and the device time of the last of them or of what they waited for
  (R241, R245). -/
  addr     : Nat := 0
  pos      : Nat := 0
  since    : Nat := 0
  /-- Preload writes not yet answered, and whether one was answered with an error (R238). -/
  acks     : Nat := 0
  bad      : Bool := false
  /-- Target slots, the columns that refused, and whether the hold has succeeded. -/
  targets  : List Nat := []
  refused  : Bool := false
  holding  : Bool := false
  held     : Bool := false
  /-- The trailer has passed. -/
  ready    : Bool := false
  deriving DecidableEq, Repr


/-- A READ or WRITE of a bench port that holds a network TAG (R326): what the port recorded, the reserve room it holds,
and the device time at which its header entered the network. -/
structure PortReq where
  plane  : Nat
  imgTag : Nat
  rspHop : Nat
  addr   : Nat
  lenM1  : Nat
  write  : Bool
  room   : Nat
  inj    : Option Nat := none
  /-- The head of its response has arrived: it is never timed out (R354). -/
  arrived : Bool := false
  deriving DecidableEq, Repr

/-- A TAG of a bench port (R353): its generation, the request that holds it, and the device time of an expiry after
which it stays out of use. -/
structure PortTag where
  gen   : Nat := 0
  req   : Option PortReq := none
  since : Option Nat := none
  deriving DecidableEq, Repr

/-- A pending entry (R330). -/
structure PendEnt where
  src   : Nat
  tag   : Nat
  addr  : Nat
  lenM1 : Nat
  op    : Nat
  epoch : Nat
  time  : Nat
  deriving DecidableEq, Repr

/-- A packet that waits at a weighbridge (R278): its header without EPOCH and INJ_TIME, its data flits with POISON, the
TAG index of the request it is, and the out hopper it was read from with its number in the port's order (R324). -/
structure WbPacket where
  hdr   : Nat
  data  : List (Nat × Bool)
  tag   : Option Nat := none
  hop   : Option Nat := none
  seq   : Nat := 0
  deriving DecidableEq, Repr

/-- A response held in the reserve (R327): its hopper, the recording plane, the items still to write as (data, sop,
eop), how many 8-byte words and descriptor words are written, and the room it took. -/
structure HeldRsp where
  hop   : Nat
  plane : Nat
  items : List (Nat × Bool × Bool)
  sent  : Nat := 0
  room  : Nat
  /-- The word of its first data flit at which the data begins. -/
  skew  : Nat
  deriving DecidableEq, Repr

/-- A bench haul port beside its registers and weighbridges (R324 to R332). -/
structure Hport where
  tags : SMap PortTag := []
  held : List HeldRsp := []
  pend : List PendEnt := []
  wait : SMap (List WbPacket) := []   -- by class k: 0 REQ, 1 RSP, 2 PST
  /-- Descriptors read so far (R324). -/
  seq  : Nat := 0
  /-- DELIVERY and RXBUF_EXP in effect (R332). -/
  mode : Nat × Nat := (0, 12)
  deriving DecidableEq, Repr

/-- A DDR channel beside its registers (R639 to R644). -/
structure DdrCh where
  /-- Words of 8 bytes as 72-bit codewords; an unlisted word holds a free value (log entry 42). -/
  words    : SMap (Option Nat) := []
  /-- How many times the contents have become undefined. -/
  gen      : Nat := 0
  /-- What TRAINING is: 0 full training, 1 the check of a self-refresh exit. -/
  check    : Bool := false
  /-- A training has passed since power-on, so self-refresh has something to keep. -/
  trained  : Bool := false
  /-- Entry into self-refresh runs; whether it belongs to a twin move. -/
  entering : Bool := false
  twin     : Bool := false
  /-- The PHY's clock has tripped: nothing is served on the old clock while STATE still reads READY (R478, R479). -/
  noClk    : Bool := false
  /-- Device time of the last logged UE, and of the last refresh. -/
  ueLogged : Option Nat := none
  refresh  : Option Nat := none
  deriving DecidableEq, Repr

/-- The DDR channels, and the rate at which each column's pair last trained (R644). -/
structure Ddr where
  chans : SMap DdrCh := []
  rates : SMap Nat := []
  deriving DecidableEq, Repr

/-- A column shift in progress (R381): the faulty physical column, the plane that was active at STOP, whether STOP and MAP
are done, the planes still to move, and the device times of the offline edge. -/
structure ShiftRun where
  col    : Nat
  back   : Option Nat := none
  mapped : Bool := false
  stopAt : Nat := 0
  planes : List Nat := []
  deriving DecidableEq, Repr

/-- A delay monitor (R72, R73): its reading, whether it holds for an interval after a change of converter. -/
structure Monitor where
  ps     : Nat := 0
  derate : Nat := 0
  valid  : Bool := false
  stale  : Bool := false
  hold   : Bool := false
  deriving DecidableEq, Repr

/-- Repair beside the registers (R369 to R394, R72 to R74). -/
structure Repair where
  shifts   : SMap (Option ShiftRun) := []
  /-- The plane to return to after the pause of a live group, by leader (R375). -/
  liveBack : SMap (Option Nat) := []
  /-- Detour tables are owed (R386, R387). -/
  detourDue : Bool := false
  /-- Delay monitors, keyed 64·b + sx, and the converter each uses; converter 33 of a bench starts out (R73). -/
  monitors : SMap Monitor := []
  convs    : SMap Nat := []
  convOut  : SMap Nat := []
  deriving DecidableEq, Repr

/-- An entry of a watch table (R401): bench, plane, place (33·32 physical setts, or 2^20 for bench-level words), bit, and
whether it is a delivery mismatch. -/
structure WatchEnt where
  bench : Nat
  plane : Nat
  place : Nat
  bit   : Nat
  deliv : Bool
  deriving DecidableEq, Repr

/-- A restore on its way (R399): the plane, the frame bit, the value, and the home slot read. -/
structure Restore where
  bench : Nat
  plane : Nat
  frame : Nat
  bit   : Nat
  val   : Nat
  home  : Nat
  deriving DecidableEq, Repr

/-- A scrubber (R395 to R407), keyed 2·c + i. -/
structure Scrubber where
  /-- Three copies each of BENCH_EN and REPORT_ONLY. -/
  en       : List Nat := [0xFFFF, 0xFFFF, 0xFFFF]
  ro       : List Nat := [0, 0, 0]
  next     : Nat := 0
  started  : Nat := 0
  /-- Place in the running pass: bench position, plane, frame (0 with a home is the slot's header, without one the start of
  the pass), and the home slot read. -/
  pos      : Option (Nat × Nat × Nat) := none
  home     : Option Nat := none
  all      : Bool := false
  failed   : Bool := false
  fails    : Nat := 0
  watch    : List WatchEnt := []
  restores : List Restore := []
  /-- The planes, as 8·b + p, whose frozen state has been checked since the last pass start; none before a pass (R403). -/
  par      : Option (List Nat) := none
  deriving DecidableEq, Repr

/-- Domain switching beside PWR_DOM_d (R496 to R503), keyed by domain. -/
structure Power where
  /-- A power-down of a bench that waits for the end of its column shift (R497). -/
  waitShift : SMap Bool := []
  /-- Device time of the request, for LAST_T. -/
  start     : SMap Nat := []
  /-- Power-ups that wait for a RAMP slot (R502). -/
  rampWait  : List Nat := []
  /-- PWRGOOD, as sampled. -/
  good      : Bool := false
  /-- Bit x: the pin PERST_x_N is asserted; R626 has the integrator hold both at power-on. -/
  perst     : Nat := 3
  /-- Bit n: rail n is at or above 90 % (R493). The reset state follows the rise of VDD_AON. -/
  railsUp   : Nat := 1
  /-- THERMTRIP_N is asserted (R526). -/
  tripped   : Bool := false
  /-- Device time of the last rise of PWRGOOD, and the boot phase that comes next (R627): 0 before PWRGOOD, 1 ROM, 2 NET,
  3 PORTS, 4 TIERS, 5 BENCHES, 6 SHELL, 7 OPEN, 8 booted. -/
  riseAt    : Nat := 0
  boot      : Nat := 0
  /-- An orderly thermal shutdown: end points hold their injections, and the domains that wait for the benches to go
  offline (R523). -/
  holdInj   : Bool := false
  /-- The detail of the FATAL entry that an orderly shutdown logs in its step 3, until it has (R523, R525). -/
  shutLog   : Option Nat := none
  shutWait  : List Nat := []
  deriving DecidableEq, Repr

/-- Temperature and limits beside the registers (R507 to R529, R569). -/
structure Thermal where
  /-- Bench b: thermal suppression level (R519); PRIV as latched when L left 0 (R521). -/
  sup    : SMap Nat := []
  priv   : SMap Bool := []
  /-- Column c: where the last evaluation found the logic-tier reading, 0 in the hold range, 1 at or above THROT_C, 2 below
  THROT_C − THROT_HYST (R518); intervals in a row below the fast level (R509); the band that the readings select (R514). -/
  zone   : SMap Nat := []
  cool   : SMap Nat := []
  band   : SMap Nat := []
  /-- Site s: device time and TEMP of the last four readings, newest first (R522). -/
  last   : SMap (List (Nat × Nat)) := []
  /-- Channels whose reading holds for one interval, keyed 32·bank + channel: banks 0 to 3 the columns' groups of sites,
  bank 4 the rail voltages 0 to 8 and currents 9 to 17; each channel's converter and each bank's converter that is out
  (R511). -/
  hold   : SMap Bool := []
  convs  : SMap Nat := []
  convOut : SMap Nat := []
  /-- A shutdown stands: some valid site read at or above SHDN_C at the last evaluation (R522, R525). -/
  shut   : Bool := false
  /-- Readings in a row above the bound of rail n, and 9 for device power; the level H (R569). -/
  excess : SMap Nat := []
  h      : Nat := 0
  /-- Energies of the memory and configuration tier of column c in µJ, keyed 2·c and 2·c + 1 (R529). -/
  tiers  : SMap Nat := []
  /-- The one write that R8 grants LOCK of HLU_CTL has been made (RWO). -/
  lockUsed : Bool := false
  deriving DecidableEq, Repr

/-- A command that the controller has taken (R559): its mailbox (0 to 63 VF, 64 PF, 65 sideband), OPCODE, TAG, payload;
whether its response is discarded (R555), its hardware operation runs (R581), and a number the operation keeps. -/
structure MbCmd where
  mb      : Nat
  op      : Nat
  tag     : Nat
  payload : List Byte
  drop    : Bool := false
  started : Bool := false
  arg     : Nat := 0
  /-- Taken before a restart of the controller (R548). -/
  old     : Bool := false
  /-- Device time when the controller took it (R581, R583). -/
  taken   : Nat := 0
  deriving DecidableEq, Repr

/-- A mailbox beside its registers (R550 to R554): the buffers, the command's pages so far, the response pages still to
post, and the MCTP message tag to answer (R561). -/
structure Mbx where
  cmdBuf  : List Byte := []
  rspBuf  : List Byte := []
  opcode  : Nat := 0
  tag     : Nat := 0
  page    : Nat := 0
  total   : Nat := 0
  payload : List Byte := []
  pages   : List (List Byte) := []
  msgTag  : Option Nat := none
  deriving DecidableEq, Repr

/-- The mailboxes, and the commands taken, in the order of their RINGs. -/
structure Mailboxes where
  boxes : SMap Mbx := []
  cmds  : List MbCmd := []
  deriving DecidableEq, Repr

/-- The Burig controller beside its registers (R545 to R549, R584, R606). -/
structure Fw where
  /-- Between HALT and OPEN. -/
  restarting : Bool := false
  /-- Device times of the restarts that count toward R549. -/
  times    : List Nat := []
  version  : Nat := 0
  openTime : Nat := 0
  /-- An OTP programming step is open. -/
  stepOpen : Bool := false
  /-- The OFFSET that the next write of a slot must carry. -/
  next     : SMap Nat := []
  deriving DecidableEq, Repr

/-- Sideband, development access and the TAP (R560, R608, R609, R648 to R653). -/
structure Side where
  /-- Endpoint ID; the dynamic address an I3C controller assigned. -/
  eid     : Nat := 0
  dynAddr : Option Nat := none
  /-- The level of DBG_EN; its pull-down holds it low. -/
  dbgEn   : Bool := false
  /-- The signal selected for a test multiplexer pin, 0xFFFF none. -/
  tmux    : SMap Nat := []
  /-- The TAP's instruction, and whether it drives the pins. -/
  tapIr   : Nat := 1
  tapPins : Bool := false
  deriving DecidableEq, Repr

/-- A PRBS generator or checker (R455): its shift register, and for the checker the error-free run and the bits checked
toward MBITS. -/
structure Prbs where
  reg  : Nat := 0
  run  : Nat := 0
  bits : Nat := 0
  deriving DecidableEq, Repr

/-- A lane, or the machine of an Ethernet port at its first lane, beside the registers (R447 to R457). -/
structure Lane where
  /-- Device time of the last state entry. -/
  since   : Nat := 0
  /-- Presences, frames with RX_READY, frames with the marker, or matching frames in a row. -/
  cnt     : Nat := 0
  /-- TRAIN: the transmitter's taps pre2, pre1, main, post1 as steps from the start, the preset, and the last REQ_TGL
  carried out (R452). -/
  taps    : List Int := [0, 0, 0, 0]
  preset  : Nat := 0
  ackTgl  : Nat := 0
  /-- EXCHANGE: a READY frame has been received; SEQ of the next frame sent (R453, R454). -/
  gotReady : Bool := false
  seq     : Nat := 0
  /-- The PRBS13 that fills the frames sent; 0 before the first (R452). -/
  fill    : Nat := 0
  /-- RAW66 block lock: run of valid headers; blocks and invalid headers of the running window (R451). -/
  block   : Bool := false
  hdrRun  : Nat := 0
  hdrBad  : Nat := 0
  /-- Next stream item in each direction (R447). -/
  rxItem  : Nat := 0
  txItem  : Nat := 0
  /-- Transmitted bits still to be inverted (R455). -/
  inj     : Nat := 0
  gen     : Prbs := {}
  chk     : Prbs := {}
  /-- The element that is out for recalibration; the retired elements (R457). -/
  elem    : Option Nat := none
  retired : List Nat := []
  /-- Ethernet: last way used in each direction, as hopper + 1; the timestamp FIFO as (TS_ID, time, fraction), oldest
  first (R443, R444). -/
  rxWay   : Nat := 0
  txWay   : Nat := 0
  txts    : List (Nat × Nat × Nat) := []
  deriving DecidableEq, Repr

/-- The lanes, and per octet the device time of a twin move whose blanking runs (R479). -/
structure Lanes where
  lane  : SMap Lane := []
  blank : SMap (Option Nat) := []
  deriving DecidableEq, Repr

/-- User offset and background value of a calibrated value (R512, R597), 8-bit two's complement each. -/
structure CalVal where
  user : Nat := 0
  bg   : Nat := 0
  /-- The host has written the background value since the calibrator's evaluation began (R512, R513). -/
  keep : Bool := false
  /-- The calibrator has given the value once. -/
  acq  : Bool := false
  deriving DecidableEq, Repr

/-- A domain source switch in progress (R472): dividing down the old source or up from ÷16, the present divider, and
whether it goes to the PLL (a return) or to its fallback oscillator. -/
structure ClkRamp where
  down  : Bool
  div   : Nat
  toPll : Bool
  deriving DecidableEq, Repr

/-- A clock domain beside CLK_MON_m (R472 to R481): in-band windows in a row, the last window's verdict, the switch in
progress. -/
structure ClkDom where
  good   : Nat := 0
  lastIn : Bool := false
  ramp   : Option ClkRamp := none
  /-- Device time of the last trip by a drop of the lock detector (R481). -/
  dropAt : Option Nat := none
  deriving DecidableEq, Repr

/-- Clocks beside the registers (R467 to R483). -/
structure Clocks where
  doms    : SMap ClkDom := []
  /-- A divider above its effective value, stepping down after a band change, keyed 4·b + j (R471). -/
  lag     : SMap Nat := []
  /-- Edges that bench clock j of bench b has generated since its last source change, modulo 16, keyed 4·b + j (R285). -/
  edgeNo  : SMap Nat := []
  /-- The last edge that bench clock j of bench b generated was suppressed, keyed 4·b + j (R674). -/
  gone    : SMap Bool := []
  /-- External references that are stable: REFCLK_PCIE_A and B 0 and 1, REFCLK_ETH_o 2 + o (R468). -/
  extStable : SMap Bool := []
  /-- The part of a haul clock cycle of column c that device time has passed, in 1/160 cycle. -/
  haulPart : SMap Nat := []
  /-- A window of monitor 0 has tripped since monitor 1's last window ended (R476). -/
  mon0Bad : Bool := false
  /-- Verdicts in a row that clear IOSC_A, IOSC_B and REFCLK_SYS (R476). -/
  clearA  : Nat := 0
  clearB  : Nat := 0
  clearR  : Nat := 0
  deriving DecidableEq, Repr

/-- What leaves the device, or reaches something outside this block, newest first. -/
inductive Output where
  | msix (port fn vec : Nat)                        -- an MSI-X message; fn 0 is the PF, n + 1 is VF n
  | hostWrite (port addr : Nat) (data : List Byte)  -- a DMA write to host memory
  | completion (port fn tag : Nat) (poisoned : Bool) (data : Option Nat) -- a PCIe completion
  | cfgRetry (port fn : Nat)                        -- Request Retry Status
  | unsupported (port fn tag : Nat)                 -- a completion with Unsupported Request
  | alert (on : Bool)                               -- ALERT_N
  | link (router port word : Nat)                   -- a link word that a router sends at an output (R304)
  | inject (router l word : Nat)                    -- a link word that the end point at local port l sends its router
  | hopItem (b h kind data : Nat)                   -- an item that a hopper's read side takes (R127)
  | hopIdle (b h data : Nat)                        -- the idle item that a raw read port shows (R127)
  | laneFrame (n word : Nat)                        -- a training status or capability frame that lane n sends
  | laneItem (n item : Nat)                         -- an item that a raw lane transmits
  | ethFrame (n : Nat) (frame : List Byte)          -- a frame that an Ethernet port transmits, with its FCS
  | thermtrip                                       -- THERMTRIP_N asserts
  | mctp (tag : Nat) (msg : List Byte)              -- an MCTP message of the sideband endpoint (R561)
  | mctpCtl (cmd cc : Nat) (data : List Nat)        -- an answer to an MCTP control message (R560)
  | tapPins (instr : Nat) (on : Bool)               -- a TAP instruction takes or returns the pins (R653)
  | retrain (router port : Nat)                     -- a retrain request on the opposite link
  deriving DecidableEq, Repr

/-- The machine. Every field starts at its value right after the power-on reset of PD_AON (R624). -/
structure State where
  /-- The commands that wait, first in, first out (the model's own field). -/
  pending : List Instr := []
  /-- Device time in ns, 64 bits (R12). -/
  time    : Nat := 0
  /-- Device time at which a timer that runs was last started, by its number (the model's own field; Machine/Ops.lean numbers
  them). -/
  timers  : SMap Nat := []
  /-- How many fresh free values have been taken (the model's own field, log entry 2). -/
  freeCtr : Nat := 0
  /-- What has left the device, newest first (the model's own field, log entry 3). -/
  out     : List Output := []
  /-- The registers, unlisted at their reset values. -/
  regs    : SMap Word := []
  collector : Collector := {}
  wpl     : Weapel := {}
  /-- Device time of the last logged HLU refusal of quantity q (R568). -/
  hluLogged : SMap (Option Nat) := []
  bores   : Bores := {}
  pcie    : Pcie := {}
  tenancy : Tenancy := {}
  nvs     : Nvs := {}
  haul    : Haul := {}
  planes  : Planes := {}
  slots   : Slots := {}
  /-- Running loads, by channel. -/
  loads   : SMap (Option LoadRun) := []
  memt    : Memt := {}
  /-- A logical reset of the floor die: 0 none, 1 entering, 2 held, 3 releasing (R633 to R636). -/
  floorReset : Nat := 0
  repair  : Repair := {}
  power   : Power := {}
  thermal : Thermal := {}
  mbx     : Mailboxes := {}
  fw      : Fw := {}
  side    : Side := {}
  scrub   : SMap Scrubber := []
  /-- Haul port p of bench b is keyed 2·b + p. -/
  hports  : SMap Hport := []
  ddr     : Ddr := {}
  lanes   : Lanes := {}
  clocks  : Clocks := {}
  /-- Calibrated values of classes 3 to 6 (R597), keyed 8192·class + index. -/
  cal     : SMap CalVal := []
  /-- Hopper h of bench b is keyed 32·b + h. -/
  hoppers : SMap Hopper := []
  deriving DecidableEq, Repr

/-- Reasons for which the device stops. The spec gives the device no state in which it stops answering commands:
every error it names is a status, an event or a refusal recorded in registers, so there is one constructor and no
meaning raises it. -/
inductive Fault where
  /-- Raised by no command. Safe: no statement about a next state can rest on it. -/
  | none
  deriving DecidableEq, Repr

/-- Reasons for which a command is refused by the model. -/
inductive Refusal where
  /-- A command with no meaning in this model yet; raised by Dispatch alone. Safe: the model stops. -/
  | notModelled (mnemonic : String)
  deriving DecidableEq, Repr

/-- The machine right after reset. -/
def State.reset : State := {}

end Sys2Proof.Machine
end

