-- ==== Sys2Proof/Machine/Ops.lean ====
section
/-!
DEFINITION. The named operations that every family shares: reading and writing registers and their fields, power of a
domain, free values, events to the completion collector, Weapel entries, HLU bounds and refusals, and outputs.
-/

namespace Sys2Proof.Machine

/-- What instance `i` of register `r` holds. -/
def State.reg (s : State) (r : Reg) (i : Nat) : Word := mapGet regDefault s.regs (regKey r i)

/-- Instance `i` of register `r` set to `v`. -/
def State.setReg (s : State) (r : Reg) (i : Nat) (v : Word) : State :=
  { s with regs := mapSet regDefault s.regs (regKey r i) v }

/-- The field `f` of instance `i` of its register. -/
def State.get (s : State) (f : Fld) (i : Nat) : Nat := bitsOf (s.reg f.reg i).toNat f.lo f.w

/-- The field `f` of instance `i` set to the low bits of `x`. -/
def State.set (s : State) (f : Fld) (i : Nat) (x : Nat) : State :=
  s.setReg f.reg i (BitVec.ofNat 32 (putBits (s.reg f.reg i).toNat f.lo f.w x))

/-- A field that counts and saturates. -/
def State.incBy (s : State) (f : Fld) (i n : Nat) : State := s.set f i (min (2 ^ f.w - 1) (s.get f i + n))
def State.inc (s : State) (f : Fld) (i : Nat) : State := s.incBy f i 1

/-- A field that counts and wraps. -/
def State.incWrap (s : State) (f : Fld) (i n : Nat) : State := s.set f i ((s.get f i + n) % 2 ^ f.w)

/-- A one-bit field read as a condition. -/
def State.flag (s : State) (f : Fld) (i : Nat) : Bool := s.get f i == 1

/-- Instance `i` of `r` back at its reset value. -/
def State.clearReg (s : State) (r : Reg) (i : Nat) : State := s.setReg r i (regReset r i)

/-- A value of `w` bits that nothing constrains, and the state with one more taken (log entry 2). -/
def State.fresh (s : State) (w : Nat) : Nat × State :=
  (Config.freeNat s.freeCtr % 2 ^ w, { s with freeCtr := s.freeCtr + 1 })

/-! ### Calibrated values of classes 3 to 6 (R510, R512, R513) -/

/-- Value i of class cls (R597); the layers of class 4 stand in THM_SITE_CAL. -/
def State.calVal (s : State) (cls i : Nat) : CalVal := mapGet (fun _ => {}) s.cal (8192 * cls + i)
def State.setCal (s : State) (cls i : Nat) (x : CalVal) : State :=
  { s with cal := mapSet (fun _ => {}) s.cal (8192 * cls + i) x }

/-- The host writes a background value: the evaluation in progress is discarded, and a value restored before the first
acquisition replaces its result (R512, R513). -/
def State.calWritten (s : State) (cls i v : Nat) : State :=
  s.setCal cls i { s.calVal cls i with bg := v % 256, keep := true }

/-- An evaluation begins, from the value as it stands; before the first acquisition a restored value still replaces its
result. -/
def State.calStart (s : State) (cls i : Nat) : State :=
  let x := s.calVal cls i
  s.setCal cls i { x with keep := x.keep && !x.acq }

/-- An evaluation ends with v, which a value written meanwhile stands against (R512, R513). -/
def State.calFound (s : State) (cls i v : Nat) : State :=
  let x := s.calVal cls i
  s.setCal cls i { user := x.user, bg := if x.keep then x.bg else v % 256, keep := false, acq := true }

/-- The numbers of the timers that State keeps the start of: the page timer of mailbox m (R554), an open OTP programming step
(R584), HOLD of a floor-die reset (R632), the rise and the fall of H (R569), those of L in column c (R518), the grace and the
comparisons of bench b (R520), and the time from which its patrol's next step is counted (R105). -/
def tmPage (m : Nat) : Nat := m
def tmOtp : Nat := 70
def tmHold : Nat := 71
def tmHUp : Nat := 72
def tmHDown : Nat := 73
def tmRise (c : Nat) : Nat := 80 + c
def tmFall (c : Nat) : Nat := 84 + c
def tmGrace (b : Nat) : Nat := 100 + b
def tmExempt (b : Nat) : Nat := 164 + b
def tmPatrol (b : Nat) : Nat := 228 + b

/-- A timer counts from device time t. -/
def State.setTimer (s : State) (k t : Nat) : State := { s with timers := mapSet (fun _ => 0) s.timers k t }

/-- A timer starts, or starts anew. -/
def State.startTimer (s : State) (k : Nat) : State := s.setTimer k s.time

/-- Whether `ns` of device time have passed since a timer started. -/
def State.timerDue (s : State) (k ns : Nat) : Bool := decide (mapGet (fun _ => 0) s.timers k + ns ≤ s.time)

/-- Something leaves the device. -/
def State.emit (s : State) (o : Output) : State := { s with out := o :: s.out }

/-- Whether domain `d` is powered and released: STATE ON, QUIESCE or FENCE of PWR_DOM_d (R498, R500). -/
def State.powered (s : State) (d : Nat) : Bool :=
  let st := s.get F.PWR_DOM_STATE d
  st == 3 || st == 4 || st == 5

/-- Whether PD_BENCH_b is powered and released. -/
def State.benchUp (s : State) (b : Nat) : Bool := s.powered (dBench b)

/-- A domain loses its registers: they return to their reset values (R501). -/
def State.resetDomainRegs (s : State) (d : Nat) : State :=
  { s with regs := mapKeep (fun k => regDomain (allRegs.getD (k % 512) .CAL_BORE_SEL) (k / 512) != d) s.regs }

/-- An event of `source` with kind bit `bit` on its way to the collector (R288), with the plane and online state of its
bench. -/
def State.raiseWith (s : State) (source bit plane : Nat) (online : Bool) : State :=
  { s with collector := { s.collector with
      inFlight := s.collector.inFlight ++ [⟨source, bit, s.time, plane, online⟩] } }

/-- A bench event (R289). -/
def State.raiseBench (s : State) (b bit : Nat) : State :=
  s.raiseWith b bit (s.get F.BENCH_PLANE_STAT_ACTIVE b) (s.flag F.BENCH_PLANE_STAT_ONLINE b)

/-- An infrastructure event: PLANE reads 0 (R291). -/
def State.raise (s : State) (source bit : Nat) : State := s.raiseWith source bit 0 false

/-- The severities of R611. -/
def sevInfo : Nat := 0
def sevNotice : Nat := 1
def sevAlert : Nat := 2
def sevFatal : Nat := 3

/-- A source offers an entry to the Weapel recorder (R611 to R614). -/
def State.wlog (s : State) (code source severity detail : Nat) : State :=
  { s with wpl := { s.wpl with
      offers := s.wpl.offers ++ [⟨s.time, code, source, severity, detail % 2 ^ 32⟩] } }

/-- The tightest of two bounds of quantity q (R564): a subset for a mask, field by field for the trim word, else the
lower value. -/
def hluTighter (q a b : Nat) : Nat :=
  if q = 11 ∨ q = 12 ∨ q = 14 ∨ q = 17 then Nat.land a b
  else if q = 18 then
    min (bitsOf a 24 8) (bitsOf b 24 8) * 2 ^ 24 + max (bitsOf a 16 8) (bitsOf b 16 8) * 2 ^ 16
      + min (bitsOf a 8 4) (bitsOf b 8 4) * 2 ^ 8 + min (bitsOf a 4 4) (bitsOf b 4 4) * 2 ^ 4
  else min a b

/-- The effective bound HLU_EFF_q: the tightest of the three layers (R563). -/
def State.hluEff (s : State) (q : Nat) : Nat :=
  hluTighter q (hluAbs q) (hluTighter q (s.get F.HLU_BOARD_VALUE q) (s.get F.HLU_FW_VALUE q))

/-- Whether a value of quantity q lies within a bound: a subset of a mask, not above a limit, not looser in any field of
the trim word (R564, R568). -/
def hluWithin (q v bound : Nat) : Bool := hluTighter q v bound == v

/-- The SRC code of HLU_REFUSE (R575). -/
def srcCode : Src → Nat
  | .pf _ => 0
  | .vf _ => 1
  | .fw => 2
  | .other => 3

/-- A refusal by the HLU (R568): counted, recorded, and logged unless one of the same quantity was logged within the
last 1 ms. -/
def State.hluRefuse (s : State) (q src : Nat) : State :=
  let s1 := ((s.inc F.HLU_REFUSE_COUNT 0).set F.HLU_REFUSE_SRC 0 src).set F.HLU_REFUSE_Q 0 q
  let due := match mapGet (fun _ => none) s.hluLogged q with
    | none => true
    | some t => decide (t + 1000000 ≤ s.time)
  if due then
    { s1.wlog 0x0901 178 sevNotice (q + src * 32) with
        hluLogged := mapSet (fun _ => none) s.hluLogged q (some s.time) }
  else s1

end Sys2Proof.Machine
end

