-- ==== Sys2Proof/Machine/Msix.lean ====
section
/-!
DEFINITION. MSI-X vectors (R429): raising one, when its message can be sent, and sending what is pending.
-/

namespace Sys2Proof.Machine

/-- Key of a function's configuration space on a port: fn 0 is the PF, n + 1 is VF n. -/
def cfgKey (port fn : Nat) : Nat := 65 * port + fn

/-- Key of an MSI-X table entry. -/
def msixKey (port fn vec : Nat) : Nat := 8 * cfgKey port fn + vec

def State.cfg (s : State) (port fn : Nat) : CfgSpace := mapGet (fun _ => {}) s.pcie.cfg (cfgKey port fn)

def State.setCfg (s : State) (port fn : Nat) (c : CfgSpace) : State :=
  { s with pcie := { s.pcie with cfg := mapSet (fun _ => {}) s.pcie.cfg (cfgKey port fn) c } }

def State.msixEntry (s : State) (port fn vec : Nat) : MsixEntry :=
  mapGet (fun _ => {}) s.pcie.msix (msixKey port fn vec)

def State.setMsixEntry (s : State) (port fn vec : Nat) (e : MsixEntry) : State :=
  { s with pcie := { s.pcie with msix := mapSet (fun _ => {}) s.pcie.msix (msixKey port fn vec) e } }

/-- The port VF n is attached to (R417, R435). -/
def State.vfPort (s : State) (n : Nat) : Nat :=
  if n < 32 then bitOf (s.get F.PCIE_VF_MAP_LO_MAP_LO 0) n else bitOf (s.get F.PCIE_VF_MAP_HI_MAP_HI 0) (n - 32)

/-- The port a function's messages go out through: PF_VEC_PORT for the PF, the attachment for a VF (R429). -/
def State.msgPort (s : State) (fn : Nat) : Nat :=
  if fn = 0 then s.get F.PCIE_DEV_CTL_PF_VEC_PORT 0 else s.vfPort (fn - 1)

/-- Whether a port carries messages: its domain is on, PERST is released and its link is up (R429). -/
def State.portLive (s : State) (port : Nat) : Bool :=
  s.powered (dPcie port) && s.flag F.PCIE_LINK_STAT_UP port && !s.flag F.PCIE_LINK_STAT_PERST port

/-- Whether a message of vector `vec` of function `fn` can be sent (R429); a floor-die reset holds it (R632). -/
def State.canSend (s : State) (fn vec : Nat) : Bool :=
  let p := s.msgPort fn
  let c := s.cfg p fn
  s.portLive p && s.floorReset == 0 && c.msixEn && !c.msixFm && !(s.msixEntry p fn vec).mask

/-- Vectors a function has: 6 for the PF, 3 for a VF (R429). -/
def vecCount (fn : Nat) : Nat := if fn = 0 then 6 else 3

/-- Pending bits of a function's vectors. -/
def State.pendBits (s : State) (fn : Nat) : Nat :=
  if fn = 0 then s.pcie.pendPf else mapGet (fun _ => 0) s.pcie.pendVf (fn - 1)

def State.setPendBits (s : State) (fn x : Nat) : State :=
  if fn = 0 then { s with pcie := { s.pcie with pendPf := x } }
  else { s with pcie := { s.pcie with pendVf := mapSet (fun _ => 0) s.pcie.pendVf (fn - 1) x } }

/-- A vector is raised: its message is sent, or it stays pending (R429). -/
def State.raiseVec (s : State) (fn vec : Nat) : State :=
  if s.canSend fn vec then s.emit (.msix (s.msgPort fn) fn vec)
  else s.setPendBits fn (Nat.lor (s.pendBits fn) (2 ^ vec))

/-- A pending vector whose message can be sent is sent (R429). -/
def State.sendPending (s : State) (fn vec : Nat) : State :=
  if bitOf (s.pendBits fn) vec = 1 ∧ s.canSend fn vec = true then
    (s.setPendBits fn (putBits (s.pendBits fn) vec 1 0)).emit (.msix (s.msgPort fn) fn vec)
  else s

/-- Every pending vector of a function that can be sent is sent. -/
def State.sendAllPending (s : State) (fn : Nat) : State :=
  (upTo (vecCount fn)).foldl (fun s v => s.sendPending fn v) s

/-- An event behind PF vector 0: the vector is raised and ALERT_N asserts (R429). -/
def State.alertEvent (s : State) : State := (s.raiseVec 0 0).emit (.alert true)

/-- A function's configuration space, with its MSI-X state, returns to its reset values (R429). -/
def State.resetCfg (s : State) (port fn : Nat) : State :=
  { s with pcie := { s.pcie with
      cfg := mapSet (fun _ => {}) s.pcie.cfg (cfgKey port fn) {}
      msix := mapKeep (fun k => k / 8 != cfgKey port fn) s.pcie.msix } }

end Sys2Proof.Machine
end

