-- ==== Sys2Proof/Machine/Access.lean ====
section
/-!
DEFINITION. Who may write a register (R8, R9, R258, R259 and the chapters), and the generic write under the access codes.
-/

namespace Sys2Proof.Machine

/-- The bench whose control block holds instance `i` of `r`. -/
def benchOfInst (r : Reg) (i : Nat) : Nat := i / (regPlace r).2.tail.foldl (fun a e => a * e.2) 1

/-- Whether a register is one of a mailbox's (R550). -/
def isMailboxReg : Reg → Bool
  | .MBX_CMD_DOOR => true
  | .MBX_RSP_DOOR => true
  | .MBX_STATUS => true
  | .MBX_CTL => true
  | _ => false

/-- Whether BAR accesses of port x take effect: its link is up, the boot is complete (R630), and no floor-die reset is in
progress (R633). -/
def State.barsServed (s : State) (x : Nat) : Bool :=
  s.portLive x && s.flag F.PWR_BOOT_STAT_DONE 0 && s.floorReset == 0

/-- Whether a source reaches a register for writing. The register's domain must be powered: a clamped or unpowered
block takes no write (R498); the controller runs with PD_MGT (R494). Only the power controller answers during a floor-die
reset, and refuses (R503). A command of BENCH_PLANE_SEL reaches a bench in INIT, where it is refused (R153). The PF window and the controller reach every register; a VF reaches its own mailbox and
PCIE_VF_APER, and its bench's control block while FN is 0, where its chapter lets it write (R259, R421, R422). -/
def State.mayWrite (s : State) (src : Src) (r : Reg) (i : Nat) : Bool :=
  validInst r i && (s.powered (regDomain r i) || (r == .BENCH_PLANE_SEL && s.get F.PWR_DOM_STATE (regDomain r i) == 2)) &&
    match src with
    | .pf x =>
      (s.barsServed x || (r == .PWR_DOM && s.portLive x && s.floorReset != 0)) && r != .PCIE_VF_APER
        && !(isMailboxReg r && i != 64)
    | .fw => s.powered 1 && (s.floorReset == 0 || r == .PWR_DOM) && r != .PCIE_VF_APER
    | .vf n =>
      s.barsServed (s.vfPort n) &&
      if isMailboxReg r || r == .PCIE_VF_APER then i == n
      else vfAccess r == .write && benchOfInst r i == n && s.get F.BENCH_ASSIGN_FN n == 0
    | .other => false

/-- A write under the access codes of R8: RW bits are stored, RW1C bits written 1 clear, all else is ignored. -/
def maskedWrite (r : Reg) (old v : Word) : Word :=
  ((old &&& ~~~(rwMask r)) ||| (v &&& rwMask r)) &&& ~~~(v &&& w1cMask r)

def State.plainWrite (s : State) (r : Reg) (i : Nat) (v : Word) : State := s.setReg r i (maskedWrite r (s.reg r i) v)

/-- Only the RW1C bits of a write take effect. -/
def State.w1cWrite (s : State) (r : Reg) (i : Nat) (v : Word) : State :=
  s.setReg r i (s.reg r i &&& ~~~(v &&& w1cMask r))

/-- The value of a field in a word being written. -/
def fldOf (f : Fld) (v : Word) : Nat := bitsOf v.toNat f.lo f.w

end Sys2Proof.Machine
end

