-- ==== Sys2Proof/Machine/Flash.lean ====
section
/-!
DEFINITION. The boot flash as bytes (R606, R646).
-/

namespace Sys2Proof.Machine

/-- What an unlisted byte of the flash reads: as supplied, or all-ones in a slot that FW_WRITE has erased. -/
def State.flashDef (s : State) (a : Nat) : Byte :=
  if a < 0x1000000 ∧ mapGet (fun _ => false) s.nvs.erased (a / 0x800000) = true then 0xFF#8 else Config.flashInit a

def State.flashByte (s : State) (a : Nat) : Byte := mapGet s.flashDef s.nvs.flash a
def State.setFlashByte (s : State) (a : Nat) (x : Byte) : State :=
  { s with nvs := { s.nvs with flash := mapSet s.flashDef s.nvs.flash a x } }

/-- Slot k of the flash is erased (R606). -/
def State.eraseFlash (s : State) (k : Nat) : State :=
  { s with nvs := { s.nvs with
      flash := mapKeep (fun a => a / 0x800000 != k) s.nvs.flash
      erased := mapSet (fun _ => false) s.nvs.erased k true } }

def State.flashRead (s : State) (a n : Nat) : List Byte := (upTo n).map fun i => s.flashByte (a + i)

end Sys2Proof.Machine
end

