-- ==== Sys2Proof/Machine/Weapel.lean ====
section
/-!
DEFINITION. The Weapel recorder (R610 to R623): its input queue, the ring, freezing, the copy to NVS and resuming.
-/

namespace Sys2Proof.Machine

/-- The 128-bit value of an entry (R611). -/
def wplWord (e : WplEntry) : Nat :=
  e.time % 2 ^ 64 + (e.code % 2 ^ 16) * 2 ^ 64 + (e.source % 2 ^ 8) * 2 ^ 80 + (e.severity % 2 ^ 8) * 2 ^ 88
    + (e.detail % 2 ^ 32) * 2 ^ 96

/-- Whether an entry is a trigger entry (R615). -/
def isTrigger (e : WplEntry) : Bool := e.severity == sevFatal || e.code == 0x0A01 || e.code == 0x0A02

/-- The TRIGGER code of a trigger entry (R615). -/
def triggerCode (e : WplEntry) : Nat :=
  if e.code = 0x0A01 then 1 else if e.code = 0x0A02 then 2 else if e.code = 0x0817 then 3 else 0

def State.ringEntry (s : State) (i : Nat) : Option WplEntry := mapGet (fun _ => none) s.wpl.ring i

/-- The entries the ring holds, oldest first (R619). -/
def State.ringEntries (s : State) : List WplEntry :=
  let n := s.get F.WPL_STAT_VALID_CNT 0
  let start := if n = 4096 then s.get F.WPL_STAT_NEXT 0 else 0
  (upTo n).filterMap fun i => s.ringEntry ((start + i) % 4096)

/-- The recorder writes one entry at NEXT (R610). -/
def State.ringWrite (s : State) (e : WplEntry) : State :=
  let i := s.get F.WPL_STAT_NEXT 0
  let s1 := { s with wpl := { s.wpl with ring := mapSet (fun _ => none) s.wpl.ring i (some e) } }
  (s1.set F.WPL_STAT_NEXT 0 ((i + 1) % 4096)).set F.WPL_STAT_VALID_CNT 0
    (min 4096 (s.get F.WPL_STAT_VALID_CNT 0 + 1))

/-- After a trigger entry the ring is frozen and its copy to NVS starts (R615, R617). -/
def State.freezeAfter (s : State) (e : WplEntry) : State :=
  let s1 := (s.set F.WPL_STAT_FROZEN 0 1).set F.WPL_STAT_COPYING 0 1
  let seq := if s.wpl.anyYet then (s.wpl.lastSeq + 1) % 128 else 0
  { s1 with wpl := { s1.wpl with
      discarded := if s.flag F.WPL_STAT_FROZEN 0 then s1.wpl.discarded else 0
      copy := some { valid := true, time := e.time, cause := e.code, trigger := triggerCode e, seq := seq,
                     entries := s1.ringEntries } } }

/-- The recorder takes one entry (R613, R615, R616): written; written with a freeze if a trigger; discarded and counted
while frozen. -/
def State.takeEntry (s : State) (e : WplEntry) : State :=
  if isTrigger e then (s.ringWrite e).freezeAfter e
  else if s.flag F.WPL_STAT_FROZEN 0 then
    let s1 := s.inc F.WPL_DROP_FROZEN_DROP 0
    { s1 with wpl := { s1.wpl with discarded := s1.wpl.discarded + 1 } }
  else s.ringWrite e

/-- Insert an offered entry behind those of its device time with a source not above its own (R613). -/
def offerInsert (e : WplEntry) : List WplEntry → List WplEntry
  | [] => [e]
  | x :: xs => if x.time = e.time ∧ e.source < x.source then e :: x :: xs else x :: offerInsert e xs

/-- The offered entries in the order the queue sees them: arrival order, on one edge ascending SOURCE (R613). -/
def offerOrder (l : List WplEntry) : List WplEntry := l.foldl (fun acc e => offerInsert e acc) []

/-- One entry offered to the 64-entry queue: queued, or discarded and counted (R613). -/
def State.queueOne (s : State) (e : WplEntry) : State :=
  if s.wpl.queue.length < 64 then { s with wpl := { s.wpl with queue := s.wpl.queue ++ [e] } }
  else s.inc F.WPL_DROP_QUEUE_DROP 0

/-- All offered entries go to the queue. -/
def State.queueOffers (s : State) : State :=
  (offerOrder s.wpl.offers).foldl State.queueOne { s with wpl := { s.wpl with offers := [] } }

/-- The front of the queue is taken, unless it is a trigger entry that waits for a running copy (R618). -/
def State.serveQueue (s : State) : State :=
  match s.wpl.queue with
  | [] => s
  | e :: rest =>
    if isTrigger e && s.flag F.WPL_STAT_COPYING 0 then s
    else ({ s with wpl := { s.wpl with queue := rest } }).takeEntry e

/-- WEAPEL_ENTRY (R613): offered entries enter the queue and the recorder takes the one at its front. -/
def execWeapelEntry (s : State) : Host.Outcome State Fault Refusal := .next s.queueOffers.serveQueue

/-- The record just copied is in NVS and the index names it (R617). -/
def State.commitRecord (s : State) (r : WplRecord) : State :=
  let p := (s.wpl.newest + 1) % 8
  { s with wpl := { s.wpl with
      records := mapSet (fun _ => {}) s.wpl.records p r, newest := p, lastSeq := r.seq, anyYet := true, copy := none } }

/-- A copy that does not verify leaves VALID 0 at its position and the index unchanged, and logs 0x0A04 (R617). -/
def State.failRecord (s : State) : State :=
  let p := (s.wpl.newest + 1) % 8
  ({ s with wpl := { s.wpl with records := mapSet (fun _ => {}) s.wpl.records p {}, copy := none } }).wlog
    0x0A04 180 sevAlert p

/-- The running copy ends (R617, R618), and a waiting trigger entry starts the next. -/
def State.recordDone (s : State) (ok : Bool) : State :=
  match s.wpl.copy with
  | none => s
  | some r =>
    let s1 := (if ok then s.commitRecord r else s.failRecord).set F.WPL_STAT_COPYING 0 0
    match s1.wpl.queue with
    | e :: _ => if isTrigger e then s1.serveQueue else s1
    | [] => s1

/-- A host freeze: the trigger entry 0x0A01 is offered, DETAIL 0 from the mailbox and 1 from WPL_CTL (R614, R621). -/
def State.hostFreeze (s : State) (src detail : Nat) : State := s.wlog 0x0A01 src sevInfo detail

/-- Logging resumes with 0x0A03 as the first entry; a ring that runs is left as it is (R616). -/
def State.wplResume (s : State) : State :=
  if s.flag F.WPL_STAT_FROZEN 0 then
    let s1 := (s.set F.WPL_STAT_FROZEN 0 0).ringWrite
      ⟨s.time, 0x0A03, 180, sevInfo, min (2 ^ 32 - 1) s.wpl.discarded⟩
    { s1 with wpl := { s1.wpl with discarded := 0 } }
  else s

/-- A write of WPL_CTL with both bits set is ignored (R621). -/
def wplCtlBoth (v : Word) : Bool := bitOf v.toNat 31 == 1 && bitOf v.toNat 30 == 1

/-- Whether at least one record is valid (REC_ANY, R620). -/
def State.recAny (s : State) : Bool := s.wpl.records.any fun e => e.2.valid

end Sys2Proof.Machine
end

