-- ==== Sys2Proof/Machine/Mailbox.lean ====
section
/-!
DEFINITION. Mailboxes (R550 to R562): command pages, chaining, response pages, the page timer, ABORT, the sideband's
mailbox, and the answers that hardware gives by itself. Mailboxes 0 to 63 are the VFs', 64 the PF's, 65 the sideband's.
-/

namespace Sys2Proof.Machine

/-- Status codes of R558. -/
def stOK : Nat := 0
def stBUSY : Nat := 1
def stBADOP : Nat := 2
def stBADARG : Nat := 3
def stLIMIT : Nat := 4
def stNORES : Nat := 5
def stTIMEOUT : Nat := 6
def stFRAME : Nat := 8
def stNOTOWNER : Nat := 9

/-- States of MBX_STATUS (R571). -/
def mbIdle : Nat := 0
def mbCmd : Nat := 1
def mbMore : Nat := 2
def mbRsp : Nat := 3

def State.box (s : State) (m : Nat) : Mbx := mapGet (fun _ => {}) s.mbx.boxes m
def State.setBox (s : State) (m : Nat) (x : Mbx) : State :=
  { s with mbx := { s.mbx with boxes := mapSet (fun _ => {}) s.mbx.boxes m x } }
def State.mbSt (s : State) (m : Nat) : Nat := s.get F.MBX_STATUS_STATE m
def State.setMbSt (s : State) (m st : Nat) : State := s.set F.MBX_STATUS_STATE m st

/-- Payload bytes of a page (R551). -/
def pageCap (m : Nat) : Nat := if m < 64 then 1008 else 4080

/-- A page: its 16-byte header and its payload (R551). -/
def mkPage (lo tag len page : Nat) (last : Bool) (total opcode : Nat) (data : List Byte) : List Byte :=
  leBytes 2 lo ++ leBytes 2 tag ++ leBytes 2 len ++ leBytes 1 page ++ leBytes 1 (b2n last) ++ leBytes 4 total
    ++ leBytes 2 opcode ++ leBytes 2 0 ++ data

/-- The pages of a response, from page i on (R551); the fuel bounds their number. -/
def rspPages (cap op tag st total : Nat) : Nat → Nat → List Byte → List (List Byte)
  | 0, _, _ => []
  | n + 1, i, p =>
    let d := p.take cap
    if p.length ≤ cap then [mkPage st tag d.length i true total op d]
    else mkPage st tag d.length i false total op d :: rspPages cap op tag st total n (i + 1) (p.drop cap)

/-- The message that carries a page over the sideband (R561). -/
def mctpPage (kind : Nat) (page : List Byte) : List Byte :=
  [0x7E#8] ++ (leBytes 2 Config.vendorId).reverse ++ leBytes 1 kind ++ [0#8] ++ page

/-- The sideband answers the message it holds to answer (R561). -/
def State.sbAnswer (s : State) (kind : Nat) (page : List Byte) : State :=
  match (s.box 65).msgTag with
  | none => s
  | some t => (s.setBox 65 { s.box 65 with msgTag := none }).emit (.mctp t (mctpPage kind page))

/-- A response page is posted: RSP, and the response vector or the sideband's answer (R550, R552, R561). -/
def State.postPage (s : State) (m : Nat) (page : List Byte) (rest : List (List Byte)) : State :=
  let s1 := ((s.setBox m { s.box m with rspBuf := page, pages := rest }).setMbSt m mbRsp).startTimer (tmPage m)
  if m = 65 then s1.sbAnswer 0x81 page
  else if s1.flag F.MBX_CTL_IRQ_EN m then (if m = 64 then s1.raiseVec 0 1 else s1.raiseVec (m + 1) 0)
  else s1

/-- A response is posted, page by page (R551, R552). -/
def State.respond (s : State) (m op tag st : Nat) (payload : List Byte) : State :=
  match rspPages (pageCap m) op tag st payload.length (payload.length + 1) 0 payload with
  | [] => s
  | p :: rest => (s.setBox m { s.box m with payload := [] }).postPage m p rest

/-- The DETAIL word of a response other than OK (R577). -/
def detail (reason item : Nat) : List Byte := leBytes 2 reason ++ leBytes 2 item

/-! ### What a command page must be (R553, R557, R576, R582) -/

/-- The opcodes of R582. -/
def opsPSV : List Nat := [0x0100, 0x0101, 0x020A, 0x0302, 0x0303, 0x0401]
def opsP : List Nat := [0x0102, 0x0103]
def opsPS : List Nat := [0x0200, 0x0201, 0x0202, 0x0203, 0x0204, 0x0205, 0x0206, 0x0207, 0x0208, 0x0209,
  0x0300, 0x0301, 0x0304, 0x0400, 0x0402, 0x0500, 0x0501, 0x0502, 0x0503, 0x0504, 0x0600, 0x0601,
  0x0700, 0x0701, 0x0702, 0x0703, 0x0800, 0x0801, 0x0802, 0x0803, 0x0804, 0x0900, 0x0901, 0x0902, 0x0903,
  0x0A00, 0x0A01]

/-- Whether mailbox m may issue an opcode, in recovery mode only families 0x08xx and 0x09xx and no VF (R544, R582). -/
def mayIssue (recovery : Bool) (m op : Nat) : Bool :=
  (opsPSV.contains op || (decide (64 ≤ m) && opsPS.contains op) || (m == 64 && opsP.contains op))
    && (!recovery || (decide (64 ≤ m) && (op / 256 == 8 || op / 256 == 9)))

/-- The least and greatest TOTAL of an opcode's layout. -/
def payloadLen (op : Nat) : Nat × Nat :=
  match op with
  | 0x0102 => (4, 4) | 0x0103 => (80, 80) | 0x0200 => (4, 4) | 0x0201 => (4, 4) | 0x0202 => (4, 4)
  | 0x0203 => (20, 20) | 0x0204 => (12, 12) | 0x0205 => (20, 20) | 0x0206 => (8, 8) | 0x0207 => (8, 8)
  | 0x0208 => (12, 12) | 0x0209 => (12, 4100) | 0x020A => (4, 4) | 0x0300 => (4, 4) | 0x0301 => (4, 4)
  | 0x0302 => (4, 4) | 0x0303 => (4, 4) | 0x0304 => (4, 4) | 0x0400 => (8, 8) | 0x0401 => (4, 4)
  | 0x0402 => (4, 4) | 0x0500 => (4, 4) | 0x0502 => (12, 12) | 0x0504 => (8, 8) | 0x0600 => (12, 12)
  | 0x0601 => (13, 65532) | 0x0700 => (8, 8) | 0x0701 => (4, 4) | 0x0702 => (4, 4) | 0x0703 => (4, 4)
  | 0x0800 => (8, 8) | 0x0804 => (8, 8) | 0x0900 => (9, 65536) | 0x0901 => (4, 4) | 0x0902 => (4, 4)
  | 0x0903 => (4, 4) | 0x0A00 => (4, 4) | 0x0A01 => (4, 4) | _ => (0, 0)

/-- The reserved bits of an opcode's layout, as (byte offset, bits). -/
def payloadResv (op : Nat) : List (Nat × Nat) :=
  match op with
  | 0x0102 => [(1, 255), (2, 255), (3, 255)]
  | 0x0200 => [(1, 0xFC), (2, 255), (3, 255)]
  | 0x0201 => [(2, 0xF0), (3, 255)]
  | 0x0202 => [(2, 255), (3, 255)]
  | 0x0203 => [(2, 255), (3, 255), (6, 0xF0), (7, 0x7F), (10, 0xF0), (11, 0x7F), (14, 0xF0), (15, 0x7F), (18, 0xF0),
      (19, 0x7F)]
  | 0x0204 => [(2, 255), (3, 255), (4, 255), (5, 0x0F), (10, 0xC0), (11, 0x1F)]
  | 0x0205 => [(1, 255), (2, 255), (3, 255)]
  | 0x0206 => [(3, 255), (5, 0xF8), (6, 0xE0), (7, 0xFF)]
  | 0x0207 => [(1, 255), (2, 255), (3, 255), (6, 0xF0), (7, 0x7F)]
  | 0x0208 => [(2, 0xFC), (3, 255), (4, 0xF0), (5, 0x03), (6, 0x88), (7, 0x0F), (8, 0xF8), (9, 255), (10, 255), (11, 0x7F)]
  | 0x0209 => [(2, 0xF8), (3, 255)]
  | 0x020A => [(1, 255), (2, 255), (3, 255)]
  | 0x0301 => [(3, 0xFE)]
  | 0x0302 => [(2, 255), (3, 255)]
  | 0x0303 => [(1, 255), (2, 255), (3, 255)]
  | 0x0304 => [(1, 0xFE)]
  | 0x0400 => [(1, 255), (2, 255), (3, 255)]
  | 0x0401 => [(1, 255), (2, 255), (3, 255)]
  | 0x0402 => [(1, 255), (2, 255), (3, 255)]
  | 0x0500 => [(1, 0xFE), (2, 255), (3, 255)]
  | 0x0502 => [(4, 0xFE), (5, 255), (6, 255), (7, 255), (8, 0xF8), (9, 255), (10, 0x80), (11, 255)]
  | 0x0504 => [(1, 255), (2, 255), (3, 255)]
  | 0x0600 => [(3, 255)]
  | 0x0601 => [(3, 255)]
  | 0x0702 => [(1, 255), (2, 255), (3, 255)]
  | 0x0703 => [(2, 255), (3, 255)]
  | 0x0800 => [(2, 255), (3, 255)]
  | 0x0804 => [(1, 255)]
  | 0x0900 => [(1, 255), (2, 255), (3, 255)]
  | 0x0901 => [(1, 255), (2, 255), (3, 255)]
  | 0x0902 => [(1, 255), (2, 255), (3, 255)]
  | 0x0903 => [(2, 255), (3, 255)]
  | 0x0A00 => [(0, 0xFE), (1, 255), (2, 255), (3, 255)]
  | 0x0A01 => [(1, 255)]
  | _ => []

/-- A payload has its layout's length and its reserved bits 0 (R576). -/
def payloadOk (op : Nat) (p : List Byte) : Bool :=
  decide ((payloadLen op).1 ≤ p.length ∧ p.length ≤ (payloadLen op).2)
    && (payloadResv op).all (fun r => Nat.land (leAt p r.1 1) r.2 == 0)
    && (op != 0x0601 || p.length == 12 + leAt p 8 4)

/-! ### Weapel readout (R603, R604), which hardware also serves over the sideband -/

/-- Entries as bytes, oldest first. -/
def entriesBytes (l : List WplEntry) : List Byte := l.flatMap fun e => leBytes 16 (wplWord e)

/-- The response of WPL_RING_READ: at most COUNT entries from FIRST on. -/
def State.wplRingPayload (s : State) (p : List Byte) : List Byte :=
  let es := s.ringEntries
  leBytes 4 es.length ++ leBytes 4 (b2n (s.flag F.WPL_STAT_FROZEN 0))
    ++ entriesBytes ((es.drop (leAt p 0 2)).take (leAt p 4 4))

def State.wplRecord (s : State) (r : Nat) : WplRecord := mapGet (fun _ => {}) s.wpl.records r

/-- The response of WPL_RECORD_LIST. -/
def State.wplListPayload (s : State) : List Byte :=
  (upTo 8).flatMap fun r =>
    let x := s.wplRecord r
    leBytes 8 x.time ++ leBytes 2 x.cause ++ leBytes 1 x.trigger ++ leBytes 1 (x.seq % 128 + 128 * b2n x.valid)
      ++ leBytes 4 x.entries.length

/-- The response of WPL_RECORD_READ. -/
def State.wplRecordPayload (s : State) (p : List Byte) : List Byte :=
  let es := (s.wplRecord (leAt p 0 1)).entries
  leBytes 4 es.length ++ leBytes 4 0 ++ entriesBytes ((es.drop (leAt p 2 2)).take (leAt p 4 4))

/-- Status and payload of a readout command; a count or record out of range is malformed. -/
def State.wplReadout (s : State) (op : Nat) (p : List Byte) : Nat × List Byte :=
  let badCount := decide (leAt p 4 4 = 0 ∨ 4095 < leAt p 4 4)
  if op = 0x0800 then (if badCount then (stBADARG, detail 0 0) else (stOK, s.wplRingPayload p))
  else if op = 0x0803 then (stOK, s.wplListPayload)
  else if badCount || decide (7 < leAt p 0 1) then (stBADARG, detail 0 0) else (stOK, s.wplRecordPayload p)

/-! ### RING and ACK -/

/-- Hardware's BUSY while the controller does not serve (R556): TOTAL 0, echoing TAG and OPCODE. -/
def State.hwBusy (s : State) (m op tag : Nat) : State := (s.set F.MBX_STATUS_TAG m tag).respond m op tag stBUSY []

/-- The sideband's answers with PD_MGT down (R562): Weapel readout in hardware, every other opcode BUSY. -/
def State.sbHardware (s : State) (op tag : Nat) (p : List Byte) : State :=
  if op = 0x0800 ∨ op = 0x0803 ∨ op = 0x0804 then
    let r := if payloadOk op p then s.wplReadout op p else (stBADARG, detail 0 0)
    s.respond 65 op tag r.1 r.2
  else s.hwBusy 65 op tag

/-- The page's header is malformed, or breaks the chain (R551, R553). -/
def pageBad (m : Nat) (first : Bool) (x : Mbx) (pg : List Byte) : Bool :=
  decide (65536 < leAt pg 8 4) || decide (pageCap m < leAt pg 4 2)
    || leAt pg 7 1 / 2 != 0 || leAt pg 12 4 != 0
    || (if first then leAt pg 6 1 != 0
        else leAt pg 6 1 != x.page + 1 || leAt pg 2 2 != x.tag || leAt pg 0 2 != x.opcode)

/-- The controller takes the last page: the whole command is checked and joins the queue (R553, R557, R559, R576). -/
def State.takeCommand (s : State) (m : Nat) (x : Mbx) : State :=
  let refuse := fun st => s.respond m x.opcode x.tag st (detail 0 0)
  if x.payload.length ≠ x.total then refuse stBADARG
  else if s.powered 1 = false then s.sbHardware x.opcode x.tag x.payload
  else if mayIssue (s.flag F.MBX_FW_STAT_RECOVERY 0) m x.opcode = false then refuse stBADOP
  else if payloadOk x.opcode x.payload = false then refuse stBADARG
  else
    { s.setMbSt m mbCmd with mbx := { s.mbx with cmds := s.mbx.cmds ++ [⟨m, x.opcode, x.tag, x.payload, false, false, 0, false, s.time⟩] } }

/-- A page is taken (R552, R553). -/
def State.takePage (s : State) (m : Nat) (pg : List Byte) : State :=
  let first := s.mbSt m == mbIdle
  let old := s.box m
  if pageBad m first old pg then
    let op := if first then leAt pg 0 2 else old.opcode
    let tag := if first then leAt pg 2 2 else old.tag
    (s.set F.MBX_STATUS_TAG m tag).respond m op tag stBADARG (detail 0 0)
  else
    let data := (pg.drop 16).take (leAt pg 4 2)
    let x := { old with opcode := leAt pg 0 2, tag := leAt pg 2 2, page := leAt pg 6 1,
                        total := if first then leAt pg 8 4 else old.total,
                        payload := (if first then [] else old.payload) ++ data
                                     ++ List.replicate (leAt pg 4 2 - data.length) 0#8 }
    let s1 := (s.setBox m x).set F.MBX_STATUS_TAG m x.tag
    if leAt pg 7 1 % 2 = 1 then s1.takeCommand m x
    else
      let s2 := (s1.setMbSt m mbMore).startTimer (tmPage m)
      if m = 65 then s2.sbAnswer 0x82 (pg.take 16) else s2

/-- RING (R552, R556): outside IDLE and MORE it is ignored with DOOR_ERR; `page` is what the host has written to the
command buffer. -/
def State.ring (s : State) (m : Nat) (page : List Byte) : State :=
  let s0 := s.setBox m { s.box m with cmdBuf := page ++ (s.box m).cmdBuf.drop page.length }
  if s.mbSt m ≠ mbIdle ∧ s.mbSt m ≠ mbMore then s.set F.MBX_STATUS_DOOR_ERR m 1
  else if s.powered 1 && !s.flag F.MBX_FW_STAT_FW_UP 0 then s0.hwBusy m (leAt page 0 2) (leAt page 2 2)
  else s0.takePage m (s0.box m).cmdBuf

/-- MBX_RING (R552): RING written to MBX_CMD_DOOR of mailbox m. -/
def execMbxRing (src : Src) (m : Nat) (v : Word) (page : List Byte) (s : State) : Host.Outcome State Fault Refusal :=
  .next (if s.mayWrite src .MBX_CMD_DOOR m && fldOf F.MBX_CMD_DOOR_RING v == 1 then
    s.ring m (page.take (pageCap m + 16))
  else s)

/-- ACK (R552): the next response page, or IDLE; outside RSP it is ignored with DOOR_ERR. -/
def State.ack (s : State) (m : Nat) : State :=
  if s.mbSt m ≠ mbRsp then s.set F.MBX_STATUS_DOOR_ERR m 1
  else match (s.box m).pages with
    | [] => s.setMbSt m mbIdle
    | p :: rest => s.postPage m p rest

/-- MBX_ACK (R552): ACK written to MBX_RSP_DOOR. -/
def execMbxAck (src : Src) (m : Nat) (v : Word) (s : State) : Host.Outcome State Fault Refusal :=
  .next (if s.mayWrite src .MBX_RSP_DOOR m && fldOf F.MBX_RSP_DOOR_ACK v == 1 then s.ack m else s)

/-- ABORT (R555): the mailbox returns to IDLE; a command in CMD runs on and its response is discarded. -/
def State.mbxAbort (s : State) (m : Nat) : State :=
  if s.mbSt m = mbIdle then s
  else
    let s1 := (s.setBox m { s.box m with payload := [], pages := [], msgTag := none }).setMbSt m mbIdle
    if s.mbSt m = mbCmd then
      { s1 with mbx := { s1.mbx with cmds := s1.mbx.cmds.map fun e => if e.mb = m then { e with drop := true } else e } }
    else s1

/-- A MBX_CTL write (R572). -/
def State.mbxCtlWrite (s : State) (m : Nat) (v : Word) : State :=
  let s1 := s.plainWrite .MBX_CTL m v
  if fldOf F.MBX_CTL_ABORT v = 1 then s1.mbxAbort m else s1

/-- MBX_ABORT (R555): a MBX_CTL write with ABORT. -/
def execMbxAbort (src : Src) (m : Nat) (v : Word) (s : State) : Host.Outcome State Fault Refusal :=
  .next (if s.mayWrite src .MBX_CTL m && fldOf F.MBX_CTL_ABORT v == 1 then s.mbxCtlWrite m v else s)

/-- A Function Level Reset of VF n, or its port's reset, acts on its mailbox (R419, R555). -/
def State.mbxReset (s : State) (n : Nat) : State :=
  let s1 := (s.mbxAbort n).set F.MBX_CTL_IRQ_EN n 0
  s1.setBox n { s1.box n with cmdBuf := [], rspBuf := [] }

/-- PAGE_TIMER_EXPIRY (R554): 100 ms after the last RING or ACK in MORE or RSP. -/
def execPageTimerExpiry (m : Nat) (s : State) : Host.Outcome State Fault Refusal :=
  let x := s.box m
  let due := decide (m < 66) && s.timerDue (tmPage m) 100000000
  .next (if due = true ∧ s.mbSt m = mbMore then
      s.respond m x.opcode x.tag stTIMEOUT (detail 0 0)
    else if due = true ∧ s.mbSt m = mbRsp then
      ((s.setBox m { x with pages := [] }).setMbSt m mbIdle).wlog 0x0105 179 sevInfo m
    else s)

/-! ### Commands taken (R559, R578, R581) -/

/-- Whether the controller works on commands: it serves, or before OPEN it settles those taken before HALT (R548). -/
def State.serves (s : State) (e : MbCmd) : Bool :=
  s.powered 1 && (s.flag F.MBX_FW_STAT_FW_UP 0 || (s.fw.restarting && e.old))

/-- The command of mailbox m with opcode `op` that the controller works on now: one whose hardware operation runs, or the
oldest of those not yet begun (R559, R581). -/
def State.current (s : State) (m op : Nat) : Option MbCmd :=
  match s.mbx.cmds.find? fun e => e.mb == m with
  | none => none
  | some e =>
    if e.op = op ∧ s.serves e = true ∧ (e.started = true ∨ s.mbx.cmds.find? (fun x => !x.started) = some e) then some e
    else none

/-- The first command of mailbox m leaves the queue. -/
def dropFirst (m : Nat) : List MbCmd → List MbCmd
  | [] => []
  | e :: l => if e.mb = m then l else e :: dropFirst m l

/-- The first command of mailbox m is replaced. -/
def putFirst (m : Nat) (x : MbCmd) : List MbCmd → List MbCmd
  | [] => []
  | e :: l => if e.mb = m then x :: l else e :: putFirst m x l

/-- The command's response, unless it is to be discarded (R555). -/
def State.finish (s : State) (e : MbCmd) (st : Nat) (payload : List Byte) : State :=
  let s1 := { s with mbx := { s.mbx with cmds := dropFirst e.mb s.mbx.cmds } }
  if e.drop then s1 else s1.respond e.mb e.op e.tag st payload

def State.ok (s : State) (e : MbCmd) (payload : List Byte) : State := s.finish e stOK payload
def State.err (s : State) (e : MbCmd) (st reason item : Nat) : State := s.finish e st (detail reason item)

/-- The command waits on hardware and keeps `arg` (R581). -/
def State.await (s : State) (e : MbCmd) (arg : Nat) : State :=
  { s with mbx := { s.mbx with cmds := putFirst e.mb { e with started := true, arg := arg } s.mbx.cmds } }

/-- What command `op` of mailbox m does, if it is the one the controller works on. -/
def State.command (s : State) (m op : Nat) (f : MbCmd → State → State) : State :=
  match s.current m op with
  | none => s
  | some e => f e s

/-- The VF behind a mailbox. -/
def mbVf (m : Nat) : Option Nat := if m < 64 then some m else none

/-- The catalogued time of a command in ns (R582): FW_WRITE takes longer with OFFSET 0. -/
def catTime (e : MbCmd) : Nat :=
  1000000 * (match e.op with
    | 0x0103 => 200 | 0x0201 => 2 | 0x0202 => 2 | 0x0209 => 5 | 0x0303 => 5 | 0x0304 => 50 | 0x0500 => 5
    | 0x0600 => 20 | 0x0601 => 20 | 0x0700 => 20 | 0x0701 => 50 | 0x0800 => 20 | 0x0801 => 100 | 0x0803 => 5
    | 0x0804 => 20 | 0x0900 => (if leAt e.payload 4 4 = 0 then 3000 else 500) | 0x0901 => 40 | 0x0902 => 5 | 0x0903 => 200
    | _ => 1)

/-- CATALOGUED_TIME_EXCEEDED (R578, R581): the catalogued time has passed since the controller took the command, which is
answered TIMEOUT; the hardware operation goes on. -/
def execCataloguedTimeExceeded (mb : Nat) (s : State) : Host.Outcome State Fault Refusal :=
  .next (match s.mbx.cmds.find? fun e => e.mb == mb with
    | none => s
    | some e => if s.serves e = true ∧ e.taken + catTime e ≤ s.time then s.err e stTIMEOUT 0 0 else s)

/-! ### Sideband (R560 to R562, R648) -/

/-- Whether a message is of the form of R561. -/
def mctpOk (msg : List Byte) : Bool :=
  leAt msg 0 1 == 0x7E && (msg.drop 1).take 2 == (leBytes 2 Config.vendorId).reverse && leAt msg 4 1 == 0

/-- MCTP_MESSAGE (R561): a command page (KIND 0x01) rings, an acknowledge (0x02) releases a page; a message that rings or
acknowledges in the wrong state gets no answer. -/
def execMctpMessage (tag : Nat) (msg : List Byte) (s : State) : Host.Outcome State Fault Refusal :=
  .next (if s.powered 5 && mctpOk msg then
    let hold := fun (t : State) => t.setBox 65 { t.box 65 with msgTag := some tag }
    if leAt msg 3 1 = 1 then
      (if s.mbSt 65 = mbIdle ∨ s.mbSt 65 = mbMore then hold s else s).ring 65 ((msg.drop 5).take 4096)
    else if leAt msg 3 1 = 2 then (if s.mbSt 65 = mbRsp then hold s else s).ack 65
    else s
  else s)

/-- SET_ENDPOINT_ID (R560): 0 and 0xFF are no endpoint IDs (log entry 58). -/
def execSetEndpointId (eid : Nat) (s : State) : Host.Outcome State Fault Refusal :=
  .next (if s.powered 5 = false then s
    else if eid % 256 = 0 ∨ eid % 256 = 0xFF then s.emit (.mctpCtl 1 2 [s.side.eid])
    else { s with side := { s.side with eid := eid % 256 } }.emit (.mctpCtl 1 0 [eid % 256]))

/-- GET_ENDPOINT_ID (R560). -/
def execGetEndpointId (s : State) : Host.Outcome State Fault Refusal :=
  .next (if s.powered 5 then s.emit (.mctpCtl 2 0 [s.side.eid]) else s)

/-- GET_MCTP_VERSION_SUPPORT (R560): the versions of a message type. -/
def execGetMctpVersionSupport (msgType : Nat) (s : State) : Host.Outcome State Fault Refusal :=
  .next (if s.powered 5 then s.emit (.mctpCtl 4 0 (Config.mctpVersions msgType)) else s)

/-- GET_MESSAGE_TYPE_SUPPORT (R560, R561): the one type beside control messages is 0x7E. -/
def execGetMessageTypeSupport (s : State) : Host.Outcome State Fault Refusal :=
  .next (if s.powered 5 then s.emit (.mctpCtl 5 0 [0x7E]) else s)

/-- GET_VENDOR_DEFINED_MSG_SUPPORT (R560, R561): one vendor ID set, Krovant's PCI vendor ID. -/
def execGetVendorDefinedMsgSupport (selector : Nat) (s : State) : Host.Outcome State Fault Refusal :=
  .next (if s.powered 5 = false then s
    else if selector = 0 then s.emit (.mctpCtl 6 0 [Config.vendorId, Config.mctpVendorSet])
    else s.emit (.mctpCtl 6 2 []))

/-- DYNAMIC_ADDRESS_ASSIGNMENT (R648): with I3C selected the dynamic address replaces the static one. -/
def execDynamicAddressAssignment (addr : Nat) (s : State) : Host.Outcome State Fault Refusal :=
  .next (if s.powered 5 && s.flag F.DBG_STRAP_SB_SEL 0 then
    { s with side := { s.side with dynAddr := some (addr % 128) } }
  else s)

/-- The address the sideband target answers: the dynamic one, or 0x68 with the straps (R648). -/
def State.sbAddress (s : State) : Nat :=
  match s.side.dynAddr with
  | some a => if s.flag F.DBG_STRAP_SB_SEL 0 then a else 0x68 + s.get F.DBG_STRAP_SB_ADDR 0
  | none => 0x68 + s.get F.DBG_STRAP_SB_ADDR 0

end Sys2Proof.Machine
end

