-- ==== Sys2Proof/Machine/Burig.lean ====
section
/-!
DEFINITION. The Burig controller (R541 to R549, R645, R646): firmware images in flash, the boot ROM's choice, restarts.
-/

namespace Sys2Proof.Machine

/-! ### Firmware images (R542, R543, R646) -/

/-- Where slot k begins, and its size (R646). -/
def slotBase (k : Nat) : Nat := k * 0x800000
def slotSize : Nat := 0x800000

/-- SVN, IMAGE_LEN and VERSION of the image in slot k (R542). -/
def State.imgSvn (s : State) (k : Nat) : Nat := leNat (s.flashRead (slotBase k + 6) 2)
def State.imgLen (s : State) (k : Nat) : Nat := leNat (s.flashRead (slotBase k + 8) 4)
def State.imgVersion (s : State) (k : Nat) : Nat := leNat (s.flashRead (slotBase k + 12) 4)

/-- The minimum SVN in OTP (R543, R607). -/
def State.minSvn (s : State) : Nat := s.nvs.minSvn.getD (Config.minSvn % 2 ^ 16)

/-- The checks of R543 on slot k, as RESULT of FW_VERIFY names the first that fails (R605). -/
def State.imageCheck (s : State) (k : Nat) : Nat :=
  let b := slotBase k
  let n := s.imgLen k
  if s.flashRead b 4 ≠ [0x42#8, 0x52#8, 0x47#8, 0x46#8] ∨ leNat (s.flashRead (b + 4) 2) ≠ 1 ∨ 4 * 2 ^ 20 < n then 1
  else if Config.sha384 (s.flashRead (b + 0x10) 97) ≠ Config.keyHash then 2
  else if Config.ecdsaVerify (s.flashRead (b + 0x10) 97) (Config.sha384 (s.flashRead b n)) (s.flashRead (b + n) 96) = false
    then 3
  else if s.imgSvn k < s.minSvn then 4
  else 0

/-- The slot the ROM boots: the preferred one, then the other; none if neither is accepted (R543). -/
def State.bootChoice (s : State) : Option Nat :=
  let p := s.nvs.preferred
  if s.imageCheck p = 0 then some p else if s.imageCheck (1 - p) = 0 then some (1 - p) else none

/-- The ROM boots slot k (R543, R573); the other slot than preferred sets FALLBACK, becomes preferred and is logged. -/
def State.bootSlot (s : State) (k : Nat) : State :=
  let s1 := ((s.set F.MBX_FW_STAT_BOOT_SLOT 0 k).set F.MBX_FW_STAT_SVN 0 (s.imgSvn k)).set F.MBX_FW_STAT_RECOVERY 0 0
  let s2 := { s1 with fw := { s1.fw with version := s.imgVersion k } }
  if k = s.nvs.preferred then s2
  else ({ s2.set F.MBX_FW_STAT_FALLBACK 0 1 with nvs := { s2.nvs with preferred := k } }).wlog 0x0102 179 sevAlert k

/-- Recovery mode (R544). -/
def State.recoveryMode (s : State) : State := (s.set F.MBX_FW_STAT_RECOVERY 0 1).wlog 0x0103 179 sevFatal 0

/-! ### Restart (R545 to R549) -/

/-- The severity of a restart's log entry (R545). -/
def restartSev (cause : Nat) : Nat := if cause = 0 then sevInfo else if cause < 3 then sevAlert else sevNotice

/-- LAST_CAUSE, and the entry of a restart (R545, R614). -/
def State.restartLog (s : State) (cause : Nat) : State :=
  let s1 := s.set F.MBX_FW_STAT_LAST_CAUSE 0 cause
  s1.wlog 0x0101 179 (restartSev cause) (cause + s1.get F.MBX_FW_STAT_RESTARTS 0 * 2 ^ 8)

/-- The controller stays halted (R549). -/
def State.fwFailed (s : State) : State :=
  (({ s.set F.MBX_FW_STAT_FAILED 0 1 with fw := { s.fw with restarting := false } }).alertEvent).wlog 0x0104 179 sevFatal 0

/-- A restart begins with HALT (R545, R546): FW_UP clears, commands taken wait for OPEN, UNLOCKED clears (R609). The fourth
within 60 s of device time leaves the controller halted (R549). -/
def State.fwHalt (s : State) (cause : Nat) : State :=
  let s1 := (s.set F.MBX_FW_STAT_FW_UP 0 0).inc F.MBX_FW_STAT_RESTARTS 0
  let recent := s.fw.times.filter fun t => decide (s.time < t + 60000000000)
  let s2 := { s1 with
    fw := { s1.fw with restarting := true, times := recent ++ [s.time] }
    mbx := { s1.mbx with cmds := s1.mbx.cmds.map (fun (e : MbCmd) => { e with old := true }) } }
  let s3 := (if s.flag F.DBG_TMUX_STAT_UNLOCKED 0 then s2.set F.DBG_TMUX_STAT_UNLOCKED 0 0 else s2).restartLog cause
  if 3 ≤ recent.length then s3.fwFailed else s3

/-- Whether the controller runs, in the boot phases as after them: PD_MGT is up and it is not halted for good (R541, R549,
R627). -/
def State.fwRuns (s : State) : Bool := s.powered 1 && !s.flag F.MBX_FW_STAT_FAILED 0

/-- LOCKSTEP_MISMATCH (R541, R545). -/
def execLockstepMismatch (s : State) : Host.Outcome State Fault Refusal := .next (if s.fwRuns then s.fwHalt 2 else s)

/-- WATCHDOG_EXPIRY (R545). -/
def execWatchdogExpiry (s : State) : Host.Outcome State Fault Refusal := .next (if s.fwRuns then s.fwHalt 1 else s)

/-- RESTART written to MBX_FW_CTL (R545, R549): the restart count clears and a new attempt starts. -/
def State.fwCtlWrite (s : State) (v : Word) : State :=
  if fldOf F.MBX_FW_CTL_RESTART v = 1 then
    ({ s.set F.MBX_FW_STAT_FAILED 0 0 with fw := { s.fw with times := [] } }).fwHalt 4
  else s

/-- FW_RESTART (R545). -/
def execFwRestart (src : Src) (v : Word) (s : State) : Host.Outcome State Fault Refusal :=
  .next (if s.mayWrite src .MBX_FW_CTL 0 then s.fwCtlWrite v else s)

/-- The commands that the restart left: one not begun is answered BUSY and has had no effect; one whose hardware operation
runs is answered when that ends (R548, log entry 58). -/
def State.settle (s : State) : State :=
  (s.mbx.cmds.filter fun e => e.old && !e.started).foldl (fun s e => s.err e stBUSY 0 0) s

/-- OPEN (R546): the mailboxes are served. -/
def State.fwOpen (s : State) : State :=
  let s1 := s.settle
  { s1.set F.MBX_FW_STAT_FW_UP 0 1 with
    fw := { s1.fw with restarting := false, openTime := s.time }
    mbx := { s1.mbx with cmds := s1.mbx.cmds.map (fun (e : MbCmd) => { e with old := false }) } }

/-- A restart during the boot ends: the boot goes on, and FW_UP waits for its own OPEN (R627, log entry 60). -/
def State.fwReboot (s : State) : State := { s with fw := { s.fw with restarting := false } }

/-- CONTROLLER_OPEN (R546 to R549): FETCH, VERIFY and INIT of a restart have passed; with both slots refused the controller
stays halted. -/
def execControllerOpen (s : State) : Host.Outcome State Fault Refusal :=
  .next (if s.fw.restarting && s.powered 1 && s.floorReset == 0 then
    match s.bootChoice with
    | some k => if s.flag F.PWR_BOOT_STAT_DONE 0 then (s.bootSlot k).fwOpen else (s.bootSlot k).fwReboot
    | none => s.fwFailed
  else s)

end Sys2Proof.Machine
end

