-- ==== Sys2Proof/Machine/Arith.lean ====
section
/-!
DEFINITION. The arithmetic blocks' operations (R54 to R58): integer multiply-accumulate and IEEE 754 fused multiply-add
computed exactly and rounded once.
-/

namespace Sys2Proof.Machine

/-- Sticky flags in the order of O[260:256] (R57). -/
structure AbFlags where
  ovf       : Bool := false
  invalid   : Bool := false
  overflow  : Bool := false
  underflow : Bool := false
  inexact   : Bool := false
  deriving DecidableEq, Repr

def AbFlags.word (f : AbFlags) : Nat :=
  b2n f.ovf + 2 * b2n f.invalid + 4 * b2n f.overflow + 8 * b2n f.underflow + 16 * b2n f.inexact

/-! ### Integer modes (R55, R57) -/

/-- An operand of `w` bits, signed or not. -/
def intOperand (signed : Bool) (w v : Nat) : Int := if signed then signedOf w v else ((v % 2 ^ w : Nat) : Int)

/-- A result brought into a `w`-bit accumulator: wrapped or clamped; out of range sets OVF either way (R57). -/
def intNarrow (sat : Bool) (w : Nat) (x : Int) : Nat × Bool :=
  let lo : Int := -((2 ^ (w - 1) : Nat) : Int)
  let hi : Int := ((2 ^ (w - 1) : Nat) : Int) - 1
  let out := decide (x < lo) || decide (hi < x)
  (unsignedOf w (if sat then clampInt lo hi x else x), out)

/-- One accumulator step: acc ± product sum, LOAD takes the accumulator as zero (R56). -/
def intStep (sat load neg : Bool) (w acc : Nat) (prod : Int) : Nat × Bool :=
  let base : Int := if load then 0 else signedOf w acc
  intNarrow sat w (if neg then base - prod else base + prod)

/-! ### Floating point (R55, R57) -/

/-- A floating-point operand: NaN, infinity, or (-1)^neg · m · 2^e. -/
inductive Fp where
  | nan
  | inf (neg : Bool)
  | fin (neg : Bool) (m : Nat) (e : Int)
  deriving DecidableEq, Repr

/-- Unpack a value with `ew` exponent bits and `mw` fraction bits; a subnormal is flushed under FTZ, which the second
component reports. -/
def fpUnpack (ew mw : Nat) (ftz : Bool) (v : Nat) : Fp × Bool :=
  let neg := bitOf v (ew + mw) == 1
  let ex := bitsOf v mw ew
  let fr := bitsOf v 0 mw
  let bias : Int := ((2 ^ (ew - 1) - 1 : Nat) : Int)
  if ex = 2 ^ ew - 1 then (if fr = 0 then (.inf neg, false) else (.nan, false))
  else if ex = 0 then
    if ftz && fr != 0 then (.fin neg 0 0, true) else (.fin neg fr (1 - bias - mw), false)
  else (.fin neg (fr + 2 ^ mw) ((ex : Int) - bias - mw), false)

/-- `m` divided by 2^sh, rounded to nearest even or toward zero, and whether it was inexact. A negative `sh` multiplies. -/
def roundShift (rz : Bool) (m : Nat) (sh : Int) : Nat × Bool :=
  if sh ≤ 0 then (m * 2 ^ (-sh).toNat, false)
  else
    let d := 2 ^ sh.toNat
    let q := m / d
    let r := m % d
    let up := !rz && (decide (d < 2 * r) || (decide (2 * r = d) && q % 2 == 1))
    (if up then q + 1 else q, r != 0)

/-- binary32 words. -/
def f32Inf (neg : Bool) : Nat := b2n neg * 2 ^ 31 + 0x7F800000
def f32Zero (neg : Bool) : Nat := b2n neg * 2 ^ 31
def f32Nan : Nat := 0x7FC00000

/-- Round (-1)^neg · m · 2^e, m not 0, to binary32: once, with tininess detected after rounding; a subnormal result is
flushed under FTZ (R57). -/
def f32Round (rz ftz neg : Bool) (m : Nat) (e : Int) : Nat × AbFlags :=
  let top : Int := e + (Nat.log2 m : Int)
  let u := roundShift rz m (top - 23 - e)
  let topR : Int := if u.1 = 2 ^ 24 then top + 1 else top
  let sign := b2n neg * 2 ^ 31
  if topR < -126 then
    let d := roundShift rz m (-149 - e)
    if ftz && d.1 != 0 && decide (d.1 < 2 ^ 23) then (sign, { underflow := true, inexact := true })
    else (sign + d.1, { underflow := d.2, inexact := d.2 })
  else if 127 < topR then
    (sign + (if rz then 0x7F7FFFFF else 0x7F800000), { overflow := true, inexact := true })
  else (sign + (topR + 127).toNat * 2 ^ 23 + u.1 % 2 ^ 23, { inexact := u.2 })

/-- a · b + c, with the product negated under NEG, rounded once to binary32 (R55 to R57). `under` says that an input was
flushed. -/
def fpFma (rz ftz neg under : Bool) (a b c : Fp) : Nat × AbFlags :=
  let bad : Nat × AbFlags := (f32Nan, { invalid := true, underflow := under })
  match a, b with
  | .nan, _ => bad
  | _, .nan => bad
  | .inf sa, .inf sb => match c with
    | .nan => bad
    | .inf sc => if ((sa != sb) != neg) == sc then (f32Inf sc, { underflow := under }) else bad
    | .fin _ _ _ => (f32Inf ((sa != sb) != neg), { underflow := under })
  | .inf sa, .fin sb mb _ =>
    if mb = 0 then bad else match c with
    | .nan => bad
    | .inf sc => if ((sa != sb) != neg) == sc then (f32Inf sc, { underflow := under }) else bad
    | .fin _ _ _ => (f32Inf ((sa != sb) != neg), { underflow := under })
  | .fin sa ma _, .inf sb =>
    if ma = 0 then bad else match c with
    | .nan => bad
    | .inf sc => if ((sa != sb) != neg) == sc then (f32Inf sc, { underflow := under }) else bad
    | .fin _ _ _ => (f32Inf ((sa != sb) != neg), { underflow := under })
  | .fin sa ma ea, .fin sb mb eb =>
    match c with
    | .nan => bad
    | .inf sc => (f32Inf sc, { underflow := under })
    | .fin sc mc ec =>
      let ps := (sa != sb) != neg
      let pe := ea + eb
      let e := min pe ec
      let pm : Int := ((ma * mb * 2 ^ (pe - e).toNat : Nat) : Int)
      let cm : Int := ((mc * 2 ^ (ec - e).toNat : Nat) : Int)
      let x : Int := (if ps then -pm else pm) + (if sc then -cm else cm)
      if x = 0 then (f32Zero (ps && sc), { underflow := under })
      else
        let r := f32Round rz ftz (decide (x < 0)) x.natAbs e
        (r.1, { r.2 with underflow := r.2.underflow || under })

/-! ### One operation -/

/-- An accumulator of the mode after an operation with operand register I, and the flags it raises. -/
def abLane (cfg mode i acc lane : Nat) : Nat × AbFlags :=
  let load := bitOf i 513 == 1
  let neg := bitOf i 514 == 1
  let sat := bitOf cfg 5 == 1
  let sb := bitOf cfg 4 == 1
  let sa := bitOf cfg 3 == 1
  let rz := bitOf cfg 6 == 1
  let ftz := bitOf cfg 7 == 1
  let cSrc := bitOf cfg 8 == 1
  let fp := fun (ew mw aLo bLo w cLo : Nat) =>
    let a := fpUnpack ew mw ftz (bitsOf i (aLo + w * lane) w)
    let b := fpUnpack ew mw ftz (bitsOf i (bLo + w * lane) w)
    let cw := if cSrc then bitsOf i (cLo + 32 * lane) 32 else if load then 0 else bitsOf acc (32 * lane) 32
    let c := fpUnpack 8 23 ftz cw
    fpFma rz ftz neg (a.2 || b.2 || c.2) a.1 b.1 c.1
  match mode with
  | 0 =>
    let p := intOperand sa 27 (bitsOf i (51 * lane) 27) * intOperand sb 24 (bitsOf i (51 * lane + 27) 24)
    let r := intStep sat load neg 64 (bitsOf acc (64 * lane) 64) p
    (r.1, { ovf := r.2 })
  | 1 =>
    let p := (upTo 4).foldl (fun t m =>
      let k := 4 * lane + m
      t + intOperand sa 8 (bitsOf i (8 * k) 8) * intOperand sb 8 (bitsOf i (256 + 8 * k) 8)) (0 : Int)
    let r := intStep sat load neg 32 (bitsOf acc (32 * lane) 32) p
    (r.1, { ovf := r.2 })
  | 2 => fp 8 7 0 128 16 256
  | 3 => fp 5 10 0 128 16 256
  | 4 => fp 8 23 0 64 32 128
  | _ => (0, {})

/-- Accumulators of a mode and their width (R55). -/
def abLanes (mode : Nat) : Nat := [2, 8, 8, 8, 2].getD mode 0
def abWidth (mode : Nat) : Nat := if mode = 0 then 64 else 32

/-- Edges from sampling to the result (R58). -/
def abDepth (mode : Nat) : Nat := if mode < 2 then 3 else 5

/-- An operation that finishes: the new accumulators O[255:0] and flags (R56). CLR_FLAGS clears the flags also where EN is
0 (log entry 32); a flag raised in the same cycle ends set. -/
def abFinish (cfg mode i acc flags : Nat) : Nat × Nat :=
  let base := if bitOf i 515 = 1 then 0 else flags
  if bitOf i 512 = 1 then
    (upTo (abLanes mode)).foldl (fun r lane =>
      let x := abLane cfg mode i acc lane
      (putBits r.1 (abWidth mode * lane) (abWidth mode) x.1, Nat.lor r.2 x.2.word)) (acc, base)
  else (acc, base)

end Sys2Proof.Machine
end

