-- ==== Sys2Proof/Machine/Ecc.lean ====
section
/-!
DEFINITION. The single-error-correcting, double-error-detecting codes of R95, R96 and R306: one construction over
codes with at least two bits set, with an overall parity bit.
-/

namespace Sys2Proof.Machine

/-- The first `n` values of `w` bits, ascending, that have at least two bits set (R95, R306). -/
def secCodes (w n : Nat) : List Nat := ((upTo (2 ^ w)).filter fun v => decide (2 ≤ popCount v w)).take n

/-- The XOR of the codes of the data bits that are 1: check bits [w-1:0]. -/
def secLow : List Nat → Nat → Nat
  | [], _ => 0
  | c :: cs, d => Nat.xor (if d % 2 = 1 then c else 0) (secLow cs (d / 2))

/-- The check bits of `n` data bits: the `w` low ones, and the overall parity at bit w. -/
def secCheck (w n d : Nat) : Nat :=
  let c := secLow (secCodes w n) (d % 2 ^ n)
  c + (parity (d % 2 ^ n) n + parity c w) % 2 * 2 ^ w

/-- The codeword: check bits above the data bits. -/
def secEncode (w n d : Nat) : Nat := d % 2 ^ n + secCheck w n d * 2 ^ n

/-- What a check finds (R96). -/
inductive EccKind where
  | clean
  | corrected
  | bad
  deriving DecidableEq, Repr

/-- The outcome of a check: its kind, the data to use, the syndrome, and the bit of the codeword corrected. -/
structure EccOut where
  kind : EccKind
  data : Nat
  syn  : Nat
  par  : Nat
  bit  : Nat
  deriving DecidableEq, Repr

/-- Position of the first element equal to `x`. -/
def posOf (x : Nat) : List Nat → Nat → Option Nat
  | [], _ => none
  | y :: ys, i => if x = y then some i else posOf x ys (i + 1)

/-- The check of a codeword of `n` data bits and w + 1 check bits (R96). -/
def secDecode (w n cw : Nat) : EccOut :=
  let d := cw % 2 ^ n
  let c := cw / 2 ^ n
  let s := Nat.xor (c % 2 ^ w) (secLow (secCodes w n) d)
  let p := parity cw (n + w + 1)
  if p = 0 then (if s = 0 then ⟨.clean, d, s, p, 0⟩ else ⟨.bad, d, s, p, 0⟩)
  else if s = 0 then ⟨.corrected, d, s, p, n + w⟩
  else match posOf s (secCodes w n) 0 with
    | some i => ⟨.corrected, Nat.xor d (2 ^ i), s, p, i⟩
    | none =>
      match (upTo w).find? fun j => s == 2 ^ j with
      | some j => ⟨.corrected, d, s, p, n + j⟩
      | none => ⟨.bad, d, s, p, 0⟩

/-- The 72-bit code of memory words and DRAM words (R95, R641). -/
def eccEncode (d : Nat) : Nat := secEncode 7 64 d
def eccDecode (cw : Nat) : EccOut := secDecode 7 64 cw

/-- A poison codeword: the correct codeword with c[1:0] inverted (R99). -/
def poisonEncode (d : Nat) : Nat := Nat.xor (eccEncode d) (3 * 2 ^ 64)

end Sys2Proof.Machine
end

