-- ==== Sys2Proof/Machine/Bores.lean ====
section
/-!
DEFINITION. Bore groups and their delay trims (R18 to R40): identifiers, the three layers and the effective trim,
changeovers, acquisition, the background calibrator, and idle spares.
-/

namespace Sys2Proof.Machine

/-- The identifier of a group of bench b. -/
def gidOf (b iface index : Nat) : Nat :=
  benchCol b * 2 ^ 30 + iface * 2 ^ 28 + benchPos b * 2 ^ 23 + index

/-- The partner group (R20). -/
def gidPartner (g : Nat) : Nat := Nat.xor g 1

/-- The class whose unlisted groups share one acquisition state: the identifier without its index. -/
def gidClass (g : Nat) : Nat := g / 2 ^ 19

/-- The factory baseline a group uses: its own for F–L and C–M, one per 64 indices for L–C (R28). -/
def trimClass (g : Nat) : Nat := if gidIface g = 1 then g / 64 * 64 else g

/-- The factory layer of a group in a temperature band, 0..255 (R28, R36). -/
def factoryTrimAt (g band : Nat) : Nat :=
  (clampInt 0 255 (((Config.trimBaseline (trimClass g) % 256 : Nat) : Int)
    + Config.trimBandOfs (trimClass g) band)).toNat

/-- The factory layer of a group in its column's current band. -/
def State.factoryTrim (s : State) (g : Nat) : Nat := factoryTrimAt g (s.get F.THM_COL_BAND (gidCol g))

/-- The range of codes that a trim word of the HLU permits on an interface (R40). -/
def trimRangeOf (w iface : Nat) : Nat × Nat :=
  match iface with
  | 0 => (0, 16 * bitsOf w 4 4)
  | 1 => (0, 16 * bitsOf w 8 4)
  | _ => (bitsOf w 16 8, bitsOf w 24 8)

/-- The range of codes that the HLU permits on an interface. -/
def State.trimRange (s : State) (iface : Nat) : Nat × Nat := trimRangeOf (s.hluEff 18) iface

/-- A code held to a range (R29). -/
def clampCode (r : Nat × Nat) (v : Int) : Nat := (clampInt r.1 r.2 v).toNat

/-- The sum of the three layers, before clamping (R29). -/
def State.trimSum (s : State) (g : Nat) (x : Group) : Int := (s.factoryTrim g : Int) + signedOf 8 x.bg + signedOf 8 x.ofs

/-- The effective trim: the sum held to the HLU range (R29). -/
def State.trimTarget (s : State) (g : Nat) (x : Group) : Nat :=
  clampCode (s.trimRange (gidIface g)) (s.trimSum g x)

/-- CLAMPED follows whether clamping applies (R29). -/
def State.withClamp (s : State) (g : Nat) (x : Group) : Group :=
  { x with clamped := decide ((s.trimTarget g x : Int) ≠ s.trimSum g x) }

/-- The background value in the range of 8 signed bits. -/
def signed8 (x : Int) : Nat := unsignedOf 8 (clampInt (-128) 127 x)

/-- The acquisition of a group ends with trim `code` in a temperature band and under an HLU trim word: the background
value takes what the search found (R32). -/
def acqResult (g : Nat) (x : Group) (code band range : Nat) : Group :=
  let bg := signed8 ((code : Int) - (factoryTrimAt g band : Int) - signedOf 8 x.ofs)
  let sum := (factoryTrimAt g band : Int) + signedOf 8 bg + signedOf 8 x.ofs
  { x with acqDone := true, acqStep := 8, acqCode := code, acqBand := band, acqRange := range, bg := bg,
           eff := clampCode (trimRangeOf range (gidIface g)) sum }

/-- The same under the HLU's present range. -/
def State.acqFinish (s : State) (g : Nat) (x : Group) (code band : Nat) : Group :=
  s.withClamp g (acqResult g x code band (s.hluEff 18))

/-- A group that has not acquired applies its layers, held to the range in force when it began (R29). -/
def unacquired (g : Nat) (x : Group) : Group :=
  let sum := (factoryTrimAt g x.acqBand : Int) + signedOf 8 x.bg + signedOf 8 x.ofs
  { x with eff := clampCode (trimRangeOf x.acqRange (gidIface g)) sum }

/-- A group's state: its own, or its class's. The search result of a group that acquired together with its class is a
free value (log entry 10). A band change or a new range since then has discarded its evaluation (R33), and leaves the
applied trim where it is until its changeovers come (R31). -/
def State.group (s : State) (g : Nat) : Group :=
  match mapGet (fun _ => none) s.bores.groups g with
  | some x => x
  | none =>
    let x := mapGet (fun _ => {}) s.bores.classes (gidClass g)
    let y := if x.acqDone then acqResult g x (Config.acqCode x.acqCode g % 256) x.acqBand x.acqRange else unacquired g x
    let z := s.withClamp g y
    { z with evalRun := z.evalRun && z.eff == s.trimTarget g z }

def State.setGroup (s : State) (g : Nat) (x : Group) : State :=
  { s with bores := { s.bores with groups := mapSet (fun _ => none) s.bores.groups g (some x) } }

/-- Every group of a class starts afresh: user offset and background value 0, not acquired (R34). Spares in use,
failed spares and folds stay, since they are the group's wiring. -/
def State.refreshClass (s : State) (cls : Nat) : State :=
  { s with bores :=
      { groups := s.bores.groups.map fun e =>
          if gidClass e.1 = cls then
            (e.1, e.2.map fun x => s.withClamp e.1 (unacquired e.1
              { x with bg := 0, ofs := 0, acqDone := false, acqStep := 0, acqCode := 0, restored := false,
                       acqBand := s.get F.THM_COL_BAND (gidCol e.1), acqRange := s.hluEff 18,
                       evalRun := true, evalWait := false, calHold := false, transK := 0, centreErr := 0 }))
          else e
        classes := mapSet (fun _ => {}) s.bores.classes cls
          { acqBand := s.get F.THM_COL_BAND (cls / 2 ^ 11), acqRange := s.hluEff 18 } } }

/-- A group whose calibration a floor-die reset holds: F–L and periphery groups (R33, R634). -/
def State.groupHeld (s : State) (g : Nat) : Bool := s.floorReset != 0 && (gidIface g == 0 || gidPeriph g == 1)

/-- TRIM_CHANGEOVER (R31): the effective trim moves 1 code toward its target. A paused group holds its trim (R33). When
the target is reached, an evaluation discarded by a host write starts anew (R33). -/
def State.changeover (s : State) (g : Nat) : State :=
  let x := s.group g
  let t := s.trimTarget g x
  if gidValid g = false ∨ x.paused = true ∨ x.acqDone = false ∨ s.groupHeld g = true then s
  else
    let e := if x.eff < t then x.eff + 1 else if t < x.eff then x.eff - 1 else x.eff
    s.setGroup g { s.withClamp g x with eff := e, evalRun := x.evalRun || (e == t && !x.evalWait) }

def execTrimChangeover (g : Nat) (s : State) : Host.Outcome State Fault Refusal := .next (s.changeover g)

/-- One evaluation of the binary search ends and sets one trim bit, most significant first; the eighth ends the
acquisition, and the background value takes what the search found (R32). -/
def State.acqStep (s : State) (g bit : Nat) : State :=
  let x := s.group g
  if gidValid g = false ∨ x.acqDone = true ∨ 8 ≤ x.acqStep ∨ s.groupHeld g = true then s
  else
    let code := x.acqCode + (bit % 2) * 2 ^ (7 - x.acqStep)
    let e := clampCode (s.trimRange (gidIface g)) code
    let y := { x with acqStep := x.acqStep + 1, acqCode := code, eff := e, clamped := e != code }
    if y.acqStep = 8 then s.setGroup g (s.acqFinish g y code (s.get F.THM_COL_BAND (gidCol g)))
    else s.setGroup g y

def execTrimAcqStep (g bit : Nat) (s : State) : Host.Outcome State Fault Refusal := .next (s.acqStep g bit)

/-- Acquisition of every group of a class that has not acquired ends (the boot and a domain's power-up acquire all
groups of a domain together, R32, R34). Listed groups keep their own state and acquire as well. -/
def State.acquireClass (s : State) (cls : Nat) : State :=
  { s with
    freeCtr := s.freeCtr + 1
    bores :=
      { groups := s.bores.groups.map fun e =>
          if gidClass e.1 = cls then
            (e.1, e.2.map fun x => if x.acqDone then x 
              else s.acqFinish e.1 x (Config.acqCode s.freeCtr e.1 % 256) (s.get F.THM_COL_BAND (gidCol e.1)))
          else e
        classes := mapSet (fun _ => {}) s.bores.classes cls
          { mapGet (fun _ => {}) s.bores.classes cls with
            acqDone := true, acqStep := 8, acqCode := s.freeCtr, acqBand := s.get F.THM_COL_BAND (cls / 2 ^ 11)
            acqRange := s.hluEff 18 } } }

/-- The classes of bench b on each interface, and of a column's peripheries. -/
def benchClass (b iface : Nat) : Nat := gidClass (gidOf b iface 0)
def periphClass (c iface : Nat) : Nat := gidClass (c * 2 ^ 30 + iface * 2 ^ 28 + 2 ^ 27)

/-- Whether every group of a class has acquired its trim. -/
def State.classAcquired (s : State) (cls : Nat) : Bool :=
  (mapGet (fun _ => {}) s.bores.classes cls).acqDone
    && s.bores.groups.all fun e =>
        gidClass e.1 != cls || (match e.2 with | some x => x.acqDone | none => true)

/-- Whether every group with an end in PD_BENCH_b reads ACQ_DONE (R34): its F–L, L–C and C–M groups. -/
def State.benchAcquired (s : State) (b : Nat) : Bool :=
  s.classAcquired (benchClass b 0) && s.classAcquired (benchClass b 1) && s.classAcquired (benchClass b 2)

/-- The longest runs of empty bins of a histogram, as (first bin, length); `i` is the bin at the list's head. -/
def emptyRuns : Nat → Nat → List Nat → List (Nat × Nat)
  | i, run, [] => if run = 0 then [] else [(i - run, run)]
  | i, run, c :: cs =>
    if c = 0 then emptyRuns (i + 1) (run + 1) cs
    else (if run = 0 then [] else [(i - run, run)]) ++ emptyRuns (i + 1) 0 cs

def widestRuns (bins : List Nat) : List (Nat × Nat) :=
  let rs := emptyRuns 0 0 bins
  let m := rs.foldl (fun a r => max a r.2) 0
  rs.filter fun r => r.2 == m

/-- Twice the distance in codes from the capture point to the centre of a run of bins of 4 codes; the capture point
lies between bins 7 and 8 (log entry 11). -/
def runCentre2 (r : Nat × Nat) : Int := 4 * ((2 * r.1 + r.2 : Nat) : Int) - 64

/-- Twice the distance from the capture point to the centre of the widest run of empty bins; among runs of one width the
choice is a free value (log entry 12). -/
def State.centre2 (s : State) (bins : List Nat) : Int × State :=
  let (pick, s1) := s.fresh 8
  let runs := widestRuns (bins.take 16)
  (match runs[pick % max 1 runs.length]? with | some r => runCentre2 r | none => 0, s1)

/-- CAL_EVALUATION_END (R30): with MIN_TRANS × 256 transitions, the background value moves 1 code toward the centre of
the widest run of empty bins; else CAL_HOLD sets. -/
def State.evaluationEnd (s : State) (g : Nat) (bins : List Nat) : State :=
  let x := s.group g
  let c := gidCol g
  if gidValid g = false ∨ x.acqDone = false ∨ x.evalRun = false ∨ x.paused = true
      ∨ s.get F.CAL_BORE_CTL_CAL_EN c = 0 ∨ s.groupHeld g = true then s
  else
    let total := (bins.take 16).foldl (· + ·) 0
    let minT := max 1 (s.get F.CAL_BORE_CTL_MIN_TRANS c)
    let k := min 255 (total / 256)
    let (d, s1) := s.centre2 bins
    let err := unsignedOf 8 (clampInt (-128) 127 (d / 2))
    if minT * 256 ≤ total then
      let bg := if 0 < d then signed8 (signedOf 8 x.bg + 1) else if d < 0 then signed8 (signedOf 8 x.bg - 1) else x.bg
      s1.setGroup g (s1.withClamp g { x with bg := bg, calHold := false, transK := k, centreErr := err })
    else s1.setGroup g { x with calHold := true, transK := k, centreErr := err }

def execCalEvaluationEnd (g : Nat) (bins : List Nat) (s : State) : Host.Outcome State Fault Refusal :=
  .next (s.evaluationEnd g bins)

/-- EVAL_RESTART_AFTER_PAUSE (R33): 1 µs after a pause ends, evaluation restarts from an empty histogram. -/
def execEvalRestartAfterPause (g : Nat) (s : State) : Host.Outcome State Fault Refusal :=
  let x := s.group g
  .next (if gidValid g && x.evalWait && !x.paused && decide (x.waitAt + 1000 ≤ s.time) then s.setGroup g { x with evalWait := false, evalRun := true } else s)

/-- A group pauses: it holds its evaluation and its trim (R33). -/
def State.pauseGroup (s : State) (g : Nat) : State := s.setGroup g { s.group g with paused := true }

/-- A pause ends; evaluation restarts 1 µs later (R33). -/
def State.unpauseGroup (s : State) (g : Nat) : State :=
  s.setGroup g { s.group g with paused := false, evalRun := false, evalWait := true, waitAt := s.time }

/-- The calibrators of whole classes of groups discard the evaluation in progress; a new one starts 1 µs later from an empty
histogram, as after a pause (R33). -/
def State.waitEvals (s : State) (classes : List Nat) : State :=
  let wait := fun (x : Group) => { x with evalRun := false, evalWait := true, waitAt := s.time }
  { s with bores :=
      { groups := s.bores.groups.map fun e => if classes.contains (gidClass e.1) then (e.1, e.2.map wait) else e
        classes := classes.foldl (fun m k => mapSet (fun _ => {}) m k (wait (mapGet (fun _ => {}) m k))) s.bores.classes } }

/-- Byte n of CAL_BORE_SPARE (R38). -/
def spareByte (x : Group) (n : Nat) : Nat := x.spares.getD n 0
def spareInUse (v : Nat) : Bool := bitOf v 7 == 1
def spareFailed (v : Nat) : Bool := bitOf v 6 == 1
def spareIdle (v : Nat) : Bool := !spareInUse v && !spareFailed v

/-- The lowest-numbered idle spare of a group (R371, R374). -/
def idleSpare (x : Group) : Option Nat := (upTo 4).find? fun n => spareIdle (spareByte x n)

/-- Which copy of CAL_BORE_SEL a source uses: the PF's or the controller's. -/
def selCopy : Src → Nat
  | .fw => 1
  | _ => 0

/-- A host or controller write of the background value of a group: the evaluation in progress is discarded, and a new
one starts after the last changeover (R33). Before acquisition completes a restored value replaces the search result
and the group enters tracking (R32). -/
def State.setBackground (s : State) (g v : Nat) : State :=
  let x := s.group g
  let y := { x with bg := v % 256, acqDone := true, acqStep := 8, restored := x.restored || !x.acqDone }
  s.setGroup g (s.withClamp g { y with evalRun := decide (s.trimTarget g y = x.eff) && !x.evalWait })

/-- A write of the user offset; the evaluation goes on (R33). -/
def State.setUserOfs (s : State) (g v : Nat) : State :=
  let x := s.group g
  s.setGroup g (s.withClamp g { x with ofs := v % 256 })

/-- CAL_BORE_TRIM_WRITE (R36): with an invalid selection the write is ignored; else both layers are written and the
changeovers follow. A register write during acquisition sets the layers and leaves the search running (R32 names
command family 0x06xx alone). -/
def State.trimWrite (s : State) (src : Src) (v : Word) : State :=
  let g := s.get F.CAL_BORE_SEL_GROUP_ID (selCopy src)
  if gidValid g then
    let s1 := s.setUserOfs g (bitsOf v.toNat 8 8)
    let x := s1.group g
    if x.acqDone then s1.setBackground g (bitsOf v.toNat 16 8)
    else s1.setGroup g { x with bg := bitsOf v.toNat 16 8 }
  else s

def execCalBoreTrimWrite (src : Src) (v : Word) (s : State) : Host.Outcome State Fault Refusal :=
  .next (if s.mayWrite src .CAL_BORE_TRIM 0 then s.trimWrite src v else s)

/-- A temperature band change of column c discards the evaluations in progress; the factory layer follows by itself
(R33). -/
def State.bandChangeTrims (s : State) (c : Nat) : State :=
  { s with bores := { s.bores with
      groups := s.bores.groups.map fun e =>
        if gidCol e.1 = c then
          (e.1, e.2.map fun x =>
            s.withClamp e.1 { x with evalRun := decide (s.trimTarget e.1 x = x.eff) && !x.evalWait })
        else e } }

/-- The HLU's trim range moved: effective values are held to it anew and CLAMPED follows (R567). -/
def State.reclampTrims (s : State) : State :=
  { s with bores := { s.bores with
      groups := s.bores.groups.map fun e => (e.1, e.2.map fun x => s.withClamp e.1 x) } }

/-- What CAL_BORE_TRIM, CAL_BORE_STAT and CAL_BORE_SPARE read for the selected group (R36 to R38). -/
def State.readTrim (s : State) (copy : Nat) : Nat :=
  let g := s.get F.CAL_BORE_SEL_GROUP_ID copy
  let x := s.group g
  if gidValid g then x.eff % 256 * 2 ^ 24 + x.bg * 2 ^ 16 + x.ofs * 2 ^ 8 + s.factoryTrim g else 0

/-- The physical sett column that a group of a bench serves, if one (R19, R375). -/
def groupColumn (g : Nat) : Option Nat :=
  let i := gidIndex g
  if gidPeriph g = 1 then none
  else match gidIface g with
    | 1 => if i < 261888 then some (i / 248 / 32) else if i < 261954 then some ((i - 261888) / 2) else none
    | 2 => if i < 3168 then some (i / 96) else none
    | _ => none

/-- FOLD (R37): 3 for every group of a retired column (R381). -/
def State.groupFold (s : State) (g : Nat) : Nat :=
  let b := gidBench g
  match groupColumn g with
  | some sx => if s.flag F.BENCH_SHIFT_SHIFTED b && s.get F.BENCH_SHIFT_RETIRED_SX b == sx then 3 else (s.group g).fold
  | none => (s.group g).fold

def State.readGroupStat (s : State) (copy : Nat) : Nat :=
  let g := s.get F.CAL_BORE_SEL_GROUP_ID copy
  let x := s.group g
  if gidValid g then
    b2n x.paused * 2 ^ 30 + s.groupFold g % 4 * 2 ^ 28 + b2n x.calHold * 2 ^ 27 + b2n x.acqDone * 2 ^ 26
      + b2n x.clamped * 2 ^ 25 + x.transK * 2 ^ 8 + x.centreErr
  else 2 ^ 31

def State.readSpare (s : State) (copy : Nat) : Nat :=
  let g := s.get F.CAL_BORE_SEL_GROUP_ID copy
  let x := s.group g
  if gidValid g then
    spareByte x 3 * 2 ^ 24 + spareByte x 2 * 2 ^ 16 + spareByte x 1 * 2 ^ 8 + spareByte x 0
  else 0

end Sys2Proof.Machine
end

