-- ==== Sys2Proof/Machine/Collector.lean ====
section
/-!
DEFINITION. The completion collector and its event rings (R288 to R295).
-/

namespace Sys2Proof.Machine

/-- A field of ring r: VF r's ring for r < 64, the PF ring otherwise. -/
def ringFld (r : Nat) (vfF pfF : Fld) : Fld × Nat := if r < 64 then (vfF, r) else (pfF, 0)

def State.getRing (s : State) (r : Nat) (vfF pfF : Fld) : Nat := s.get (ringFld r vfF pfF).1 (ringFld r vfF pfF).2
def State.setRing (s : State) (r : Nat) (vfF pfF : Fld) (x : Nat) : State :=
  s.set (ringFld r vfF pfF).1 (ringFld r vfF pfF).2 x

def State.ringEn (s : State) (r : Nat) : Nat := s.getRing r F.BENCH_RING_CTL_EN F.PF_RING_CTL_EN
def State.ringHead (s : State) (r : Nat) : Nat := s.getRing r F.BENCH_RING_HEAD_HEAD F.PF_RING_HEAD_HEAD
def State.ringTail (s : State) (r : Nat) : Nat := s.getRing r F.BENCH_RING_TAIL_TAIL F.PF_RING_TAIL_TAIL
def State.ringSize (s : State) (r : Nat) : Nat :=
  2 ^ clampNat 4 16 (s.getRing r F.BENCH_RING_CTL_SIZE_EXP F.PF_RING_CTL_SIZE_EXP)
def State.ringBase (s : State) (r : Nat) : Nat :=
  s.getRing r F.BENCH_RING_BASE_LO_BASE_LO F.PF_RING_BASE_LO_BASE_LO * 2 ^ 12
    + s.getRing r F.BENCH_RING_BASE_HI_BASE_HI F.PF_RING_BASE_HI_BASE_HI * 2 ^ 32
def State.ringMod (s : State) (r : Nat) : Nat := s.getRing r F.BENCH_RING_CTL_MOD_US F.PF_RING_CTL_MOD_US

/-- TAIL + 1 equals HEAD modulo the ring size (R292). -/
def State.ringFull (s : State) (r : Nat) : Bool :=
  (s.ringTail r + 1) % s.ringSize r == s.ringHead r % s.ringSize r

/-- The ring a source's records go to (R288, R259): VF b's, or the PF's. -/
def State.ringOf (s : State) (source : Nat) : Nat :=
  if source < 64 ∧ s.get F.BENCH_ASSIGN_FN source = 0 then source else 64

def State.stagedOf (s : State) (source : Nat) : Staged := mapGet (fun _ => {}) s.collector.staged source
def State.setStaged (s : State) (source : Nat) (e : Staged) : State :=
  { s with collector := { s.collector with staged := mapSet (fun _ => {}) s.collector.staged source e } }

def State.ringSt (s : State) (r : Nat) : RingSt := mapGet (fun _ => {}) s.collector.rings r
def State.setRingSt (s : State) (r : Nat) (x : RingSt) : State :=
  { s with collector := { s.collector with rings := mapSet (fun _ => {}) s.collector.rings r x } }

/-- FULL reads 1 while the ring is full, and with EN 0 while an entry is held for the ring (R292). -/
def State.ringFullBit (s : State) (r : Nat) : Bool :=
  if s.ringEn r = 1 then s.ringFull r
  else s.collector.staged.any fun e => e.2.full && s.ringOf e.1 == r

/-- An event reaches its staging entry: it opens the entry or merges into it, COUNT saturating at 255 (R288). -/
def mergeEvent (e : Staged) (v : Event) : Staged :=
  if e.full then { e with kinds := Nat.lor e.kinds (2 ^ v.kind), count := min 255 (e.count + 1) }
  else { full := true, time := v.time, count := 1, kinds := 2 ^ v.kind, plane := v.plane, online := v.online }

/-- The oldest event in flight of a source, and the others. -/
def takeEvent (source : Nat) : List Event → Option Event × List Event
  | [] => (none, [])
  | v :: vs =>
    if v.source = source then (some v, vs)
    else let r := takeEvent source vs; (r.1, v :: r.2)

/-- COLLECTOR_EVENT (R288): a source event reaches its staging entry. The collector lies in PD_MGT. -/
def execCollectorEvent (source : Nat) (s : State) : Host.Outcome State Fault Refusal :=
  .next (match takeEvent source s.collector.inFlight with
    | (some v, rest) =>
      if s.powered 1 then
        ({ s with collector := { s.collector with inFlight := rest } }).setStaged source
          (mergeEvent (s.stagedOf source) v)
      else s
    | (none, _) => s)

/-- The 128-bit record (R291). -/
def recordWord (source : Nat) (e : Staged) (phase : Bool) : Nat :=
  e.time % 2 ^ 64 + source % 256 * 2 ^ 64 + e.count % 256 * 2 ^ 72 + e.kinds % 2 ^ 16 * 2 ^ 80
    + (if source < 64 then e.plane % 8 else 0) * 2 ^ 96 + b2n (e.online && decide (source < 64)) * 2 ^ 99
    + b2n phase * 2 ^ 127

/-- The vector a record's message uses (R293). -/
def recordVec (r kinds : Nat) : Nat := if r < 64 then (if kinds = 1 then 2 else 1) else 4

/-- The function of a ring, as `raiseVec` numbers functions. -/
def ringFn (r : Nat) : Nat := if r < 64 then r + 1 else 0

/-- Whether MOD_US holds the messages of a vector back: not so long has passed since the last one (R293). -/
def State.msgHeld (s : State) (r vec : Nat) : Bool :=
  match mapGet (fun _ => none) (s.ringSt r).lastMsg vec with
  | some t => s.ringMod r != 0 && decide (s.time < t + 1000 * s.ringMod r)
  | none => false

/-- A message goes out, and covers the records of one that waited (R293). -/
def State.msgSend (s : State) (r vec : Nat) : State :=
  let x := s.ringSt r
  (s.setRingSt r { x with waiting := mapSet (fun _ => false) x.waiting vec false
                          lastMsg := mapSet (fun _ => none) x.lastMsg vec (some s.time) }).raiseVec (ringFn r) vec

/-- A record's message: sent, or delayed under MOD_US (R293). -/
def State.ringMessage (s : State) (r vec : Nat) : State :=
  if s.msgHeld r vec then
    s.setRingSt r { s.ringSt r with waiting := mapSet (fun _ => false) (s.ringSt r).waiting vec true }
  else s.msgSend r vec

/-- The next occupied entry in round-robin order of SOURCE whose ring can take a record (R292, R294). -/
def State.nextSource (s : State) : Option Nat :=
  ((upTo 96).map fun i => (s.collector.nextSrc + i) % 96).find? fun src =>
    (s.stagedOf src).full && s.ringEn (s.ringOf src) == 1 && !s.ringFull (s.ringOf src)

/-- A record is written at TAIL, TAIL advances, PHASE inverts on a wrap, the entry empties and the message follows. -/
def State.writeRecord (s : State) (src : Nat) : State :=
  let r := s.ringOf src
  let e := s.stagedOf src
  let t := s.ringTail r
  let t' := (t + 1) % s.ringSize r
  let s1 := s.emit (.hostWrite (s.msgPort (ringFn r)) (s.ringBase r + 16 * t)
    (leBytes 16 (recordWord src e (s.ringSt r).phase)))
  let s2 := (s1.setRing r F.BENCH_RING_TAIL_TAIL F.PF_RING_TAIL_TAIL t').setStaged src {}
  let s3 := if t' = 0 then s2.setRingSt r { s2.ringSt r with phase := !(s2.ringSt r).phase } else s2
  s3.ringMessage r (recordVec r e.kinds)

/-- Source `src` has its turn; the next one's follows (R294). -/
def State.takeTurn (s : State) (src : Nat) : State :=
  { s with collector := { s.collector with nextSrc := (src + 1) % 96 } }

/-- COLLECTOR_RECORD_WRITE (R292 to R294). `ok` says whether the host takes the write; a port that is not live fails
it. A failed write sets DMA_ERR, clears EN and keeps the entry. -/
def execCollectorRecordWrite (ok : Bool) (s : State) : Host.Outcome State Fault Refusal :=
  .next (if s.powered 1 && s.floorReset == 0 then
    match s.nextSource with
    | none => s
    | some src =>
      let r := s.ringOf src
      let s1 := s.takeTurn src
      if ok && s.portLive (s.msgPort (ringFn r)) then s1.writeRecord src
      else (s1.setRing r F.BENCH_RING_CTL_DMA_ERR F.PF_RING_CTL_DMA_ERR 1).setRing r
        F.BENCH_RING_CTL_EN F.PF_RING_CTL_EN 0
    else s)

/-- MSIX_MODERATION_EXPIRY (R293): MOD_US after the last message the delayed message goes out. -/
def execMsixModerationExpiry (r vec : Nat) (s : State) : Host.Outcome State Fault Refusal :=
  .next (if mapGet (fun _ => false) (s.ringSt r).waiting vec && !s.msgHeld r vec then s.msgSend r vec else s)

/-- The control register of a ring and its instance. -/
def ringCtlReg (r : Nat) : Reg × Nat := if r < 64 then (.BENCH_RING_CTL, r) else (.PF_RING_CTL, 0)

/-- A write of a ring's control register (R295): SIZE_EXP is ignored while EN is 1 and reads back as the nearer limit;
setting EN resets HEAD and TAIL and starts the first pass (R291). -/
def State.ringCtlWrite (s : State) (r : Nat) (v : Word) : State :=
  let cr := ringCtlReg r
  let wasEn := s.ringEn r
  let size := if wasEn = 1 then s.getRing r F.BENCH_RING_CTL_SIZE_EXP F.PF_RING_CTL_SIZE_EXP
    else clampNat 4 16 (fldOf F.BENCH_RING_CTL_SIZE_EXP v)
  let s1 := (s.plainWrite cr.1 cr.2 v).setRing r F.BENCH_RING_CTL_SIZE_EXP F.PF_RING_CTL_SIZE_EXP size
  if wasEn = 0 ∧ s1.ringEn r = 1 then
    ((s1.setRing r F.BENCH_RING_HEAD_HEAD F.PF_RING_HEAD_HEAD 0).setRing r
      F.BENCH_RING_TAIL_TAIL F.PF_RING_TAIL_TAIL 0).setRingSt r { s1.ringSt r with phase := true }
  else s1

/-- RING_ENABLE (R295): a write of ring r's control register. -/
def execRingEnable (src : Src) (r : Nat) (v : Word) (s : State) : Host.Outcome State Fault Refusal :=
  .next (if s.mayWrite src (ringCtlReg r).1 (ringCtlReg r).2 then s.ringCtlWrite r v else s)

end Sys2Proof.Machine
end

