-- ==== Sys2Proof/Machine/Tenancy.lean ====
section
/-!
DEFINITION. Assignment, gangs, fences, weighbridge settings, tally meters and power caps (R258 to R287).
-/

namespace Sys2Proof.Machine

/-- Whether bench b is online (R151). -/
def State.online (s : State) (b : Nat) : Bool := s.flag F.BENCH_PLANE_STAT_ONLINE b

/-- Whether bench b's context engine reads BUSY: an operation runs, a column shift has claimed the bench (R381), or
its bore groups have not all acquired (R34). A bench that is down reads 0. -/
def State.ctxBusy (s : State) (b : Nat) : Bool :=
  s.flag F.CTX_STAT_BUSY b || s.flag F.BENCH_SHIFT_REPAIRING b || (s.benchUp b && !s.benchAcquired b)

def State.inGang (s : State) (b : Nat) : Bool := s.flag F.BENCH_GANG_STAT_IN_GANG b

/-- The leader of bench b: the gang's, or b itself (R263). -/
def State.leaderOf (s : State) (b : Nat) : Nat :=
  if s.inGang b then 16 * benchCol b + s.get F.BENCH_GANG_STAT_LEADER b else b

/-- The benches that switch as one with bench b, ascending: its gang, or b alone. -/
def State.gangOf (s : State) (b : Nat) : List Nat :=
  if s.inGang b then
    ((upTo 16).map fun i => 16 * benchCol b + i).filter fun m =>
      s.inGang m && s.get F.BENCH_GANG_STAT_LEADER m == s.get F.BENCH_GANG_STAT_LEADER b
  else [b]

/-- Whether bench b's gang has been accepted and its formation has not completed (R264). -/
def State.gangForming (s : State) (b : Nat) : Bool := s.tenancy.forming.contains (s.leaderOf b)

/-! ### Assignment -/

/-- The FN a bench has, or will take (R260). -/
def State.fnNow (s : State) (b : Nat) : Nat :=
  (mapGet (fun _ => none) s.collector.fnPending b).getD (s.get F.BENCH_ASSIGN_FN b)

/-- Benches with PRIV set, b apart. -/
def State.otherPriv (s : State) (b : Nat) : Nat :=
  ((upTo 64).filter fun i => i != b && s.flag F.BENCH_ASSIGN_PRIV i).length

/-- Whether a BENCH_ASSIGN write is refused (R260, R261). -/
def State.assignRefused (s : State) (b fn priv : Nat) : Bool :=
  (fn != s.fnNow b && (s.online b || s.ctxBusy b || s.inGang b))
    || (priv == 1 && fn == 0)
    || (priv == 1 && !s.flag F.BENCH_ASSIGN_PRIV b && decide (4 ≤ s.otherPriv b))

/-- The effect of a BENCH_ASSIGN write: PRIV at once; a change of FN takes effect at FN_CHANGE_EFFECT, once
the bench's staged record is delivered or discarded (R260 to R262). -/
def State.assignWrite (s : State) (b : Nat) (v : Word) : State :=
  let fn := fldOf F.BENCH_ASSIGN_FN v
  let priv := fldOf F.BENCH_ASSIGN_PRIV v
  let s1 := s.w1cWrite .BENCH_ASSIGN b v
  if s.assignRefused b fn priv then s1.set F.BENCH_ASSIGN_ASSIGN_ERR b 1
  else
    let s2 := s1.set F.BENCH_ASSIGN_PRIV b priv
    if fn = s.get F.BENCH_ASSIGN_FN b then
      { s2 with collector := { s2.collector with
          fnPending := mapSet (fun _ => none) s2.collector.fnPending b none } }
    else { s2 with collector := { s2.collector with
          fnPending := mapSet (fun _ => none) s2.collector.fnPending b (some fn)
          fnSince := mapSet (fun _ => 0) s2.collector.fnSince b s2.time } }

def execBenchAssignWrite (src : Src) (b : Nat) (v : Word) (s : State) : Host.Outcome State Fault Refusal :=
  .next (if s.mayWrite src .BENCH_ASSIGN b then s.assignWrite b v else s)

/-- The new FN holds. -/
def State.fnTake (s : State) (b fn : Nat) : State :=
  ({ s with collector := { s.collector with
      fnPending := mapSet (fun _ => none) s.collector.fnPending b none } }).set F.BENCH_ASSIGN_FN b fn

/-- Whether the ring of bench b's records can take one now (R260, R292). -/
def State.ringTakes (s : State) (b : Nat) : Bool :=
  let r := s.ringOf b
  s.powered 1 && s.floorReset == 0 && s.ringEn r == 1 && !s.ringFull r && s.portLive (s.msgPort (ringFn r))

/-- FN_CHANGE_EFFECT (R260): an occupied entry goes to the old ring first, in its round-robin turn, which comes within 10 µs of
the write. While that ring cannot take it the change waits, for these 10 µs; then the entry is discarded with LOST_REC. -/
def State.fnEffect (s : State) (b : Nat) : State :=
  match mapGet (fun _ => none) s.collector.fnPending b with
  | none => s
  | some fn =>
    if (s.stagedOf b).full = false then s.fnTake b fn
    else
    let late := decide (mapGet (fun _ => 0) s.collector.fnSince b + 10000 ≤ s.time)
    if s.ringTakes b && (s.nextSource == some b || late) then ((s.takeTurn b).writeRecord b).fnTake b fn
    else if late = false then s
    else ((s.setStaged b {}).set F.BENCH_ASSIGN_LOST_REC b 1).fnTake b fn

def execFnChangeEffect (b : Nat) (s : State) : Host.Outcome State Fault Refusal := .next (s.fnEffect b)

/-! ### Gangs -/

/-- The benches of a rectangle w by h with its north-west corner at position `pos` of column c. -/
def gangRect (c pos w h : Nat) : List Nat :=
  ((upTo 16).filter fun i =>
    decide (pos % 4 ≤ i % 4 ∧ i % 4 < pos % 4 + w ∧ pos / 4 ≤ i / 4 ∧ i / 4 < pos / 4 + h)).map (16 * c + ·)

/-- The first failing check of a FORM, as its REASON; 0 when all pass (R263). An accepted change of FN that has not taken
effect refuses as well, since the members keep the FN they share at the formation (R259; log entry 23). -/
def State.formReason (s : State) (c pos wM1 hM1 : Nat) : Nat :=
  let ms := gangRect c pos (wM1 + 1) (hM1 + 1)
  if 3 < pos % 4 + wM1 ∨ 3 < pos / 4 + hM1 ∨ (wM1 + 1) * (hM1 + 1) < 2 then 1
  else if ms.any s.online then 2
  else if ms.any s.inGang then 3
  else if s.get F.BENCH_SURGE_CTL_SURGE_MAX c < ms.length then 4
  else if ms.any s.ctxBusy then 5
  else if ms.any fun m => s.get F.BENCH_ASSIGN_FN m != s.get F.BENCH_ASSIGN_FN (16 * c + pos)
      || s.fnNow m != s.get F.BENCH_ASSIGN_FN m then 6
  else 0

/-- A gang command is refused: GANG_ERR and REASON (R263, R265). -/
def State.gangRefuse (s : State) (c reason : Nat) : State :=
  (s.set F.BENCH_GANG_CMD_GANG_ERR c 1).set F.BENCH_GANG_CMD_REASON c reason

/-- BENCH_GANG_STAT of a member (R266). -/
def State.gangStat (s : State) (m pos wM1 hM1 : Nat) : State :=
  let p := benchPos m
  ((((((s.set F.BENCH_GANG_STAT_IN_GANG m 1).set F.BENCH_GANG_STAT_IS_LEADER m (b2n (p == pos))).set
    F.BENCH_GANG_STAT_LEADER m pos).set F.BENCH_GANG_STAT_W_M1 m wM1).set F.BENCH_GANG_STAT_H_M1 m hM1).set
    F.BENCH_GANG_STAT_DX m (p % 4 - pos % 4)).set F.BENCH_GANG_STAT_DY m (p / 4 - pos / 4)

/-- An accepted FORM (R263, R264): from the write every member reads IN_GANG 1; the formation completes later. -/
def State.gangForm (s : State) (c pos wM1 hM1 : Nat) : State :=
  let s1 := (gangRect c pos (wM1 + 1) (hM1 + 1)).foldl (fun s m => s.gangStat m pos wM1 hM1) s
  { s1 with tenancy := { s1.tenancy with forming := s1.tenancy.forming ++ [16 * c + pos] } }

/-- Why a DISSOLVE is refused, 0 if it is not (R265, R383): MEMBER if LEADER names no leader, ONLINE if the gang is online,
BUSY while a member is in a column shift. -/
def State.dissolveReason (s : State) (l : Nat) : Nat :=
  if s.flag F.BENCH_GANG_STAT_IS_LEADER l = false then 3
  else if (s.gangOf l).any s.online then 2
  else if (s.gangOf l).any fun m => s.flag F.BENCH_SHIFT_REPAIRING m then 5
  else 0

/-- An accepted DISSOLVE of leader l's gang (R265). -/
def State.gangDissolve (s : State) (l : Nat) : State :=
  let s1 := (s.gangOf l).foldl (fun s m => s.setReg .BENCH_GANG_STAT m 0) s
  { s1 with tenancy := { s1.tenancy with forming := s1.tenancy.forming.filter (· != l) } }

/-- Why a write of BENCH_GANG_CMD_c is refused, 0 if it is not (R263, R265): FORM and DISSOLVE together with BOTH. -/
def State.gangReason (s : State) (c : Nat) (v : Word) : Nat :=
  let form := fldOf F.BENCH_GANG_CMD_FORM v
  let diss := fldOf F.BENCH_GANG_CMD_DISSOLVE v
  let pos := fldOf F.BENCH_GANG_CMD_LEADER v
  if form = 1 ∧ diss = 1 then 7
  else if form = 1 then s.formReason c pos (fldOf F.BENCH_GANG_CMD_W_M1 v) (fldOf F.BENCH_GANG_CMD_H_M1 v)
  else if diss = 1 then s.dissolveReason (16 * c + pos)
  else 0

/-- A write of BENCH_GANG_CMD_c: a refused command changes nothing but GANG_ERR and REASON; else the fields are stored, and
FORM or DISSOLVE has its effect (R263, R265). -/
def State.gangCmdWrite (s : State) (c : Nat) (v : Word) : State :=
  let r := s.gangReason c v
  let s1 := s.plainWrite .BENCH_GANG_CMD c v
  let pos := fldOf F.BENCH_GANG_CMD_LEADER v
  if r ≠ 0 then s.gangRefuse c r
  else if fldOf F.BENCH_GANG_CMD_FORM v = 1 then
    s1.gangForm c pos (fldOf F.BENCH_GANG_CMD_W_M1 v) (fldOf F.BENCH_GANG_CMD_H_M1 v)
  else if fldOf F.BENCH_GANG_CMD_DISSOLVE v = 1 then s1.gangDissolve (16 * c + pos)
  else s1

/-- GANG_FORM (R263): a BENCH_GANG_CMD_c write with FORM. -/
def execGangForm (src : Src) (c : Nat) (v : Word) (s : State) : Host.Outcome State Fault Refusal :=
  .next (if s.mayWrite src .BENCH_GANG_CMD c then s.gangCmdWrite c v else s)

/-- GANG_DISSOLVE (R265): a BENCH_GANG_CMD_c write with DISSOLVE. -/
def execGangDissolve (src : Src) (c : Nat) (v : Word) (s : State) : Host.Outcome State Fault Refusal :=
  .next (if s.mayWrite src .BENCH_GANG_CMD c then s.gangCmdWrite c v else s)

/-- The CLK0 byte of every plane of a member is set equal to the leader's (R264). -/
def State.copyClk0 (s : State) (l m : Nat) : State :=
  (upTo 8).foldl (fun s p => s.set F.BENCH_CLKSRC_CLK0 (8 * m + p) (s.get F.BENCH_CLKSRC_CLK0 (8 * l + p))) s

/-- GANG_FORM_DONE (R264): CLK0 bytes are copied and the routing fences open. -/
def State.gangFormDone (s : State) (l : Nat) : State :=
  if s.tenancy.forming.contains l then
    let s1 := (s.gangOf l).foldl (fun s m => s.copyClk0 l m) s
    { s1 with tenancy := { s1.tenancy with forming := s1.tenancy.forming.filter (· != l) } }
  else s

def execGangFormDone (l : Nat) (s : State) : Host.Outcome State Fault Refusal := .next (s.gangFormDone l)

/-- The routing fence on the edge between two adjacent benches is open exactly when both belong to one formed gang
(R264, R267). -/
def State.fenceOpen (s : State) (a b : Nat) : Bool :=
  benchCol a == benchCol b && s.inGang a && s.inGang b && s.leaderOf a == s.leaderOf b && !s.gangForming a

/-! ### Memory fences, haul windows, lane masks -/

/-- Block n lies inside plane p's fence of bench b (R268). -/
def State.insideFence (s : State) (b p n : Nat) : Bool :=
  (upTo 4).any fun k =>
    let i := 32 * b + 4 * p + k
    s.get F.BENCH_MFENCE_EN i == 1 && decide (s.get F.BENCH_MFENCE_FIRST i ≤ n)
      && decide (n ≤ s.get F.BENCH_MFENCE_FIRST i + s.get F.BENCH_MFENCE_COUNT_M1 i)

/-- A write of BENCH_MFENCE_p_k, i = 32b + 4p + k (R269). -/
def State.mfenceWrite (s : State) (i : Nat) (v : Word) : State :=
  if 1023 < fldOf F.BENCH_MFENCE_FIRST v + fldOf F.BENCH_MFENCE_COUNT_M1 v then
    s.set F.BENCH_FENCE_STAT_FENCE_ERR (i / 32) 1
  else s.plainWrite .BENCH_MFENCE i v

def execMfenceWrite (src : Src) (b p k : Nat) (v : Word) (s : State) : Host.Outcome State Fault Refusal :=
  .next (if p < 8 ∧ k < 4 ∧ s.mayWrite src .BENCH_MFENCE (32 * b + 4 * p + k) = true
    then s.mfenceWrite (32 * b + 4 * p + k) v else s)

/-- BASE of window i of bench b from the staged LO and the written HI (R273, R274); j = 16b + i. -/
def State.hwinBase (s : State) (j : Nat) (hi : Word) : Nat :=
  s.get F.BENCH_HWIN_LO_BASE_LO j * 2 ^ 12 + fldOf F.BENCH_HWIN_HI_BASE_HI hi * 2 ^ 32

/-- Whether an HI write is refused (R273). -/
def State.hwinRefused (s : State) (j : Nat) (hi : Word) : Bool :=
  let e := fldOf F.BENCH_HWIN_HI_SIZE_EXP hi
  let base := s.hwinBase j hi
  decide (e < 12) || decide (40 < e) || base % 2 ^ e != 0 || decide (0x03F000000000 < base + 2 ^ e)

/-- A window in force: the HI write applies the staged LO with it. `hwins` in the state holds what was applied. -/
def State.hwinWrite (s : State) (j : Nat) (hi : Word) : State :=
  if s.hwinRefused j hi then s.set F.BENCH_FENCE_STAT_FENCE_ERR (j / 16) 1
  else
    let s1 := s.plainWrite .BENCH_HWIN_HI j hi
    { s1 with tenancy := { s1.tenancy with
        hwins := mapSet (fun _ => 0) s1.tenancy.hwins j (s.get F.BENCH_HWIN_LO_BASE_LO j) } }

def execHwinWrite (src : Src) (b i : Nat) (v : Word) (s : State) : Host.Outcome State Fault Refusal :=
  .next (if i < 16 ∧ s.mayWrite src .BENCH_HWIN_HI (16 * b + i) = true then s.hwinWrite (16 * b + i) v else s)

/-- Whether a request's whole byte range lies inside one enabled window that permits it (R271). -/
def State.windowAdmits (s : State) (b addr len : Nat) (write : Bool) : Bool :=
  (upTo 16).any fun i =>
    let j := 16 * b + i
    let base := mapGet (fun _ => 0) s.tenancy.hwins j * 2 ^ 12 + s.get F.BENCH_HWIN_HI_BASE_HI j * 2 ^ 32
    s.get F.BENCH_HWIN_HI_EN j == 1
      && (if write then s.get F.BENCH_HWIN_HI_WRITE j == 1 else s.get F.BENCH_HWIN_HI_READ j == 1)
      && decide (base ≤ addr) && decide (addr + len ≤ base + 2 ^ s.get F.BENCH_HWIN_HI_SIZE_EXP j)

/-- The lane-mask register of a direction and half. -/
def laneMaskReg (rx hi : Bool) : Reg :=
  match rx, hi with
  | false, false => .BENCH_LANE_TX_LO
  | false, true => .BENCH_LANE_TX_HI
  | true, false => .BENCH_LANE_RX_LO
  | true, true => .BENCH_LANE_RX_HI

/-- Whether bench b holds lane n's bit in a direction (R275). -/
def State.laneBit (s : State) (b n : Nat) (rx : Bool) : Bool :=
  bitOf (s.reg (laneMaskReg rx (decide (32 ≤ n))) b).toNat (n % 32) == 1

/-- A mask write that would set a bit held by another bench is refused; else it is stored (R275). -/
def State.laneMaskWrite (s : State) (b : Nat) (rx hi : Bool) (v : Word) : State :=
  let r := laneMaskReg rx hi
  if (upTo 64).any fun o => o != b && (s.reg r o &&& v) != 0 then s.set F.BENCH_FENCE_STAT_FENCE_ERR b 1
  else s.plainWrite r b v

def execLaneFenceWrite (src : Src) (b : Nat) (rx hi : Bool) (v : Word) (s : State) : Host.Outcome State Fault Refusal :=
  .next (if s.mayWrite src (laneMaskReg rx hi) b then s.laneMaskWrite b rx hi v else s)

/-! ### Weighbridges -/

/-- The cap of weighbridge j = 6b + 3p + k in 1/16 byte (R278, R280). -/
def State.wbCap (s : State) (j : Nat) : Int := 16 * ((2 ^ s.get F.BENCH_WB_CTL_BURST_EXP j : Nat) : Int)

def State.wbTokens (s : State) (j : Nat) : Int := mapGet (fun _ => 0) s.tenancy.tokens j
def State.setWbTokens (s : State) (j : Nat) (x : Int) : State :=
  { s with tenancy := { s.tenancy with tokens := mapSet (fun _ => 0) s.tenancy.tokens j x } }

/-- A BENCH_WB_CTL write: RATE at most 1,024 and at least 16 for RSP, BURST_EXP 6 to 16, and the count is clamped to
the new cap (R279, R280). -/
def State.wbCtlWrite (s : State) (j : Nat) (v : Word) : State :=
  let lo := if j % 3 = 1 then 16 else 0
  let s1 := (s.set F.BENCH_WB_CTL_RATE j (clampNat lo 1024 (fldOf F.BENCH_WB_CTL_RATE v))).set
    F.BENCH_WB_CTL_BURST_EXP j (clampNat 6 16 (fldOf F.BENCH_WB_CTL_BURST_EXP v))
  s1.setWbTokens j (min (s1.wbCap j) (s1.wbTokens j))

def execWbCtlWrite (src : Src) (b p k : Nat) (v : Word) (s : State) : Host.Outcome State Fault Refusal :=
  .next (if p < 2 ∧ k < 3 ∧ s.mayWrite src .BENCH_WB_CTL (6 * b + 3 * p + k) = true
    then s.wbCtlWrite (6 * b + 3 * p + k) v else s)

/-- One haul clock cycle adds RATE ÷ 16 bytes, up to the cap (R278). -/
def State.wbRefill (s : State) (j : Nat) : State :=
  s.setWbTokens j (min (s.wbCap j) (s.wbTokens j + s.get F.BENCH_WB_CTL_RATE j))

/-! ### Tally meters and power caps -/

/-- The accumulator energy falls to: the active plane's while online, else IDLE (R282). -/
def State.tallyAcc (s : State) (b : Nat) : Nat :=
  9 * b + (if s.online b then s.get F.BENCH_PLANE_STAT_ACTIVE b else 8)

/-- TALLY_SAMPLE (R282): `nj` nanojoules of bench b's energy go to one accumulator. The meter lies in PD_TEL. -/
def State.tallySample (s : State) (b nj : Nat) : State :=
  if s.powered 4 then
    { s with tenancy := { s.tenancy with
        energy := mapSet (fun _ => 0) s.tenancy.energy (s.tallyAcc b)
          (mapGet (fun _ => 0) s.tenancy.energy (s.tallyAcc b) + nj)
        sinceUpd := mapSet (fun _ => 0) s.tenancy.sinceUpd b (mapGet (fun _ => 0) s.tenancy.sinceUpd b + nj) } }
  else s

def execTallySample (b nj : Nat) (s : State) : Host.Outcome State Fault Refusal := .next (s.tallySample b nj)

/-- Accumulator a of bench b in mJ, 64 bits; the residue below 1 mJ is carried forward (R282). -/
def State.tallyMj (s : State) (b a : Nat) : Nat := mapGet (fun _ => 0) s.tenancy.energy (9 * b + a) / 1000000 % 2 ^ 64

/-- TOTAL is the sum of the nine accumulators (R282). -/
def State.tallyTotal (s : State) (b : Nat) : Nat := ((upTo 9).map (s.tallyMj b)).foldl (· + ·) 0 % 2 ^ 64

def State.capLevel (s : State) (b : Nat) : Nat := mapGet (fun _ => 0) s.tenancy.capLevel b

/-- The thermal controller's suppression level (R519). -/
def State.thermSup (s : State) (b : Nat) : Nat := mapGet (fun _ => 0) s.thermal.sup b

/-- SUPPR as it acts: the stricter of the cap's and the thermal controller's level (R286, R519). -/
def State.suppr (s : State) (b : Nat) : Nat := max (s.capLevel b) (s.thermSup b)

/-- The bound that acts: CAP_MW with EN set, else the HLU's bench power bound alone (R285, R569). -/
def State.capMw (s : State) (b : Nat) : Nat :=
  if s.get F.BENCH_PCAP_EN b = 1 then min (s.get F.BENCH_PCAP_CAP_MW b) (s.hluEff 10) else s.hluEff 10

/-- The energy in nJ and the length in µs of the averaging window, the newest microsecond first (R285). -/
def State.capWindow (s : State) (b : Nat) (h : List Nat) : Nat × Nat :=
  let w := h.take (2 ^ s.get F.BENCH_PCAP_WIN_EXP b)
  (w.foldl (· + ·) 0, w.length)

/-- PCAP_UPDATE (R285): the window's average power against the cap moves the level by at most 1; PCAP is raised when
the level leaves 0. Average power in mW over n µs is energy in nJ ÷ n. -/
def State.pcapUpdate (s : State) (b : Nat) : State :=
  if s.powered 4 then
    let h := (mapGet (fun _ => 0) s.tenancy.sinceUpd b :: mapGet (fun _ => []) s.tenancy.history b).take 4096
    let e := (s.capWindow b h).1
    let n := (s.capWindow b h).2
    let l := s.capLevel b
    let l' := if s.capMw b * n < e then min 15 (l + 1) else if e * 16 ≤ s.capMw b * n * 15 then l - 1 else l
    let s1 := { s with tenancy := { s.tenancy with
        sinceUpd := mapSet (fun _ => 0) s.tenancy.sinceUpd b 0
        history := mapSet (fun _ => []) s.tenancy.history b h
        capLevel := mapSet (fun _ => 0) s.tenancy.capLevel b l' } }
    if l = 0 ∧ 0 < l' then s1.raiseBench b 8 else s1
  else s

def execPcapUpdate (b : Nat) (s : State) : Host.Outcome State Fault Refusal := .next (s.pcapUpdate b)

/-- A BENCH_PCAP write: CAP_MW within the HLU's bench power bound, or refused with its old value kept; WIN_EXP 4 to 12
(R8, R287, R568). -/
def State.pcapWrite (s : State) (src : Src) (b : Nat) (v : Word) : State :=
  let s1 := (s.set F.BENCH_PCAP_EN b (fldOf F.BENCH_PCAP_EN v)).set F.BENCH_PCAP_WIN_EXP b
    (clampNat 4 12 (fldOf F.BENCH_PCAP_WIN_EXP v))
  let cap := fldOf F.BENCH_PCAP_CAP_MW v
  if cap ≤ s.hluEff 10 then s1.set F.BENCH_PCAP_CAP_MW b cap else s1.hluRefuse 10 (srcCode src)

/-- Whether generated edge k of a bench clock is suppressed at level n (R285). -/
def edgeSuppressed (k n : Nat) : Bool := decide (k * n / 16 < (k + 1) * n / 16)

end Sys2Proof.Machine
end

