-- ==== Sys2Proof/Machine/Planes.lean ====
section
/-!
DEFINITION. The hot planes as stores (R150 to R153, R197): frames, plane states, homes, configuration fields, and the
memory-port bindings in force.
-/

namespace Sys2Proof.Machine

/-- Frames of a slot or plane (R197). -/
def slotFrames : Nat := 32341
def ffRun : Nat := 31829
def abRun : Nat := 32085

def State.planeFrame (s : State) (b p f : Nat) : Nat := mapGet (fun _ => 0) s.planes.frames (slotFrames * (8 * b + p) + f)

def State.setPlaneFrame (s : State) (b p f x : Nat) : State :=
  { s with planes := { s.planes with
      frames := mapSet (fun _ => 0) s.planes.frames (slotFrames * (8 * b + p) + f) (x % 2 ^ 512) } }

/-- Bit `i` of a run of frames that starts at frame `f0`. -/
def State.runBit (s : State) (b p f0 i : Nat) : Nat := bitOf (s.planeFrame b p (f0 + i / 512)) (i % 512)

/-- `w` bits of a run from bit `i`. -/
def State.runBits (s : State) (b p f0 i : Nat) : Nat → Nat
  | 0 => 0
  | w + 1 => s.runBit b p f0 i + 2 * s.runBits b p f0 (i + 1) w

/-- Set `w` bits of a run from bit `i`. -/
def State.setRunBits (s : State) (b p f0 i : Nat) : Nat → Nat → State
  | 0, _ => s
  | w + 1, x =>
    (s.setPlaneFrame b p (f0 + i / 512) (putBits (s.planeFrame b p (f0 + i / 512)) (i % 512) 1 x)).setRunBits b p f0
      (i + 1) w (x / 2)

/-- Bit `i` of the configuration of logical sett (sx, sy), in the order of R44: LUT masks from 0, LE words from 4,096,
control set words from 5,120, the arithmetic-block share from 5,376, selects from 5,632. Its place among the sett's
slot bits is `Config.settBit`, one place for each bit (log entry 30). -/
def State.settBit (s : State) (b p sx sy i : Nat) : Nat :=
  s.runBit b p 1 (15872 * (32 * sx + sy) + Config.settBit i)

def State.settBits (s : State) (b p sx sy i : Nat) : Nat → Nat
  | 0 => 0
  | w + 1 => s.settBit b p sx sy i + 2 * s.settBits b p sx sy (i + 1) w

def State.lutMask (s : State) (b p sx sy n : Nat) : Nat := s.settBits b p sx sy (64 * n) 64
def State.leWord (s : State) (b p sx sy n : Nat) : Nat := s.settBits b p sx sy (4096 + 16 * n) 16
def State.ctlWord (s : State) (b p sx sy g : Nat) : Nat := s.settBits b p sx sy (5120 + 32 * g) 32
/-- The 3-bit select of AB input wire i of a sett row (R53), and the row's slice of the AB configuration. -/
def State.abSelect (s : State) (b p sx sy i : Nat) : Nat := s.settBits b p sx sy (5376 + 3 * i) 3
def State.abSlice (s : State) (b p sx sy : Nat) : Nat := s.settBits b p sx sy 5592 40
/-- The select of LE n's routed input i, 0..5 for A..F and 6 for DX, and of the multiplexer with mux index t (R59). -/
def State.pinSelect (s : State) (b p sx sy n i : Nat) : Nat := s.settBits b p sx sy (5632 + 8 * (7 * n + i)) 8
def State.muxSelect (s : State) (b p sx sy t : Nat) : Nat := s.settBits b p sx sy (5632 + 8 * (448 + t)) 8

/-- Driver select of an express track: direction d, line, index i (R64, R197). -/
def State.expSelect (s : State) (b p d line i : Nat) : Nat := s.runBits b p 31745 (11 * (512 * d + 16 * line + i)) 11

/-- Binding of port 0 (A) or 1 (B) of block n (R81, R197). -/
def State.binding (s : State) (b p n port : Nat) : Nat := s.runBits b p 31789 (20 * n + 10 * port) 10

/-- The AB configuration word's 16 used bits (R54): row 0 of the block's span holds bits [39:0]. -/
def State.abCfg (s : State) (b p sx k : Nat) : Nat := s.abSlice b p sx (8 * k) % 2 ^ 16

/-! ### States, homes -/

/-- State codes of R152. -/
def psEmpty : Nat := 0
def psLoading : Nat := 1
def psReady : Nat := 2
def psActive : Nat := 3
def psPaging : Nat := 4
def psFault : Nat := 5

/-- BENCH_PLANE_STATE_b, field p. -/
def psFld (p : Nat) : Fld := ⟨.BENCH_PLANE_STATE, 4 * p, 4⟩
def State.planeSt (s : State) (b p : Nat) : Nat := s.get (psFld p) b
def State.setPlaneSt (s : State) (b p st : Nat) : State := s.set (psFld p) b st

/-- The active plane of an online bench (R151). -/
def State.activePlane (s : State) (b : Nat) : Option Nat :=
  if s.online b then some (s.get F.BENCH_PLANE_STAT_ACTIVE b) else none

/-- CTX_HOME_p: the home slot of plane p (R203). -/
def State.home (s : State) (b p : Nat) : Option Nat :=
  if s.flag F.CTX_HOME_VALID (8 * b + p) then some (s.get F.CTX_HOME_SLOT (8 * b + p)) else none

/-- HOMES of global slot g (R203). -/
def State.homesOf (s : State) (g : Nat) : Nat :=
  ((upTo 128).filter fun i => s.home (16 * (g / 1024) + i / 8) (i % 8) == some (g % 1024)).length

/-- HOMES in the slot's status register follows the homes. -/
def State.refreshHomes (s : State) (g : Nat) : State := s.set F.CTX_SLOT_STAT_HOMES g (s.homesOf g)

def State.setHome (s : State) (b p : Nat) (h : Option Nat) : State :=
  let g := fun (x : Nat) => 1024 * benchCol b + x
  let old := s.home b p
  let s1 := match h with
    | some x => (s.set F.CTX_HOME_VALID (8 * b + p) 1).set F.CTX_HOME_SLOT (8 * b + p) x
    | none => s.setReg .CTX_HOME (8 * b + p) 0
  let s2 := match old with | some x => s1.refreshHomes (g x) | none => s1
  match h with | some x => s2.refreshHomes (g x) | none => s2

/-! ### Bindings in force (R81 to R84) -/

/-- Setts a port of width code w binds (R83). -/
def widthSetts (w : Nat) : Nat := [1, 2, 3, 5].getD w 1

/-- A port binds setts and none lies beyond row 31; port B is ignored when port A pairs both (R80, R83). -/
def State.portLiveCfg (s : State) (b p n port : Nat) : Bool :=
  let c := s.binding b p n port
  let a := s.binding b p n 0
  bitOf c 9 == 1 && decide (bitsOf c 0 5 + widthSetts (bitsOf c 7 2) ≤ 32)
    && !(port == 1 && bitOf a 9 == 1 && bitsOf a 7 2 == 3)

def State.portBinds (s : State) (b p n port sy : Nat) : Bool :=
  let c := s.binding b p n port
  s.portLiveCfg b p n port && decide (bitsOf c 0 5 ≤ sy ∧ sy < bitsOf c 0 5 + widthSetts (bitsOf c 7 2))

/-- The port that takes sett (sx, sy): the lowest block, A before B (R84); block n = 32·bx + row lies over logical sett
column bx (R26). -/
def State.settPort (s : State) (b p sx sy : Nat) : Option (Nat × Nat) :=
  ((upTo 64).map fun i => (32 * sx + i / 2, i % 2)).find? fun (e : Nat × Nat) => s.portBinds b p e.1 e.2 sy

/-- An enabled port: it takes every sett it binds (R83, R84). -/
def State.portEnabled (s : State) (b p n port : Nat) : Bool :=
  let c := s.binding b p n port
  s.portLiveCfg b p n port &&
    (upTo (widthSetts (bitsOf c 7 2))).all fun j => s.settPort b p (n / 32) (bitsOf c 0 5 + j) == some (n, port)

/-- The bench clock of a port; an unbound port B, and a bench without an active plane, use bench clock 0 (R91). -/
def State.portClock (s : State) (b n port : Nat) : Nat :=
  match s.activePlane b with
  | some p =>
    let port := if port = 1 ∧ bitOf (s.binding b p n 0) 9 = 1 ∧ bitsOf (s.binding b p n 0) 7 2 = 3 then 0 else port
    if bitOf (s.binding b p n port) 9 = 1 then bitsOf (s.binding b p n port) 5 2 else 0
  | none => 0

/-! ### Spare memory blocks -/

/-- The primary that spare k of bench b stands in for. -/
def State.spareOf (s : State) (b k : Nat) : Option Nat := mapGet (fun _ => none) s.memt.spares (16 * b + k)

/-- The physical block that serves primary n: its spare once it is retired (R103). -/
def State.physOf (s : State) (b n : Nat) : Nat := if s.spareOf b (n / 64) = some n then 1024 + n / 64 else n

/-! ### State copies -/

/-- The state initialisation of a plane after its state copies are lost (R153): each flip-flop copy at its SRVAL, each
arithmetic-block register 0. -/
def State.initFrame (s : State) (b p j : Nat) : Nat :=
  (upTo 512).foldl (fun acc i =>
    let bit := 512 * j + i
    let sett := bit / 128
    let le := bit % 128 / 2
    let w := s.leWord b p (sett / 32) (sett % 32) le
    acc + (if bit % 2 = 0 then bitOf w 3 else bitOf w 2) * 2 ^ i) 0

/-- The bench's frames of the unused physical column, read as a plane's. -/
def State.spareView (s : State) : State := { s with planes := { s.planes with frames := s.planes.retired } }

/-- The state copies of the unused physical column take SRVAL and 0 with the others (R150, R153). -/
def State.initSpare (s : State) (b p : Nat) : State :=
  let v := s.spareView
  let old := mapKeep (fun k => !(k / slotFrames == 8 * b + p && decide (ffRun ≤ k % slotFrames))) s.planes.retired
  { s with planes := { s.planes with
      retired := (upTo 256).foldl (fun m j => mapSet (fun _ => 0) m (slotFrames * (8 * b + p) + ffRun + j) (v.initFrame b p j)) old
      retStages := mapKeep (fun k => k / 4 != 8 * b + p) s.planes.retStages } }

/-- Drop the stages of a location (plane 8·b + p, or 512 + slot). -/
def State.dropStages (s : State) (loc : Nat) : State :=
  { s with planes := { s.planes with stages := mapKeep (fun k => k / 128 != loc) s.planes.stages } }

/-- Copy the stages of one location to another. -/
def State.copyStages (s : State) (from_ to_ : Nat) : State :=
  (upTo 128).foldl (fun s i =>
    { s with planes := { s.planes with
        stages := mapSet (fun _ => {}) s.planes.stages (128 * to_ + i)
          (mapGet (fun _ => {}) s.planes.stages (128 * from_ + i)) } }) s

/-- The 64 parity bits of a state frame, one per 8 bits (R402). -/
def parityWord (x : Nat) : Nat := (upTo 64).foldl (fun acc g => acc + parity (bitsOf x (8 * g) 8) 8 * 2 ^ g) 0

def State.parityAt (s : State) (b p j : Nat) : Nat :=
  mapGet (fun _ => 0) s.planes.parity (slotFrames * (8 * b + p) + ffRun + j)

/-- The edge that freezes plane p's copies generates their parity; what failed before becomes the past (R402 to R404). -/
def State.freezeState (s : State) (b p : Nat) : State :=
  let s1 := (upTo 512).foldl (fun s j =>
    { s with planes := { s.planes with
        parity := mapSet (fun _ => 0) s.planes.parity (slotFrames * (8 * b + p) + ffRun + j)
          (parityWord (s.planeFrame b p (ffRun + j))) } }) s
  { s1 with planes := { s1.planes with
      parPast := mapSet (fun _ => []) s1.planes.parPast (8 * b + p)
        (mapGet (fun _ => []) s1.planes.parPast (8 * b + p) ++ mapGet (fun _ => []) s1.planes.parSeen (8 * b + p))
      parSeen := mapSet (fun _ => []) s1.planes.parSeen (8 * b + p) [] } }

/-- Parity groups of a frozen state frame that fail. -/
def State.parityBad (s : State) (b p j : Nat) : List Nat :=
  (upTo 64).filter fun g =>
    bitOf (s.parityAt b p j) g != bitOf (parityWord (s.planeFrame b p (ffRun + j))) g

/-- Upsets flip bits of a plane's frozen state, given as positions in the 262,144 state bits. -/
def State.flipState (s : State) (b p : Nat) (flips : List Nat) : State :=
  flips.foldl (fun s i =>
    let i := i % 262144
    s.setPlaneFrame b p (ffRun + i / 512) (Nat.xor (s.planeFrame b p (ffRun + i / 512)) (2 ^ (i % 512)))) s

def State.initPlaneState (s : State) (b p : Nat) : State :=
  let s1 := (upTo 256).foldl (fun s j => s.setPlaneFrame b p (ffRun + j) (s.initFrame b p j)) s
  let s2 := (upTo 256).foldl (fun s j => s.setPlaneFrame b p (abRun + j) 0) s1
  ((s2.initSpare b p).dropStages (8 * b + p)).freezeState b p

/-- The state copies of a bench are lost with PD_BENCH_b (R153). -/
def State.loseState (s : State) (b : Nat) : State :=
  { s with planes := { s.planes with
      frames := mapKeep (fun k => !(k / slotFrames / 8 == b && decide (ffRun ≤ k % slotFrames))) s.planes.frames
      retired := mapKeep (fun k => !(k / slotFrames / 8 == b && decide (ffRun ≤ k % slotFrames))) s.planes.retired
      stages := mapKeep (fun k => !(k / 128 / 8 == b)) s.planes.stages
      retStages := mapKeep (fun k => k / 32 != b) s.planes.retStages
      parity := mapKeep (fun k => k / slotFrames / 8 != b) s.planes.parity } }

end Sys2Proof.Machine
end

