-- ==== Sys2Proof/Machine/Fabric.lean ====
section
/-!
DEFINITION. The fabric that the active plane configures (R43 to R66): wires, flip-flops, arithmetic blocks, clock edges,
and the sampled ports of the bench (R160, R170, R171).
-/

namespace Sys2Proof.Machine

/-- A wire of the fabric. -/
inductive Node where
  | mux (b sx sy t : Nat)          -- the multiplexer with mux index t of a sett (R59)
  | pin (b sx sy n i : Nat)        -- LE n's routed input i: A..F, 6 = DX
  | out (b sx sy o : Nat)          -- sett output o (R43)
  | cout (b sx sy n : Nat)         -- carry out of LE n (R46)
  | exp (b d line i : Nat)         -- an express track (R64)
  deriving DecidableEq, Repr

/-- A number for each wire. -/
def Node.key : Node → Nat
  | .mux b sx sy t => 5 * (1024 * (1024 * b + 32 * sx + sy) + t)
  | .pin b sx sy n i => 5 * (1024 * (1024 * b + 32 * sx + sy) + 7 * n + i) + 1
  | .out b sx sy o => 5 * (1024 * (1024 * b + 32 * sx + sy) + o) + 2
  | .cout b sx sy n => 5 * (1024 * (1024 * b + 32 * sx + sy) + n) + 3
  | .exp b d line i => 5 * (2048 * b + 512 * d + 16 * line + i) + 4

/-- The bench next to b on side d: 0 north, 1 east, 2 south, 3 west, inside its column. -/
def benchAt (b d : Nat) : Option Nat :=
  match d with
  | 0 => if benchY b = 0 then none else some (b - 4)
  | 1 => if benchX b = 3 then none else some (b + 1)
  | 2 => if benchY b = 3 then none else some (b + 4)
  | _ => if benchX b = 0 then none else some (b - 1)

/-- The neighbouring bench on side d across an open routing fence (R60, R65). -/
def State.benchNext (s : State) (b d : Nat) : Option Nat :=
  match benchAt b d with
  | some b' => if s.fenceOpen b b' then some b' else none
  | none => none

/-- The sett `dist` setts away on side d, perhaps in the neighbouring bench (R60). -/
def State.settAt (s : State) (b sx sy d dist : Nat) : Option (Nat × Nat × Nat) :=
  match d with
  | 0 => if dist ≤ sy then some (b, sx, sy - dist) else (s.benchNext b 0).map fun b' => (b', sx, sy + 32 - dist)
  | 1 => if sx + dist < 32 then some (b, sx + dist, sy) else (s.benchNext b 1).map fun b' => (b', sx + dist - 32, sy)
  | 2 => if sy + dist < 32 then some (b, sx, sy + dist) else (s.benchNext b 2).map fun b' => (b', sx, sy + dist - 32)
  | _ => if dist ≤ sx then some (b, sx - dist, sy) else (s.benchNext b 3).map fun b' => (b', sx + 32 - dist, sy)

/-- A flip-flop's live copy: i = 2n for FF A of LE n, 2n + 1 for FF B (R197). -/
def State.ff (s : State) (b p sx sy i : Nat) : Bool := s.runBit b p ffRun (128 * (32 * sx + sy) + i) == 1

/-- State bits of arithmetic block (sx, k) (R197, R233). -/
def State.abBits (s : State) (b p sx k lo w : Nat) : Nat := s.runBits b p abRun (1024 * (4 * sx + k) + lo) w

def abKey (loc sx k : Nat) : Nat := 128 * loc + 4 * sx + k
def State.abStage (s : State) (loc sx k : Nat) : AbStage := mapGet (fun _ => {}) s.planes.stages (abKey loc sx k)

/-- O[287:0] of an arithmetic block (R55 to R57). -/
def State.abOut (s : State) (b p sx k : Nat) : Nat :=
  let mode := s.abCfg b p sx k % 8
  if 5 ≤ mode then 0
  else s.abBits b p sx k 0 256 % 2 ^ (abLanes mode * abWidth mode) + s.abBits b p sx k 256 5 * 2 ^ 256
    + b2n (s.abStage (8 * b + p) sx k).valid * 2 ^ 261

/-- The down bundle that sett (sx, sy)'s wire u, 64..95, carries (R82 to R84). -/
def State.memDown (s : State) (b p sx sy u : Nat) : Bool :=
  match s.settPort b p sx sy with
  | none => false
  | some (n, port) =>
    if s.portEnabled b p n port then
      let blk := mapGet (fun _ => {}) s.memt.blocks (1040 * b + s.physOf b n)
      let c := s.binding b p n port
      let j := 32 * (sy - bitsOf c 0 5) + (u - 64)
      let w := [16, 32, 64, 128].getD (bitsOf c 7 2) 16
      if w + 2 < j then false else bitOf (if port = 0 then blk.downA else blk.downB) j == 1
    else false

/-- The LE's combinational values from a reading `rd` of the wires (R45, R46): O6, O5A, O5B, S0, S1, COUT. -/
def State.leComb (s : State) (rd : Node → Bool) (b p sx sy n : Nat) : Bool × Bool × Bool × Bool × Bool × Bool :=
  let w := s.leWord b p sx sy n
  let m := s.lutMask b p sx sy n
  let pin := fun i => b2n (rd (.pin b sx sy n i))
  let idx := pin 0 + 2 * pin 1 + 4 * pin 2 + 8 * pin 3 + 16 * pin 4
  let carry := bitOf w 13 == 1
  let frac := carry || bitOf w 12 == 1
  let o5a := if frac then bitOf m idx == 1 else bitOf m (idx + 32 * pin 5) == 1
  let o5b := if frac then bitOf m (32 + idx) == 1 else o5a
  let c0 := match bitsOf w 14 2 with
    | 0 => if n = 0 then (if sy = 0 then false else rd (.cout b sx (sy - 1) 63)) else rd (.cout b sx sy (n - 1))
    | 1 => false
    | 2 => true
    | _ => rd (.pin b sx sy n 6)
  if carry then
    let c1 := if o5a then c0 else rd (.pin b sx sy n 0)
    (o5a, o5a, o5b, o5a != c0, o5b != c1, if o5b then c1 else rd (.pin b sx sy n 1))
  else (o5a, o5a, o5b, false, false, c0)

/-- The incoming wire `w` of a sett (R60, R63). -/
def State.incoming (s : State) (rd : Node → Bool) (b p sx sy w : Nat) : Bool :=
  let arrive := fun (d i dist base per : Nat) =>
    match s.settAt b sx sy d dist with
    | some (b', x, y) => rd (.mux b' x y (base + per * ((d + 2) % 4) + i))
    | none => false
  if w < 256 then arrive (w / 64) (w % 64) 1 256 64
  else if w < 384 then arrive ((w - 256) / 32) (w % 32) 4 512 32
  else if w < 480 then arrive ((w - 384) / 24) ((w - 384) % 24) 8 640 24
  else if w < 496 then rd (.exp b 0 sy (w - 480))
  else if w < 512 then rd (.exp b 1 sy (w - 496))
  else if w < 528 then rd (.exp b 2 sx (w - 512))
  else if w < 544 then rd (.exp b 3 sx (w - 528))
  else if w < 576 then s.memDown b p sx sy (w - 480)
  else bitOf (s.abOut b p sx (sy / 8)) (36 * (sy % 8) + (w - 576)) == 1

/-- The value of a wire, given a reading of the wires it depends on. An offline bench sees the park configuration: every
wire is 0 (R151). R64 does not say from which end of an express track position p counts: here p is the coordinate sx or sy
of the sett in every direction (log entry 68, DESIGN CHOICE). -/
def State.evalNode (s : State) (rd : Node → Bool) : Node → Bool
  | .mux b sx sy t =>
    match s.activePlane b with
    | none => false
    | some p =>
      let k := s.muxSelect b p sx sy t
      if k < 128 then rd (.out b sx sy k) else s.incoming rd b p sx sy ((t + 5 * (k - 128)) % 612)
  | .pin b sx sy n i =>
    match s.activePlane b with
    | none => false
    | some p => rd (.mux b sx sy (s.pinSelect b p sx sy n i))
  | .out b sx sy o =>
    match s.activePlane b with
    | none => false
    | some p =>
      let n := o / 2
      let w := s.leWord b p sx sy n
      let c := s.leComb rd b p sx sy n
      if o % 2 = 0 then
        match bitsOf w 6 2 with
        | 0 => c.1
        | 1 => s.ff b p sx sy o
        | 2 => c.2.2.2.1
        | _ => c.2.2.2.2.2
      else
        match bitsOf w 4 2 with
        | 0 => c.2.2.1
        | 1 => s.ff b p sx sy o
        | 2 => c.2.2.2.2.1
        | _ => c.2.2.2.2.2
  | .cout b sx sy n =>
    match s.activePlane b with
    | none => false
    | some p => (s.leComb rd b p sx sy n).2.2.2.2.2
  | .exp b d line i =>
    match s.activePlane b with
    | none => false
    | some p =>
      let q := s.expSelect b p d line i
      if q < 1024 then
        if d < 2 then rd (.mux b (q / 32) line (736 + q % 32)) else rd (.mux b line (q / 32) (736 + q % 32))
      else if q = 1024 then
        -- the track arriving from the bench upstream: west for east-going, and so on (R64)
        match s.benchNext b ([3, 1, 0, 2].getD d 0) with
        | some b' => rd (.exp b' d line i)
        | none => false
      else false

/-- A wire's value, following at most `fuel` wires back; beyond that the wire lies on a loop and its value is free (R62,
log entry 31). -/
def State.wire (s : State) : Nat → Node → Bool
  | 0, x => Config.loopBit s.freeCtr x.key
  | f + 1, x => s.evalNode (s.wire f) x

/-- More wires than a gang of 16 benches has, so that only a loop exhausts it. -/
def wireFuel : Nat := 2 ^ 26

def State.wireAt (s : State) (x : Node) : Bool := s.wire wireFuel x

/-- A local track of a sett (R59). -/
def State.track (s : State) (b sx sy t : Nat) : Bool := s.wireAt (.mux b sx sy t)

/-! ### Flip-flops (R49 to R51) -/

/-- The reset of an LE group after SR_INV (R50). -/
def State.groupReset (s : State) (b p sx sy g : Nat) : Bool :=
  let w := s.ctlWord b p sx sy g
  bitOf w 28 == 1 && (s.track b sx sy (bitsOf w 8 8) != (bitOf w 26 == 1))

/-- SRVAL of a flip-flop (R48). -/
def State.srval (s : State) (b p sx sy i : Nat) : Bool :=
  bitOf (s.leWord b p sx sy (i / 2)) (if i % 2 = 0 then 3 else 2) == 1

/-- D of a flip-flop (R47, R48). -/
def State.ffD (s : State) (b p sx sy i : Nat) : Bool :=
  let n := i / 2
  let w := s.leWord b p sx sy n
  let c := s.leComb s.wireAt b p sx sy n
  match bitsOf w (if i % 2 = 0 then 10 else 8) 2 with
  | 0 => if i % 2 = 0 then c.2.1 else c.2.2.1
  | 1 => if i % 2 = 0 then c.2.2.2.1 else c.2.2.2.2.1
  | 2 => s.wireAt (.pin b sx sy n 6)
  | _ => if n = 0 then (if sy = 0 then false else s.ff b p sx (sy - 1) (126 + i % 2)) else s.ff b p sx sy (i - 2)

/-- Q of a flip-flop after an edge of its clock (R50). A group whose asynchronous reset is released inside the window of
R51 takes SRVAL or D: `late` says so of a group with an asynchronous reset, and `pick` is the free choice. -/
def State.ffNext (s : State) (b p sx sy i : Nat) (late pick : Bool) : Bool :=
  let w := s.ctlWord b p sx sy (i / 16)
  if late && bitOf w 28 == 1 && bitOf w 27 == 1 then (if pick then s.srval b p sx sy i else s.ffD b p sx sy i)
  else if s.groupReset b p sx sy (i / 16) then s.srval b p sx sy i
  else if bitOf w 29 == 0 || s.track b sx sy (bitsOf w 16 8) then s.ffD b p sx sy i
  else s.ff b p sx sy i

/-- A flip-flop state frame after an edge of bench clock `clk`, the logic read in `s0`. -/
def State.ffFrame (s0 s : State) (b p clk j : Nat) (late : List (Nat × Nat)) : Nat :=
  (upTo 512).foldl (fun acc q =>
    let bit := 512 * j + q
    let sett := bit / 128
    let i := bit % 128
    let w := s0.ctlWord b p (sett / 32) (sett % 32) (i / 16)
    let v := if bitsOf w 30 2 = clk then
        s0.ffNext b p (sett / 32) (sett % 32) i (late.contains (sett, i / 16))
          (Config.loopBit s0.freeCtr (5 * (2 ^ 30 + 131072 * b + bit)))
      else s.runBit b p ffRun bit == 1
    acc + b2n v * 2 ^ q) 0

/-! ### Arithmetic blocks (R52 to R58) -/

/-- I[575:0] of arithmetic block (sx, k), from the local tracks its selects take (R53). -/
def State.abIn (s : State) (b p sx k : Nat) : Nat :=
  (upTo 576).foldl (fun acc j =>
    let sy := 8 * k + j / 72
    let i := j % 72
    acc + b2n (s.track b sx sy ((i + 32 * s.abSelect b p sx sy i) % 256)) * 2 ^ j) 0

/-- An edge of an arithmetic block's clock: the oldest operation in flight finishes, and a new one is sampled. The newest
operation in flight stands in the operand register among the state bits, wherever they came from (R233). -/
def State.abEdge (s0 s : State) (b p sx k : Nat) : State :=
  let cfg := s0.abCfg b p sx k
  let mode := cfg % 8
  if 5 ≤ mode then s
  else
    let loc := 8 * b + p
    let st := s0.abStage loc sx k
    let d := abDepth mode
    let i := s0.abIn b p sx k
    let ops := s0.abBits b p sx k 261 576 :: st.ops
    let fin := ops.getD (d - 1) 0
    let r := abFinish cfg mode fin (s0.abBits b p sx k 0 256) (s0.abBits b p sx k 256 5)
    let base := 1024 * (4 * sx + k)
    let s1 := ((s.setRunBits b p abRun base 256 r.1).setRunBits b p abRun (base + 256) 5 r.2).setRunBits b p abRun
      (base + 261) 576 i
    { s1 with planes := { s1.planes with
        stages := mapSet (fun _ => {}) s1.planes.stages (abKey loc sx k)
          { ops := ops.take (d - 1), valid := bitOf fin 512 == 1 } } }

/-! ### Boundary cells of the hoppers (R170, R172, R173) -/

/-- The odd hopper of a standing pair (R124). -/
def State.hopSlave (s : State) (j : Nat) : Bool := j % 2 == 1 && s.flag F.HOP_CFG_PAIR (j - 1)

/-- Item width: 72 bits, 144 in a pair (R123, R124). -/
def State.hopWidth (s : State) (j : Nat) : Nat := if j % 2 = 0 ∧ s.flag F.HOP_CFG_PAIR j = true then 144 else 72

/-- The 72 bits that the idle registers of hopper j hold (R146). -/
def State.idleWord (s : State) (j : Nat) : Nat :=
  (s.reg .HOP_IDLE_0 j).toNat + (s.reg .HOP_IDLE_1 j).toNat * 2 ^ 32 + (s.reg .HOP_IDLE_2 j).toNat * 2 ^ 64

/-- The idle item; in a pair the odd hopper's idle registers supply bits [143:72] (R124, R146). -/
def State.idleItem (s : State) (j : Nat) : Nat :=
  if s.hopWidth j = 144 then s.idleWord j + s.idleWord (j + 1) * 2 ^ 72 else s.idleWord j

/-- What the write-side boundary cell of hopper j = 32·b + h drives on its data lines: what it captured last, item, WSOP at
bit 144, WEOP at bit 145 (R170); with PD_BENCH_b down nothing is held and the lines read 0 (R173). -/
def State.bndData (s : State) (j : Nat) : Nat :=
  if s.benchUp (j / 32) then mapGet (fun _ => 0) s.planes.bnd j else 0

/-- A boundary cell captures data lines: those of a write of the fabric, or the idle item. DESIGN CHOICE (log entry 77): R59
names no track of the data lines, so an edge of an online port with WVALID or WEN at 0 captures nothing new here, and the
cell holds the last item written. -/
def State.setBnd (s : State) (j v : Nat) : State :=
  { s with planes := { s.planes with bnd := mapSet (fun _ => 0) s.planes.bnd j v } }

/-- Whether a fabric-side access of bench b by its active plane acts on hopper j (R136): `none` when the bench is offline,
`some false` when the active plane is not the owner. -/
def State.hopFabric (s : State) (j : Nat) : Option Bool :=
  (s.activePlane (j / 32)).map fun p => s.flag F.HOP_OWNER_OWN_VALID j && s.get F.HOP_OWNER_PLANE j == p

/-- Write-side boundary cells on bench clock `clk` capture the offline value at its edge: those of an offline bench, and
those of hoppers that the active plane does not own, which it does not use (R136, R172, R173). With HOP_CONST the data lines
take the idle item, WSOP and WEOP 0; else they hold. -/
def State.bndEdge (s0 s : State) (b clk : Nat) : State :=
  (upTo 32).foldl (fun t h =>
    if s0.get F.HOP_CFG_WR_SRC (32 * b + h) = clk ∧ s0.hopSlave (32 * b + h) = false ∧ s0.hopFabric (32 * b + h) ≠ some true
        ∧ bitOf (s0.get F.BENCH_BND_MODE_HOP_CONST b) h = 1 then
      t.setBnd (32 * b + h) (s0.idleItem (32 * b + h))
    else t) s

/-! ### Edges -/

/-- The up bundle of an enabled port (R82). -/
def State.upBundle (s : State) (b p n port : Nat) : Nat :=
  let c := s.binding b p n port
  let w := [16, 32, 64, 128].getD (bitsOf c 7 2) 16
  (upTo (34 + w)).foldl (fun acc j =>
    acc + b2n (s.wireAt (.mux b (n / 32) (bitsOf c 0 5 + j / 64) (736 + 32 + j % 64))) * 2 ^ j) 0

/-- Memory ports of the bench on clock `clk` latch their bundles (R85). -/
def State.latchPorts (s0 s : State) (b p clk : Nat) : State :=
  (upTo 2048).foldl (fun s i =>
    if s0.portEnabled b p (i / 2) (i % 2) && bitsOf (s0.binding b p (i / 2) (i % 2)) 5 2 == clk then
      { s with planes := { s.planes with
          portIn := mapSet (fun _ => none) s.planes.portIn (2 * (1024 * b) + i) (some (s0.upBundle b p (i / 2) (i % 2))) } }
    else s) s

/-- What the status port captures at an edge of bench clock 0 (R170, R173). -/
def State.statusEdge (s0 s : State) (b : Nat) : State :=
  match s0.activePlane b with
  | some _ => s.set F.BENCH_USER_STAT_VALUE b
      ((upTo 32).foldl (fun acc i => acc + b2n (s0.track b 31 31 (224 + i)) * 2 ^ i) 0)
  | none =>
    if s0.flag F.BENCH_BND_CTL_STAT_CONST b then s.set F.BENCH_USER_STAT_VALUE b (s0.get F.BENCH_USER_CONST_VALUE b)
    else s

/-- SW_REQ and SW_PLANE of the switch cell as the tracks stand: 8·SW_REQ + SW_PLANE (R160). -/
def State.cellTracks (s : State) (b : Nat) : Nat :=
  8 * b2n (s.track b 0 0 255) + 4 * b2n (s.track b 0 0 254) + 2 * b2n (s.track b 0 0 253) + b2n (s.track b 0 0 252)

/-- IMG_DONE and IMG_ERR as the tracks stand: bits 0 and 1 (R171). -/
def State.imgTracks (s : State) (b : Nat) : Nat := b2n (s.track b 31 31 223) + 2 * b2n (s.track b 31 31 222)

/-- What the switch cell and the image events port sample at an edge of bench clock 0 of an online bench, before the edge
changes anything (R154, R160, R171). -/
def State.sampleEdge (s0 s : State) (b : Nat) : State :=
  let v := if s0.online b then some (s0.cellTracks b) else none
  let w := if s0.online b then some (s0.imgTracks b) else none
  { s with planes := { s.planes with
      cellIn := mapSet (fun _ => none) s.planes.cellIn b v
      -- an edge that presents no request of the cell ends the run of R158
      lastRef := if v.getD 0 < 8 then mapSet (fun _ => 0) s.planes.lastRef b 0 else s.planes.lastRef
      imgIn := mapSet (fun _ => none) s.planes.imgIn b w
      -- the sample that this one follows is the previous one (R171)
      imgPrev := match mapGet (fun _ => none) s.planes.imgIn b with
        | some x => mapSet (fun _ => 0) s.planes.imgPrev b x
        | none => s.planes.imgPrev } }

/-- The sample that stands, or the tracks where no clock edge has been played for it. -/
def State.cellSample (s : State) (b : Nat) : Nat := (mapGet (fun _ => none) s.planes.cellIn b).getD (s.cellTracks b)
def State.imgSample (s : State) (b : Nat) : Nat := (mapGet (fun _ => none) s.planes.imgIn b).getD (s.imgTracks b)

/-- The byte that names the source of bench clock j of bench b (R167, R191): that of the active plane; while offline, the
byte that clock 0 kept when the bench went offline (R174). DESIGN CHOICE (log entry 55): R174 keeps clock 0 alone, and bench
clocks 1 to 3 of an offline bench have the byte 0, PLL 0 with DIV 0. -/
def State.clkByte (s : State) (b j : Nat) : Nat :=
  if s.online b then bitsOf (s.reg .BENCH_CLKSRC (8 * b + s.get F.BENCH_PLANE_STAT_ACTIVE b)).toNat (8 * j) 8
  else if j = 0 then mapGet (fun _ => 0) s.planes.parkClk b else 0

/-- Fabric node n = 8c + k clocks its loads: its PLL is locked or it runs from an oscillator, and its output is not held low
(R469, R477). -/
def State.nodeRuns (s : State) (n : Nat) : Bool :=
  !s.flag F.CLK_MON_GATED (8 + n) && (s.flag F.CLK_MON_LOCKED (8 + n) || s.flag F.CLK_MON_ON_FALLBACK (8 + n))

/-- A bench clock that generates edges: its bench is powered, or in INIT (R153), OFF is not set and its node runs (R68,
R191, R469). -/
def State.clkRuns (s : State) (b clk : Nat) : Bool :=
  (s.benchUp b || s.get F.PWR_DOM_STATE (dBench b) == 2) && bitOf (s.clkByte b clk) 7 == 0
    && s.nodeRuns (8 * benchCol b + bitsOf (s.clkByte b clk) 4 3)

/-- Whether the next edge that a bench clock generates reaches its loads (R674): not while the fold pause lasts (R377), nor
where the suppression level in force removes it (R285, R519). -/
def State.edgeActs (s : State) (b clk : Nat) : Bool :=
  s.clkRuns b clk && mapGet (fun _ => 0) s.planes.foldEdges b == 0
    && !edgeSuppressed (mapGet (fun _ => 0) s.clocks.edgeNo (4 * b + clk)) (s.suppr b)

/-- Whether a command that names an edge of a bench clock finds one (R674): the clock runs, no fold pause lasts, and the last
edge that FABRIC_CLOCK_EDGE played for it was not suppressed (log entry 69). -/
def State.edgeSeen (s : State) (b clk : Nat) : Bool :=
  s.clkRuns b clk && mapGet (fun _ => 0) s.planes.foldEdges b == 0 && !mapGet (fun _ => false) s.clocks.gone (4 * b + clk)

/-- A generated edge is numbered, suppressed or not (R285), and one of bench clock 0 counts off the fold pause (R377). -/
def State.countEdge (s0 s : State) (b clk : Nat) : State :=
  if s0.clkRuns b clk then
    let k := mapGet (fun _ => 0) s.clocks.edgeNo (4 * b + clk)
    let n := mapGet (fun _ => 0) s.planes.foldEdges b - (if clk = 0 then 1 else 0)
    { s with
      clocks := { s.clocks with
        edgeNo := mapSet (fun _ => 0) s.clocks.edgeNo (4 * b + clk) ((k + 1) % 16)
        gone := mapSet (fun _ => false) s.clocks.gone (4 * b + clk) (!s0.edgeActs b clk) }
      planes := { s.planes with foldEdges := mapSet (fun _ => 0) s.planes.foldEdges b n } }
  else s

/-- One bench's edge of one of its clocks, the logic read in `s0` (R50, R58, R151). -/
def State.benchEdge (s0 s : State) (b clk : Nat) (late : List (Nat × Nat)) : State :=
  if s0.edgeActs b clk then
    let s1 := match s0.activePlane b with
      | none => s
      | some p =>
        let s1 := (upTo 256).foldl (fun s j => s.setPlaneFrame b p (ffRun + j) (s0.ffFrame s b p clk j late)) s
        let s2 := (upTo 128).foldl (fun s i =>
          if s0.abCfg b p (i / 4) (i % 4) / 2 ^ 14 = clk then s0.abEdge s b p (i / 4) (i % 4) else s) s1
        s0.latchPorts s2 b p clk
    let s2 := s0.bndEdge s1 b clk
    if clk = 0 then s0.sampleEdge (s0.statusEdge s2 b) b else s2
  else s

/-- ASYNC_RESET_ASSERT (R50): the asynchronous reset of LE group g of a sett acts at once. -/
def execAsyncResetAssert (b sx sy g : Nat) (s : State) : Host.Outcome State Fault Refusal :=
  .next (match s.activePlane b with
    | none => s
    | some p =>
      if bitOf (s.ctlWord b p sx sy g) 27 == 1 && s.groupReset b p sx sy g && s.benchUp b then
        (upTo 16).foldl (fun acc i =>
          acc.setRunBits b p ffRun (128 * (32 * sx + sy) + 16 * g + i) 1 (b2n (s.srval b p sx sy (16 * g + i)))) s
      else s)

/-- IMAGE_EVENT (R171): an edge of bench clock 0 samples IMG_DONE and IMG_ERR; a 1 after a 0 raises the event. -/
def execImageEvent (b : Nat) (s : State) : Host.Outcome State Fault Refusal :=
  .next (match s.activePlane b with
    | none => s
    | some _ =>
      if s.edgeSeen b 0 then
        let now := s.imgSample b
        let prev := mapGet (fun _ => 0) s.planes.imgPrev b
        let s1 := { s with planes := { s.planes with
          imgPrev := mapSet (fun _ => 0) s.planes.imgPrev b now
          imgIn := mapSet (fun _ => none) s.planes.imgIn b none } }
        let s2 := if bitOf now 0 = 1 ∧ bitOf prev 0 = 0 then s1.raiseBench b 0 else s1
        if bitOf now 1 = 1 ∧ bitOf prev 1 = 0 then s2.raiseBench b 1 else s2
      else s)

end Sys2Proof.Machine
end

