-- ==== Sys2Proof/Machine/Spoil.lean ====
section
/-!
DEFINITION. The spoil list and repair events (R369, R370, R388, R389).
-/

namespace Sys2Proof.Machine

/-- A repair event: its kind bit in SOURCE 74, PF vector 3, and a Weapel entry whose detail is the spoil ID (R370).
The codes 0x0501 to 0x0509 follow the kind bits (R614). -/
def State.repairEvent (s : State) (bit severity id : Nat) : State :=
  ((s.raise 74 bit).raiseVec 0 3).wlog (0x0501 + bit) 74 severity id

/-- An entry is appended; a full list takes none and raises SPOIL_FULL (R388, R389). -/
def State.spoilAdd (s : State) (type sub id : Nat) : State :=
  if s.nvs.spoil.length < 16384 then
    { s with nvs := { s.nvs with spoil := s.nvs.spoil ++ [⟨type, sub, id, s.time⟩] } }
  else s.repairEvent 8 sevAlert 0

end Sys2Proof.Machine
end

