-- ==== Sys2Proof/Machine/Haul.lean ====
section
/-!
DEFINITION. The haul network's routers (R296 to R361): headers, the address map, routes, link words, the main and the
fallback path, fences, epochs, probes and trace.
-/

namespace Sys2Proof.Machine

/-! ### Headers (R308) -/

def hAddr (h : Nat) : Nat := bitsOf h 0 48
def hDst (h : Nat) : Nat := bitsOf h 48 10
def hSrc (h : Nat) : Nat := bitsOf h 58 10
def hTag (h : Nat) : Nat := bitsOf h 68 12
def hClass (h : Nat) : Nat := bitsOf h 80 2
def hLen (h : Nat) : Nat := bitsOf h 82 12
def hEpoch (h : Nat) : Nat := bitsOf h 94 1
def hOp (h : Nat) : Nat := bitsOf h 95 4
def hStatus (h : Nat) : Nat := bitsOf h 99 4

/-- A header flit (R308). -/
def mkHeader (addr dst src tag cls len epoch op status time : Nat) : Nat :=
  addr % 2 ^ 48 + dst % 2 ^ 10 * 2 ^ 48 + src % 2 ^ 10 * 2 ^ 58 + tag % 2 ^ 12 * 2 ^ 68 + cls % 4 * 2 ^ 80
    + len % 2 ^ 12 * 2 ^ 82 + epoch % 2 * 2 ^ 94 + op % 16 * 2 ^ 95 + status % 16 * 2 ^ 99 + time % 2 ^ 64 * 2 ^ 128

/-- The operations of R310 and the classes of R308. -/
def opRead : Nat := 0
def opWrite : Nat := 1
def opPwrite : Nat := 2
def opRdata : Nat := 8
def opWack : Nat := 9
def clsReq : Nat := 0
def clsRsp : Nat := 1
def clsPst : Nat := 2
def clsMgt : Nat := 3

/-- The status codes of R311. -/
def stOk : Nat := 0
def stPoison : Nat := 1
def stUnmapped : Nat := 2
def stFenced : Nat := 3
def stUnreachable : Nat := 4
def stDenied : Nat := 5
def stMalformed : Nat := 6
def stRefused : Nat := 7
def stTimeout : Nat := 8

/-- Whether an operation is one of R310 and travels in a class of its row. -/
def opMatchesClass (op cls : Nat) : Bool :=
  if op = opRead ∨ op = opWrite then cls == clsReq || cls == clsMgt
  else if op = opPwrite then cls == clsPst || cls == clsMgt
  else if op = opRdata ∨ op = opWack then cls == clsRsp
  else false

/-- Whether a request draws a response (R310). -/
def isNonPosted (op : Nat) : Bool := op == opRead || op == opWrite

/-- Data flits of a byte range (R309). -/
def dataFlits (addr lenM1 : Nat) : Nat := (addr % 64 + lenM1) / 64 + 1

/-- The data flits a packet carries (R310). -/
def packetFlits (op addr lenM1 status : Nat) : Nat :=
  if op = opWrite ∨ op = opPwrite then dataFlits addr lenM1
  else if op = opRdata ∧ status < 2 then dataFlits addr lenM1
  else 0

/-! ### Data flits and items (R309, R325, R676) -/

/-- Items of a transfer's data (R325). -/
def dataItems (addr lenM1 : Nat) : Nat := (addr % 8 + lenM1) / 8 + 1

/-- The data items of a byte range from its flits: the aligned words, bytes outside the range 0, POISON per line (R309,
R325, R676). -/
def itemsOf (addr lenM1 : Nat) (flits : List (Nat × Bool)) : List Nat :=
  (upTo (dataItems addr lenM1)).map fun j =>
    let w := addr / 8 + j
    let f := flits.getD (w / 8 - addr / 64) (0, false)
    let lo := addr - w * 8
    let hi := min 8 (addr + lenM1 + 1 - w * 8)
    let d := bitsOf f.1 (64 * (w % 8) + 8 * lo) (8 * (hi - lo)) * 2 ^ (8 * lo)
    d + b2n f.2 * 2 ^ 64

/-- The data flits of a byte range from its data items, bytes outside the range 0; a line is poisoned when an item of it
is (R309, R325, R676). -/
def flitsOf (addr lenM1 : Nat) (items : List Nat) : List (Nat × Bool) :=
  (upTo (dataFlits addr lenM1)).map fun k =>
    let line := addr / 64 + k
    (upTo (dataItems addr lenM1)).foldl (fun (acc : Nat × Bool) j =>
      let w := addr / 8 + j
      if w / 8 = line then
        let lo := addr - w * 8
        let hi := min 8 (addr + lenM1 + 1 - w * 8)
        let i := items.getD j 0
        (acc.1 + bitsOf i (8 * lo) (8 * (hi - lo)) * 2 ^ (64 * (w % 8) + 8 * lo), acc.2 || bitOf i 64 == 1)
      else acc) (0, false)

/-- The byte enables of word j of a byte range. -/
def rangeBe (addr lenM1 j : Nat) : Nat :=
  let w := addr / 8 + j
  let lo := addr - w * 8
  let hi := min 8 (addr + lenM1 + 1 - w * 8)
  (2 ^ (hi - lo) - 1) * 2 ^ lo

/-- Whether a response packet is one that its requester takes: its OP travels in class RSP, and its data count is complete; one
ended early by a poisoned tail is discarded as malformed (R307, R310). -/
def rspSound (h : Nat) (flits : List (Nat × Bool)) : Bool :=
  opMatchesClass (hOp h) (hClass h) && hClass h == clsRsp
    && flits.length == packetFlits (hOp h) (hAddr h) (hLen h) (hStatus h)

/-- Reserve room of a request (R322). -/
def rspRoom (write : Bool) (addr lenM1 : Nat) : Nat := if write then 1 else dataFlits addr lenM1 + 1

/-! ### End points and the address map (R299 to R303) -/

/-- The end point ID of local port l of router k (R299). -/
def endPointId (k l : Nat) : Nat := routerCol k * 2 ^ 8 + routerRow k * 2 ^ 5 + routerX k * 2 ^ 3 + l
def epCol (id : Nat) : Nat := bitsOf id 8 2
def epRow (id : Nat) : Nat := bitsOf id 5 3
def epX (id : Nat) : Nat := bitsOf id 3 2
def epLocal (id : Nat) : Nat := bitsOf id 0 3
def routerOf (c r x : Nat) : Nat := 20 * c + 4 * r + x

/-- The router and local port of haul port p of bench b (R297). -/
def hportRouter (b p : Nat) : Nat := routerOf (benchCol b) (benchY b + 1) ((benchX b + p) % 4)
def hportId (b p : Nat) : Nat := endPointId (hportRouter b p) p
def memPortId (b : Nat) : Nat := endPointId (routerOf (benchCol b) (benchY b + 1) (benchX b)) 2
def controlPortId (c : Nat) : Nat := endPointId (routerOf c 0 2) 0
def pcieRouter (x : Nat) : Nat := routerOf (3 * x) 0 2
def pcieId (x : Nat) : Nat := endPointId (pcieRouter x) 1
def ddrId (ch : Nat) : Nat := endPointId (routerOf (ch / 2) 0 (ch % 2)) 2

/-- The domain of the end point at local port l of router k (R297, R494); `none` where nothing is attached. The Ethernet
haul ports 0 and 1 of a column serve octet 2c, ports 2 and 3 octet 2c + 1 (log entry 20). -/
def portDomain (k l : Nat) : Option Nat :=
  let c := routerCol k
  let x := routerX k
  if routerRow k ≠ 0 then
    let y := routerRow k - 1
    match l with
    | 0 => some (dBench (16 * c + 4 * y + x))
    | 1 => some (dBench (16 * c + 4 * y + (x + 3) % 4))
    | 2 => some (dMem c)
    | _ => none
  else match x, l with
    | 0, 0 => some (dEth (2 * c))
    | 0, 1 => some (dEth (2 * c))
    | 1, 0 => some (dEth (2 * c + 1))
    | 1, 1 => some (dEth (2 * c + 1))
    | 0, 2 => some (dDdr c)
    | 1, 2 => some (dDdr c)
    | 2, 0 => some 1
    | 2, 1 => if c = 0 then some (dPcie 0) else if c = 3 then some (dPcie 1) else none
    | _, _ => none

/-- Whether local port l of router k is a bridge (R297). -/
def isBridgePort (k l : Nat) : Bool := routerRow k == 0 && routerX k == 3 && decide (l < 2)

/-- The target of a haul address (R300). -/
inductive Target where
  | ddr (ch chAddr : Nat)
  | mem (b off : Nat)
  | window (b off : Nat)
  | device (c off : Nat)
  | mgmt (off : Nat)
  | unmapped
  deriving DecidableEq, Repr

/-- The DDR channel and channel address of a haul address (R302). -/
def State.ddrPlace (s : State) (a : Nat) : Nat × Nat :=
  let g := s.get F.HN_DDR_ILV_G 0
  match s.get F.HN_DDR_ILV_MODE 0 with
  | 1 => (bitsOf a g 3, bitsOf a (g + 3) (36 - g) * 2 ^ g + bitsOf a 0 g)
  | 2 => (2 * bitsOf a 37 2 + bitOf a g, bitsOf a (g + 1) (36 - g) * 2 ^ g + bitsOf a 0 g)
  | _ => (bitsOf a 36 3, bitsOf a 0 36)

/-- The haul address map (R300). -/
def State.haulTarget (s : State) (a : Nat) : Target :=
  if a < 0x8000000000 then let p := s.ddrPlace a; .ddr p.1 p.2
  else if a < 0x010000000000 then .unmapped
  else if a < 0x010400000000 then
    let o := a % 2 ^ 32
    if o < 0x40000000 then .mem (16 * ((a / 2 ^ 32) % 4) + o / 2 ^ 26) (o % 2 ^ 26) else .unmapped
  else if a < 0x020000000000 then .unmapped
  else if a < 0x021000000000 then .window ((a - 0x020000000000) / 2 ^ 30) (a % 2 ^ 30)
  else if a < 0x030000000000 then .unmapped
  else if a < 0x034000000000 then .device ((a - 0x030000000000) / 2 ^ 36) (a % 2 ^ 36)
  else if a < 0x03F000000000 then .unmapped
  else if a < 0x040000000000 then .mgmt (a - 0x03F000000000)
  else .unmapped

/-- The destination end point of a target (R300). -/
def targetId : Target → Nat
  | .ddr ch _ => ddrId ch
  | .mem b _ => memPortId b
  | .window b off => hportId b (bitOf off 24)
  | .device c _ => controlPortId c
  | .mgmt _ => controlPortId 0
  | .unmapped => 0

/-- Whether an address lies in the management range (R303). -/
def inMgmtRange (a : Nat) : Bool := decide (0x03F000000000 ≤ a)

/-- Whether two targets are of one kind and place, so that a byte range lies in one mapped range (R301). -/
def sameTarget : Target → Target → Bool
  | .ddr _ _, .ddr _ _ => true
  | .mem _ _, .mem _ _ => true
  | .window _ _, .window _ _ => true
  | .device _ _, .device _ _ => true
  | .mgmt _, .mgmt _ => true
  | _, _ => false

/-- The status an end point answers a request with before it enters the network, or `none` to let it in: DENIED for a
non-management source in the management range, UNMAPPED for an unmapped range (R301, R303). -/
def State.localStatus (s : State) (mgmtSource : Bool) (addr len : Nat) : Option Nat :=
  if !mgmtSource && (inMgmtRange addr || inMgmtRange (addr + len - 1)) then some stDenied
  else match s.haulTarget addr with
    | .unmapped => some stUnmapped
    | t => if sameTarget t (s.haulTarget (addr + len - 1)) then none else some stUnmapped

/-! ### Routes (R317, R318) -/

/-- The route of R317 for entry e of router k: entries 0..19 the column's routers, 20..22 the columns c XOR 1, 2, 3. -/
def defaultRoute (k e : Nat) : Nat :=
  let x := routerX k
  let r := routerRow k
  if e < 20 then
    let tx := e % 4
    let tr := e / 4
    if x < tx then 1 else if tx < x then 3 else if r < tr then 2 else if tr < r then 0 else 7
  else if x = 3 ∧ r = 0 then (if (e - 19) % 2 = 1 then 4 else 5)
  else if x < 3 then 1 else if 0 < r then 0 else 7

/-- Key of a route table entry. -/
def routeKey (k bank e : Nat) : Nat := 23 * (2 * k + bank) + e

def State.routeEntry (s : State) (k bank e : Nat) : Nat :=
  mapGet (fun i => defaultRoute (i / 46) (i % 23)) s.haul.tables (routeKey k bank e)

def State.setRouteEntry (s : State) (k bank e p : Nat) : State :=
  { s with haul := { s.haul with
      tables := mapSet (fun i => defaultRoute (i / 46) (i % 23)) s.haul.tables (routeKey k bank e) p } }

/-- Whether port p of router k exists: a mesh port that faces a router, or a local port with an attachment (R297). -/
def portPresent (k p : Nat) : Bool :=
  match p with
  | 0 => routerRow k != 0
  | 1 => routerX k != 3
  | 2 => routerRow k != 4
  | 3 => routerX k != 0
  | 4 => hasEndPoint k 0 || isBridgePort k 0
  | 5 => hasEndPoint k 1 || isBridgePort k 1
  | 6 => hasEndPoint k 2
  | _ => false

/-- The output port a head takes at router k (R317); 7 where the entry names NONE. -/
def State.routeOf (s : State) (k h : Nat) : Nat :=
  let d := hDst h
  let c := routerCol k
  if epCol d = c ∧ epRow d = routerRow k ∧ epX d = routerX k then 4 + epLocal d
  else if epCol d = c then s.routeEntry k (hEpoch h) (4 * epRow d + epX d)
  else s.routeEntry k (hEpoch h) (19 + Nat.xor (epCol d) c)

/-- The fence field of local port l of router k (R363): 0 OPEN, 1 CLOSING, 2 CLOSED, 3 absent. -/
def fenceFld (l : Nat) : Fld := if l = 0 then F.HN_FENCE_L0 else if l = 1 then F.HN_FENCE_L1 else F.HN_FENCE_L2

/-- How output p of router k stands to an arriving head: 0 open, 1 closing, 2 closed (R318, R347, R350). -/
def State.outState (s : State) (k p : Nat) : Nat :=
  if !portPresent k p then 2
  else if p < 4 then (if mapGet (fun _ => false) s.haul.closed (7 * k + p) then 2 else 0)
  else min 2 (s.get (fenceFld (p - 4)) k)

/-! ### Probes and trace (R358 to R361) -/

/-- Whether a head matches the probe of router k (R358). -/
def State.probeMatch (s : State) (k h : Nat) : Bool :=
  let av := s.get F.HN_PRB_AVAL_LO_A_VAL_LO k + s.get F.HN_PRB_AVAL_HI_A_VAL_HI k * 2 ^ 32
  let am := s.get F.HN_PRB_AMSK_LO_A_MASK_LO k + s.get F.HN_PRB_AMSK_HI_A_MASK_HI k * 2 ^ 32
  Nat.land (Nat.xor (hAddr h) av) am == 0
    && Nat.land (Nat.xor (hSrc h) (s.get F.HN_PRB_SRC_S_VAL k)) (s.get F.HN_PRB_SRC_S_MASK k) == 0
    && bitOf (s.get F.HN_PRB_TAG_CLASS_EN k) (hClass h) == 1
    && Nat.land (Nat.xor (hTag h) (s.get F.HN_PRB_TAG_T_VAL k)) (s.get F.HN_PRB_TAG_T_MASK k) == 0

/-- By how much counter code `code` rises at a flit of a matching packet (R359); `queued` says that it took the fallback
path. -/
def probeInc (code h : Nat) (head queued : Bool) : Nat :=
  match code with
  | 1 => b2n head
  | 2 => 1
  | 3 => if head && decide (0 < packetFlits (hOp h) (hAddr h) (hLen h) (hStatus h)) then hLen h + 1 else 0
  | 4 => b2n (head && queued)
  | 7 => b2n (head && hStatus h != 0)
  | _ => 0

def probeEvt (i : Nat) : Fld :=
  match i with
  | 0 => F.HN_PRB_EVT_EVT0
  | 1 => F.HN_PRB_EVT_EVT1
  | 2 => F.HN_PRB_EVT_EVT2
  | _ => F.HN_PRB_EVT_EVT3

/-- A trace record (R361). -/
def traceWord (time h k port dir : Nat) (queued poison : Bool) : Nat :=
  time % 2 ^ 64 + hAddr h * 2 ^ 64 + hSrc h * 2 ^ 112 + hDst h * 2 ^ 122 + hTag h * 2 ^ 132 + hClass h * 2 ^ 144
    + hOp h * 2 ^ 146 + hStatus h * 2 ^ 150 + hLen h * 2 ^ 154 + hEpoch h * 2 ^ 166 + b2n queued * 2 ^ 167
    + k % 128 * 2 ^ 168 + port % 8 * 2 ^ 175 + dir % 2 * 2 ^ 178 + b2n poison * 2 ^ 179 + 2 ^ 255

/-- The haul clock of column c in 1/160 cycle a nanosecond (R467, R472, R475): 2.0 GHz from its PLL, 200 MHz on its fallback,
divided by the ramp in progress; none while the output is held low or its PLL has no lock. -/
def State.haulUnits (s : State) (c : Nat) : Nat :=
  let m := 4 + c
  let d := match (mapGet (fun _ => ({} : ClkDom)) s.clocks.doms m).ramp with
    | some r => max 1 r.div
    | none => 1
  if s.flag F.CLK_MON_GATED m then 0
  else if s.flag F.CLK_MON_ON_FALLBACK m then 32 / d
  else if s.flag F.CLK_MON_LOCKED m then 320 / d
  else 0

/-- The 1/160 cycles of column c's haul clock that have passed `ns` from now, a part of a cycle begun before among them. -/
def State.haulPast (s : State) (c ns : Nat) : Nat := mapGet (fun _ => 0) s.clocks.haulPart c + ns * s.haulUnits c

/-- Haul clock cycles of column c that end in the next `ns`. -/
def State.haulCycles (s : State) (c ns : Nat) : Nat := s.haulPast c ns / 160

/-- The part of a cycle that `ns` leaves begun in each column. -/
def State.haulPass (s : State) (ns : Nat) : State :=
  { s with clocks := { s.clocks with
      haulPart := (upTo 4).foldl (fun m c => mapSet (fun _ => 0) m c (s.haulPast c ns % 160)) s.clocks.haulPart } }

/-- The records that stand in column c's queue (R360). -/
def State.trcQueued (s : State) (c : Nat) : Nat := mapGet (fun _ => 0) s.haul.trcQ c

/-- One record leaves the queue of each column in each of its haul clock cycles (R360). -/
def State.traceDrain (s : State) (ns : Nat) : State :=
  { s with haul := { s.haul with
      trcQ := (upTo 4).foldl (fun m c => mapSet (fun _ => 0) m c (s.trcQueued c - s.haulCycles c ns)) s.haul.trcQ } }

/-- One record written to the trace buffer of column c (R360): MODE 0 wraps, MODE 1 stops when full. -/
def State.traceStore (s : State) (c w : Nat) : State :=
  let i := s.get F.HN_TRC_STAT_NEXT c
  let s1 := { s with haul := { s.haul with trace := mapSet (fun _ => 0) s.haul.trace (2048 * c + i) w } }
  let s2 := s1.set F.HN_TRC_STAT_NEXT c ((i + 1) % 2048)
  if i + 1 < 2048 then s2
  else if s.get F.HN_TRC_CTL_MODE c = 0 then s2.set F.HN_TRC_STAT_WRAPPED c 1
  else (s2.set F.HN_TRC_STAT_FULL c 1).set F.HN_TRC_CTL_EN c 0

/-- A record goes through the queue of column c; one that finds it full is lost (R360). -/
def State.traceWrite (s : State) (c w : Nat) : State :=
  let n := s.trcQueued c
  if n < 8 then
    { s with haul := { s.haul with trcQ := mapSet (fun _ => 0) s.haul.trcQ c (n + 1) } }.traceStore c w
  else s.inc F.HN_TRC_STAT_LOST c

/-- Counter code 5: haul clock cycles of the router's column that pass in `ns`, in every probe that runs (R359). -/
def State.probeCycles (s : State) (ns : Nat) : State :=
  let t := s
  (upTo 80).foldl (fun s k =>
    if s.get F.HN_PRB_SEL_RUN k = 1 ∧ s.powered (dHn (routerCol k)) = true then
      (upTo 4).foldl (fun s i =>
        if s.get (probeEvt i) k = 5 then s.incWrap F.HN_PRB_CNT_COUNT (4 * k + i) (t.haulCycles (routerCol k) ns) else s) s
    else s) s

/-- The probe of router k sees a flit of the packet with header h at port p in direction dir (R358 to R360). -/
def State.probe (s : State) (k p dir h : Nat) (head queued poison : Bool) : State :=
  if s.get F.HN_PRB_SEL_PORT k = p ∧ s.get F.HN_PRB_SEL_DIR k = dir ∧ portPresent k p = true
      ∧ s.probeMatch k h = true then
    let s1 := if s.get F.HN_PRB_SEL_RUN k = 1 then
        (upTo 4).foldl (fun s i =>
          s.incWrap F.HN_PRB_CNT_COUNT (4 * k + i) (probeInc (s.get (probeEvt i) k) h head queued)) s
      else s
    if head && s.get F.HN_PRB_SEL_TRACE k == 1 && s.get F.HN_TRC_CTL_EN (routerCol k) == 1 then
      s1.traceWrite (routerCol k) (traceWord s.time h k p dir queued poison)
    else s1
  else s

/-! ### Link words (R304 to R307) -/

/-- A link word's parts after correction: the flit's 512 bits, the sideband, how many corrections, and what was
uncorrectable. -/
structure LinkIn where
  data     : Nat
  side     : Nat
  fixed    : List Nat   -- wires corrected
  badSide  : Bool
  badQ     : List Bool  -- quarters uncorrectable
  deriving DecidableEq, Repr

/-- Decode and correct a 576-bit link word (R306). Wire numbers follow R304. -/
def linkDecode (w : Nat) : LinkIn :=
  let q := fun i => secDecode 8 128 (bitsOf w (128 * i) 128 + bitsOf w (512 + 9 * i) 9 * 2 ^ 128)
  let sb := secDecode 5 22 (bitsOf w 548 22 + bitsOf w 570 6 * 2 ^ 22)
  let wire := fun i (e : EccOut) => if e.bit < 128 then 128 * i + e.bit else 512 + 9 * i + (e.bit - 128)
  let fixed := (upTo 4).filterMap fun i => if (q i).kind = .corrected then some (wire i (q i)) else none
  { data := (q 0).data + (q 1).data * 2 ^ 128 + (q 2).data * 2 ^ 256 + (q 3).data * 2 ^ 384
    side := sb.data
    fixed := fixed ++ (if sb.kind = .corrected then [548 + sb.bit] else [])
    badSide := sb.kind == .bad
    badQ := (upTo 4).map fun i => (q i).kind == .bad }

/-- A link word: flit, quarter check bits, sideband information and its check bits (R304, R306). -/
def linkWord (data side : Nat) : Nat :=
  data % 2 ^ 512
    + (upTo 4).foldl (fun a i => a + secCheck 8 128 (bitsOf data (128 * i) 128) * 2 ^ (512 + 9 * i)) 0
    + side % 2 ^ 22 * 2 ^ 548 + secCheck 5 22 side * 2 ^ 570

/-- The sideband of a flit on channel `vc` whose output at the receiving router is `la` (R305). -/
def flitSide (f : Flit) (vc la : Nat) : Nat :=
  1 + b2n f.head * 2 + b2n f.tail * 4 + vc % 8 * 8 + la % 8 * 64 + b2n f.poison * 512

/-- The sideband of a word that carries no flit and returns one credit of channel `vc` (R305, R313). -/
def creditSide (vc : Nat) : Nat := 2 ^ 10 + vc % 8 * 2 ^ 11

/-- An uncorrectable error at an input: counted and logged (R307). -/
def State.linkBad (s : State) (k port : Nat) : State :=
  (s.inc F.HN_RTR_ECC_UE_CNT k).wlog 0x0401 (96 + k) sevAlert (k + port * 2 ^ 8)

/-- Key of the link received at input `port` of router k; ports 8 to 10 are the inputs of the end points at its local
ports 0 to 2. -/
def linkKey (k port : Nat) : Nat := if port < 7 then 7 * k + port else 560 + 3 * k + (port - 8)

/-- The column whose router receives or feeds the link of a key. -/
def linkColumn (key : Nat) : Nat := (if key < 560 then key / 7 else (key - 560) / 3) / 20

/-- A wire of a link is hard: the receiving end asks for a retrain on the opposite link, and knows a hard spare from then on
(R373, R385). -/
def State.hardWire (s : State) (k port wire : Nat) : State :=
  ({ s with haul := { s.haul with
      badSpare := if wire < 576 then s.haul.badSpare
        else mapSet (fun _ => false) s.haul.badSpare (4 * linkKey k port + (wire - 576)) true
      retrain := mapSet (fun _ => false) s.haul.retrain (linkKey k port) true
      wireHard := mapSet (fun _ => false) s.haul.wireHard (580 * linkKey k port + wire) true } }).emit (.retrain k port)

/-- Corrections counted; a wire corrected 8 times within 2^20 haul clock cycles, 524,288 ns at 2.0 GHz, is hard and its
link asks for a retrain (R306, R373, R385). -/
def State.wireFixed (s : State) (k port wire : Nat) : State :=
  let key := 580 * linkKey k port + wire
  let hits := (s.time :: mapGet (fun _ => []) s.haul.wireHits key).take 8
  let s1 := s.inc F.HN_RTR_ECC_CE_CNT k
  let s2 := { s1 with haul := { s1.haul with wireHits := mapSet (fun _ => []) s1.haul.wireHits key hits } }
  if hits.length = 8 ∧ s.time < hits.getD 7 0 + 524288 then s2.hardWire k port wire else s2

/-- The 4-bit field of an input link in HN_LINK_SPARE (R394). -/
def spareFld (port : Nat) : Fld := ⟨.HN_LINK_SPARE, 4 * port, if port < 7 then 4 else 0⟩

/-- The spares in use on the link received at input `port` of router k, plus 8 once the link is lost (R385, R386, R394);
the links into end points have no register (log entry 70). -/
def State.sparesUsed (s : State) (k port : Nat) : Nat :=
  if port < 7 then s.get (spareFld port) k else mapGet (fun _ => 0) s.haul.epSpare (3 * k + (port - 8))

/-- Whether spare wire n of input `port` of router k is known to be hard (R373). -/
def State.spareKnown (s : State) (k port n : Nat) : Bool :=
  mapGet (fun _ => false) s.haul.badSpare (4 * linkKey k port + n)

/-- The idle check of the 4 spare wires of a link (R373): an idle spare that fails it, and is not yet known
to be hard, is a hard wire. Bits [579:576] of an arriving word say which spares fail; those in use carry data and are not
checked. -/
def State.spareChecks (s : State) (k port w : Nat) : State :=
  (upTo 4).foldl (fun t n =>
    if bitOf w (576 + n) = 1 ∧ s.sparesUsed k port ≤ n ∧ s.spareKnown k port n = false then t.hardWire k port (576 + n)
    else t) s

/-! ### Crossing a router -/

def chKey (k p vc : Nat) : Nat := 8 * (7 * k + p) + vc

def State.queueAt (s : State) (key : Nat) : List QFlit := mapGet (fun _ => []) s.haul.queues key
def State.setQueue (s : State) (key : Nat) (q : List QFlit) : State :=
  { s with haul := { s.haul with queues := mapSet (fun _ => []) s.haul.queues key q } }
def State.openAt (s : State) (key : Nat) : Option OpenPkt := mapGet (fun _ => none) s.haul.opens key
def State.setOpen (s : State) (key : Nat) (x : Option OpenPkt) : State :=
  { s with haul := { s.haul with opens := mapSet (fun _ => none) s.haul.opens key x } }
def State.heldBy (s : State) (key : Nat) : Option Nat := mapGet (fun _ => none) s.haul.held key
def State.setHeld (s : State) (key : Nat) (x : Option Nat) : State :=
  { s with haul := { s.haul with held := mapSet (fun _ => none) s.haul.held key x } }
def State.spentAt (s : State) (key : Nat) : Nat := mapGet (fun _ => 0) s.haul.spent key
def State.setSpent (s : State) (key x : Nat) : State :=
  { s with haul := { s.haul with spent := mapSet (fun _ => 0) s.haul.spent key x } }

/-- Packets of an epoch inside router k, one more or one fewer (R346). -/
def State.insideAdd (s : State) (k epoch : Nat) : State :=
  { s with haul := { s.haul with
      inside := mapSet (fun _ => 0) s.haul.inside (2 * k + epoch)
        (mapGet (fun _ => 0) s.haul.inside (2 * k + epoch) + 1) } }
def State.insideSub (s : State) (k epoch : Nat) : State :=
  { s with haul := { s.haul with
      inside := mapSet (fun _ => 0) s.haul.inside (2 * k + epoch)
        (mapGet (fun _ => 0) s.haul.inside (2 * k + epoch) - 1) } }

/-- Haul port p of bench b (R324). -/
def State.hport (s : State) (b p : Nat) : Hport := mapGet (fun _ => {}) s.hports (2 * b + p)
def State.setHport (s : State) (b p : Nat) (x : Hport) : State :=
  { s with hports := mapSet (fun _ => {}) s.hports (2 * b + p) x }

/-- The credits an output channel starts with (R313): 8 toward a router, 32 toward a bridge queue; an end point grants
its own amount (log entry 21): a bench port one per free 64-byte slot of its receive buffer (R356). -/
def State.creditMax (s : State) (k p : Nat) : Nat :=
  if p < 4 then 8
  else if isBridgePort k (p - 4) then 32
  else match portDomain k (p - 4) with
    | some d =>
      if 33 ≤ d ∧ p < 6 then 2 ^ clampNat 10 14 (s.hport (d - 33) (p - 4)).mode.2 / 64
      else Config.endPointCredits k p
    | none => 0

/-- The channel of a packet of channel vc at port p of router k: VC number 1 of its class on a bridge, whose queue of the
class it feeds, and so from the bridge's receiving end onward (R298, R312). -/
def vcFor (k p vc : Nat) : Nat :=
  if 4 ≤ p ∧ isBridgePort k (p - 4) = true then vc / 2 * 2 + 1 else vc

/-- The receiving end of the link at output p of router k: a neighbour's mesh input, or the bridge input of the column
across (R297). -/
def farEnd (k p : Nat) : Option (Nat × Nat) :=
  let c := routerCol k
  match p with
  | 0 => if routerRow k = 0 then none else some (k - 4, 2)
  | 1 => if routerX k = 3 then none else some (k + 1, 3)
  | 2 => if routerRow k = 4 then none else some (k + 4, 0)
  | 3 => if routerX k = 0 then none else some (k - 1, 1)
  | 4 => if isBridgePort k 0 then some (routerOf (Nat.xor c 1) 0 3, 4) else none
  | 5 => if isBridgePort k 1 then some (routerOf (Nat.xor c 2) 0 3, 5) else none
  | _ => none

/-- The link at output p of router k retrains: nothing is launched on it (R385). -/
def State.linkRetrains (s : State) (k p : Nat) : Bool :=
  match farEnd k p with
  | some e => mapGet (fun _ => false) s.haul.retrain (7 * e.1 + e.2)
  | none => decide (4 ≤ p) && mapGet (fun _ => false) s.haul.retrain (linkKey k (p + 4))

/-- Whether a launch on output channel `okey` by input channel `ikey` is allowed: a head needs a free channel, a body
flit its own, and both a credit (R313, R314). -/
def State.mayLaunch (s : State) (k out okey ikey : Nat) (head : Bool) : Bool :=
  (if head then s.heldBy okey == none else s.heldBy okey == some ikey)
    && decide (s.spentAt okey < s.creditMax k out) && !s.linkRetrains k out

/-- LA_PORT of a flit that router k sends at output p: the output its packet takes at the receiving router, by the sender's
copy of that router's table; 7 toward an end point (R305, R315). A write of HN_RT_ENT_k changes every copy with the table
(R334), so the copies are the table. -/
def State.lookAhead (s : State) (k p h : Nat) : Nat :=
  match farEnd k p with
  | some e => s.routeOf e.1 h
  | none => 7

/-- A credit goes back on the opposite link of input `port` for a flit that has left channel `vc` (R313). Behind a bridge
queue it went back when the flit left that queue. -/
def State.creditBack (s : State) (k port vc : Nat) : State :=
  if 4 ≤ port ∧ isBridgePort k (port - 4) = true then s else s.emit (.link k port (linkWord 0 (creditSide vc)))

/-- The round-robin positions after output channel (out, vc) has served channel `inVc` of input `inPort` (R314). -/
def State.turn (s : State) (k inPort inVc out vc : Nat) (head : Bool) : State :=
  { s with haul := { s.haul with
      rrIn := if head then mapSet (fun _ => 0) s.haul.rrIn (chKey k out vc) ((inPort + 1) % 7) else s.haul.rrIn
      rrCh := mapSet (fun _ => 0) s.haul.rrCh (7 * k + inPort) ((inVc + 1) % 8)
      rrVc := mapSet (fun _ => 0) s.haul.rrVc (7 * k + out) ((vc + 1) % 8) } }

/-- A flit leaves router k on output channel (out, vc): it takes a credit, holds or frees the channel, returns a credit
upstream, and the packet has left the router with its tail (R304, R313, R314, R346). -/
def State.launch (s : State) (k inPort inVc out vc h : Nat) (f : Flit) (queued : Bool) : State :=
  let okey := chKey k out vc
  let s1 := ((s.setSpent okey (s.spentAt okey + 1)).setHeld okey
    (if f.tail then none else some (chKey k inPort inVc))).turn k inPort inVc out vc f.head
  let s2 := ((s1.emit (.link k out (linkWord f.data (flitSide f vc (s.lookAhead k out h))))).creditBack k inPort inVc).probe
    k out 1 h f.head queued f.poison
  if f.tail then s2.insideSub k (hEpoch h) else s2

/-! ### Fences (R347 to R351) -/

/-- The bench haul port at local port l of router k, if it is one. -/
def benchPortAt (k l : Nat) : Option (Nat × Nat) :=
  match portDomain k l with
  | some d => if 33 ≤ d ∧ l < 2 then some (d - 33, l) else none
  | none => none

/-- Whether output `out` of router k is the haul port of a bench that is offline with its domain on: its fence is closed,
and responses still pass it (R349). -/
def State.offlinePort (s : State) (k out : Nat) : Bool :=
  decide (4 ≤ out) && match benchPortAt k (out - 4) with
    | some (b, _) => s.get F.PWR_DOM_STATE (dBench b) == 3 && !s.flag F.BENCH_PLANE_STAT_ONLINE b
        && !s.flag F.HN_RTR_STAT_RETIRED k
    | none => false

/-- Whether a head is stopped at output `out` of router k: at a closed fence, or at a closing one unless it is a response;
a response for an offline bench passes (R349, R351). -/
def State.fenceStops (s : State) (k out h : Nat) : Bool :=
  let st := s.outState k out
  (st == 1 && hClass h != clsRsp) || (st == 2 && !(hClass h == clsRsp && s.offlinePort k out))

/-- A response that a router synthesises at a fence, stamped with CUR (R342, R351). A head that names no end point is
answered in the name of its destination. -/
def State.fenceResponse (s : State) (k h out : Nat) : Nat :=
  let src := if 4 ≤ out ∧ out < 7 then endPointId k (out - 4) else hDst h
  mkHeader (hAddr h) (hSrc h) src (hTag h) clsRsp (hLen h) (s.get F.HN_EPOCH_STAT_CUR 0)
    (if hOp h = opRead then opRdata else opWack) stUnreachable s.time

/-- The first synthesised response of router k leaves on the RSP channel of its output once that channel holds no packet
and has a credit (R314, R351); at a fence that stops it it is discarded. -/
def State.synthSend (s : State) (k : Nat) : State :=
  match mapGet (fun _ => []) s.haul.synth k with
  | [] => s
  | h :: rest =>
    let out := s.routeOf k h
    let ovc := vcFor k out 2
    let okey := chKey k out ovc
    let s1 := { s with haul := { s.haul with synth := mapSet (fun _ => []) s.haul.synth k rest } }
    if s.fenceStops k out h then s1.inc F.HN_DARK_DARK_DROP k
    else if s.mayLaunch k out okey okey true then
      let f : Flit := ⟨h, true, true, false⟩
      ((s1.setSpent okey (s.spentAt okey + 1)).emit (.link k out (linkWord h (flitSide f ovc (s.lookAhead k out h))))).probe
        k out 1 h true false false
    else s

/-- A packet's tail has been consumed at a fence (R351). -/
def State.fenceTail (s : State) (k h out : Nat) : State :=
  if hClass h ≠ clsRsp ∧ isNonPosted (hOp h) = true then
    let s1 := s.inc F.HN_DARK_UNREACH k
    let l := mapGet (fun _ => []) s1.haul.synth k ++ [s.fenceResponse k h out]
    { s1 with haul := { s1.haul with synth := mapSet (fun _ => []) s1.haul.synth k l } }.synthSend k
  else s.inc F.HN_DARK_DARK_DROP k

/-- What router k does with a head: discard after an uncorrectable header quarter 0, answer at a fence, else forward.
A response passes a CLOSING fence (R351). -/
def State.headMode (s : State) (k vc h : Nat) (bad0 : Bool) : PktMode :=
  let out := s.routeOf k h
  if bad0 then .drop
  else if s.fenceStops k out h then .answer out else .pass out (vcFor k out vc)

/-- What the calibrator last found of the main path of router k (R316). -/
def State.setSound (s : State) (k : Nat) (x : Bool) : State :=
  { s with haul := { s.haul with sound := mapSet (fun _ => false) s.haul.sound k x } }

/-- An HN_RTR_CTL_k write (R316, R335): setting FORCE_QUEUED starts queued mode; clearing it ends queued mode only after a
sound test. -/
def State.rtrCtlWrite (s : State) (k : Nat) (v : Word) : State :=
  let s1 := s.plainWrite .HN_RTR_CTL k v
  if fldOf F.HN_RTR_CTL_FORCE_QUEUED v = 1 then
    if s.flag F.HN_RTR_CTL_FORCE_QUEUED k then s1 else (s1.set F.HN_RTR_STAT_QUEUED k 1).setSound k false
  else if s.flag F.HN_RTR_CTL_FORCE_QUEUED k && mapGet (fun _ => false) s.haul.sound k then s1.set F.HN_RTR_STAT_QUEUED k 0
  else s1

/-- A bypass fault (R316). -/
def State.bypassFault (s : State) (k : Nat) : State :=
  ((((s.set F.HN_RTR_STAT_BYP_FAULT k 1).set F.HN_RTR_STAT_QUEUED k 1).setSound k false).raiseVec 0 3).wlog 0x0402 (96 + k)
    sevNotice k

/-- Whether any queued flit of router k waits at the front of its queue for output `out` (R315). -/
def State.queuedFor (s : State) (k out : Nat) : Bool :=
  (upTo 56).any fun j => match (s.queueAt (56 * k + j)).head? with
    | some q => q.out == out
    | none => false

/-- Whether a flit takes the main path (R315). -/
def State.mainPath (s : State) (k port vc out ovc : Nat) (head agree : Bool) : Bool :=
  let ikey := chKey k port vc
  agree && s.get F.HN_RTR_STAT_QUEUED k == 0 && s.get F.HN_RTR_CTL_FORCE_QUEUED k == 0 && (s.queueAt ikey).isEmpty
    && !s.queuedFor k out && s.mayLaunch k out (chKey k out ovc) ikey head

/-- A flit whose packet is open goes by the main path when the conditions of R315 hold, else into its input queue. That
queue has room for it: its sender holds a credit count of the queue's 8 flits (R313). -/
def State.moveFlit (s : State) (k port vc out ovc h : Nat) (f : Flit) (agree : Bool) : State :=
  let ikey := chKey k port vc
  if s.mainPath k port vc out ovc f.head agree then s.launch k port vc out ovc h f false
  else s.setQueue ikey (s.queueAt ikey ++ [⟨f, out, ovc, h⟩])

/-- A flit of an open packet is handled under the packet's mode; with the tail the packet is no longer open here. -/
def State.flitIn (s : State) (k port vc : Nat) (p : OpenPkt) (f : Flit) (agree : Bool) : State :=
  let s1 := match p.mode with
    | .pass out ovc => s.moveFlit k port vc out ovc p.hdr f agree
    | .drop => if f.tail then (s.creditBack k port vc).insideSub k (hEpoch p.hdr) else s.creditBack k port vc
    | .answer out =>
      if f.tail then ((s.creditBack k port vc).fenceTail k p.hdr out).insideSub k (hEpoch p.hdr)
      else s.creditBack k port vc
  if f.tail then s1.setOpen (chKey k port vc) none else s1

/-- A head enters router k (R307, R315 to R318). -/
def State.headIn (s : State) (k port vc la : Nat) (f : Flit) (bad0 bad1 : Bool) : State :=
  let h := if bad1 then putBits f.data 128 64 0 else f.data
  let mode := s.headMode k vc h bad0
  let p : OpenPkt := ⟨h, mode⟩
  let agree := la == s.routeOf k h
  let s1 := (s.setOpen (chKey k port vc) (some p)).insideAdd k (hEpoch h)
  let s2 := if bad0 || agree then s1 else s1.bypassFault k
  let queued := match mode with
    | .pass out ovc => !s2.mainPath k port vc out ovc true agree
    | _ => false
  (s2.probe k port 0 h true queued f.poison).flitIn k port vc p { f with data := h } agree

/-- A body flit enters router k: an uncorrectable quarter poisons it (R307). -/
def State.bodyIn (s : State) (k port vc : Nat) (f : Flit) : State :=
  match s.openAt (chKey k port vc) with
  | none => s.creditBack k port vc
  | some p => (s.probe k port 0 p.hdr false false f.poison).flitIn k port vc p f true

/-- The credit that a word returns for the opposite link (R305, R313). -/
def State.creditIn (s : State) (k port side : Nat) : State :=
  if bitOf side 10 = 1 then
    let key := chKey k port (bitsOf side 11 3)
    s.setSpent key (s.spentAt key - 1)
  else s

/-- The flit of a link word enters router k (R304 to R318). -/
def State.wordIn (s : State) (k port : Nat) (l : LinkIn) : State :=
  let head := bitOf l.side 1 == 1
  let bad := l.badQ.any id
  let s1 := l.badQ.foldl (fun s b => if b then s.linkBad k port else s) s
  let f : Flit := ⟨l.data, head, bitOf l.side 2 == 1, bitOf l.side 9 == 1 || (bad && !head)⟩
  let vc := vcFor k port (bitsOf l.side 3 3)
  if head then s1.headIn k port vc (bitsOf l.side 6 3) f (l.badQ.getD 0 false) (l.badQ.getD 1 false)
  else s1.bodyIn k port vc f

/-! ### Bridge queues (R298) -/

/-- The words that wait in the bridge queue ahead of an input channel. -/
def State.bridgeAt (s : State) (key : Nat) : List Nat := mapGet (fun _ => []) s.haul.bridgeQ key
def State.setBridge (s : State) (key : Nat) (l : List Nat) : State :=
  { s with haul := { s.haul with bridgeQ := mapSet (fun _ => []) s.haul.bridgeQ key l } }

/-- The oldest word of a bridge queue's channel crosses into the router's input while that channel's queue of 8 flits has
room, and its credit goes back over the bridge (R298, R313). -/
def State.bridgeStep (s : State) (k port vc : Nat) : State :=
  let key := chKey k port vc
  match s.bridgeAt key with
  | [] => s
  | w :: rest =>
    if (s.queueAt key).length < 8 then
      (((s.setBridge key rest).emit (.link k port (linkWord 0 (creditSide vc))))).wordIn k port (linkDecode w)
    else s

/-- What waits in the bridge queues of router k moves as far as it can; the queue of each class holds 32 words at most. -/
def State.bridgeMove (s : State) (k : Nat) : State :=
  [4, 5].foldl (fun s port =>
    if isBridgePort k (port - 4) then
      (upTo 8).foldl (fun s vc => (upTo (s.bridgeAt (chKey k port vc)).length).foldl (fun s _ => s.bridgeStep k port vc) s) s
    else s) s

/-- The words with heads of packets of epoch e that wait in the bridge queues of router k (R346). -/
def State.bridgeHeads (s : State) (k e : Nat) : Nat :=
  (upTo 16).foldl (fun n i => n + ((s.bridgeAt (chKey k (4 + i / 8) (i % 8))).filter fun w =>
    bitOf (linkDecode w).side 1 == 1 && hEpoch (linkDecode w).data == e).length) 0

/-- The substitute tail that ends the packet open on channel vc of an input, with POISON (R307): behind the words of the
packet that wait in a bridge queue, else at once. -/
def State.substTail (s : State) (k port vc : Nat) : State :=
  let key := chKey k port vc
  match (s.bridgeAt key).getLast? with
  | some w =>
    if bitOf (linkDecode w).side 2 = 1 then s
    else s.setBridge key (s.bridgeAt key ++ [linkWord 0 (flitSide ⟨0, false, true, true⟩ vc 0)])
  | none => match s.openAt key with
    | none => s
    | some p => s.flitIn k port vc p ⟨0, false, true, true⟩ true

/-- An uncorrectable sideband: the word is lost, the link retrains, and every packet open on the input ends downstream
with a poisoned tail (R307). -/
def State.badSideband (s : State) (k port : Nat) : State :=
  let s1 := (({ s with haul := { s.haul with
      retrain := mapSet (fun _ => false) s.haul.retrain (linkKey k port) true } }).emit (.retrain k port)).linkBad k port
  (upTo 8).foldl (fun s vc => s.substTail k port vc) s1

/-! ### End points: injection (R313, R315, R342) -/

def State.injAt (s : State) (e : Nat) : List InjPkt := mapGet (fun _ => []) s.haul.inj e
def State.setInj (s : State) (e : Nat) (l : List InjPkt) : State :=
  { s with haul := { s.haul with inj := mapSet (fun _ => []) s.haul.inj e l } }
def State.epSpentAt (s : State) (key : Nat) : Nat := mapGet (fun _ => 0) s.haul.epSpent key
def State.setEpSpent (s : State) (key x : Nat) : State :=
  { s with haul := { s.haul with epSpent := mapSet (fun _ => 0) s.haul.epSpent key x } }

/-- The header as it enters the network: EPOCH and INJ_TIME stamped (R308, R342). -/
def State.stampHdr (s : State) (h : Nat) : Nat :=
  putBits (putBits h 94 1 (s.get F.HN_EPOCH_STAT_CUR 0)) 128 64 (s.time % 2 ^ 64)

/-- The link word of one flit that the end point at local port l of router k injects on channel vc: LA_PORT by its copy of
the router's table (R315). -/
def State.injWord (s : State) (k vc h : Nat) (f : Flit) : Nat := linkWord f.data (flitSide f vc (s.routeOf k h))

/-- One flit of packet p is injected; answers what is left of the packet. -/
def State.injFlit (s : State) (k l : Nat) (p : InjPkt) : Option InjPkt × State :=
  let key := 8 * (3 * k + l) + p.vc
  let s1 := s.setEpSpent key (s.epSpentAt key + 1)
  if p.head then
    let h := s.stampHdr p.hdr
    (if p.data.isEmpty then none else some { p with hdr := h, head := false },
      s1.emit (.inject k l (s.injWord k p.vc h ⟨h, true, p.data.isEmpty, false⟩)))
  else match p.data with
    | [] => (none, s)
    | d :: rest =>
      (if rest.isEmpty then none else some { p with data := rest },
        s1.emit (.inject k l (s.injWord k p.vc p.hdr ⟨d.1 % 2 ^ 512, false, rest.isEmpty, d.2⟩)))

/-- The link from the end point at local port l of router k takes words: it does not retrain and is not lost (R385,
R386). -/
def State.injOpen (s : State) (k l : Nat) : Bool :=
  !mapGet (fun _ => false) s.haul.retrain (linkKey k (4 + l)) && decide (s.sparesUsed k (4 + l) < 8)

/-- Packet p goes on while the channel has credits of the router input's 8 and the link takes words (R313, R385, R386). -/
def State.injRun (s : State) (k l : Nat) : Nat → InjPkt → Option InjPkt × State
  | 0, p => (some p, s)
  | fuel + 1, p =>
    if s.epSpentAt (8 * (3 * k + l) + p.vc) < 8 ∧ s.injOpen k l = true then
      match s.injFlit k l p with
      | (none, s1) => (none, s1)
      | (some q, s1) => s1.injRun k l fuel q
    else (some p, s)

/-- The packets that the end point at local port l of router k injects go on, in order on each channel (R314, R319). -/
def State.injMove (s : State) (k l : Nat) : State :=
  let r := (s.injAt (3 * k + l)).foldl (fun (acc : List InjPkt × State) p =>
    if acc.1.any fun q => q.vc == p.vc then (acc.1 ++ [p], acc.2)
    else match acc.2.injRun k l 66 p with
      | (none, t) => (acc.1, t)
      | (some q, t) => (acc.1 ++ [q], t)) ([], s)
  r.2.setInj (3 * k + l) r.1

/-- End point `id` injects a packet with header h on VC number 0 of its class (R312). -/
def State.inject (s : State) (id h : Nat) (data : List (Nat × Bool)) : State :=
  let k := routerOf (epCol id) (epRow id) (epX id)
  let l := epLocal id
  (s.setInj (3 * k + l) (s.injAt (3 * k + l) ++ [{ vc := 2 * hClass h, hdr := h, data := data }])).injMove k l

/-- Whether a packet of class `cls` of end point `id` can enter the network now: none of its class is still being injected
and its channel has a credit (R313, R314). -/
def State.injReady (s : State) (id cls : Nat) : Bool :=
  let e := 3 * routerOf (epCol id) (epRow id) (epX id) + epLocal id
  !((s.injAt e).any fun q => q.vc == 2 * cls) && decide (s.epSpentAt (8 * e + 2 * cls) < 8)

/-- The head of a response for a request of a bench port: that request is no longer timed out (R354). -/
def State.headArrives (s : State) (k l : Nat) (x : LinkIn) : State :=
  match benchPortAt k l with
  | none => s
  | some (b, p) =>
    let t : PortTag := mapGet (fun _ => {}) (s.hport b p).tags (hTag x.data % 2 ^ 9)
    if bitOf x.side 1 = 1 ∧ x.badQ.getD 0 false = false ∧ hClass x.data = clsRsp ∧ t.gen = hTag x.data / 2 ^ 9 then
      s.setHport b p { s.hport b p with
        tags := mapSet (fun _ => {}) (s.hport b p).tags (hTag x.data % 2 ^ 9)
          { t with req := t.req.map fun (q : PortReq) => { q with arrived := q.inj.isSome } } }
    else s

/-- A link word at the input of the end point at local port l of router k: decoded and counted as at a router input; the
flit is accepted and its credit returned, a returned credit lets the end point inject on (R306, R307, R313). What the
words of a packet say to the end point is the command of that end point. -/
def State.endPointIn (s : State) (k l : Nat) (x : LinkIn) : State :=
  if x.badSide then
    (({ s with haul := { s.haul with
      retrain := mapSet (fun _ => false) s.haul.retrain (linkKey k (l + 8)) true } }).emit (.retrain k (l + 8))).linkBad k (l + 8)
  else
    let s1 := if bitOf x.side 10 = 1 then
        let key := 8 * (3 * k + l) + bitsOf x.side 11 3
        (s.setEpSpent key (s.epSpentAt key - 1)).injMove k l
      else s
    if bitOf x.side 0 = 0 then s1
    else
      let s2 := x.badQ.foldl (fun s b => if b then s.linkBad k (l + 8) else s) (s1.headArrives k l x)
      s2.emit (.inject k l (linkWord 0 (creditSide (bitsOf x.side 3 3))))

/-! ### Arrivals and departures -/

/-- A link word arrives at input `port` of router k; over a bridge it passes the bridge queue (R298, R304 to R318). Ports 8
to 10 are the inputs of the end points at local ports 0 to 2. A lost link is as good as absent (R386). -/
def State.flitArrival (s : State) (k port w : Nat) : State :=
  if k < 80 ∧ s.powered (dHn (routerCol k)) = true ∧ s.flag F.HN_RTR_STAT_RETIRED k = false ∧ s.floorReset = 0
      ∧ s.sparesUsed k port < 8 then
    let l := linkDecode w
    let s1 := l.fixed.foldl (fun s i => s.wireFixed k port i) s
    if 8 ≤ port then (if hasEndPoint k (port - 8) = true then (s1.spareChecks k port w).endPointIn k (port - 8) l else s)
    else if portPresent k port = false then s
    else if l.badSide then (s1.spareChecks k port w).badSideband k port
    else
      let s2 := (s1.spareChecks k port w).creditIn k port l.side
      if bitOf l.side 0 = 0 then s2
      else if 4 ≤ port ∧ isBridgePort k (port - 4) = true then
        let key := chKey k port (vcFor k port (bitsOf l.side 3 3))
        (s2.setBridge key (s2.bridgeAt key ++ [w])).bridgeMove k
      else s2.wordIn k port l
  else s

/-- FLIT_ARRIVAL (R304 to R318). -/
def execFlitArrival (k port w : Nat) (s : State) : Host.Outcome State Fault Refusal := .next (s.flitArrival k port w)

/-- A head at the front of input channel j, with what of its packet has come in behind it, is stopped by a fence that closed
after it entered the router: it has not passed the fence, so the packet is answered (R348, R351). -/
def State.refuseFront (s : State) (j : Nat) : State :=
  let k := j / 56
  match s.queueAt j with
  | [] => s
  | q :: _ =>
    if q.flit.head && s.fenceStops k q.out q.hdr then
      let l := s.queueAt j
      let n := match l.findIdx? fun x => x.flit.tail with
        | some i => i + 1
        | none => l.length
      let okey := chKey k q.out q.vc
      let s1 := s.setQueue j (l.drop n)
      let s2 := if s.heldBy okey == some j then s1.setHeld okey none else s1
      let s3 := (upTo n).foldl (fun s _ => s.creditBack k (j / 8 % 7) (j % 8)) s2
      if l.any fun x => x.flit.tail then (s3.fenceTail k q.hdr q.out).insideSub k (hEpoch q.hdr)
      else s3.setOpen j (some ⟨q.hdr, .answer q.out⟩)
    else s

/-- Heads at the front of input queues of router k take free channels of output `out`: round-robin by input, and within an
input by its channels (R314). -/
def State.allocHeads (s : State) (k out : Nat) : State :=
  (upTo 8).foldl (fun s ovc =>
    let okey := chKey k out ovc
    if s.heldBy okey = none then
      let start := mapGet (fun _ => 0) s.haul.rrIn okey
      let ins := (upTo 56).map fun i =>
        let p := (start + i / 8) % 7
        8 * p + (mapGet (fun _ => 0) s.haul.rrCh (7 * k + p) + i) % 8
      match ins.find? fun j => match (s.queueAt (56 * k + j)).head? with
          | some q => q.flit.head && q.out == out && q.vc == ovc
          | none => false with
      | some j => s.setHeld okey (some (56 * k + j))
      | none => s
    else s) s

/-- The channel of output `out` that a link cycle serves: round-robin over held channels with a flit ready and a credit
(R314). -/
def State.pickVc (s : State) (k out : Nat) : Option (Nat × Nat) :=
  let start := mapGet (fun _ => 0) s.haul.rrVc (7 * k + out)
  ((upTo 8).map fun i => (start + i) % 8).findSome? fun ovc =>
    match s.heldBy (chKey k out ovc) with
    | some j =>
      match (s.queueAt j).head? with
      | some q => if q.out = out ∧ q.vc = ovc ∧ s.spentAt (chKey k out ovc) < s.creditMax k out ∧ s.linkRetrains k out = false then some (ovc, j) else none
      | none => none
    | none => none

/-- Counter code 6: a cycle in which a flit of a matching packet waits for credit at output `out` (R359). -/
def State.probeWait (s : State) (k out : Nat) : State :=
  let waits := (upTo 56).any fun j => match (s.queueAt (56 * k + j)).head? with
    | some q => q.out == out && s.heldBy (chKey k out q.vc) == some (56 * k + j)
        && decide (s.creditMax k out ≤ s.spentAt (chKey k out q.vc)) && s.probeMatch k q.hdr
    | none => false
  if waits && s.get F.HN_PRB_SEL_PORT k == out && s.get F.HN_PRB_SEL_DIR k == 1 && s.get F.HN_PRB_SEL_RUN k == 1 then
    (upTo 4).foldl (fun s i => if s.get (probeEvt i) k = 6 then s.incWrap F.HN_PRB_CNT_COUNT (4 * k + i) 1 else s) s
  else s

/-- FLIT_FALLBACK_DEPART (R314, R315): in one link cycle of output `out`, a queued flit leaves when its channel and a
credit allow. Heads that a fence now stops are answered first, and what waits behind moves up. -/
def State.fallbackDepart (s : State) (k out : Nat) : State :=
  if k < 80 ∧ portPresent k out = true ∧ s.powered (dHn (routerCol k)) = true ∧ s.floorReset = 0 then
    let s0 := (upTo 56).foldl (fun s j => s.refuseFront (56 * k + j)) (s.synthSend k)
    let s1 := (s0.allocHeads k out).probeWait k out
    match s1.pickVc k out with
    | none => s1.bridgeMove k
    | some (ovc, j) =>
      match s1.queueAt j with
      | [] => s1
      | q :: rest => ((s1.setQueue j rest).launch k (j / 8 % 7) (j % 8) out ovc q.hdr q.flit true).bridgeMove k
  else s

def execFlitFallbackDepart (k out : Nat) (s : State) : Host.Outcome State Fault Refusal := .next (s.fallbackDepart k out)

/-! ### Epochs and routes in service (R342 to R346) -/

/-- An HN_RT_ENT write by the selection of HN_RT_SEL (R334, R343): refused with RT_ERR in bank CUR or while draining;
above entry 22 ignored. -/
def State.rtEntWrite (s : State) (k : Nat) (v : Word) : State :=
  let bank := s.get F.HN_RT_SEL_BANK k
  let e := s.get F.HN_RT_SEL_DEST k
  if 22 < e then s
  else if bank = s.get F.HN_EPOCH_STAT_CUR 0 ∨ s.get F.HN_EPOCH_STAT_DRAINING 0 = 1 then
    s.set F.HN_EPOCH_STAT_RT_ERR 0 1
  else s.setRouteEntry k bank e (fldOf F.HN_RT_ENT_PORT v)

def execRtEntWrite (src : Src) (k : Nat) (v : Word) (s : State) : Host.Outcome State Fault Refusal :=
  .next (if s.mayWrite src .HN_RT_ENT k then s.rtEntWrite k v else s)

/-- FLIP (R344). -/
def State.epochFlip (s : State) : State :=
  if s.get F.HN_EPOCH_STAT_DRAINING 0 = 1 then s.set F.HN_EPOCH_STAT_FLIP_ERR 0 1
  else { s.set F.HN_EPOCH_STAT_DRAINING 0 1 with haul := { s.haul with flipTime := s.time, drainTmo := false } }

def execEpochFlip (src : Src) (v : Word) (s : State) : Host.Outcome State Fault Refusal :=
  .next (if s.mayWrite src .HN_EPOCH_CTL 0 && fldOf F.HN_EPOCH_CTL_FLIP v == 1 then s.epochFlip else s)

/-- Whether an output or an end point's injection has a credit out: a packet is on its way to a router or end point input, or
in its queue (R313). After the 200 µs of R345 a credit that is still out belongs to a word that was lost (R307), and no
longer counts. -/
def State.creditsOut (s : State) : Bool :=
  !s.haul.drainTmo && ((s.haul.spent.any fun x => x.2 != 0) || s.haul.epSpent.any fun x => x.2 != 0)

/-- Whether some router, link, bridge queue or injecting end point still holds a packet of epoch e (R344 step 3). While the
drain runs no packet of the other epoch exists (R344), so what is on a link is of epoch e. -/
def State.epochInside (s : State) (e : Nat) : Bool :=
  (s.haul.inside.any fun x => x.1 % 2 == e && x.2 != 0) || s.creditsOut || s.haul.inj.any (fun x => !x.2.isEmpty)
    || s.haul.bridgeQ.any (fun x => !x.2.isEmpty) || s.haul.synth.any fun x => !x.2.isEmpty

/-- Whether some end point still owes the response to a request of epoch e (R344 step 3): a bench port, or a memory port. A
DDR channel and a control port answer a request when they take it. -/
def State.epochOwed (s : State) (e : Nat) : Bool :=
  (s.hports.any fun (x : Nat × Hport) =>
    (x.2.pend.any fun q => q.epoch == e) || !(mapGet (fun _ => []) x.2.wait 1).isEmpty)
  || s.memt.reqs.any fun (x : Nat × List MemReq) => x.2.any fun r => hEpoch r.hdr == e && isNonPosted (hOp r.hdr)

/-- DRAIN_COMPLETE (R344 step 4): CUR becomes the other epoch, DRAINING clears and LAST_DRAIN_US is recorded. -/
def State.drainComplete (s : State) : State :=
  let e := s.get F.HN_EPOCH_STAT_CUR 0
  if s.get F.HN_EPOCH_STAT_DRAINING 0 = 1 ∧ s.epochInside e = false ∧ s.epochOwed e = false then
    ((s.set F.HN_EPOCH_STAT_CUR 0 (1 - e)).set F.HN_EPOCH_STAT_DRAINING 0 0).set F.HN_EPOCH_STAT_LAST_DRAIN_US 0
      (min 0xFFFF ((s.time - s.haul.flipTime) / 1000))
  else s

/-! ### Trace and fences -/

/-- CLEAR in HN_TRC_CTL_c: VALID 0 in every record and NEXT 0; the buffer has not wrapped since (R368). -/
def State.traceClear (s : State) (c : Nat) : State :=
  let s1 := { s with haul := { s.haul with
      trace := mapUpd (fun _ => 0) (fun k x => if k / 2048 = c then putBits x 255 1 0 else x) s.haul.trace } }
  ((s1.set F.HN_TRC_STAT_NEXT c 0).set F.HN_TRC_STAT_WRAPPED c 0).set F.HN_TRC_STAT_FULL c 0

/-- TRACE_CLEAR (R368): a write of HN_TRC_CTL_c. -/
def execTraceClear (src : Src) (c : Nat) (v : Word) (s : State) : Host.Outcome State Fault Refusal :=
  .next (if s.mayWrite src .HN_TRC_CTL c then
    let s1 := s.plainWrite .HN_TRC_CTL c v
    if fldOf F.HN_TRC_CTL_CLEAR v = 1 then s1.traceClear c else s1
    else s)

/-- The fence of local port l of router k in a state (R347); one that is permanently out stays closed (R369). -/
def State.setFence (s : State) (k l st : Nat) : State :=
  if hasEndPoint k l || isBridgePort k l then
    s.set (fenceFld l) k (if mapGet (fun _ => false) s.haul.dead (3 * k + l) then 2 else st)
  else s

/-- A local port is permanently out (R369, R386, R387). -/
def State.portDead (s : State) (k l : Nat) : State :=
  ({ s with haul := { s.haul with dead := mapSet (fun _ => false) s.haul.dead (3 * k + l) true } }).setFence k l 2

/-- The local ports, as (router, port), whose end point lies in domain d. -/
def domainPorts (d : Nat) : List (Nat × Nat) :=
  ((upTo 240).map fun i => (i / 3, i % 3)).filter fun (e : Nat × Nat) => portDomain e.1 e.2 == some d

/-- Every fence of a domain's end points in one state (R348). -/
def State.setDomainFences (s : State) (d st : Nat) : State :=
  (domainPorts d).foldl (fun s e => s.setFence e.1 e.2 st) s

/-- The bridge ports of a column that face column c' (R297): L0 of router (3, 0) leads to c XOR 1, L1 to c XOR 2. -/
def State.setBridgeFences (s : State) (st : Nat) : State :=
  (upTo 4).foldl (fun s c => (s.setFence (routerOf c 0 3) 0 st).setFence (routerOf c 0 3) 1 st) s

/-- A bench's haul ports close at its offline edge and open at its online edge (R349). -/
def State.setBenchFences (s : State) (b st : Nat) : State :=
  let s1 := (s.setFence (hportRouter b 0) 0 st).setFence (hportRouter b 1) 1 st
  (s1.set F.BENCH_HPORT_STAT_FENCED (2 * b) (b2n (st != 0))).set F.BENCH_HPORT_STAT_FENCED (2 * b + 1) (b2n (st != 0))

/-- Step 1 of R348: the open fences of a domain's end points go CLOSING at T0. Those of a bench have been CLOSED since its
offline edge (R349), and the step waits for what they admitted before. -/
def State.closeDomainFences (s : State) (d : Nat) : State :=
  (domainPorts d).foldl (fun s (e : Nat × Nat) =>
    let s1 := if s.get (fenceFld e.2) e.1 = 0 then s.setFence e.1 e.2 1 else s
    { s1 with haul := { s1.haul with
        closing := mapSet (fun _ => 0) s1.haul.closing (3 * e.1 + e.2) s1.time
        fenceWait := mapSet (fun _ => false) s1.haul.fenceWait (3 * e.1 + e.2) (decide (33 ≤ d)) } }) s

/-- The fence of local port l of router k is in steps 2 and 3 of R348. -/
def State.fenceRuns (s : State) (k l : Nat) : Bool :=
  s.get (fenceFld l) k == 1 || mapGet (fun _ => false) s.haul.fenceWait (3 * k + l)

end Sys2Proof.Machine
end

