-- ==== Sys2Proof/Machine/Switch.lean ====
section
/-!
DEFINITION. Plane switching (R154 to R196): requests, refusals, losses, the surge guard, the switch edge, the plane
schedule and the clock-source and surge registers.
-/

namespace Sys2Proof.Machine

/-! ### Events and records -/

/-- A plane event (R187). -/
def State.planeEvt (s : State) (b : Nat) (f : Fld) : State :=
  let s1 := s.set f b 1
  if bitOf (s.get F.BENCH_PLANE_EVT_EN_EN b) f.lo = 1 then s1.raiseBench b 2 else s1

/-- LAST_SRC coding (R183). -/
def reqSrc (r : PlaneReq) : Nat :=
  match r.cmd with
  | .switch => match r.by_ with
    | .fabric => 0
    | .host => 1
    | .sched => 2
    | .device => 1
  | _ => 3

/-- REF_REASON codes (R183). -/
def rfNotReady : Nat := 0
def rfOffline : Nat := 1
def rfNotLeader : Nat := 2
def rfHostBusy : Nat := 3
def rfState : Nat := 4

/-- The request that the switch cell's last edge refused, for runs of consecutive edges; 0 none (R158). -/
def State.setLastRef (s : State) (b key : Nat) : State :=
  { s with planes := { s.planes with lastRef := mapSet (fun _ => 0) s.planes.lastRef b key } }

/-- A refused request (R158): recorded and raised; counted once per run of consecutive edges, which only the switch cell
can present. -/
def State.planeRefuse (s : State) (b : Nat) (r : PlaneReq) (reason : Nat) : State :=
  let key := 1 + reason + 8 * r.plane
  let again := r.by_ == .fabric && mapGet (fun _ => 0) s.planes.lastRef b == key
  let s1 := ((((s.set F.BENCH_PLANE_STAT_REFUSED b 1).set F.BENCH_PLANE_STAT_REF_SRC b (reqSrc r)).set
    F.BENCH_PLANE_STAT_REF_PLANE b r.plane).set F.BENCH_PLANE_STAT_REF_REASON b reason).planeEvt b F.BENCH_PLANE_EVT_REFUSE
  let s2 := if again then s1 else s1.inc F.BENCH_PLANE_ERRCNT_REFUSE_CNT b
  if r.by_ = .fabric then s2.setLastRef b key else s2

/-- Priority of a request at an edge, lowest first (R165): device commands, offline commands, fabric, host, schedule. -/
def reqRank (r : PlaneReq) : Nat :=
  match r.by_, r.cmd with
  | .device, _ => 0
  | _, .offline => 1
  | .fabric, _ => 2
  | .host, _ => 3
  | .sched, _ => 4

/-- Losers of an edge, highest priority first: each is counted and raised; the fields record the first (R165). -/
def State.planeLost (s : State) (b : Nat) (losers : List PlaneReq) : State :=
  match sortBy (fun x y => decide (reqRank x ≤ reqRank y)) losers with
  | [] => s
  | top :: rest =>
    let s1 := ((s.set F.BENCH_PLANE_STAT_LOST b 1).set F.BENCH_PLANE_STAT_LOST_SRC b (reqSrc top)).set
      F.BENCH_PLANE_STAT_LOST_PLANE b top.plane
    (top :: rest).foldl (fun s _ => (s.inc F.BENCH_PLANE_ERRCNT_LOST_CNT b).planeEvt b F.BENCH_PLANE_EVT_LOST) s1

/-! ### Checks (R158, R174 to R176) -/

/-- PD_BENCH_b is in QUIESCE or later on its way down (R499). -/
def State.quiescing (s : State) (b : Nat) : Bool := s.get F.PWR_DOM_STATE (dBench b) == 4

/-- What refuses requests to a gang as a whole: a column shift those of the host (R383), QUIESCE every request but the
device's own (R499). -/
def State.gangShifting (s : State) (b : Nat) : Bool := (s.gangOf b).any fun m => s.flag F.BENCH_SHIFT_REPAIRING m
def State.gangQuiescing (s : State) (b : Nat) : Bool := (s.gangOf b).any s.quiescing

/-- Plane p is READY in every member (R176). -/
def State.planeReady (s : State) (b p : Nat) : Bool := (s.gangOf b).all fun m => s.planeSt m p == psReady

/-- Groups whose pause takes the bench offline, and static groups, which the fold holders serve (R375). -/
def liveGroup (g : Nat) : Bool :=
  gidPeriph g == 0 && ((gidIface g == 2 && decide (gidIndex g < 3168))
    || (gidIface g == 1 && decide (261888 ≤ gidIndex g ∧ gidIndex g < 261954)))
def staticGroup (g : Nat) : Bool :=
  gidPeriph g == 0 && ((gidIface g == 1 && decide (gidIndex g < 261888)) || (gidIface g == 2 && decide (3168 ≤ gidIndex g)))

/-- Some listed group of a member that `q` picks satisfies `w`. -/
def State.gangGroup (s : State) (b : Nat) (q : Nat → Bool) (w : Group → Bool) : Bool :=
  s.bores.groups.any fun (e : Nat × Option Group) => match e.2 with
    | some x => q e.1 && gidPeriph e.1 == 0 && (s.gangOf b).contains (gidBench e.1) && w x
    | none => false

/-- A live group of a member is paused: the bench stays offline for the pause (R375). -/
def State.livePaused (s : State) (b : Nat) : Bool := s.gangGroup b liveGroup fun x => x.paused

/-- Whether a bench may come online at all (R34, R153, R264, R375, R384). -/
def State.mayOnline (s : State) (b : Nat) : Bool :=
  !s.livePaused b && (s.gangOf b).all fun m =>
    s.benchUp m && !(mapGet (fun _ => false) s.planes.initing m) && s.benchAcquired m
      && !s.flag F.BENCH_SHIFT_DEGRADED m

/-- A request's fate at its edge: `none` null, `some none` valid, `some (some r)` refused with reason r. A column shift
refuses the commands of BENCH_PLANE_SEL; a switch of the cell or the schedule is judged as ever until STOP takes the bench
offline (R383). -/
def State.planeCheck (s : State) (b : Nat) (r : PlaneReq) : Option (Option Nat) :=
  let dev := r.by_ == .device
  let shifting := r.by_ == .host && s.gangShifting b
  match r.cmd with
  | .switch =>
    if s.online b && s.get F.BENCH_PLANE_STAT_ACTIVE b == r.plane then none
    else if s.inGang b && !s.flag F.BENCH_GANG_STAT_IS_LEADER b then some (some rfNotLeader)
    else if !dev && s.gangQuiescing b then some (some rfState)
    else if !s.online b || shifting then some (some rfOffline)
    else if s.planeReady b r.plane then some none
    else some (some rfNotReady)
  | .online =>
    if s.inGang b && !s.flag F.BENCH_GANG_STAT_IS_LEADER b then some (some rfNotLeader)
    else if s.online b || s.gangForming b || !s.mayOnline b
        || shifting || (!dev && s.gangQuiescing b) then some (some rfState)
    else if s.planeReady b r.plane then some none
    else some (some rfNotReady)
  | .offline =>
    if s.inGang b && !s.flag F.BENCH_GANG_STAT_IS_LEADER b then some (some rfNotLeader)
    else if !s.online b || shifting then (if dev then none else some (some rfState))
    else some none

/-! ### The edge (R154, R174, R175) -/

/-- A bench's clock to the plane schedule: next expiry (R163, R164). -/
def State.setExpiry (s : State) (b : Nat) (t held : Option Nat) : State :=
  { s with planes := { s.planes with
      expiry := mapSet (fun _ => none) s.planes.expiry b t
      held := mapSet (fun _ => none) s.planes.held b held } }

def State.quantumNs (s : State) (b : Nat) : Nat := 1000 * s.get F.BENCH_SCHED_QUANT_QUANTUM_US b

/-- Results of the old plane on their way through the memory ports are discarded; the new plane's down bundles read 0
until its own first result (R107). -/
def State.dropMemResults (s : State) (b : Nat) : State :=
  { s with
    memt := { s.memt with
      blocks := mapUpd (fun _ => {}) (fun k x => if k / 1040 = b then
        { x with pipeA := [0, 0], pipeB := [0, 0], downA := 0, downB := 0 } else x) s.memt.blocks
      fenced := mapSet (fun _ => false) s.memt.fenced b false }
    planes := { s.planes with portIn := mapKeep (fun k => k / 2048 != b) s.planes.portIn }
    hoppers := mapUpd (fun _ => {}) (fun k x => if k / 32 = b then { x with fenced := false } else x) s.hoppers }

/-- Device time since bench m's last activating edge; device time wraps at 64 bits (R12, R195). -/
def State.sinceEdge (s : State) (m : Nat) : Nat := (s.time + 2 ^ 64 - mapGet (fun _ => 0) s.planes.since m) % 2 ^ 64

/-- The active plane of bench m stops: its time is added, its state copies freeze with parity, it becomes READY (R154,
R195, R402). -/
def State.stopPlane (s : State) (m : Nat) : State :=
  match s.activePlane m with
  | none => s
  | some q =>
    let k := 8 * m + q
    let s1 := { s with planes := { s.planes with
      active := mapSet (fun _ => 0) s.planes.active k
        ((mapGet (fun _ => 0) s.planes.active k + s.sinceEdge m) % 2 ^ 64)
      parkClk := mapSet (fun _ => 0) s.planes.parkClk m (s.get F.BENCH_CLKSRC_CLK0 k) } }
    (s1.setPlaneSt m q psReady).freezeState m q

/-- The samples of the last clock edge are used up. -/
def State.dropSamples (s : State) (b : Nat) : State :=
  { s with planes := { s.planes with
      cellIn := mapSet (fun _ => none) s.planes.cellIn b none
      imgIn := mapSet (fun _ => none) s.planes.imgIn b none } }

/-- Bench clocks of member m whose source byte differs from what it was in `s0` number their edges anew (R285), and the new
source runs without a ramp (R471). A change of
bench clock 0 makes the L–C and C–M calibrators discard and restart their evaluations, as for a pause (R168). -/
def State.clkChanged (s s0 : State) (m : Nat) : State :=
  let kept := fun (k : Nat) => k / 4 != m || (s.clkByte m (k % 4) == s0.clkByte m (k % 4) && (s0.online m || k % 4 == 0))
  let s1 := { s with clocks := { s.clocks with
      edgeNo := mapKeep kept s.clocks.edgeNo
      lag := mapKeep kept s.clocks.lag } }
  if s.clkByte m 0 = s0.clkByte m 0 then s1 else s1.waitEvals [benchClass m 1, benchClass m 2]

/-- The fold pause after an edge of a bench with a folded static group: 2 edges of bench clock 0 are suppressed (R377, log
entry 69). -/
def State.foldPause (s : State) (m : Nat) : State :=
  { s with planes := { s.planes with
      foldEdges := mapSet (fun _ => 0) s.planes.foldEdges m
        (if s.bores.groups.any (fun (e : Nat × Option Group) => match e.2 with
            | some x => staticGroup e.1 && gidBench e.1 == m && (x.fold == 1 || x.fold == 2)
            | none => false) then 2 else 0) } }

/-- A granted edge at one member: `p` the plane that becomes active, `none` for an offline edge. -/
def State.memberEdge (s : State) (m : Nat) (p : Option Nat) (src : Nat) : State :=
  let was := s.online m
  let s1 := (((s.stopPlane m).incWrap F.BENCH_PLANE_CNT_SWITCHES m 1).set F.BENCH_PLANE_STAT_LAST_SRC m src).dropMemResults m
  let s2 := ({ s1 with planes := { s1.planes with imgPrev := mapSet (fun _ => 0) s1.planes.imgPrev m 0 } }.dropSamples
    m).foldPause m
  match p with
  | some p =>
    let s3 := ((s2.set F.BENCH_PLANE_STAT_ONLINE m 1).set F.BENCH_PLANE_STAT_ACTIVE m p).setPlaneSt m p psActive
    let s4 := { s3 with planes := { s3.planes with since := mapSet (fun _ => 0) s3.planes.since m s.time } }
    let s5 := s4.clkChanged s m
    if was then s5 else s5.setBenchFences m 0
  | none => ((s2.set F.BENCH_PLANE_STAT_ONLINE m 0).clkChanged s m).setBenchFences m 2

/-- What an edge does to the schedule (R164). -/
def State.schedEdge (s : State) (b : Nat) (r : PlaneReq) : State :=
  if s.flag F.BENCH_SCHED_CTL_EN b then
    match r.by_, r.cmd with
    | .sched, _ => s
    | _, .offline =>
      match mapGet (fun _ => none) s.planes.expiry b with
      | some t => s.setExpiry b none (some (t - s.time))
      | none => s
    | .device, .online =>
      match mapGet (fun _ => none) s.planes.held b with
      | some h => s.setExpiry b (some (s.time + h)) none
      | none => s
    | _, _ => s.setExpiry b (some (s.time + s.quantumNs b)) none
  else s

/-- The request takes effect for the whole gang at one edge (R154, R174 to R176). -/
def State.planeGrant (s : State) (b pos : Nat) (r : PlaneReq) : State :=
  let p := if r.cmd = .offline then none else some r.plane
  let s1 := ((s.gangOf b).foldl (fun s m => s.memberEdge m p (reqSrc r)) s).set F.BENCH_PLANE_STAT_DEFERRED b 0
  let s2 := s1.schedEdge b r
  let s3 := if r.by_ = .sched then s2.set F.BENCH_SCHED_CTL_IDX b pos else s2
  let s4 := if r.by_ = .host then s3.planeEvt b F.BENCH_PLANE_EVT_DONE else s3
  { s4 with planes := { s4.planes with
      defer := mapSet (fun _ => none) s4.planes.defer b none
      fabOpen := mapSet (fun _ => false) s4.planes.fabOpen b false } }

/-! ### Surge guard (R177 to R180) -/

/-- A static bore group of a member is paused: grants are deferred until the pause ends (R375, R377). -/
def State.staticPaused (s : State) (b : Nat) : Bool :=
  s.gangGroup b staticGroup fun x => x.paused

/-- Where LIST holds plane p after position i (R163): the entry a granted schedule request came from. -/
def State.schedPos (s : State) (b p : Nat) : Nat :=
  let n := s.get F.BENCH_SCHED_CTL_LEN_M1 b + 1
  let i := s.get F.BENCH_SCHED_CTL_IDX b
  (((upTo n).map fun j => (i + 1 + j) % n).find? fun j =>
    bitsOf (s.get F.BENCH_SCHED_LIST_LIST b) (3 * j) 3 == p).getD i

/-- A candidate is deferred (R178, R180). -/
def State.planeDefer (s : State) (b : Nat) (r : PlaneReq) : State :=
  let s1 := (s.gangOf b).foldl (fun s m => s.inc F.BENCH_PLANE_ERRCNT_DEFER_CNT m) s
  let s2 := (s1.set F.BENCH_PLANE_STAT_DEFERRED b 1)
  let s3 := if r.n = 0 then s2.planeEvt b F.BENCH_PLANE_EVT_DEFER else s2
  { s3 with planes := { s3.planes with
      defer := mapSet (fun _ => none) s3.planes.defer b (some { r with n := r.n + 1 })
      fabOpen := mapSet (fun _ => false) s3.planes.fabOpen b (r.by_ == .fabric) } }

/-- Guard order: deferral count, highest first, then bench number (R178). -/
def candBefore (x y : Nat × PlaneReq) : Bool := decide (y.2.n < x.2.n) || (x.2.n == y.2.n && decide (x.1 ≤ y.1))

/-- Decide the candidates in order; `room` is what is left of SURGE_MAX, `none` once one did not fit. -/
def State.guardRun (s : State) : List (Nat × PlaneReq) → Option Nat → State
  | [], _ => s
  | (b, r) :: rest, none => (s.planeDefer b r).guardRun rest none
  | (b, r) :: rest, some room =>
    let n := (s.gangOf b).length
    if n ≤ room then
      if s.staticPaused b then (s.planeDefer b r).guardRun rest (some (room - n))
      else (s.planeGrant b (s.schedPos b r.plane) r).guardRun rest (some (room - n))
    else (s.planeDefer b r).guardRun rest none

/-- The guard of column c decides the tick's candidates (R178). -/
def State.guardDecide (s : State) (c : Nat) : State :=
  let l := sortBy candBefore (mapGet (fun _ => []) s.planes.cands c)
  let s1 := { s with planes := { s.planes with cands := mapSet (fun _ => []) s.planes.cands c [] } }
  s1.guardRun l (some (s.get F.BENCH_SURGE_CTL_SURGE_MAX c))

/-- A candidate joins its column's tick; `last` says that the tick has no further candidate. -/
def State.candidate (s : State) (b : Nat) (r : PlaneReq) (last : Bool) : State :=
  let c := benchCol b
  let s1 := { s with planes := { s.planes with
    cands := mapSet (fun _ => []) s.planes.cands c (mapGet (fun _ => []) s.planes.cands c ++ [(b, r)]) } }
  if last then s1.guardDecide c else s1

/-! ### Presentation (R158, R165, R166) -/

/-- The state in which the requests of an edge are judged: at the offline edge of a STOP the rivals of the device's command
meet it as valid requests, and lose to it (R165). -/
def State.judge (s : State) (b : Nat) (reqs : List PlaneReq) : State :=
  if reqs.any fun r => r.by_ == .device && r.cmd == .offline then
    (s.gangOf b).foldl (fun t m => t.set F.BENCH_SHIFT_REPAIRING m 0) s
  else s

/-- Requests presented at one edge while none stands deferred. -/
def State.presentFree (s : State) (b : Nat) (reqs : List PlaneReq) (last : Bool) : State :=
  let u := s.judge b reqs
  let s1 := reqs.foldl (fun t r => match u.planeCheck b r with
    | some (some why) => t.planeRefuse b r why
    | _ => t) s
  let valid := reqs.filter fun r => u.planeCheck b r == some none
  let devOff := valid.any fun r => r.by_ == .device && r.cmd == .offline
  let valid := valid.filter fun r => !(devOff && r.by_ == .host && r.cmd == .offline)
  match sortBy (fun x y => decide (reqRank x ≤ reqRank y)) valid with
  | [] => if last then s1.guardDecide (benchCol b) else s1
  | w :: losers => (s1.planeLost b losers).candidate b w last

/-- Requests presented while request `d` stands deferred: an offline command replaces a deferred switch, and a device's
replaces a host's as null; every other request is lost (R165, R166). A bench that is offline already, with its online
command deferred, refuses a host's offline command with STATE, and the device's is null (R174). -/
def State.presentDeferred (s0 : State) (b : Nat) (d : PlaneReq) (reqs0 : List PlaneReq) : State :=
  let off := fun (q : PlaneReq) => q.cmd == .offline && !s0.online b
  let s := (reqs0.filter fun q => off q && q.by_ == .host).foldl (fun s q => s.planeRefuse b q rfState) s0
  let reqs := reqs0.filter fun q => !off q
  let r := reqs.foldl (fun (acc : PlaneReq × List PlaneReq) q =>
    if q.cmd = .offline ∧ acc.1.cmd ≠ .offline then ({ q with n := acc.1.n }, acc.2 ++ [acc.1])
    else if q.cmd = .offline ∧ q.by_ = .device then ({ q with n := acc.1.n }, acc.2)
    else if q.cmd = .offline ∧ acc.1.by_ = .device then acc
    else (acc.1, acc.2 ++ [q])) (d, [])
  let s1 := { s with planes := { s.planes with
      defer := mapSet (fun _ => none) s.planes.defer b (some r.1)
      fabOpen := mapSet (fun _ => false) s.planes.fabOpen b (r.1.by_ == ReqBy.fabric) } }
  s1.planeLost b r.2

/-- All requests presented at one edge of bench clock 0 of bench b. -/
def State.present (s : State) (b : Nat) (reqs : List PlaneReq) (last : Bool) : State :=
  match mapGet (fun _ => none) s.planes.defer b with
  | some d => s.presentDeferred b d reqs
  | none => s.presentFree b reqs last

/-! ### Sources of requests -/

/-- What the switch cell presents (R160, R161): while SW_EN of the active plane is set, the bench leads its gang or has
none, and no request of the cell is outstanding. -/
def State.cellReq (s : State) (b : Nat) : List PlaneReq :=
  match s.activePlane b with
  | none => []
  | some p =>
    if mapGet (fun _ => false) s.planes.swEn (8 * b + p) && (s.leaderOf b == b)
        && !(mapGet (fun _ => false) s.planes.fabOpen b) && 8 ≤ s.cellSample b then
      [⟨.fabric, .switch, s.cellSample b % 8, 0⟩]
    else []

/-- The host's pending request (R162); it is no longer pending after its edge. -/
def State.hostReqOf (s : State) (b : Nat) : List PlaneReq := (mapGet (fun _ => none) s.planes.hostReq b).toList

def State.clearHostReq (s : State) (b : Nat) : State :=
  { s.set F.BENCH_PLANE_SEL_PENDING b 0 with planes := { s.planes with hostReq := mapSet (fun _ => none) s.planes.hostReq b none } }

/-- The schedule's request at E3 after an expiry (R164): the entries after IDX are tried in turn; refused ones are
counted and passed over; if none will do, IDX stays. -/
def State.schedTry (s : State) (b idx0 : Nat) : Nat → State × List PlaneReq
  | 0 => (s.set F.BENCH_SCHED_CTL_IDX b idx0, [])
  | fuel + 1 =>
    let n := s.get F.BENCH_SCHED_CTL_LEN_M1 b + 1
    let pos := (s.get F.BENCH_SCHED_CTL_IDX b + 1) % n
    let r : PlaneReq := ⟨.sched, .switch, bitsOf (s.get F.BENCH_SCHED_LIST_LIST b) (3 * pos) 3, 0⟩
    match s.planeCheck b r with
    | none => (s.set F.BENCH_SCHED_CTL_IDX b pos, [])
    | some none => (s, [r])
    | some (some why) =>
      if why = rfNotReady then ((s.planeRefuse b r why).set F.BENCH_SCHED_CTL_IDX b pos).schedTry b idx0 fuel
      else ((s.planeRefuse b r why).set F.BENCH_SCHED_CTL_IDX b idx0, [])

def State.schedReq (s : State) (b : Nat) : State × List PlaneReq :=
  let s1 := { s with planes := { s.planes with schedDue := mapSet (fun _ => false) s.planes.schedDue b false } }
  if mapGet (fun _ => false) s.planes.schedDue b && s.online b && s.flag F.BENCH_SCHED_CTL_EN b then
    if (mapGet (fun _ => none) s.planes.defer b).isSome then
      -- a request stands deferred: this one is lost, whatever it names, and IDX stays (R164, R166)
      let pos := (s.get F.BENCH_SCHED_CTL_IDX b + 1) % (s.get F.BENCH_SCHED_CTL_LEN_M1 b + 1)
      (s1, [⟨.sched, .switch, bitsOf (s.get F.BENCH_SCHED_LIST_LIST b) (3 * pos) 3, 0⟩])
    else s1.schedTry b (s.get F.BENCH_SCHED_CTL_IDX b) (s.get F.BENCH_SCHED_CTL_LEN_M1 b + 1)
  else (s1, [])

/-- The device's own command that waits for its edge (R165). -/
def State.devReqOf (s : State) (b : Nat) : List PlaneReq := (mapGet (fun _ => none) s.planes.devReq b).toList
def State.setDevReq (s : State) (b : Nat) (r : Option PlaneReq) : State :=
  { s with planes := { s.planes with devReq := mapSet (fun _ => none) s.planes.devReq b r } }

/-- The switch cell's sample is used up. -/
def State.dropCell (s : State) (b : Nat) : State :=
  { s with planes := { s.planes with cellIn := mapSet (fun _ => none) s.planes.cellIn b none } }

/-- One edge of bench clock 0 of bench b at which the named sources present their requests. -/
def State.presentEdge (s : State) (b : Nat) (dev fab host sched last : Bool) : State :=
  let cell := if fab then s.cellReq b else []
  -- a sampled edge that presents no refused request of the cell ends the run of R158
  let runs := cell.any fun r => match s.planeCheck b r with | some (some _) => true | _ => false
  let s0 := if fab then (if runs then s else s.setLastRef b 0).dropCell b else s
  let d := if dev then s0.devReqOf b else []
  let s1 := if dev then s0.setDevReq b none else s0
  let h := if host then s1.hostReqOf b else []
  let s2 := if host then s1.clearHostReq b else s1
  let q := if sched then s2.schedReq b else (s2, [])
  q.1.present b (d ++ cell ++ h ++ q.2) last

/-- SWITCH_CELL_REQUEST (R160): an edge at which the switch cell is sampled. -/
def execSwitchCellRequest (b : Nat) (last : Bool) (s : State) : Host.Outcome State Fault Refusal :=
  .next (if s.edgeSeen b 0 then s.presentEdge b false true false false last else s)

/-- HOST_REQUEST_PRESENTED (R158, R162): E3 of a host request; `fab` says that the switch cell is sampled at it too. -/
def execHostRequestPresented (b : Nat) (fab last : Bool) (s : State) : Host.Outcome State Fault Refusal :=
  .next (if s.edgeSeen b 0 then s.presentEdge b false fab true false last else s)

/-- SCHEDULE_REQUEST_PRESENTED (R163): E3 after an expiry, with the host's and the cell's requests of the same edge. -/
def execScheduleRequestPresented (b : Nat) (fab host last : Bool) (s : State) : Host.Outcome State Fault Refusal :=
  .next (if s.edgeSeen b 0 then s.presentEdge b false fab host true last else s)

/-- A deferred request ends without a grant. -/
def State.dropDeferred (s : State) (b : Nat) : State :=
  { s.set F.BENCH_PLANE_STAT_DEFERRED b 0 with planes := { s.planes with
      defer := mapSet (fun _ => none) s.planes.defer b none
      fabOpen := mapSet (fun _ => false) s.planes.fabOpen b false } }

/-- A deferred online command that the bench may no longer take: a column shift, QUIESCE or DEGRADED has come since (R383,
R384, R499). It is refused. -/
def State.deferStale (s : State) (b : Nat) (r : PlaneReq) : Option Nat :=
  if r.cmd = .online then match s.planeCheck b r with | some (some why) => some why | _ => none else none

/-- DEFERRED_CANDIDATE_RETRY (R178): the next edge of bench clock 0 after a deferral; a suppressed one is none (R674). -/
def execDeferredCandidateRetry (b : Nat) (last : Bool) (s : State) : Host.Outcome State Fault Refusal :=
  .next (if s.edgeSeen b 0 = false then s else match mapGet (fun _ => none) s.planes.defer b with
    | none => if last then s.guardDecide (benchCol b) else s
    | some r => match s.deferStale b r with
      | none => s.candidate b r last
      | some why =>
        let s1 := (s.planeRefuse b r why).dropDeferred b
        if last then s1.guardDecide (benchCol b) else s1)

/-! ### Register writes -/

/-- A BENCH_PLANE_SEL write (R162, R174 to R176, R182). -/
def State.planeSelWrite (s : State) (b : Nat) (v : Word) : State :=
  let plane := fldOf F.BENCH_PLANE_SEL_PLANE v
  let cmd := fldOf F.BENCH_PLANE_SEL_CMD v
  if cmd = 3 then s
  else
    let r : PlaneReq := ⟨.host, if cmd = 0 then .switch else if cmd = 1 then .online else .offline, plane, 0⟩
    if s.flag F.BENCH_PLANE_SEL_PENDING b then s.planeRefuse b r rfHostBusy
    else
      let s1 := s.set F.BENCH_PLANE_SEL_PLANE b plane
      if s.inGang b && !s.flag F.BENCH_GANG_STAT_IS_LEADER b then s1.planeRefuse b r rfNotLeader
      else
        let s2 := s1.set F.BENCH_PLANE_SEL_PENDING b 1
        { s2 with planes := { s2.planes with hostReq := mapSet (fun _ => none) s2.planes.hostReq b (some r) } }

/-- PLANE_SEL_SWITCH (R162): a BENCH_PLANE_SEL write with CMD 0. -/
def execPlaneSelSwitch (src : Src) (b : Nat) (v : Word) (s : State) : Host.Outcome State Fault Refusal :=
  .next (if s.mayWrite src .BENCH_PLANE_SEL b then s.planeSelWrite b v else s)

/-- PLANE_SEL_ONLINE (R175): a BENCH_PLANE_SEL write with CMD 1. -/
def execPlaneSelOnline (src : Src) (b : Nat) (v : Word) (s : State) : Host.Outcome State Fault Refusal :=
  .next (if s.mayWrite src .BENCH_PLANE_SEL b then s.planeSelWrite b v else s)

/-- PLANE_SEL_OFFLINE (R174): a BENCH_PLANE_SEL write with CMD 2. -/
def execPlaneSelOffline (src : Src) (b : Nat) (v : Word) (s : State) : Host.Outcome State Fault Refusal :=
  .next (if s.mayWrite src .BENCH_PLANE_SEL b then s.planeSelWrite b v else s)

/-- A BENCH_SCHED_CTL write (R163): setting EN starts the schedule at the lowest position that holds the active plane,
else LEN_M1; while the bench is offline the first interval is held (R164). -/
def State.schedCtlWrite (s : State) (b : Nat) (v : Word) : State :=
  let was := s.flag F.BENCH_SCHED_CTL_EN b
  let s1 := s.plainWrite .BENCH_SCHED_CTL b v
  let now := s1.flag F.BENCH_SCHED_CTL_EN b
  if now && !was then
    let len := s1.get F.BENCH_SCHED_CTL_LEN_M1 b
    let idx := match s.activePlane b with
      | none => len
      | some p => ((upTo (len + 1)).find? fun j => bitsOf (s1.get F.BENCH_SCHED_LIST_LIST b) (3 * j) 3 == p).getD len
    let s2 := s1.set F.BENCH_SCHED_CTL_IDX b idx
    if s.online b then s2.setExpiry b (some (s.time + s.quantumNs b)) none
    else s2.setExpiry b none (some (s.quantumNs b))
  else if was && !now then s1.setExpiry b none none
  else s1

/-- SCHEDULE_ENABLE (R163). -/
def execScheduleEnable (src : Src) (b : Nat) (v : Word) (s : State) : Host.Outcome State Fault Refusal :=
  .next (if s.mayWrite src .BENCH_SCHED_CTL b then s.schedCtlWrite b v else s)

/-- SCHED_QUANT_WRITE (R190): 1 to 1,000,000, the nearer limit beyond. -/
def execSchedQuantWrite (src : Src) (b : Nat) (v : Word) (s : State) : Host.Outcome State Fault Refusal :=
  .next (if s.mayWrite src .BENCH_SCHED_QUANT b then
    s.set F.BENCH_SCHED_QUANT_QUANTUM_US b (clampNat 1 1000000 (fldOf F.BENCH_SCHED_QUANT_QUANTUM_US v)) else s)

/-- SCHEDULE_EXPIRY (R163): the next expiry keeps the grid; the request is presented at E3. -/
def execScheduleExpiry (b : Nat) (s : State) : Host.Outcome State Fault Refusal :=
  .next (match mapGet (fun _ => none) s.planes.expiry b with
    | none => s
    | some t =>
      if t ≤ s.time then
        let s1 := s.setExpiry b (some (t + s.quantumNs b)) none
        if s.leaderOf b = b then
          { s1 with planes := { s1.planes with schedDue := mapSet (fun _ => false) s1.planes.schedDue b true } }
        else s1
      else s)

/-- Whether plane p of bench b's gang is active (R169). -/
def State.clkLive (s : State) (b p : Nat) : Bool :=
  s.online (s.leaderOf b) && s.get F.BENCH_PLANE_STAT_ACTIVE (s.leaderOf b) == p

/-- Whether a BENCH_CLKSRC_p write is refused (R169): the plane is active, CLK0 is off, or a member's CLK0 differs from its
leader's. -/
def State.clkSrcRefused (s : State) (b p : Nat) (v : Word) : Bool :=
  let clk0 := fldOf F.BENCH_CLKSRC_CLK0 v
  let l := s.leaderOf b
  s.clkLive b p || bitOf clk0 7 == 1 || (b != l && clk0 != s.get F.BENCH_CLKSRC_CLK0 (8 * l + p))

/-- A BENCH_CLKSRC_p write (R169), i = 8b + p. -/
def State.clkSrcWrite (s : State) (b p : Nat) (v : Word) : State :=
  if s.clkSrcRefused b p v then s.set F.BENCH_PLANE_STAT_CFG_ERR b 1
  else
    let s1 := s.setReg .BENCH_CLKSRC (8 * b + p) v
    if b = s.leaderOf b then
      (s.gangOf b).foldl (fun s m => s.set F.BENCH_CLKSRC_CLK0 (8 * m + p) (fldOf F.BENCH_CLKSRC_CLK0 v)) s1
    else s1

/-- BENCH_CLKSRC_WRITE (R169). -/
def execBenchClksrcWrite (src : Src) (b p : Nat) (v : Word) (s : State) : Host.Outcome State Fault Refusal :=
  .next (if p < 8 ∧ s.mayWrite src .BENCH_CLKSRC (8 * b + p) = true then s.clkSrcWrite b p v else s)

/-- Members of the largest gang of column c (R177). -/
def State.largestGang (s : State) (c : Nat) : Nat :=
  (upTo 16).foldl (fun n i => if s.inGang (16 * c + i) then max n (s.gangOf (16 * c + i)).length else n) 0

/-- A BENCH_SURGE_CTL_c write (R179, R196): HLU quantity 16, then the largest gang. -/
def State.surgeWrite (s : State) (src : Src) (c : Nat) (v : Word) : State :=
  let s1 := s.w1cWrite .BENCH_SURGE_CTL c v
  let n := max 1 (fldOf F.BENCH_SURGE_CTL_SURGE_MAX v)
  if hluWithin 16 n (s.hluEff 16) = false then s1.hluRefuse 16 (srcCode src)
  else if n < s.largestGang c then s1.set F.BENCH_SURGE_CTL_SURGE_ERR c 1
  else s1.set F.BENCH_SURGE_CTL_SURGE_MAX c n

/-- SURGE_CTL_WRITE (R196). -/
def execSurgeCtlWrite (src : Src) (c : Nat) (v : Word) (s : State) : Host.Outcome State Fault Refusal :=
  .next (if s.mayWrite src .BENCH_SURGE_CTL c then s.surgeWrite src c v else s)

/-- STATE_INIT_DONE (R153): every flip-flop copy of every READY plane is at its SRVAL and every arithmetic-block copy 0;
requests to go online are accepted. -/
def execStateInitDone (b : Nat) (s : State) : Host.Outcome State Fault Refusal :=
  .next (if mapGet (fun _ => false) s.planes.initing b then
    let s1 := (upTo 8).foldl (fun s p => if s.planeSt b p = psReady then s.initPlaneState b p else s) s
    { s1 with planes := { s1.planes with initing := mapSet (fun _ => false) s1.planes.initing b false } }
  else s)

end Sys2Proof.Machine
end

