-- ==== Sys2Proof/Machine/Memt.lean ====
section
/-!
DEFINITION. The memory tier (R79 to R121): words and codes, remap and retirement, port accesses, haul accesses, the
patrol, bulk invalidate and the flip mask.
-/

namespace Sys2Proof.Machine

/-! ### Blocks and words -/

def blkKey (b n : Nat) : Nat := 1040 * b + n
def wordKey (b n wd : Nat) : Nat := 8192 * blkKey b n + wd % 8192

/-- Physical block n of bench b. -/
def State.blk (s : State) (b n : Nat) : MemBlock := mapGet (fun _ => {}) s.memt.blocks (blkKey b n)
def State.setBlk (s : State) (b n : Nat) (x : MemBlock) : State :=
  { s with memt := { s.memt with blocks := mapSet (fun _ => {}) s.memt.blocks (blkKey b n) x } }

/-- The place of a memory-region offset: block, physical word and byte (R90). -/
def memOffset (off : Nat) : Nat × Nat × Nat := (off / 2 ^ 16 % 1024, off / 8 % 8192, off % 8)

/-- The three stored copies of a word's valid bit (R79). -/
def State.validCopies (s : State) (key : Nat) : Nat :=
  match mapGet (fun _ => none) s.memt.vbits key with
  | some c => c
  | none => if (mapGet (fun _ => none) s.memt.words key : Option Nat).isSome then 7 else 0

/-- The valid bit as it is read, by majority vote (R79). -/
def State.wordValid (s : State) (key : Nat) : Bool := decide (2 ≤ popCount (s.validCopies key) 3)

/-- The array's codeword of a physical word; `none` while it is invalid. -/
def State.arrayWord (s : State) (b n wd : Nat) : Option Nat :=
  let key := wordKey b n wd
  if s.wordValid key then
    match mapGet (fun _ => none) s.memt.words key with
    | some cw => some cw
    | none => some (Config.staleWord key % 2 ^ 72)
  else none

/-- The stored codeword and copies of the valid bit of a word. -/
def State.putArrayWord (s : State) (key : Nat) (cw copies : Option Nat) : State :=
  { s with memt := { s.memt with
      words := mapSet (fun _ => none) s.memt.words key cw, vbits := mapSet (fun _ => none) s.memt.vbits key copies } }

/-- A write of a physical word, or its erasure: all three copies of the valid bit are written. -/
def State.setArrayWord (s : State) (b n wd : Nat) (x : Option Nat) : State := s.putArrayWord (wordKey b n wd) x none

/-- The remap entry of a word (R102). -/
def remapFind (x : MemBlock) (wd : Nat) : Option RemapEnt := x.remap.find? fun e => e.word == wd
def remapPut (x : MemBlock) (wd : Nat) (cw : Option Nat) : MemBlock :=
  { x with remap := x.remap.map fun e => if e.word = wd then { e with cw := cw } else e }

/-- The codeword that serves a word, from its remap entry if it has one (R102). -/
def State.memWord (s : State) (b n wd : Nat) : Option Nat :=
  match remapFind (s.blk b n) wd with
  | some e => e.cw
  | none => s.arrayWord b n wd

def State.setMemWord (s : State) (b n wd : Nat) (x : Option Nat) : State :=
  match remapFind (s.blk b n) wd with
  | some _ => s.setBlk b n (remapPut (s.blk b n) wd x)
  | none => s.setArrayWord b n wd x

/-- A pending write-back of a word is cancelled (R97). -/
def cancelWb (x : MemBlock) (wd : Nat) : MemBlock :=
  let f := fun (l : List WbItem) => (l.map fun i => { i with words := i.words.filter fun (w : Nat × Nat) => w.1 != wd }).filter
    fun i => !i.words.isEmpty
  { x with wbA := f x.wbA, wbB := f x.wbB }

/-- An upset of a physical word: mask bits [71:0] flip its codeword, bits [74:72] the copies of its valid bit (R79). -/
def State.upsetArray (s : State) (key m : Nat) : State :=
  let c := Nat.xor (s.validCopies key) (m / 2 ^ 72 % 8)
  let cw := match mapGet (fun _ => none) s.memt.words key with
    | some x => some (Nat.xor x (m % 2 ^ 72))
    | none => none
  s.putArrayWord key cw (if c = (if cw.isSome then 7 else 0) then none else some c)

/-- Upsets strike words of block n before an access: (word, mask); a remapped word is struck in its entry. -/
def State.upsetWords (s : State) (b n : Nat) (ups : List (Nat × Nat)) : State :=
  ups.foldl (fun s (e : Nat × Nat) =>
    let wd := e.1 % 8192
    match remapFind (s.blk b n) wd with
    | some r => s.setBlk b n (remapPut (s.blk b n) wd (r.cw.map fun cw => Nat.xor cw (e.2 % 2 ^ 72)))
    | none => s.upsetArray (wordKey b n wd) e.2) s

/-! ### Events (R108) -/

/-- A memory-region event: bit in MEMT_EVT, a bench event if enabled, a Weapel entry unless it is CE. -/
def State.memEvt (s : State) (b bit sev block wd : Nat) : State :=
  let s1 := s.set ⟨.MEMT_EVT, bit, if bit < 7 then 1 else 0⟩ b 1
  let s2 := if bitOf (s.get F.MEMT_EVT_EN_EN b) bit = 1 then s1.raiseBench b 5 else s1
  if bit = 0 then s2 else s2.wlog (0x020F + bit) b sev (block % 1024 * 2 ^ 13 + wd % 2 ^ 13)

/-! ### Errors: watch list, remap, retirement (R97 to R104) -/

/-- SRC codes of MEMT_ERR_LOG_0 (R121). -/
def srcPortA : Nat := 0
def srcPortB : Nat := 1
def srcHaul : Nat := 2
def srcPatrol : Nat := 3

/-- An uncorrectable word: counted, logged unless the log is full, raised (R98). -/
def State.memUe (s : State) (b n wd src : Nat) (o : EccOut) : State :=
  let s1 := s.inc F.MEMT_ECC_CNT_UE_CNT b
  let s2 := if s1.flag F.MEMT_ERR_LOG_0_VALID b then s1
    else (((((s1.set F.MEMT_ERR_LOG_0_VALID b 1).set F.MEMT_ERR_LOG_0_SRC b src).set F.MEMT_ERR_LOG_0_BLOCK b n).set
      F.MEMT_ERR_LOG_0_WORD b wd).set F.MEMT_ERR_LOG_1_P b o.par).set F.MEMT_ERR_LOG_1_S b o.syn
  s2.memEvt b 1 sevAlert n wd

/-- A correctable word (R97). -/
def State.memCe (s : State) (b n wd : Nat) : State := (s.inc F.MEMT_ECC_CNT_CE_CNT b).memEvt b 0 sevInfo n wd

/-- Whether the spare of group k of bench b is in use: it stands in for a block, or a block is being copied to it (R103,
R104). -/
def State.spareTaken (s : State) (b k : Nat) : Bool :=
  (s.spareOf b k).isSome || (upTo 64).any fun i => (s.blk b (64 * k + i)).copying

/-- A hard fault of word wd of primary n (R102 to R104): a remap entry, of which a word takes at most one, else the copy to
the spare, else DEGRADED; a fault found while the copy runs is moved with it. In a block retired to its spare whose own table is full the spare is the physical block that is
marked: MEMT_BLK_STAT shows DEGRADED under the spare's number, not the primary's. DESIGN CHOICE (log entry 72): the spec
does not say under which number it shows. -/
def State.hardFault (s : State) (b n wd : Nat) (o : EccOut) : State :=
  let ph := s.physOf b n
  let x := s.blk b ph
  if x.degraded || x.copying || (remapFind x wd).isSome then s
  else if x.remap.length < 8 then
    let cw := if o.kind = .bad then poisonEncode o.data else eccEncode o.data
    ((s.setBlk b ph { x with remap := x.remap ++ [⟨wd, some cw⟩] }).memEvt b 2 sevNotice n wd).spoilAdd 6 0
      (b * 2 ^ 24 + ph * 2 ^ 13 + wd)
  else if ph < 1024 ∧ s.spareTaken b (n / 64) = false then s.setBlk b ph { x with copying := true }
  else (s.setBlk b ph { x with degraded := true }).memEvt b 4 sevAlert n wd

/-- An error of the array enters the watch list; a match is a hard fault (R101). -/
def State.watchError (s : State) (b n wd : Nat) (o : EccOut) : State :=
  let ph := s.physOf b n
  let x := s.blk b ph
  let syn := o.syn + 128 * o.par
  let hard := x.watch.any fun (e : Nat × Nat) => e.1 == wd && (o.kind == EccKind.bad || e.2 == syn)
  let w := x.watch ++ [(wd, syn)]
  let s1 := s.setBlk b ph { x with watch := w.drop (w.length - 4) }
  if hard then s1.hardFault b n wd o else s1

/-- A checked read of a word of primary n as the state `old` holds it (R93, R96 to R98, R102): the data, POISON, CORR, and
whether the array holds a correctable error. An entry with a correctable error is rewritten in place. -/
def State.checkedReadFrom (old s : State) (b n wd src : Nat) : Nat × Bool × Bool × Bool × State :=
  let ph := s.physOf b n
  match old.memWord b ph wd with
  | none => (0, false, false, false, s)
  | some cw =>
    let o := eccDecode cw
    let inEntry := (remapFind (old.blk b ph) wd).isSome
    match o.kind with
    | .clean => (o.data, false, false, false, s)
    | .corrected =>
      let s1 := s.memCe b n wd
      if inEntry then (o.data, false, true, false, s1.setMemWord b ph wd (some (eccEncode o.data)))
      else (o.data, false, true, true, s1.watchError b n wd o)
    | .bad =>
      let s1 := s.memUe b n wd src o
      (o.data, true, false, false, if inEntry then s1 else s1.watchError b n wd o)

/-- A checked read of a word as it stands. -/
def State.checkedRead (s : State) (b n wd src : Nat) : Nat × Bool × Bool × Bool × State := s.checkedReadFrom s b n wd src

/-- The mask of the enabled bytes of a 64-bit word. -/
def byteMask (be : Nat) : Nat := (upTo 8).foldl (fun m k => if bitOf be k = 1 then m + 255 * 2 ^ (8 * k) else m) 0

/-- Data of the enabled bytes over the old bytes. -/
def mergeBytes (be old new : Nat) : Nat :=
  Nat.lor (Nat.land new (byteMask be)) (Nat.land old (2 ^ 64 - 1 - byteMask be))

/-- The data of a write as merged into the word, and whether it is stored poisoned (R85, R93, R98, R676): a write of all
eight bytes stores a good word unless its flit is poisoned, any other merges and keeps an uncorrectable word poisoned. The
full write of R98 is taken as one that leaves nothing of the physical word: an x16 or x32 write with every used BE bit set
still merges. DESIGN CHOICE (log entry 72): R85 calls such a write full, and R98 does not say what the word's other bytes
then are. -/
def State.writeMerge (s : State) (b ph wd be data : Nat) (poison : Bool) : Nat × Bool :=
  if be % 256 = 255 then (data, poison)
  else
    let old := match s.memWord b ph wd with
      | none => (0, false)
      | some cw => let o := eccDecode cw; (o.data, o.kind == EccKind.bad)
    (mergeBytes be old.1 data, poison || old.2)

/-- The codeword a write stores, before the flip mask (R98, R99). -/
def State.writeCode (s : State) (b ph wd be data : Nat) (poison : Bool) : Nat :=
  let r := s.writeMerge b ph wd be data poison
  if r.2 then poisonEncode r.1 else eccEncode r.1

/-- A data write of a word of physical block ph: the armed flip mask is XORed in and clears, unless `mask` is off; a
pending write-back of the word is cancelled (R97, R100). -/
def State.writeWord (s : State) (b ph wd be data : Nat) (poison mask : Bool) : State :=
  let x := s.blk b ph
  let cw := Nat.xor (s.writeCode b ph wd be data poison) (if mask then x.mask else 0)
  (s.setBlk b ph { cancelWb x wd with mask := if mask then 0 else x.mask }).setMemWord b ph wd (some cw)

/-- A write-back writes corrected words without the mask (R97, R100). -/
def State.writeBack (s : State) (b ph : Nat) (i : WbItem) : State :=
  i.words.foldl (fun s (w : Nat × Nat) => s.setMemWord b ph w.1 (some (eccEncode w.2))) s

/-! ### Fabric port accesses (R80 to R89, R106) -/

/-- A block that a bulk invalidate or a retirement copy holds: fabric accesses return BUSY, haul accesses wait. -/
def State.blockHeld (s : State) (b n : Nat) : Bool :=
  (s.blk b n).copying ||
    match mapGet (fun _ => none) s.memt.inv b with
    | some (first, m1) => decide (first ≤ n ∧ n ≤ first + m1)
    | none => false

/-- The fields of an up bundle (R82). -/
def ubAddr (u : Nat) : Nat := bitsOf u 0 16
def ubEn (u : Nat) : Bool := bitOf u 16 == 1
def ubWe (u : Nat) : Bool := bitOf u 17 == 1
def ubBe (u : Nat) : Nat := bitsOf u 18 16

/-- Port width in bits and port address bits of a width code (R80). -/
def widthBits (w : Nat) : Nat := [16, 32, 64, 128].getD w 16
def widthAddr (w : Nat) : Nat := [15, 14, 13, 12].getD w 15

/-- The words a port address covers (R80): physical word, first byte in it, bytes, first port byte. -/
def portLanes (w addr : Nat) : List (Nat × Nat × Nat × Nat) :=
  let a := addr % 2 ^ widthAddr w
  match w with
  | 0 => [(a / 4, 2 * (a % 4), 2, 0)]
  | 1 => [(a / 2, 4 * (a % 2), 4, 0)]
  | 2 => [(a, 0, 8, 0)]
  | _ => [(2 * a, 0, 8, 0), (2 * a + 1, 0, 8, 8)]

/-- What a write of a port does to each word: word, byte enables in the word, data in the word's place. -/
def portWrites (w u : Nat) : List (Nat × Nat × Nat) :=
  (portLanes w (ubAddr u)).map fun (l : Nat × Nat × Nat × Nat) =>
    (l.1, bitsOf (ubBe u) l.2.2.2 l.2.2.1 * 2 ^ l.2.1, bitsOf u (34 + 8 * l.2.2.2) (8 * l.2.2.1) * 2 ^ (8 * l.2.1))

/-- A down bundle (R82). -/
def downBundle (w data : Nat) (poison corr busy : Bool) : Nat :=
  data % 2 ^ widthBits w + b2n poison * 2 ^ widthBits w + b2n corr * 2 ^ (widthBits w + 1)
    + b2n busy * 2 ^ (widthBits w + 2)

/-- The write-back buffer of a port. -/
def wbOf (x : MemBlock) (port : Nat) : List WbItem := if port = 0 then x.wbA else x.wbB
def setWb (x : MemBlock) (port : Nat) (l : List WbItem) : MemBlock :=
  if port = 0 then { x with wbA := l } else { x with wbB := l }

/-- The result of this edge's access enters the pipe; the down bundle shows the access two edges back (R86). -/
def pushResult (x : MemBlock) (port r : Nat) : MemBlock :=
  if port = 0 then { x with pipeA := [r, x.pipeA.getD 0 0], downA := x.pipeA.getD 1 0 }
  else { x with pipeB := [r, x.pipeB.getD 0 0], downB := x.pipeB.getD 1 0 }

/-- An edge of a port ages its pending write-backs (R97). -/
def ageWb (x : MemBlock) (port : Nat) : MemBlock := setWb x port ((wbOf x port).map fun i => { i with age := i.age + 1 })

/-- The write-back that an edge serves: the oldest one found by now if the port samples EN 0, a write-back at its last
edge N + 4 in any case (R97). The age counts the port's edges from the read's own edge N on, so it is 3 at N + 2 and 5 at
N + 4. -/
def dueWb (x : MemBlock) (port : Nat) (en : Bool) : Option WbItem :=
  (wbOf x port).find? fun i => if en then decide (5 ≤ i.age) else decide (3 ≤ i.age)

/-- Serve a due write-back; says whether one took the edge. -/
def State.serveWb (s : State) (b ph port : Nat) (en : Bool) : Bool × State :=
  let x := s.blk b ph
  match dueWb x port en with
  | none => (false, s)
  | some i => (true, (s.setBlk b ph (setWb x port ((wbOf x port).erase i))).writeBack b ph i)

/-- The array's read for a port: every word it covers, from the state `old` before the edge's accesses (R88, R102). Of two
errors found in one x128 read the lower word, 2a, is counted and logged first. DESIGN CHOICE (log entry 72): R121 logs the
first error and does not order those of one edge. -/
def State.portRead (old s : State) (b n port w u : Nat) : Nat × State :=
  let r := (portLanes w (ubAddr u)).foldl
    (fun (acc : Nat × Bool × Bool × List (Nat × Nat) × State) (l : Nat × Nat × Nat × Nat) =>
      let q := old.checkedReadFrom acc.2.2.2.2 b n l.1 port
      (acc.1 + bitsOf q.1 (8 * l.2.1) (8 * l.2.2.1) * 2 ^ (8 * l.2.2.2), acc.2.1 || q.2.1, acc.2.2.1 || q.2.2.1,
        if q.2.2.2.1 then acc.2.2.2.1 ++ [(l.1, q.1)] else acc.2.2.2.1, q.2.2.2.2))
    (0, false, false, [], s)
  let ph := s.physOf b n
  let s1 := r.2.2.2.2
  let s2 := if r.2.2.2.1.isEmpty then s1
    else s1.setBlk b ph (setWb (s1.blk b ph) port (wbOf (s1.blk b ph) port ++ [⟨r.2.2.2.1, 1⟩]))
  (downBundle w r.1 r.2.1 r.2.2.1 false, s2)

/-- The writes of an edge: those of port A over those of port B, word by word (R88); the flip mask goes to port A's write
if both write (R100), and in an x128 write to the codeword of word 2a. DESIGN CHOICE (log entry 72): R100 does not say
which of the two codewords of an x128 write it is. -/
def State.portWritesRun (s : State) (b ph : Nat) (wa wb : List (Nat × Nat × Nat)) : State :=
  let s1 := wa.foldl (fun (acc : Bool × State) (x : Nat × Nat × Nat) =>
    match wb.find? fun (y : Nat × Nat × Nat) => y.1 == x.1 with
    | some y => (false, acc.2.writeWord b ph x.1 (Nat.lor x.2.1 y.2.1) (mergeBytes x.2.1 y.2.2 x.2.2) false acc.1)
    | none => (false, acc.2.writeWord b ph x.1 x.2.1 x.2.2 false acc.1)) (true, s)
  (wb.filter fun (y : Nat × Nat × Nat) => !(wa.any fun (x : Nat × Nat × Nat) => x.1 == y.1)).foldl
    (fun (acc : Bool × State) (y : Nat × Nat × Nat) =>
      (false, acc.2.writeWord b ph y.1 y.2.1 y.2.2 false (acc.1 && wa.isEmpty))) (true, s1.2) |>.2

/-- The bundle a port samples (R85); a suppressed edge of its clock is none (R674). -/
def State.sampled (s : State) (b n port : Nat) (i : PortIn) : Option Nat :=
  if s.edgeSeen b (s.portClock b n port) then
    match i with
    | .noEdge => none
    | .latched => mapGet (fun _ => none) s.planes.portIn (2 * (1024 * b + n) + port)
    | .bundle u => some u
  else none

/-- A fenced access (R106): counted; the first after an activation raises FENCE with its block and word (R108). -/
def State.memFence (s : State) (b n wd : Nat) : State :=
  let s1 := s.inc F.MEMT_FENCE_CNT_COUNT b
  if mapGet (fun _ => false) s.memt.fenced b then s1
  else ({ s1 with memt := { s1.memt with fenced := mapSet (fun _ => false) s1.memt.fenced b true } }).memEvt b 5 sevInfo n wd

/-- What a port's edge comes to before the array is accessed: `none` no edge or a disabled port; else the bundle, and
whether the access is performed. The write-backs and BUSY of the edge are done here, before the reads of either port, so a
read on the edge of the other port's write-back sees the corrected word. DESIGN CHOICE (log entry 72): R88 orders reads and
writes of the ports, not write-backs. -/
def State.portGate (s : State) (b p n port : Nat) (i : PortIn) : Option (Nat × Bool) × State :=
  match s.sampled b n port i with
  | none => (none, s)
  | some u =>
    if s.portEnabled b p n port then
      let ph := s.physOf b n
      let w := bitsOf (s.binding b p n port) 7 2
      let s1 := s.setBlk b ph (ageWb (s.blk b ph) port)
      let wb := s1.serveWb b ph port (ubEn u)
      let s2 := wb.2
      let stolen := (port == 1 || w == 3) && (s2.blk b ph).stolen
      let s3 := if port = 1 ∨ w = 3 then s2.setBlk b ph { s2.blk b ph with stolen := false } else s2
      if !ubEn u then (none, s3.setBlk b ph (pushResult (s3.blk b ph) port 0))
      else if !s.insideFence b p n then (none, (s3.setBlk b ph (pushResult (s3.blk b ph) port 0)).memFence b n
        (((portLanes w (ubAddr u)).head?.map fun (l : Nat × Nat × Nat × Nat) => l.1).getD 0))
      else if wb.1 || stolen || s.blockHeld b n then
        (none, s3.setBlk b ph (pushResult (s3.blk b ph) port (downBundle w 0 false false true)))
      else (some (u, true), s3)
    else (none, s)

/-- One port's read at the edge; a write's RDATA, POISON and CORR read 0 (R86). -/
def State.portReadStep (old s : State) (b p n port : Nat) (g : Option (Nat × Bool)) : State :=
  match g with
  | none => s
  | some (u, _) =>
    let w := bitsOf (s.binding b p n port) 7 2
    let r := if ubWe u then (0, s) else old.portRead s b n port w u
    let ph := s.physOf b n
    r.2.setBlk b ph (pushResult (r.2.blk b ph) port r.1)

def State.gateWrites (s : State) (b p n port : Nat) (g : Option (Nat × Bool)) : List (Nat × Nat × Nat) :=
  match g with
  | some (u, _) => if ubWe u then portWrites (bitsOf (s.binding b p n port) 7 2) u else []
  | none => []

/-- PORT_ACCESS (R86): the edge at which ports A and B of block n sample; `ups` are upsets of the block's words before
it. Both ports read what the block held before the edge's accesses: no write of the edge (R88), and no remap entry that the
other port's read makes (R102). Errors of both ports enter the log and the watch list port A's first, so two errors of one
word on one edge match. DESIGN CHOICE (log entry 72): R101 and R121 do not order them. -/
def State.portAccess (s : State) (b n : Nat) (inA inB : PortIn) (ups : List (Nat × Nat)) : State :=
  match s.activePlane b with
  | none => s
  | some p =>
    if n < 1024 ∧ s.powered (dMem (benchCol b)) = true ∧ s.benchUp b = true then
      let s0 := s.upsetWords b (s.physOf b n) ups
      let ga := s0.portGate b p n 0 inA
      let gb := ga.2.portGate b p n 1 inB
      let s1 := gb.2.portReadStep (gb.2.portReadStep gb.2 b p n 0 ga.1) b p n 1 gb.1
      s1.portWritesRun b (s1.physOf b n) (s.gateWrites b p n 0 ga.1) (s.gateWrites b p n 1 gb.1)
    else s

def execPortAccess (b n : Nat) (inA inB : PortIn) (ups : List (Nat × Nat)) (s : State) : Host.Outcome State Fault Refusal :=
  .next (s.portAccess b n inA inB ups)

/-- CORRECTION_WRITE_BACK (R97): an edge of a port that samples EN = 0 serves a pending write-back. -/
def execCorrectionWriteBack (b n port : Nat) (s : State) : Host.Outcome State Fault Refusal :=
  .next (if n < 1024 ∧ s.powered (dMem (benchCol b)) = true
      ∧ (s.benchUp b = false ∨ s.edgeSeen b (s.portClock b n port) = true) then
    let ph := s.physOf b n
    let s1 := s.setBlk b ph (ageWb (s.blk b ph) port)
    let s2 := (s1.serveWb b ph port false).2
    s2.setBlk b ph (pushResult (s2.blk b ph) port 0)
  else s)

/-! ### Haul accesses (R90 to R92) -/

/-- Fabric cycles before a waiting haul access takes one; `none` for SHARE 0 (R91). -/
def shareLimit (share : Nat) : Option Nat := if share = 0 then none else some ([15, 3, 1].getD (share - 1) 15)

/-- A write-back that takes this port-B cycle before the haul access: any one found by now in an idle cycle, one at its
last edge in a cycle the fabric samples (R91). The port's own command of the edge comes after the haul access's and raises
the ages, so they are one short here. -/
def wbFirst (x : MemBlock) (port : Nat) (fabEn : Bool) : Bool := (dueWb (ageWb x port) port fabEn).isSome

/-- The port that haul accesses of a block use: B, or the paired port in x128 mode (R91). -/
def State.haulPort (s : State) (b n : Nat) : Nat :=
  match s.activePlane b with
  | some p => if bitOf (s.binding b p n 0) 9 = 1 ∧ bitsOf (s.binding b p n 0) 7 2 = 3 then 0 else 1
  | none => 1

def State.memReqs (s : State) (b : Nat) : List MemReq := mapGet (fun _ => []) s.memt.reqs b

/-- Block, word and byte of the next word of a request (R90, R91): a request goes word by word, so one that meets a block
boundary goes on in the next block. -/
def MemReq.place (r : MemReq) : Nat × Nat × Nat := memOffset ((hAddr r.hdr / 8 + r.done) * 8 % 2 ^ 26)

/-- The requests that may be performed now: the first of each source and class (R320). -/
def memFronts : List MemReq → List (Nat × Nat) → List MemReq
  | [], _ => []
  | r :: rest, seen =>
    let k := (hSrc r.hdr, hClass r.hdr)
    if seen.contains k then memFronts rest seen else r :: memFronts rest (k :: seen)

/-- The first 8 different blocks of a list of requests (R91). -/
def memBlocks (l : List MemReq) : List Nat :=
  (l.foldl (fun (acc : List Nat) r => if acc.contains r.place.1 then acc else acc ++ [r.place.1]) []).take 8

/-- The request of a list whose next word waits for block n: the memory port serves 8 blocks at once (R91). -/
def turnOf (reqs : List MemReq) (n : Nat) : Option MemReq :=
  let l := memFronts reqs []
  if (memBlocks l).contains n then l.find? fun r => r.place.1 == n else none

def State.memTurn (s : State) (b n : Nat) : Option MemReq := turnOf (s.memReqs b) n

/-- The share count of a block for which no access waits is 0, from which the next wait begins (R91). -/
def State.waitShares (s : State) (b : Nat) (l : List MemReq) : State :=
  { s with memt := { s.memt with
      blocks := mapUpd (fun _ => {}) (fun k (x : MemBlock) =>
        let n := if k % 1040 < 1024 then k % 1040 else (s.spareOf b (k % 1040 - 1024)).getD 1024
        if k / 1040 = b ∧ (turnOf l n).isNone = true then { x with share := 0 } else x) s.memt.blocks } }

/-- The requests that wait at bench b's memory port. -/
def State.setMemReqs (s : State) (b : Nat) (l : List MemReq) : State :=
  let s1 := s.waitShares b l
  { s1 with memt := { s1.memt with reqs := mapSet (fun _ => []) s1.memt.reqs b l } }

/-- The memory port of bench b answers a request (R92, R310, R311). -/
def State.memAnswer (s : State) (b hdr status : Nat) (data : List (Nat × Bool)) : State :=
  if isNonPosted (hOp hdr) then
    s.inject (memPortId b) (mkHeader (hAddr hdr) (hSrc hdr) (memPortId b) (hTag hdr) clsRsp (hLen hdr) 0
      (if hOp hdr = opRead then opRdata else opWack) status 0) data
  else s

/-- A preload write of load channel n is answered (R238, R245). -/
def State.loadAck (s : State) (n status : Nat) : State :=
  match (mapGet (fun _ => none) s.loads n : Option LoadRun) with
  | none => s
  | some r =>
    let r1 := { r with acks := r.acks - 1, bad := r.bad || decide (2 ≤ status) }
    { s with loads := mapSet (fun _ => none) s.loads n (some r1) }

/-- Every word of a request has been performed: its RDATA with POISON per line and STATUS POISON when a line has it, or its
WACK with POISON when a word was stored poisoned (R92, R676). -/
def State.memEnd (s : State) (b : Nat) (r : MemReq) : State :=
  match r.chan with
  | some n => s.loadAck n stOk
  | none =>
  if hOp r.hdr = opRead then
    let fl := flitsOf (hAddr r.hdr) (hLen r.hdr) r.items
    s.memAnswer b r.hdr (if fl.any fun (f : Nat × Bool) => f.2 then stPoison else stOk) fl
  else s.memAnswer b r.hdr (if r.poison then stPoison else stOk) []

/-- The router of bench b's memory port. -/
def memRouter (b : Nat) : Nat := routerOf (benchCol b) (benchY b + 1) (benchX b)

/-- A packet reaches the memory port of bench b. While its router is retired the port serves none: requests are answered
UNREACHABLE (R331). One whose OP does not match its class, whose data count is not complete,
or whose range is not in the bench's memory is discarded (R307, R310). -/
def State.memArrive (s : State) (b : Nat) (arr : Option (Nat × List (Nat × Bool))) : State :=
  match arr with
  | none => s
  | some (h, fl) =>
    let mine := fun (a : Nat) => match s.haulTarget a with
      | .mem b' _ => b' == b
      | _ => false
    if opMatchesClass (hOp h) (hClass h) && hClass h != clsRsp && mine (hAddr h) && mine (hAddr h + hLen h)
        && decide (packetFlits (hOp h) (hAddr h) (hLen h) 0 ≤ fl.length) then
      if s.flag F.HN_RTR_STAT_RETIRED (memRouter b) then s.memAnswer b h stUnreachable []
      else s.setMemReqs b (s.memReqs b ++ [{ hdr := h, flits := fl }])
    else s

/-- One word of request r is performed (R91, R92, R97, R98, R100). A read's write-back joins the port's buffer at age 0: the
port's command of the same edge follows and raises it. -/
def State.memWordStep (s : State) (b n : Nat) (r : MemReq) : MemReq × State :=
  let ph := s.physOf b n
  let wd := r.place.2.1
  if hOp r.hdr = opRead then
    let q := s.checkedRead b n wd srcHaul
    let s1 := q.2.2.2.2
    let port := s.haulPort b n
    let s2 := if q.2.2.2.1 then
        s1.setBlk b ph (setWb (s1.blk b ph) port (wbOf (s1.blk b ph) port ++ [⟨[(wd, q.1)], 0⟩]))
      else s1
    ({ r with done := r.done + 1, items := r.items ++ [q.1 + b2n q.2.1 * 2 ^ 64] }, s2)
  else
    let w := hAddr r.hdr / 8 + r.done
    let f := r.flits.getD (w / 8 - hAddr r.hdr / 64) (0, false)
    let be := rangeBe (hAddr r.hdr) (hLen r.hdr) r.done
    let data := bitsOf f.1 (64 * (w % 8)) 64
    ({ r with done := r.done + 1, poison := r.poison || (s.writeMerge b ph wd be data f.2).2 },
      s.writeWord b ph wd be data f.2 true)

/-- A waiting access to block n is served: the request goes on, or ends with its last word. -/
def State.memServe (s : State) (b n : Nat) (r : MemReq) : State :=
  let q := s.memWordStep b n r
  if q.1.done < dataItems (hAddr r.hdr) (hLen r.hdr) then
    q.2.setMemReqs b ((q.2.memReqs b).map fun x => if x = r then q.1 else x)
  else (q.2.setMemReqs b ((q.2.memReqs b).erase r)).memEnd b q.1

/-- One port-B cycle of block n in which a haul access may wait; `fabEn` says that fabric port B samples EN = 1 in it, `ups`
are upsets before it. A waiting access is served, or waits on (R91). -/
def State.haulMemory (s : State) (b n : Nat) (fabEn : Bool) (ups : List (Nat × Nat)) : State :=
  match s.memTurn b n with
  | none => s
  | some r =>
    if n < 1024 ∧ s.powered (dMem (benchCol b)) = true ∧ s.blockHeld b n = false then
      let ph := s.physOf b n
      let s0 := s.upsetWords b ph ups
      let x := s0.blk b ph
      let takes := if fabEn then (match shareLimit (s.get F.MEMT_ARB_SHARE b) with
          | none => false
          | some k => decide (k ≤ x.share)) else true
      if wbFirst x (s.haulPort b n) fabEn then s0
      else if !takes then s0.setBlk b ph { x with share := x.share + 1 }
      else (s0.setBlk b ph { x with share := 0, stolen := x.stolen || fabEn }).memServe b n r
    else s

/-- A packet header from its three 64-bit quarters, the lowest first. -/
def headerOf (q0 q1 q2 : Nat) : Nat := q0 % 2 ^ 64 + q1 % 2 ^ 64 * 2 ^ 64 + q2 % 2 ^ 64 * 2 ^ 128

/-- HAUL_MEMORY_ACCESS (R91): a cycle of port B of block n of bench b; with `arr` a request packet has reached the memory port
by then, of header quarters q0 to q2 and data flits `flits`. -/
def execHaulMemoryAccess (b n : Nat) (arr : Bool) (q0 q1 q2 : Nat) (flits : List (Nat × Bool)) (fabEn : Bool)
    (ups : List (Nat × Nat)) (s : State) : Host.Outcome State Fault Refusal :=
  .next (if b < 64 ∧ s.floorReset = 0 ∧ s.powered (dMem (benchCol b)) = true then
    (s.memArrive b (if arr then some (headerOf q0 q1 q2, flits) else none)).haulMemory b n fabEn ups
  else s)

/-- The memory port of bench b answers UNREACHABLE for the requests that satisfy `f` and have not been answered; posted
ones are discarded and counted at its router (R345, R348). -/
def State.memUnreachable (s : State) (b : Nat) (f : MemReq → Bool) : State :=
  let rs := (s.memReqs b).filter f
  let s1 := s.setMemReqs b ((s.memReqs b).filter fun r => !f r)
  rs.foldl (fun s r =>
    match r.chan with
    | some n => s.loadAck n stUnreachable
    | none =>
    if isNonPosted (hOp r.hdr) then s.memAnswer b r.hdr stUnreachable []
    else s.inc F.HN_DARK_DARK_DROP (memRouter b)) s1

/-! ### Patrol (R105) -/

/-- The engine reads its next word, from its remap entry if it has one; a correctable word is written back in the same cycle;
invalid words and held blocks are passed over. -/
def State.patrolRead (s : State) (b : Nat) (ups : List (Nat × Nat)) : State :=
  let ptr := mapGet (fun _ => 0) s.memt.patrol b
  let n := ptr / 8192
  let wd := ptr % 8192
  let ph := s.physOf b n
  let s0 := s.upsetWords b ph ups
  let s1 := if s.blockHeld b n || (s0.memWord b ph wd).isNone then s0
    else
      let q := s0.checkedRead b n wd srcPatrol
      if q.2.2.2.1 then q.2.2.2.2.writeBack b ph ⟨[(wd, q.1)], 0⟩ else q.2.2.2.2
  let nxt := (ptr + 1) % (1024 * 8192)
  let s2 := { s1 with memt := { s1.memt with patrol := mapSet (fun _ => 0) s1.memt.patrol b nxt } }
  let s3 := s2.set F.MEMT_PATROL_STAT_BLOCK b (nxt / 8192)
  if nxt = 0 then s3.incWrap F.MEMT_PATROL_STAT_PASSES b 1 else s3

/-- The block that the patrol engine of bench b reads next. -/
def State.patrolBlock (s : State) (b : Nat) : Nat := mapGet (fun _ => 0) s.memt.patrol b / 8192

/-- The interval of the patrol's steps, in ns: PERIOD_S seconds over the 8,388,608 words of a region; 0 is treated as 1
(R105, R116). -/
def State.patrolGap (s : State) : Nat := max 1 (s.get F.MEMT_PATROL_CTL_PERIOD_S 0) * 1000000000 / 8388608

/-- A step has been due for `ns` of device time (R105). -/
def State.patrolDue (s : State) (b ns : Nat) : Bool := s.timerDue (tmPatrol b) (s.patrolGap + ns)

/-- The next step is counted from when this one was due; a patrol that has fallen behind by a whole interval counts from now
(R105, log entry 72). -/
def State.patrolNext (s : State) (b : Nat) : State :=
  if s.patrolDue b s.patrolGap then s.startTimer (tmPatrol b)
  else s.setTimer (tmPatrol b) (mapGet (fun _ => 0) s.timers (tmPatrol b) + s.patrolGap)

/-- Whether an idle cycle of block n's port B goes to the patrol: no write-back is due and no haul access waits (R91). -/
def State.patrolTurn (s : State) (b n : Nat) : Bool :=
  !wbFirst (s.blk b (s.physOf b n)) (s.haulPort b n) false && (s.memTurn b n).isNone

/-- PATROL_STEP (R105): a step that is due, in an idle port-B cycle, third in the order of R91. -/
def execPatrolStep (b : Nat) (ups : List (Nat × Nat)) (s : State) : Host.Outcome State Fault Refusal :=
  .next (if s.flag F.MEMT_PATROL_CTL_EN 0 && s.powered (dMem (benchCol b)) && s.patrolDue b 0
      && s.patrolTurn b (s.patrolBlock b) then
    (s.patrolRead b ups).patrolNext b else s)

/-- Whether the active plane has bound the port of block n that the haul network and the patrol share (R91). -/
def State.sharedPortOn (s : State) (b n : Nat) : Bool :=
  match s.activePlane b with
  | some p => s.portEnabled b p n (s.haulPort b n)
  | none => false

/-- PATROL_FORCED_CYCLE (R105): no idle cycle came within 1 ms from when a step was due; the engine takes one, and the fabric access sampled in it
returns BUSY. With the port unbound there is no such access. -/
def execPatrolForcedCycle (b : Nat) (ups : List (Nat × Nat)) (s : State) : Host.Outcome State Fault Refusal :=
  .next (if s.flag F.MEMT_PATROL_CTL_EN 0 && s.powered (dMem (benchCol b)) && s.patrolDue b 1000000 then
    let n := s.patrolBlock b
    let ph := s.physOf b n
    let s1 := (s.patrolRead b ups).patrolNext b
    if s.sharedPortOn b n then s1.setBlk b ph { s1.blk b ph with stolen := true } else s1
  else s)

/-! ### Retirement, invalidate, flip mask -/

/-- A word as the copy engine writes it to the spare (R103): corrected, or poison. -/
def copyCode (cw : Nat) : Nat := let o := eccDecode cw; if o.kind = .bad then poisonEncode o.data else eccEncode o.data

/-- Words of the blocks whose key satisfies `f` become invalid: codewords and copies of the valid bit. -/
def Memt.erase (x : Memt) (f : Nat → Bool) : Memt :=
  { x with words := mapKeep (fun k => !f (k / 8192)) x.words, vbits := mapKeep (fun k => !f (k / 8192)) x.vbits }

/-- Words of block `from_` copied to block `to_`, with valid bits as they read. -/
def State.copyWords (s : State) (b from_ to_ : Nat) : State :=
  let keys := (s.memt.words.map fun (e : Nat × Option Nat) => e.1) ++ s.memt.vbits.map fun (e : Nat × Option Nat) => e.1
  let s1 := { s with memt := s.memt.erase fun k => k == blkKey b to_ }
  (keys.filter fun k => k / 8192 == blkKey b from_).foldl (fun t k =>
    t.setArrayWord b to_ (k % 8192) ((s.arrayWord b from_ (k % 8192)).map copyCode)) s1

/-- BLOCK_RETIRE_DONE (R103): the spare takes the block's place with the results still on their way to the ports; RETIRE is
raised and the spoil list extended. A flip mask belongs to the physical block it was armed in: neither the block's nor the
spare's moves. DESIGN CHOICE (log entry 72): the spec does not say whether an armed mask follows the block. The watch list is
emptied: R103 moves words and remap entries only. DESIGN CHOICE (log entry 72). -/
def execBlockRetireDone (b n : Nat) (s : State) : Host.Outcome State Fault Refusal :=
  .next (if (s.blk b n).copying then
    let k := n / 64
    let x := s.blk b n
    let s1 := s.copyWords b n (1024 + k)
    let s2 := s1.setBlk b (1024 + k) { x with
      remap := x.remap.map fun e => { e with cw := e.cw.map copyCode }, mask := (s1.blk b (1024 + k)).mask
      watch := [], wbA := [], wbB := [], copying := false }
    let s3 := s2.setBlk b n { ({} : MemBlock) with mask := x.mask }
    let s4 := { s3 with memt := { s3.memt with spares := mapSet (fun _ => none) s3.memt.spares (16 * b + k) (some n) } }
    (s4.memEvt b 3 sevNotice n 0).spoilAdd 7 0 (b * 2 ^ 24 + n * 2 ^ 13)
  else s)

/-- A MEMT_INV write for bench b (R94, R114). -/
def State.invWrite (s : State) (b : Nat) (v : Word) : State :=
  let first := fldOf F.MEMT_INV_FIRST v
  let m1 := fldOf F.MEMT_INV_COUNT_M1 v
  let s1 := s.plainWrite .MEMT_INV b v
  if fldOf F.MEMT_INV_START v = 0 then s1
  else if s.flag F.MEMT_INV_ACTIVE b || decide (1023 < first + m1) then
    let s2 := if s.flag F.MEMT_INV_ACTIVE b then s1.set F.MEMT_INV_BUSY_ERR b 1 else s1
    if 1023 < first + m1 then s2.set F.MEMT_INV_RANGE_ERR b 1 else s2
  else
    let s2 := ((s1.set F.MEMT_INV_RANGE_ERR b 0).set F.MEMT_INV_BUSY_ERR b 0).set F.MEMT_INV_ACTIVE b 1
    { s2 with memt := { s2.memt with inv := mapSet (fun _ => none) s2.memt.inv b (some (first, m1)) } }

/-- The bench that the per-bench memory registers act on (R110). -/
def State.memtBench (s : State) : Nat := s.get F.MEMT_SEL_BENCH 0

/-- MEMT_INV_START (R114). -/
def execMemtInvStart (src : Src) (v : Word) (s : State) : Host.Outcome State Fault Refusal :=
  .next (if s.mayWrite src .MEMT_INV s.memtBench then s.invWrite s.memtBench v else s)

/-- BULK_INVALIDATE_DONE (R94): valid bits of words and remap entries clear, watch lists and write-backs are emptied, in
the range and in the spares of its retired blocks; flip masks stay. The INV_DONE entry carries FIRST as its block number:
R108 and R614 do not say which block of a range it is. DESIGN CHOICE (log entry 72). -/
def execBulkInvalidateDone (b : Nat) (s : State) : Host.Outcome State Fault Refusal :=
  .next (match (mapGet (fun _ => none) s.memt.inv b : Option (Nat × Nat)) with
    | none => s
    | some (first, m1) =>
      let hit := fun (k : Nat) => k / 1040 == b &&
        (let n := k % 1040
         if n < 1024 then decide (first ≤ n ∧ n ≤ first + m1)
         else match s.spareOf b (n - 1024) with
           | some q => decide (first ≤ q ∧ q ≤ first + m1)
           | none => false)
      let s1 := { s with memt := { s.memt.erase hit with
          blocks := mapUpd (fun _ => {}) (fun k (x : MemBlock) => if hit k then
            { x with watch := [], wbA := [], wbB := [], remap := x.remap.map fun (e : RemapEnt) => ({ e with cw := none } : RemapEnt) } else x)
            s.memt.blocks
          inv := mapSet (fun _ => none) s.memt.inv b none } }
      (s1.set F.MEMT_INV_ACTIVE b 0).memEvt b 6 sevInfo first 0)

/-- A MEMT_FLIP_2 write (R112): ARM loads the 72 staged bits into the selected block's mask; an all-zero mask arms nothing. The
mask belongs to the physical block of the number selected, also where that block has been retired: the spare that stands in
for it is armed under its own number, 1024 + k. DESIGN CHOICE (log entry 72). -/
def State.flipWrite (s : State) (v : Word) : State :=
  let s1 := s.plainWrite .MEMT_FLIP_2 0 v
  let m := s1.get F.MEMT_FLIP_0_MASK_LO 0 + s1.get F.MEMT_FLIP_1_MASK_MID 0 * 2 ^ 32 + s1.get F.MEMT_FLIP_2_MASK_HI 0 * 2 ^ 64
  let n := s.get F.MEMT_SEL_BLOCK 0
  if fldOf F.MEMT_FLIP_2_ARM v = 1 ∧ n < 1040 ∧ m ≠ 0 then
    s1.setBlk s.memtBench n { s1.blk s.memtBench n with mask := m }
  else s1

/-- MEMT_FLIP_ARM (R112). -/
def execMemtFlipArm (src : Src) (v : Word) (s : State) : Host.Outcome State Fault Refusal :=
  .next (if s.mayWrite src .MEMT_FLIP_2 0 then s.flipWrite v else s)

/-! ### Power (R109) -/

/-- PD_MEM_c powers up: words, watch lists, write-backs and masks are cleared, and the remap tables and retirements of the
spoil list applied; the patrols of its benches start. -/
def State.memPowerUp (s : State) (c : Nat) : State :=
  let s := (upTo 16).foldl (fun s i => s.startTimer (tmPatrol (16 * c + i))) s
  let s1 := { s with memt := { s.memt.erase (fun k => k / 1040 / 16 == c) with
      reqs := mapKeep (fun k => k / 16 != c) s.memt.reqs
      blocks := mapKeep (fun k => k / 1040 / 16 != c) s.memt.blocks
      spares := mapKeep (fun k => k / 256 != c) s.memt.spares
      inv := mapKeep (fun k => k / 16 != c) s.memt.inv
      fenced := mapKeep (fun k => k / 16 != c) s.memt.fenced
      patrol := mapKeep (fun k => k / 16 != c) s.memt.patrol } }
  s.nvs.spoil.foldl (fun t e =>
    let b := bitsOf e.id 24 6
    let n := bitsOf e.id 13 11
    let wd := bitsOf e.id 0 13
    if b / 16 ≠ c then t
    else if e.type = 6 then
      let x := t.blk b n
      if x.remap.length < 8 ∧ (remapFind x wd).isNone = true then
        t.setBlk b n { x with remap := x.remap ++ [⟨wd, none⟩] } else t
    else if e.type = 7 ∧ n < 1024 then
      { t with memt := { t.memt with spares := mapSet (fun _ => none) t.memt.spares (16 * b + n / 64) (some n) } }
    else t) s1

/-! ### Read-outs -/

/-- MEMT_BLK_STAT of the selected block (R111). -/
def State.readBlkStat (s : State) : Nat :=
  let b := s.memtBench
  let n := s.get F.MEMT_SEL_BLOCK 0
  if 1039 < n then 2 ^ 31
  else
    let x := s.blk b n
    let retired := n < 1024 ∧ s.spareOf b (n / 64) = some n
    let used := if n < 1024 then none else s.spareOf b (n - 1024)
    let held := match mapGet (fun _ => none) s.memt.inv b with
      | some (first, m1) => (match used with
        | some q => decide (first ≤ q ∧ q ≤ first + m1)
        | none => decide (first ≤ n ∧ n ≤ first + m1))
      | none => false
    b2n (decide retired) * 2 ^ 30 + b2n x.degraded * 2 ^ 29 + b2n used.isSome * 2 ^ 28 + b2n held * 2 ^ 27
      + x.remap.length * 2 ^ 20 + (if retired then 1024 + n / 64 else used.getD 0)

/-- MEMT_REMAP_VAL of the selected entry (R113). -/
def State.readRemapVal (s : State) : Nat :=
  let n := s.get F.MEMT_SEL_BLOCK 0
  if 1039 < n then 0
  else match (s.blk s.memtBench n).remap[s.get F.MEMT_REMAP_IDX_ENTRY 0]? with
    | none => 0
    | some e =>
      let p := match e.cw with | some cw => (eccDecode cw).kind == EccKind.bad | none => false
      2 ^ 31 + b2n p * 2 ^ 30 + e.word

/-- PENDING of MEMT_FLIP_2: the selected block's mask is armed (R112). -/
def State.readFlipPending (s : State) : Nat :=
  let n := s.get F.MEMT_SEL_BLOCK 0
  if n < 1040 ∧ (s.blk s.memtBench n).mask ≠ 0 then 1 else 0

end Sys2Proof.Machine
end

