-- ==== Sys2Proof/Machine/Hopper.lean ====
section
/-!
DEFINITION. Hoppers (R122 to R149): write and read sides, packet mode, pointers, flush, ownership and tail timeout.
Hopper h of bench b is number j = 32·b + h.
-/

namespace Sys2Proof.Machine

def State.hop (s : State) (j : Nat) : Hopper := mapGet (fun _ => {}) s.hoppers j
def State.setHop (s : State) (j : Nat) (x : Hopper) : State := { s with hoppers := mapSet (fun _ => {}) s.hoppers j x }

/-- Capacity (R123). -/
def State.hopCap (s : State) (j : Nat) : Nat := 16 * 2 ^ min 8 (s.get F.HOP_CFG_DEPTH j)

def wcount (x : Hopper) : Nat := x.wr - x.rdSeen
def rcount (x : Hopper) : Nat := x.pubSeen - x.rd

/-- FLUSH_BUSY (R134). -/
def flushBusy (x : Hopper) : Bool := x.flushW || x.flushR || x.flushP

/-- A hopper event (R139). -/
def State.hopEvt (s : State) (j : Nat) (f : Fld) : State :=
  let s1 := s.set f j 1
  if bitOf (s.get F.HOP_EVT_EN_EN j) f.lo = 1 then s1.raiseBench (j / 32) 4 else s1

/-! ### Sides of code 6 (R275, R276) -/

/-- The field of lane j in an octet word, its MODE and WIDTH (R440). -/
def octField (v j : Nat) : Nat := bitsOf v (4 * j) 4
def octMode (f : Nat) : Nat := f / 4
def octWidth (f : Nat) : Nat := 2 ^ (f % 4)

/-- MODE of lane n: 0 OFF, 1 ETH, 2 RAW66, 3 RAWSYM. -/
def State.laneMode (s : State) (n : Nat) : Nat := octMode (octField (s.reg .ETH_OCT_CFG (n / 8)).toNat (n % 8))
def State.isEth (s : State) (n : Nat) : Bool := s.laneMode n == 1
def State.isRaw (s : State) (n : Nat) : Bool := decide (2 ≤ s.laneMode n)
/-- Lanes of the machine that lane n belongs to: a port's lanes, or the lane alone. -/
def State.portWidth (s : State) (n : Nat) : Nat :=
  if s.isEth n then octWidth (octField (s.reg .ETH_OCT_CFG (n / 8)).toNat (n % 8)) else 1
/-- The lane whose registers and machine serve lane n: a port's first lane (R440, R451). -/
def State.laneHead (s : State) (n : Nat) : Nat := n - n % 8 % s.portWidth n
def State.machineLanes (s : State) (h : Nat) : List Nat := (upTo (s.portWidth h)).map fun i => h + i

/-- Whether the bench of hopper j holds the bits of every lane of the stream (R275). -/
def State.wayFenced (s : State) (n j : Nat) (rx : Bool) : Bool :=
  !(s.machineLanes n).all fun i => s.laneBit (j / 32) i rx

/-- Whether a side of hopper j that a floor endpoint drives is stopped: a floor reset holds it (R138), or code 6 names a
lane stream whose bits the bench no longer holds (R276) or whose octet is powered down (R438). -/
def State.sideStopped (s : State) (j : Nat) (rx : Bool) : Bool :=
  let f := if rx then F.HOP_CFG_WR_SRC else F.HOP_CFG_RD_SRC
  decide (s.floorReset ≠ 0) || (s.get f j == 6 && (s.wayFenced (s.get F.HOP_CFG_LANE j) j rx
    || !s.powered (dEth (s.get F.HOP_CFG_LANE j / 8))))

/-! ### Flush (R134) -/

/-- A flush reaches the hopper: both sides have it before them. -/
def restartFlush (x : Hopper) : Hopper := { x with flushW := true, flushR := true, flushP := true }

/-- FLUSH is written: while FLUSH_BUSY it is merged into the flush that runs. The flush that is part of a change of
configuration or owner (R126, R137) is never merged: it starts anew (log entry 63). -/
def startFlush (x : Hopper) : Hopper := if flushBusy x then x else restartFlush x

/-- FW: what was written is discarded; a writer inside a packet has the rest of it discarded. -/
def flushAtW (x : Hopper) : Hopper :=
  if x.flushW then
    { x with flushW := false, slots := [], point := x.wr, pub := x.wr, pubFly := [x.wr], rdSeen := x.wr, rdFly := [],
             discard := x.discard || x.wopen.isSome, wopen := none }
  else x

/-- FR: the read side sees EMPTY; a reader inside a packet is owed a cut end, and what a haul port had read of a transfer
that it had not taken yet is discarded with the rest. A raised TAIL stays raised: no second one comes until a read has
occurred (R135). -/
def flushAtR (x : Hopper) : Hopper :=
  if x.flushR then
    { x with flushR := false, pubSeen := x.rd, cutEnd := x.cutEnd || x.ropen.isSome, ropen := none, asm := [],
             asmLen := none, tail := 0 }
  else x

/-! ### Write side (R127 to R133) -/

/-- Whether an edge of one side of hopper j can be: a side on a bench clock has the unsuppressed edges of that clock (R125,
R674). -/
def State.sideEdge (s : State) (j : Nat) (read : Bool) : Bool :=
  let c := s.get (if read then F.HOP_CFG_RD_SRC else F.HOP_CFG_WR_SRC) j
  decide (4 ≤ c) || s.edgeSeen (j / 32) c

/-- A fenced access: the first after an activation raises FENCE (R136). -/
def State.hopFence (s : State) (j : Nat) : State :=
  if (s.hop j).fenced then s else (s.setHop j { s.hop j with fenced := true }).hopEvt j F.HOP_EVT_FENCE

/-- Publish what has been written (R129, R131). -/
def publish (x : Hopper) : Hopper := { x with pub := x.wr, pubFly := x.pubFly ++ [x.wr] }

/-- The reserved slot of the open packet of n items takes its length word, and the packet is published (R131 to R133). -/
def closePacket (x : Hopper) (cut : Bool) (n : Nat) : Hopper :=
  publish { x with slots := x.slots.set (x.slots.length - n - 1) (.length cut n), wopen := none }

/-- A packet is cut: counted and raised (R133). -/
def State.hopCut (s : State) (j : Nat) (x : Hopper) (n : Nat) : State :=
  ((s.setHop j (closePacket x true n)).inc F.HOP_ERRCNT_CUT_CNT j).hopEvt j F.HOP_EVT_CUT

/-- A raw offer is dropped (R127). -/
def State.hopDrop (s : State) (j : Nat) : State := (s.inc F.HOP_ERRCNT_DROP_CNT j).hopEvt j F.HOP_EVT_OVF

/-- A write outside packet mode. -/
def State.hopWritePlain (s : State) (j data : Nat) : State :=
  let x := s.hop j
  if wcount x < s.hopCap j then s.setHop j (publish { x with slots := x.slots ++ [.data data], wr := x.wr + 1 })
  else if s.flag F.HOP_CFG_WR_RAW j then s.hopDrop j
  else s

/-- A write in packet mode with no packet open (R128, R131). -/
def State.hopOpen (s : State) (j data : Nat) (eop : Bool) : State :=
  let x := s.hop j
  if wcount x + 2 ≤ s.hopCap j then
    let y := { x with slots := x.slots ++ [.length false 0, .data data], wr := x.wr + 2, wopen := some 1 }
    s.setHop j (if eop then closePacket y false 1 else y)
  else if s.flag F.HOP_CFG_WR_RAW j then s.hopDrop j
  else s

/-- A write in packet mode inside an open packet of n items (R128, R131, R133). -/
def State.hopContinue (s : State) (j data n : Nat) (sop eop : Bool) : State :=
  let x := s.hop j
  let cap := s.hopCap j
  if n + 1 = cap then
    -- item number equal to the capacity: accepted, discarded, and the packet is cut; a WSOP opens the next one. DESIGN CHOICE
    -- (log entry 35): a raw offer with WSOP that finds WCOUNT at the capacity is dropped, cuts the open packet, and the rest
    -- of the new packet is discarded with it
    let s1 := s.hopCut j x n
    if sop then s1.hopOpen j data eop else s1.setHop j { s1.hop j with discard := !eop }
  else if wcount x < cap then
    if sop then (s.hopCut j x n).hopOpen j data eop
    else
      let y := { x with slots := x.slots ++ [.data data], wr := x.wr + 1, wopen := some (n + 1) }
      s.setHop j (if eop then closePacket y false (n + 1) else y)
  else if s.flag F.HOP_CFG_WR_RAW j then
    let s1 := (s.hopDrop j).hopCut j x n
    s1.setHop j { s1.hop j with discard := !eop }
  else s

/-- WREADY of the write side, and so the inverse of WFULL (R127, R128): it has its first edge after a flush behind it. -/
def State.hopAccepts (s : State) (j : Nat) : Bool :=
  let x := flushAtW (s.hop j)
  x.discard || (if !s.flag F.HOP_CFG_PKT j then decide (wcount x < s.hopCap j)
    else match x.wopen with
      | none => decide (wcount x + 2 ≤ s.hopCap j)
      | some n => n + 1 == s.hopCap j || decide (wcount x < s.hopCap j))

/-- An item at the write side (R127, R128, R131, R133). While the rest of a cut or flushed packet is discarded, a write
with WSOP is discarded like any other of its writes, and only one with WEOP ends the discarding: the spec says what
happens "through the one with WEOP = 1" and names no other end (log entry 71). -/
def State.hopWrite (s : State) (j data : Nat) (sop eop : Bool) : State :=
  let s0 := s.setHop j (flushAtW (s.hop j))
  let x := s0.hop j
  let d := data % 2 ^ s.hopWidth j
  if x.discard then (if eop then s0.setHop j { x with discard := false } else s0)
  else if !s.flag F.HOP_CFG_PKT j then s0.hopWritePlain j d
  else match x.wopen with
    | none => s0.hopOpen j d eop
    | some n => s0.hopContinue j d n sop eop

/-- HOPPER_WRITE (R127): an edge of the write side with WVALID or WEN at 1. A fabric side's data lines are its boundary
cell's, which holds them while the bench is offline (R173). -/
def execHopperWrite (b h data : Nat) (sop eop : Bool) (s : State) : Host.Outcome State Fault Refusal :=
  let j := 32 * b + h
  .next (if b < 64 ∧ h < 32 ∧ s.benchUp b = true ∧ s.hopSlave j = false ∧ s.sideEdge j false = true then
    if s.get F.HOP_CFG_WR_SRC j < 4 then
      match s.hopFabric j with
      | none => s
      | some true =>
        (s.setBnd j (data % 2 ^ s.hopWidth j + 2 ^ 144 * b2n sop + 2 ^ 145 * b2n eop)).hopWrite j data sop eop
      | some false => s.hopFence j
    else if s.sideStopped j true then s
    else s.hopWrite j data sop eop
  else s)

/-! ### Read side (R127, R129) -/

/-- A length word (R132). -/
def lengthWord (cut : Bool) (n : Nat) : Nat := n % 2 ^ 12 + b2n cut * 2 ^ 71

/-- The reader after an item: inside the packet until its data items are taken (R134). -/
def readerNext (x : Hopper) (i : HopSlot) : Option Nat :=
  match i with
  | .length _ n => if n = 0 then none else some n
  | .data _ => match x.ropen with
    | some (k + 2) => some (k + 1)
    | _ => none

/-- What a read takes (R127, R134). -/
inductive HopTake where
  | nothing
  | cutEnd
  | item (i : HopSlot)
  deriving DecidableEq, Repr

/-- A read of the hopper: the cut end that is owed, else the next readable slot. -/
def readItem (x0 : Hopper) : HopTake × Hopper :=
  let x := flushAtR x0
  if x.cutEnd then (.cutEnd, { x with cutEnd := false, tailed := false, tail := 0 })
  else if rcount x = 0 then (.nothing, x)
  else match x.slots with
    | [] => (.nothing, x)
    | i :: rest =>
      (.item i, { x with slots := rest, rd := x.rd + 1, rdFly := x.rdFly ++ [x.rd + 1], ropen := readerNext x i,
                         tailed := false, tail := 0 })

/-- RVALID of the read side, and so the inverse of REMPTY (R127): an item or a cut end can be taken. -/
def State.hopRvalid (s : State) (j : Nat) : Bool :=
  let x := flushAtR (s.hop j)
  x.cutEnd || rcount x != 0

/-- What a read port shows with nothing readable: a raw one its idle item with RVALID and RKIND 0, a stalling one nothing
(R127, R138). -/
def State.hopIdleShown (s : State) (j : Nat) : State :=
  if s.flag F.HOP_CFG_RD_RAW j then s.emit (.hopIdle (j / 32) (j % 32) (s.idleItem j)) else s

/-- A read that may take an item (R127). -/
def State.hopRead (s : State) (j : Nat) : State :=
  let r := readItem (s.hop j)
  let s1 := s.setHop j r.2
  match r.1 with
  | .nothing => s1.hopIdleShown j
  | .cutEnd => s1.emit (.hopItem (j / 32) (j % 32) 2 0)
  | .item (.data v) => s1.emit (.hopItem (j / 32) (j % 32) 0 v)
  | .item (.length cut n) => s1.emit (.hopItem (j / 32) (j % 32) 1 (lengthWord cut n))

/-- HOPPER_READ (R127): an edge of the read side with RREADY or REN at 1. To a plane that does not own it the hopper has
nothing readable (R136); a stopped side shows the idle item at a raw port (R138). -/
def execHopperRead (b h : Nat) (s : State) : Host.Outcome State Fault Refusal :=
  let j := 32 * b + h
  .next (if b < 64 ∧ h < 32 ∧ s.benchUp b = true ∧ s.hopSlave j = false ∧ s.sideEdge j true = true then
    if s.get F.HOP_CFG_RD_SRC j < 4 then
      match s.hopFabric j with
      | none => s
      | some true => s.hopRead j
      | some false => (s.hopFence j).hopIdleShown j
    else if s.sideStopped j false then s.hopIdleShown j
    else s.hopRead j
  else s)

/-! ### Pointers, flush, tail -/

/-- A pointer reaches the read side: until the flush point has, only it counts (R130, R134). -/
def syncRead (x : Hopper) : Hopper :=
  match x.pubFly with
  | [] => x
  | p :: rest =>
    if x.flushP then
      if !x.flushW && p == x.point then
        let y := flushAtR x
        { y with pubFly := rest, rd := p, pubSeen := p, flushP := false }
      else { x with pubFly := rest }
    else { x with pubFly := rest, pubSeen := p }

/-- A pointer reaches the write side (R130). -/
def syncWrite (x : Hopper) : Hopper :=
  match x.rdFly with
  | [] => x
  | p :: rest => { x with rdFly := rest, rdSeen := max x.rdSeen p }

/-- HOPPER_FLUSH (R134): a HOP_CTL_h write. -/
def execHopperFlush (src : Src) (b h : Nat) (v : Word) (s : State) : Host.Outcome State Fault Refusal :=
  let j := 32 * b + h
  .next (if h < 32 ∧ s.mayWrite src .HOP_CTL j = true ∧ fldOf F.HOP_CTL_FLUSH v = 1 ∧ s.hopSlave j = false then
    s.setHop j (startFlush (s.hop j)) else s)

/-- HOPPER_FLUSH_APPLY (R134): the first edge of one side after the flush reached the hopper. -/
def execHopperFlushApply (b h : Nat) (readSide : Bool) (s : State) : Host.Outcome State Fault Refusal :=
  let j := 32 * b + h
  .next (if b < 64 ∧ h < 32 ∧ s.benchUp b = true ∧ s.sideEdge j readSide = true then
    s.setHop j (if readSide then flushAtR (s.hop j) else flushAtW (s.hop j)) else s)

/-- `n` cycles of the read side of hopper j pass with something readable and nothing read (R135). -/
def State.tailCycles (s : State) (j n : Nat) : State :=
  if s.get F.HOP_TAIL_TAIL_EXP j ≠ 0 ∧ rcount (s.hop j) ≠ 0 then s.setHop j { s.hop j with tail := (s.hop j).tail + n } else s

/-- An edge of bench clock `clk` is a cycle of the read sides it clocks whose owner is active; the count of the others holds
(R135). -/
def State.tailEdge (s : State) (b clk : Nat) : State :=
  (upTo 32).foldl (fun t h =>
    if t.get F.HOP_CFG_RD_SRC (32 * b + h) = clk ∧ t.hopFabric (32 * b + h) = some true then t.tailCycles (32 * b + h) 1 else t) s

/-- Cycles of the haul clock of the bench's column in `ns`, for the read sides that the haul ports clock (R125, R135). -/
def State.tailTime (s : State) (ns : Nat) : State :=
  (s.hoppers.map fun (e : Nat × Hopper) => e.1).foldl (fun t j =>
    if t.get F.HOP_CFG_RD_SRC j = 4 ∨ t.get F.HOP_CFG_RD_SRC j = 5 then t.tailCycles j (s.haulCycles (benchCol (j / 32)) ns) else t) s

/-- HOPPER_TAIL_TIMEOUT (R135): the count of read-side cycles reaches 2^TAIL_EXP. The clock of a lane stream is not counted:
there the command comes at its time (log entry 66). -/
def execHopperTailTimeout (b h : Nat) (s : State) : Host.Outcome State Fault Refusal :=
  let j := 32 * b + h
  let x := s.hop j
  let dark := s.get F.HOP_CFG_RD_SRC j == 6 && !s.powered (dEth (s.get F.HOP_CFG_LANE j / 8))
  let runs := (decide (4 ≤ s.get F.HOP_CFG_RD_SRC j) && !dark) || s.hopFabric j == some true
  let due := s.get F.HOP_CFG_RD_SRC j == 6 || decide (2 ^ s.get F.HOP_TAIL_TAIL_EXP j ≤ x.tail)
  .next (if b < 64 ∧ h < 32 ∧ s.benchUp b = true ∧ s.get F.HOP_TAIL_TAIL_EXP j ≠ 0 ∧ rcount x ≠ 0 ∧ x.tailed = false
      ∧ runs = true ∧ due = true ∧ s.hopSlave j = false then
    (s.setHop j { x with tailed := true }).hopEvt j F.HOP_EVT_TAIL else s)

/-! ### Edges of the bench clocks -/

/-- FABRIC_CLOCK_EDGE (R50): the bench clocks `edges`, as (bench, clock), generate an edge together; one that is suppressed
reaches nothing (R674). `late` names, by bench, the LE groups (sett, group) whose asynchronous reset is released inside the
window of R51. The commands of a bench that name an edge of a bench clock name one that acts; those of the same edge follow
this command (log entry 69). -/
def execFabricClockEdge (edges : List (Nat × Nat)) (late : List (Nat × Nat × Nat)) (s : State) :
    Host.Outcome State Fault Refusal :=
  let s1 := edges.foldl (fun acc (e : Nat × Nat) =>
    s.benchEdge acc e.1 e.2 ((late.filter fun (x : Nat × Nat × Nat) => x.1 == e.1).map fun (x : Nat × Nat × Nat) => x.2)) s
  let s2 := edges.foldl (fun acc (e : Nat × Nat) => if s.edgeActs e.1 e.2 then acc.tailEdge e.1 e.2 else acc) s1
  let s3 := edges.foldl (fun acc (e : Nat × Nat) => s.countEdge acc e.1 e.2) s2
  .next { s3 with freeCtr := s3.freeCtr + 1 }

/-! ### Configuration and owner -/

/-- Whether a HOP_CFG_h write is refused (R126). -/
def State.hopCfgRefused (s : State) (b : Nat) (v : Word) : Bool :=
  let w := fldOf F.HOP_CFG_WR_SRC v
  let r := fldOf F.HOP_CFG_RD_SRC v
  let lane := fldOf F.HOP_CFG_LANE v
  (decide (4 ≤ w) && decide (4 ≤ r)) || w == 7 || r == 7 || (w == 6 && !s.laneBit b lane true)
    || (r == 6 && !s.laneBit b lane false)

/-- A HOP_CFG_h write (R126, R140): a changed field flushes the hopper, a changed PAIR both hoppers of the pair. PAIR on
an odd hopper is reserved (R124). -/
def State.hopCfgWrite (s : State) (j : Nat) (v : Word) : State :=
  if s.hopCfgRefused (j / 32) v then s.set F.HOP_STAT_CFG_ERR j 1
  else
    let s1 := s.plainWrite .HOP_CFG j (if j % 2 = 1 then v &&& 0x7FFFFFFF else v)
    let s2 := s1.set F.HOP_CFG_DEPTH j (min 8 (fldOf F.HOP_CFG_DEPTH v))
    if s2.reg .HOP_CFG j = s.reg .HOP_CFG j ∨ s.hopSlave j = true then s2
    else
      let s3 := s2.setHop j (restartFlush (s2.hop j))
      if s2.get F.HOP_CFG_PAIR j = s.get F.HOP_CFG_PAIR j then s3
      else s3.setHop (j + 1) (restartFlush (s3.hop (j + 1)))

/-- HOP_CFG_WRITE (R126). In a pair the odd hopper's control registers are ignored (R124): a write to them is stored. -/
def execHopCfgWrite (src : Src) (b h : Nat) (v : Word) (s : State) : Host.Outcome State Fault Refusal :=
  .next (if h < 32 ∧ s.mayWrite src .HOP_CFG (32 * b + h) = true then s.hopCfgWrite (32 * b + h) v else s)

/-- A HOP_OWNER_h write (R137). -/
def State.hopOwnerWrite (s : State) (j : Nat) (v : Word) : State :=
  let s1 := s.plainWrite .HOP_OWNER j v
  if s1.reg .HOP_OWNER j = s.reg .HOP_OWNER j ∨ s.hopSlave j = true then s1 else s1.setHop j (restartFlush (s1.hop j))

/-- HOP_OWNER_WRITE (R137). -/
def execHopOwnerWrite (src : Src) (b h : Nat) (v : Word) (s : State) : Host.Outcome State Fault Refusal :=
  .next (if h < 32 ∧ s.mayWrite src .HOP_OWNER (32 * b + h) = true then s.hopOwnerWrite (32 * b + h) v else s)

/-! ### Read-outs -/

/-- HOP_STAT_h (R129, R142). A level above the capacity keeps AFULL at 0 (R144). -/
def State.readHopStat (s : State) (j : Nat) : Nat :=
  if s.hopSlave j then 0
  else
    let x := s.hop j
    b2n (wcount x == s.hopCap j) * 2 ^ 31 + b2n (rcount x == 0) * 2 ^ 30
      + b2n (decide (s.get F.HOP_LEVEL_AF_LEVEL j ≤ min (s.hopCap j) (wcount x))) * 2 ^ 29
      + b2n (decide (rcount x ≤ s.get F.HOP_LEVEL_AE_LEVEL j)) * 2 ^ 28
      + b2n (flushBusy x) * 2 ^ 27 + b2n x.wopen.isSome * 2 ^ 26 + b2n x.ropen.isSome * 2 ^ 25
      + s.get F.HOP_STAT_CFG_ERR j * 2 ^ 24

/-- HOP_COUNT_h (R143). -/
def State.readHopCount (s : State) (j : Nat) : Nat :=
  if s.hopSlave j then 0 else rcount (s.hop j) * 2 ^ 16 + wcount (s.hop j)

end Sys2Proof.Machine
end

