-- ==== Sys2Proof/Machine/Ports.lean ====
section
/-!
DEFINITION. Bench haul ports (R322, R324 to R332, R345, R348, R352 to R357, R676): descriptors from out hoppers, TAGs and
reserve, weighbridges, responses and incoming requests into in hoppers, pending entries and timeouts.
-/

namespace Sys2Proof.Machine

/-! ### The port -/

/-- Whether port p of bench b runs: its bench and its router's column are powered, and no floor reset holds it. -/
def State.portRuns (s : State) (b p : Nat) : Bool :=
  decide (b < 64 ∧ p < 2) && s.benchUp b && s.powered (dHn (routerCol (hportRouter b p))) && s.floorReset == 0

/-- UP: the port's router is not retired (R331). -/
def State.portUp (s : State) (b p : Nat) : Bool := !s.flag F.HN_RTR_STAT_RETIRED (hportRouter b p)

def State.portTag (s : State) (b p i : Nat) : PortTag := mapGet (fun _ => {}) (s.hport b p).tags i
def State.setPortTag (s : State) (b p i : Nat) (x : PortTag) : State :=
  s.setHport b p { s.hport b p with tags := mapSet (fun _ => {}) (s.hport b p).tags i x }

def State.waiting (s : State) (b p k : Nat) : List WbPacket := mapGet (fun _ => []) (s.hport b p).wait k
def State.setWaiting (s : State) (b p k : Nat) (l : List WbPacket) : State :=
  s.setHport b p { s.hport b p with wait := mapSet (fun _ => []) (s.hport b p).wait k l }

/-- A packet read from out hopper h goes to the weighbridge of class k, with its place in the port's order (R278, R324). -/
def State.queuePacket (s : State) (b p k h : Nat) (w : WbPacket) : State :=
  let n := (s.hport b p).seq
  let s1 := s.setHport b p { s.hport b p with seq := n + 1 }
  s1.setWaiting b p k (s1.waiting b p k ++ [{ w with hop := some h, seq := n }])

/-- Network TAGs in use (R340). -/
def State.tagsUsed (s : State) (b p : Nat) : Nat := ((s.hport b p).tags.filter fun e => e.2.req.isSome).length

/-- The reserve room that a held response still takes: a data flit is free once its words, 8 or those from the first place
on, are written (R309, R327). -/
def heldRoom (h : HeldRsp) : Nat := h.room - (h.skew + (h.sent - 2)) / 8

/-- Response reserve in use, in flits (R322, R340). -/
def State.reserveUsed (s : State) (b p : Nat) : Nat :=
  (s.hport b p).tags.foldl (fun a (e : Nat × PortTag) => a + (match e.2.req with | some q => q.room | none => 0)) 0
    + (s.hport b p).held.foldl (fun a (h : HeldRsp) => a + heldRoom h) 0

/-- Whether hopper j is an in hopper of port p with a valid owner (R324, R330). -/
def State.isInHopper (s : State) (j p : Nat) : Bool :=
  s.get F.HOP_CFG_WR_SRC j == 4 + p && s.flag F.HOP_OWNER_OWN_VALID j && !s.hopSlave j
/-- Whether hopper j is an out hopper of port p with a valid owner (R324). -/
def State.isOutHopper (s : State) (j p : Nat) : Bool :=
  s.get F.HOP_CFG_RD_SRC j == 4 + p && s.flag F.HOP_OWNER_OWN_VALID j && !s.hopSlave j

/-! ### Writing into in hoppers (R327, R330) -/

/-- 72-bit items as the items of hopper j: as they are, or two to a pair item with padding 0; WSOP on the first, WEOP on
the last (R324, R325). -/
def pairItems : List Nat → List Nat
  | [] => []
  | [a] => [a]
  | a :: b :: rest => (a + b * 2 ^ 72) :: pairItems rest

def markItems : List Nat → Bool → List (Nat × Bool × Bool)
  | [], _ => []
  | [a], sop => [(a, sop, true)]
  | a :: rest, sop => (a, sop, false) :: markItems rest false

def State.hopItems (s : State) (j : Nat) (l : List Nat) : List (Nat × Bool × Bool) :=
  markItems (if s.hopWidth j = 144 then pairItems l else l) true

/-- Items written while the hopper accepts them; answers what remains. -/
def State.writeItems (s : State) (j : Nat) : List (Nat × Bool × Bool) → List (Nat × Bool × Bool) × State
  | [] => ([], s)
  | (d, sop, eop) :: rest =>
    if s.hopAccepts j then (s.hopWrite j d sop eop).writeItems j rest else ((d, sop, eop) :: rest, s)

/-- Write held responses of one hopper, in order, as its space allows. A response whose hopper is no longer an in hopper
of the port owned by the recording plane is discarded (R327). -/
def State.drainList (s : State) (b p j : Nat) : List HeldRsp → List HeldRsp × State
  | [] => ([], s)
  | h :: rest =>
    if 32 * b + h.hop ≠ j then let r := s.drainList b p j rest; (h :: r.1, r.2)
    else if !(s.isInHopper j p && s.get F.HOP_OWNER_PLANE j == h.plane) then
      (s.inc F.BENCH_HPORT_DROP_RSP_DROP (2 * b + p)).drainList b p j rest
    else
      let r := s.writeItems j h.items
      if r.1.isEmpty then r.2.drainList b p j rest
      else
        let n := (h.items.length - r.1.length) * (if s.hopWidth j = 144 then 2 else 1)
        ({ h with items := r.1, sent := h.sent + n } :: rest, r.2)

/-- Held responses of hopper j move as far as they can. -/
def State.drainHopper (s : State) (b j : Nat) : State :=
  let p := s.get F.HOP_CFG_WR_SRC j - 4
  if 4 ≤ s.get F.HOP_CFG_WR_SRC j ∧ p < 2 ∧ s.portRuns b p = true then
    let r := s.drainList b p j (s.hport b p).held
    r.2.setHport b p { r.2.hport b p with held := r.1 }
  else s

/-- HOPPER_POINTER_SYNC (R130): the oldest pointer change on its way to one side arrives; a haul port then writes what it
holds for the hopper (R327). -/
def execHopperPointerSync (b h : Nat) (toRead : Bool) (s : State) : Host.Outcome State Fault Refusal :=
  let j := 32 * b + h
  .next (if b < 64 ∧ h < 32 ∧ s.benchUp b = true ∧ s.sideEdge j toRead = true then
    if toRead then s.setHop j (syncRead (s.hop j)) else (s.setHop j (syncWrite (s.hop j))).drainHopper b j
  else s)

/-- A response goes to its hopper, behind those held for it (R327). -/
def State.holdRsp (s : State) (b p : Nat) (h : HeldRsp) : State :=
  (s.setHport b p { s.hport b p with held := (s.hport b p).held ++ [h] }).drainHopper b (32 * b + h.hop)

/-- The items of a response (R325): D0, D1 and the data. -/
def rspItems (q : PortReq) (status : Nat) (data : List Nat) : List Nat :=
  [q.addr + q.imgTag % 2 ^ 12 * 2 ^ 48 + q.lenM1 * 2 ^ 60,
   (if q.write then opWack else opRdata) + status * 2 ^ 14] ++ data

/-! ### Out hoppers (R325, R326, R328, R329) -/

/-- Whether an OP of a descriptor carries data: RDATA does under STATUS OK or POISON (R310, R325; log entry 43). -/
def descData (d0 d1 : Nat) : Nat :=
  let op := bitsOf d1 0 4
  let carries := op == opWrite || op == opPwrite || (op == opRdata && decide (bitsOf d1 14 4 < 2))
  if carries then dataItems (bitsOf d0 0 48) (bitsOf d0 60 12) else 0

/-- The items a port still wants of a transfer (R325): in packet mode by the length word, else by D0 and D1; in a pair two
to a hopper item. -/
def wantsItem (pkt pair : Bool) (x : Hopper) : Bool :=
  if pkt then match x.asmLen with
    | none => true
    | some (_, n) => decide (x.asm.length < (if pair then 2 * n else n))
  else
    if x.asm.length < 2 then true
    else decide (x.asm.length < 2 + descData (x.asm.getD 0 0) (x.asm.getD 1 0))

/-- Read items until the transfer is whole or nothing is readable. A cut end drops what was taken (R134). -/
def fillAsm (pkt pair : Bool) : Nat → Hopper → Hopper
  | 0, x => x
  | fuel + 1, x =>
    if wantsItem pkt pair x then
      let r := readItem x
      match r.1 with
      | .nothing => r.2
      | .cutEnd => fillAsm pkt pair fuel { r.2 with asm := [], asmLen := none }
      | .item (.length cut n) => fillAsm pkt pair fuel { r.2 with asmLen := some (cut, n), asm := [] }
      | .item (.data v) =>
        fillAsm pkt pair fuel { r.2 with asm := r.2.asm ++ (if pair then [v % 2 ^ 72, v / 2 ^ 72] else [v]) }
    else x

/-- The port reads an out hopper; nothing while the bench is offline (R324, R349). What it read before a flush is gone
with the flush (R134, R137). -/
def State.fillPort (s : State) (j : Nat) : State :=
  let x := flushAtR (s.hop j)
  s.setHop j (fillAsm (s.flag F.HOP_CFG_PKT j) (s.hopWidth j == 144) (x.slots.length + 2) x)

/-- A whole transfer stands in the port's buffer. -/
def State.asmWhole (s : State) (j : Nat) : Bool :=
  !wantsItem (s.flag F.HOP_CFG_PKT j) (s.hopWidth j == 144) (s.hop j)

def State.dropAsm (s : State) (j : Nat) : State := s.setHop j { s.hop j with asm := [], asmLen := none }

/-- In packet mode the LENGTH must be the count that the descriptor implies, in hopper items; a cut packet is malformed
(R325, R328). -/
def State.packetBad (s : State) (j : Nat) : Bool :=
  match (s.hop j).asmLen with
  | none => false
  | some (cut, n) =>
    let a := (s.hop j).asm
    let want := 2 + descData (a.getD 0 0) (a.getD 1 0)
    cut || n != (if s.hopWidth j = 144 then (want + 1) / 2 else want)

/-- RSP_HOP names an in hopper of port p owned by the plane that owns hopper j (R328). -/
def State.rspHopOk (s : State) (b p j rh : Nat) : Bool :=
  s.isInHopper (32 * b + rh) p && s.get F.HOP_OWNER_PLANE (32 * b + rh) == s.get F.HOP_OWNER_PLANE j

/-- A fenced request (R272). -/
def State.fenceHit (s : State) (b : Nat) : State :=
  (s.inc F.BENCH_FENCE_STAT_HFENCE_CNT b).raiseBench b 7

/-- Steps 2 to 4 of R326: the status with which a request does not enter the network. -/
def State.portLocal (s : State) (b p addr lenM1 : Nat) (write : Bool) : Option Nat :=
  if !s.windowAdmits b addr (lenM1 + 1) write then some stFenced
  else match s.localStatus false addr (lenM1 + 1) with
    | some st => some st
    | none => if s.portUp b p then none else some stUnreachable

/-- The header of a request of port p, before injection stamps it. -/
def State.portHdr (s : State) (b p addr lenM1 tag cls op : Nat) : Nat :=
  mkHeader addr (targetId (s.haulTarget addr)) (hportId b p) tag cls lenM1 0 op 0 0

/-- A PWRITE (R326): dropped where a READ would be answered. -/
def State.portPwrite (s : State) (b p h addr lenM1 : Nat) (data : List Nat) : State :=
  match s.portLocal b p addr lenM1 true with
  | some st =>
    let s1 := if st = stFenced then s.fenceHit b else s
    s1.inc F.BENCH_HPORT_DROP_PST_DROP (2 * b + p)
  | none => s.queuePacket b p 2 h { hdr := s.portHdr b p addr lenM1 0 clsPst opPwrite, data := flitsOf addr lenM1 data }

/-- A READ or WRITE that holds TAG i and its room (R326 steps 2 to 5). -/
def State.portRequest (s : State) (b p h i : Nat) (q : PortReq) (data : List Nat) : State :=
  match s.portLocal b p q.addr q.lenM1 q.write with
  | some st =>
    let s1 := if st = stFenced then s.fenceHit b else s
    s1.holdRsp b p ⟨q.rspHop, q.plane, s.hopItems (32 * b + q.rspHop) (rspItems q st []), 0, q.room, 0⟩
  | none =>
    let t := s.portTag b p i
    let s1 := s.setPortTag b p i { t with req := some q }
    let w : WbPacket := {
      hdr := s1.portHdr b p q.addr q.lenM1 (i + 2 ^ 9 * t.gen) clsReq (if q.write then opWrite else opRead)
      data := if q.write then flitsOf q.addr q.lenM1 data else []
      tag := some i }
    s1.queuePacket b p 0 h w

/-- A malformed descriptor (R328, R329): counted once; a READ or WRITE with a valid RSP_HOP is answered. A packet cut before
its D1 has no OP and is discarded. -/
def State.portMalformed (s : State) (b p j : Nat) (q : PortReq) (op : Nat) : State :=
  let s1 := (s.dropAsm j).inc F.BENCH_HPORT_ERR_MALFORMED (2 * b + p)
  if 2 ≤ (s.hop j).asm.length ∧ (op = opRead ∨ op = opWrite) ∧ s.rspHopOk b p j q.rspHop = true then
    s1.holdRsp b p ⟨q.rspHop, q.plane, s.hopItems (32 * b + q.rspHop) (rspItems q stMalformed []), 0, 0, 0⟩
  else s1

/-- A whole transfer that is not a response (R326). With no TAG i or reserve room free it waits in the port's buffer. -/
def State.portTake (s : State) (b p j i : Nat) : State :=
  let a := (s.hop j).asm
  let d0 := a.getD 0 0
  let d1 := a.getD 1 0
  let op := bitsOf d1 0 4
  let addr := bitsOf d0 0 48
  let lenM1 := bitsOf d0 60 12
  let write := op == opWrite
  let q : PortReq := ⟨s.get F.HOP_OWNER_PLANE j, bitsOf d0 48 12, bitsOf d1 18 5, addr, lenM1, write,
    rspRoom write addr lenM1, none, false⟩
  let bad := s.packetBad j || !(op == opRead || op == opWrite || op == opPwrite)
    || decide (4096 < addr % 4096 + lenM1 + 1) || (op != opPwrite && !s.rspHopOk b p j q.rspHop)
  if bad then s.portMalformed b p j q op
  else if op = opPwrite then (s.dropAsm j).portPwrite b p (j % 32) addr lenM1 (a.drop 2)
  else if (s.portTag b p i).req.isSome || (s.portTag b p i).since.isSome || decide (512 ≤ i)
      || decide (1040 < s.reserveUsed b p + q.room) then s
  else (s.dropAsm j).portRequest b p (j % 32) i q (a.drop 2)

/-- Whether the transfer in the port's buffer is the image's answer to a pending entry. -/
def State.asmIsRsp (s : State) (j : Nat) : Bool :=
  let op := bitsOf ((s.hop j).asm.getD 1 0) 0 4
  op == opRdata || op == opWack

/-- BENCH_PORT_REQUEST (R326): the port reads out hopper h and takes a whole transfer; `tag` is the free TAG it takes. -/
def execBenchPortRequest (b p h tag : Nat) (s : State) : Host.Outcome State Fault Refusal :=
  let j := 32 * b + h
  .next (if h < 32 ∧ s.portRuns b p = true ∧ s.online b = true ∧ s.isOutHopper j p = true then
    let s1 := s.fillPort j
    if s1.asmWhole j && !s1.asmIsRsp j then s1.portTake b p j tag else s1
  else s)

/-! ### Weighbridges (R278 to R280) -/

/-- WEIGHBRIDGE_REFILL (R278): one haul clock cycle of port p's three weighbridges; the cycle counts in HELD while a
packet waits (R280). -/
def execWeighbridgeRefill (b p : Nat) (s : State) : Host.Outcome State Fault Refusal :=
  .next (if s.portRuns b p then
    let s1 := (upTo 3).foldl (fun s k => s.wbRefill (6 * b + 3 * p + k)) s
    if (upTo 3).any fun k => !(s.waiting b p k).isEmpty then s1.incWrap F.BENCH_WB_HELD_HELD (2 * b + p) 1 else s1
  else s)

/-- Whether requests are held back: while the epoch drains (R344), and while the port's fence is not open (R348, R349). -/
def State.holdsRequests (s : State) (b p : Nat) : Bool :=
  s.flag F.HN_EPOCH_STAT_DRAINING 0 || s.power.holdInj || s.get (fenceFld p) (hportRouter b p) != 0

/-- A packet enters the network: its cost is subtracted, and a request's timeout starts (R278, R352). -/
def State.wbAdmit (s : State) (b p k : Nat) (w : WbPacket) (rest : List WbPacket) : State :=
  let c := 6 * b + 3 * p + k
  let s1 := (s.setWaiting b p k rest).setWbTokens c
    (s.wbTokens c - 16 * ((64 * (1 + w.data.length) : Nat) : Int))
  let s2 := match w.tag with
    | none => s1
    | some i => match (s1.portTag b p i).req with
      | none => s1
      | some q => s1.setPortTag b p i { s1.portTag b p i with req := some { q with inj := some s1.time, arrived := false } }
  s2.inject (hportId b p) w.hdr w.data

/-- Whether the weighbridge of class k of port p lets packets in: RATE 0 closes the class (R279). -/
def State.wbOpen (s : State) (b p k : Nat) : Bool :=
  let c := 6 * b + 3 * p + k
  decide (0 < s.wbTokens c) && s.get F.BENCH_WB_CTL_RATE c != 0

/-- Whether a packet must wait for one of another class that was read from its out hopper before it (R324). One that its own
weighbridge holds, or that a drain or a fence holds back, holds nothing of another class (R279; log entry 73). -/
def State.behindOwn (s : State) (b p : Nat) (w : WbPacket) : Bool :=
  w.hop.isSome && (upTo 3).any fun k =>
    s.wbOpen b p k && (k == 1 || !s.holdsRequests b p)
      && (s.waiting b p k).any fun x => x.hop == w.hop && decide (x.seq < w.seq)

/-- WEIGHBRIDGE_ADMIT (R278): the first packet of class k enters once the count is above 0, behind the packets that were read
from its out hopper before it (R324), when the router's input takes its header (R313). -/
def execWeighbridgeAdmit (b p k : Nat) (s : State) : Host.Outcome State Fault Refusal :=
  .next (if k < 3 ∧ s.portRuns b p = true ∧ s.wbOpen b p k = true
      ∧ (k = 1 ∨ s.holdsRequests b p = false) then
    match s.waiting b p k with
    | [] => s
    | w :: rest =>
      if s.behindOwn b p w || !s.injReady (hportId b p) (hClass w.hdr) then s else s.wbAdmit b p k w rest
  else s)

/-! ### Responses (R327, R355, R676) -/

/-- A response that matches no outstanding TAG and generation is late (R355). -/
def State.lateRsp (s : State) (b p : Nat) : State :=
  (s.inc F.HN_LATE_RSP_COUNT (benchCol b)).inc F.BENCH_HPORT_DROP_RSP_DROP (2 * b + p)

/-- STATUS as the requester reports it: POISON when a data flit is poisoned (R311). -/
def rspStatus (h : Nat) (flits : List (Nat × Bool)) : Nat :=
  if hStatus h = stOk ∧ (flits.any fun (f : Nat × Bool) => f.2) = true then stPoison else hStatus h

/-- A matched response is delivered, or discarded when its hopper has changed hands (R327). -/
def State.portRsp (s : State) (b p i : Nat) (q : PortReq) (h : Nat) (flits : List (Nat × Bool)) : State :=
  let j := 32 * b + q.rspHop
  let s1 := s.setPortTag b p i { s.portTag b p i with req := none }
  if s.isInHopper j p && s.get F.HOP_OWNER_PLANE j == q.plane then
    let data := if packetFlits (hOp h) q.addr q.lenM1 (hStatus h) = 0 then [] else itemsOf q.addr q.lenM1 flits
    s1.holdRsp b p ⟨q.rspHop, q.plane, s1.hopItems j (rspItems q (rspStatus h flits) data), 0, q.room, q.addr / 8 % 8⟩
  else s1.inc F.BENCH_HPORT_DROP_RSP_DROP (2 * b + p)

/-- BENCH_PORT_RESPONSE (R327): a response packet arrives whole at port p. One whose data count is not complete was ended
by a poisoned tail: malformed (R307). -/
def execBenchPortResponse (b p hdr : Nat) (flits : List (Nat × Bool)) (s : State) : Host.Outcome State Fault Refusal :=
  .next (if s.portRuns b p ∧ (hOp hdr = opRdata ∨ hOp hdr = opWack) then
    let i := hTag hdr % 2 ^ 9
    let t := s.portTag b p i
    if !rspSound hdr flits then
      (match t.req with
      | some q => s.setPortTag b p i { t with req := some { q with arrived := false } }
      | none => s).inc F.BENCH_HPORT_ERR_MALFORMED (2 * b + p)
    else match t.req with
      | none => s.lateRsp b p
      | some q => if t.gen = hTag hdr / 2 ^ 9 ∧ q.inj.isSome = true then s.portRsp b p i q hdr flits else s.lateRsp b p
  else s)

/-! ### Incoming requests (R330, R332, R357) -/

/-- Free space that a request may reserve in hopper j, in its items: what a response half written still needs is taken
(R330; log entry 44). -/
def State.hopFree (s : State) (b p j : Nat) : Nat :=
  let owed := match (s.hport b p).held.find? fun h => 32 * b + h.hop == j && h.sent != 0 with
    | some h => h.items.length
    | none => 0
  s.hopCap j - wcount (flushAtW (s.hop j)) - owed

/-- A request is refused: READ and WRITE are answered by the port itself, a PWRITE is dropped (R330). -/
def State.portRefuse (s : State) (b p hdr : Nat) : State :=
  if isNonPosted (hOp hdr) then
    (s.inject (hportId b p) (mkHeader (hAddr hdr) (hSrc hdr) (hportId b p) (hTag hdr) clsRsp (hLen hdr)
      0 (if hOp hdr = opRead then opRdata else opWack) stRefused 0) []).inc F.BENCH_HPORT_ERR_REFUSED (2 * b + p)
  else s.inc F.BENCH_HPORT_DROP_PST_DROP (2 * b + p)

/-- The items of an incoming request (R325). -/
def reqItems (hdr : Nat) (data : List Nat) : List Nat :=
  [hAddr hdr + hTag hdr * 2 ^ 48 + hLen hdr * 2 ^ 60, hOp hdr + hSrc hdr * 2 ^ 4] ++ data

/-- A pending entry of a delivered READ or WRITE (R330). -/
def State.addPending (s : State) (b p hdr : Nat) : State :=
  if isNonPosted (hOp hdr) then
    s.setHport b p { s.hport b p with pend := (s.hport b p).pend ++
      [⟨hSrc hdr, hTag hdr, hAddr hdr, hLen hdr, hOp hdr, hEpoch hdr, s.time⟩] }
  else s

/-- The whole data items of the first n data flits (R332). -/
def itemsBefore (addr lenM1 n : Nat) : Nat := min (dataItems addr lenM1) (8 * (addr / 64 + n) - addr / 8)

/-- A request that a poisoned tail ended early (R332). In stream delivery the items that had come stay, cut in packet
mode; in packet delivery nothing reaches the hopper. -/
def State.brokenRequest (s : State) (b p j hdr : Nat) (flits : List (Nat × Bool)) : State :=
  let s1 := s.inc F.BENCH_HPORT_ERR_MALFORMED (2 * b + p)
  if (s.hport b p).mode.1 = 1 then s1
  else
    let data := (itemsOf (hAddr hdr) (hLen hdr) flits).take (itemsBefore (hAddr hdr) (hLen hdr) flits.length)
    let items := (s1.hopItems j (reqItems hdr data)).map fun (e : Nat × Bool × Bool) => (e.1, e.2.1, false)
    let s2 := (s1.writeItems j items).2
    let s3 := match (s2.hop j).wopen with
      | some n => s2.hopCut j (s2.hop j) n
      | none => s2
    if isNonPosted (hOp hdr) then s3.inc F.BENCH_HPORT_ERR_REFUSED (2 * b + p) else s3

/-- A request for bench b's window at port p (R330). -/
def State.portIncoming (s : State) (b p hdr : Nat) (flits : List (Nat × Bool)) : State :=
  let o := (hAddr hdr - 0x020000000000) % 2 ^ 30
  let j := 32 * b + o / 2 ^ 25
  let carries := hOp hdr != opRead
  let items := 2 + (if carries then dataItems (hAddr hdr) (hLen hdr) else 0)
  let slots := (if s.hopWidth j = 144 then (items + 1) / 2 else items) + b2n (s.flag F.HOP_CFG_PKT j)
  if !(s.isInHopper j p && bitOf o 24 == p && decide (slots ≤ s.hopFree b p j)
      && (!isNonPosted (hOp hdr) || decide ((s.hport b p).pend.length < 256))) then s.portRefuse b p hdr
  else if flits.length < packetFlits (hOp hdr) (hAddr hdr) (hLen hdr) 0 then s.brokenRequest b p j hdr flits
  else
    let data := if carries then itemsOf (hAddr hdr) (hLen hdr) flits else []
    ((s.writeItems j (s.hopItems j (reqItems hdr data))).2).addPending b p hdr

/-- BENCH_PORT_INCOMING_REQUEST (R330): a request packet arrives at port p; one with an OP that R310 does not give its
class is discarded and counted (R310). -/
def execBenchPortIncomingRequest (b p hdr : Nat) (flits : List (Nat × Bool)) (s : State) :
    Host.Outcome State Fault Refusal :=
  .next (if s.portRuns b p then
    if !opMatchesClass (hOp hdr) (hClass hdr) || hClass hdr == clsRsp then
      s.inc F.BENCH_HPORT_ERR_MALFORMED (2 * b + p)
    else s.portIncoming b p hdr flits
  else s)

/-- A pending entry's answer, as a packet (R330). -/
def pendRsp (b p : Nat) (e : PendEnt) (status : Nat) (data : List (Nat × Bool)) : WbPacket :=
  { hdr := mkHeader e.addr e.src (hportId b p) e.tag clsRsp e.lenM1 0 (if e.op = opRead then opRdata else opWack) status 0
    data := data }

/-- The port's own answer for a pending entry goes to the RSP weighbridge (R278, R345, R348). -/
def State.sendPendRsp (s : State) (b p : Nat) (e : PendEnt) (status : Nat) (data : List (Nat × Bool)) : State :=
  s.setWaiting b p 1 (s.waiting b p 1 ++ [pendRsp b p e status data])

/-- The image's RDATA or WACK (R328, R330, R331); an RDATA whose items poison a line carries STATUS POISON (R676). -/
def State.imageRsp (s : State) (b p j : Nat) : State :=
  let a := (s.hop j).asm
  let d0 := a.getD 0 0
  let d1 := a.getD 1 0
  let op := bitsOf d1 0 4
  let st := bitsOf d1 14 4
  let found := (s.hport b p).pend.find? fun e => e.src == bitsOf d1 4 10 && e.tag == bitsOf d0 48 12
  let s1 := s.dropAsm j
  match found with
  | some e =>
    let want := if op = opRdata ∧ st < 2 then dataItems e.addr e.lenM1 else 0
    let ok := !s.packetBad j && (if e.op = opRead then op == opRdata else op == opWack)
      && descData d0 d1 == want && (st == stOk || st == stPoison || st == stRefused)
      && decide (bitsOf d0 0 48 % 4096 + bitsOf d0 60 12 + 1 ≤ 4096)
    let fl := if want = 0 then [] else flitsOf e.addr e.lenM1 (a.drop 2)
    let st1 := if st = stOk ∧ (fl.any fun (f : Nat × Bool) => f.2) = true then stPoison else st
    if ok then
      let s2 := s1.setHport b p { s1.hport b p with pend := (s1.hport b p).pend.erase e }
      if s.portUp b p then
        s2.queuePacket b p 1 (j % 32) (pendRsp b p e st1 fl)
      else s2.inc F.BENCH_HPORT_DROP_RSP_DROP (2 * b + p)
    else s1.inc F.BENCH_HPORT_ERR_MALFORMED (2 * b + p)
  | none => s1.inc F.BENCH_HPORT_ERR_MALFORMED (2 * b + p)

/-- BENCH_PORT_IMAGE_RESPONSE (R330). -/
def execBenchPortImageResponse (b p h : Nat) (s : State) : Host.Outcome State Fault Refusal :=
  let j := 32 * b + h
  .next (if h < 32 ∧ s.portRuns b p = true ∧ s.online b = true ∧ s.isOutHopper j p = true then
    let s1 := s.fillPort j
    if s1.asmWhole j && s1.asmIsRsp j then s1.imageRsp b p j else s1
  else s)

/-- PENDING_ENTRY_EXPIRY (R330): entries not answered within 1 s are freed and counted. -/
def execPendingEntryExpiry (b p : Nat) (s : State) : Host.Outcome State Fault Refusal :=
  .next (if s.portRuns b p then
    let old := (s.hport b p).pend.filter fun e => decide (e.time + 1000000000 ≤ s.time)
    let s1 := s.setHport b p { s.hport b p with
      pend := (s.hport b p).pend.filter fun e => !decide (e.time + 1000000000 ≤ s.time) }
    s1.incBy F.BENCH_HPORT_ERR_REFUSED (2 * b + p) old.length
  else s)

/-! ### Timeouts (R352 to R354) -/

/-- A bench port's request expires: TIMEOUT to its hopper, the reserve released, the TAG out of use for one further
TMO_US (R353). One of which the response's head has arrived does not (R354). -/
def State.portTimeout (s : State) (b p i : Nat) : State :=
  let t := s.portTag b p i
  match t.req with
  | none => s
  | some q => match q.inj with
    | none => s
    | some at_ =>
      if at_ + 1000 * s.get F.BENCH_HPORT_TMO_TMO_US (2 * b + p) ≤ s.time ∧ q.arrived = false then
        let j := 32 * b + q.rspHop
        let s1 := (s.setPortTag b p i { t with req := none, since := some s.time }).inc F.BENCH_HPORT_TOCNT_COUNT (2 * b + p)
        if s.isInHopper j p && s.get F.HOP_OWNER_PLANE j == q.plane then
          s1.holdRsp b p ⟨q.rspHop, q.plane, s1.hopItems j (rspItems q stTimeout []), 0, 0, 0⟩
        else s1.inc F.BENCH_HPORT_DROP_RSP_DROP (2 * b + p)
      else s

/-- A bench port's TAG returns to the pool with its next generation (R353). -/
def State.portTagReturn (s : State) (b p i : Nat) : State :=
  let t := s.portTag b p i
  match t.since with
  | none => s
  | some at_ =>
    if s.portRuns b p = true ∧ at_ + 1000 * s.get F.BENCH_HPORT_TMO_TMO_US (2 * b + p) ≤ s.time then
      s.setPortTag b p i { t with gen := (t.gen + 1) % 8, since := none }
    else s

/-! ### Receive buffer (R332, R339) -/

/-- HPORT_CFG_WRITE (R332): packet delivery with a buffer below 8 KiB is refused with CFG_ERR. -/
def State.hportCfgWrite (s : State) (i : Nat) (v : Word) : State :=
  let d := fldOf F.BENCH_HPORT_CFG_DELIVERY v
  let e := clampNat 10 14 (fldOf F.BENCH_HPORT_CFG_RXBUF_EXP v)
  let s1 := s.w1cWrite .BENCH_HPORT_CFG i v
  if d = 1 ∧ e < 13 then s1.set F.BENCH_HPORT_CFG_CFG_ERR i 1
  else (s1.set F.BENCH_HPORT_CFG_DELIVERY i d).set F.BENCH_HPORT_CFG_RXBUF_EXP i e

def execHportCfgWrite (src : Src) (b p : Nat) (v : Word) (s : State) : Host.Outcome State Fault Refusal :=
  .next (if p < 2 ∧ s.mayWrite src .BENCH_HPORT_CFG (2 * b + p) = true then s.hportCfgWrite (2 * b + p) v else s)

/-- HPORT_CFG_APPLY (R332): the setting takes effect while the buffer is empty. A request is one command, BENCH_PORT_INCOMING_
REQUEST, and what it brought has left the buffer for the space reserved at its head when the command ends: between commands
the buffer is empty (log entry 44). -/
def execHportCfgApply (b p : Nat) (s : State) : Host.Outcome State Fault Refusal :=
  .next (if s.portRuns b p then
    s.setHport b p { s.hport b p with
      mode := (s.get F.BENCH_HPORT_CFG_DELIVERY (2 * b + p), s.get F.BENCH_HPORT_CFG_RXBUF_EXP (2 * b + p)) }
  else s)

/-! ### Pending entries at a drain's end and a closing fence (R345, R348) -/

/-- The port answers UNREACHABLE for the pending entries that satisfy `f`; a later answer of the image is malformed. -/
def State.pendUnreachable (s : State) (b p : Nat) (f : PendEnt → Bool) : State :=
  let es := (s.hport b p).pend.filter f
  let s1 := s.setHport b p { s.hport b p with pend := (s.hport b p).pend.filter fun e => !f e }
  es.foldl (fun s e => s.sendPendRsp b p e stUnreachable []) s1

/-- A port that goes dark: every pending entry is answered UNREACHABLE (R348, R499), and so is a request of which the answer
still waits at the weighbridge; by its router, since the bench's own outputs are clamped. -/
def State.pendIsolate (s : State) (b p : Nat) : State :=
  let k := hportRouter b p
  let cur := s.get F.HN_EPOCH_STAT_CUR 0
  let l := ((s.hport b p).pend.map fun (e : PendEnt) =>
      mkHeader e.addr e.src (hportId b p) e.tag clsRsp e.lenM1 cur (if e.op = opRead then opRdata else opWack) stUnreachable
        s.time) ++
    (s.waiting b p 1).map fun (w : WbPacket) =>
      mkHeader (hAddr w.hdr) (hDst w.hdr) (hportId b p) (hTag w.hdr) clsRsp (hLen w.hdr) cur (hOp w.hdr) stUnreachable s.time
  let s1 := (s.setHport b p { s.hport b p with pend := [] }).setWaiting b p 1 []
  let s2 := { s1 with haul := { s1.haul with
      synth := mapSet (fun _ => []) s1.haul.synth k (mapGet (fun _ => []) s1.haul.synth k ++ l) } }
  l.foldl (fun s _ => s.synthSend k) s2

/-- The drain has run for 200 µs since the FLIP (R345). -/
def State.drainOver (s : State) : State :=
  if s.get F.HN_EPOCH_STAT_DRAINING 0 = 1 ∧ s.haul.flipTime + 200000 ≤ s.time ∧ s.haul.drainTmo = false then
    let e := s.get F.HN_EPOCH_STAT_CUR 0
    let s0 := s.hports.foldl (fun s (x : Nat × Hport) =>
      s.pendUnreachable (x.1 / 2) (x.1 % 2) fun q => q.epoch == e) s
    let s1 := s.memt.reqs.foldl (fun s (x : Nat × List MemReq) => s.memUnreachable x.1 fun r => hEpoch r.hdr == e) s0
    ({ s1.set F.HN_EPOCH_STAT_DRAIN_TMO 0 1 with haul := { s1.haul with drainTmo := true } }).wlog 0x0403 181 sevAlert 0
  else s

/-- The bench whose memory port is local port l of router k, if it is one (R297). -/
def memPortAt (k l : Nat) : Option Nat :=
  if routerRow k ≠ 0 ∧ l = 2 then some (16 * routerCol k + 4 * (routerRow k - 1) + routerX k) else none

/-- Whether router k holds a packet that has passed the fence of output `out`, or has launched one that the end point has not
taken yet: its credit is out (R313). -/
def State.routerOwes (s : State) (k out : Nat) : Bool :=
  (upTo 8).any (fun vc => s.spentAt (chKey k out vc) != 0) || (upTo 56).any fun j =>
    ((s.queueAt (56 * k + j)).any fun q => q.out == out) || match s.openAt (56 * k + j) with
      | some ⟨_, .pass o _⟩ => o == out
      | _ => false

/-- Whether the end point has answered every request it admitted, performed every admitted write and injected its last
response (R348 step 3). A bench's pending entries stay in its FENCE step and are answered at ISOLATE (R349, R499). -/
def State.endPointIdle (s : State) (k l : Nat) : Bool :=
  !s.routerOwes k (4 + l) && (s.injAt (3 * k + l)).isEmpty
    && (match benchPortAt k l with
      | some (b, p) => (s.waiting b p 1).isEmpty
      | none => true)
    && (match memPortAt k l with
      | some b => (s.memReqs b).isEmpty
      | none => true)

/-- The FENCE step of domain d ends once every fence of its end points is closed (R498); a floor-die reset holds the sequence
there (R503). -/
def State.fenceStepEnd (s : State) (d : Nat) : State :=
  if s.get F.PWR_DOM_STATE d = 5 ∧ s.floorReset = 0
      ∧ ((domainPorts d).all fun (e : Nat × Nat) => !s.fenceRuns e.1 e.2) = true then
    s.set F.PWR_DOM_STATE d 6
  else s

/-- The fence of local port l of router k is closed; its domain's sequence goes on. -/
def State.fenceClosed (s : State) (k l : Nat) : State :=
  let s0 := s.setFence k l 2
  let s1 := { s0 with haul := { s0.haul with fenceWait := mapSet (fun _ => false) s0.haul.fenceWait (3 * k + l) false } }
  match portDomain k l with
  | some d => s1.fenceStepEnd d
  | none => s1

/-- FENCE_CLOSING_DONE (R348 step 3). -/
def execFenceClosingDone (k l : Nat) (s : State) : Host.Outcome State Fault Refusal :=
  .next (if s.fenceRuns k l = true ∧ s.endPointIdle k l = true then s.fenceClosed k l else s)

/-- The domain that a closing fence belongs to reports its fence timeout (R498, R504). -/
def State.fenceTimeoutEvent (s : State) (k l : Nat) : State :=
  match portDomain k l with
  | some d => (s.set F.PWR_DOM_FENCE_TMO d 1).wlog 0x0802 177 sevNotice d
  | none => s

/-- 20 µs after T0 the remaining requests are answered UNREACHABLE, the remaining posted writes discarded and counted, and the
fence closes (R348). -/
def State.fenceOver (s : State) (k l : Nat) : State :=
  if s.fenceRuns k l = true ∧ mapGet (fun _ => 0) s.haul.closing (3 * k + l) + 20000 ≤ s.time then
    let s1 := match benchPortAt k l with
      | some (b, p) => s.pendIsolate b p
      | none => s
    let s2 := match memPortAt k l with
      | some b => s1.memUnreachable b fun _ => true
      | none => s1
    (s2.fenceTimeoutEvent k l).fenceClosed k l
  else s

/-! ### Read-outs and power -/

/-- BENCH_HPORT_STAT_p (R340). -/
def State.readHportStat (s : State) (i : Nat) : Nat :=
  b2n (s.portUp (i / 2) (i % 2)) * 2 ^ 31 + s.get F.BENCH_HPORT_STAT_FENCED i * 2 ^ 30
    + s.tagsUsed (i / 2) (i % 2) * 2 ^ 16 + s.reserveUsed (i / 2) (i % 2)

/-- A bench's ports, hoppers and weighbridges lose what they hold (R501). -/
def State.losePorts (s : State) (b : Nat) : State :=
  { s with hports := mapKeep (fun k => k / 2 != b) s.hports, hoppers := mapKeep (fun k => k / 32 != b) s.hoppers,
           tenancy := { s.tenancy with tokens := mapKeep (fun k => k / 6 != b) s.tenancy.tokens } }

end Sys2Proof.Machine
end

