-- ==== Sys2Proof/Machine/Ddr.lean ====
section
/-!
DEFINITION. DDR channels (R639 to R644, R676, R677): requests with ECC, the states of a channel, training and
self-refresh.
-/

namespace Sys2Proof.Machine

/-- The states of DDR_CH_STAT (R654). -/
def ddDown : Nat := 0
def ddTraining : Nat := 1
def ddReady : Nat := 2
def ddSelfref : Nat := 3
def ddFailed : Nat := 4

def State.chan (s : State) (ch : Nat) : DdrCh := mapGet (fun _ => {}) s.ddr.chans ch
def State.setChan (s : State) (ch : Nat) (x : DdrCh) : State :=
  { s with ddr := { s.ddr with chans := mapSet (fun _ => {}) s.ddr.chans ch x } }
def State.ddrSt (s : State) (ch : Nat) : Nat := s.get F.DDR_CH_STAT_STATE ch

/-- An 8-byte word of a channel as its codeword; one never written since the contents became undefined holds a free value
(R642, log entry 42). -/
def State.dramWord (s : State) (ch w : Nat) : Nat :=
  match mapGet (fun _ => none) (s.chan ch).words w with
  | some cw => cw
  | none => Config.dramWord ch (s.chan ch).gen w % 2 ^ 72

def State.setDramWord (s : State) (ch w cw : Nat) : State :=
  s.setChan ch { s.chan ch with words := mapSet (fun _ => none) (s.chan ch).words w (some cw) }

/-- The contents become undefined (R642). -/
def State.dramLost (s : State) (ch : Nat) : State :=
  s.setChan ch { s.chan ch with words := [], gen := (s.chan ch).gen + 1 }

/-- A channel event (R643): its kind bit, its Weapel entry, and for TRAIN_FAIL and LOST_DATA vector 0 with ALERT_N. -/
def State.ddrEvt (s : State) (ch bit detail : Nat) : State :=
  let s1 := (s.raise (77 + ch) bit).wlog (0x0B01 + bit) (77 + ch) (if bit = 0 then sevInfo else sevAlert) detail
  if bit = 1 ∨ bit = 2 then s1.alertEvent else s1

/-- An uncorrectable word was read: counted, raised, and logged at most once per 1 ms (R641, R643). -/
def State.ddrUe (s : State) (ch w : Nat) : State :=
  let s1 := (s.inc F.DDR_ECC_UE_CNT ch).raise (77 + ch) 3
  let due := match (s.chan ch).ueLogged with
    | none => true
    | some t => decide (t + 1000000 ≤ s.time)
  if due then
    (s1.setChan ch { s1.chan ch with ueLogged := some s.time }).wlog 0x0B04 (77 + ch) sevAlert (w / 8)
  else s1

/-- A checked read of a word: corrected and written back, or returned as read with poison (R641). -/
def State.dramRead (s : State) (ch w : Nat) : Nat × Bool × State :=
  let o := eccDecode (s.dramWord ch w)
  match o.kind with
  | .clean => (o.data, false, s)
  | .corrected => (o.data, false, (s.setDramWord ch w (eccEncode o.data)).inc F.DDR_ECC_CE_CNT ch)
  | .bad => (o.data, true, s.ddrUe ch w)

/-- A word of a write: whole, or merged into the word read; poisoned by its flit, or when the merged word was
uncorrectable (R641, R676). Says whether it was stored poisoned. -/
def State.dramWrite (s : State) (ch w be data : Nat) (poison : Bool) : Bool × State :=
  if be = 255 then (poison, s.setDramWord ch w (if poison then poisonEncode data else eccEncode data))
  else
    let r := s.dramRead ch w
    let d := mergeBytes be r.1 data
    let p := poison || r.2.1
    (p, r.2.2.setDramWord ch w (if p then poisonEncode d else eccEncode d))

/-- Upsets of DRAM words before an access: (word, 72-bit mask). -/
def State.dramUpsets (s : State) (ch : Nat) (ups : List (Nat × Nat)) : State :=
  ups.foldl (fun s (e : Nat × Nat) => s.setDramWord ch e.1 (Nat.xor (s.dramWord ch e.1) (e.2 % 2 ^ 72))) s

/-- A READ (R641, R676): the words of the range, and the response's flits. -/
def State.ddrRead (s : State) (ch addr lenM1 : Nat) : List (Nat × Bool) × State :=
  let r := (upTo (dataItems addr lenM1)).foldl (fun (acc : List Nat × State) j =>
    let q := acc.2.dramRead ch (addr / 8 + j)
    (acc.1 ++ [q.1 + b2n q.2.1 * 2 ^ 64], q.2.2)) ([], s)
  (flitsOf addr lenM1 r.1, r.2)

/-- A WRITE or PWRITE; says whether a word was stored poisoned. -/
def State.ddrWrite (s : State) (ch addr lenM1 : Nat) (flits : List (Nat × Bool)) : Bool × State :=
  (upTo (dataItems addr lenM1)).foldl (fun (acc : Bool × State) j =>
    let w := addr / 8 + j
    let f := flits.getD (w / 8 - addr / 64) (0, false)
    let q := acc.2.dramWrite ch w (rangeBe addr lenM1 j) (bitsOf f.1 (64 * (w % 8)) 64) f.2
    (acc.1 || q.1, q.2)) (false, s)

/-- A response that channel ch injects. -/
def State.ddrAnswer (s : State) (ch hdr status : Nat) (data : List (Nat × Bool)) : State :=
  s.inject (ddrId ch) (mkHeader (hAddr hdr) (hSrc hdr) (ddrId ch) (hTag hdr) clsRsp (hLen hdr)
    0 (if hOp hdr = opRead then opRdata else opWack) status 0) data

/-- A request that channel ch serves in READY (R640, R641). -/
def State.ddrServe (s : State) (ch hdr : Nat) (flits : List (Nat × Bool)) : State :=
  let a := (s.ddrPlace (hAddr hdr)).2
  let n := hLen hdr
  if s.get F.DDR_CH_STAT_SIZE_GIB ch * 2 ^ 30 < a + n + 1 then
    if isNonPosted (hOp hdr) then s.ddrAnswer ch hdr stUnmapped [] else s
  else if hOp hdr = opRead then
    let r := s.ddrRead ch a n
    r.2.ddrAnswer ch hdr (if r.1.any fun (f : Nat × Bool) => f.2 then stPoison else stOk) r.1
  else
    let r := s.ddrWrite ch a n flits
    if hOp hdr = opWrite then r.2.ddrAnswer ch hdr (if r.1 then stPoison else stOk) [] else r.2

/-- Channel ch serves requests (R642): READY, with the clock it trained on (R478, R479). -/
def State.ddrServes (s : State) (ch : Nat) : Bool := s.ddrSt ch == ddReady && !(s.chan ch).noClk

/-- DDR_REQUEST (R640 to R642, R677): a request reaches channel ch, `flits` its data. One whose OP does not match its
class, or whose data count is not complete, is discarded (R307, R310). -/
def execDdrRequest (ch hdr : Nat) (flits : List (Nat × Bool)) (ups : List (Nat × Nat)) (s : State) :
    Host.Outcome State Fault Refusal :=
  .next (if ch < 8 ∧ s.powered (dDdr (ch / 2)) = true ∧ s.floorReset = 0 ∧ hClass hdr ≠ clsRsp
      ∧ opMatchesClass (hOp hdr) (hClass hdr) = true
      ∧ packetFlits (hOp hdr) (hAddr hdr) (hLen hdr) 0 ≤ flits.length then
    if s.ddrServes ch = true ∧ s.side.tapPins = false then (s.dramUpsets ch ups).ddrServe ch hdr flits
    else if isNonPosted (hOp hdr) then s.ddrAnswer ch hdr stUnreachable [] else s
  else s)

/-- DDR_REFRESH (R639, R677): an all-bank refresh runs; requests only wait behind it, so nothing else is kept. The rate,
doubled above 85 °C, is the environment's (the row's occurrences). -/
def execDdrRefresh (ch : Nat) (s : State) : Host.Outcome State Fault Refusal :=
  .next (if ch < 8 ∧ s.ddrServes ch = true then s.setChan ch { s.chan ch with refresh := some s.time } else s)

/-! ### States (R642) -/

/-- The rate at which column c's pair last trained; the reset RATE before any training (R644). -/
def State.ddrRate (s : State) (c : Nat) : Nat := mapGet (fun _ => 2) s.ddr.rates c

/-- A channel goes to full training; the contents are undefined from then on (R642). -/
def State.ddrTrainOne (s : State) (ch : Nat) : State :=
  let s1 := s.dramLost ch
  (s1.setChan ch { s1.chan ch with check := false, entering := false, twin := false, noClk := false, trained := false }).set
    F.DDR_CH_STAT_STATE ch ddTraining

/-- Full training of a channel starts at the RATE of its pair; at another rate than the pair's last, it trains both
(R642, R644). -/
def State.ddrTrainFull (s : State) (ch : Nat) : State :=
  let r := s.get F.DDR_CH_CFG_RATE ch
  if r = s.ddrRate (ch / 2) then s.ddrTrainOne ch
  else ({ s with ddr := { s.ddr with rates := mapSet (fun _ => 2) s.ddr.rates (ch / 2) r } }.ddrTrainOne
    (ch / 2 * 2)).ddrTrainOne (ch / 2 * 2 + 1)

/-- The check of a self-refresh exit starts; the array is kept (R642). -/
def State.ddrCheck (s : State) (ch : Nat) : State :=
  (s.setChan ch { s.chan ch with check := true, entering := false, noClk := false }).set F.DDR_CH_STAT_STATE ch ddTraining

/-- READY to SELFREF begins (R642). -/
def State.ddrEnterSelf (s : State) (ch : Nat) (twin : Bool) : State :=
  if s.ddrSt ch = ddReady then s.setChan ch { s.chan ch with entering := true, twin := twin } else s

/-- Both channels of column c begin self-refresh. -/
def State.ddrEnterSelfCol (s : State) (c : Nat) (twin : Bool) : State :=
  (s.ddrEnterSelf (2 * c) twin).ddrEnterSelf (2 * c + 1) twin

/-- The clock of column c's channels trips (R478, R479): requests are answered UNREACHABLE from the trip on, and self-refresh
begins. -/
def State.ddrClockLost (s : State) (c : Nat) (twin : Bool) : State :=
  [2 * c, 2 * c + 1].foldl (fun s ch =>
    if s.ddrSt ch = ddReady then
      s.setChan ch { s.chan ch with entering := true, twin := twin && !(s.chan ch).entering, noClk := true }
    else s) s

/-- The PHY of column c has the clock of its PLL: nothing trains without it (R478, R480). -/
def State.ddrClocked (s : State) (c : Nat) : Bool :=
  s.flag F.CLK_MON_LOCKED (40 + c) && !s.flag F.CLK_MON_ON_FALLBACK (40 + c)

/-- DDR_SELFREF_ENTRY_DONE (R642): a twin move goes on to the exit, with read DQ calibration only. -/
def execDdrSelfrefEntryDone (ch : Nat) (s : State) : Host.Outcome State Fault Refusal :=
  .next (if (s.chan ch).entering then
    (s.setChan ch { s.chan ch with entering := false, noClk := false }).set F.DDR_CH_STAT_STATE ch ddSelfref
  else s)

/-- A channel enters READY (R643). -/
def State.ddrReadyNow (s : State) (ch detail : Nat) : State :=
  ((s.setChan ch { s.chan ch with check := false, twin := false, noClk := false }).set F.DDR_CH_STAT_STATE ch
    ddReady).ddrEvt ch 0 detail

/-- PD_DDR of a channel powers down: only contents in self-refresh stay (R501). -/
def State.ddrDown (s : State) (ch : Nat) : State :=
  let kept := s.ddrSt ch == ddSelfref
  let s1 := if kept then s else s.dramLost ch
  (s1.setChan ch { s1.chan ch with trained := kept, entering := false, check := false, twin := false,
                                     noClk := false }).set
    F.DDR_CH_STAT_STATE ch ddDown

/-- PD_DDR of a channel powers up: contents in self-refresh are checked, else full training (R642). -/
def State.ddrUp (s : State) (ch : Nat) : State := if (s.chan ch).trained then s.ddrCheck ch else s.ddrTrainFull ch

/-- SELFREF to READY at the release of a floor-die reset: no training (R642). An entry not yet ended is left again. -/
def State.ddrExitSelf (s : State) (ch : Nat) : State :=
  if s.ddrSt ch = ddSelfref then s.ddrReadyNow ch 1
  else if s.ddrServes ch then s.setChan ch { s.chan ch with entering := false }
  else s

/-- A TRAIN write: ignored in TRAINING (R642). -/
def State.ddrTrain (s : State) (ch : Nat) : State :=
  if s.ddrSt ch = ddTraining then s else s.ddrTrainFull ch

/-- A DDR_CH_CFG_ch write: CAP; RATE of the pair, 3 reading back as 2; TRAIN (R644, R654). -/
def State.ddrCfgWrite (s : State) (ch : Nat) (v : Word) : State :=
  let r := min 2 (fldOf F.DDR_CH_CFG_RATE v)
  let s1 := ((s.set F.DDR_CH_CFG_CAP ch (fldOf F.DDR_CH_CFG_CAP v)).set F.DDR_CH_CFG_RATE (ch / 2 * 2) r).set
    F.DDR_CH_CFG_RATE (ch / 2 * 2 + 1) r
  if fldOf F.DDR_CH_CFG_TRAIN v = 1 then s1.ddrTrain ch else s1

/-- DDR_TRAIN (R642): a write of DDR_CH_CFG_ch. -/
def execDdrTrain (src : Src) (ch : Nat) (v : Word) (s : State) : Host.Outcome State Fault Refusal :=
  .next (if s.mayWrite src .DDR_CH_CFG ch then s.ddrCfgWrite ch v else s)

/-- The capacity that a training takes: the SPD's, else what CAP names; none with CAP 3 (R639). -/
def State.ddrCapacity (s : State) (ch : Nat) (spd : Option Nat) : Option Nat :=
  match spd with
  | some g => some g
  | none => match s.get F.DDR_CH_CFG_CAP ch with
    | 0 => some 16
    | 1 => some 32
    | 2 => some 64
    | _ => none

/-- DDR_TRAINING_DONE (R642): `spd` is the capacity in GiB that an SPD answers, `ok` whether the training or the check
passes, `ms` its duration. In SELFREF of a twin move it is the exit's calibration. -/
def State.ddrTrainingDone (s : State) (ch : Nat) (spd : Option Nat) (ok : Bool) (ms : Nat) : State :=
  let x := s.chan ch
  if s.ddrSt ch = ddTraining ∧ x.check = true then
    if ok then (match s.ddrCapacity ch spd with
      | some g => s.set F.DDR_CH_STAT_SIZE_GIB ch g
      | none => s).ddrReadyNow ch 1
    else ((s.set F.DDR_CH_STAT_LOST_DATA ch 1).ddrTrainFull ch).ddrEvt ch 2 0
  else if s.ddrSt ch = ddTraining then
    match s.ddrCapacity ch spd, ok with
    | some g, true =>
      (((s.set F.DDR_CH_STAT_SIZE_GIB ch g).set F.DDR_CH_STAT_TRAIN_MS ch (min 0xFFFF ms)).setChan ch
        { s.chan ch with trained := true }).ddrReadyNow ch 0
    | _, _ =>
      (((s.set F.DDR_CH_STAT_TRAIN_MS ch (min 0xFFFF ms)).set F.DDR_CH_STAT_TRAIN_ERR ch 1).set
        F.DDR_CH_STAT_STATE ch ddFailed).ddrEvt ch 1 0
  else if s.ddrSt ch = ddSelfref ∧ x.twin = true then
    if ok then s.ddrReadyNow ch 2
    else ((s.set F.DDR_CH_STAT_LOST_DATA ch 1).ddrTrainFull ch).ddrEvt ch 2 0
  else s

def execDdrTrainingDone (ch : Nat) (spd : Option Nat) (ok : Bool) (ms : Nat) (s : State) :
    Host.Outcome State Fault Refusal :=
  .next (if ch < 8 ∧ s.ddrClocked (ch / 2) = true
      ∧ (s.powered (dDdr (ch / 2)) = true ∨ s.get F.PWR_DOM_STATE (dDdr (ch / 2)) = 2) then
    s.ddrTrainingDone ch spd ok ms else s)

end Sys2Proof.Machine
end

