-- ==== Sys2Proof/Machine/Lanes.lean ====
section
/-!
DEFINITION. Serial lanes and Ethernet ports (R438 to R466): octet configuration, the bring-up machine, training and
capability frames, raw streams, Ethernet frames, PRBS tests, and element recalibration.
-/

namespace Sys2Proof.Machine

/-! ### Lanes and ports -/

/-- The states of R451. -/
def lnDisabled : Nat := 0
def lnDetect : Nat := 1
def lnTrain : Nat := 2
def lnLock : Nat := 3
def lnExchange : Nat := 4
def lnActive : Nat := 5
def lnFault : Nat := 6

/-- FAULT_WHY (R461). -/
def whyLos : Nat := 1
def whyLol : Nat := 2
def whyTimeout : Nat := 3
def whyPeer : Nat := 4
def whyMode : Nat := 5
def whyBlock : Nat := 6
def whyHost : Nat := 7

def State.lane (s : State) (n : Nat) : Lane := mapGet (fun _ => {}) s.lanes.lane n
def State.setLane (s : State) (n : Nat) (x : Lane) : State :=
  { s with lanes := { s.lanes with lane := mapSet (fun _ => {}) s.lanes.lane n x } }

/-- Whether PD_ETH of lane n's octet is powered. -/
def State.laneUp (s : State) (n : Nat) : Bool := decide (n < 64) && s.powered (dEth (n / 8))

def State.laneSt (s : State) (n : Nat) : Nat := s.get F.LANE_STAT_STATE n

/-- Lane n is ACTIVE. -/
def State.laneLive (s : State) (n : Nat) : Bool := s.laneUp n && s.laneSt n == lnActive

/-- A lane event reaches the collector as SOURCE 76 (R458). -/
def State.laneEvt (s : State) (bit : Nat) : State := s.raise 76 bit

/-- The machine at lane h enters a state (R451); VALID and the port's status bits follow (R465, R466). -/
def State.enterLane (s : State) (h st : Nat) : State :=
  let s1 := (s.machineLanes h).foldl (fun s n =>
    (s.set F.LANE_STAT_STATE n st).set F.LANE_SQ_VALID n (b2n (st == lnLock || st == lnExchange || st == lnActive))) s
  let s2 := if s.isEth h then
      (s1.set F.ETH_PORT_STAT_LINK_UP h (b2n (st == lnActive))).set F.ETH_PORT_STAT_LF h (b2n (st == lnFault))
    else s1
  let s3 := s2.setLane h { s2.lane h with since := s.time, cnt := 0, gotReady := false, block := false, hdrRun := 0,
                                           hdrBad := 0 }
  if st = lnActive then s3.laneEvt 0 else s3

/-- The machine at lane h starts (R451): DETECT is run in raw modes with DETECT_EN only. -/
def State.laneStart (s : State) (h : Nat) : State :=
  if s.laneMode h = 0 then s.enterLane h lnDisabled
  else
    let s1 := s.setLane h { s.lane h with taps := [0, 0, 0, 0], preset := 0, ackTgl := 0, rxItem := 0, txItem := 0 }
    let s2 := (s1.machineLanes h).foldl (fun s n => s.set F.LANE_STAT_LOL n 0) s1
    let s3 := s2.set F.ETH_PORT_STAT_AN_DONE h 0
    if s.isRaw h = true ∧ s.flag F.LANE_CTL_DETECT_EN h = true then s3.enterLane h lnDetect else s3.enterLane h lnTrain

/-- The machine at lane h enters FAULT (R451, R458). -/
def State.laneFault (s : State) (h why : Nat) : State :=
  let s1 := ((s.enterLane h lnFault).set F.LANE_STAT_FAULT_WHY h why).inc F.LANE_STAT_FAULT_CNT h
  ((s1.laneEvt 1).raiseVec 0 5).wlog 0x0601 76 sevNotice (h + why * 2 ^ 8)

/-- Whether the machine is in a state that a fault cause of the line ends. -/
def State.laneRuns (s : State) (h : Nat) : Bool := decide (2 ≤ s.laneSt h ∧ s.laneSt h ≤ 5)

/-- A twin move's blanking runs on lane n's octet (R479). -/
def State.laneBlank (s : State) (n : Nat) : Bool := (mapGet (fun _ => none) s.lanes.blank (n / 8)).isSome

/-! ### Octets (R440) -/

/-- Whether lane j's field makes an octet word malformed. -/
def octBadAt (v j : Nat) : Bool :=
  let f := octField v j
  if octMode f = 1 then
    let w := octWidth f
    (upTo w).any fun i => octField v (j - j % w + i) != f
  else f % 4 != 0

/-- Whether an octet word is refused for its form. -/
def octBad (v : Nat) : Bool := (upTo 8).any (octBadAt v)

/-- Whether the HLU does not enable lane j of octet o and the word would take it out of OFF. -/
def State.octDeniedAt (s : State) (o v j : Nat) : Bool :=
  octMode (octField v j) != 0 && octMode (octField (s.reg .ETH_OCT_CFG o).toNat j) == 0
    && bitOf (s.hluEff 11 + s.hluEff 12 * 2 ^ 32) (8 * o + j) == 0

def State.octDenied (s : State) (o v : Nat) : Bool := (upTo 8).any (s.octDeniedAt o v)

/-- An accepted word: every lane whose field changed goes to DISABLED, and then starts. -/
def State.octApply (s : State) (o : Nat) (v : Word) : State :=
  let old := (s.reg .ETH_OCT_CFG o).toNat
  let changed := (upTo 8).filter fun j => octField old j != octField v.toNat j
  let s1 := changed.foldl (fun s j => s.enterLane (s.laneHead (8 * o + j)) lnDisabled) s
  let s2 := s1.setReg .ETH_OCT_CFG o v
  changed.foldl (fun s j => if s.laneHead (8 * o + j) = 8 * o + j then s.laneStart (8 * o + j) else s) s2

/-- An ETH_OCT_CFG_o write (R440). -/
def State.octCfgWrite (s : State) (o src : Nat) (v : Word) : State :=
  if octBad v.toNat then (s.set F.ETH_OCT_STAT_CFG_ERR o 1).laneEvt 3
  else if s.octDenied o v.toNat then
    (((s.set F.ETH_OCT_STAT_CFG_ERR o 1).laneEvt 3).hluRefuse (if o < 4 then 11 else 12) src)
  else s.octApply o v

/-- OCT_CFG_WRITE (R440). -/
def execOctCfgWrite (src : Src) (o : Nat) (v : Word) (s : State) : Host.Outcome State Fault Refusal :=
  .next (if s.mayWrite src .ETH_OCT_CFG o then s.octCfgWrite o (srcCode src) v else s)

/-! ### PRBS sequences (R455) -/

/-- Degree and the other taps of a pattern's polynomial. -/
def prbsTaps (pat : Nat) : Nat × List Nat :=
  match pat with
  | 0 => (7, [6])
  | 1 => (9, [5])
  | 2 => (13, [12, 2, 1])
  | 3 => (15, [14])
  | 4 => (23, [18])
  | _ => (31, [28])

/-- The next bit of a sequence from its last bits, the latest in bit 0. -/
def prbsNext (pat reg : Nat) : Nat :=
  let t := prbsTaps pat
  (t.1 :: t.2).foldl (fun b k => (b + bitOf reg (k - 1)) % 2) 0

def prbsShift (pat reg b : Nat) : Nat := (2 * reg + b) % 2 ^ (prbsTaps pat).1

/-- `n` bits of the generator, first bit lowest. -/
def prbsBits (pat : Nat) : Nat → Nat → Nat × Nat
  | 0, reg => (0, reg)
  | n + 1, reg =>
    let b := prbsNext pat reg
    let r := prbsBits pat n (prbsShift pat reg b)
    (b + 2 * r.1, r.2)

/-! ### The frames a lane sends (R452, R453) -/

/-- A PAM2-coded field (R452): `n` bits of v, the most significant first, bit 1 as level 3. -/
def pam2 (n v : Nat) : List Nat := (upTo n).map fun k => 3 * bitOf v (n - 1 - k)

/-- The Gray-coded PAM4 level of two bits, the earlier one most significant. -/
def grayLevel (hi lo : Nat) : Nat := if hi = 0 then lo else 3 - lo

/-- `n` symbols of the PRBS13 fill, and the generator after them. -/
def fillSymbols : Nat → Nat → List Nat × Nat
  | 0, reg => ([], reg)
  | n + 1, reg =>
    let hi := prbsNext 2 reg
    let r1 := prbsShift 2 reg hi
    let lo := prbsNext 2 r1
    let rest := fillSymbols n (prbsShift 2 r1 lo)
    (grayLevel hi lo :: rest.1, rest.2)

/-- Symbol levels as one number, symbol k at bits [2k+1 : 2k]. -/
def packSymbols (l : List Nat) : Nat := l.foldr (fun x v => x + 4 * v) 0

/-- The transmitter of lane n sends a frame: `head` filled to 2,048 symbols with PRBS13, which goes on from frame to frame
from a start that the spec does not give (log entry 51). Nothing leaves with TX_DIS (R463), and the generator's bits replace it
(R455). -/
def State.sendFrame (s : State) (n : Nat) (head : List Nat) : State :=
  let z := if (s.lane n).fill ≠ 0 then ((s.lane n).fill, s) else
    let r := s.fresh 13
    (max 1 r.1, r.2)
  let f := fillSymbols (2048 - head.length) z.1
  let s1 := z.2.setLane n { z.2.lane n with fill := f.2 }
  if s.flag F.LANE_TX_TX_DIS n || s.flag F.LANE_PRBS_GEN_EN n then s1
  else s1.emit (.laneFrame n (packSymbols (head ++ f.1)))

/-! ### Bring-up (R451 to R454) -/

/-- RESTART written (R451): a fault cause while ACTIVE, else a start. In FAULT, at the device time of its cause, it is a
RESTART on the same edge (log entry 53): the lane stays there. -/
def State.laneRestart (s : State) (n : Nat) : State :=
  let h := s.laneHead n
  if s.laneSt h = lnActive then s.laneFault h whyHost
  else if s.laneSt h = lnFault ∧ (s.lane h).since = s.time then s
  else s.laneStart h

/-- A LANE_CTL_n write (R460). -/
def State.laneCtlWrite (s : State) (n : Nat) (v : Word) : State :=
  let s1 := s.plainWrite .LANE_CTL n v
  let s2 := s1.set F.LANE_CTL_TRAIN_TMO n (max 1 (fldOf F.LANE_CTL_TRAIN_TMO v))
  if fldOf F.LANE_CTL_RESTART v = 1 then s2.laneRestart n else s2

/-- LANE_RESTART (R451): a write of LANE_CTL_n. -/
def execLaneRestart (src : Src) (n : Nat) (v : Word) (s : State) : Host.Outcome State Fault Refusal :=
  .next (if s.mayWrite src .LANE_CTL n then s.laneCtlWrite n v else s)

/-- DETECT_STEP (R451): a receiver-detect step. -/
def execDetectStep (n : Nat) (present : Bool) (s : State) : Host.Outcome State Fault Refusal :=
  .next (if s.laneUp n = true ∧ s.laneSt n = lnDetect then
    if !present then s.setLane n { s.lane n with cnt := 0 }
    else if (s.lane n).cnt = 0 then s.setLane n { s.lane n with cnt := 1 }
    else s.enterLane n lnTrain
  else s)

/-- The bytes of a 32-bit word, most significant first. -/
def wordBytes (v : Nat) : List Byte := (leBytes 4 v).reverse

/-- One tap moved by a request (R452). -/
def tapStep (t : Int) (req : Nat) : Int := if req = 1 then t + 1 else if req = 2 then t - 1 else t

/-- A valid CTL word of a training frame: its request is carried out once (R452). -/
def tapRequest (x : Lane) (ctl : Nat) : Lane :=
  if bitOf ctl 13 = x.ackTgl then x
  else
    { x with ackTgl := bitOf ctl 13
             preset := if 1 ≤ bitsOf ctl 8 3 ∧ bitsOf ctl 8 3 ≤ 4 then bitsOf ctl 8 3 else x.preset
             taps := (upTo 4).map fun k => tapStep (x.taps.getD k 0) (bitsOf ctl (2 * k) 2) }

/-- A word of a training frame with its CRC-16 (R452), as 48 symbols. -/
def wordField (v : Nat) : List Nat := pam2 32 v ++ pam2 16 (crc16 (wordBytes v))

/-- A training frame leaves (R452): the local receiver's requests and REQ_TGL are free values (log entry 51), the status word
answers the partner's. -/
def State.sendTraining (s : State) (n tap : Nat) (ready : Bool) : State :=
  let r := s.fresh 12
  let ctl := r.1 % 2 ^ 8 + r.1 / 2 ^ 8 % 2 ^ 3 % 5 * 2 ^ 8 + b2n ready * 2 ^ 12 + r.1 / 2 ^ 11 * 2 ^ 13
  let x := s.lane n
  r.2.sendFrame n (List.replicate 16 3 ++ List.replicate 16 0 ++ wordField ctl
    ++ wordField (tap % 2 ^ 8 + x.preset * 2 ^ 8 + x.ackTgl * 2 ^ 13))

/-- TRAINING_FRAME (R451, R452): a Krovant training frame arrives, CTL with its CRC-16, and one leaves; `ready` says whether
the local receiver has finished tuning, `tap` is the tap status the transmitter reports (log entry 51). The status word of
the frame that arrives is for the local receiver alone. -/
def execTrainingFrame (n ctl crc tap : Nat) (ready : Bool) (s : State) : Host.Outcome State Fault Refusal :=
  .next (if s.laneUp n = true ∧ s.isRaw n = true ∧ s.laneSt n = lnTrain then
    if crc16 (wordBytes ctl) = crc then
      let x := tapRequest (s.lane n) ctl
      let k := if bitOf ctl 12 = 1 then x.cnt + 1 else 0
      let s1 := (s.setLane n { x with cnt := k }).sendTraining n tap ready
      if 3 ≤ k ∧ ready = true then s1.enterLane n lnLock else s1
    else s.sendTraining n tap ready
  else s)

/-- LINK_TRAINING_FRAME (R451): an IEEE 802.3 link training frame of an Ethernet port; `done` says whether the training
that the standard defines has ended. -/
def execLinkTrainingFrame (n : Nat) (done : Bool) (s : State) : Host.Outcome State Fault Refusal :=
  let h := s.laneHead n
  .next (if s.laneUp n = true ∧ s.isEth n = true ∧ s.laneSt h = lnTrain ∧ done = true then s.enterLane h lnLock else s)

/-- LOCK_FRAME (R451): a frame in LOCK, with the marker in place or not; `chip` says that an Ethernet port is C2C or C2M,
which skips EXCHANGE. -/
def execLockFrame (n : Nat) (marker chip : Bool) (s : State) : Host.Outcome State Fault Refusal :=
  let h := s.laneHead n
  .next (if s.laneUp n = true ∧ s.laneSt h = lnLock then
    let k := if marker then (s.lane h).cnt + 1 else 0
    if 16 ≤ k then
      let s1 := (s.machineLanes h).foldl (fun s i => s.set F.LANE_STAT_LOL i 0) s
      s1.enterLane h (if s.isEth h && chip then lnActive else lnExchange)
    else s.setLane h { s.lane h with cnt := k }
  else s)

/-- AUTO_NEGOTIATION_PAGE (R451, R466): a Clause 73 page; `rf` is its remote-fault bit, `done` whether the negotiation is
complete. -/
def execAutoNegotiationPage (n : Nat) (rf done : Bool) (s : State) : Host.Outcome State Fault Refusal :=
  let h := s.laneHead n
  .next (if s.laneUp n = true ∧ s.isEth n = true ∧ s.laneSt h = lnExchange then
    let s1 := s.set F.ETH_PORT_STAT_RF h (b2n rf)
    if done then (s1.set F.ETH_PORT_STAT_AN_DONE h 1).enterLane h lnActive else s1
  else s)

/-- The payload of the capability frame that lane n sends (R453). -/
def State.capFrame (s : State) (n : Nat) : Nat :=
  0x4B56 + 2 ^ 16 + s.laneMode n * 2 ^ 20 + n * 2 ^ 24 + (s.reg .LANE_LINKID n).toNat * 2 ^ 32
    + b2n (decide (2 ≤ (s.lane n).cnt)) * 2 ^ 64 + (s.reg .LANE_USER n).toNat * 2 ^ 96
    + (s.lane n).seq % 2 ^ 32 * 2 ^ 192

/-- `n` bits of v as PAM2 symbols, bit 0 first (R453). -/
def pam2Low (n v : Nat) : List Nat := (upTo n).map fun k => 3 * bitOf v k

/-- A capability frame leaves (R453): its marker, the payload, and the payload's CRC-32C, whose bits leave like the payload's
(log entry 51). -/
def State.sendCap (s : State) (n : Nat) : State :=
  let p := s.capFrame n
  let s1 := s.sendFrame n (List.replicate 16 0 ++ List.replicate 16 3 ++ pam2Low 256 p ++ pam2Low 32 (crc32c (leBytes 32 p)))
  s1.setLane n { s1.lane n with seq := (s1.lane n).seq + 1 }

/-- Lane n has received a READY frame and sent one: its transmitter sends data (R454). -/
def Lane.sendsData (x : Lane) : Bool := x.gotReady && decide (3 ≤ x.cnt)

/-- A frame boundary after the frames counted in x: the next frame leaves, or data begins (R454). READY is sent from the
second matching frame on and stays. -/
def State.capNext (s : State) (n : Nat) (x : Lane) : State :=
  if x.gotReady && decide (2 ≤ (s.lane n).cnt) then s.setLane n { x with cnt := max 3 x.cnt } else (s.setLane n x).sendCap n

/-- A valid partner frame (R454). -/
def State.capReceive (s : State) (n p : Nat) : State :=
  let s1 := (s.setReg .LANE_PEER_ID n (BitVec.ofNat 32 (bitsOf p 32 32))).setReg .LANE_PEER_USER n
    (BitVec.ofNat 32 (bitsOf p 96 32))
  if bitsOf p 20 2 ≠ s.laneMode n then s1.laneFault n whyMode
  else if s.flag F.LANE_CTL_PEER_CHK n = true ∧ bitsOf p 32 32 ≠ (s.reg .LANE_LINKID n).toNat then s1.laneFault n whyPeer
  else
    let x := s.lane n
    s1.capNext n { x with cnt := x.cnt + 1, gotReady := x.gotReady || bitOf p 64 == 1 }

/-- The lane with an invalid frame or none received: the count of frames in a row starts anew before READY is sent. -/
def Lane.capMissed (x : Lane) : Lane := { x with cnt := if x.cnt < 2 then 0 else x.cnt }

/-- CAPABILITY_FRAME (R454): a frame boundary in EXCHANGE: a capability frame with its CRC-32C, or none where no
capability marker arrives. -/
def execCapabilityFrame (n : Nat) (f : Option (Nat × Nat)) (s : State) : Host.Outcome State Fault Refusal :=
  .next (if s.laneUp n = true ∧ s.isRaw n = true ∧ s.laneSt n = lnExchange then
    match f with
    | some (p, crc) =>
      if bitsOf p 0 16 = 0x4B56 ∧ bitsOf p 16 4 = 1 ∧ crc32c (leBytes 32 p) = crc then s.capReceive n p
      else s.capNext n (s.lane n).capMissed
    | none => if (s.lane n).gotReady then s.enterLane n lnActive else s.capNext n (s.lane n).capMissed
  else s)

/-- The timer of a state in ns (R451). -/
def State.laneTimer (s : State) (h : Nat) : Option Nat :=
  let st := s.laneSt h
  if st = lnTrain then some (4000000 * s.get F.LANE_CTL_TRAIN_TMO h)
  else if st = lnLock ∨ st = lnExchange then some 1000000
  else none

/-- LANE_TIMER_EXPIRY (R451). -/
def execLaneTimerExpiry (n : Nat) (s : State) : Host.Outcome State Fault Refusal :=
  let h := s.laneHead n
  .next (match s.laneTimer h with
    | some t => if s.laneUp n = true ∧ (s.lane h).since + t ≤ s.time then s.laneFault h whyTimeout else s
    | none => s)

/-- FAULT_RESTART_TIMER (R451): 1 ms after FAULT with AUTO_RESTART set. -/
def execFaultRestartTimer (n : Nat) (s : State) : Host.Outcome State Fault Refusal :=
  let h := s.laneHead n
  .next (if s.laneUp n = true ∧ s.laneSt h = lnFault ∧ s.flag F.LANE_CTL_AUTO_RESTART h = true
      ∧ (s.lane h).since + 1000000 ≤ s.time then s.laneStart h else s)

/-- LOS_ASSERT (R456): the lane faults, unless a twin move blanks it (R479). -/
def execLosAssert (n : Nat) (s : State) : Host.Outcome State Fault Refusal :=
  let h := s.laneHead n
  .next (if s.laneUp n = true ∧ s.laneBlank n = false then
    let s1 := s.set F.LANE_STAT_LOS n 1
    if s1.laneRuns h then s1.laneFault h whyLos else s1
  else s)

/-- LOS_CLEAR (R456). -/
def execLosClear (n : Nat) (s : State) : Host.Outcome State Fault Refusal :=
  .next (if s.laneUp n then s.set F.LANE_STAT_LOS n 0 else s)

/-- The CDR of lane n has lost lock (R456). -/
def State.laneLol (s : State) (n : Nat) : State :=
  let h := s.laneHead n
  let s1 := s.set F.LANE_STAT_LOL n 1
  if s1.laneRuns h then s1.laneFault h whyLol else s1

/-- LOL_ASSERT (R456). -/
def execLolAssert (n : Nat) (s : State) : Host.Outcome State Fault Refusal :=
  .next (if s.laneUp n = true ∧ s.laneBlank n = false then s.laneLol n else s)

/-- Every lane of octet o that has a mode enters FAULT with cause LOL, from whatever state (R478, R653). -/
def State.octetLol (s : State) (o : Nat) : State :=
  (upTo 8).foldl (fun s j =>
    let n := 8 * o + j
    let h := s.laneHead n
    let s1 := if s.laneMode n = 0 then s else s.set F.LANE_STAT_LOL n 1
    if s.laneMode n = 0 ∨ s.laneSt h = lnFault then s1 else s1.laneFault h whyLol) s

/-- Blanking of octet o starts with a twin move (R479). -/
def State.octetBlank (s : State) (o : Nat) : State :=
  { s with lanes := { s.lanes with blank := mapSet (fun _ => none) s.lanes.blank o (some s.time) } }

/-- TWIN_BLANK_END (R479): 5 µs after the move; the lanes in `lost` have not regained lock and raise LOL. -/
def execTwinBlankEnd (o : Nat) (lost : List Nat) (s : State) : Host.Outcome State Fault Refusal :=
  .next (match mapGet (fun _ => none) s.lanes.blank o with
    | none => s
    | some t =>
      if o < 8 ∧ t + 5000 ≤ s.time then
        let s1 := { s with lanes := { s.lanes with blank := mapSet (fun _ => none) s.lanes.blank o none } }
        (upTo 8).foldl (fun s j => if lost.contains j then s.laneLol (8 * o + j) else s) s1
      else s)

/-! ### PRBS (R455) -/

/-- The order in which a raw item's bits are sent (R448, R455). -/
def txOrder (sym : Bool) : List Nat :=
  if sym then ((upTo 32).map fun k => [2 * k + 1, 2 * k]).flatten else [64, 65] ++ upTo 64

/-- The first `k` bits sent of an item, inverted (R455). -/
def injectBits (order : List Nat) (k item : Nat) : Nat :=
  (order.take k).foldl (fun v i => Nat.xor v (2 ^ i)) item

/-- One received bit at the checker: synchronising on 64 error-free bits, then counting (R455). -/
def State.chkBit (s : State) (n b : Nat) : State :=
  let x := s.lane n
  let pat := s.get F.LANE_PRBS_PAT n
  let p := prbsNext pat x.chk.reg
  if s.flag F.LANE_PRBS_CHK_LOCK n then
    let s1 := if p = b then s else s.inc F.LANE_PRBS_ERR_ERRORS n
    let bits := x.chk.bits + 1
    let s2 := s1.setLane n { x with chk := { reg := prbsShift pat x.chk.reg p, run := x.chk.run, bits := bits % 2 ^ 20 } }
    if bits = 2 ^ 20 then s2.incWrap F.LANE_PRBS_BITS_MBITS n 1 else s2
  else
    let run := if p = b then x.chk.run + 1 else 0
    let s1 := s.setLane n { x with chk := { reg := prbsShift pat x.chk.reg b, run := run, bits := 0 } }
    if run = 64 ∧ prbsShift pat x.chk.reg b ≠ 0 then s1.set F.LANE_PRBS_CHK_LOCK n 1 else s1

/-- A write of LANE_PRBS_n (R455, R464). A generator that starts does so from a free state. -/
def State.lanePrbsWrite (s : State) (n : Nat) (v : Word) : State :=
  let s1 := s.plainWrite .LANE_PRBS n v
  let s2 := (s1.set F.LANE_PRBS_PAT n (min 5 (fldOf F.LANE_PRBS_PAT v))).set F.LANE_PRBS_BURST_LEN n
    (max 1 (fldOf F.LANE_PRBS_BURST_LEN v))
  let s3 := if fldOf F.LANE_PRBS_CHK_EN v = 1 ∧ s.flag F.LANE_PRBS_CHK_EN n = false then
      (((s2.set F.LANE_PRBS_ERR_ERRORS n 0).set F.LANE_PRBS_BITS_MBITS n 0).set F.LANE_PRBS_CHK_LOCK n 0).setLane n
        { s2.lane n with chk := {} }
    else if fldOf F.LANE_PRBS_CHK_EN v = 0 then s2.set F.LANE_PRBS_CHK_LOCK n 0
    else s2
  let s4 := if fldOf F.LANE_PRBS_GEN_EN v = 1 ∧ s.flag F.LANE_PRBS_GEN_EN n = false then
      let r := s3.fresh 31
      r.2.setLane n { r.2.lane n with gen := { reg := max 1 (r.1 % 2 ^ (prbsTaps (s3.get F.LANE_PRBS_PAT n)).1) } }
    else s3
  let x := s4.lane n
  if x.inj ≠ 0 then s4
  else if fldOf F.LANE_PRBS_INJ_1 v = 1 then s4.setLane n { x with inj := 1 }
  else if fldOf F.LANE_PRBS_INJ_BURST v = 1 then s4.setLane n { x with inj := s4.get F.LANE_PRBS_BURST_LEN n }
  else s4

/-- LANE_PRBS_WRITE (R455). -/
def execLanePrbsWrite (src : Src) (n : Nat) (v : Word) (s : State) : Host.Outcome State Fault Refusal :=
  .next (if s.mayWrite src .LANE_PRBS n then s.lanePrbsWrite n v else s)

/-- PRBS_INJECT (R455): a write of LANE_PRBS_n with INJ_1 or INJ_BURST; ignored while an injection is in progress. -/
def execPrbsInject (src : Src) (n : Nat) (v : Word) (s : State) : Host.Outcome State Fault Refusal :=
  .next (if s.mayWrite src .LANE_PRBS n = true
      ∧ (fldOf F.LANE_PRBS_INJ_1 v = 1 ∨ fldOf F.LANE_PRBS_INJ_BURST v = 1) then s.lanePrbsWrite n v else s)

/-! ### Ways (R442, R447) -/

/-- Hoppers whose side of code 6 names lane n, in ascending order (R442, R447). -/
def State.laneHoppers (s : State) (n : Nat) (rx : Bool) : List Nat :=
  s.regs.filterMap fun (e : Nat × Word) =>
    let j := e.1 / 512
    let f := if rx then F.HOP_CFG_WR_SRC else F.HOP_CFG_RD_SRC
    if e.1 % 512 = Reg.HOP_CFG.ctorIdx ∧ s.get f j = 6 ∧ s.get F.HOP_CFG_LANE j = n
        ∧ s.hopSlave j = false then some j else none

/-- The ways of lane or port n (R442, R447): the hoppers of the bench that holds its bits; with no such bench the fenced
hoppers, whose side is stopped (R276). -/
def State.laneWays (s : State) (n : Nat) (rx : Bool) : List Nat :=
  let all := s.laneHoppers n rx
  let open_ := all.filter fun j => !s.wayFenced n j rx
  if open_.isEmpty then all else open_

/-- W of a raw lane (R447). -/
def State.wayCount (s : State) (n : Nat) : Nat := 2 ^ (s.get F.LANE_CTL_WAYS n + 1)

/-! ### Raw streams (R447 to R450) -/

/-- A raw port's offer at WREADY 0 cuts the open packet, whose rest is discarded (R133). -/
def State.rawCut (s : State) (j : Nat) : State :=
  let x := flushAtW (s.hop j)
  match x.wopen, s.flag F.HOP_CFG_PKT j with
  | some n, true =>
    let s1 := s.hopCut j x n
    s1.setHop j { s1.hop j with discard := true }
  | _, _ => s

/-- An item for a way that the lane cannot wait for: it drives the way like a raw port (R449). -/
def State.rawDeliver (s : State) (n j item : Nat) : State :=
  if s.wayFenced n j true then (s.inc F.LANE_DROP_FENCE_DROP n).raiseBench (j / 32) 7
  else if s.hopAccepts j then s.hopWrite j item false false
  else
    let s1 := s.inc F.LANE_DROP_RX_DROP n
    (if s.flag F.HOP_CFG_WR_RAW j then s1.hopDrop j else s1).rawCut j

/-- RAW66 sync headers: block lock after 64 valid ones, lost at 16 invalid ones within 64 blocks (R451). -/
def State.blockTrack (s : State) (n item : Nat) : State :=
  let x := s.lane n
  let ok := bitsOf item 64 2 == 1 || bitsOf item 64 2 == 2
  if x.block then
    let bad := x.hdrBad + b2n (!ok)
    if 16 ≤ bad ∧ s.laneBlank n = false then s.laneFault n whyBlock
    else if x.hdrRun + 1 = 64 then s.setLane n { x with hdrRun := 0, hdrBad := 0 }
    else s.setLane n { x with hdrRun := x.hdrRun + 1, hdrBad := bad }
  else if ok then
    if x.hdrRun + 1 = 64 then s.setLane n { x with block := true, hdrRun := 0, hdrBad := 0 }
    else s.setLane n { x with hdrRun := x.hdrRun + 1 }
  else s.setLane n { x with hdrRun := 0 }

/-- The stream goes on by one item (R447). -/
def State.rawSkip (s : State) (n : Nat) : State :=
  let x := s.lane n
  s.setLane n { x with rxItem := (x.rxItem % s.wayCount n + 1) % s.wayCount n }

/-- Whether the bridges from column c to column c2 are open, horizontal first (R317, R350, R450). -/
def State.columnsJoined (s : State) (c c2 : Nat) : Bool :=
  let mid := Nat.xor c (Nat.xor c c2 % 2)
  (c == mid || s.outState (routerOf c 0 3) 4 == 0) && (mid == c2 || s.outState (routerOf mid 0 3) 5 == 0)

/-- Whether an item or frame from column c reaches bench b: its own column's, or carried across open bridges (R450). -/
def State.reachesBench (s : State) (c b : Nat) (carried : Bool) : Bool :=
  benchCol b == c || (carried && s.columnsJoined c (benchCol b))

/-- A received item goes to the next way (R447, R449, R450). -/
def State.rawNext (s : State) (n item : Nat) (carried : Bool) : State :=
  let i := (s.lane n).rxItem % s.wayCount n
  let s1 := s.rawSkip n
  match (s.laneWays n true)[i]? with
  | none => s1.inc F.LANE_DROP_RX_DROP n
  | some j =>
    if s.reachesBench (n / 16) (j / 32) carried then s1.rawDeliver n j item else s1.inc F.LANE_DROP_RX_DROP n

/-- Whether a received item belongs to the stream: every one in RAWSYM, those under block lock in RAW66. A twin move keeps
block lock (R451, R479). -/
def State.rawTrack (s : State) (n item : Nat) : Bool × State :=
  if s.laneMode n = 3 then (true, s)
  else if s.laneBlank n then ((s.lane n).block, s)
  else
    let s1 := s.blockTrack n item
    ((s.lane n).block && (s1.lane n).block, s1)

/-- RAW_RX_ITEM (R449): an item of the line, discarded during a floor-die reset (R439) and a twin move (R479); `carried` says whether the haul network carries it to another column. With
the checker on, its bits are checked and it is not delivered. -/
def execRawRxItem (n item : Nat) (carried : Bool) (s : State) : Host.Outcome State Fault Refusal :=
  .next (if s.laneUp n then
    if s.flag F.LANE_PRBS_CHK_EN n then
      (txOrder (s.laneMode n != 2)).foldl (fun s i => s.chkBit n (bitOf item i)) s
    else if s.isRaw n = true ∧ s.laneSt n = lnActive then
      let r := s.rawTrack n item
      if s.floorReset ≠ 0 ∨ s.laneBlank n = true then
        (if r.1 then r.2.rawSkip n else r.2).inc F.LANE_DROP_RX_DROP n
      else if r.1 then r.2.rawNext n (item % 2 ^ (if s.laneMode n = 3 then 64 else 66)) carried
      else r.2
    else s
  else s)

/-- What the next way sends: its item, 0 for a cut end (R134), or its idle item where none is readable or its side is
stopped (R449). -/
def State.rawTake (s : State) (n j : Nat) : Nat × State :=
  if s.floorReset ≠ 0 ∨ s.wayFenced n j false = true then (s.idleItem j, s)
  else
    let r := readItem (s.hop j)
    let s1 := s.setHop j r.2
    match r.1 with
    | .item (.data v) => (v, s1)
    | .item (.length cut k) => (lengthWord cut k, s1)
    | .cutEnd => (0, s1)
    | .nothing => (s.idleItem j, s1)

/-- What the next way sends over the haul network where its bench lies in another column: an item that a dark bridge keeps
from being carried is dropped and counted, and the idle item goes out (R450). -/
def State.rawCarried (s : State) (n j : Nat) : Nat × State :=
  let r := s.rawTake n j
  if s.reachesBench (n / 16) (j / 32) true || decide (s.floorReset ≠ 0) || s.wayFenced n j false || !s.hopRvalid j then r
  else (s.idleItem j, r.2.inc F.LANE_DROP_RX_DROP n)

/-- The next item that a raw lane sends, as width and order of its bits ask: from the generator or from the next way. -/
def State.rawTxNext (s : State) (n width : Nat) (order : List Nat) : Option (Nat × State) :=
  let x := s.lane n
  if s.flag F.LANE_PRBS_GEN_EN n = true ∧ s.laneRuns n = true then
    let r := prbsBits (s.get F.LANE_PRBS_PAT n) width x.gen.reg
    let v := (upTo width).foldl (fun a k => a + bitOf r.1 k * 2 ^ (order.getD k 0)) 0
    some (v, s.setLane n { x with gen := { x.gen with reg := r.2 } })
  else if s.isRaw n = true ∧ (s.laneSt n = lnActive ∨ (s.laneSt n = lnExchange ∧ x.sendsData = true)) then
    let i := x.txItem % s.wayCount n
    let s1 := s.setLane n { x with txItem := (i + 1) % s.wayCount n }
    match (s.laneWays n false)[i]? with
    | none => some (0, s1)
    | some j => some (s1.rawCarried n j)
  else none

/-- RAW_TX_ITEM (R449, R455): the next item leaves, with any inverted bits; nothing leaves with TX_DIS. A lane of an
Ethernet port sends the generator's bits only, 64 to an item. -/
def execRawTxItem (n : Nat) (s : State) : Host.Outcome State Fault Refusal :=
  .next (if s.laneUp n = true ∧ s.laneMode n ≠ 0 then
    let sym := s.laneMode n != 2
    let width := if sym then 64 else 66
    let order := txOrder sym
    match s.rawTxNext n width order with
    | none => s
    | some (v, s1) =>
      let y := s1.lane n
      let s2 := s1.setLane n { y with inj := y.inj - width }
      if s.flag F.LANE_TX_TX_DIS n then s2 else s2.emit (.laneItem n (injectBits order y.inj (v % 2 ^ width)))
  else s)

/-! ### Ethernet frames (R442 to R446) -/

/-- The ways of a port that have PKT set (R442), starting after the way used last, as hopper + 1. -/
def State.portWays (s : State) (n : Nat) (rx : Bool) (last : Nat) : List Nat :=
  let l := (s.laneWays n rx).filter fun j => s.flag F.HOP_CFG_PKT j
  (l.filter fun j => last ≤ j) ++ l.filter fun j => j < last

/-- Device time `ns` nanoseconds into the present cycle of its source, as R482 interpolates it: what stamps the
start-of-frame delimiter of a frame (R12, R445). -/
def State.stampTime (s : State) (ns : Nat) : Nat :=
  (s.time + ns % (if s.get F.CLK_OSC_STAT_DT_SRC 0 = 0 then 40 else 5)) % 2 ^ 64

/-- The items of a received frame (R443). -/
def rxItems (bs : List Byte) (fcsBad trunc : Bool) (seq ts frac : Nat) : List Nat :=
  [ts % 2 ^ 64 + frac % 2 ^ 8 * 2 ^ 64,
   bs.length % 2 ^ 14 + b2n fcsBad * 2 ^ 14 + b2n trunc * 2 ^ 15 + seq % 2 ^ 16 * 2 ^ 16]
  ++ (upTo ((bs.length + 7) / 8)).map fun k => leAt bs (8 * k) 8

/-- Whether a way's free space admits every item and the length word (R443). -/
def State.wayRoom (s : State) (j : Nat) (items : List Nat) : Bool :=
  decide (wcount (flushAtW (s.hop j)) + (s.hopItems j items).length + 1 ≤ s.hopCap j)

/-- A frame goes to the first way with space (R443). -/
def State.frameDeliver (s : State) (n : Nat) (items : List Nat) (carried : Bool) : State :=
  let ws := s.portWays n true (s.lane n).rxWay
  match ws.find? fun j => s.wayFenced n j true || s.wayRoom j items with
  | none => s.inc F.ETH_RX_ERR_DROP n
  | some j =>
    if s.wayFenced n j true then (s.inc F.LANE_DROP_FENCE_DROP n).raiseBench (j / 32) 7
    else if !s.reachesBench (n / 16) (j / 32) carried then s.inc F.LANE_DROP_RX_DROP n
    else ((s.writeItems j (s.hopItems j items)).2).setLane n { s.lane n with rxWay := j + 1 }

/-- The frame check sequence of IEEE 802.3 (R441): CRC-32, least significant byte first. -/
def fcsOf (bs : List Byte) : List Byte :=
  leBytes 4 (Nat.xor (bs.foldl (fun c b => crcByteR 0xEDB88320 c b.toNat) 0xFFFFFFFF) 0xFFFFFFFF)

/-- The FCS of a whole frame is good (R443): its last four bytes check those before them. -/
def fcsGood (fr : List Byte) : Bool := fr.drop (fr.length - 4) == fcsOf (fr.take (fr.length - 4))

/-- A whole frame at an ACTIVE port, FCS included (R443). A frame shorter than 64 bytes, and one with a codeword that the
RS-FEC could not correct, count as one with a bad FCS (log entry 53). -/
def State.frameReceive (s : State) (n : Nat) (fr : List Byte) (fecOk : Bool) (ts frac : Nat) (carried : Bool) : State :=
  let mx := s.get F.ETH_PORT_CFG_MAX_FRAME n
  let bs := fr.take (fr.length - 4)
  let bad := !fecOk || !fcsGood fr || decide (fr.length < 64)
  let long := decide (mx < fr.length)
  let s1 := s.incWrap F.ETH_RX_FRAMES_COUNT n 1
  let seq := s1.get F.ETH_RX_FRAMES_COUNT n
  let s2 := if bad || long then s1.inc F.ETH_RX_ERR_FCS_ERR n else s1
  if bad && s.flag F.ETH_PORT_CFG_FCS_DROP n then s2
  else s2.frameDeliver n (rxItems (if long then bs.take (mx - 4) else bs) bad long seq ts frac) carried

/-- ETH_RX_FRAME (R443, R445): a frame arrives whole: its bytes with the FCS, whether every codeword of it was sound or
corrected, and how many nanoseconds and which fraction of one into the present cycle of device time its start-of-frame
delimiter stood at the balls; `corr` and `uncorr` are the RS-FEC codewords decoded since the last frame. -/
def execEthRxFrame (n : Nat) (bs : List Byte) (fcsOk : Bool) (ns frac : Nat) (carried : Bool) (corr uncorr : Nat)
    (s : State) : Host.Outcome State Fault Refusal :=
  .next (if s.laneLive n = true ∧ s.isEth n = true ∧ s.laneHead n = n then
    let s1 := (s.incBy F.ETH_FEC_CORR_COUNT n corr).incBy F.ETH_FEC_UNCORR_COUNT n uncorr
    if s.floorReset ≠ 0 then s1.inc F.LANE_DROP_RX_DROP n
    else if s.laneBlank n then s1.inc F.ETH_RX_ERR_FCS_ERR n
    else if s.flag F.LANE_PRBS_CHK_EN n then s1
    else s1.frameReceive n bs fcsOk (s.stampTime ns) frac carried
  else s)

/-- The MAC pads to 60 bytes and appends the FCS (R444). -/
def macFrame (bs : List Byte) : List Byte :=
  let p := bs ++ List.replicate (60 - bs.length) 0
  p ++ fcsOf p

/-- A timestamp enters the FIFO of 16 (R444, R445). -/
def State.txStamp (s : State) (n id ts frac : Nat) : State :=
  let x := s.lane n
  if x.txts.length < 16 then s.setLane n { x with txts := x.txts ++ [(id, ts % 2 ^ 64, frac % 2 ^ 8)] }
  else s.set F.ETH_PORT_STAT_TS_OVF n 1

/-- The first `k` bits of a frame as it is sent, each byte's least significant bit first, inverted (R455). -/
def injectBytes (k : Nat) (bs : List Byte) : List Byte :=
  (upTo bs.length).map fun i => (bs.getD i 0) ^^^ BitVec.ofNat 8 (2 ^ min 8 (k - 8 * i) - 1)

/-- A whole packet taken from way j (R444), with any inverted bits (R455). -/
def State.packetSend (s : State) (n j ts frac : Nat) : State :=
  let x := s.hop j
  let pair := s.hopWidth j == 144
  let d0 := x.asm.getD 0 0
  let len := bitsOf d0 0 14
  let want := 1 + (if pair then (len + 15) / 16 else (len + 7) / 8)
  let good := match x.asmLen with
    | some (cut, k) => !cut && k == want
    | none => false
  let s1 := s.dropAsm j
  if good && decide (len + 4 ≤ s.get F.ETH_PORT_CFG_MAX_FRAME n) then
    let data := x.asm.drop (if pair then 2 else 1)
    let bs := ((data.map fun v => leBytes 8 v).flatten).take len
    let fr := macFrame bs
    let k := (s1.lane n).inj
    let s2 := (s1.emit (.ethFrame n (injectBytes k fr))).incWrap F.ETH_TX_FRAMES_COUNT n 1
    let s3 := s2.setLane n { s2.lane n with inj := k - 8 * fr.length }
    if bitOf d0 14 = 1 then s3.txStamp n (bitsOf d0 16 16) ts frac else s3
  else s1.inc F.ETH_TX_ERR_TX_BAD n

/-- The cut ends that the port meets before it has a whole packet (R134, R444). -/
def cutEnds (pair : Bool) : Nat → Hopper → Nat
  | 0, _ => 0
  | fuel + 1, x =>
    if wantsItem true pair x then
      let r := readItem x
      match r.1 with
      | .nothing => 0
      | .cutEnd => 1 + cutEnds pair fuel { r.2 with asm := [], asmLen := none }
      | .item (.length cut n) => cutEnds pair fuel { r.2 with asmLen := some (cut, n), asm := [] }
      | .item (.data v) => cutEnds pair fuel { r.2 with asm := r.2.asm ++ (if pair then [v % 2 ^ 72, v / 2 ^ 72] else [v]) }
    else 0

/-- The port takes what stands in way j (R444): each packet that RKIND 2 cuts short counts in TX_BAD; one from a bench that a
dark bridge parts from the port is dropped and counted (R450). -/
def State.ethTake (s : State) (n j ts frac : Nat) : State :=
  let x := flushAtR (s.hop j)
  let cuts := cutEnds (s.hopWidth j == 144) (x.slots.length + 2) x
  let s0 := (s.fillPort j).incBy F.ETH_TX_ERR_TX_BAD n cuts
  let s1 := s0.setLane n { s0.lane n with txWay := j + 1 }
  if s1.asmWhole j then
    if s.reachesBench (n / 16) (j / 32) true then s1.packetSend n j ts frac
    else (s1.dropAsm j).inc F.LANE_DROP_RX_DROP n
  else s1

/-- ETH_TX_FRAME (R444): the port takes a packet from the first way with one readable; `ns` and `frac` say where
in the present cycle of device time its start-of-frame delimiter stood (R445). -/
def execEthTxFrame (n ns frac : Nat) (s : State) : Host.Outcome State Fault Refusal :=
  .next (if s.laneLive n = true ∧ s.isEth n = true ∧ s.laneHead n = n ∧ s.floorReset = 0
      ∧ s.flag F.LANE_PRBS_GEN_EN n = false ∧ s.flag F.LANE_TX_TX_DIS n = false then
    match (s.portWays n false (s.lane n).txWay).find? fun j =>
        !s.wayFenced n j false && s.hopRvalid j with
    | none => s
    | some j => s.ethTake n j (s.stampTime ns) frac
  else s)

/-- TXTS_READ (R466): a read of ETH_TXTS_ID_n takes an entry and latches LO and HI. -/
def State.txtsRead (s : State) (n : Nat) : State :=
  match (s.lane n).txts with
  | [] => s.setReg .ETH_TXTS_ID n 0
  | (id, ts, frac) :: rest =>
    let s1 := s.setLane n { s.lane n with txts := rest }
    let s2 := ((s1.set F.ETH_TXTS_ID_VALID n 1).set F.ETH_TXTS_ID_FRAC n frac).set F.ETH_TXTS_ID_TS_ID n id
    (s2.set F.ETH_TXTS_LO_TS_LO n ts).set F.ETH_TXTS_HI_TS_HI n (ts / 2 ^ 32)

def execTxtsRead (n : Nat) (s : State) : Host.Outcome State Fault Refusal :=
  .next (if s.laneUp n then s.txtsRead n else s)

/-! ### Element recalibration (R457) -/

/-- ELEMENT_RECAL_START (R457): element e rotates out; LANE_SQ_n holds its values with STALE. -/
def execElementRecalStart (n e : Nat) (s : State) : Host.Outcome State Fault Refusal :=
  .next (if s.laneUp n = true ∧ e < 72 ∧ (s.lane n).elem = none ∧ (s.lane n).retired.contains e = false then
    ((s.setLane n { s.lane n with elem := some e }).set F.LANE_SQ_STALE n 1).calStart 3 (72 * n + e)
  else s)

/-- Spares of an element's kind that are left: one comparator, four driver segments (R457). -/
def sparesLeft (retired : List Nat) (e : Nat) : Nat :=
  if e < 4 then 1 - (retired.filter fun x => decide (x < 4)).length
  else 4 - (retired.filter fun x => decide (4 ≤ x)).length

/-- An element that fails is retired; CAL_EXH sets once no spare of its kind is left (R457, R461; log entry 53). -/
def State.elementFail (s : State) (n e : Nat) : State :=
  let x := s.lane n
  let l := x.retired ++ [e]
  let s1 := ((s.setLane n { x with retired := l }).laneEvt 2).wlog 0x0602 76 sevInfo (n + e * 2 ^ 8)
  if sparesLeft l e = 0 then s1.set F.LANE_STAT_CAL_EXH n 1 else s1

/-- ELEMENT_RECAL_DONE (R457): `bg` is the background value found, `eye` and `snr` the line's quality as measured then. -/
def execElementRecalDone (n : Nat) (ok : Bool) (bg eye snr : Nat) (s : State) : Host.Outcome State Fault Refusal :=
  .next (match (s.lane n).elem with
    | none => s
    | some e =>
      let s1 := (s.setLane n { s.lane n with elem := none }).set F.LANE_SQ_STALE n 0
      let s2 := (s1.set F.LANE_SQ_EYE_MV n eye).set F.LANE_SQ_SNR n snr
      if ok then s2.calFound 3 (72 * n + e) bg else s2.elementFail n e)

/-- PD_ETH_o powers down: every lane of the octet goes to DISABLED and loses what it holds (R438, R501). -/
def State.loseLanes (s : State) (o : Nat) : State :=
  { s with lanes := { lane := mapKeep (fun k => k / 8 != o) s.lanes.lane
                      blank := mapSet (fun _ => none) s.lanes.blank o none } }

end Sys2Proof.Machine
end

