-- ==== Sys2Proof/Machine/Bch.lean ====
section
/-!
DEFINITION. The slot code (R198): a shortened binary BCH code of length 1,023 that corrects two errors, with an overall
parity bit.
-/

namespace Sys2Proof.Machine

/-- g(x) = m1(x) · m3(x), with m1 = x^10 + x^3 + 1 and m3 = x^10 + x^3 + x^2 + x + 1 (R198). -/
def bchGen : Nat := 0x101877

/-- One step of division by g: shift in a bit. -/
def bchShift (r bit : Nat) : Nat :=
  let x := 2 * r + bit
  if bitOf x 20 = 1 then Nat.xor x bchGen else x

/-- The 20 check bits of 512 data bits: the remainder of data · x^20. -/
def bchCheck (d : Nat) : Nat :=
  (upTo 20).foldl (fun r _ => bchShift r 0) ((upTo 512).foldl (fun r i => bchShift r (bitOf d (511 - i))) 0)

/-- A 533-bit codeword: check bits at 0, data at 20, parity of the rest at 532 (R198). -/
def slotEncode (d : Nat) : Nat :=
  let c := bchCheck (d % 2 ^ 512) + d % 2 ^ 512 * 2 ^ 20
  c + parity c 532 * 2 ^ 532

/-- Multiplication by α, and in general, in the field of m1. -/
def gfShift (a : Nat) : Nat := let x := 2 * a; if bitOf x 10 = 1 then Nat.xor x 0x409 else x
def gfMul (a b : Nat) : Nat := (upTo 10).foldl (fun r i => Nat.xor (gfShift r) (if bitOf b (9 - i) = 1 then a else 0)) 0
def gfCube (a : Nat) : Nat := gfMul a (gfMul a a)

/-- Powers α^0, α^1, ... as a list of n. -/
def gfPowers : Nat → Nat → List Nat
  | 0, _ => []
  | n + 1, a => a :: gfPowers n (gfShift a)

/-- The value of a polynomial at α^e, e the factor of the exponents: the syndrome. -/
def bchSyn (c : Nat) (pws : List Nat) : Nat :=
  ((upTo 532).zip pws).foldl (fun r (x : Nat × Nat) => if bitOf c x.1 = 1 then Nat.xor r x.2 else r) 0

/-- Position of a single error with syndromes s1, s3. -/
def bchOne (pws : List Nat) (s1 s3 : Nat) : Option Nat :=
  if s1 ≠ 0 ∧ gfCube s1 = s3 then posOf s1 pws 0 else none

/-- The bits to correct in bits [531:0]: none, one or two positions; no answer when no such pattern fits. -/
def bchLocate (c : Nat) : Option (List Nat) :=
  let pws := gfPowers 532 1
  let cubes := pws.map gfCube
  let s1 := bchSyn c pws
  let s3 := bchSyn c cubes
  if s1 = 0 ∧ s3 = 0 then some []
  else match bchOne pws s1 s3 with
    | some i => some [i]
    | none =>
      ((upTo 532).zip (pws.zip cubes)).findSome? fun (x : Nat × Nat × Nat) =>
        match bchOne pws (Nat.xor s1 x.2.1) (Nat.xor s3 x.2.2) with
        | some j => if x.1 < j then some [x.1, j] else none
        | none => none

/-- The outcome of reading a slot codeword (R198): up to two bit errors corrected, three detected. -/
def slotDecode (cw : Nat) : EccOut :=
  let c := cw % 2 ^ 532
  let p := parity cw 533
  let fix := fun (l : List Nat) => l.foldl (fun x i => Nat.xor x (2 ^ i)) c / 2 ^ 20
  let bad : EccOut := ⟨.bad, c / 2 ^ 20, 0, p, 0⟩
  match bchLocate c with
  | some [] => if p = 0 then ⟨.clean, c / 2 ^ 20, 0, p, 0⟩ else ⟨.corrected, c / 2 ^ 20, 0, p, 532⟩
  | some [i] => ⟨.corrected, fix [i], 0, p, i⟩
  | some [i, j] => if p = 0 then ⟨.corrected, fix [i, j], 0, p, i⟩ else bad
  | _ => bad

end Sys2Proof.Machine
end

