-- ==== Sys2Proof/Machine/Degrade.lean ====
section
/-!
DEFINITION. What a hard fault of a sett column does to its bench (R372, R380, R383, R384), and the parity of frozen state
copies that classifies one (R403, R404).
-/

namespace Sys2Proof.Machine

/-! ### Taking a bench offline and back -/

/-- A device-issued command of bench b's leader at its E3 edge (R165). -/
def State.deviceCmd (s : State) (b : Nat) (cmd : ReqCmd) (plane : Nat) (fab host sched last : Bool) : State :=
  let l := s.leaderOf b
  (s.setDevReq l (some ⟨.device, cmd, plane, 0⟩)).presentEdge l true fab host sched last

def State.shift (s : State) (b : Nat) : Option ShiftRun := mapGet (fun _ => none) s.repair.shifts b
def State.setShift (s : State) (b : Nat) (x : Option ShiftRun) : State :=
  { s with repair := { s.repair with shifts := mapSet (fun _ => none) s.repair.shifts b x } }

/-! ### Degraded benches and column faults (R380, R384) -/

/-- An online command that stands deferred for bench b's gang ends refused with STATE (R383, R384). -/
def State.refuseOnline (s : State) (b : Nat) : State :=
  match mapGet (fun _ => none) s.planes.defer (s.leaderOf b) with
  | some r => if r.cmd = .online then (s.planeRefuse (s.leaderOf b) r rfState).dropDeferred (s.leaderOf b) else s
  | none => s

/-- BENCH DEGRADED (R384): offline within the STOP bound, recorded in the spoil list. A shift in progress is cancelled
(R383). -/
def State.degrade (s : State) (b why : Nat) : State :=
  if s.flag F.BENCH_SHIFT_DEGRADED b then s
  else
    let s1 := ((((s.set F.BENCH_SHIFT_DEGRADED b 1).set F.BENCH_SHIFT_DEG_WHY b why).set F.BENCH_SHIFT_REPAIRING b 0).setShift b
      none)
    let s2 := (s1.spoilAdd 5 0 (b + why * 2 ^ 8)).repairEvent 3 sevAlert (b + why * 2 ^ 8)
    if s2.online b then s2.deviceCmd b .offline 0 false false false true else s2.refuseOnline b

/-- A column fault in physical column f of bench b (R380, R383). A fault met again in the column that a running shift is
retiring is the fault under repair, and no second one (log entry 70). -/
def State.columnFault (s : State) (b f : Nat) : State :=
  if s.flag F.BENCH_SHIFT_DEGRADED b then s
  else if (s.shift b).isSome then (if (s.shift b).any fun r => r.col == f then s else s.degrade b 1)
  else if f = 32 ∧ s.flag F.BENCH_SHIFT_SHIFTED b = false then
    if s.flag F.BENCH_SHIFT_SPARE_LOST b then s
    else
      let id := b * 2 ^ 8 + 32
      ((s.set F.BENCH_SHIFT_SPARE_LOST b 1).spoilAdd 4 0 id).wlog 0x050A 74 sevNotice id
  else if s.flag F.BENCH_SHIFT_SHIFTED b || s.flag F.BENCH_SHIFT_SPARE_LOST b then s.degrade b 1
  else (s.set F.BENCH_SHIFT_REPAIRING b 1).setShift b (some { col := f })

/-! ### Parity failures that repeat (R372, R403, R404) -/

/-- The logical column whose copies state frame j holds (R197). -/
def stateColumn (j : Nat) : Nat := j % 256 / 8

/-- The physical column that serves logical column sx (R380). -/
def State.physCol (s : State) (b sx : Nat) : Nat :=
  if s.flag F.BENCH_SHIFT_SHIFTED b && decide (s.get F.BENCH_SHIFT_RETIRED_SX b ≤ sx) then sx + 1 else sx

def State.setParSeen (s : State) (k : Nat) (l : List Nat) : State :=
  { s with planes := { s.planes with parSeen := mapSet (fun _ => []) s.planes.parSeen k l } }

/-- A parity check of frozen state, by the scrubber, a paging or a MOVE, finds a group bad whose copy lies in physical column
px (R403). One that failed in an earlier freezing is a sett hard fault there (R372, R404). -/
def State.parityNote (s : State) (b p grp px : Nat) : State :=
  let k := 8 * b + p
  let seen := mapGet (fun _ => []) s.planes.parSeen k
  if seen.contains grp then s
  else
    let s1 := s.setParSeen k (seen ++ [grp])
    if (mapGet (fun _ => []) s.planes.parPast k).contains grp then s1.columnFault b px else s1

/-- Every bad group of state frame j noted. -/
def State.parityNoteFrame (s : State) (b p j px : Nat) : State :=
  (s.parityBad b p j).foldl (fun t g => t.parityNote b p (64 * j + g) px) s

end Sys2Proof.Machine
end

