-- ==== Sys2Proof/Machine/Context.lean ====
section
/-!
DEFINITION. Context slots (R197 to R226): states, ownership, staging, paging, aborts, copies between columns, refresh and
the slot patrol. Global slot g = 1024·c + s.
-/

namespace Sys2Proof.Machine

/-! ### Slots -/

/-- State codes of R200. -/
def slFree : Nat := 0
def slWriting : Nat := 1
def slValid : Nat := 2
def slBad : Nat := 3

def State.slotSt (s : State) (g : Nat) : Nat := s.get F.CTX_SLOT_STAT_STATE g
def State.setSlotSt (s : State) (g st : Nat) : State := s.set F.CTX_SLOT_STAT_STATE g st
def State.readers (s : State) (g : Nat) : Nat := s.get F.CTX_SLOT_STAT_READERS g
def State.addReader (s : State) (g : Nat) : State := s.inc F.CTX_SLOT_STAT_READERS g
def State.dropReader (s : State) (g : Nat) : State := s.set F.CTX_SLOT_STAT_READERS g (s.readers g - 1)

def State.slotWord (s : State) (g f : Nat) : Nat := mapGet (fun _ => 0) s.slots.words (slotFrames * g + f)
def State.setSlotWord (s : State) (g f cw : Nat) : State :=
  { s with slots := { s.slots with words := mapSet (fun _ => 0) s.slots.words (slotFrames * g + f) (cw % 2 ^ 533) } }

/-- A frame's data written as a codeword. -/
def State.setSlotData (s : State) (g f d : Nat) : State := s.setSlotWord g f (slotEncode d)

/-- A frame's data as the store corrects it (R198). -/
def State.slotData (s : State) (g f : Nat) : Nat := (slotDecode (s.slotWord g f)).data

def State.slotGen (s : State) (g : Nat) : Nat := mapGet (fun _ => 0) s.slots.gen g
def State.setSlotGen (s : State) (g n : Nat) : State :=
  { s.set F.CTX_SLOT_STAT_GEN g n with
      slots := { s.slots with gen := mapSet (fun _ => 0) s.slots.gen g (n % 2 ^ 32) } }

/-- The contents are erased (R200). -/
def State.eraseSlot (s : State) (g : Nat) : State :=
  ({ s with slots := { s.slots with words := mapKeep (fun k => k / slotFrames != g) s.slots.words } }).dropStages (512 + g)

/-- A slot becomes FREE with its owner kept (R200). DESIGN CHOICE (log entry 79): GEN goes on showing the count of the erased
contents until the next claim starts at 0. -/
def State.freeSlot (s : State) (g : Nat) : State := (s.setSlotSt g slFree).eraseSlot g

/-- A load channel holds the slot: every other operation treats it as WRITING (R243). -/
def State.slotHeld (s : State) (g : Nat) : Bool := mapGet (fun _ => 0) s.slots.hold g != 0
def State.slotWriting (s : State) (g : Nat) : Bool := s.slotSt g == slWriting || s.slotHeld g

/-- Why a release or an owner change is refused (R201, R202). -/
def State.slotClaimed (s : State) (g : Nat) : Bool := s.slotWriting g || s.readers g != 0 || s.homesOf g != 0

/-- An uncorrectable frame: the slot is BAD, and logged (R209). -/
def State.slotFault (s : State) (g f : Nat) : State :=
  (s.setSlotSt g slBad).wlog 0x0301 (68 + g / 1024) sevAlert (g / 1024 * 2 ^ 30 + g % 1024 * 2 ^ 20 + f)

/-- The slot's owner is VF n (R201). -/
def State.slotOwnedBy (s : State) (g n : Nat) : Bool :=
  s.flag F.CTX_SLOT_OWNER_OWN_VALID g && s.get F.CTX_SLOT_OWNER_VF g == n

/-! ### The header (R199) -/

structure SlotHeader where
  class_   : Nat := 1
  stateSrc : Nat := 0
  gen      : Nat := 0
  imageId  : Nat := 0
  clkSrc   : Nat := 0
  swEn     : Nat := 0
  srcBench : Nat := 0
  srcPlane : Nat := 0
  srcValid : Nat := 0
  deriving DecidableEq, Repr

def headerWord (h : SlotHeader) : Nat :=
  0xAB4 + 1 * 2 ^ 12 + h.class_ % 2 ^ 8 * 2 ^ 16 + h.stateSrc % 2 * 2 ^ 24 + h.gen % 2 ^ 32 * 2 ^ 32
    + h.imageId % 2 ^ 64 * 2 ^ 64 + h.clkSrc % 2 ^ 32 * 2 ^ 128 + h.swEn % 2 * 2 ^ 160 + h.srcBench % 2 ^ 6 * 2 ^ 161
    + h.srcPlane % 2 ^ 3 * 2 ^ 167 + h.srcValid % 2 * 2 ^ 170

def hdrClass (w : Nat) : Nat := bitsOf w 16 8
def hdrStateSrc (w : Nat) : Nat := bitOf w 24
def hdrImageId (w : Nat) : Nat := bitsOf w 64 64
def hdrClkSrc (w : Nat) : Nat := bitsOf w 128 32
def hdrSwEn (w : Nat) : Nat := bitOf w 160

/-! ### Commands (R204 to R210) -/

/-- RESULT codes (R217). -/
def rsOk : Nat := 0
def rsNotOwner : Nat := 1
def rsSlotState : Nat := 2
def rsClass : Nat := 3
def rsPlaneActive : Nat := 4
def rsPlaneBusy : Nat := 5
def rsPlaneState : Nat := 6
def rsSlotBusy : Nat := 7
def rsSlotBound : Nat := 8
def rsFrameFault : Nat := 9
def rsParity : Nat := 10
def rsAborted : Nat := 11

def State.ctxRun (s : State) (b : Nat) : Option CtxRun := mapGet (fun _ => none) s.slots.run b
def State.setCtxRun (s : State) (b : Nat) (r : Option CtxRun) : State :=
  { s with slots := { s.slots with run := mapSet (fun _ => none) s.slots.run b r } }

/-- A context event (R220). During a logical reset of the floor die its record waits in the collector until release (R211,
R632). -/
def State.ctxEvt (s : State) (b : Nat) (f : Fld) : State :=
  let s1 := s.set f b 1
  if bitOf (s.get F.CTX_EVT_EN_EN b) f.lo = 1 then s1.raiseBench b 3 else s1

/-- The operation ends (R207, R208, R217). -/
def State.ctxEnd (s : State) (b result : Nat) : State :=
  let s1 := ((s.set F.CTX_STAT_BUSY b 0).set F.CTX_STAT_RESULT b result).setCtxRun b none
  s1.ctxEvt b (if result = rsOk then F.CTX_EVT_DONE else F.CTX_EVT_ERR)

/-- GO is accepted: the operation is in CHECK (R204). -/
def State.ctxStart (s : State) (b : Nat) (src : Src) (op plane slot : Nat) : State :=
  (((s.set F.CTX_STAT_BUSY b 1).set F.CTX_STAT_PHASE b 0).set F.CTX_STAT_FRAMES b 0).setCtxRun b
    (some { op := op, plane := plane, slot := slot, src := match src with | .vf n => some n | _ => none })

/-- A CTX_CMD write (R204, R216, R675). A GO while BUSY reads 1 is ignored with REJECT. -/
def State.ctxCmdWrite (s : State) (src : Src) (b : Nat) (v : Word) : State :=
  let go := fldOf F.CTX_CMD_GO v == 1 && fldOf F.CTX_CMD_OP v != 3
  if go && s.ctxBusy b then
    let s1 := s.set F.CTX_STAT_REJECT b 1
    if fldOf F.CTX_CMD_ABORT v = 1 then
      match s1.ctxRun b with
      | some r => s1.setCtxRun b (some { r with abort := true })
      | none => s1
    else s1
  else
    let s1 := s.plainWrite .CTX_CMD b v
    let s2 := if fldOf F.CTX_CMD_ABORT v = 1 then
        match s1.ctxRun b with
        | some r => s1.setCtxRun b (some { r with abort := true })
        | none => s1
      else s1
    if go && s.powered (dCfg (benchCol b)) then
      s2.ctxStart b src (fldOf F.CTX_CMD_OP v) (fldOf F.CTX_CMD_PLANE v) (fldOf F.CTX_CMD_SLOT v)
    else s2

/-- CTX_STAGE (R204): a CTX_CMD write with GO and OP 0. -/
def execCtxStage (src : Src) (b : Nat) (v : Word) (s : State) : Host.Outcome State Fault Refusal :=
  .next (if s.mayWrite src .CTX_CMD b then s.ctxCmdWrite src b v else s)

/-- CTX_PAGE (R204): a CTX_CMD write with GO and OP 1. -/
def execCtxPage (src : Src) (b : Nat) (v : Word) (s : State) : Host.Outcome State Fault Refusal :=
  .next (if s.mayWrite src .CTX_CMD b then s.ctxCmdWrite src b v else s)

/-- CTX_PAGE_FREE (R204): a CTX_CMD write with GO and OP 2. -/
def execCtxPageFree (src : Src) (b : Nat) (v : Word) (s : State) : Host.Outcome State Fault Refusal :=
  .next (if s.mayWrite src .CTX_CMD b then s.ctxCmdWrite src b v else s)

/-- CTX_ABORT (R675): a CTX_CMD write with ABORT. -/
def execCtxAbort (src : Src) (b : Nat) (v : Word) (s : State) : Host.Outcome State Fault Refusal :=
  .next (if s.mayWrite src .CTX_CMD b then s.ctxCmdWrite src b v else s)

/-! ### CHECK and CLAIM -/

/-- Plane p of bench b is the target of a deferred request (R166), or of a candidate of a tick that is still open: a switch
to the plane wins over a staging or paging command of the same edge (R159). -/
def State.deferTarget (s : State) (b p : Nat) : Bool :=
  let l := s.leaderOf b
  let names := fun (r : PlaneReq) => r.cmd != .offline && r.plane == p
  (mapGet (fun _ => none) s.planes.defer l).any names
    || (mapGet (fun _ => []) s.planes.cands (benchCol b)).any fun (e : Nat × PlaneReq) => e.1 == l && names e.2

/-- The first failing check of a staging, in the order of R207. -/
def State.stageCheck (s : State) (b : Nat) (r : CtxRun) : Nat :=
  let g := 1024 * benchCol b + r.slot
  let st := s.planeSt b r.plane
  if (match r.src with | some n => !s.slotOwnedBy g n | none => false) then rsNotOwner
  else if s.slotSt g ≠ slValid ∨ s.slotHeld g = true then rsSlotState
  else if hdrClass (s.slotData g 0) ≠ 1 then rsClass
  else if st = psActive ∨ s.deferTarget b r.plane = true then rsPlaneActive
  else if st = psLoading ∨ st = psPaging then rsPlaneBusy
  else rsOk

/-- The first failing check of a paging, in the order of R208. -/
def State.pageCheck (s : State) (b : Nat) (r : CtxRun) : Nat :=
  let g := 1024 * benchCol b + r.slot
  let st := s.planeSt b r.plane
  let bound := s.homesOf g != 0 && !(s.homesOf g == 1 && s.home b r.plane == some r.slot)
  if (match r.src with | some n => !s.slotOwnedBy g n | none => false) then rsNotOwner
  else if st ≠ psReady ∧ st ≠ psActive then rsPlaneState
  else if st = psActive ∨ s.deferTarget b r.plane = true then rsPlaneActive
  else if s.slotWriting g = true ∨ s.readers g ≠ 0 then rsSlotBusy
  else if bound = true then rsSlotBound
  else rsOk

/-- CLAIM (R207, R208). -/
def State.ctxClaim (s : State) (b : Nat) (r : CtxRun) : State :=
  let g := 1024 * benchCol b + r.slot
  let s1 := (s.set F.CTX_STAT_PHASE b 2).setCtxRun b (some { r with prevHome := s.home b r.plane })
  if r.op = 0 then ((s1.setPlaneSt b r.plane psLoading).setHome b r.plane none).addReader g
  else
    let s2 := if s.slotSt g = slFree then s1.setSlotGen g 0 else s1
    (s2.setPlaneSt b r.plane psPaging).setSlotSt g slWriting

/-- CHECK, and CLAIM if it passes and no abort waits (R207, R208, R675). -/
def State.ctxCheck (s : State) (b : Nat) (r : CtxRun) : State :=
  let e := if r.op = 0 then s.stageCheck b r else s.pageCheck b r
  if e ≠ rsOk then s.ctxEnd b e
  else if r.abort then s.ctxEnd b rsAborted
  else s.ctxClaim b r

/-! ### COPY -/

/-- Staging ends in error from COPY (R207). -/
def State.stageFail (s : State) (b : Nat) (r : CtxRun) (result : Nat) : State :=
  ((s.dropReader (1024 * benchCol b + r.slot)).setPlaneSt b r.plane
    (if result = rsFrameFault then psFault else psEmpty)).ctxEnd b result

/-- Paging ends in error from COPY: the slot is FREE; the plane is READY, and loses a home that was the target (R208). -/
def State.pageFail (s : State) (b : Nat) (r : CtxRun) (result : Nat) : State :=
  let s1 := (s.freeSlot (1024 * benchCol b + r.slot)).setPlaneSt b r.plane psReady
  let s2 := if s.home b r.plane = some r.slot then s1.setHome b r.plane none else s1
  s2.ctxEnd b result

def State.ctxFail (s : State) (b : Nat) (r : CtxRun) (result : Nat) : State :=
  if r.op = 0 then s.stageFail b r result else s.pageFail b r result

/-- One frame of a staging (R205, R209); `ups` are bits of the codeword that have flipped. -/
def State.stageFrame (s : State) (b : Nat) (r : CtxRun) (f : Nat) (ups : List Nat) : State :=
  let g := 1024 * benchCol b + r.slot
  if s.slotSt g ≠ slValid then s.stageFail b r rsFrameFault
  else
    let cw := ups.foldl (fun w i => Nat.xor w (2 ^ (i % 533))) (s.slotWord g f)
    let o := slotDecode cw
    let s1 := s.setSlotWord g f cw
    match o.kind with
    | .bad => (s1.slotFault g f).stageFail b r rsFrameFault
    | .clean => if f = 0 then s1 else s1.setPlaneFrame b r.plane f o.data
    | .corrected =>
      let s2 := (s1.setSlotWord g f (slotEncode o.data)).inc F.CTX_CE_CNT_CE_CNT b
      if f = 0 then s2 else s2.setPlaneFrame b r.plane f o.data

/-- One frame of a paging (R206, R208): `ups` are bits of the plane's frame that have flipped; state frames are checked for
parity, and a failure may be one that repeats (R372, R403). -/
def State.pageFrame (s : State) (b : Nat) (r : CtxRun) (f : Nat) (ups : List Nat) : State :=
  let g := 1024 * benchCol b + r.slot
  let s1 := s.setPlaneFrame b r.plane f (ups.foldl (fun w i => Nat.xor w (2 ^ (i % 512))) (s.planeFrame b r.plane f))
  if ffRun ≤ f ∧ (s1.parityBad b r.plane (f - ffRun)).isEmpty = false then
    (s1.pageFail b r rsParity).parityNoteFrame b r.plane (f - ffRun) (s1.physCol b (stateColumn (f - ffRun)))
  else if f = 0 then s1
  else s1.setSlotData g f (s1.planeFrame b r.plane f)

def State.ctxFrame (s : State) (b : Nat) (r : CtxRun) (f : Nat) (ups : List Nat) : State :=
  if r.op = 0 then s.stageFrame b r f ups else s.pageFrame b r f ups

/-- The next frame is moved and counted (R217). -/
def State.ctxNext (s : State) (b : Nat) (r : CtxRun) (ups : List Nat) : State :=
  if r.abort then s.ctxFail b r rsAborted
  else
    let f := s.get F.CTX_STAT_FRAMES b
    if f < slotFrames then
      let s1 := s.ctxFrame b r f ups
      if (s1.ctxRun b).isSome then s1.set F.CTX_STAT_FRAMES b (f + 1) else s1
    else s

/-- CTX_COPY_FRAME (R209): the engine of bench b ends CHECK and CLAIM if it is there, then moves its next frame. -/
def execCtxCopyFrame (b : Nat) (ups : List Nat) (s : State) : Host.Outcome State Fault Refusal :=
  .next (match s.ctxRun b with
    | none => s
    | some r =>
      if s.get F.CTX_STAT_PHASE b = 0 then
        let s1 := s.ctxCheck b r
        match s1.ctxRun b with
        | none => s1
        | some r1 => s1.ctxNext b r1 ups
      else s.ctxNext b r ups)

/-- The frames not yet moved, in ascending order: frames that hold nothing on either side move without a trace. -/
def State.restFrames (s : State) (b : Nat) (r : CtxRun) : List Nat :=
  let g := 1024 * benchCol b + r.slot
  let k := s.get F.CTX_STAT_FRAMES b
  let inSlot := (s.slots.words.filter fun (e : Nat × Nat) => e.1 / slotFrames == g).map fun (e : Nat × Nat) => e.1 % slotFrames
  let inPlane := (s.planes.frames.filter fun (e : Nat × Nat) => e.1 / slotFrames == 8 * b + r.plane).map
    fun (e : Nat × Nat) => e.1 % slotFrames
  let inParity := (s.planes.parity.filter fun (e : Nat × Nat) => e.1 / slotFrames == 8 * b + r.plane).map
    fun (e : Nat × Nat) => e.1 % slotFrames
  (sortBy (fun x y => decide (x ≤ y)) (inSlot ++ inPlane ++ inParity)).filter fun f => decide (k ≤ f)

/-- Move the rest of the frames, stopping where the operation ends; FRAMES counts those moved (R217). -/
def State.ctxMoveRest (s : State) (b : Nat) : List Nat → State
  | [] => s
  | f :: fs =>
    match s.ctxRun b with
    | none => s
    | some r => ((s.set F.CTX_STAT_FRAMES b f).ctxFrame b r f []).ctxMoveRest b fs

/-! ### COMMIT -/

/-- Bench-level words of a staging (R205): in a gang member other than the leader CLK0 comes from the leader's word; the
leader's CLK0 goes to every member. -/
def State.stageWords (s : State) (b p hdr : Nat) : State :=
  let w := hdrClkSrc hdr
  let l := s.leaderOf b
  let clk := if b = l then w else putBits w 0 8 (s.get F.BENCH_CLKSRC_CLK0 (8 * l + p))
  let s1 := s.setReg .BENCH_CLKSRC (8 * b + p) (BitVec.ofNat 32 clk)
  let s2 := if b = l then (s.gangOf b).foldl (fun s m => s.set F.BENCH_CLKSRC_CLK0 (8 * m + p) (w % 256)) s1 else s1
  { s2 with planes := { s2.planes with swEn := mapSet (fun _ => false) s2.planes.swEn (8 * b + p) (hdrSwEn hdr == 1) } }

def State.stageCommit (s : State) (b : Nat) (r : CtxRun) : State :=
  let g := 1024 * benchCol b + r.slot
  let s1 := (s.stageWords b r.plane (s.slotData g 0)).copyStages (512 + g) (8 * b + r.plane)
  ((((s1.freezeState b r.plane).setHome b r.plane (some r.slot)).setPlaneSt b r.plane psReady).dropReader g).ctxEnd b rsOk

/-- COMMIT of a paging (R206, R208). DESIGN CHOICE (log entry 36): IMAGE_ID comes from the header of the plane's previous
home also where that slot has become BAD since, as its codeword still reads. -/
def State.pageCommit (s : State) (b : Nat) (r : CtxRun) : State :=
  let g := 1024 * benchCol b + r.slot
  let id := match r.prevHome with
    | some h => hdrImageId (s.slotData (1024 * benchCol b + h) 0)
    | none => 0
  let gen := s.slotGen g + 1
  let s1 := (s.setSlotData g 0 (headerWord
    { stateSrc := 1, gen := gen, imageId := id, clkSrc := (s.reg .BENCH_CLKSRC (8 * b + r.plane)).toNat,
      swEn := b2n (mapGet (fun _ => false) s.planes.swEn (8 * b + r.plane)), srcBench := b, srcPlane := r.plane,
      srcValid := 1 })).setSlotGen g gen
  let s2 := (s1.copyStages (8 * b + r.plane) (512 + g)).setSlotSt g slValid
  let s3 := if r.op = 2 then (s2.setPlaneSt b r.plane psEmpty).setHome b r.plane none
    else (s2.setPlaneSt b r.plane psReady).setHome b r.plane (some r.slot)
  s3.ctxEnd b rsOk

/-- The rest of COPY and COMMIT of bench b's operation, when it is of the kind `op` names (true: staging). -/
def State.ctxFinish (s : State) (b : Nat) (staging : Bool) : State :=
  match s.ctxRun b with
  | none => s
  | some r0 =>
    if (r0.op == 0) != staging then s
    else
      let s0 := if s.get F.CTX_STAT_PHASE b = 0 then s.ctxCheck b r0 else s
      match s0.ctxRun b with
      | none => s0
      | some r =>
        if r.abort ∧ s0.get F.CTX_STAT_FRAMES b < slotFrames then s0.ctxFail b r rsAborted
        else if staging = true ∧ s0.slotSt (1024 * benchCol b + r.slot) ≠ slValid ∧ s0.get F.CTX_STAT_FRAMES b < slotFrames then
          -- another reader has made the slot BAD: the next frame read ends the operation (R210)
          s0.ctxFail b r rsFrameFault
        else
          let s1 := s0.ctxMoveRest b (s0.restFrames b r)
          match s1.ctxRun b with
          | none => s1
          | some r =>
            let s2 := (s1.set F.CTX_STAT_FRAMES b slotFrames).set F.CTX_STAT_PHASE b 3
            if staging then s2.stageCommit b r else s2.pageCommit b r

/-- CTX_STAGE_COMMIT (R207): the frames not yet moved are moved, and COMMIT completes. -/
def execCtxStageCommit (b : Nat) (s : State) : Host.Outcome State Fault Refusal := .next (s.ctxFinish b true)

/-- CTX_PAGE_COMMIT (R208). -/
def execCtxPageCommit (b : Nat) (s : State) : Host.Outcome State Fault Refusal := .next (s.ctxFinish b false)

/-! ### Ownership and release -/

/-- A release of slot g (R202). -/
def State.slotRelease (s : State) (g : Nat) : State :=
  if s.slotClaimed g then s.set F.CTX_SLOT_STAT_CFG_ERR g 1 else s.freeSlot g

/-- The slot that CTX_SLOT_SEL_c selects (R221). -/
def State.selSlot (s : State) (c : Nat) : Nat := 1024 * c + s.get F.CTX_SLOT_SEL_SLOT c

/-- CTX_SLOT_RELEASE (R202). -/
def execCtxSlotRelease (src : Src) (c : Nat) (v : Word) (s : State) : Host.Outcome State Fault Refusal :=
  .next (if s.mayWrite src .CTX_SLOT_CTL (s.selSlot c) && fldOf F.CTX_SLOT_CTL_RELEASE v == 1 then s.slotRelease (s.selSlot c)
    else s)

/-- An owner write of slot g (R201): an owner change first releases the slot. -/
def State.slotOwnerWrite (s : State) (g : Nat) (v : Word) : State :=
  let own := fldOf F.CTX_SLOT_OWNER_OWN_VALID v
  let vf := fldOf F.CTX_SLOT_OWNER_VF v
  let change := own != s.get F.CTX_SLOT_OWNER_OWN_VALID g || (own == 1 && vf != s.get F.CTX_SLOT_OWNER_VF g)
  if change then
    if s.slotClaimed g then s.set F.CTX_SLOT_STAT_CFG_ERR g 1
    else (s.freeSlot g).plainWrite .CTX_SLOT_OWNER g v
  else s.plainWrite .CTX_SLOT_OWNER g v

/-- CTX_SLOT_OWNER_WRITE (R201). -/
def execCtxSlotOwnerWrite (src : Src) (c : Nat) (v : Word) (s : State) : Host.Outcome State Fault Refusal :=
  .next (if s.mayWrite src .CTX_SLOT_OWNER (s.selSlot c) then s.slotOwnerWrite (s.selSlot c) v else s)

/-! ### Copies between slots (R213) -/

/-- A slot copy is accepted: the source is read, the destination WRITING. -/
def State.slotCopyStart (s : State) (a d : Nat) : State :=
  let s1 := if s.slotSt d = slFree then s.setSlotGen d 0 else s
  let s2 := (s1.addReader a).setSlotSt d slWriting
  { s2 with slots := { s2.slots with copies := s2.slots.copies ++ [⟨a, d, false⟩] } }

/-- MIG_DONE or MIG_ERR in the entries of both columns (R290). -/
def State.migEvent (s : State) (a d bit : Nat) : State :=
  let s1 := s.raise (68 + a / 1024) bit
  if a / 1024 = d / 1024 then s1 else s1.raise (68 + d / 1024) bit

/-- The frames of slot `a` in order: copied to `d` while they are readable. -/
def State.copyFrames (s : State) (a d : Nat) : List (Nat × Nat) → State × Option Nat
  | [] => (s, none)
  | e :: rest =>
    let o := slotDecode e.2
    if o.kind = .bad then (s, some (e.1 % slotFrames))
    else ((s.setSlotData a (e.1 % slotFrames) o.data).setSlotData d (e.1 % slotFrames) o.data).copyFrames a d rest

/-- SLOT_COPY_DONE (R213): the copy of source `a` ends; `ups` are (frame, bit) flips of source codewords. -/
def State.slotCopyDone (s : State) (a d : Nat) (ups : List (Nat × Nat)) : State :=
  if s.slots.copies.any fun x => x.from_ == a && x.to_ == d then
    let s0 := ups.foldl (fun t (e : Nat × Nat) =>
      t.setSlotWord a (e.1 % slotFrames) (Nat.xor (t.slotWord a (e.1 % slotFrames)) (2 ^ (e.2 % 533)))) s
    let s1 := (s0.eraseSlot d).dropReader a
    let s2 := { s1 with slots := { s1.slots with copies := s1.slots.copies.filter fun x => !(x.from_ == a && x.to_ == d) } }
    if s2.slotSt a ≠ slValid then (s2.freeSlot d).migEvent a d 1
    else
      let r := s2.copyFrames a d (s2.slots.words.filter fun (e : Nat × Nat) => e.1 / slotFrames == a)
      match r.2 with
      | some f => (((r.1.slotFault a f).freeSlot d).migEvent a d 1)
      | none =>
        let gen := r.1.slotGen d + 1
        let s3 := (((r.1.copyStages (512 + a) (512 + d)).setSlotData d 0 (putBits (r.1.slotData a 0) 32 32 gen)).setSlotGen
          d gen).setSlotSt d slValid
        s3.migEvent a d 0
  else s

def execSlotCopyDone (a d : Nat) (ups : List (Nat × Nat)) (s : State) : Host.Outcome State Fault Refusal :=
  .next (s.slotCopyDone a d ups)

/-! ### Refresh and patrol (R214, R215) -/

/-- The refresh interval of a band, in µs (R214). -/
def refreshUs (band : Nat) : Nat := [200, 200, 100, 50, 25].getD band 25

/-- BULK_STORE_REFRESH (R214): the next refresh step takes the interval of the column's band. -/
def execBulkStoreRefresh (c : Nat) (s : State) : Host.Outcome State Fault Refusal :=
  .next (if c < 4 ∧ s.powered (dCfg c) = true then
    let band := s.get F.THM_COL_BAND c
    (s.set F.CTX_REFRESH_INTERVAL_US c (refreshUs band)).set F.CTX_REFRESH_BAND c band
  else s)

/-- A codeword read by the patrol or a scrubber (R209, R215): written back when corrected; an uncorrectable one makes the
slot BAD with PF vector 3 and SLOT_BAD. Answers the data of a readable frame. -/
def State.slotRead (s : State) (g f : Nat) (ups : List Nat) : Option Nat × Bool × State :=
  let cw := ups.foldl (fun w i => Nat.xor w (2 ^ (i % 533))) (s.slotWord g f)
  let o := slotDecode cw
  match o.kind with
  | .bad => (none, false, (((s.setSlotWord g f cw).slotFault g f).raiseVec 0 3).raise (68 + g / 1024) 2)
  | .corrected => (some o.data, true, s.setSlotWord g f (slotEncode o.data))
  | .clean => (some o.data, false, s.setSlotWord g f cw)

/-- SLOT_PATROL_STEP (R215): the patrol of column c reads its next codeword; a slot that is not VALID is passed over. -/
def execSlotPatrolStep (c : Nat) (ups : List Nat) (s : State) : Host.Outcome State Fault Refusal :=
  .next (if c < 4 ∧ s.powered (dCfg c) = true ∧ s.flag F.CTX_PATROL_EN c = true then
    let ptr := mapGet (fun _ => 0) s.slots.patrol c
    let g := 1024 * c + ptr / slotFrames
    let valid := s.slotSt g == slValid && !s.slotHeld g
    let s1 := if valid then (s.slotRead g (ptr % slotFrames) ups).2.2 else s
    let nxt := if valid then ptr + 1 else (ptr / slotFrames + 1) * slotFrames
    { s1 with slots := { s1.slots with patrol := mapSet (fun _ => 0) s1.slots.patrol c (nxt % (1024 * slotFrames)) } }
  else s)

/-- A copy whose source or target column loses its slots ends: a source elsewhere is read no longer; a target elsewhere is
FREE, with MIG_ERR (R213, log entry 70). -/
def State.copiesLost (s : State) (c : Nat) : State :=
  s.slots.copies.foldl (fun t x =>
    if x.from_ / 1024 = c ∧ x.to_ / 1024 ≠ c then (t.freeSlot x.to_).migEvent x.from_ x.to_ 1
    else if x.from_ / 1024 ≠ c ∧ x.to_ / 1024 = c then (t.dropReader x.from_).migEvent x.from_ x.to_ 1
    else t) s

/-- PD_CFG_c loses every slot and every plane of the column (R211). -/
def State.cfgLost (s0 : State) (c : Nat) : State :=
  let s := s0.copiesLost c
  { s with
    planes := { s.planes with
      frames := mapKeep (fun k => k / slotFrames / 8 / 16 != c) s.planes.frames
      retired := mapKeep (fun k => k / slotFrames / 8 / 16 != c) s.planes.retired
      retStages := mapKeep (fun k => k / 32 / 16 != c) s.planes.retStages
      parity := mapKeep (fun k => k / slotFrames / 8 / 16 != c) s.planes.parity
      swEn := mapKeep (fun k => k / 8 / 16 != c) s.planes.swEn
      stages := mapKeep (fun k => !(decide (k / 128 < 512) && k / 128 / 8 / 16 == c)
        && !(decide (512 ≤ k / 128) && (k / 128 - 512) / 1024 == c)) s.planes.stages }
    slots := { s.slots with
      words := mapKeep (fun k => k / slotFrames / 1024 != c) s.slots.words
      gen := mapKeep (fun k => k / 1024 != c) s.slots.gen
      hold := mapKeep (fun k => k / 1024 != c) s.slots.hold
      run := mapKeep (fun k => k / 16 != c) s.slots.run
      copies := s.slots.copies.filter fun x => x.from_ / 1024 != c && x.to_ / 1024 != c
      patrol := mapKeep (fun k => k != c) s.slots.patrol } }

end Sys2Proof.Machine
end

