-- ==== Sys2Proof/Machine/Load.lean ====
section
/-!
DEFINITION. Meyth images and the load channels (R227 to R257): the byte stream is parsed as it arrives, checked, and
written into the target slots.
-/

namespace Sys2Proof.Machine

def State.load (s : State) (n : Nat) : Option LoadRun := mapGet (fun _ => none) s.loads n
def State.setLoad (s : State) (n : Nat) (r : Option LoadRun) : State :=
  { s with loads := mapSet (fun _ => none) s.loads n r }

/-! ### Results (R253, R256) -/

def ldOk : Nat := 0
def ldHeaderCrc : Nat := 1
def ldIdentity : Nat := 2
def ldFormat : Nat := 3
def ldDecl : Nat := 4
def ldTargetList : Nat := 5
def ldTargetBusy : Nat := 6
def ldSrcDenied : Nat := 7
def ldSrcError : Nat := 8
def ldTimeout : Nat := 9
def ldFrameFault : Nat := 10
def ldDeclConflict : Nat := 11
def ldPreloadRange : Nat := 12
def ldTrailer : Nat := 13
def ldTargetLost : Nat := 14
def ldAborted : Nat := 15

/-- The phases of R242. -/
def phHeader : Nat := 0
def phDecl : Nat := 1
def phHold : Nat := 2
def phConfig : Nat := 3
def phState : Nat := 4
def phPreload : Nat := 5
def phCommit : Nat := 6

/-- A channel event (R256): SOURCE 64 + n. -/
def State.loadEvt (s : State) (n : Nat) (f : Fld) : State :=
  let s1 := s.set f n 1
  if bitOf (s.get F.MEY_LOAD_EVT_EN_EN n) f.lo = 1 then s1.raise (64 + n) f.lo else s1

/-- Holds of a channel are dropped (R243). -/
def State.dropHolds (s : State) (n : Nat) : State :=
  { s with slots := { s.slots with hold := s.slots.hold.filter (fun (e : Nat × Nat) => e.2 != n + 1) } }

/-- Preload writes of a channel that have not been performed are given up. -/
def State.dropPreload (s : State) (n : Nat) : State :=
  s.memt.reqs.foldl (fun s (e : Nat × List MemReq) => s.setMemReqs e.1 (e.2.filter fun r => r.chan != some n)) s

/-- A load ends in error: targets already WRITING become BAD, others are untouched (R242). -/
def State.loadFail (s : State) (n : Nat) (r : LoadRun) (result : Nat) : State :=
  let s1 := if r.held then r.targets.foldl (fun s g => if s.slotSt g = slWriting then s.setSlotSt g slBad else s) s
    else s.dropHolds n
  let s2 := (((s1.set F.MEY_LOAD_STAT_BUSY n 0).set F.MEY_LOAD_STAT_RESULT n result).setLoad n none).dropPreload n
  (s2.loadEvt n F.MEY_LOAD_EVT_ERR).wlog 0x0302 (64 + n) sevNotice (n + result * 2 ^ 8)

/-- The frame that raised an error (R255). -/
def State.loadFault (s : State) (n : Nat) (r : LoadRun) : State :=
  ((s.set F.MEY_LOAD_FAULT_VALID n 1).set F.MEY_LOAD_FAULT_SECTION n r.sect).set F.MEY_LOAD_FAULT_SEQ n r.seq

/-! ### Starting -/

/-- Whether the source is refused before it is read (R241). -/
def srcDenied (kind addr len : Nat) : Bool :=
  match kind with
  | 2 => decide (0x8000000000 < addr % 2 ^ 48 + len)
  | 3 => decide (addr < 0x1000000) || decide (Config.flashBytes < addr + len)
  | _ => false

/-- GO is accepted (R242, R253). -/
def State.loadStart (s : State) (n : Nat) (v : Word) : State :=
  let addr := s.get F.MEY_LOAD_SRC_LO_SRC_LO n + s.get F.MEY_LOAD_SRC_HI_SRC_HI n * 2 ^ 32
  let r : LoadRun := {
    kind := fldOf F.MEY_LOAD_CTL_SRC_KIND v, preload := fldOf F.MEY_LOAD_CTL_PRELOAD_EN v == 1,
    swAllow := fldOf F.MEY_LOAD_CTL_SW_ALLOW v == 1, bench := fldOf F.MEY_LOAD_CTL_PRELOAD_BENCH v,
    len := s.get F.MEY_LOAD_LEN_LEN n, addr := addr, since := s.time }
  let s1 := ((((((s.set F.MEY_LOAD_STAT_BUSY n 1).set F.MEY_LOAD_STAT_PHASE n phHeader).set F.MEY_LOAD_STAT_RESULT n 0).set
    F.MEY_LOAD_STAT_MISMATCH n 0).set F.MEY_LOAD_PROG_FRAMES n 0).setReg .MEY_LOAD_FAULT n 0).setLoad n (some r)
  if srcDenied r.kind addr r.len then s1.loadFail n r ldSrcDenied else s1

/-- A MEY_LOAD_CTL_n write (R245, R249). -/
def State.loadCtlWrite (s : State) (n : Nat) (v : Word) : State :=
  let s1 := s.plainWrite .MEY_LOAD_CTL n v
  let s2 := if fldOf F.MEY_LOAD_CTL_ABORT v = 1 then
      match s1.load n with
      | some r => s1.loadFail n r ldAborted
      | none => s1
    else s1
  if fldOf F.MEY_LOAD_CTL_GO v = 1 then
    if s.flag F.MEY_LOAD_STAT_BUSY n then s2.set F.MEY_LOAD_STAT_REJECT n 1
    else s2.loadStart n v
  else s2

/-- LOAD_GO (R249): a MEY_LOAD_CTL_n write with GO. -/
def execLoadGo (src : Src) (n : Nat) (v : Word) (s : State) : Host.Outcome State Fault Refusal :=
  .next (if s.mayWrite src .MEY_LOAD_CTL n then s.loadCtlWrite n v else s)

/-- LOAD_ABORT (R245): a MEY_LOAD_CTL_n write with ABORT. -/
def execLoadAbort (src : Src) (n : Nat) (v : Word) (s : State) : Host.Outcome State Fault Refusal :=
  .next (if s.mayWrite src .MEY_LOAD_CTL n then s.loadCtlWrite n v else s)

/-! ### Header and table (R228, R229, R240) -/

/-- The first identity field that differs, as its MISMATCH code; 0 none (R240, R253). -/
def headerMismatch (h : List Byte) : Nat :=
  if leAt h 0 4 ≠ 0x5459454D then 1
  else if leAt h 4 2 % 2 ^ 12 ≠ 0xAB4 then 2
  else if leAt h 4 2 / 2 ^ 12 ≠ 2 then 3
  else if leAt h 6 1 ≠ 1 then 4
  else if leAt h 7 1 ≠ 1 then 5
  else if leAt h 8 1 ≠ 1 then 6
  else if leAt h 9 1 ≠ 8 then 7
  else if leAt h 10 1 ≠ 32 then 8
  else if leAt h 11 1 ≠ 32 then 9
  else if leAt h 12 2 ≠ 128 then 10
  else if leAt h 14 2 ≠ 1024 then 11
  else if leAt h 16 1 ≠ 32 then 12
  else 0

/-- The header's 256 bytes have arrived: HDR_CRC, identity, length and section count. R228 gives FLAGS bits [7:3] as 0 and says
nothing of other values: such a header ends the load with FORMAT (DESIGN CHOICE, log entry 78). -/
def State.loadHeader (s : State) (n : Nat) (r : LoadRun) : State :=
  let h := r.buf.take 256
  let m := headerMismatch h
  let nsec := leAt h 0x12 2
  if crc32c (h.take 0xFC) ≠ leAt h 0xFC 4 then s.loadFail n r ldHeaderCrc
  else if m ≠ 0 then (s.set F.MEY_LOAD_STAT_MISMATCH n m).loadFail n r ldIdentity
  else if nsec < 2 ∨ 16 < nsec ∨ leAt h 0x20 8 ≠ r.len ∨ leAt h 0x11 1 / 8 ≠ 0 then s.loadFail n r ldFormat
  else if r.kind = 3 ∧ bitOf (leAt h 0x11 1) 0 = 0 then s.loadFail n r ldSrcDenied
  else s.setLoad n (some { r with
    buf := r.buf.drop 256, hdr := true, flags := leAt h 0x11 1, nsec := nsec, imageId := leAt h 0x18 8,
    total := leAt h 0x28 4 })

/-- The order and sizes of the table's sections (R229): position 0 DECL, 1 CONFIG, then STATE, PRELOAD, informative ones. -/
def tableOrder (flags : Nat) : List LoadSection → Nat → Bool
  | [], st => st == 3 || (st == 2 && bitOf flags 1 == 0 && bitOf flags 2 == 0)
  | e :: rest, st =>
    match st with
    | 0 => e.type == 4 && decide (1 ≤ e.frames ∧ e.frames ≤ 8) && tableOrder flags rest 1
    | 1 => e.type == 1 && e.frames == 3979 &&
        tableOrder flags rest (if bitOf flags 1 = 1 then 4 else if bitOf flags 2 = 1 then 5 else 3)
    | 4 => e.type == 2 && e.frames == 64 && tableOrder flags rest (if bitOf flags 2 = 1 then 5 else 3)
    | 5 => e.type == 3 && decide (1 ≤ e.frames ∧ e.frames ≤ 65536) && tableOrder flags rest 3
    | _ => decide (0x8000 ≤ e.type ∧ e.type ≤ 0xFFFF) && tableOrder flags rest 3

/-- The entries of the table, with their checks (R229): CRC and offsets. -/
def tableEntries (bs : List Byte) (off : Nat) : Nat → Option (List LoadSection)
  | 0 => some []
  | k + 1 =>
    let e := bs.take 32
    let fr := leAt e 4 4
    if crc32c (e.take 0x1C) ≠ leAt e 0x1C 4 ∨ leAt e 8 8 ≠ off then none
    else (tableEntries (bs.drop 32) (off + 520 * fr) k).map fun l => ⟨leAt e 0 2, fr⟩ :: l

/-- The section table has arrived (R229, R240). R229 names no RESULT for an ENTRY_CRC that fails: FORMAT (DESIGN CHOICE, log
entry 78). -/
def State.loadTable (s : State) (n : Nat) (r : LoadRun) : State :=
  let size := 32 * r.nsec
  match tableEntries (r.buf.take size) (256 + size) r.nsec with
  | none => s.loadFail n r ldFormat
  | some t =>
    let fr := t.foldl (fun a e => a + e.frames) 0
    if tableOrder r.flags t 0 && fr == r.total && r.len == 256 + size + 520 * fr + 64 then
      (s.set F.MEY_LOAD_STAT_PHASE n phDecl).setLoad n (some { r with buf := r.buf.drop size, table := t })
    else s.loadFail n r ldFormat

/-! ### Declarations (R234 to R236) -/

structure Decls where
  mem    : List (Nat × Nat) := []
  hop    : List (Nat × Nat) := []
  port   : Nat := 0
  win    : Nat := 0
  lane   : List Nat := []
  clk    : List (Nat × Nat) := []
  gang   : Nat := 0
  deriving DecidableEq, Repr

/-- The well-formed record of TYPE `t` with body words `w`; `none` when malformed (R235, R236). -/
def declRecord (d : Decls) (t : Nat) (w : List Nat) : Option Decls :=
  let a := w.getD 0 0
  let b := w.getD 1 0
  let c := w.getD 2 0
  let e := w.getD 3 0
  match t with
  | 1 =>
    let f := bitsOf a 0 10
    let m := bitsOf a 10 10
    if w.length = 1 ∧ a < 2 ^ 20 ∧ d.mem.length < 4 ∧ f + m ≤ 1023
        ∧ (d.mem.all fun (x : Nat × Nat) => decide (f + m < x.1 ∨ x.1 + x.2 < f)) = true then
      some { d with mem := d.mem ++ [(f, m)] } else none
  | 2 =>
    if w.length = 2 ∧ a < 32 ∧ (d.hop.all fun (x : Nat × Nat) => x.1 != a) = true ∧ ¬(bitOf b 31 = 1 ∧ a % 2 = 1) then
      some { d with hop := d.hop ++ [(a, bitOf b 31)] } else none
  | 3 =>
    if w.length = 3 ∧ d.port = 0 ∧ a < 4 ∧ bitsOf b 11 5 = 0 ∧ bitsOf b 27 5 = 0 ∧ c < 2 ^ 11 ∧ bitsOf b 0 11 ≤ 1024
        ∧ bitsOf b 16 11 ≤ 1024 ∧ c ≤ 1024 then some { d with port := 1 } else none
  | 4 =>
    let base := b + bitsOf c 0 16 * 2 ^ 32
    if w.length = 4 ∧ d.win < 16 ∧ a < 8 ∧ bitsOf c 16 16 = 0 ∧ e < 64 ∧ 12 ≤ e ∧ e ≤ 40 ∧ base % 2 ^ e = 0
        ∧ bitsOf a 1 2 ≠ 0 then some { d with win := d.win + 1 } else none
  | 5 =>
    if w.length = 1 ∧ a < 2 ^ 10 ∧ bitsOf a 6 2 ≠ 3 ∧ bitsOf a 8 2 ≠ 0 ∧ d.lane.contains (bitsOf a 0 6) = false then
      some { d with lane := d.lane ++ [bitsOf a 0 6] } else none
  | 6 =>
    if w.length = 4 ∧ d.clk = [] ∧ b < 2 ∧ bitOf a 7 = 0 ∧ bitsOf c 0 16 ≠ 0 then some { d with clk := [(a, b)] } else none
  | 7 =>
    if w.length = 1 ∧ d.gang = 0 ∧ a < 2 ^ 8 ∧ bitsOf a 4 2 ≤ bitsOf a 0 2 ∧ bitsOf a 6 2 ≤ bitsOf a 2 2
        ∧ (bitsOf a 0 2 + 1) * (bitsOf a 2 2 + 1) ≤ 16 then some { d with gang := 1 } else none
  | _ => if 0x80 ≤ t ∧ t ≤ 0xFF then some d else none

/-- The 32-bit words of a byte string. -/
def wordsOf : Nat → List Byte → List Nat
  | 0, _ => []
  | k + 1, bs => leAt bs 0 4 :: wordsOf k (bs.drop 4)

/-- The record stream (R234): ends with TYPE 0 and zeros. -/
def declParse (d : Decls) : Nat → List Nat → Option Decls
  | 0, _ => none
  | _ + 1, [] => none
  | k + 1, h :: rest =>
    let t := bitsOf h 0 8
    let w := bitsOf h 8 8
    if bitsOf h 16 16 ≠ 0 then none
    else if t = 0 then (if w = 0 ∧ rest.all (· == 0) = true then some d else none)
    else if rest.length < w then none
    else match declRecord d t (rest.take w) with
      | none => none
      | some d1 => declParse d1 k (rest.drop w)

/-- The checks over all records: CLOCK exactly once; no hopper h + 1 of a declared pair (R235, R236). -/
def declOk (d : Decls) : Bool :=
  d.clk.length == 1 && d.hop.all fun (x : Nat × Nat) =>
    !(x.2 == 1 && d.hop.any fun (y : Nat × Nat) => y.1 == x.1 + 1)

/-- The channel's target entries with VALID set (R243). -/
def State.loadList (s : State) (n : Nat) : List Nat :=
  ((upTo 64).filter fun i => s.flag F.MEY_LOAD_TGT_VALID (64 * n + i)).map fun i => s.get F.MEY_LOAD_TGT_GSLOT (64 * n + i)

/-- All DECL frames have arrived: the declarations are checked, then the targets (R242, R243). -/
def State.loadDecls (s : State) (n : Nat) (r : LoadRun) : State :=
  let ws := wordsOf (r.decl.length / 4) r.decl
  match declParse {} (ws.length + 1) ws with
  | none => s.loadFail n r ldDecl
  | some d =>
    if declOk d then
      let ts := s.loadList n
      let r1 := { r with ranges := d.mem, clkSrc := (d.clk.headD (0, 0)).1, swEn := (d.clk.headD (0, 0)).2,
                         targets := ts, holding := true, decl := [] }
      let s1 := s.set F.MEY_LOAD_STAT_PHASE n phHold
      if ts = [] ∨ ts.Nodup = false then s1.loadFail n r1 ldTargetList
      else
        -- each column checks its targets in one store cycle, and holds them if they pass (R243)
        let busy := fun (g : Nat) => s.slotClaimed g || !s.powered (dCfg (g / 1024))
        let r2 := { r1 with refused := ts.any busy }
        let ok := ts.filter fun g => !(ts.any fun h => h / 1024 == g / 1024 && busy h)
        let s2 := { s1 with slots := { s1.slots with
          hold := ok.foldl (fun m g => mapSet (fun _ => 0) m g (n + 1)) s1.slots.hold } }
        s2.setLoad n (some r2)
    else s.loadFail n r ldDecl

/-! ### Frames (R230 to R239) -/

/-- A frame passes its check (R230). SEQ has 16 bits, and an informative section may have more than 65,536 frames: its frames
count modulo 2^16 (DESIGN CHOICE, log entry 78). -/
def frameOk (r : LoadRun) (fr : List Byte) : Bool :=
  let code := fr.drop 512
  leAt code 7 1 == 0xA5 && leAt code 6 1 == r.sect && leAt code 4 2 == r.seq % 2 ^ 16
    && leAt code 0 4 == crc32c (fr.take 512 ++ code.drop 4)

/-- 512-bit word j of a frame. -/
def frameWord (fr : List Byte) (j : Nat) : Nat := leAt fr (64 * j) 64

/-- Slot frame f of every target takes the data (R232, R233). -/
def State.loadWrite (s : State) (r : LoadRun) (f d : Nat) : State :=
  r.targets.foldl (fun s g => s.setSlotData g f d) s

/-- The slot frame that word j of CONFIG frame m carries, `none` for padding (R232). -/
def configFrame (m j : Nat) : Option Nat := let f := 1 + 8 * m + j; if f ≤ 31828 then some f else none

/-- Whether block n lies in a declared MEMORY range. -/
def declared (r : LoadRun) (n : Nat) : Bool := r.ranges.any fun (x : Nat × Nat) => decide (x.1 ≤ n ∧ n ≤ x.1 + x.2)

/-- A binding in slot frame f names an undeclared block (R237). -/
def bindingConflict (r : LoadRun) (f d : Nat) : Bool :=
  decide (31789 ≤ f ∧ f ≤ 31828) && (upTo 512).any fun i =>
    let q := 512 * (f - 31789) + i
    q % 10 == 9 && bitOf d i == 1 && !declared r (q / 20)

/-- A CONFIG frame. -/
def State.loadConfig (s : State) (n : Nat) (r : LoadRun) (fr : List Byte) : State :=
  let ws := (upTo 8).filterMap fun j => (configFrame r.seq j).map fun f => (f, frameWord fr j)
  let s1 := ws.foldl (fun s (x : Nat × Nat) => s.loadWrite r x.1 x.2) s
  if ws.any fun (x : Nat × Nat) => bindingConflict r x.1 x.2 then (s1.loadFault n r).loadFail n r ldDeclConflict else s1

/-- A STATE frame (R233). -/
def State.loadState (s : State) (r : LoadRun) (fr : List Byte) : State :=
  (upTo 8).foldl (fun s j => s.loadWrite r (31829 + 8 * r.seq + j) (frameWord fr j)) s

/-- Bit i of a sett's configuration as a slot holds it. -/
def State.slotSettBit (s : State) (g sett i : Nat) : Nat :=
  let e := 15872 * sett + Config.settBit i % 15872
  bitOf (s.slotData g (1 + e / 512)) (e % 512)

/-- State generated when the image has none: SRVAL of every flip-flop, arithmetic blocks 0 (R233). -/
def State.loadGenState (s : State) (r : LoadRun) : State :=
  r.targets.foldl (fun s g =>
    let s1 := (upTo 256).foldl (fun t j =>
      t.setSlotData g (ffRun + j) ((upTo 512).foldl (fun acc i =>
        let bit := 512 * j + i
        acc + s.slotSettBit g (bit / 128) (4096 + 16 * (bit % 128 / 2) + (if bit % 2 = 0 then 3 else 2)) * 2 ^ i) 0)) s
    (upTo 256).foldl (fun t j => t.setSlotData g (abRun + j) 0) s1) s

/-- The memory port of bench b can be reached: its domain is on and its fence open (R347). -/
def State.memOpen (s : State) (b : Nat) : Bool :=
  s.powered (dMem (benchCol b)) && s.get (fenceFld 2) (routerOf (benchCol b) (benchY b + 1) (benchX b)) == 0

/-- The preload of `count` words from word `first` of block n: one WRITE in class MGT that reaches the bench's memory port,
where its words are performed in their turn (R90, R91, R94, R103). -/
def State.preloadWrite (s : State) (n b block first : Nat) (ws : List Nat) : State :=
  let a := 0x010000000000 + benchCol b * 2 ^ 32 + b % 16 * 2 ^ 26 + block * 2 ^ 16 + first * 8
  let len := 8 * ws.length - 1
  let h := mkHeader a (memPortId b) (controlPortId 0) n clsMgt len 0 opWrite 0 0
  s.setMemReqs b (s.memReqs b ++ [{ hdr := h, flits := flitsOf a len ws, chan := some n }])

/-- A PRELOAD frame (R238, R239): a full write of each word through the haul path. With the memory port out of reach the write
is answered UNREACHABLE, which ends the load (R245; log entry 74). -/
def State.loadPreload (s : State) (n : Nat) (r : LoadRun) (fr : List Byte) : State :=
  let d := leAt fr 0 8
  let block := bitsOf d 0 10
  let first := bitsOf d 10 13
  let count := bitsOf d 23 6
  if r.preload then
    if count = 0 ∨ 63 < count ∨ 8192 < first + count ∨ declared r block = false ∨ bitsOf d 29 35 ≠ 0 then
      (s.loadFault n r).loadFail n r ldPreloadRange
    else if !s.memOpen r.bench then s.loadFail n r ldSrcError
    else (s.setLoad n (some { r with acks := r.acks + 1 })).preloadWrite n r.bench block first
      ((upTo count).map fun i => leAt fr (8 * (i + 1)) 8)
  else s

/-- The phase of a section. -/
def sectionPhase (t : Nat) : Nat := if t = 4 then phDecl else if t = 1 then phConfig else if t = 2 then phState else phPreload

/-- What follows the last frame of a section. -/
def State.loadSectionEnd (s : State) (n : Nat) (r : LoadRun) (type : Nat) : State :=
  let r1 := { r with sect := r.sect + 1, seq := 0 }
  let s1 := if type = 1 ∧ bitOf r.flags 1 = 0 then s.loadGenState r else s
  let s2 := s1.setLoad n (some r1)
  if type = 4 then s2.loadDecls n r1
  else match r1.table[r1.sect]? with
    | some e => if e.type < 0x8000 then s2.set F.MEY_LOAD_STAT_PHASE n (sectionPhase e.type) else s2
    | none => s2.set F.MEY_LOAD_STAT_PHASE n phCommit

/-- One frame of the stream. -/
def State.loadFrame (s : State) (n : Nat) (r : LoadRun) (e : LoadSection) : State :=
  let fr := r.buf.take 520
  if frameOk r fr then
    let r1 := { r with buf := r.buf.drop 520, chain := crc32cRun r.chain (fr.drop 512),
                       decl := if e.type = 4 then r.decl ++ fr.take 512 else r.decl }
    let s1 := (s.inc F.MEY_LOAD_PROG_FRAMES n).setLoad n (some r1)
    let s2 := match e.type with
      | 1 => s1.loadConfig n r1 fr
      | 2 => s1.loadState r1 fr
      | 3 => s1.loadPreload n r1 fr
      | _ => s1
    match s2.load n with
    | none => s2
    | some r2 =>
      if r2.seq + 1 = e.frames then s2.loadSectionEnd n r2 e.type
      else s2.setLoad n (some { r2 with seq := r2.seq + 1 })
  else (s.loadFault n r).loadFail n r ldFrameFault

/-- The trailer (R231). -/
def State.loadTrailer (s : State) (n : Nat) (r : LoadRun) : State :=
  let t := r.buf.take 64
  if leAt t 0 4 = 0x4559454D ∧ leAt t 4 4 = r.total ∧ leAt t 8 8 = r.imageId
      ∧ leAt t 0x10 4 = Nat.xor r.chain 0xFFFFFFFF ∧ leAt t 0x3C 4 = crc32c (t.take 0x3C) then
    s.setLoad n (some { r with buf := r.buf.drop 64, ready := true })
  else s.loadFail n r ldTrailer

/-- Use what has arrived, as far as it goes; the targets' hold must have ended before CONFIG (R242, R246). -/
def State.loadUse (s : State) (n : Nat) : Nat → State
  | 0 => s
  | fuel + 1 =>
    match s.load n with
    | none => s
    | some r =>
      if r.bad then s.loadFail n r ldSrcError
      else if !r.hdr then (if 256 ≤ r.buf.length then (s.loadHeader n r).loadUse n fuel else s)
      else if r.table = [] then (if 32 * r.nsec ≤ r.buf.length then (s.loadTable n r).loadUse n fuel else s)
      else if r.holding then s
      else match r.table[r.sect]? with
        | some e => if e.frames = 0 then (s.loadSectionEnd n r e.type).loadUse n fuel
          else if 520 ≤ r.buf.length then (s.loadFrame n r e).loadUse n fuel else s
        | none => if r.ready then s else if 64 ≤ r.buf.length then (s.loadTrailer n r).loadUse n fuel else s

/-- More uses than `k` bytes can feed. -/
def loadFuel (k : Nat) : Nat := k / 32 + 20

/-- Bytes that the channel takes now: while the targets are not held it buffers up to 64 KiB, and the source pauses (R246). -/
def loadRoom (r : LoadRun) (k : Nat) : Nat :=
  let k1 := if r.hdr then min k (r.len - r.pos) else k
  if r.held then k1 else min k1 (65536 - r.buf.length)

/-- Whether the channel awaits source data (R245). -/
def loadAwaits (r : LoadRun) : Bool := !r.ready && decide (0 < loadRoom r 1)

/-- Bytes of the stream are taken and used, as far as the buffer goes; what is left stays with the source (R240, R242,
R246). -/
def State.loadFeed (s : State) (n : Nat) : Nat → List Byte → List Byte × State
  | 0, bs => (bs, s)
  | fuel + 1, bs =>
    match s.load n with
    | none => ([], s)
    | some r =>
      let k := loadRoom r bs.length
      if k = 0 then (bs, s)
      else
        let r1 := { r with buf := r.buf ++ bs.take k, pos := r.pos + k, since := s.time }
        ((s.setLoad n (some r1)).loadUse n (loadFuel r1.buf.length)).loadFeed n fuel (bs.drop k)

/-- Source bytes arrive: the stream is taken in at most three parts, as header, table and DECL frees the buffer. -/
def State.loadArrive (s : State) (n : Nat) (bytes : List Byte) : State := (s.loadFeed n 3 bytes).2

/-- Bytes of DDR by haul address; none when a channel does not serve one, or returns it poisoned (R241, R245). -/
def State.ddrBytes (s : State) (a k : Nat) : Option (List Byte) × State :=
  let m := (a % 8 + k + 7) / 8
  let r := (upTo m).foldl (fun (acc : List Byte × Bool × State) i =>
    let p := acc.2.2.ddrPlace (8 * (a / 8 + i))
    let up := acc.2.2.powered (dDdr (p.1 / 2)) && acc.2.2.ddrSt p.1 == ddReady && !acc.2.2.side.tapPins
      && decide (p.2 + 8 ≤ acc.2.2.get F.DDR_CH_STAT_SIZE_GIB p.1 * 2 ^ 30)
    if up then
      let q := acc.2.2.dramRead p.1 (p.2 / 8)
      (acc.1 ++ leBytes 8 q.1, acc.2.1 && !q.2.1, q.2.2)
    else (acc.1, false, acc.2.2)) ([], true, s)
  (if r.2.1 then some ((r.1.drop (a % 8)).take k) else none, r.2.2)

/-- The next bytes of the source: what the host's memory returns, or what DDR or the boot flash holds at MEY_LOAD_SRC
(R241). -/
def State.sourceBytes (s : State) (r : LoadRun) (bytes : List Byte) : Option (List Byte) × State :=
  match r.kind with
  | 2 => s.ddrBytes (r.addr % 2 ^ 48 + r.pos) bytes.length
  | 3 => (some (s.flashRead (r.addr + r.pos) bytes.length), s)
  | _ => (some bytes, s)

/-- Data of the source reach channel n; an error response of DDR ends the load (R241, R245). -/
def State.loadData (s : State) (n : Nat) (bytes : List Byte) : State :=
  match s.load n with
  | none => s
  | some r => match s.sourceBytes r (bytes.take (loadRoom r bytes.length)) with
    | (some bs, s1) => s1.loadArrive n bs
    | (none, s1) => s1.loadFail n r ldSrcError

/-- LOAD_DATA_ARRIVAL (R240 to R242): `bytes` is what the host's memory returns; from DDR and the flash so many bytes come as
it has. -/
def execLoadDataArrival (n : Nat) (bytes : List Byte) (s : State) : Host.Outcome State Fault Refusal :=
  .next (match s.load n with
    | none => s
    | some r => if s.floorReset = 0 ∧ (r.kind < 2 → s.portLive r.kind = true) then s.loadData n bytes else s)

/-- HOLD ends (R243): if every column holds, all targets become WRITING together; else the holds are dropped. -/
def State.loadHold (s : State) (n : Nat) : State :=
  match s.load n with
  | none => s
  | some r =>
    if !r.holding then s
    else if r.refused then s.loadFail n r ldTargetBusy
    else
      let s1 := s.dropHolds n
      let s2 := r.targets.foldl (fun s g =>
        let t := if s.slotSt g = slFree then s.setSlotGen g 0 else s
        t.setSlotSt g slWriting) s1
      let s3 := (s2.set F.MEY_LOAD_STAT_PHASE n phConfig).setLoad n (some { r with holding := false, held := true, since := s.time })
      s3.loadUse n (loadFuel r.buf.length)

/-- LOAD_HOLD_DONE (R243). -/
def execLoadHoldDone (n : Nat) (s : State) : Host.Outcome State Fault Refusal :=
  .next (if s.floorReset = 0 then s.loadHold n else s)

/-- The trailer has passed and every preload write has been answered: every target gets its header and is VALID (R244). -/
def State.loadCommit (s : State) (n : Nat) : State :=
  match s.load n with
  | none => s
  | some r =>
    if r.bad then s.loadFail n r ldSrcError
    else if r.ready && r.acks == 0 then
      let s1 := r.targets.foldl (fun s g =>
        let gen := s.slotGen g + 1
        let h := headerWord { gen := gen, imageId := r.imageId, clkSrc := r.clkSrc,
                              swEn := if r.swAllow then r.swEn else 0 }
        (((s.setSlotData g 0 h).setSlotGen g gen).dropStages (512 + g)).setSlotSt g slValid) s
      (((s1.set F.MEY_LOAD_STAT_BUSY n 0).set F.MEY_LOAD_STAT_RESULT n ldOk).setLoad n none).loadEvt n F.MEY_LOAD_EVT_DONE
    else s

/-- LOAD_COMMIT (R244). -/
def execLoadCommit (n : Nat) (s : State) : Host.Outcome State Fault Refusal :=
  .next (if s.floorReset = 0 then s.loadCommit n else s)

/-- LOAD_SOURCE_TIMEOUT (R245, R252): TMO_US without a byte while the channel awaits data. -/
def execLoadSourceTimeout (n : Nat) (s : State) : Host.Outcome State Fault Refusal :=
  .next (match s.load n with
    | none => s
    | some r =>
      if loadAwaits r = true ∧ s.floorReset = 0 ∧ r.since + 1000 * s.get F.MEY_LOAD_TMO_TMO_US n ≤ s.time then
        s.loadFail n r ldTimeout
      else s)

/-- LOAD_SOURCE_ERROR (R245). -/
def execLoadSourceError (n : Nat) (s : State) : Host.Outcome State Fault Refusal :=
  .next (match s.load n with
    | none => s
    | some r =>
      if s.floorReset = 0 then
        (if r.kind < 2 then s.inc F.PCIE_ERR_HOST_ERR r.kind else s).loadFail n r ldSrcError
      else s)

/-- Loads of which a preload write has been answered with an error end with SRC_ERROR (R245). -/
def State.loadsRefused (s : State) : State :=
  (upTo 4).foldl (fun s n => match s.load n with
    | some r => if r.bad then s.loadFail n r ldSrcError else s
    | none => s) s

/-- DRAIN_TIMEOUT (R345). -/
def execDrainTimeout (s : State) : Host.Outcome State Fault Refusal := .next s.drainOver.loadsRefused

/-- FENCE_CLOSING_TIMEOUT (R348). -/
def execFenceClosingTimeout (k l : Nat) (s : State) : Host.Outcome State Fault Refusal :=
  .next (s.fenceOver k l).loadsRefused

/-- PD_CFG_c goes down: a load with a target in it ends with TARGET_LOST, in whatever phase; before HOLD its targets are those
of its entries (R242, R245). -/
def State.loadsLost (s : State) (c : Nat) : State :=
  (upTo 4).foldl (fun s n => match s.load n with
    | some r =>
      let ts := if r.holding || r.held then r.targets else s.loadList n
      if ts.any fun g => g / 1024 == c then s.loadFail n r ldTargetLost else s
    | none => s) s

/-- A logical reset of the floor die ends every running load with ABORTED at its release (R245). -/
def State.loadsAborted (s : State) : State :=
  (upTo 4).foldl (fun s n => match s.load n with
    | some r => s.loadFail n r ldAborted
    | none => s) s

end Sys2Proof.Machine
end

