-- ==== Sys2Proof/Machine/Pcie.lean ====
section
/-!
DEFINITION. The PCI Express ports (R413 to R437): links, configuration requests, BAR accesses on the haul network,
MSI-X tables, VF attachment, and the DMA engines' copy rings.
-/

namespace Sys2Proof.Machine

/-! ### Links, resets and vectors -/

/-- Every pending message that port x can now send is sent (R429). -/
def State.sendPort (s : State) (x : Nat) : State :=
  (upTo 65).foldl (fun s fn => if s.msgPort fn = x then s.sendAllPending fn else s) s

def State.dmaEng (s : State) (x : Nat) : DmaEng := mapGet (fun _ => {}) s.pcie.dma x
/-- The engine of port x; IDLE follows its descriptors (R433). -/
def State.setDmaEng (s : State) (x : Nat) (e : DmaEng) : State :=
  ({ s with pcie := { s.pcie with dma := mapSet (fun _ => {}) s.pcie.dma x e } }).set F.PCIE_DMA_CTL_IDLE x
    (b2n e.descs.isEmpty)

def State.ftag (s : State) (x i : Nat) : FloorTag := mapGet (fun _ => {}) s.pcie.ftags (512 * x + i)
def State.setFtag (s : State) (x i : Nat) (t : FloorTag) : State :=
  { s with pcie := { s.pcie with ftags := mapSet (fun _ => {}) s.pcie.ftags (512 * x + i) t } }

/-- A TAG is free: no request holds it, and it is not out of use after an expiry (R322, R353). -/
def State.ftagFree (s : State) (x i : Nat) : Bool :=
  decide (i < 512) && !(s.ftag x i).busy && (s.ftag x i).since.isNone

/-- The engine's collector record: SOURCE 72 for PCIe A and 73 for PCIe B (R428). -/
def State.dmaEvt (s : State) (x bit : Nat) : State := s.raise (72 + x) bit

/-- The requester of engine x among the TAG pools: it keeps TAGs and a reserve of its own (R425). -/
def engOf (x : Nat) : Nat := x + 2

/-- TAGs of pieces are free again. -/
def State.freePieces (s : State) (x : Nat) (ps : List DmaPiece) : State :=
  ps.foldl (fun s (p : DmaPiece) => s.setFtag (engOf x) p.ht { s.ftag (engOf x) p.ht with busy := false }) s

/-- The engine's work ends without write-back: EN clears and RING_HALT is raised (R428); load channels that use the engine
end with SRC_ERROR (R245, R419). -/
def State.dmaEnd (s : State) (x : Nat) : State :=
  let ps := ((s.dmaEng x).descs.map fun (d : DmaDesc) => d.open_).flatten
  let s1 := ((s.freePieces x ps).setDmaEng x { s.dmaEng x with descs := [] }).set F.PCIE_DMA_CTL_EN x 0
  let s2 := s1.dmaEvt x 2
  (upTo 4).foldl (fun s n => match s.load n with
    | some r => if r.kind = x then s.loadFail n r ldSrcError else s
    | none => s) s2

/-- The link of port x goes down (R428, R430). -/
def State.linkDown (s : State) (x : Nat) : State :=
  if s.flag F.PCIE_LINK_STAT_UP x then
    let s1 := (((s.set F.PCIE_LINK_STAT_UP x 0).set F.PCIE_LINK_STAT_SPEED x 0).set F.PCIE_LINK_STAT_WIDTH x 0).set
      F.PCIE_LINK_STAT_FLIT x 0
    ((s1.inc F.PCIE_LINK_STAT_DOWN_CNT x).dmaEnd x).dmaEvt x 3
  else s

/-- Whether a link can train at a speed code and width, in flit mode or not: flit mode at 64.0 GT/s only (R414, R430). -/
def linkMode (speed width : Nat) (flit : Bool) : Bool :=
  decide (1 ≤ speed ∧ speed ≤ 6) && [1, 2, 4, 8, 16].contains width && flit == (speed == 6)

/-- PCIE_LINK_UP (R428): DL_Active at a speed and width of R430; LINK is raised, and pending messages are sent. A link
trains after RESUME of a floor-die reset (R635). -/
def execPcieLinkUp (x speed width : Nat) (flit : Bool) (s : State) : Host.Outcome State Fault Refusal :=
  .next (if x < 2 ∧ s.powered (dPcie x) = true ∧ s.side.tapPins = false ∧ s.floorReset = 0
      ∧ linkMode speed width flit = true ∧ s.flag F.PCIE_LINK_STAT_PERST x = false ∧ s.flag F.PCIE_LINK_STAT_UP x = false then
    let s1 := (((s.set F.PCIE_LINK_STAT_UP x 1).set F.PCIE_LINK_STAT_SPEED x speed).set
      F.PCIE_LINK_STAT_WIDTH x width).set F.PCIE_LINK_STAT_FLIT x (b2n flit)
    (s1.dmaEvt x 3).sendPort x
  else s)

/-- PCIE_LINK_DOWN (R428). -/
def execPcieLinkDown (x : Nat) (s : State) : Host.Outcome State Fault Refusal :=
  .next (if x < 2 then s.linkDown x else s)

/-! ### Configuration space (R415, R416, R429) -/

/-- Bits [w + lo - 1 : lo] of a word that the standard leaves to an implementation, at place `k` (log entry 75). -/
def openBits (k lo w : Nat) : Nat := Config.cfgOpen k % 2 ^ w * 2 ^ lo

/-- Half of a 64-bit non-prefetchable memory BAR of 2^n bytes (R420, R422). -/
def barWord (n base : Nat) (hi : Bool) : Nat :=
  if hi then base / 2 ^ 32 % 2 ^ 32 else base % 2 ^ 32 / 2 ^ n * 2 ^ n + 4

/-- A BAR's base after a write of half of it. -/
def barBase (n old : Nat) (hi : Bool) (v : Nat) : Nat := putBits old (if hi then 32 else 0) 32 v / 2 ^ n * 2 ^ n

/-- The capability structures that a function presents (R414): power management, PCI Express and MSI-X; AER, ARI, for the PF
SR-IOV, Device 3, and those that the rates of R414 bring. -/
def capPresent (fn : Nat) (ext : Bool) (id : Nat) : Bool :=
  if ext then [0x01, 0x0E, 0x2F].contains id || (fn == 0 && [0x10, 0x19, 0x25, 0x26, 0x27, 0x2A, 0x31].contains id)
  else [0x01, 0x10, 0x11].contains id

/-- The data that a configuration read returns (R414, R415, R420, R422, R429); the SR-IOV capability is function 0's, and the
words are laid out as the standard does (log entry 75). -/
def State.cfgRead (s : State) (x fn : Nat) : CfgReq → Nat
  | .readId => (if fn = 0 then 0xA4D0 else 0xA4D1) * 2 ^ 16 + Config.vendorId % 2 ^ 16
  | .readClass => 0x120000
  | .readCommand => b2n (s.cfg x fn).mse * 2 + b2n (s.cfg x fn).bme * 4
  | .readVfEnable => if fn = 0 then b2n (s.cfg x fn).vfEnable else 0
  | .readVfs => if fn = 0 then 64 + 64 * 2 ^ 16 else 0
  | .readVfPlaces => if fn = 0 then 1 + 1 * 2 ^ 16 else 0
  | .readVfDevice => if fn = 0 then 0xA4D1 * 2 ^ 16 else 0
  | .readMsix => b2n (s.cfg x fn).msixEn * 2 ^ 15 + b2n (s.cfg x fn).msixFm * 2 ^ 14 + (vecCount fn - 1)
  | .readBar hi => if fn = 0 then barWord 28 (s.cfg x 0).bar hi else 0
  | .readVfBar hi => if fn = 0 then barWord 26 (s.cfg x 0).vfBar hi else 0
  | .readDevCap => 2 + 2 ^ 5 + openBits 0 6 6 + 2 ^ 15 + 2 ^ 28
  | .readDevCtl => (s.cfg x fn).devCtl
  | .readDevCap2 => openBits 1 0 5 + 2 ^ 16 + 2 ^ 17
  | .readDevCap3 => 2 + 4
  | .readLinkCap => 6 + 16 * 2 ^ 4 + 2 * 2 ^ 10 + openBits 2 12 6 + 2 ^ 22 + openBits 3 24 8
  | .readLinkCap2 => 0x7E
  | .readAerCap => 2 ^ 5 + 2 ^ 7
  | .findCap ext id => b2n (capPresent fn ext id)
  | .other offset => Config.cfgStd offset % 2 ^ 32
  | _ => 0

/-- VF Enable of port x clears: its VFs exist no more, and their configuration spaces are reset (R414, R419, log entry 75). -/
def State.vfsOff (s : State) (x : Nat) : State := (upTo 64).foldl (fun s n => s.resetCfg x (n + 1)) s

/-- Whether function `fn` exists on port x: the PF, or a VF while VF Enable is set (R414, R630). -/
def State.hasFn (s : State) (x fn : Nat) : Bool := fn == 0 || (s.cfg x 0).vfEnable

/-- What a configuration write changes; a read changes nothing. -/
def State.cfgWrite (s : State) (x fn : Nat) : CfgReq → State
  | .setCommand mse bme => s.setCfg x fn { s.cfg x fn with mse := mse, bme := bme }
  | .setVfEnable on =>
    if fn = 0 then
      let s1 := s.setCfg x 0 { s.cfg x 0 with vfEnable := on }
      if on then s1 else s1.vfsOff x
    else s
  | .setBar hi v => if fn = 0 then s.setCfg x 0 { s.cfg x 0 with bar := barBase 28 (s.cfg x 0).bar hi v } else s
  | .setVfBar hi v => if fn = 0 then s.setCfg x 0 { s.cfg x 0 with vfBar := barBase 26 (s.cfg x 0).vfBar hi v } else s
  | .setDevCtl v => s.setCfg x fn { s.cfg x fn with devCtl := Nat.land v 0x79FF }
  | .setMsix en fm =>
    let s1 := s.setCfg x fn { s.cfg x fn with msixEn := en, msixFm := fm }
    if s1.msgPort fn = x then s1.sendAllPending fn else s1
  | _ => s

/-- PCIE_CONFIG_REQUEST (R416): Request Retry Status until boot complete; else the port's hardware serves it. A VF that is not
enabled is no function of the port (R414). -/
def execPcieConfigRequest (x fn tag : Nat) (q : CfgReq) (s : State) : Host.Outcome State Fault Refusal :=
  .next (if x < 2 ∧ fn < 65 ∧ s.portLive x = true then
    if s.flag F.PWR_BOOT_STAT_DONE 0 then
      if s.hasFn x fn then (s.cfgWrite x fn q).emit (.completion x fn tag false (some (s.cfgRead x fn q)))
      else s.emit (.unsupported x fn tag)
    else s.emit (.cfgRetry x fn)
  else s)

/-- A function's reset as far as its configuration space and BAR accesses go (R419, R429). -/
def State.vfCfgReset (s : State) (x n : Nat) : State :=
  let s1 := s.resetCfg x (n + 1)
  if s.vfPort n = x then
    let s2 := (s1.setPendBits (n + 1) 0).clearReg .PCIE_VF_APER n
    { s2 with pcie := { s2.pcie with
        bars := s2.pcie.bars.map fun (r : BarReq) =>
          if r.port = x ∧ r.fn = n + 1 ∧ r.write = false then { r with discard := true } else r } }
  else s1

/-- PF_FLR (R419): VF Enable and the PF's configuration space with its MSI-X state; the DMA work of the port ends. The
configuration write gets Request Retry Status before boot complete (R416). -/
def execPfFlr (x : Nat) (s : State) : Host.Outcome State Fault Refusal :=
  .next (if x < 2 ∧ s.portLive x = true then
    if s.flag F.PWR_BOOT_STAT_DONE 0 then ((s.resetCfg x 0).vfsOff x).dmaEnd x else s.emit (.cfgRetry x 0)
  else s)

/-! ### BAR accesses (R420 to R424) -/

/-- Where a BAR0 access goes. -/
inductive BarPlace where
  | msix (off : Nat)         -- byte of the MSI-X table
  | pba (off : Nat)
  | aper (byte : Nat)
  | none                     -- reserved, or a stub: reads return 0, writes are ignored
  | haul (cls : Nat) (mgmt : Bool) (addr : Nat)
  | mailbox (addr : Nat)     -- VF mailbox, carried in class REQ
  deriving DecidableEq, Repr

/-- The device-block address of bench b's control block (R421). -/
def benchBlockAddr (b : Nat) : Nat := 0x030000000000 + benchCol b * 0x001000000000 + 0x000F00000000 + benchPos b * 0x10000

/-- The place of offset `o` of a function's BAR0 (R420 to R423). -/
def State.barPlace (s : State) (x fn o : Nat) : BarPlace :=
  if fn = 0 then
    if 0x700000 ≤ o ∧ o < 0x701000 then .msix (o - 0x700000)
    else if 0x701000 ≤ o ∧ o < 0x702000 then .pba (o - 0x701000)
    else if o < 0x10000000 then .haul clsMgt true (0x03F000000000 + o)
    else .none
  else
    let n := fn - 1
    if s.vfPort n ≠ x then .none
    else if o < 0x10000 then .haul clsReq false (benchBlockAddr n + o)
    else if o < 0x11000 then .mailbox (Config.vfMailboxAddr n % 2 ^ 48 + (o - 0x10000))
    else if 0x11000 ≤ o ∧ o < 0x11004 then .aper (o - 0x11000)
    else if 0x12000 ≤ o ∧ o < 0x13000 then .msix (o - 0x12000)
    else if 0x13000 ≤ o ∧ o < 0x14000 then .pba (o - 0x13000)
    else if 0x2000000 ≤ o ∧ o < 0x4000000 then
      .haul clsReq false (0x010000000000 + benchCol n * 2 ^ 32 + benchPos n * 2 ^ 26
        + s.get F.PCIE_VF_APER_APER n * 0x02000000 + (o - 0x02000000))
    else .none

/-- Word w of a function's MSI-X table (R429). -/
def State.msixWord (s : State) (x fn w : Nat) : Nat :=
  if w / 4 < vecCount fn then
    let e := s.msixEntry x fn (w / 4)
    match w % 4 with
    | 0 => e.addr % 2 ^ 32
    | 1 => e.addr / 2 ^ 32
    | 2 => e.data
    | _ => b2n e.mask
  else 0

/-- A write of a word of the MSI-X table; unmasking sends what is pending (R429). -/
def State.msixWrite (s : State) (x fn w v : Nat) : State :=
  if w / 4 < vecCount fn then
    let k := w / 4
    let e := s.msixEntry x fn k
    match w % 4 with
    | 0 => s.setMsixEntry x fn k { e with addr := putBits e.addr 0 32 v }
    | 1 => s.setMsixEntry x fn k { e with addr := putBits e.addr 32 32 v }
    | 2 => s.setMsixEntry x fn k { e with data := v % 2 ^ 32 }
    | _ =>
      let s1 := s.setMsixEntry x fn k { e with mask := bitOf v 0 == 1 }
      if s1.msgPort fn = x then s1.sendPending fn k else s1
  else s

/-- The bytes of a write at offset `o` as the 32-bit words that they touch: each word's offset, its byte enables, its value. -/
def wordsOfWrite (o : Nat) (bs : List Byte) : List (Nat × Nat × Nat) :=
  (upTo ((o % 4 + bs.length + 3) / 4)).map fun k =>
    let at_ := fun (i : Nat) => 4 * k + i - o % 4
    let has := fun (i : Nat) => decide (o % 4 ≤ 4 * k + i ∧ at_ i < bs.length)
    (o / 4 * 4 + 4 * k, (upTo 4).foldl (fun a i => a + b2n (has i) * 2 ^ i) 0,
      (upTo 4).foldl (fun a i => if has i then a + (bs.getD (at_ i) 0).toNat * 2 ^ (8 * i) else a) 0)

/-- A write of bytes into the MSI-X table, word by word (R421). -/
def State.msixBytes (s : State) (x fn o : Nat) (bs : List Byte) : State :=
  (wordsOfWrite o bs).foldl (fun s (e : Nat × Nat × Nat) =>
    s.msixWrite x fn (e.1 / 4) (mergeBytes e.2.1 (s.msixWord x fn (e.1 / 4)) e.2.2)) s

/-- A 32-bit word of a function's PBA: its pending bits stand in the first (R429). -/
def State.pbaWord (s : State) (fn o : Nat) : Nat := if o < 4 then s.pendBits fn % 2 ^ 32 else 0

/-- `len` bytes from byte `o` on, of 32-bit words. -/
def gatherWords (word : Nat → Nat) (o len : Nat) : Nat :=
  bitsOf ((upTo ((o % 4 + len + 3) / 4)).foldl (fun a i => a + word (o / 4 * 4 + 4 * i) % 2 ^ 32 * 2 ^ (32 * i)) 0)
    (8 * (o % 4)) (8 * len)

/-- MSIX_UNMASK (R429): the Mask bit of a vector clears through the table. -/
def execMsixUnmask (x fn vec : Nat) (s : State) : Host.Outcome State Fault Refusal :=
  .next (if x < 2 ∧ s.portLive x = true ∧ (fn = 0 ∨ (fn < 65 ∧ s.hasFn x fn = true ∧ s.vfPort (fn - 1) = x)) then
    s.msixWrite x fn (4 * vec + 3) 0 else s)

/-- The data flits of a byte range (R309). -/
def flitsOfBytes (addr : Nat) (bs : List Byte) : List (Nat × Bool) :=
  let v := leNat bs * 2 ^ (8 * (addr % 64))
  (upTo (dataFlits addr (bs.length - 1))).map fun k => (bitsOf v (512 * k) 512, false)

/-- The bytes of a range from its data flits, as a number. -/
def rangeOfFlits (addr len : Nat) (flits : List (Nat × Bool)) : Nat :=
  bitsOf ((upTo flits.length).foldl (fun a k => a + (flits.getD k (0, false)).1 * 2 ^ (512 * k)) 0)
    (8 * (addr % 64)) (8 * len)

/-- A BAR access failed (R424): counted; a read completes successfully with all-ones data. -/
def State.barFail (s : State) (r : BarReq) : State :=
  let s1 := s.inc F.PCIE_ERR_BAR_ERR r.port
  if r.write || r.discard then s1
  else s1.emit (.completion r.port r.fn r.tag false (some (2 ^ (8 * r.len) - 1)))

/-- Whether a request of port x is held back: while the epoch drains (R344), and at its closing fence (R348). -/
def State.floorHolds (s : State) (x : Nat) : Bool :=
  s.flag F.HN_EPOCH_STAT_DRAINING 0 || s.power.holdInj || s.get (fenceFld 1) (pcieRouter x) != 0

/-- Whether a waiting access may enter the network: a read only behind no write of its function (R424). -/
def barReady (earlier : List BarReq) (r : BarReq) : Bool :=
  r.write || !(earlier.any fun q => q.port == r.port && q.fn == r.fn && q.write)

/-- The header of a request of port x (q < 2) or of its engine, stamped as it enters the network. -/
def State.floorHdr (s : State) (q addr dst len ht cls : Nat) (write : Bool) : Nat :=
  mkHeader addr dst (pcieId (q % 2)) (ht + 2 ^ 9 * (s.ftag q ht).gen) cls (len - 1) (s.get F.HN_EPOCH_STAT_CUR 0)
    (if write then opWrite else opRead) 0 s.time

/-- Fields of a copy descriptor (R426). -/
def dsHost (w : Nat) : Nat := bitsOf w 0 64
def dsHaul (w : Nat) : Nat := bitsOf w 64 48
def dsLen (w : Nat) : Nat := bitsOf w 128 24 + 1
def dsToHost (w : Nat) : Bool := bitOf w 152 == 1
def dsIrq (w : Nat) : Bool := bitOf w 153 == 1
def dsFence (w : Nat) : Bool := bitOf w 154 == 1

/-- The response reserve in use of port x for its BAR accesses (x < 2), or of an engine for its pieces on the network
(R322, R425). -/
def State.floorUsed (s : State) (q : Nat) : Nat :=
  if q < 2 then
    s.pcie.bars.foldl (fun a (r : BarReq) =>
      if r.port = q ∧ r.inj.isSome = true then a + rspRoom r.write r.addr (r.len - 1) else a) 0
  else
    (s.dmaEng (q - 2)).descs.foldl (fun a (d : DmaDesc) =>
      d.open_.foldl (fun a (p : DmaPiece) => a + rspRoom (!dsToHost d.word) p.addr (p.len - 1)) a) 0

/-- Whether requester q has reserve room for a response (R322). -/
def State.floorRoom (s : State) (q : Nat) (write : Bool) (addr len : Nat) : Bool :=
  decide (s.floorUsed q + rspRoom write addr (len - 1) ≤ 65 + Config.floorReserve q)

/-- Access `r` of port x may enter the network in s, after the accesses `before` it (R313, R322). -/
def State.barGoes (s : State) (x : Nat) (before : List BarReq) (r : BarReq) : Bool :=
  r.port == x && r.inj.isNone && barReady before r && s.floorRoom x r.write r.addr r.len
    && s.injReady (pcieId x) r.cls

/-- Accesses of port x that wait and may go enter the network, in arrival order, as reserve room and the router's input
allow (R313, R322). -/
def State.issueBars (s : State) (x : Nat) : State :=
  if s.floorHolds x then s
  else
    let go (acc : List BarReq × State) (r : BarReq) : List BarReq × State :=
      let rest := s.pcie.bars.drop (acc.1.length + 1)
      let now := { acc.2 with pcie := { acc.2.pcie with bars := acc.1 ++ rest } }
      if now.barGoes x acc.1 r then
        (acc.1 ++ [{ r with inj := some acc.2.time }],
          acc.2.inject (pcieId x) (acc.2.floorHdr x r.addr r.dst r.len r.ht r.cls r.write)
            (if r.write then flitsOfBytes r.addr r.data else []))
      else (acc.1 ++ [r], acc.2)
    let z := s.pcie.bars.foldl go ([], s)
    { z.2 with pcie := { z.2.pcie with bars := z.1 } }

/-- A BAR access is carried as a haul request (R421, R423), unless its end point answers it (R301, R303). -/
def State.barCarry (s : State) (r : BarReq) (check : Option Bool) : State :=
  let st := match check with
    | some mgmt => s.localStatus mgmt r.addr r.len
    | none => none
  match st with
  | some _ => s.barFail r
  | none =>
    let r1 := { r with dst := match check with
      | some _ => targetId (s.haulTarget r.addr)
      | none => controlPortId 0 }
    let s1 := s.setFtag r.port r.ht { s.ftag r.port r.ht with busy := true }
    ({ s1 with pcie := { s1.pcie with bars := s1.pcie.bars ++ [r1] } }).issueBars r.port

/-- Whether a function's BAR0 decodes on port x: the link is up, the function exists, Memory Space Enable is set, and the boot
is complete (R630). -/
def State.barOpen (s : State) (x fn : Nat) : Bool :=
  decide (x < 2 ∧ fn < 65) && s.portLive x && s.hasFn x fn && (s.cfg x fn).mse && s.flag F.PWR_BOOT_STAT_DONE 0

/-- PCIE_BAR_READ (R424): `len` bytes at offset `o`; `ht` is the free TAG that a carried read takes. -/
def execPcieBarRead (x fn tag o len ht : Nat) (s : State) : Host.Outcome State Fault Refusal :=
  .next (if s.barOpen x fn = true ∧ 0 < len then
    let done := fun (v : Nat) => s.emit (.completion x fn tag false (some (v % 2 ^ (8 * len))))
    let r : BarReq := { port := x, fn := fn, tag := tag, write := false, cls := clsReq, addr := 0, dst := 0, data := [],
                        len := len, ht := ht }
    if s.floorReset ≠ 0 then s.barFail r else
    match s.barPlace x fn o with
    | .msix b => done (gatherWords (fun o => s.msixWord x fn (o / 4)) b len)
    | .pba b => done (gatherWords (s.pbaWord fn) b len)
    | .aper b => done (gatherWords (fun o => if o = 0 then s.get F.PCIE_VF_APER_APER (fn - 1) else 0) b len)
    | .none => done 0
    | .haul cls m a => if s.ftagFree x ht then s.barCarry { r with cls := cls, addr := a } (some m) else s
    | .mailbox a => if s.ftagFree x ht then s.barCarry { r with addr := a } none else s
  else if x < 2 ∧ fn < 65 ∧ s.portLive x = true then s.emit (.unsupported x fn tag)
  else s)

/-- PCIE_BAR_WRITE (R424): bytes at offset `o`; what the network carries to a register or buffer of the device takes effect
with its response (BAR_HAUL_RESPONSE, log entry 76), and to memory or a bench where it arrives. -/
def execPcieBarWrite (x fn o : Nat) (data : List Byte) (ht : Nat) (s : State) : Host.Outcome State Fault Refusal :=
  .next (if s.barOpen x fn = true ∧ data ≠ [] then
    let r : BarReq := { port := x, fn := fn, tag := 0, write := true, cls := clsReq, addr := 0, dst := 0, data := data,
                        len := data.length, ht := ht }
    if s.floorReset ≠ 0 then s.barFail r else
    match s.barPlace x fn o with
    | .msix b => s.msixBytes x fn b data
    | .pba _ => s
    | .aper b => if b = 0 then s.set F.PCIE_VF_APER_APER (fn - 1) (leNat data) else s
    | .none => s
    | .haul cls m a => if s.ftagFree x ht then s.barCarry { r with cls := cls, addr := a } (some m) else s
    | .mailbox a => if s.ftagFree x ht then s.barCarry { r with addr := a } none else s
  else s)

/-- An access leaves the port's list and its TAG is free; reads that waited for it go (R424). -/
def State.barClose (s : State) (r : BarReq) : State :=
  let s1 := s.setFtag r.port r.ht { s.ftag r.port r.ht with busy := false }
  ({ s1 with pcie := { s1.pcie with bars := s1.pcie.bars.erase r } }).issueBars r.port

/-- A response that matches nothing outstanding of port x (R355). -/
def State.floorLate (s : State) (x : Nat) : State := s.inc F.HN_LATE_RSP_COUNT (3 * x)

/-- DRAIN_COMPLETE (R344): the old epoch has drained; requests that the ports held back go. -/
def execDrainComplete (s : State) : Host.Outcome State Fault Refusal :=
  .next ((s.drainComplete.issueBars 0).issueBars 1)

/-! ### VF attachment (R417, R418) -/

/-- Whether the configuration space of VF n on either port has Memory Space Enable or Bus Master Enable set. -/
def State.vfBusy (s : State) (n : Nat) : Bool :=
  (upTo 2).any fun x => (s.cfg x (n + 1)).mse || (s.cfg x (n + 1)).bme

/-- A write of PCIE_VF_MAP_LO (half 0) or HI (R418). -/
def State.vfMapWrite (s : State) (half : Nat) (v : Word) : State :=
  let f := if half = 0 then F.PCIE_VF_MAP_LO_MAP_LO else F.PCIE_VF_MAP_HI_MAP_HI
  let old := s.get f 0
  if (upTo 32).any fun i => bitOf old i != bitOf v.toNat i && s.vfBusy (32 * half + i) then
    s.set F.PCIE_DEV_CTL_MAP_ERR 0 1
  else ((s.set f 0 v.toNat).sendPort 0).sendPort 1

/-- VF_MAP_WRITE (R418). -/
def execVfMapWrite (src : Src) (half : Nat) (v : Word) (s : State) : Host.Outcome State Fault Refusal :=
  .next (if half < 2 ∧ s.mayWrite src (if half = 0 then .PCIE_VF_MAP_LO else .PCIE_VF_MAP_HI) 0 = true then
    s.vfMapWrite half v else s)

/-! ### Copy rings (R425 to R428, R432 to R434) -/

/-- Descriptors of the copy ring. -/
def State.dmaRingSize (s : State) (x : Nat) : Nat := 2 ^ s.get F.PCIE_DMA_CTL_SIZE_EXP x

/-- A write of PCIE_DMA_CTL_x (R433): SIZE_EXP is ignored while EN is 1; setting EN resets PROD and CONS. -/
def State.dmaCtlWrite (s : State) (x : Nat) (v : Word) : State :=
  let s1 := s.w1cWrite .PCIE_DMA_CTL x v
  let was := s.flag F.PCIE_DMA_CTL_EN x
  let s2 := if was then s1
    else s1.set F.PCIE_DMA_CTL_SIZE_EXP x (clampNat 4 16 (fldOf F.PCIE_DMA_CTL_SIZE_EXP v))
  let en := fldOf F.PCIE_DMA_CTL_EN v
  let s3 := s2.set F.PCIE_DMA_CTL_EN x en
  if en = 1 ∧ was = false then
    ((s3.set F.PCIE_DMA_PROD_PROD x 0).set F.PCIE_DMA_CONS_CONS x 0).setDmaEng x { s3.dmaEng x with fetchIdx := 0 }
  else s3

/-- DMA_RING_ENABLE (R433): a write of PCIE_DMA_CTL_x that sets EN. -/
def execDmaRingEnable (src : Src) (x : Nat) (v : Word) (s : State) : Host.Outcome State Fault Refusal :=
  .next (if s.mayWrite src .PCIE_DMA_CTL x = true ∧ fldOf F.PCIE_DMA_CTL_EN v = 1 then s.dmaCtlWrite x v else s)

/-- DMA_RING_DISABLE (R428): a write of PCIE_DMA_CTL_x that clears EN; descriptors in progress go on. -/
def execDmaRingDisable (src : Src) (x : Nat) (v : Word) (s : State) : Host.Outcome State Fault Refusal :=
  .next (if s.mayWrite src .PCIE_DMA_CTL x = true ∧ fldOf F.PCIE_DMA_CTL_EN v = 0 then s.dmaCtlWrite x v else s)

/-- A write of PCIE_DMA_PROD_x (R428). -/
def State.dmaProdWrite (s : State) (x : Nat) (v : Word) : State :=
  let p := fldOf F.PCIE_DMA_PROD_PROD v
  let cons := s.get F.PCIE_DMA_CONS_CONS x
  if s.dmaRingSize x ≤ p ∨ (p = cons ∧ s.get F.PCIE_DMA_PROD_PROD x ≠ cons) then s.set F.PCIE_DMA_CTL_PROD_ERR x 1
  else s.set F.PCIE_DMA_PROD_PROD x p

/-- DMA_PROD_WRITE (R428). -/
def execDmaProdWrite (src : Src) (x : Nat) (v : Word) (s : State) : Host.Outcome State Fault Refusal :=
  .next (if s.mayWrite src .PCIE_DMA_PROD x then s.dmaProdWrite x v else s)

/-- Reserved bits that must be 0: those that R426 lists with meaning 0. -/
def dsReserved (w : Nat) : Nat := bitsOf w 112 16 + bitsOf w 155 21 + bitsOf w 200 23 + bitsOf w 224 32

/-- A transfer split at 4 KiB boundaries of the haul address (R427). -/
def dmaPieces : Nat → Nat → Nat → List (Nat × Nat)
  | 0, _, _ => []
  | fuel + 1, addr, len =>
    if len = 0 then []
    else
      let n := min len (4096 - addr % 4096)
      (addr, n) :: dmaPieces fuel (addr + n) (len - n)

/-- The pieces of a descriptor. -/
def descPieces (w : Nat) : List (Nat × Nat) := dmaPieces (dsLen w / 4096 + 2) (dsHaul w) (dsLen w)

/-- The STATUS of a descriptor for a haul status (R426). -/
def dsStatus (st : Nat) : Nat :=
  if st = stPoison then 1 else if st = stUnmapped then 2 else if st = stDenied then 3
  else if st = stUnreachable then 4 else if st = stTimeout then 5 else if st = stRefused then 8 else 0

/-- A fetched descriptor starts: BAD_DESC, or split into pieces (R427). -/
def State.dmaStart (s : State) (x w : Nat) : State :=
  let e := s.dmaEng x
  let ps := descPieces w
  let bad := dsReserved w != 0 || ps.any fun (p : Nat × Nat) => s.localStatus false p.1 p.2 == some stUnmapped
  let d : DmaDesc := { idx := e.fetchIdx, word := w, todo := if bad then [] else ps, status := if bad then 7 else 0 }
  s.setDmaEng x { e with fetchIdx := (e.fetchIdx + 1) % s.dmaRingSize x, descs := e.descs ++ [d] }

/-- DMA_DESC_FETCH (R427, R428): the fetch of the next descriptor ends, with its word or in error. -/
def execDmaDescFetch (x : Nat) (word : Option Nat) (s : State) : Host.Outcome State Fault Refusal :=
  let e := s.dmaEng x
  .next (if x < 2 ∧ s.portLive x = true ∧ s.floorReset = 0 ∧ s.flag F.PCIE_DMA_CTL_EN x = true ∧ e.descs.length < 8
      ∧ e.fetchIdx ≠ s.get F.PCIE_DMA_PROD_PROD x then
    match word with
    | some w => s.dmaStart x (w % 2 ^ 256)
    | none => ((s.set F.PCIE_DMA_CTL_EN x 0).set F.PCIE_DMA_CTL_FETCH_ERR x 1).dmaEvt x 2
  else s)

/-- Every piece of a descriptor has ended. -/
def DmaDesc.whole (d : DmaDesc) : Bool := d.todo.isEmpty && d.open_.isEmpty

def State.setDesc (s : State) (x j : Nat) (d : DmaDesc) : State :=
  s.setDmaEng x { s.dmaEng x with descs := listSet (s.dmaEng x).descs j d }

/-- The first failing piece sets STATUS, and the rest of the descriptor is skipped (R427). -/
def DmaDesc.fail (d : DmaDesc) (st : Nat) : DmaDesc :=
  { d with todo := [], status := if d.status = 0 then st else d.status }

/-- The next piece of a descriptor is issued (R427): a WRITE with the host's data, or a READ. -/
def State.dmaIssue (s : State) (x j i : Nat) (d : DmaDesc) (host : Option (List Byte)) (a n : Nat)
    (rest : List (Nat × Nat)) : State :=
  match s.localStatus false a n with
  | some st => s.setDesc x j (d.fail (dsStatus st))
  | none =>
    if dsToHost d.word = false ∧ host = none then
      (s.inc F.PCIE_ERR_HOST_ERR x).setDesc x j (d.fail 6)
    else
      let s1 := (s.setDesc x j { d with todo := rest, open_ := d.open_ ++ [⟨a, n, i, s.time⟩] }).setFtag (engOf x) i
        { s.ftag (engOf x) i with busy := true }
      s1.inject (pcieId x) (s.floorHdr (engOf x) a (targetId (s.haulTarget a)) n i clsReq (!dsToHost d.word))
        (if dsToHost d.word then [] else flitsOfBytes a ((host.getD []).take n))

/-- Memory writes of at most 512 bytes each (R427). -/
def State.dmaHostWrites (s : State) (x : Nat) : Nat → Nat → List Byte → State
  | 0, _, _ => s
  | fuel + 1, a, bs =>
    if bs.isEmpty then s
    else (s.emit (.hostWrite x a (bs.take 512))).dmaHostWrites x fuel (a + 512) (bs.drop 512)

/-- A piece's haul response (R427). -/
def State.dmaPieceEnd (s : State) (x j : Nat) (d : DmaDesc) (p : DmaPiece) (st : Nat) (flits : List (Nat × Bool)) :
    State :=
  let d1 := { d with open_ := d.open_.erase p }
  let s1 := s.setFtag (engOf x) p.ht { s.ftag (engOf x) p.ht with busy := false }
  if st = stOk then
    let s2 := s1.setDesc x j d1
    if dsToHost d.word = true ∧ d.status = 0 then
      s2.dmaHostWrites x 9 (dsHost d.word + (p.addr - dsHaul d.word)) (leBytes p.len (rangeOfFlits p.addr p.len flits))
    else s2
  else s1.setDesc x j (d1.fail (dsStatus st))

/-- The descriptor and piece that hold TAG i of port x. -/
def State.pieceOf (s : State) (x i : Nat) : Option (Nat × DmaDesc × DmaPiece) :=
  (upTo (s.dmaEng x).descs.length).findSome? fun j =>
    match (s.dmaEng x).descs[j]? with
    | none => none
    | some d => match d.open_.find? fun (p : DmaPiece) => p.ht == i with
      | none => none
      | some p => some (j, d, p)

/-- A descriptor has started: a piece of it has been issued, or nothing of it is left to move. -/
def DmaDesc.started (d : DmaDesc) : Bool := d.todo.isEmpty || !d.open_.isEmpty || d.todo.length != (descPieces d.word).length

/-- The descriptor at position j may issue: descriptors start in ring order, and one with FENCE after every earlier one has
completed (R426, R427). -/
def State.descTurn (s : State) (x j : Nat) (d : DmaDesc) : Bool :=
  let earlier := (s.dmaEng x).descs.take j
  if dsFence d.word then earlier.all DmaDesc.whole else earlier.all DmaDesc.started

/-- DMA_PIECE_COMPLETE (R427): a piece is issued, subject to FENCE, or its response arrives. -/
def execDmaPieceComplete (x : Nat) (e : DmaEv) (s : State) : Host.Outcome State Fault Refusal :=
  .next (if x < 2 ∧ s.powered (dPcie x) = true ∧ s.floorReset = 0 then
    match e with
    | .issue j i host => match (s.dmaEng x).descs[j]? with
      | none => s
      | some d => match d.todo with
        | [] => s
        | (a, n) :: rest =>
          if s.ftagFree (engOf x) i && !s.floorHolds x && s.floorRoom (engOf x) (!dsToHost d.word) a n
              && s.injReady (pcieId x) clsReq && s.descTurn x j d then
            s.dmaIssue x j i d host a n rest
          else s
    | .answer hdr flits =>
      let i := hTag hdr % 2 ^ 9
      if !rspSound hdr flits then s
      else match s.pieceOf x i with
      | none => s.floorLate x
      | some (j, d, p) =>
        if (s.ftag (engOf x) i).gen = hTag hdr / 2 ^ 9 then s.dmaPieceEnd x j d p (rspStatus hdr flits) flits else s.floorLate x
  else s)

/-- DMA_WRITEBACK (R427): the oldest descriptor, once whole, is written back; CONS advances; DESC_DONE or DESC_ERR. -/
def execDmaWriteback (x : Nat) (s : State) : Host.Outcome State Fault Refusal :=
  .next (match (s.dmaEng x).descs with
    | [] => s
    | d :: rest =>
      if x < 2 ∧ d.whole = true ∧ s.floorReset = 0 then
        let base := s.get F.PCIE_DMA_BASE_LO_BASE_LO x * 2 ^ 12 + s.get F.PCIE_DMA_BASE_HI_BASE_HI x * 2 ^ 32
        let w := putBits (putBits (bitsOf d.word 192 64) 0 8 d.status) 31 1 1
        let s1 := (s.emit (.hostWrite x (base + 32 * d.idx + 24) (leBytes 8 w))).setDmaEng x
          { s.dmaEng x with descs := rest }
        let s2 := s1.set F.PCIE_DMA_CONS_CONS x ((s.get F.PCIE_DMA_CONS_CONS x + 1) % s.dmaRingSize x)
        if d.status ≠ 0 then s2.dmaEvt x 1 else if dsIrq d.word then s2.dmaEvt x 0 else s2
      else s)

/-! ### Timeouts (R352 to R354) -/

/-- The time at which a request injected, or a TAG taken out of use, at time t is over: TMO_US of the port's column later
(R352, R353). -/
def State.floorDue (s : State) (x t : Nat) : Bool := decide (t + 1000 * s.get F.HN_TMO_TMO_US (3 * x) ≤ s.time)

/-- TAG i of requester q of port x goes out of use for one further TMO_US, and the expiry is counted (R353). -/
def State.tagExpired (s : State) (x q i : Nat) : State :=
  (s.inc F.HN_TOCNT_COUNT (3 * x)).setFtag q i { s.ftag q i with busy := false, since := some s.time }

/-- A BAR access of port x expires: it ends with TIMEOUT. -/
def State.barTimeout (s : State) (x i : Nat) : State :=
  match s.pcie.bars.find? fun r => r.port == x && r.ht == i with
  | some r => match r.inj with
    | none => s
    | some t => if s.floorDue x t then ((s.barFail r).barClose r).tagExpired x x i else s
  | none => s

/-- A piece of the engine expires: it ends with TIMEOUT. -/
def State.pieceTimeout (s : State) (x i : Nat) : State :=
  match s.pieceOf x i with
  | some (j, d, p) => if s.floorDue x p.inj then (s.dmaPieceEnd x j d p stTimeout []).tagExpired x (engOf x) i else s
  | none => s

/-- REQUEST_TIMEOUT (R353). -/
def execRequestTimeout (q : Requester) (s : State) : Host.Outcome State Fault Refusal :=
  .next (match q with
    | .bench b p i => if s.portRuns b p then s.portTimeout b p i else s
    | .pcie x i => if x < 2 ∧ s.powered (dPcie x) = true ∧ s.floorReset = 0 then s.barTimeout x i else s
    | .dma x i => if x < 2 ∧ s.powered (dPcie x) = true ∧ s.floorReset = 0 then s.pieceTimeout x i else s)

/-- TAG i of requester q of port x returns to the pool with its next generation. -/
def State.tagBack (s : State) (x q i : Nat) : State :=
  match (s.ftag q i).since with
  | none => s
  | some t =>
    if x < 2 ∧ s.floorDue x t = true then
      s.setFtag q i { s.ftag q i with gen := ((s.ftag q i).gen + 1) % 8, since := none }
    else s

/-- TAG_RETURN (R353): a TAG returns to the pool with its next generation. -/
def execTagReturn (q : Requester) (s : State) : Host.Outcome State Fault Refusal :=
  .next (match q with
    | .bench b p i => s.portTagReturn b p i
    | .pcie x i => s.tagBack x x i
    | .dma x i => s.tagBack x (engOf x) i)

/-! ### Resets -/

/-- PERST of port x, and its power-down: its configuration spaces, BAR accesses, TAGs and DMA engine (R624, R501). -/
def State.pcieReset (s : State) (x : Nat) : State :=
  let s1 := if s.flag F.PCIE_LINK_STAT_UP x then s.linkDown x else s.dmaEnd x
  { s1 with pcie := { s1.pcie with
      cfg := mapKeep (fun k => k / 65 != x) s1.pcie.cfg
      msix := mapKeep (fun k => k / 8 / 65 != x) s1.pcie.msix
      bars := s1.pcie.bars.filter fun (r : BarReq) => r.port != x
      ftags := mapKeep (fun k => k / 512 % 2 != x) s1.pcie.ftags
      dma := mapKeep (fun k => k != x) s1.pcie.dma } }

end Sys2Proof.Machine
end

