-- ==== Sys2Proof/Machine/Clocks.lean ====
section
/-!
DEFINITION. Clocks (R467 to R488): oscillators and device time, PLL lock, monitors and verdicts, fallback and return
through the divider ramp, PHY twins, fabric nodes, bench clock dividers and clock outputs.
-/

namespace Sys2Proof.Machine

def State.dom (s : State) (m : Nat) : ClkDom := mapGet (fun _ => {}) s.clocks.doms m
def State.setDom (s : State) (m : Nat) (x : ClkDom) : State :=
  { s with clocks := { s.clocks with doms := mapSet (fun _ => {}) s.clocks.doms m x } }

/-- The power domain of the clock that monitor m watches (R467, R494). -/
def monDomain (m : Nat) : Nat :=
  if m < 3 then 0 else if m < 44 then 3 else if m < 52 then dEth (m - 44) else dPcie (m - 52)

/-- A PLL with a standby twin (R479). -/
def hasTwin (m : Nat) : Bool := decide (40 ≤ m ∧ m < 54)

/-- Monitor m watches a PLL on REFCLK_SYS (R467). -/
def onRefSys (m : Nat) : Bool := decide (3 ≤ m ∧ m < 44)

/-- The expected count of a window (R473). -/
def State.monExpect (s : State) (m : Nat) : Nat :=
  if m = 0 then 1024 else if m = 1 then 8192 else if m = 3 then 2560 else if m < 8 then 10240
  else if m < 40 then 32 * s.get F.CLK_FAB_MULT (m - 8)
  else if m < 44 then (match s.ddrRate (m - 40) with | 0 => 3072 | 1 => 3584 | _ => 4096)
  else if m < 52 then 8000 else 5120

/-- A count within E ± E ÷ 16 (R473). -/
def inBand (e cnt : Nat) : Bool := decide (e - e / 16 ≤ cnt ∧ cnt ≤ e + e / 16)

/-! ### Oscillators, arming and device time -/

/-- Oscillator 0 is IOSC_A, 1 IOSC_B, 2 REFCLK_SYS. -/
def oscStableFld (o : Nat) : Fld :=
  if o = 0 then F.CLK_OSC_STAT_A_STABLE else if o = 1 then F.CLK_OSC_STAT_B_STABLE else F.CLK_OSC_STAT_REF_STABLE
def oscFailFld (o : Nat) : Fld :=
  if o = 0 then F.CLK_OSC_STAT_A_FAIL else if o = 1 then F.CLK_OSC_STAT_B_FAIL else F.CLK_OSC_STAT_REF_FAIL
def State.oscStable (s : State) (o : Nat) : Bool := s.flag (oscStableFld o) 0

/-- The source of device time: REFCLK_SYS while it is stable and not failed, else IOSC_A, or IOSC_B while that is failed
(R482). -/
def State.setTimeSource (s : State) : State :=
  s.set F.CLK_OSC_STAT_DT_SRC 0
    (if s.oscStable 2 then 0 else if s.flag F.CLK_OSC_STAT_A_FAIL 0 then 2 else 1)

/-- The trim of an internal oscillator is loaded; REFCLK_SYS has none. -/
def State.oscTrim (s : State) (o : Nat) : Bool :=
  if o = 0 then s.flag F.CLK_OSC_STAT_A_TRIM 0 else if o = 1 then s.flag F.CLK_OSC_STAT_B_TRIM 0 else true

/-- Whether monitor m can be armed (R474): its reference and its clock are stable or locked, and their trims loaded. -/
def State.monReady (s : State) (m : Nat) : Bool :=
  let ok := fun o => s.oscStable o && s.oscTrim o
  if m = 0 then ok 0 && ok 1
  else if m = 1 then ok 1 && ok 2
  else if m = 2 then false
  else s.flag F.CLK_MON_LOCKED m && (if s.flag F.CLK_OSC_STAT_A_FAIL 0 then ok 1 else ok 0)

/-- Monitors that can be armed are armed. The first window of monitor 1 begins then, and windows of monitor 0 that ended
before lie in none of its verdicts (R473, R476). -/
def State.armMonitors (s : State) : State :=
  let s0 := if s.monReady 1 && !s.flag F.CLK_MON_ARMED 1 then { s with clocks := { s.clocks with mon0Bad := false } } else s
  (upTo 54).foldl (fun s m => if s.monReady m then s.set F.CLK_MON_ARMED m 1 else s) s0

/-! ### Fallback (R472, R475, R477) -/

/-- The oscillator that a domain falls back to, when it is stable; else the other one; none when neither is (R475,
R477). -/
def State.fallbackOsc (s : State) (m : Nat) : Nat × Option Nat :=
  let pref := if s.flag F.CLK_MON_FB_PREF m && !s.flag F.CLK_OSC_STAT_B_FAIL 0 then 1 else 0
  (pref, if s.oscStable pref then some pref else if s.oscStable (1 - pref) then some (1 - pref) else none)

/-- The domain of monitor m runs from oscillator o at ÷16 and ramps up (R472). The PLL's monitor counts on. -/
def State.runOn (s : State) (m o : Nat) : State :=
  let s1 := ((s.set F.CLK_MON_ON_FALLBACK m 1).set F.CLK_MON_FB_OSC m o).set F.CLK_MON_GATED m 0
  s1.setDom m { s1.dom m with ramp := some ⟨false, 16, false⟩ }

/-- The domain runs from oscillator o, which is logged where it is not the preferred one (R477). -/
def State.runOther (s : State) (m pref o : Nat) : State :=
  if o = pref then s.runOn m o else (s.runOn m o).wlog 0x0702 176 sevAlert m

/-- The domain of monitor m goes to its fallback, or its output is held low until an oscillator is stable (R477). -/
def State.toFallback (s : State) (m : Nat) : State :=
  match s.fallbackOsc m with
  | (pref, some o) => s.runOther m pref o
  | (_, none) =>
    let s1 := (s.set F.CLK_MON_ON_FALLBACK m 1).set F.CLK_MON_GATED m 1
    (s1.setDom m { s1.dom m with ramp := none }).wlog 0x0703 176 sevAlert m

/-- A return of the domain to its PLL is in progress (R480). -/
def State.returning (s : State) (m : Nat) : Bool :=
  match (s.dom m).ramp with
  | some r => r.toPll
  | none => false

/-- TRIPPED, the non-maskable event and the log entry of a trip (R475). -/
def State.tripEvent (s : State) (m : Nat) : State :=
  ((s.set F.CLK_MON_TRIPPED m 1).alertEvent).wlog 0x0701 176 sevAlert (m + s.get F.CLK_MON_LAST_COUNT m * 2 ^ 12)

/-- The PHY behind monitor m loses its clock with no standby ready (R478). -/
def State.phyLost (s : State) (m : Nat) : State :=
  if 44 ≤ m ∧ m < 52 then s.octetLol (m - 44)
  else if 52 ≤ m then s.linkDown (m - 52)
  else if 40 ≤ m then s.ddrClockLost (m - 40) false
  else s

/-- The PHY clock moves to the ready standby twin (R479). -/
def State.twinMove (s : State) (m : Nat) : State :=
  let t := 1 - s.get F.CLK_MON_TWIN m
  let s1 := ((s.tripEvent m).set F.CLK_MON_TWIN m t).set F.CLK_MON_STBY_OK m 0
  let s2 := ((s1.set F.CLK_MON_LOCKED m 1).setDom m { s1.dom m with good := 0 }).wlog 0x0704 176 sevAlert (m + t * 2 ^ 8)
  if 44 ≤ m ∧ m < 52 then s2.octetBlank (m - 44)
  else if 40 ≤ m ∧ m < 44 then s2.ddrClockLost (m - 40) true
  else s2

/-- A trip of PLL monitor m (R475, R478, R479, R481): on its fallback with no return in progress it is no new trip. A trip
in a return stops that and goes to the fallback, whether or not a twin stands ready. The count of in-band windows starts
again. -/
def State.monTrip (s0 : State) (m : Nat) : State :=
  let s := s0.setDom m { s0.dom m with good := 0 }
  if s.flag F.CLK_MON_ON_FALLBACK m && !s.returning m then s
  else if hasTwin m && s.flag F.CLK_MON_STBY_OK m && !s.returning m then s.twinMove m
  else ((s.tripEvent m).toFallback m).phyLost m

/-! ### Stability and lock (R468, R469) -/

/-- Domains that are held low go to an oscillator that is now stable (R477). -/
def State.ungate (s : State) (o : Nat) : State :=
  (upTo 54).foldl (fun s m => if s.flag F.CLK_MON_GATED m then s.runOther m (s.fallbackOsc m).1 o else s) s

/-- An oscillator is declared stable: its trim, if it has one, is loaded from OTP (R467, R468). -/
def State.oscGood (s : State) (o : Nat) : State :=
  let s1 := s.set (oscStableFld o) 0 1
  let s2 := if o = 0 then (s1.set F.CLK_OSC_STAT_A_TRIM 0 1).ungate 0
    else if o = 1 then (s1.set F.CLK_OSC_STAT_B_TRIM 0 1).ungate 1 else s1
  let s3 := if o < 2 then s2.set F.CLK_MON_LOCKED o 1 else s2
  s3.setTimeSource.armMonitors

/-- OSC_STABLE (R468): oscillator o has counted 8,192 of its own cycles: 0 IOSC_A, 1 IOSC_B, 2 REFCLK_SYS, 3 and 4
REFCLK_PCIE_A and B, 5 + o REFCLK_ETH_o. The last ten have no monitor that could declare them failed. -/
def execOscStable (o : Nat) (s : State) : Host.Outcome State Fault Refusal :=
  .next (if o < 3 then (if s.oscStable o = false ∧ s.flag (oscFailFld o) 0 = false then s.oscGood o else s)
    else if o < 13 then
      { s with clocks := { s.clocks with extStable := mapSet (fun _ => false) s.clocks.extStable (o - 3) true } }
    else s)

/-- The reference of the PLL behind monitor m is stable (R467, R468). -/
def State.refStable (s : State) (m : Nat) : Bool :=
  if onRefSys m then s.oscStable 2
  else mapGet (fun _ => false) s.clocks.extStable (if m < 52 then m - 44 + 2 else m - 52)

/-- Whether the PLL behind monitor m is powered and has its reference. -/
def State.pllFed (s : State) (m : Nat) : Bool :=
  decide (3 ≤ m ∧ m < 54) && (s.powered (monDomain m) || s.get F.PWR_DOM_STATE (monDomain m) == 2) && s.refStable m

/-- PLL_LOCK (R469, R479): twin `t` of the PLL behind monitor m has locked; twin 0 where it has no twin. -/
def execPllLock (m t : Nat) (s : State) : Host.Outcome State Fault Refusal :=
  .next (if s.pllFed m then
    if hasTwin m && t != s.get F.CLK_MON_TWIN m then s.set F.CLK_MON_STBY_OK m 1
    else if s.flag F.CLK_MON_LOCKED m then s
    else (s.set F.CLK_MON_LOCKED m 1).armMonitors
  else s)

/-- A lock detector drops (R469): a standby is no longer ready; the PLL in use trips once its monitor is armed. -/
def State.lockDrop (s : State) (m t : Nat) : State :=
  if hasTwin m && t != s.get F.CLK_MON_TWIN m then s.set F.CLK_MON_STBY_OK m 0
  else if s.flag F.CLK_MON_LOCKED m then
    let s1 := s.set F.CLK_MON_LOCKED m 0
    if s1.flag F.CLK_MON_ARMED m then (s1.setDom m { s1.dom m with dropAt := some s.time }).monTrip m else s1
  else s

/-- PLL_LOCK_DROP (R469). -/
def execPllLockDrop (m t : Nat) (s : State) : Host.Outcome State Fault Refusal :=
  .next (if 3 ≤ m ∧ m < 54 then s.lockDrop m t else s)

/-! ### Windows and verdicts (R473, R476) -/

/-- Domains on a failed oscillator move to the other (R476). -/
def State.leaveOsc (s : State) (o : Nat) : State :=
  (upTo 54).foldl (fun s m =>
    if 3 ≤ m ∧ s.flag F.CLK_MON_ON_FALLBACK m = true ∧ s.flag F.CLK_MON_GATED m = false ∧ s.get F.CLK_MON_FB_OSC m = o then
      s.toFallback m
    else s) s

/-- A source is declared failed (R476). With REFCLK_SYS every PLL on it loses lock, both twins of a pair (log entry 55). -/
def State.oscFail (s : State) (o : Nat) : State :=
  let s1 := ((s.set (oscFailFld o) 0 1).set (oscStableFld o) 0 0).setTimeSource
  if o < 2 then (s1.set F.CLK_MON_LOCKED o 0).leaveOsc o
  else (upTo 54).foldl (fun s m =>
    if onRefSys m then (s.set F.CLK_MON_STBY_OK m 0).lockDrop m (s.get F.CLK_MON_TWIN m) else s) s1

/-- A verdict of R476 fails source `bad`, or none; the others are cleared once more. A failed source is restored by 16
clearing verdicts in a row. -/
def State.countClear (s : State) (bad : Option Nat) : State :=
  let upd := fun (o n : Nat) => if bad = some o then 0 else min 16 (n + 1)
  let c := s.clocks
  let s1 := { s with clocks := { c with clearA := upd 0 c.clearA, clearB := upd 1 c.clearB, clearR := upd 2 c.clearR } }
  let back := fun (s : State) (o n : Nat) =>
    if n = 16 ∧ s.flag (oscFailFld o) 0 = true then (s.set (oscFailFld o) 0 0).oscGood o else s
  back (back (back s1 0 s1.clocks.clearA) 1 s1.clocks.clearB) 2 s1.clocks.clearR

/-- The verdict at the end of a window of monitor 1 (R476). -/
def State.oscVerdict (s : State) (out1 : Bool) : State :=
  let out0 := s.clocks.mon0Bad
  let s0 := { s with clocks := { s.clocks with mon0Bad := false } }
  let bad := match out0, out1 with
    | false, false => none
    | true, false => some 0
    | true, true => some 1
    | false, true => some 2
  let s1 := s0.countClear bad
  match bad with
  | none => s1
  | some o =>
    let s2 := if out0 then s1.set F.CLK_MON_TRIPPED 0 1 else s1
    (s2.tripEvent (if o = 0 then 0 else 1)).oscFail o

/-- A window of PLL monitor m ends (R473, R481); in-band windows count with the PLL locked (R480). One that ends out of band
on the edge at which the lock detector dropped raises no second trip: a window of that twin that ends at the device time of
the drop (log entry 55). -/
def State.pllWindow (s : State) (m cnt : Nat) : State :=
  let ok := inBand (s.monExpect m) cnt
  let x := s.dom m
  if ok then s.setDom m { x with good := if s.flag F.CLK_MON_LOCKED m then min 16 (x.good + 1) else 0, lastIn := true }
  else
    let s1 := s.setDom m { x with good := 0, lastIn := false }
    if x.dropAt = some s.time then s1 else s1.monTrip m

/-- MONITOR_WINDOW_END (R473): a window of an armed monitor ends with its count. -/
def execMonitorWindowEnd (m cnt : Nat) (s : State) : Host.Outcome State Fault Refusal :=
  .next (if m < 54 ∧ s.flag F.CLK_MON_ARMED m = true then
    let s1 := s.set F.CLK_MON_LAST_COUNT m (min (2 ^ 20 - 1) cnt)
    let out := !inBand (s.monExpect m) cnt
    if m = 0 then { s1 with clocks := { s1.clocks with mon0Bad := s1.clocks.mon0Bad || out } }
    else if m = 1 then s1.oscVerdict out
    else s1.pllWindow m cnt
  else s)

/-! ### Ramps and returns (R472, R480) -/

/-- The output reaches the new source at ÷16: on the PLL, ON_FALLBACK clears, and DDR channels leave self-refresh
(R480, R642). -/
def State.reachSource (s : State) (m : Nat) (r : ClkRamp) : State :=
  let s1 := s.setDom m { s.dom m with ramp := some { r with down := false, div := 16 } }
  if r.toPll then
    let s2 := (s1.set F.CLK_MON_ON_FALLBACK m 0).set F.CLK_MON_GATED m 0
    if 40 ≤ m ∧ m < 44 then
      [2 * (m - 40), 2 * (m - 40) + 1].foldl (fun s ch =>
        if s.ddrSt ch = ddSelfref ∨ (s.chan ch).noClk = true then s.ddrCheck ch else s) s2
    else s2
  else s1

/-- RAMP_DWELL_END (R472). -/
def execRampDwellEnd (m : Nat) (s : State) : Host.Outcome State Fault Refusal :=
  .next (match (s.dom m).ramp with
    | none => s
    | some r =>
      if r.down then
        if r.div < 16 then s.setDom m { s.dom m with ramp := some { r with div := 2 * r.div } } else s.reachSource m r
      else s.setDom m { s.dom m with ramp := if r.div ≤ 2 then none else some { r with div := r.div / 2 } })

/-- A commanded return starts with the down-ramp, from the divider of a ramp in progress (R472, R480). A domain that is
held low has no source to divide. -/
def State.startReturn (s : State) (m : Nat) : State :=
  let from_ := match (s.dom m).ramp with
    | some r => max 2 r.div
    | none => if s.flag F.CLK_MON_GATED m then 16 else 2
  s.setDom m { s.dom m with ramp := some ⟨true, from_, true⟩ }

/-- RETURN written by the host (R480). -/
def State.returnWrite (s : State) (m : Nat) : State :=
  if 3 ≤ m ∧ s.flag F.CLK_MON_ON_FALLBACK m = true ∧ s.returning m = false ∧ s.flag F.CLK_MON_LOCKED m = true
      ∧ (s.dom m).lastIn = true then s.startReturn m else s

/-- ALERT_N is held for a cause that lasts: a TRIPPED bit (R475), a rail or power excess (R569). -/
def State.alertHeld (s : State) : Bool :=
  (upTo 54).any (fun m => s.flag F.CLK_MON_TRIPPED m)
    || s.thermal.excess.any fun e => decide (3 ≤ e.2)

/-- A CLK_MON_m write (R486); ALERT_N is released when the last TRIPPED bit clears and nothing else holds it (R475). -/
def State.clkMonWrite (s : State) (m : Nat) (v : Word) : State :=
  let s1 := if m < 3 then s.w1cWrite .CLK_MON m v else s.plainWrite .CLK_MON m v
  let s2 := if s.flag F.CLK_MON_TRIPPED m ∧ s1.alertHeld = false then s1.emit (.alert false) else s1
  if fldOf F.CLK_MON_RETURN v = 1 then s2.returnWrite m else s2

/-- CLK_RETURN (R480): a write of CLK_MON_m with RETURN, or, with no source, the automatic return after 16 in-band
windows. -/
def execClkReturn (m : Nat) (w : Option (Src × Word)) (s : State) : Host.Outcome State Fault Refusal :=
  .next (match w with
    | some (src, v) => if s.mayWrite src .CLK_MON m then s.clkMonWrite m v else s
    | none =>
      if 3 ≤ m ∧ m < 54 ∧ s.flag F.CLK_MON_AUTO_RET m = true ∧ s.flag F.CLK_MON_ON_FALLBACK m = true
          ∧ s.returning m = false ∧ s.flag F.CLK_MON_LOCKED m = true ∧ 16 ≤ (s.dom m).good then s.startReturn m else s)

/-! ### Fabric nodes and bench clocks (R470, R471) -/

/-- Whether bench clock j of bench b draws from node k of its column (R470). -/
def State.drawsFrom (s : State) (b j k : Nat) : Bool :=
  s.benchUp b && (j == 0 || s.online b) && bitOf (s.clkByte b j) 7 == 0 && bitsOf (s.clkByte b j) 4 3 == k

/-- IN_USE of node n = 8c + k (R487). -/
def State.nodeInUse (s : State) (n : Nat) : Bool :=
  (upTo 16).any fun i => (upTo 4).any fun j => s.drawsFrom (16 * (n / 8) + i) j (n % 8)

/-- The node's nominal frequency in units of 6.25 MHz (R470, R471). -/
def State.nodeFreq (s : State) (n : Nat) : Nat :=
  if s.flag F.CLK_MON_ON_FALLBACK (8 + n) then 32 else s.get F.CLK_FAB_MULT n

/-- The hard-path limit of a band, in units of 6.25 MHz (R69). -/
def bandLimit : Nat → Nat
  | 0 => 152 | 1 => 160 | 2 => 160 | 3 => 144 | _ => 128

/-- The effective divider of bench clock j of bench b (R471). -/
def State.effDiv (s : State) (b j : Nat) : Nat :=
  let c := benchCol b
  let f := s.nodeFreq (8 * c + bitsOf (s.clkByte b j) 4 3)
  let lim := bandLimit (s.get F.THM_COL_BAND c)
  max (bitsOf (s.clkByte b j) 0 4 + 1) ((f + lim - 1) / lim)

def State.clkLag (s : State) (b j : Nat) : Nat := mapGet (fun _ => 0) s.clocks.lag (4 * b + j)
def State.setClkLag (s : State) (b j d : Nat) : State :=
  { s with clocks := { s.clocks with lag := mapSet (fun _ => 0) s.clocks.lag (4 * b + j) d } }

/-- The divider at which bench clock j of bench b runs. -/
def State.benchDiv (s : State) (b j : Nat) : Nat := max (s.effDiv b j) (s.clkLag b j)

/-- Column c changes to another band (R471): dividers that must rise do so at once; those that fall keep their present
value and step down. -/
def State.bandDividers (s : State) (c band : Nat) : State :=
  let s1 := s.set F.THM_COL_BAND c band
  (upTo 64).foldl (fun t i =>
    let b := 16 * c + i / 4
    let j := i % 4
    let old := s.benchDiv b j
    t.setClkLag b j (if s1.effDiv b j < old then old else 0)) s1

/-- DIVIDER_STEP (R471): one step down, to the larger of the effective divider and half the present one. -/
def execDividerStep (b j : Nat) (s : State) : Host.Outcome State Fault Refusal :=
  .next (if b < 64 ∧ j < 4 ∧ s.effDiv b j < s.clkLag b j then
    let d := max (s.effDiv b j) ((s.clkLag b j + 1) / 2)
    s.setClkLag b j (if d = s.effDiv b j then 0 else d)
  else s)

/-- A CLK_FAB_c_k write, n = 8c + k (R470). -/
def State.clkFabWrite (s : State) (n : Nat) (v : Word) : State :=
  let m := 8 + n
  let mult := fldOf F.CLK_FAB_MULT v
  let s1 := s.w1cWrite .CLK_FAB n v
  if mult < 64 ∨ 320 < mult ∨ (s.nodeInUse n = true ∧ s.flag F.CLK_MON_ON_FALLBACK m = false) then
    s1.set F.CLK_FAB_CFG_ERR n 1
  else
    let s2 := ((s1.set F.CLK_FAB_MULT n mult).set F.CLK_MON_ARMED m 0).set F.CLK_MON_LOCKED m 0
    let s3 := s2.setDom m { s2.dom m with good := 0, lastIn := false }
    if s.flag F.CLK_MON_ON_FALLBACK m && s.returning m then
      -- an output that is held low has no source to go back to (R477)
      if s.flag F.CLK_MON_GATED m then s3.setDom m { s3.dom m with ramp := none } else s3.runOn m (s.get F.CLK_MON_FB_OSC m)
    else s3

/-- CLK_FAB_WRITE (R470). -/
def execClkFabWrite (src : Src) (n : Nat) (v : Word) (s : State) : Host.Outcome State Fault Refusal :=
  .next (if s.mayWrite src .CLK_FAB n then s.clkFabWrite n v else s)

/-! ### Device time and clock outputs (R482, R483) -/

/-- DEVICE_TIME_TICK (R482): a cycle of the source of device time, 40 ns of REFCLK_SYS or 5 ns of an oscillator. The haul
clock cycles in it are what counter code 5 of a probe and the tails of hoppers at haul ports count (R135, R359). -/
def execDeviceTimeTick (s : State) : Host.Outcome State Fault Refusal :=
  .next (if s.powered 0 then
    let ns := if s.get F.CLK_OSC_STAT_DT_SRC 0 = 0 then 40 else 5
    { (((s.probeCycles ns).tailTime ns).traceDrain ns).haulPass ns with time := (s.time + ns) % 2 ^ 64 }
  else s)

/-- The nominal frequency of a catalogued clock as a fraction of 6.25 MHz units (R467, R483). -/
def State.catalogFreq (s : State) (code : Nat) : Option (Nat × Nat) :=
  if code < 2 then some (32, 1)
  else if code = 2 then some (4, 1)
  else if code = 3 then some (80, 1)
  else if code < 8 then some (320, 1)
  else if code < 40 then some (s.get F.CLK_FAB_MULT (code - 8), 1)
  else if code < 44 then some (match s.ddrRate (code - 40) with | 0 => 96 | 1 => 112 | _ => 128, 1)
  else if code < 52 then some (250, 1)
  else if code < 54 then some (160, 1)
  else if 0x100 ≤ code ∧ code < 0x200 then
    let b := (code - 0x100) / 4
    let j := code % 4
    some (s.nodeFreq (8 * benchCol b + bitsOf (s.clkByte b j) 4 3), s.effDiv b j)
  else none

/-- A CLK_OUT_i write (R483). -/
def State.clkOutWrite (s : State) (i src : Nat) (v : Word) : State :=
  let s1 := s.w1cWrite .CLK_OUT i v
  let k := fldOf F.CLK_OUT_K_M1 v + 1
  let bad := match s.catalogFreq (fldOf F.CLK_OUT_SEL v) with
    | none => true
    | some (n, d) => decide (40 * (2 ^ k * d) < n)
  let denied := fldOf F.CLK_OUT_EN v == 1 && bitOf (s.hluEff 17) 1 == 0
  if bad then s1.set F.CLK_OUT_CFG_ERR i 1
  else if denied then (s1.set F.CLK_OUT_CFG_ERR i 1).hluRefuse 17 src
  else ((s1.set F.CLK_OUT_EN i (fldOf F.CLK_OUT_EN v)).set F.CLK_OUT_K_M1 i (fldOf F.CLK_OUT_K_M1 v)).set
    F.CLK_OUT_SEL i (fldOf F.CLK_OUT_SEL v)

/-- CLKOUT_WRITE (R483). -/
def execClkoutWrite (src : Src) (i : Nat) (v : Word) (s : State) : Host.Outcome State Fault Refusal :=
  .next (if s.mayWrite src .CLK_OUT i then s.clkOutWrite i (srcCode src) v else s)

/-- The clock sources of domain d lose power with it: lock, arming, twins and fallback (R467, R501). -/
def State.pllsOff (s : State) (d : Nat) : State :=
  (upTo 54).foldl (fun s m =>
    if 3 ≤ m ∧ monDomain m = d then
      let w := s.reg .CLK_MON m &&& 0x460FFFFF#32
      (s.setReg .CLK_MON m w).setDom m {}
    else s) s

end Sys2Proof.Machine
end

