-- ==== Sys2Proof/Machine/Repair.lean ====
section
/-!
DEFINITION. The repair ladder (R369 to R394) and the delay monitors (R72 to R78): bore tests, spares, folds, column
shifts, degraded benches, link retraining, router retirement and detour tables.
-/

namespace Sys2Proof.Machine

/-! ### Kinds of groups (R375) -/

inductive GroupKind where
  | flow
  | static
  | live
  deriving DecidableEq, Repr

def groupKind (g : Nat) : GroupKind := if liveGroup g then .live else if staticGroup g then .static else .flow

/-- Whether a group carries traffic: its trim is acquired, and a bench's group needs its bench powered (R34). A lost
periphery group is out of service for good (R379). -/
def State.groupRuns (s : State) (g : Nat) : Bool :=
  gidValid g && (s.group g).acqDone && (gidPeriph g == 1 || s.benchUp (gidBench g)) && s.groupFold g != 3 && !s.groupHeld g
    && !(gidPeriph g == 1 && (s.group g).lost)

/-! ### Spares and folds (R371, R374, R378, R379) -/

/-- The counters of CAL_REPAIR_CNT (R393). -/
def State.repairCount (s : State) (g : Nat) (f : Fld) : State := s.inc f (gidCol g)

/-- The pause of a live group takes its bench offline (R375). -/
def State.livePause (s : State) (g : Nat) : State :=
  let b := gidBench g
  let l := s.leaderOf b
  if groupKind g = .live ∧ s.online b = true then
    let s1 := { s with repair := { s.repair with
      liveBack := mapSet (fun _ => none) s.repair.liveBack l (some (s.get F.BENCH_PLANE_STAT_ACTIVE l)) } }
    s1.deviceCmd b .offline 0 false false false true
  else s

/-- The spare that carries data bore i, if one does (R38). -/
def spareOfBore (x : Group) (i : Nat) : Option Nat :=
  (upTo 4).find? fun n => spareInUse (spareByte x n) && !spareFailed (spareByte x n) && spareByte x n % 64 == i

/-- A hard data bore moves to idle spare n while the group is paused; a spare that carried it is marked failed (R374). -/
def State.spareSwap (s : State) (g i n : Nat) : State :=
  let x := s.group g
  let l := match spareOfBore x i with
    | some m => x.spares.set m (2 ^ 6 + i)
    | none => x.spares
  let s1 := s.setGroup g { x with spares := l.set n (2 ^ 7 + i), paused := true }
  (((s1.repairCount g F.CAL_REPAIR_CNT_SWAPS).spoilAdd 1 i g).repairEvent 0 sevNotice g).livePause g

/-- What a lost group causes (R379). The function that a periphery group carries goes out of service with the group
itself, which carries nothing any more (`groupRuns`); the spec names no function for a periphery group, so that no register of
one changes (log entry 70). -/
def State.lostAction (s : State) (g : Nat) : State :=
  if gidPeriph g = 1 then s
  else if gidIface g = 1 ∧ gidIndex g < 261888 then s.columnFault (gidBench g) (gidIndex g / 248 / 32)
  else s.degrade (gidBench g) 2

/-- A group is lost (R379): the loss of a periphery group is FATAL, since its function goes out of service. -/
def State.groupLost (s : State) (g : Nat) : State :=
  if (s.group g).lost then s
  else
    let s1 := s.setGroup g { s.group g with lost := true }
    (((s1.repairCount g F.CAL_REPAIR_CNT_LOST).spoilAdd 3 0 g).repairEvent 4
      (if gidPeriph g = 1 then sevFatal else sevAlert) g).lostAction g

/-- A hard bore in a group with no idle spare (R378, R379). -/
def State.foldGroup (s : State) (g : Nat) : State :=
  let q := gidPartner g
  let x := s.group g
  if groupKind g = .live then
    match groupColumn g with
    | some f => s.columnFault (gidBench g) f
    | none => s
  else if x.fold = 2 ∨ (s.group q).fold = 1 ∨ (s.group q).fold = 2 then s.groupLost g
  else if x.fold = 1 then s
  else
    let s1 := (s.setGroup g { x with fold := 1, paused := true })
    let s2 := s1.setGroup q { s1.group q with fold := 2, paused := true }
    ((s2.repairCount g F.CAL_REPAIR_CNT_FOLDS).spoilAdd 2 0 g).repairEvent 1 sevNotice g

/-- A hard data bore (R374, R378). -/
def State.hardBore (s : State) (g i : Nat) : State :=
  match idleSpare (s.group g) with
  | some n => s.spareSwap g i n
  | none => s.foldGroup g

/-- BORE_TEST_ROUND (R371): a group with an idle spare starts a round of its 64 data bores, at least 100 ms after the
last. -/
def execBoreTestRound (g : Nat) (s : State) : Host.Outcome State Fault Refusal :=
  let x := s.group g
  let due := match x.round with | none => true | some t => decide (t + 100000000 ≤ s.time)
  .next (if s.groupRuns g && (idleSpare x).isSome && (x.fold == 0 || x.fold == 2) && x.test.isNone && !x.paused && due then
    s.setGroup g { x with test := some (0, false), round := some s.time }
  else s)

/-- The next data bore of the round. -/
def nextTest (i : Nat) : Option (Nat × Bool) := if i + 1 < 64 then some (i + 1, false) else none

/-- A test of the group's data bore ends (R371): a mismatch is tested again at once; a second makes the bore hard, and a
pass on retest counts as TRANSIENT. A second failure counts also where the last idle spare has failed meanwhile: the hard
bore then folds the group or loses it (R378, R379). Otherwise a group that has used its last idle spare, is paused or has
folded away ends its round: nothing is left to test with. -/
def State.boreTestEnd (s : State) (g : Nat) (mismatch : Bool) : State :=
  let x := s.group g
  match x.test with
  | none => s
  | some (i, again) =>
    if x.paused || x.fold == 1 || ((idleSpare x).isNone && !(mismatch && again)) then s.setGroup g { x with test := none }
    else if mismatch && again then (s.setGroup g { x with test := nextTest i }).hardBore g i
    else if mismatch then s.setGroup g { x with test := some (i, true) }
    else
      let s1 := s.setGroup g { x with test := nextTest i }
      if again then s1.repairCount g F.CAL_REPAIR_CNT_TRANSIENT else s1

/-- BORE_TEST_END (R371). -/
def execBoreTestEnd (g : Nat) (mismatch : Bool) (s : State) : Host.Outcome State Fault Refusal :=
  .next (if s.groupRuns g then s.boreTestEnd g mismatch else s)

/-- IDLE_SPARE_MISMATCH (R21, R374): the spare is marked failed and recorded, with no pause. -/
def execIdleSpareMismatch (g n : Nat) (s : State) : Host.Outcome State Fault Refusal :=
  let x := s.group g
  .next (if n < 4 ∧ s.groupRuns g = true ∧ spareIdle (spareByte x n) = true then
    (s.setGroup g { x with spares := x.spares.set n (2 ^ 6) }).spoilAdd 1 (64 + n) g
  else s)

/-- The bench of a live group comes back online in the plane it left (R375), when no other live group of its gang is paused
and no column shift runs; RESUME of a shift brings it back otherwise. -/
def State.liveReturn (s : State) (g : Nat) : State :=
  let l := s.leaderOf (gidBench g)
  match mapGet (fun _ => none) s.repair.liveBack l with
  | none => s
  | some p =>
    if groupKind g = .live ∧ s.livePaused l = false ∧ s.gangShifting l = false then
      { s with repair := { s.repair with liveBack := mapSet (fun _ => none) s.repair.liveBack l none } }.deviceCmd l .online p
        false false false true
    else s

/-- GROUP_RESUME (R374, R378): the pause ends; both groups of a folding pair resume. The pause of a live group has not begun
while the offline edge that it needs is deferred (R375). -/
def State.groupResume (s : State) (g : Nat) : State :=
  let x := s.group g
  let waits := groupKind g == .live && s.online (gidBench g)
    && (mapGet (fun _ => none) s.repair.liveBack (s.leaderOf (gidBench g))).isSome
  if x.paused && (s.floorReset ≤ 1 || !s.groupHeld g) && !waits then
    let s1 := s.unpauseGroup g
    let q := gidPartner g
    let s2 := if x.fold = 1 ∧ (s1.group q).paused = true then s1.unpauseGroup q else s1
    s2.liveReturn g
  else s

def execGroupResume (g : Nat) (s : State) : Host.Outcome State Fault Refusal :=
  .next (if gidValid g then s.groupResume g else s)

/-! ### Column shift (R381 to R383) -/

/-- The planes that MOVE handles (R381). -/
def State.shiftPlanes (s : State) (b : Nat) : List Nat :=
  (upTo 8).filter fun p => s.planeSt b p == psReady || s.planeSt b p == psActive

/-- The groups of plane p from logical column f up stand in other physical setts once they have moved: no failure there is
yet known (R404). -/
def State.forgetPlaces (s : State) (b p f : Nat) : State :=
  let stays := fun (g : Nat) => decide (32768 ≤ g) || decide (stateColumn (g / 64) < f)
  let k := 8 * b + p
  { s with planes := { s.planes with
      parSeen := mapSet (fun _ => []) s.planes.parSeen k ((mapGet (fun _ => []) s.planes.parSeen k).filter stays)
      parPast := mapSet (fun _ => []) s.planes.parPast k ((mapGet (fun _ => []) s.planes.parPast k).filter stays) } }

/-- MAP (R381): P is set, the spare column is in use, and the spoil list records it. -/
def State.shiftMap (s : State) (b : Nat) (r : ShiftRun) : State :=
  let s1 := ((s.set F.BENCH_SHIFT_SHIFTED b 1).set F.BENCH_SHIFT_RETIRED_SX b r.col).setReg .BENCH_REPAIR_STAT b 0
  let s2 := (upTo 8).foldl (fun s p => if r.planes.contains p then s else s.forgetPlaces b p r.col) s1
  (s2.spoilAdd 4 0 (b * 2 ^ 8 + r.col)).setShift b (some { r with mapped := true, stopAt := s.time })

/-- The plane of a device-issued online that stands deferred for bench b's gang. -/
def State.deferredOnline (s : State) (b : Nat) : Option Nat :=
  match mapGet (fun _ => none) s.planes.defer (s.leaderOf b) with
  | some r => if r.cmd = .online ∧ r.by_ = .device then some r.plane else none
  | none => none

/-- STOP (R381): the context operation has ended; the gang goes offline at its E3 edge; then MAP. -/
def State.shiftStop (s : State) (b : Nat) (fab host sched last : Bool) : State :=
  match s.shift b with
  | none => s
  | some r =>
    if r.mapped ∨ s.flag F.CTX_STAT_BUSY b = true then s
    else
      let back := match r.back with
        | some p => some p
        | none => match s.activePlane b with
          | some p => some p
          | none => s.deferredOnline b
      let planes := if r.planes.isEmpty then s.shiftPlanes b else r.planes
      let r1 := { r with back := back, planes := planes }
      let s1 := s.setShift b (some r1)
      let s2 := if s.online b then s1.deviceCmd b .offline 0 fab host sched last
        else if (s.deferredOnline b).isSome then s1.dropDeferred (s.leaderOf b) else s1.refuseOnline b
      match s2.shift b with
      | some _ => if s2.online b then s2 else s2.shiftMap b r1
      | none => s2

/-- SHIFT_STOP (R381), with the rival requests that meet the E3 edge. -/
def execShiftStop (b : Nat) (fab host sched last : Bool) (s : State) : Host.Outcome State Fault Refusal :=
  .next (s.shiftStop b fab host sched last)

/-- Whether a copy that moves fails its parity check (R382): the logical columns from P up. -/
def State.moveParityBad (s : State) (b p f : Nat) : Bool :=
  (upTo 512).any fun j => decide (f ≤ stateColumn j) && !(s.parityBad b p j).isEmpty

/-- The checks of MOVE are noted: each copy is read at its old physical column, the logical column's own number (R382,
R403). -/
def State.moveParityNote (s : State) (b p f : Nat) : State :=
  (upTo 512).foldl (fun t j => if f ≤ stateColumn j then t.parityNoteFrame b p j (stateColumn j) else t) s

/-- Frames of the home slot written to the plane, each corrected codeword written back and counted (R209). -/
def State.copyHome (s : State) (b p g : Nat) : List Nat → State
  | [] => s
  | f :: fs =>
    let o := slotDecode (s.slotWord g f)
    let s1 := if o.kind = .corrected then (s.setSlotData g f o.data).inc F.CTX_CE_CNT_CE_CNT b else s
    (s1.setPlaneFrame b p f o.data).copyHome b p g fs

/-- Frames taken from the home slot; says whether all could be read. An uncorrectable one makes the slot BAD, and none is
taken: the plane has no VALID home then (R209, R382). -/
def State.takeFrames (s : State) (b p g : Nat) (l : List Nat) : Bool × State :=
  match l.find? fun f => (slotDecode (s.slotWord g f)).kind == .bad with
  | some f => (false, s.slotFault g f)
  | none => (true, s.copyHome b p g l)

/-- Frames that the plane or the slot holds, from `lo` up to but not `hi`. -/
def State.heldFrames (s : State) (b p g lo hi : Nat) : List Nat :=
  let a := (s.slots.words.filter fun (e : Nat × Nat) => e.1 / slotFrames == g).map fun (e : Nat × Nat) => e.1 % slotFrames
  let c := (s.planes.frames.filter fun (e : Nat × Nat) => e.1 / slotFrames == 8 * b + p).map
    fun (e : Nat × Nat) => e.1 % slotFrames
  (sortBy (fun x y => decide (x ≤ y)) (a ++ c)).filter fun f => decide (lo ≤ f ∧ f < hi)

/-- The home of a plane as a VALID global slot. -/
def State.validHome (s : State) (b p : Nat) : Option Nat :=
  match s.home b p with
  | some h => let g := 1024 * benchCol b + h; if s.slotSt g = slValid then some g else none
  | none => none

/-- A plane's state in MOVE (R382): as read, or from its home slot after a parity failure. With PD_BENCH_b down only
configuration moves (R383). -/
def State.moveState (s0 : State) (b p f : Nat) : State :=
  if s0.benchUp b && s0.moveParityBad b p f then
    let s := s0.moveParityNote b p f
    match s.validHome b p with
    | none => s
    | some g =>
      let r := s.takeFrames b p g (s.heldFrames b p g ffRun slotFrames)
      if r.1 then
        let s1 := (r.2.copyStages (512 + g) (8 * b + p)).freezeState b p
        s1.set F.BENCH_REPAIR_STAT_STATE_LOST b (Nat.lor (s1.get F.BENCH_REPAIR_STAT_STATE_LOST b) (2 ^ p))
      else r.2
  else s0

/-- A plane's configuration in MOVE (R382): the setts restaged from its VALID home, else copied latch by latch. Bench-level
configuration does not move: express selects, bindings, clock sources and SW_EN stay. -/
def State.moveConfig (s : State) (b p : Nat) : State :=
  let unverified := fun (t : State) =>
    t.set F.BENCH_REPAIR_STAT_UNVERIFIED b (Nat.lor (t.get F.BENCH_REPAIR_STAT_UNVERIFIED b) (2 ^ p))
  match s.validHome b p with
  | none => unverified s
  | some g =>
    let r := s.takeFrames b p g (s.heldFrames b p g 1 31745)
    if r.1 then r.2 else unverified r.2

/-- The frames of logical column f, which the retired physical column has served, stay behind in its latches and copies
(R150, R382). -/
def State.leaveColumn (s : State) (b p f : Nat) : State :=
  let inCol := fun (x : Nat) => (1 ≤ x && decide (x < 31745) && (x - 1) / 31 / 32 == f) ||
    (decide (ffRun ≤ x) && stateColumn (x - ffRun) == f)
  let mine := s.planes.frames.filter fun (e : Nat × Nat) => e.1 / slotFrames == 8 * b + p && inCol (e.1 % slotFrames)
  { s with planes := { s.planes with
      retired := mine.foldl (fun m (e : Nat × Nat) => mapSet (fun _ => 0) m e.1 e.2)
        (mapKeep (fun k => k / slotFrames != 8 * b + p) s.planes.retired)
      retStages := (upTo 4).foldl (fun m k => mapSet (fun _ => {}) m (4 * (8 * b + p) + k) (s.abStage (8 * b + p) f k))
        s.planes.retStages } }

/-- SHIFT_MOVE_PLANE (R382): the next plane moves. `flips` are upsets of its frozen state, as in R403. -/
def execShiftMovePlane (b : Nat) (flips : List Nat) (s : State) : Host.Outcome State Fault Refusal :=
  .next (match s.shift b with
    | none => s
    | some r => match r.planes with
      | [] => s
      | p :: rest =>
        if r.mapped ∧ s.powered (dCfg (benchCol b)) = true then
          let s1 := s.flipState b p flips
          let s2 := (((s1.leaveColumn b p r.col).moveState b p r.col).moveConfig b p).forgetPlaces b p r.col
          -- a second column fault that MOVE's own checks classify has cancelled the shift (R383)
          if (s2.shift b).isSome then s2.setShift b (some { r with planes := rest }) else s2
        else s)

/-- Every shift that runs in the gang of bench b has moved its planes: the gang resumes together (R383). -/
def State.gangMoved (s : State) (b : Nat) : Bool :=
  (s.gangOf b).all fun m => match s.shift m with
    | some r => r.mapped && r.planes.isEmpty
    | none => true

/-- RESUME (R381, R383): online again through the surge guard if the bench was online; then REPAIRING clears and SHIFT is
raised. It waits for the release of a floor-die reset. A power-down that waited starts (R497). -/
def State.shiftResume (s : State) (b : Nat) (fab host sched last : Bool) : State :=
  match s.shift b with
  | none => s
  | some r =>
    if !s.gangMoved b || s.floorReset != 0 || s.livePaused b then s
    else
      let l := s.leaderOf b
      let back := match r.back with
        | some p => some p
        | none => mapGet (fun _ => none) s.repair.liveBack l
      let s0 := { s with repair := { s.repair with liveBack := mapSet (fun _ => none) s.repair.liveBack l none } }.setShift b
        (some { r with back := back })
      let s1 := match back with
        | some p => if s0.online b || (s.deferredOnline b).isSome then s0 else s0.deviceCmd b .online p fab host sched last
        | none => s0
      if back.isSome && !s1.online b then s1
      else
        let id := b * 2 ^ 8 + r.col
        let s2 := ((s1.set F.BENCH_SHIFT_REPAIRING b 0).set F.BENCH_REPAIR_STAT_LAST_US b
          (min 0xFFFF ((s.time - r.stopAt) / 1000))).setShift b none
        let s3 := s2.repairEvent 2 sevAlert id
        if mapGet (fun _ => false) s3.power.waitShift (dBench b) then
          { s3.set F.PWR_DOM_STATE (dBench b) 4 with power := { s3.power with
              waitShift := mapSet (fun _ => false) s3.power.waitShift (dBench b) false } }
        else s3

/-- SHIFT_RESUME (R381). -/
def execShiftResume (b : Nat) (fab host sched last : Bool) (s : State) : Host.Outcome State Fault Refusal :=
  .next (s.shiftResume b fab host sched last)

/-! ### Wires, links and routers (R385 to R387) -/

/-- The output that feeds input `port` of router k over a mesh or bridge link. -/
def nearEnd (k port : Nat) : Option (Nat × Nat) := farEnd k port

/-- Mesh output p of router k closes toward a router that is gone or over a link that is lost: no credit it spent there can come
back (R313, R386, R387). -/
def State.closeToward (s : State) (k p : Nat) : State :=
  { s with haul := { s.haul with
      closed := mapSet (fun _ => false) s.haul.closed (7 * k + p) true
      spent := mapKeep (fun x => x / 8 != 7 * k + p) s.haul.spent } }

/-- The sender of the link received at input `port` of router k closes it (R386): a mesh output, a bridge port; an end point
injects no more (`injOpen`), and what its link had under way is lost. -/
def State.closeSender (s : State) (k port : Nat) : State :=
  match nearEnd k port with
  | some (k', p') => if p' < 4 then s.closeToward k' p' else (s.closeToward k' p').portDead k' (p' - 4)
  | none => { s with haul := { s.haul with epSpent := mapKeep (fun x => x / 8 != 3 * k + (port - 4)) s.haul.epSpent } }

/-- A link is lost (R386): its sender closes that output; the detour procedure follows. -/
def State.linkLost (s : State) (k port : Nat) : State :=
  let id := k + port * 2 ^ 8
  let s1 := ((s.set (spareFld port) k (Nat.lor (s.get (spareFld port) k) 8)).spoilAdd 9 0 id).repairEvent 6 sevAlert id
  let s2 := s1.closeSender k port
  { s2 with repair := { s2.repair with detourDue := true } }

/-- A hard wire takes the lowest idle spare; a fifth loses the link (R385, R386). A hard idle spare uses one up as well
(DESIGN CHOICE, log entry 70). -/
def State.wireSpare (s : State) (k port wire : Nat) : State :=
  let n := s.get (spareFld port) k % 8
  let id := k + port * 2 ^ 8
  if 8 ≤ s.get (spareFld port) k then s
  else if n < 4 then
    ((s.set (spareFld port) k (n + 1)).spoilAdd 8 wire id).repairEvent 5 sevNotice id
  else s.linkLost k port

/-- The same for the link into an end point (ports 8 to 10), which has no field in HN_LINK_SPARE and no code in the spoil
list, so that nothing of it is recorded (log entry 70); once it is lost, its router closes the port. -/
def State.epWireSpare (s : State) (k port : Nat) : State :=
  let n := s.sparesUsed k port
  let key := 3 * k + (port - 8)
  let s1 := { s with haul := { s.haul with epSpare := mapSet (fun _ => 0) s.haul.epSpare key (if n < 4 then n + 1 else 12) } }
  if n < 4 then s1 else s1.portDead k (port - 8)

/-- LINK_RETRAIN_DONE (R385): hard wires take their spares, and launching resumes. -/
def execLinkRetrainDone (k port : Nat) (s : State) : Host.Outcome State Fault Refusal :=
  let link := linkKey k port
  .next (if mapGet (fun _ => false) s.haul.retrain link then
    let wires := (s.haul.wireHard.filter fun (e : Nat × Bool) => e.1 / 580 == link).map fun (e : Nat × Bool) => e.1 % 580
    let s1 := { s with haul := { s.haul with
      retrain := mapSet (fun _ => false) s.haul.retrain link false
      wireHard := mapKeep (fun x => x / 580 != link) s.haul.wireHard
      wireHits := mapKeep (fun x => x / 580 != link) s.haul.wireHits } }
    let s2 := wires.foldl (fun s w => if port < 7 then s.wireSpare k port w else s.epWireSpare k port) s1
    if 4 ≤ port ∧ port < 7 then s2.injMove k (port - 4) else s2
  else s)

/-- Packets inside a router are discarded (R387, R633). -/
def State.clearRouter (s : State) (k : Nat) : State :=
  { s with haul := { s.haul with
      queues := mapKeep (fun x => x / 56 != k) s.haul.queues
      opens := mapKeep (fun x => x / 56 != k) s.haul.opens
      held := mapKeep (fun x => x / 56 != k) s.haul.held
      bridgeQ := mapKeep (fun x => x / 56 != k) s.haul.bridgeQ
      synth := mapKeep (fun x => x != k) s.haul.synth
      inj := mapKeep (fun x => x / 3 != k) s.haul.inj
      epSpent := mapKeep (fun x => x / 24 != k) s.haul.epSpent
      inside := mapKeep (fun x => x / 2 != k) s.haul.inside } }

/-- A bench router is retired (R387): its neighbours close their ports toward it, its bench ports go out of service, its
packets are discarded. -/
def State.retireRouter (s : State) (k : Nat) : State :=
  if k < 80 ∧ routerRow k ≠ 0 ∧ s.flag F.HN_RTR_STAT_RETIRED k = false then
    let s1 := (s.set F.HN_RTR_STAT_RETIRED k 1).clearRouter k
    let s2 := (upTo 4).foldl (fun s p => match farEnd k p with
      | some (k', p') => s.closeToward k' p'
      | none => s) s1
    let s3 := (s2.spoilAdd 10 0 k).repairEvent 7 sevAlert k
    { s3 with repair := { s3.repair with detourDue := true } }
  else s

/-- An edge router whose fallback path has failed as well: FATAL, and its end points become unreachable (R387). -/
def State.edgeFailed (s : State) (k : Nat) : State :=
  (((s.portDead k 0).portDead k 1).portDead k 2).repairEvent 7 sevFatal k

/-- HAUL_CALIBRATOR_TEST (R316, R373, R387): a sound main path clears QUEUED unless FORCE_QUEUED holds it; an unsound one
sets it; a fallback path that fails twice in succession fails the router. -/
def State.calibratorTest (s : State) (k : Nat) (mainSound fallbackSound : Bool) : State :=
  if k < 80 ∧ s.powered (dHn (routerCol k)) = true ∧ s.flag F.HN_RTR_STAT_RETIRED k = false then
    let q := !mainSound || s.flag F.HN_RTR_CTL_FORCE_QUEUED k
    let s1 := (s.set F.HN_RTR_STAT_QUEUED k (b2n q)).setSound k mainSound
    let n := if fallbackSound then 0 else mapGet (fun _ => 0) s.haul.fbFails k + 1
    let s2 := { s1 with haul := { s1.haul with fbFails := mapSet (fun _ => 0) s1.haul.fbFails k (min n 2) } }
    if n = 2 then (if routerRow k = 0 then s2.edgeFailed k else s2.retireRouter k) else s2
  else s

def execHaulCalibratorTest (k : Nat) (mainSound fallbackSound : Bool) (s : State) : Host.Outcome State Fault Refusal :=
  .next (s.calibratorTest k mainSound fallbackSound)

/-! ### Detour tables (R318, R387; log entry 45) -/

/-- Whether a packet can pass from router k by mesh output p to its neighbour. -/
def State.linkUsable (s : State) (k p : Nat) : Bool :=
  match farEnd k p with
  | some (k', _) => p < 4 && !s.flag F.HN_RTR_STAT_RETIRED k' && !s.flag F.HN_RTR_STAT_RETIRED k
      && !(mapGet (fun _ => false) s.haul.closed (7 * k + p))
  | none => false

/-- One round of shortest distances to a destination over moves E, S and N alone; positions are 0..19 in column c. -/
def State.relaxDist (s : State) (c : Nat) (d : List (Option Nat)) : List (Option Nat) :=
  (upTo 20).map fun i =>
    [1, 2, 0].foldl (fun (acc : Option Nat) p =>
      if s.linkUsable (20 * c + i) p then
        match farEnd (20 * c + i) p with
        | some (k', _) => match acc, d.getD (k' % 20) none with
          | none, some n => some (n + 1)
          | some a, some n => some (min a (n + 1))
          | a, none => a
        | none => acc
      else acc) (d.getD i none)

/-- Distances over moves that never turn west, to position t of column c. -/
def State.eastDist (s : State) (c t : Nat) : List (Option Nat) :=
  (upTo 20).foldl (fun d _ => s.relaxDist c d) ((upTo 20).map fun i => if i = t then some 0 else none)

/-- Whether going west from position i leads to a router from which the destination is reached: `fuel` moves at most. -/
def State.westReach (s : State) (c : Nat) (d : List (Option Nat)) : Nat → Nat → Bool
  | 0, _ => false
  | fuel + 1, i =>
    s.linkUsable (20 * c + i) 3 && ((d.getD (i - 1) none).isSome || s.westReach c d fuel (i - 1))

/-- The entry of position i of column c toward position t, 7 where no west-first route joins them. -/
def State.detourEntry (s : State) (c t : Nat) (d : List (Option Nat)) (i : Nat) : Nat :=
  if i = t then 7
  else match d.getD i none with
    | some n =>
      (([1, 2, 0].find? fun p => s.linkUsable (20 * c + i) p && (match farEnd (20 * c + i) p with
        | some (k', _) => match d.getD (k' % 20) none with | some m => m + 1 == n | none => false
        | none => false))).getD 7
    | none => if s.westReach c d 3 i then 3 else 7

/-- The bridge at local port l of router (3, 0) of column c is lost (R386, R387). -/
def State.bridgeLost (s : State) (c l : Nat) : Bool := mapGet (fun _ => false) s.haul.dead (3 * routerOf c 0 3 + l)

/-- No route joins column c to column c XOR x: a bridge that the route of R323 takes, horizontal first, is lost (R386,
R387). -/
def State.columnsApart (s : State) (c x : Nat) : Bool :=
  (x % 2 == 1 && s.bridgeLost c 0) || (2 ≤ x && s.bridgeLost (Nat.xor c (x % 2)) 1)

/-- The detour tables written into one bank (R387). -/
def State.writeDetours (s : State) (bank : Nat) : State :=
  (upTo 4).foldl (fun t c =>
    let t1 := (upTo 20).foldl (fun t e =>
      let d := s.eastDist c e
      (upTo 20).foldl (fun t i => t.setRouteEntry (20 * c + i) bank e (s.detourEntry c e d i)) t) t
    let d3 := s.eastDist c 3
    (upTo 20).foldl (fun t i =>
      [1, 2, 3].foldl (fun t x => t.setRouteEntry (20 * c + i) bank (19 + x)
        (if s.columnsApart c x then 7 else if i = 3 then (if x % 2 = 1 then 4 else 5) else s.detourEntry c 3 d3 i)) t) t1) s

/-- DETOUR_TABLES_WRITTEN (R387): with the controller up and no drain in progress, the detour tables go into bank 1 − CUR,
and the epoch flips. -/
def execDetourTablesWritten (s : State) : Host.Outcome State Fault Refusal :=
  .next (if s.repair.detourDue && s.flag F.MBX_FW_STAT_FW_UP 0 && s.get F.HN_EPOCH_STAT_DRAINING 0 == 0 then
    let s1 := s.writeDetours (1 - s.get F.HN_EPOCH_STAT_CUR 0)
    { s1 with repair := { s1.repair with detourDue := false } }.epochFlip
  else s)

/-! ### The spoil list at boot (R390) -/

/-- BORE, FOLD and GROUP_LOST entries. -/
def State.spoilBores (s : State) : State :=
  s.nvs.spoil.foldl (fun t e =>
    let x := t.group e.id
    if e.type = 1 then
      if 64 ≤ e.sub then t.setGroup e.id { x with spares := x.spares.set (e.sub - 64) (2 ^ 6) }
      else
        let l := match spareOfBore x e.sub with
          | some m => x.spares.set m (2 ^ 6 + e.sub)
          | none => x.spares
        match idleSpare { x with spares := l } with
        | some n => t.setGroup e.id { x with spares := l.set n (2 ^ 7 + e.sub) }
        | none => t
    else if e.type = 2 then
      let t1 := t.setGroup e.id { x with fold := 1 }
      t1.setGroup (gidPartner e.id) { t1.group (gidPartner e.id) with fold := 2 }
    else if e.type = 3 then t.setGroup e.id { x with lost := true }
    else t) s

/-- SETT_COL and DEGRADED entries. -/
def State.spoilColumns (s : State) : State :=
  s.nvs.spoil.foldl (fun t e =>
    if e.type = 4 then
      let b := bitsOf e.id 8 6
      let sx := bitsOf e.id 0 6
      if sx = 32 then t.set F.BENCH_SHIFT_SPARE_LOST b 1
      else (t.set F.BENCH_SHIFT_SHIFTED b 1).set F.BENCH_SHIFT_RETIRED_SX b sx
    else if e.type = 5 then
      let b := bitsOf e.id 0 6
      (t.set F.BENCH_SHIFT_DEGRADED b 1).set F.BENCH_SHIFT_DEG_WHY b (bitsOf e.id 8 4)
    else t) s

/-- The detour tables of both banks, where the list holds a lost link or a retired router (R390, order 4). -/
def State.bootDetours (s : State) : State :=
  if s.nvs.spoil.any fun e => e.type == 9 || e.type == 10 then (s.writeDetours 0).writeDetours 1 else s

/-- WIRE, LINK_LOST and ROUTER entries of the columns `f` names (R390, order 4). -/
def State.spoilHaul (s : State) (f : Nat → Bool) : State :=
  s.nvs.spoil.foldl (fun t e =>
    let k := bitsOf e.id 0 7
    let port := bitsOf e.id 8 3
    if !f (routerCol k) then t
    else if e.type = 8 then
      let n := t.get (spareFld port) k
      let t1 := if e.sub < 576 then t else { t with haul := { t.haul with
        badSpare := mapSet (fun _ => false) t.haul.badSpare (4 * linkKey k port + (e.sub - 576)) true } }
      if n < 4 then t1.set (spareFld port) k (n + 1) else t1
    else if e.type = 9 then
      (t.set (spareFld port) k (Nat.lor (t.get (spareFld port) k) 8)).closeSender k port
    else if e.type = 10 then
      (upTo 4).foldl (fun t p => match farEnd k p with
        | some (k', p') => t.closeToward k' p'
        | none => t) (t.set F.HN_RTR_STAT_RETIRED k 1)
    else t) s

/-! ### Delay monitors (R72 to R78) -/

def monKey (b sx : Nat) : Nat := 64 * b + sx
def State.monitor (s : State) (b sx : Nat) : Monitor := mapGet (fun _ => {}) s.repair.monitors (monKey b sx)
def State.setMonitor (s : State) (b sx : Nat) (x : Monitor) : State :=
  { s with repair := { s.repair with monitors := mapSet (fun _ => {}) s.repair.monitors (monKey b sx) x } }

/-- Band factors of R70, in percent. -/
def bandFactor (band : Nat) : Nat := [105, 100, 103, 110, 122].getD band 100

/-- DERATE = floor(1024 × REPLICA_PS ÷ REF), REF the factory delay scaled by the band factor (R72). A value beyond the
field's 12 bits is a free value (log entry 46). -/
def State.derateOf (s : State) (b sx ps : Nat) : Nat :=
  let ref := (Config.monitorRef b sx % 4095 + 1) * bandFactor (s.get F.THM_COL_BAND (benchCol b))
  let d := 1024 * ps * 100 / ref
  if d < 4096 then d else Config.derateOver d % 4096

/-- VALID (R73): not while the bench is down, nor for a retired physical column, be it the spare that was retired without
use (R369, R391). -/
def State.monValid (s : State) (b sx : Nat) : Bool :=
  (s.monitor b sx).valid && s.benchUp b
    && !(s.flag F.BENCH_SHIFT_SHIFTED b && s.get F.BENCH_SHIFT_RETIRED_SX b == sx)
    && !(s.flag F.BENCH_SHIFT_SPARE_LOST b && sx == 32)

/-- The valid monitor with the highest DERATE, the lower column on a tie (R77). -/
def State.worstMonitor (s : State) (b : Nat) : Option Nat :=
  (upTo 33).foldl (fun (acc : Option Nat) sx =>
    if s.monValid b sx then
      match acc with
      | none => some sx
      | some w => if (s.monitor b w).derate < (s.monitor b sx).derate then some sx else some w
    else acc) none

/-- The delay alarm (R74). -/
def State.alarmCheck (s : State) (b : Nat) : State :=
  match s.worstMonitor b with
  | none => s
  | some w =>
    if s.flag F.BENCH_DLYMON_CTL_ALARM_EN b && !s.flag F.BENCH_DLYMON_CTL_ALARM b
        && decide (s.get F.BENCH_DLYMON_CTL_ALARM_DERATE b < (s.monitor b w).derate) then
      ((s.set F.BENCH_DLYMON_CTL_ALARM b 1).raiseBench b 6).wlog 0x0201 b sevAlert w
    else s

/-- One monitor's measurement: after a change of converter it holds its value for one interval with STALE set (R73). The
interval is the model's choice: the next measurement after the change passes over the monitor, and the one after it measures
anew and clears STALE (log entry 46). A delay beyond the 12 bits of REPLICA_PS is taken modulo 4,096, and DERATE follows
what REPLICA_PS then shows (log entry 46). The delays are given as the converters report them, with the layers of class 6
applied: R597 gives a trim step no size in picoseconds (log entry 57). -/
def State.measureMonitor (s : State) (b sx ps : Nat) : State :=
  let m := s.monitor b sx
  if m.hold then s.setMonitor b sx { m with hold := false }
  else s.setMonitor b sx { m with ps := ps % 4096, derate := s.derateOf b sx (ps % 4096), valid := true, stale := false }

/-- DLYMON_MEASURE (R72): the 33 monitors of bench b are measured; `ps` are their delays in picoseconds. -/
def execDlymonMeasure (b : Nat) (ps : List Nat) (s : State) : Host.Outcome State Fault Refusal :=
  .next (if b < 64 ∧ s.benchUp b = true then
    ((upTo 33).foldl (fun s sx => match ps[sx]? with
      | some d => s.measureMonitor b sx d
      | none => s) s).alarmCheck b
  else s)

/-- DLYMON_CONVERTER_ROTATE (R73): monitor sx moves to the converter that was out, whose calibration against the replica
references has found it a background value that nothing constrains (R510, log entry 57); its own goes out, and a new
evaluation begins. -/
def execDlymonConverterRotate (b sx : Nat) (s : State) : Host.Outcome State Fault Refusal :=
  .next (if b < 64 ∧ sx < 33 ∧ s.benchUp b = true then
    let out := mapGet (fun _ => 33) s.repair.convOut b
    let mine := mapGet (fun k => k % 64) s.repair.convs (monKey b sx)
    let s1 := { s with repair := { s.repair with
      convs := mapSet (fun k => k % 64) s.repair.convs (monKey b sx) out
      convOut := mapSet (fun _ => 33) s.repair.convOut b mine } }
    let r := s1.fresh 8
    let s2 := (r.2.calFound 6 (34 * b + out) r.1).calStart 6 (34 * b + mine)
    s2.setMonitor b sx { s2.monitor b sx with stale := true, hold := true }
  else s)

/-- A BENCH_DLYMON_CTL write (R74, R78): an exceedance that stands raises the alarm again (R10). -/
def State.dlymonCtlWrite (s : State) (b : Nat) (v : Word) : State := (s.plainWrite .BENCH_DLYMON_CTL b v).alarmCheck b

/-- BENCH_DLYMON_VAL (R76) and BENCH_DLYMON_WORST (R77). -/
def State.readDlymonVal (s : State) (b : Nat) : Nat :=
  let sx := s.get F.BENCH_DLYMON_SEL_PHYS_SX b
  if 32 < sx then 0
  else
    let m := s.monitor b sx
    b2n m.stale * 2 ^ 31 + b2n (s.monValid b sx) * 2 ^ 30 + m.derate * 2 ^ 16 + m.ps

def State.readDlymonWorst (s : State) (b : Nat) : Nat :=
  match s.worstMonitor b with
  | none => 0
  | some w => 2 ^ 31 + w * 2 ^ 24 + (s.monitor b w).derate * 2 ^ 12 + (s.monitor b w).ps

end Sys2Proof.Machine
end

