-- ==== Sys2Proof/Machine/Scrub.lean ====
section
/-!
DEFINITION. Configuration scrubbing (R395 to R412): passes, comparison and restore, hard configuration faults, parity of
frozen state, and the twin check.
-/

namespace Sys2Proof.Machine

def State.scrubber (s : State) (c i : Nat) : Scrubber := mapGet (fun _ => {}) s.scrub (2 * c + i)
def State.setScrubber (s : State) (c i : Nat) (x : Scrubber) : State :=
  { s with scrub := mapSet (fun _ => {}) s.scrub (2 * c + i) x }

/-- The majority of three copies, bit by bit. -/
def majority (l : List Nat) : Nat :=
  let a := l.getD 0 0
  let b := l.getD 1 0
  let c := l.getD 2 0
  Nat.lor (Nat.lor (Nat.land a b) (Nat.land a c)) (Nat.land b c)

/-- The voted settings (R405). -/
def votedEn (x : Scrubber) : Nat := majority x.en
def votedRo (x : Scrubber) : Bool := majority x.ro == 1

/-- The settings in NVS (R405). -/
def State.nvsScrub (s : State) (c : Nat) : Nat := mapGet (fun _ => 0xFFFF) s.nvs.scrub c

/-- The bench positions a scrubber covers: its own eight, or all sixteen while its twin has failed (R395, R406). -/
def scrubBenches (i : Nat) (all : Bool) : List Nat := if all then upTo 16 else (upTo 8).map (8 * i + ·)

/-! ### Passes (R396, R405, R406) -/

def passNs (all : Bool) : Nat := if all then 62000000 else 31000000

/-- Both scrubbers of column c start anew at PD_CFG_c power-up: settings at their reset values until the first Refresh, passes
on their grid (R396, R405, R408, R409). -/
def State.scrubPowerUp (s : State) (c : Nat) : State :=
  let s1 := (s.setScrubber c 0 { next := s.time, started := s.time }).setScrubber c 1
    { next := s.time + 15500000, started := s.time }
  { s1 with slots := { s1.slots with scrubShown := mapSet (fun _ => 0) s1.slots.scrubShown c 0 } }

/-- The scrubber of column c whose voted settings CTX_SCRUB_STAT_c and CTX_SCRUB_MASK_c show: the one whose Refresh was the
last to read NVS (R408, R409, log entry 47). -/
def State.shownScrub (s : State) (c : Nat) : Scrubber := s.scrubber c (mapGet (fun _ => 0) s.slots.scrubShown c)

/-- Refresh: the voted settings are rewritten from NVS, or keep their values (R290, R405). -/
def State.scrubRefresh (s : State) (c i : Nat) (nvsOk : Bool) : State :=
  let x := s.scrubber c i
  let v := s.nvsScrub c
  if nvsOk then
    let s1 := s.setScrubber c i { x with
      en := [v % 2 ^ 16, v % 2 ^ 16, v % 2 ^ 16], ro := [bitOf v 16, bitOf v 16, bitOf v 16] }
    { s1 with slots := { s1.slots with scrubShown := mapSet (fun _ => 0) s1.slots.scrubShown c i } }
  else ((s.set F.CTX_SCRUB_STAT_NVS_ERR c 1).raise (68 + c) 4).wlog 0x0311 (68 + c) sevAlert c

/-- A triplet's check: the three copies after it, copies rewritten, and whether all three differed; such a one takes the value
that NVS gives, if it can be read. -/
def fixTriplet (l : List Nat) (nvs : Option Nat) : List Nat × Nat × Bool :=
  let a := l.getD 0 0
  let b := l.getD 1 0
  let c := l.getD 2 0
  if a = b ∧ b = c then (l, 0, false)
  else if a = b then ([a, a, a], 1, false)
  else if a = c then ([a, a, a], 1, false)
  else if b = c then ([b, b, b], 1, false)
  else (match nvs with
    | some v => [v, v, v]
    | none => l, 0, true)

/-- The check of the twin's triplets (R406); says whether they passed as read. -/
def State.twinTriplets (s : State) (c j : Nat) (nvsOk : Bool) : Bool × State :=
  let x := s.scrubber c j
  let v := s.nvsScrub c
  let e := fixTriplet x.en (if nvsOk then some (v % 2 ^ 16) else none)
  let r := fixTriplet x.ro (if nvsOk then some (bitOf v 16) else none)
  let s1 := (s.setScrubber c j { x with en := e.1, ro := r.1 }).incBy F.CTX_SCRUB_CNT_VOTE_FIX c (e.2.1 + r.2.1)
  let s2 := if e.2.2 then s1.wlog 0x0312 (68 + c) sevAlert (c + j * 2 ^ 4) else s1
  let s3 := if r.2.2 then s2.wlog 0x0312 (68 + c) sevAlert (c + j * 2 ^ 4) else s2
  (e.2.1 == 0 && r.2.1 == 0 && !e.2.2 && !r.2.2, s3)

def failFld (i : Nat) : Fld := if i = 0 then F.CTX_SCRUB_STAT_S0_FAIL else F.CTX_SCRUB_STAT_S1_FAIL
def passFld (i : Nat) : Fld := if i = 0 then F.CTX_SCRUB_STAT_PASS_S0 else F.CTX_SCRUB_STAT_PASS_S1

/-- The twin has started no pass within the last 40 ms: declared failed and reset (R290, R406). -/
def State.twinFail (s : State) (c j : Nat) : State :=
  let x := s.scrubber c j
  let s1 := s.setScrubber c j { x with failed := true, fails := x.fails + 1, pos := none, home := none, watch := [], restores := [],
                                        par := none }
  (((s1.set (failFld j) c 1).raiseVec 0 3).raise (68 + c) 3).wlog 0x0313 (68 + c) sevAlert (c + j * 2 ^ 4)

/-- SCRUB_TWIN_CHECK (R406): a failed twin resumes when its triplets pass, unless it has failed three times; says whether
the scrubber covers all benches in this pass. -/
def State.twinCheck (s : State) (c i : Nat) (nvsOk : Bool) : Bool × State :=
  let j := 1 - i
  let was := s.scrubber c j
  let r := s.twinTriplets c j nvsOk
  if was.failed then
    if r.1 && decide (was.fails < 3) then
      (false, (r.2.setScrubber c j { r.2.scrubber c j with failed := false, started := s.time }).set (failFld j) c 0)
    else (true, r.2)
  else if was.started + 40000000 < s.time then (false, r.2.twinFail c j)
  else (false, r.2)

/-- Upsets of the settings copies: (scrubber, copy 0..2 of BENCH_EN or 3..5 of REPORT_ONLY, mask). -/
def State.scrubUpsets (s : State) (c : Nat) (ups : List (Nat × Nat × Nat)) : State :=
  ups.foldl (fun s (e : Nat × Nat × Nat) =>
    let x := s.scrubber c (e.1 % 2)
    s.setScrubber c (e.1 % 2) (if e.2.1 < 3 then
      { x with en := x.en.set e.2.1 (Nat.xor (x.en.getD e.2.1 0) (e.2.2 % 2 ^ 16)) }
    else { x with ro := x.ro.set (e.2.1 - 3) (Nat.xor (x.ro.getD (e.2.1 - 3) 0) (e.2.2 % 2)) })) s

/-- A pass starts on its grid: starts missed in between are skipped (R396, R407). -/
def State.passStart (s : State) (c i : Nat) (nvsOk : Bool) : State :=
  let s1 := s.scrubRefresh c i nvsOk
  let t := s1.twinCheck c i nvsOk
  let x := t.2.scrubber c i
  let iv := passNs t.1
  t.2.setScrubber c i { x with
    next := x.next + iv * ((s.time - x.next) / iv + 1), started := s.time, all := t.1,
    pos := some ((scrubBenches i t.1).headD 0, 0, 0), home := none, par := some [] }

/-- SCRUB_PASS_START (R396). `nvsOk` says whether NVS can be read; `ups` are upsets of the settings before it. -/
def execScrubPassStart (c i : Nat) (nvsOk : Bool) (ups : List (Nat × Nat × Nat)) (s : State) :
    Host.Outcome State Fault Refusal :=
  .next (if c < 4 ∧ i < 2 ∧ s.powered (dCfg c) = true ∧ s.floorReset = 0 ∧ (s.scrubber c i).failed = false
      ∧ (s.scrubber c i).next ≤ s.time then
    (s.scrubUpsets c ups).passStart c i nvsOk
  else s)

/-! ### Comparison (R397 to R401) -/

/-- Whether a plane is in scope (R397). -/
def State.inScope (s : State) (b p : Nat) : Bool :=
  let st := s.planeSt b p
  (st == psReady || st == psActive) && (s.validHome b p).isSome && !s.flag F.BENCH_SHIFT_REPAIRING b
    && (s.benchUp b || st == psReady)

/-- The planes after (bi, p) in the pass's order. -/
def planesAfter (benches : List Nat) (bi p : Nat) : List (Nat × Nat) :=
  (benches.foldl (fun acc x => acc ++ (upTo 8).map fun q => (x, q)) []).filter fun (e : Nat × Nat) =>
    decide (8 * bi + p < 8 * e.1 + e.2)

/-- The pass goes on to the header of the home slot of the next plane in scope whose bench is enabled, or ends (R396). -/
def State.scrubNext (s : State) (c i : Nat) (from_ : List (Nat × Nat)) : State :=
  let x := s.scrubber c i
  match from_.find? fun (e : Nat × Nat) => bitOf (votedEn x) e.1 == 1 && s.inScope (16 * c + e.1) e.2 with
  | some (bi, p) => s.setScrubber c i { x with pos := some (bi, p, 0), home := s.home (16 * c + bi) p }
  | none => (s.setScrubber c i { x with pos := none, home := none }).incWrap (passFld i) c 1

/-- Physical sett (as 32·sx + sy) of bit n of the sett run, or 2^20 for bit n of the bench-level words (R398, R401). -/
def State.bitPlace (s : State) (b f i : Nat) : Nat × Nat :=
  if f < 31745 then
    let n := 512 * (f - 1) + i
    let sett := n / 15872
    let sx := sett / 32
    (32 * s.physCol b sx + sett % 32, n % 15872)
  else (2 ^ 20, 512 * (f - 31745) + i)

/-- The first mismatch since VALID was cleared (R411). -/
def State.scrubLog (s : State) (c : Nat) (w : WatchEnt) : State :=
  if s.flag F.CTX_SCRUB_LOG_0_VALID c then s
  else
    let bench := w.place = 2 ^ 20
    (((((((s.set F.CTX_SCRUB_LOG_0_VALID c 1).set F.CTX_SCRUB_LOG_0_BENCH c (benchPos w.bench)).set F.CTX_SCRUB_LOG_0_PLANE c
      w.plane).set F.CTX_SCRUB_LOG_0_PHYS_SX c (if bench then 63 else w.place / 32)).set F.CTX_SCRUB_LOG_0_SY c
      (if bench then 0 else w.place % 32)).set F.CTX_SCRUB_LOG_1_DELIVERY c (b2n w.deliv)).set F.CTX_SCRUB_LOG_1_BIT c w.bit)

/-- A mismatch restored or reported is counted (R399, R410, R412); the bench's register counts with PD_BENCH_b up. -/
def State.scrubCount (s : State) (c b : Nat) : State :=
  let s1 := s.inc F.CTX_SCRUB_CNT_RESTORES c
  if s1.benchUp b then s1.inc F.CTX_SCRUB_BENCH_RESTORES b else s1

/-- A codeword of a bench's home slot was corrected (R209, R219). -/
def State.scrubCe (s : State) (b : Nat) : State := if s.benchUp b then s.inc F.CTX_CE_CNT_CE_CNT b else s

/-- A hard configuration fault (R401): a column fault, or the loss of the C–M group that carries a bench-level word; which
group carries it the spec does not say (log entry 47). -/
def State.scrubHard (s : State) (c : Nat) (w : WatchEnt) : State :=
  let s1 := s.inc F.CTX_SCRUB_CNT_HARD c
  if w.place = 2 ^ 20 then
    let r := s1.fresh 32
    r.2.groupLost (gidOf w.bench 2 (3168 + r.1 % 928))
  else s1.columnFault w.bench (w.place / 32)

/-- One mismatch (R399 to R401). -/
def State.mismatch (s : State) (c i b p f bit val : Nat) (deliv : Bool) : State :=
  let x := s.scrubber c i
  let at_ := s.bitPlace b f bit
  let w : WatchEnt := ⟨b, p, at_.1, at_.2, deliv⟩
  let s1 := s.scrubLog c w
  if votedRo x then s1.scrubCount c b
  else
    let l := x.watch ++ [w]
    let s2 := s1.setScrubber c i { x with
      watch := l.drop (l.length - 32)
      restores := x.restores ++ [⟨b, p, f, bit, val, x.home.getD 0⟩] }
    if x.watch.contains w then s2.scrubHard c w else s2

/-- The bits of a frame that differ. -/
def diffBits (x y : Nat) : List Nat := let d := Nat.xor x y; if d = 0 then [] else (upTo 512).filter fun i => bitOf d i == 1

/-- Frame f of plane p of bench b is compared with its slot (R398 to R401). `delivery` are bits that the logic tier
receives wrong while the latch agrees; only the active plane is read back (R400). -/
def State.compareFrame (s : State) (c i b p f g : Nat) (slotUps delivery : List Nat) : Bool × State :=
  let r := s.slotRead g f slotUps
  match r.1 with
  | none => (false, r.2.2)
  | some d =>
    let s1 := if r.2.1 then r.2.2.scrubCe b else r.2.2
    let cur := s1.planeFrame b p f
    let s2 := (diffBits cur d).foldl (fun s k => s.mismatch c i b p f k (bitOf d k) false) s1
    let dl := if s.planeSt b p = psActive then delivery.filter fun k => decide (k < 512) && bitOf cur k == bitOf d k else []
    (true, dl.foldl (fun s k => s.mismatch c i b p f k (bitOf d k) true) s2)

/-- No restore is made from slot h of the column, which has become BAD (R398). -/
def State.dropRestores (s : State) (c i h : Nat) : State :=
  let x := s.scrubber c i
  s.setScrubber c i { x with restores := x.restores.filter fun r => r.home != h }

/-- The passes that run end, and what they have not restored is given up; the watch tables stay (R407). -/
def State.scrubsStop (s : State) : State :=
  (upTo 8).foldl (fun s k =>
    s.setScrubber (k / 2) (k % 2) { s.scrubber (k / 2) (k % 2) with pos := none, home := none, restores := [],
                                                                      par := none }) s

/-- After the release of a floor-die reset the scrubbers go on at the next pass start of their grid (R407). -/
def State.scrubsResume (s : State) : State :=
  (upTo 8).foldl (fun s k =>
    let x := s.scrubber (k / 2) (k % 2)
    let iv := passNs x.all
    if x.next < s.time then
      s.setScrubber (k / 2) (k % 2) { x with next := x.next + iv * ((s.time - x.next + iv - 1) / iv) }
    else s) s

/-- The header of the home slot is read (R198, R396); an uncorrectable one ends the scrubber's work on the plane. -/
def State.scrubHeader (s : State) (c i b p : Nat) (slotUps : List Nat) (after : List (Nat × Nat)) : State :=
  let x := s.scrubber c i
  let r := s.slotRead (1024 * c + x.home.getD 0) 0 slotUps
  match r.1 with
  | none => (r.2.2.dropRestores c i (x.home.getD 0)).scrubNext c i after
  | some _ => (if r.2.1 then r.2.2.scrubCe b else r.2.2).setScrubber c i { x with pos := some (b % 16, p, 1) }

/-- SCRUB_FRAME_COMPARE (R396, R398): the next frame of the running pass, a header or a comparison. `slotUps` and `latchUps` are bits of the slot's
codeword and of the plane's latches that have flipped before it. -/
def State.scrubCompare (s : State) (c i : Nat) (slotUps latchUps delivery : List Nat) : State :=
  let x := s.scrubber c i
  match x.pos with
  | none => s
  | some (bi, p, f) =>
    let after := planesAfter (scrubBenches i x.all) bi p
    let b := 16 * c + bi
    if f = 0 ∧ x.home = none then s.scrubNext c i ((bi, p) :: after)
    else
      if s.inScope b p = false ∨ s.home b p ≠ x.home then s.scrubNext c i after
      else if f = 0 then s.scrubHeader c i b p slotUps after
      else
        let s0 := latchUps.foldl (fun s k => s.setPlaneFrame b p f (Nat.xor (s.planeFrame b p f) (2 ^ (k % 512)))) s
        let r := s0.compareFrame c i b p f (1024 * c + x.home.getD 0) slotUps delivery
        if r.1 && decide (f < 31828) then
          r.2.setScrubber c i { r.2.scrubber c i with pos := some (bi, p, f + 1) }
        else (if r.1 then r.2 else r.2.dropRestores c i (x.home.getD 0)).scrubNext c i after

def execScrubFrameCompare (c i : Nat) (slotUps latchUps delivery : List Nat) (s : State) :
    Host.Outcome State Fault Refusal :=
  .next (if c < 4 ∧ i < 2 ∧ s.powered (dCfg c) = true ∧ s.floorReset = 0 then s.scrubCompare c i slotUps latchUps delivery
    else s)

/-- SCRUB_RESTORE (R399): the oldest restore is written, or dropped when the plane or its home has changed. -/
def State.scrubRestore (s : State) (c i : Nat) : State :=
  let x := s.scrubber c i
  match x.restores with
  | [] => s
  | r :: rest =>
    let s1 := s.setScrubber c i { x with restores := rest }
    let st := s.planeSt r.bench r.plane
    if (st = psReady ∨ st = psActive) ∧ s.home r.bench r.plane = some r.home then
      (s1.setPlaneFrame r.bench r.plane r.frame (putBits (s1.planeFrame r.bench r.plane r.frame) r.bit 1 r.val)).scrubCount c
        r.bench
    else s1

def execScrubRestore (c i : Nat) (s : State) : Host.Outcome State Fault Refusal :=
  .next (if c < 4 ∧ i < 2 ∧ s.powered (dCfg c) = true ∧ s.floorReset = 0 then s.scrubRestore c i else s)

/-! ### State parity (R402 to R404) -/

/-- One failing parity group of a frozen copy as the scrubber finds it: reported once for each freezing (R403); group + 32768
in parSeen says that it has been. -/
def State.parityFail (s : State) (b p grp : Nat) : State :=
  let k := 8 * b + p
  let seen := mapGet (fun _ => []) s.planes.parSeen k
  if seen.contains (32768 + grp) then s
  else
    let c := benchCol b
    let s1 := s.setParSeen k (seen ++ [32768 + grp])
    let s2 := s1.set F.CTX_SCRUB_BENCH_PERR b (Nat.lor (s1.get F.CTX_SCRUB_BENCH_PERR b) (2 ^ p))
    let s3 := (s2.raise (68 + c) 9).wlog 0x0310 (68 + c) sevAlert (benchPos b * 2 ^ 28 + p * 2 ^ 24 + grp)
    s3.parityNote b p grp (s.physCol b (stateColumn (grp / 64)))

/-- Scrubber i of column c has the state check of plane p of bench b before it in its pass: it covers the bench, its voted
setting enables it, and the plane has had no check in this pass (R396, R403, R405). -/
def State.checksState (s : State) (c i b p : Nat) : Bool :=
  let x := s.scrubber c i
  !x.failed && (scrubBenches i x.all).contains (benchPos b) && bitOf (votedEn x) (benchPos b) == 1
    && (match x.par with
      | some l => !l.contains (8 * b + p)
      | none => false)

/-- The scrubber that checks the plane's state now, if one does: the bench's own, or its twin while that covers all. -/
def State.stateScrubber (s : State) (b p : Nat) : Option Nat :=
  let i := benchPos b / 8
  [i, 1 - i].find? fun k => s.checksState (benchCol b) k b p

/-- SCRUB_STATE_PARITY_CHECK (R403): the check of the frozen state of plane p of bench b in the pass of its scrubber; `flips`
are upsets before it. -/
def execScrubStateParityCheck (b p : Nat) (flips : List Nat) (s : State) : Host.Outcome State Fault Refusal :=
  let c := benchCol b
  .next (if b < 64 ∧ p < 8 ∧ s.powered (dCfg c) = true ∧ s.benchUp b = true ∧ s.floorReset = 0 ∧ s.planeSt b p = psReady
      ∧ (s.stateScrubber b p).isSome = true then
    let i := (s.stateScrubber b p).getD 0
    let x := s.scrubber c i
    let s1 := (s.setScrubber c i { x with par := x.par.map fun l => l ++ [8 * b + p] }).flipState b p flips
    let bad := (upTo 512).foldl (fun acc j => acc ++ (s1.parityBad b p j).map fun g => 64 * j + g) []
    bad.foldl (fun s g => s.parityFail b p g) s1
  else s)

/-- NO_HOME (R412): planes that are READY or ACTIVE without a VALID home. -/
def State.noHome (s : State) (b : Nat) : Nat :=
  (upTo 8).foldl (fun acc p =>
    let st := s.planeSt b p
    if (st = psReady ∨ st = psActive) ∧ s.validHome b p = none then acc + 2 ^ p else acc) 0

end Sys2Proof.Machine
end

