-- ==== Sys2Proof/Machine/Power.lean ====
section
/-!
DEFINITION. Power domains (R494 to R506): requests and refusals, the steps of a power-down and a power-up, and what a
domain loses, keeps and starts with.
-/

namespace Sys2Proof.Machine

def State.domSt (s : State) (d : Nat) : Nat := s.get F.PWR_DOM_STATE d

/-- The states of PWR_DOM_d (R506). -/
def pdOff : Nat := 0
def pdRamp : Nat := 1
def pdInit : Nat := 2
def pdOn : Nat := 3
def pdQuiesce : Nat := 4
def pdFence : Nat := 5
def pdIsolate : Nat := 6
def pdGate : Nat := 7

/-- REASON codes (R506). -/
def prFixed : Nat := 1
def prDepend : Nat := 2
def prBusy : Nat := 3
def prLinkUp : Nat := 4
def prMgmt : Nat := 5

/-- The prerequisites of a domain (R496). -/
def prereqs (d : Nat) : List Nat :=
  if d < 7 then []
  else if d < 10 then [dBrg]
  else if d = 10 then []
  else if d = 11 then [dHn 0]
  else if d = 12 then [dHn 3]
  else if d < 21 then [dHn ((d - 13) / 2)]
  else if d < 25 then [dHn (d - 21)]
  else if d < 29 then [dHn (d - 25), dCfg (d - 25)]
  else if d < 33 then [dHn (d - 29)]
  else let c := benchCol (d - 33); [dHn c, dCfg c, dMem c]

/-- A domain that names d as a prerequisite is not off, or waits to come up (R496, R502). -/
def State.hasDependent (s : State) (d : Nat) : Bool :=
  (upTo 97).any fun e => (prereqs e).contains d && (s.domSt e != pdOff || s.power.rampWait.contains e)

/-! ### What a domain loses and starts with (R500, R501) -/

/-- What bench b keeps outside registers in PD_BENCH_b: state copies, ports and hoppers, requests and times of plane
switching, windows in force, delay monitors. -/
def State.benchLost (s : State) (b : Nat) : State :=
  let s1 := (s.loseState b).losePorts b
  let o := fun (k : Nat) => k != b
  { s1 with
    planes := { s1.planes with
      initing := mapSet (fun _ => false) s1.planes.initing b false
      defer := mapKeep o s1.planes.defer
      hostReq := mapKeep o s1.planes.hostReq
      devReq := mapKeep o s1.planes.devReq
      fabOpen := mapKeep o s1.planes.fabOpen
      lastRef := mapKeep o s1.planes.lastRef
      expiry := mapKeep o s1.planes.expiry
      held := mapKeep o s1.planes.held
      schedDue := mapKeep o s1.planes.schedDue
      since := mapKeep o s1.planes.since
      active := mapKeep (fun k => k / 8 != b) s1.planes.active
      imgPrev := mapKeep o s1.planes.imgPrev
      parkClk := mapKeep o s1.planes.parkClk
      cellIn := mapKeep o s1.planes.cellIn
      imgIn := mapKeep o s1.planes.imgIn
      bnd := mapKeep (fun k => k / 32 != b) s1.planes.bnd
      foldEdges := mapKeep o s1.planes.foldEdges
      portIn := mapKeep (fun k => k / 2048 != b) s1.planes.portIn }
    slots := { s1.slots with run := mapKeep o s1.slots.run }
    tenancy := { s1.tenancy with
      hwins := mapKeep (fun k => k / 16 != b) s1.tenancy.hwins
      capLevel := mapKeep o s1.tenancy.capLevel }
    thermal := { s1.thermal with sup := mapKeep o s1.thermal.sup }
    repair := { s1.repair with
      monitors := mapKeep (fun k => k / 64 != b) s1.repair.monitors
      convs := mapKeep (fun k => k / 64 != b) s1.repair.convs
      convOut := mapKeep o s1.repair.convOut }
    cal := mapKeep (fun k => !(k / 8192 == 6 && k % 8192 / 34 == b)) s1.cal
    clocks := { s1.clocks with
      lag := mapKeep (fun k => k / 4 != b) s1.clocks.lag
      edgeNo := mapKeep (fun k => k / 4 != b) s1.clocks.edgeNo } }

/-- What the routers of column c hold; the tables stay for the controller to write back (R501). -/
def State.haulLost (s : State) (c : Nat) : State :=
  let far := fun (per k : Nat) => k / per / 20 != c
  { s with haul := { s.haul with
      queues := mapKeep (far 56) s.haul.queues
      opens := mapKeep (far 56) s.haul.opens
      held := mapKeep (far 56) s.haul.held
      spent := mapKeep (far 56) s.haul.spent
      rrIn := mapKeep (far 56) s.haul.rrIn
      rrVc := mapKeep (far 7) s.haul.rrVc
      rrCh := mapKeep (far 7) s.haul.rrCh
      inj := mapKeep (far 3) s.haul.inj
      epSpent := mapKeep (far 24) s.haul.epSpent
      bridgeQ := mapKeep (far 56) s.haul.bridgeQ
      synth := mapKeep (far 1) s.haul.synth
      trcQ := mapKeep (fun k => k != c) s.haul.trcQ
      inside := mapKeep (far 2) s.haul.inside
      closed := mapKeep (far 7) s.haul.closed
      retrain := mapKeep (fun k => linkColumn k != c) s.haul.retrain
      wireHits := mapKeep (fun k => linkColumn (k / 580) != c) s.haul.wireHits
      wireHard := mapKeep (fun k => linkColumn (k / 580) != c) s.haul.wireHard
      badSpare := mapKeep (fun k => linkColumn (k / 4) != c) s.haul.badSpare
      epSpare := mapKeep (far 3) s.haul.epSpare
      closing := mapKeep (far 3) s.haul.closing
      fenceWait := mapKeep (far 3) s.haul.fenceWait
      sound := mapKeep (far 1) s.haul.sound
      fbFails := mapKeep (far 1) s.haul.fbFails
      trace := mapKeep (fun k => k / 2048 != c) s.haul.trace } }

/-- What PD_MGT keeps outside registers: the controller, mailboxes, collector, load controller, gang formation, the PF's
pending vectors and the drain's timing. -/
def State.mgtLost (s : State) : State :=
  { s with
    fw := {}
    mbx := {}
    collector := {}
    loads := []
    slots := { s.slots with hold := [] }
    tenancy := { s.tenancy with forming := [] }
    pcie := { s.pcie with pendPf := 0 }
    haul := { s.haul with flipTime := 0, drainTmo := false } }

/-- What PD_TEL keeps outside registers: tally meters, thermal control, column energies, rail converters. -/
def State.telLost (s : State) : State :=
  { s with
    tenancy := { s.tenancy with energy := [], sinceUpd := [], history := [] }
    thermal := { h := s.thermal.h, lockUsed := s.thermal.lockUsed }
    cal := mapKeep (fun k => k / 8192 != 5 && k / 8192 != 4) s.cal }

/-- What the end points of a domain still inject is lost with them. -/
def State.injectLost (s : State) (d : Nat) : State :=
  { s with haul := { s.haul with
      inj := mapKeep (fun e => portDomain (e / 3) (e % 3) != some d) s.haul.inj
      fenceWait := mapKeep (fun e => portDomain (e / 3) (e % 3) != some d) s.haul.fenceWait } }

/-- A domain loses what R501 does not name as kept; its registers return to their reset values. -/
def State.domainLost (s0 : State) (d : Nat) : State :=
  let s := s0.injectLost d
  let s1 :=
    if d = 1 then s.mgtLost
    else if d = 3 then s.pllsOff 3
    else if d = 4 then s.telLost
    else if d = 5 then { s with side := { s.side with eid := 0, dynAddr := none, tapIr := 1, tapPins := false } }
    else if d < 6 then s
    else if d < 10 then s.haulLost (d - 6)
    else if d = 10 then s
    else if d < 13 then (s.pcieReset (d - 11)).pllsOff d
    else if d < 21 then
      let t := (s.loseLanes (d - 13)).pllsOff d
      { t with cal := mapKeep (fun k => !(k / 8192 == 3 && k % 8192 / 72 / 8 == d - 13)) t.cal }
    else if d < 25 then (s.ddrDown (2 * (d - 21))).ddrDown (2 * (d - 21) + 1)
    else if d < 29 then s
    else if d < 33 then (s.loadsLost (d - 29)).cfgLost (d - 29)
    else s.benchLost (d - 33)
  s1.resetDomainRegs d

/-- The bridge ports follow the domains they lead to (R350). -/
def State.bridgeFences (s : State) : State :=
  (upTo 4).foldl (fun s c =>
    if s.powered (dHn c) || s.domSt (dHn c) == pdInit then
      [0, 1].foldl (fun s l =>
        s.setFence (routerOf c 0 3) l
          (if s.powered dBrg && s.powered (dHn c) && s.powered (dHn (Nat.xor c (l + 1))) then 0 else 2)) s
    else s) s

/-- The classes of bore groups of column c on an interface: its periphery's and its benches'. -/
def columnClasses (c iface : Nat) : List Nat :=
  periphClass c iface :: (upTo 16).map fun i => benchClass (16 * c + i) iface

/-- The classes of bore groups with an end in a domain: their trims are lost and acquired afresh when it powers up (R34).
DESIGN CHOICE (log entry 67): the spec does not say which domains hold the ends; the floor's ends are taken to lie in
PD_HN_c, the configuration tier's in PD_CFG_c, the memory tier's in PD_MEM_c. -/
def domainClasses (d : Nat) : List Nat :=
  if 6 ≤ d ∧ d < 10 then columnClasses (d - 6) 0
  else if 25 ≤ d ∧ d < 29 then columnClasses (d - 25) 2
  else if 29 ≤ d ∧ d < 33 then columnClasses (d - 29) 1 ++ columnClasses (d - 29) 2
  else if 33 ≤ d then [benchClass (d - 33) 0, benchClass (d - 33) 1, benchClass (d - 33) 2]
  else []

/-- The classes whose groups acquire at the end of a domain's INIT: those whose last end comes up with it (R34, R496). -/
def acquiredClasses (d : Nat) : List Nat :=
  if 6 ≤ d ∧ d < 10 then [periphClass (d - 6) 0]
  else if 25 ≤ d ∧ d < 29 then [periphClass (d - 25) 2]
  else if 29 ≤ d ∧ d < 33 then [periphClass (d - 29) 1]
  else if 33 ≤ d then domainClasses d
  else []

/-- The plane states of bench b are loaded from the configuration tier: ACTIVE reads READY (R184, R500). -/
def State.reloadPlanes (s : State) (b : Nat) : State :=
  (upTo 8).foldl (fun s p => if s.planeSt b p = psActive then s.setPlaneSt b p psReady else s) s

/-- INIT begins: isolation and the domain's reset are released, its groups start afresh, and for a bench the plane states are
reloaded, the state initialisation of R153 runs and its suppression levels start from 0 (R500, R521). -/
def State.domainInit (s0 : State) (d : Nat) : State :=
  let s := if 33 ≤ d then s0.reloadPlanes (d - 33) else s0
  let s1 := (domainClasses d).foldl (fun s x => s.refreshClass x) s
  if 33 ≤ d then
    { s1 with
      planes := { s1.planes with initing := mapSet (fun _ => false) s1.planes.initing (d - 33) true }
      tenancy := { s1.tenancy with capLevel := mapSet (fun _ => 0) s1.tenancy.capLevel (d - 33) 0 }
      thermal := { s1.thermal with sup := mapSet (fun _ => 0) s1.thermal.sup (d - 33) 0 } }
  else s1

/-- The fences that a column's routers start with: open where the end point's domain is on (R347, R348). -/
def State.columnFences (s : State) (c : Nat) : State :=
  (upTo 20).foldl (fun s i =>
    let k := 20 * c + i
    (upTo 3).foldl (fun s l => match portDomain k l with
      | some d => s.setFence k l (if s.powered d && decide (d < 33) then 0 else 2)
      | none => s) s) s

/-- Both banks of every router of column c take the current tables (R501). -/
def State.restoreTables (s : State) (c : Nat) : State :=
  let cur := s.get F.HN_EPOCH_STAT_CUR 0
  (upTo 20).foldl (fun s i =>
    let k := 20 * c + i
    (upTo 23).foldl (fun t e => t.setRouteEntry k (1 - cur) e (s.routeEntry k cur e)) s) s

/-- HLK fields of a domain that start at reset values above their bound are held to it (R563, log entry 60). -/
def State.holdField (s : State) (q : Nat) (f : Fld) (i : Nat) : State :=
  if s.hluEff q < s.get f i then s.set f i (s.hluEff q) else s

def State.holdFields (s : State) (d : Nat) : State :=
  if 33 ≤ d then s.holdField 10 F.BENCH_PCAP_CAP_MW (d - 33)
  else if 13 ≤ d ∧ d < 21 then (upTo 8).foldl (fun s i => s.holdField 13 F.LANE_TX_SWING_MV (8 * (d - 13) + i)) s
  else if d = 4 then s.holdField 15 F.THM_LIMITS_SHDN_C 0
  else if d = 1 then (upTo 4).foldl (fun s c => s.holdField 16 F.BENCH_SURGE_CTL_SURGE_MAX c) s
  else s

/-- INIT ends: what the domain applies at its power-up, and its groups' trims (R500, R501; log entry 56). -/
def State.domainReady (s : State) (d : Nat) : State :=
  let s0 := (acquiredClasses d).foldl (fun s x => s.acquireClass x) s
  let s1 := (s0.set F.PWR_DOM_STATE d pdOn).holdFields d
  if d < 6 then s1
  else if d < 10 then ((((s1.restoreTables (d - 6)).columnFences (d - 6)).spoilHaul fun c => c == d - 6).bridgeFences)
  else if d = 10 then s1.bridgeFences
  else if d < 13 then (s1.set F.PCIE_LINK_STAT_PERST (d - 11) (bitOf s.power.perst (d - 11))).setDomainFences d 0
  else if d < 21 then s1.setDomainFences d 0
  else if d < 25 then ((s1.setDomainFences d 0).ddrUp (2 * (d - 21))).ddrUp (2 * (d - 21) + 1)
  else if d < 29 then (s1.memPowerUp (d - 25)).setDomainFences d 0
  else if d < 33 then (s1.scrubPowerUp (d - 29)).spoilColumns
  else s1.setBenchFences (d - 33) 2

/-! ### Requests (R497) -/

/-- A refusal (R497, R504). -/
def State.pwrRefuse (s : State) (d why : Nat) : State :=
  (((s.set F.PWR_DOM_ERR d 1).set F.PWR_DOM_REASON d why).raise 75 2).wlog 0x0801 177 sevNotice (d + why * 2 ^ 8)

/-- Why a request is refused, 0 if it is not (R496, R497, R503). -/
def State.pwrCheck (s : State) (d : Nat) (on : Bool) : Nat :=
  let st := s.domSt d
  if d < 6 then prFixed
  else if (st ≠ pdOff ∧ st ≠ pdOn) ∨ s.power.rampWait.contains d = true
      ∨ mapGet (fun _ => false) s.power.waitShift d = true ∨ s.floorReset ≠ 0 then prBusy
  else if on then (if (prereqs d).all fun e => s.domSt e == pdOn then 0 else prDepend)
  else if d = 6 then prMgmt
  else if (d = 11 ∨ d = 12) ∧ s.flag F.PCIE_LINK_STAT_UP (d - 11) = true then prLinkUp
  else if s.hasDependent d then prDepend
  else 0

/-- A power-down starts with QUIESCE (R498): a bench in a column shift waits for RESUME, DDR channels enter
self-refresh. -/
def State.startDown (s : State) (d : Nat) : State :=
  let s1 := { s.set F.PWR_DOM_ON d 0 with power := { s.power with start := mapSet (fun _ => 0) s.power.start d s.time } }
  if 33 ≤ d ∧ s.flag F.BENCH_SHIFT_REPAIRING (d - 33) = true then
    { s1 with power := { s1.power with waitShift := mapSet (fun _ => false) s1.power.waitShift d true } }
  else
    let s2 := s1.set F.PWR_DOM_STATE d pdQuiesce
    if 21 ≤ d ∧ d < 25 then s2.ddrEnterSelfCol (d - 21) false else s2

/-- Domains in RAMP (R502). -/
def State.ramping (s : State) : Nat := ((upTo 97).filter fun d => s.domSt d == pdRamp).length

/-- The lowest waiting power-up enters RAMP while fewer than four domains ramp (R502). -/
def State.rampNext (s : State) : State :=
  match sortBy (fun a b => decide (a ≤ b)) s.power.rampWait with
  | [] => s
  | d :: rest =>
    if s.ramping < 4 then { s.set F.PWR_DOM_STATE d pdRamp with power := { s.power with rampWait := rest } } else s

/-- A power-up starts: RAMP, or a wait for it (R500, R502). -/
def State.startUp (s : State) (d : Nat) : State :=
  let s1 := s.set F.PWR_DOM_ON d 1
  { s1 with power := { s1.power with
      start := mapSet (fun _ => 0) s1.power.start d s.time, rampWait := s1.power.rampWait ++ [d] } }.rampNext

/-- A request for domain d (R497): one that would change nothing is ignored. -/
def State.pwrRequest (s : State) (d : Nat) (on : Bool) : State :=
  if s.flag F.PWR_DOM_ON d == on then s
  else
    let why := s.pwrCheck d on
    if why ≠ 0 then s.pwrRefuse d why else if on then s.startUp d else s.startDown d

/-- A PWR_DOM_d write (R497, R506); clearing ERR clears its REASON. During a floor-die reset every write is refused
(R503). -/
def State.pwrDomWrite (s : State) (d : Nat) (v : Word) : State :=
  let s1 := s.w1cWrite .PWR_DOM d v
  let s2 := if fldOf F.PWR_DOM_ERR v = 1 then s1.set F.PWR_DOM_REASON d 0 else s1
  if s.floorReset ≠ 0 ∧ 6 ≤ d then s2.pwrRefuse d prBusy else s2.pwrRequest d (fldOf F.PWR_DOM_ON v == 1)

/-- DOMAIN_POWER_DOWN (R498): a PWR_DOM_d write with ON = 0. -/
def execDomainPowerDown (src : Src) (d : Nat) (v : Word) (s : State) : Host.Outcome State Fault Refusal :=
  .next (if s.mayWrite src .PWR_DOM d = true ∧ fldOf F.PWR_DOM_ON v = 0 then s.pwrDomWrite d v else s)

/-- DOMAIN_POWER_UP (R500): a PWR_DOM_d write with ON = 1. -/
def execDomainPowerUp (src : Src) (d : Nat) (v : Word) (s : State) : Host.Outcome State Fault Refusal :=
  .next (if s.mayWrite src .PWR_DOM d = true ∧ fldOf F.PWR_DOM_ON v = 1 then s.pwrDomWrite d v else s)

/-! ### Power-down (R498, R499) -/

/-- A step of a sequence of domain d may run: not while a floor-die reset holds it (R503). -/
def State.stepAt (s : State) (d st : Nat) : Bool := decide (d < 97) && s.domSt d == st && s.floorReset == 0

/-- Whether QUIESCE of domain d has nothing left to wait for: a bench's context operation, a channel's self-refresh. -/
def State.quiet (s : State) (d : Nat) : Bool :=
  if 33 ≤ d then !s.flag F.CTX_STAT_BUSY (d - 33)
  else if 21 ≤ d ∧ d < 25 then
    [2 * (d - 21), 2 * (d - 21) + 1].all fun ch => s.ddrSt ch != ddReady && !(s.chan ch).entering
  else true

/-- Whether some bench is online. -/
def State.anyOnline (s : State) : Bool := (upTo 64).any s.online

/-- A forced power-down of a domain that is on, to which no refusal applies: it starts with QUIESCE, or skips to GATE at
once from RAMP or INIT; a power-up that waits for RAMP is dropped (R523, log entry 57). -/
def State.forceDown (s : State) (d : Nat) : State :=
  let st := s.domSt d
  if s.power.rampWait.contains d then
    { s.set F.PWR_DOM_ON d 0 with power := { s.power with rampWait := s.power.rampWait.filter fun e => e != d } }
  else if st = pdOn then
    let s1 := { (s.set F.PWR_DOM_ON d 0).set F.PWR_DOM_STATE d pdQuiesce with
      power := { s.power with start := mapSet (fun _ => 0) s.power.start d s.time
                              waitShift := mapSet (fun _ => false) s.power.waitShift d false } }
    if 21 ≤ d ∧ d < 25 then s1.ddrEnterSelfCol (d - 21) false else s1
  else if st = pdRamp ∨ st = pdInit then (s.set F.PWR_DOM_ON d 0).set F.PWR_DOM_STATE d pdGate
  else s

/-- No trigger entry waits for its freeze, and no record is being copied (R615, R617). -/
def State.recordsDone (s : State) : Bool :=
  !(s.wpl.offers ++ s.wpl.queue).any isTrigger && !s.flag F.WPL_STAT_COPYING 0

/-- Steps 2 to 4 of an orderly shutdown (R523): once every bench is offline the end points hold their injections and the FATAL
entry freezes the ring; once its record is in NVS the domains power down. -/
def State.shutNext (s : State) : State :=
  if s.power.shutWait.isEmpty || s.anyOnline then s
  else match s.power.shutLog with
    | some d => { s with power := { s.power with holdInj := true, shutLog := none } }.wlog 0x0815 75 sevFatal d
    | none =>
      if s.recordsDone then
        s.power.shutWait.foldl (fun s d => s.forceDown d) { s with power := { s.power with shutWait := [], holdInj := true } }
      else s

/-- RECORD_COPY_DONE (R617, R618): the header and the index are written, and a waiting trigger entry then starts a second
copy; a shutdown that waits for its record goes on (R523). `ok` says whether the copy verifies. -/
def execRecordCopyDone (ok : Bool) (s : State) : Host.Outcome State Fault Refusal := .next (s.recordDone ok).shutNext

/-- The end points may inject again once every domain that the shutdown takes down is off (R523, log entry 57). -/
def State.shutEnd (s : State) : State :=
  if s.power.holdInj && (upTo 84).all (fun i => s.domSt (13 + i) == pdOff) then
    { s with power := { s.power with holdInj := false } }
  else s

/-- QUIESCE_DONE (R499): a bench goes offline at its E3 edge, at which the other operands are what its fabric, host and
schedule present; then the fences go CLOSING. -/
def execQuiesceDone (d : Nat) (fab host sched last : Bool) (s : State) : Host.Outcome State Fault Refusal :=
  .next (if s.stepAt d pdQuiesce && s.quiet d then
    let s1 := if 33 ≤ d ∧ s.online (d - 33) = true then s.deviceCmd (d - 33) .offline 0 fab host sched last else s
    if 33 ≤ d ∧ s1.online (d - 33) = true then s1
    else (((s1.set F.PWR_DOM_STATE d pdFence).closeDomainFences d).fenceStepEnd d).shutNext
  else s)

/-- ISOLATE_DONE (R498, R499): clamps apply, a bench's pending entries are answered UNREACHABLE, the bridges of a dark
column close, and GATE begins. -/
def execIsolateDone (d : Nat) (s : State) : Host.Outcome State Fault Refusal :=
  .next (if s.stepAt d pdIsolate then
    let s1 := if 33 ≤ d then (s.pendIsolate (d - 33) 0).pendIsolate (d - 33) 1 else s
    (s1.set F.PWR_DOM_STATE d pdGate).bridgeFences
  else s)

/-- A sequence ends: LAST_T in 100 ns units (R506). -/
def State.setLastT (s : State) (d : Nat) : State :=
  s.set F.PWR_DOM_LAST_T d (min 0xFFFF ((s.time - mapGet (fun _ => 0) s.power.start d) / 100))

/-- GATE_DONE (R498, R504): the domain is off; DOM_DOWN. -/
def execGateDone (d : Nat) (s : State) : Host.Outcome State Fault Refusal :=
  .next (if s.stepAt d pdGate then
    ((((s.domainLost d).set F.PWR_DOM_STATE d pdOff).setLastT d).raise 75 1).shutEnd
  else s)

/-- A domain is gated at once, skipping QUIESCE and FENCE and aborting any sequence; its fences go CLOSED, and a bench's
pending entries are answered UNREACHABLE at ISOLATE (R499, R503). -/
def State.gateNow (s : State) (d : Nat) : State :=
  let s1 := { s with power := { s.power with
      rampWait := s.power.rampWait.filter fun e => e != d
      start := mapSet (fun _ => 0) s.power.start d s.time
      waitShift := mapSet (fun _ => false) s.power.waitShift d false } }
  if s.domSt d = pdOff then s1.set F.PWR_DOM_ON d 0
  else
    let s0 := s1.setDomainFences d 2
    let s2 := (if 33 ≤ d then (s0.pendIsolate (d - 33) 0).pendIsolate (d - 33) 1 else s0).domainLost d
    (((s2.set F.PWR_DOM_ON d 0).set F.PWR_DOM_STATE d pdOff).setLastT d).raise 75 1

/-! ### Power-up (R500, R502) -/

/-- RAMP_SLOT_FREE (R502). -/
def execRampSlotFree (s : State) : Host.Outcome State Fault Refusal :=
  .next (if s.floorReset = 0 then s.rampNext else s)

/-- RAMP_DONE (R500): the switch has closed; INIT begins. -/
def execRampDone (d : Nat) (s : State) : Host.Outcome State Fault Refusal :=
  .next (if s.stepAt d pdRamp then (s.set F.PWR_DOM_STATE d pdInit).domainInit d else s)

/-- INIT_DONE (R500, R504): the domain is on, its fences open, DOM_UP. A bench's state initialisation has ended (R153). -/
def execInitDone (d : Nat) (s : State) : Host.Outcome State Fault Refusal :=
  .next (if s.stepAt d pdInit = true ∧ (d < 33 ∨ mapGet (fun _ => false) s.planes.initing (d - 33) = false) then
    ((s.domainReady d).setLastT d).raise 75 0
  else s)

/-- A domain is brought up by the boot, all steps at once (R627): a completed sequence, whose LAST_T counts no time
(R506). -/
def State.bootDomain (s : State) (d : Nat) : State :=
  let s0 := { s with power := { s.power with start := mapSet (fun _ => 0) s.power.start d s.time } }
  let s1 := ((s0.set F.PWR_DOM_ON d 1).set F.PWR_DOM_STATE d pdInit).domainInit d
  let s2 := if 33 ≤ d then
      { s1 with planes := { s1.planes with initing := mapSet (fun _ => false) s1.planes.initing (d - 33) false } } else s1
  ((s2.domainReady d).setLastT d).raise 75 0

/-- A domain that is lost with its rails (R503): no sequence, no event. -/
def State.dropDomain (s : State) (d : Nat) : State :=
  let s1 := { s.domainLost d with power := { s.power with
      rampWait := s.power.rampWait.filter fun e => e != d
      waitShift := mapSet (fun _ => false) s.power.waitShift d false } }
  (if d < 6 then s1 else s1.set F.PWR_DOM_ON d 0).set F.PWR_DOM_STATE d pdOff

end Sys2Proof.Machine
end

