-- ==== Sys2Proof/Machine/Thermal.lean ====
section
/-!
DEFINITION. Temperature and limits in operation (R507 to R529, R569): sensor sites, bands, throttling, shutdown, the
hardware trip, converters, rails and the level H.
-/

namespace Sys2Proof.Machine

/-- A Weapel entry and collector event of kind bit `bit` of SOURCE 75, with PF vector 2 where R527 says so. -/
def State.thmEvent (s : State) (bit sev detail : Nat) : State :=
  let s1 := s.raise 75 bit
  let s2 := if bit = 7 ∨ bit = 9 then s1 else s1.raiseVec 0 2
  s2.wlog (0x0810 + (bit - 3)) 75 sev detail

/-! ### Sites (R507, R508, R510, R531) -/

/-- The sum of the three layers of site n, and its effective offset, held to the HLU's magnitude (R510, R531, q = 19). -/
def State.siteSum (s : State) (n : Nat) : Int :=
  signedOf 8 (Config.calFactory 4 n).toNat + signedOf 8 (s.get F.THM_SITE_CAL_BACKGROUND n)
    + signedOf 8 (s.get F.THM_SITE_CAL_USER_OFS n)

def State.siteOffset (s : State) (n : Nat) : Int :=
  clampInt (-(s.hluEff 19 : Int)) (s.hluEff 19 : Int) (s.siteSum n)

/-- CLAMPED of THM_SITE_n follows whether clamping applies (R510, R530). -/
def State.siteClamp (s : State) (n : Nat) : State :=
  s.set F.THM_SITE_CLAMPED n (b2n (decide (s.siteOffset n ≠ s.siteSum n)))

/-- The temperature of site n in 1/16 °C, while it is valid. -/
def State.siteTemp (s : State) (n : Nat) : Option Int :=
  if s.flag F.THM_SITE_VALID n then some (signedOf 16 (s.get F.THM_SITE_TEMP n)) else none

/-- A logic-tier site (R507). -/
def isLogicSite (n : Nat) : Bool := decide (n % 24 < 16)

/-- The hold of a converter channel (R511). -/
def State.chHold (s : State) (key : Nat) : Bool := mapGet (fun _ => false) s.thermal.hold key
def State.setChHold (s : State) (key : Nat) (x : Bool) : State :=
  { s with thermal := { s.thermal with hold := mapSet (fun _ => false) s.thermal.hold key x } }

/-- SENSOR of site n, `mis` for a mismatch (R508, R614). -/
def State.sensorEvent (s : State) (n : Nat) (mis : Bool) : State :=
  s.thmEvent 9 sevAlert (n + b2n mis * 2 ^ 8 + s.get F.THM_SITE_TEMP n * 2 ^ 16)

/-- Site n takes a reading (R508, R509): the higher diode, offset by the effective value, beside the last three. -/
def State.siteReading (s : State) (n : Nat) (raw : Int) : State :=
  let t := unsignedOf 16 (clampInt (-32768) 32767 (raw + s.siteOffset n))
  let s1 := ((s.set F.THM_SITE_TEMP n t).set F.THM_SITE_VALID n 1).siteClamp n
  { s1 with thermal := { s1.thermal with
      last := mapSet (fun _ => []) s1.thermal.last n (((s.time, t) :: mapGet (fun _ => []) s1.thermal.last n).take 4) } }

/-- Site n is converted: what converters give for diodes A and B in 1/16 °C after factory trim, none for an open or
shorted junction (R508). A channel that has changed converter holds its value for this interval (R511). -/
def State.convertSite (s : State) (n : Nat) (a b : Option Int) : State :=
  let key := 32 * (n / 24) + n % 24 / 3
  if s.chHold key then s
  else
    let bad := b2n a.isNone + 2 * b2n b.isNone
    let newBad := decide (Nat.land (s.get F.THM_SITE_DIODE_FAIL n) bad ≠ bad)
    let s1 := (s.set F.THM_SITE_STALE n 0).set F.THM_SITE_DIODE_FAIL n bad
    let s2 := match a, b with
      | none, none => ((s1.set F.THM_SITE_FAIL n 1).set F.THM_SITE_VALID n 0)
      | some x, none => (s1.set F.THM_SITE_FAIL n 0).siteReading n x
      | none, some y => (s1.set F.THM_SITE_FAIL n 0).siteReading n y
      | some x, some y =>
        let t := (s1.set F.THM_SITE_FAIL n 0).siteReading n (max x y)
        if 64 < x - y ∨ 64 < y - x then
          let u := t.set F.THM_SITE_MISMATCH n 1
          if t.flag F.THM_SITE_MISMATCH n then u else u.sensorEvent n true
        else t
    if newBad then s2.sensorEvent n false else s2

/-- The hottest of the sites `f` picks among column c's, none if none is valid. -/
def State.hottest (s : State) (sites : List Nat) : Option Int :=
  sites.foldl (fun (acc : Option Int) n =>
    match s.siteTemp n, acc with
    | some t, some u => some (max t u)
    | some t, none => some t
    | none, u => u) none

def colSites (c : Nat) : List Nat := (upTo 24).map fun k => 24 * c + k

/-! ### Measurement interval and bands (R509, R514, R515) -/

/-- A threshold field in 1/16 °C. -/
def State.limC (s : State) (f : Fld) : Int := 16 * (s.get f 0 : Int)

/-- The reading from which column intervals are fast (R509). -/
def State.fastLevel (s : State) : Int := min (s.limC F.THM_LIMITS_THROT_C) (s.limC F.THM_LIMITS_SHDN_C) - 160

/-- FAST of column c after an interval (R509). -/
def State.fastUpdate (s : State) (c : Nat) : State :=
  let temps := (colSites c).filterMap s.siteTemp
  let n := mapGet (fun _ => 0) s.thermal.cool c
  let put := fun (t : State) x => { t with thermal := { t.thermal with cool := mapSet (fun _ => 0) t.thermal.cool c x } }
  if temps.any fun t => decide (s.fastLevel ≤ t) then put (s.set F.THM_COL_FAST c 1) 0
  else if s.flag F.THM_COL_FAST c && temps.all fun t => decide (t ≤ s.fastLevel - 32) then
    if 15 ≤ n then put (s.set F.THM_COL_FAST c 0) 0 else put s (n + 1)
  else put s 0

/-- The lower bound of a band in 1/16 °C (R514). -/
def bandLower (i : Nat) : Int := [-32768, 0, 85 * 16, 110 * 16, 130 * 16].getD i 0

/-- The band that a hottest reading selects from band `old` (R514). -/
def bandFor (old : Nat) (t : Int) : Nat :=
  let up := ((upTo 5).filter fun i => decide (bandLower i ≤ t)).foldl max 0
  let down := ((upTo 5).filter fun i => i == 0 || decide (bandLower i - 48 ≤ t)).foldl max 0
  if old < up then up else min old down

/-- Column c enters another band, which CTX_REFRESH_c shows at once (R225, R514, R515); the interval follows with the next
refresh step (R214). -/
def State.enterBand (s : State) (c band : Nat) : State :=
  if s.get F.THM_COL_BAND c = band then s
  else
    let s1 := if s.powered (dCfg c) then s.set F.CTX_REFRESH_BAND c band else s
    ((s1.bandDividers c band).bandChangeTrims c).thmEvent 7 sevInfo (c + band * 2 ^ 4)

/-- The band of column c after an interval (R508, R514): B4 while a logic-tier site has failed. -/
def State.bandUpdate (s : State) (c : Nat) : State :=
  let fail := (colSites c).any fun n => isLogicSite n && s.flag F.THM_SITE_FAIL n
  let old := mapGet (fun _ => 1) s.thermal.band c
  let b := match s.hottest (colSites c) with
    | some t => bandFor old t
    | none => old
  let s1 := { s with thermal := { s.thermal with band := mapSet (fun _ => 1) s.thermal.band c b } }
  (s1.set F.THM_COL_SENS_FAIL c (b2n fail)).enterBand c (if fail then 4 else b)

/-! ### Throttling (R518 to R521) -/

/-- A bench's average power in mW over the preceding 1 ms (R281, R285, R519). -/
def State.avgMw (s : State) (b : Nat) : Nat :=
  let w := (mapGet (fun _ => []) s.tenancy.history b).take 1000
  w.foldl (· + ·) 0 / max 1 w.length

/-- The throttle level of column c. -/
def State.thrLevel (s : State) (c : Nat) : Nat := s.get F.THM_COL_LEVEL c

/-- PRIV as throttling sees it (R521). -/
def State.thrPriv (s : State) (b : Nat) : Bool := mapGet (fun _ => false) s.thermal.priv b

/-- The thermal level of a bench: the higher of L and H; a privileged bench that is not enforced has H alone (R519, R520,
R569). -/
def State.benchLevel (s : State) (b : Nat) : Nat :=
  let l := s.thrLevel (benchCol b)
  if s.thrPriv b && !s.flag F.THM_BENCH_ENFORCED b then s.thermal.h else max l s.thermal.h

def State.setBenchLevel (s : State) (b : Nat) : State := s.set F.THM_BENCH_LEVEL b (s.benchLevel b)

/-- The benches of column c. -/
def colBenches (c : Nat) : List Nat := (upTo 16).map fun i => 16 * c + i

/-- REF_MW is latched. -/
def State.latchRef (s : State) (b : Nat) : State := s.set F.THM_BENCH_REF_REF_MW b (min 0xFFFF (s.avgMw b))

/-- The column's L leaves 0 (R519, R520): REF_MW is latched unless H has latched it already; a privileged bench enters
grace. -/
def State.throttleStart (s : State) (b : Nat) : State :=
  let priv := s.flag F.BENCH_ASSIGN_PRIV b
  let s1 := { s with thermal := { s.thermal with priv := mapSet (fun _ => false) s.thermal.priv b priv } }
  let s2 := if s1.thermal.h = 0 then s1.latchRef b else s1
  if priv then
    (((s2.set F.THM_BENCH_GRACE b 1).set F.THM_BENCH_REF_TARGET_MW b
      (s2.get F.THM_BENCH_REF_REF_MW b * s2.get F.THM_PRIV_CTL_PRIV_TGT 0 / 8)).thmEvent 5 sevInfo b).startTimer (tmGrace b)
  else s2

/-- The column's L returns to 0 (R520): GRACE, EXEMPT and ENFORCED clear. -/
def State.throttleEnd (s : State) (b : Nat) : State :=
  let s1 := ((s.set F.THM_BENCH_GRACE b 0).set F.THM_BENCH_EXEMPT b 0).set F.THM_BENCH_ENFORCED b 0
  { s1 with thermal := { s1.thermal with priv := mapSet (fun _ => false) s1.thermal.priv b false } }

/-- L of column c becomes `l` (R518): THROTTLE when it leaves 0 or returns to 0. -/
def State.throttleTo (s : State) (c l : Nat) : State :=
  let old := s.thrLevel c
  if l = old then s
  else
    let s1 := s.set F.THM_COL_LEVEL c l
    let s2 := if old = 0 then (colBenches c).foldl State.throttleStart s1
      else if l = 0 then (colBenches c).foldl State.throttleEnd s1 else s1
    let s3 := (colBenches c).foldl State.setBenchLevel s2
    if old = 0 ∨ l = 0 then s3.thmEvent 4 sevNotice (c + l * 2 ^ 4) else s3

/-- What the evaluation of column c's hottest logic-tier reading does to throttling (R518). -/
def State.throttleEval (s : State) (c : Nat) : State :=
  match s.hottest ((colSites c).filter isLogicSite) with
  | none => s
  | some t =>
    let hi := s.limC F.THM_LIMITS_THROT_C
    let lo := hi - s.limC F.THM_LIMITS_THROT_HYST
    let z := if hi ≤ t then 1 else if t < lo then 2 else 0
    let old := mapGet (fun _ => 0) s.thermal.zone c
    let s1 := { s.set F.THM_COL_HOT_L_C c (unsignedOf 16 t) with
      thermal := { s.thermal with zone := mapSet (fun _ => 0) s.thermal.zone c z } }
    if z = 1 ∧ old ≠ 1 then (s1.startTimer (tmRise c)).throttleTo c (min 8 (s1.thrLevel c + 1))
    else if z = 2 ∧ old ≠ 2 then s1.startTimer (tmFall c)
    else s1

/-- THROTTLE_RISE_TIMER (R518): 500 µs on, with the reading still at or above THROT_C. -/
def execThrottleRiseTimer (c : Nat) (s : State) : Host.Outcome State Fault Refusal :=
  .next (if c < 4 ∧ s.powered 4 = true ∧ mapGet (fun _ => 0) s.thermal.zone c = 1 ∧ s.timerDue (tmRise c) 500000 = true then
    (s.startTimer (tmRise c)).throttleTo c (min 8 (s.thrLevel c + 1))
  else s)

/-- THROTTLE_RECOVERY_TIMER (R518): 5 ms on, with the reading still below the hysteresis level. -/
def execThrottleRecoveryTimer (c : Nat) (s : State) : Host.Outcome State Fault Refusal :=
  .next (if c < 4 ∧ s.powered 4 = true ∧ mapGet (fun _ => 0) s.thermal.zone c = 2 ∧ s.timerDue (tmFall c) 5000000 = true then
    (s.startTimer (tmFall c)).throttleTo c (s.thrLevel c - 1)
  else s)

/-- A privileged bench is compared with its target: exempt, or enforced with ENFORCE (R520). -/
def State.privCompare (s : State) (b : Nat) : State :=
  let s1 := s.set F.THM_BENCH_GRACE b 0
  if s.avgMw b ≤ s.get F.THM_BENCH_REF_TARGET_MW b then (s1.set F.THM_BENCH_EXEMPT b 1).startTimer (tmExempt b)
  else (((s1.set F.THM_BENCH_EXEMPT b 0).set F.THM_BENCH_ENFORCED b 1).setBenchLevel b).thmEvent 6 sevNotice b

/-- GRACE_END (R520): GRACE_MS after its grace began. -/
def execGraceEnd (b : Nat) (s : State) : Host.Outcome State Fault Refusal :=
  .next (if b < 64 ∧ s.powered 4 = true ∧ s.flag F.THM_BENCH_GRACE b = true
      ∧ s.timerDue (tmGrace b) (1000000 * s.get F.THM_PRIV_CTL_GRACE_MS 0) = true then s.privCompare b else s)

/-- EXEMPT_CHECK (R520): every 500 µs while L is above 0. -/
def execExemptCheck (b : Nat) (s : State) : Host.Outcome State Fault Refusal :=
  .next (if b < 64 ∧ s.powered 4 = true ∧ s.flag F.THM_BENCH_EXEMPT b = true
      ∧ s.timerDue (tmExempt b) 500000 = true then s.privCompare b else s)

/-- THERMAL_LEVEL_UPDATE (R519): every 1 µs, under the rule of R285 against REF_MW × (8 − level) ÷ 8; at level 0 the
suppression level falls by 1. -/
def execThermalLevelUpdate (b : Nat) (s : State) : Host.Outcome State Fault Refusal :=
  .next (if b < 64 ∧ s.powered 4 = true ∧ s.benchUp b = true then
    let lvl := s.get F.THM_BENCH_LEVEL b
    let lim := s.get F.THM_BENCH_REF_REF_MW b * (8 - lvl)
    let w := s.capWindow b (mapGet (fun _ => []) s.tenancy.history b)
    let e := w.1 * 8
    let l := s.thermSup b
    let l' := if lvl = 0 then l - 1
      else if lim * w.2 < e then min 15 (l + 1) else if e * 16 ≤ lim * w.2 * 15 then l - 1 else l
    { s with thermal := { s.thermal with sup := mapSet (fun _ => 0) s.thermal.sup b l' } }
  else s)

/-! ### Warning and shutdown (R516, R522 to R525) -/

/-- The sites that read the highest of all, lowest site first. -/
def State.hotSites (s : State) : List Nat :=
  match s.hottest (upTo 96) with
  | none => []
  | some t => (upTo 96).filter fun n => s.siteTemp n == some t

/-- HOT_SITE and HOT_C (R535); among sites that read alike the spec names none (log entry 57). -/
def State.hotUpdate (s : State) : State :=
  match s.hotSites with
  | [] => s
  | n :: rest =>
    let r := s.fresh 7
    let k := if rest.isEmpty then n else (n :: rest).getD (r.1 % (rest.length + 1)) n
    let t := if rest.isEmpty then s else r.2
    (t.set F.THM_STAT_HOT_SITE 0 k).set F.THM_STAT_HOT_C 0 (s.get F.THM_SITE_TEMP k)

/-- The warning (R516). -/
def State.warnEval (s : State) : State :=
  match s.hottest (upTo 96) with
  | none => s
  | some t =>
    if s.flag F.THM_STAT_WARN 0 then
      if t < s.limC F.THM_LIMITS_WARN_C - s.limC F.THM_LIMITS_WARN_HYST then s.set F.THM_STAT_WARN 0 0 else s
    else if s.limC F.THM_LIMITS_WARN_C ≤ t then
      (s.set F.THM_STAT_WARN 0 1).thmEvent 3 sevNotice
        (s.get F.THM_STAT_HOT_SITE 0 + s.get F.THM_STAT_HOT_C 0 * 2 ^ 16)
    else s

/-- The projected time to 160 °C from the rise over a site's last readings exceeds 2 ms, or they do not rise (R522). -/
def slowRise (l : List (Nat × Nat)) : Bool :=
  match l.head?, l.getLast? with
  | some new, some old =>
    let rise := signedOf 16 new.2 - signedOf 16 old.2
    decide (rise ≤ 0 ∨ 2000000 * rise < (2560 - signedOf 16 new.2) * ((new.1 - old.1 : Nat) : Int))
  | _, _ => true

/-- The domains that a shutdown takes down, in descending d (R523). -/
def shutDomains : List Nat := (upTo 84).map fun i => 96 - i

/-- A shutdown takes the domains down (R523, R524): the benches at once if immediate, else the steps of `shutNext` follow the
offline edge of every bench, which `detail` says is the first of this shutdown. -/
def State.takeDown (s : State) (imm : Bool) (detail : Option Nat) : State :=
  if (upTo 84).all fun i => s.domSt (13 + i) == pdOff && !s.power.rampWait.contains (13 + i) then s
  else if imm then
    let s1 := (shutDomains.filter fun d => decide (33 ≤ d)).foldl (fun s d => s.gateNow d) s
    (shutDomains.filter fun d => decide (d < 33)).foldl (fun s d => s.forceDown d) s1
  else
    let s1 := { s with power := { s.power with
        shutWait := shutDomains, shutLog := if detail.isSome then detail else s.power.shutLog } }
    ((upTo 64).foldl (fun s b => if s.online b then s.deviceCmd b .offline 0 false false false true else s) s1).shutNext

/-- A thermal shutdown starts (R522, R525, R635). -/
def State.shutStart (s : State) : State :=
  let n := s.get F.THM_STAT_HOT_SITE 0
  let imm := s.flag F.THM_SHDN_MODE_MODE 0 || s.floorReset != 0 || !slowRise (mapGet (fun _ => []) s.thermal.last n)
  let s1 := (s.set F.THM_STAT_SHDN 0 1).set F.THM_STAT_SHDN_IMM 0 (b2n imm)
  let detail := n + b2n imm * 2 ^ 8 + s.get F.THM_STAT_HOT_C 0 * 2 ^ 16
  let s2 := ((s1.raise 75 8).raiseVec 0 2).alertEvent
  if imm then (s2.wlog 0x0815 75 sevFatal detail).takeDown true none else s2.takeDown false (some detail)

/-- The shutdown threshold (R516, R522, R525). -/
def State.shutEval (s : State) : State :=
  match s.hottest (upTo 96) with
  | none => s
  | some t =>
    if s.limC F.THM_LIMITS_SHDN_C ≤ t then
      let s1 := { s with thermal := { s.thermal with shut := true } }
      if s.thermal.shut then s1.takeDown (s.flag F.THM_STAT_SHDN_IMM 0) none else s1.shutStart
    else { s with thermal := { s.thermal with shut := false } }

/-- The end of a measurement interval of column c: its sites' readings, then bands and thresholds (R509). -/
def State.measure (s : State) (c : Nat) (rd : List (Option Int × Option Int)) : State :=
  let s1 := (upTo 24).foldl (fun s k => match rd[k]? with
    | some (a, b) => s.convertSite (24 * c + k) a b
    | none => s) s
  let s2 := (upTo 8).foldl (fun s g => s.setChHold (32 * c + g) false) s1
  ((((((s2.fastUpdate c).bandUpdate c).throttleEval c).hotUpdate).warnEval).shutEval).shutNext

/-- MEASUREMENT_INTERVAL (R509): `rd` is what the converters give for the diodes of the 24 sites. -/
def execMeasurementInterval (c : Nat) (rd : List (Option Int × Option Int)) (s : State) : Host.Outcome State Fault Refusal :=
  .next (if c < 4 ∧ s.powered 4 = true then s.measure c rd else s)

/-- HARDWARE_TRIP (R526): diode A of logic-tier or floor site n reaches 160 °C. The comparator lies in PD_AON. -/
def execHardwareTrip (n : Nat) (s : State) : Host.Outcome State Fault Refusal :=
  .next (if n < 96 ∧ (n % 24 < 16 ∨ 20 ≤ n % 24) ∧ s.powered 0 = true then
    let s1 := (((upTo 72).map fun i => 96 - i).filter fun d => decide (25 ≤ d)).foldl (fun s d => s.gateNow d) s
    let s2 := if s1.power.tripped then s1 else { s1 with power := { s1.power with tripped := true } }.emit .thermtrip
    s2.wlog 0x0817 75 sevFatal n
  else s)

/-! ### Converters (R511) -/

/-- The calibrator gives site n a background value, unless the host has written one meanwhile (R512, R513). -/
def State.siteFound (s : State) (n v : Nat) : State :=
  let s1 := if (s.calVal 4 n).keep then s else (s.set F.THM_SITE_CAL_BACKGROUND n v).siteClamp n
  s1.calFound 4 n 0

/-- CONVERTER_ROTATE (R511): channel `ch` of a bank takes the converter that was out, whose calibration has found the
background values `bgs`; its own goes out, and a new evaluation begins. Banks 0 to 3 are the columns' eight groups of three sites, bank 4 the rails. -/
def execConverterRotate (bank ch : Nat) (bgs : List Nat) (s : State) : Host.Outcome State Fault Refusal :=
  .next (if s.powered 4 = true ∧ bank < 5 ∧ ch < (if bank = 4 then 18 else 8) then
    let key := 32 * bank + ch
    let spare := if bank = 4 then 18 else 8
    let out := mapGet (fun _ => spare) s.thermal.convOut bank
    let mine := mapGet (fun k => k % 32) s.thermal.convs key
    let s1 := { s with thermal := { s.thermal with
      convs := mapSet (fun k => k % 32) s.thermal.convs key out
      convOut := mapSet (fun _ => spare) s.thermal.convOut bank mine } }
    let s2 := s1.setChHold key true
    if bank = 4 then
      let s3 := s2.set F.TEL_RAIL_STALE (ch % 9) 1
      (match bgs.head? with
      | some v => s3.calFound 5 out v
      | none => s3).calStart 5 mine
    else
      let s3 := (upTo 3).foldl (fun s j =>
        let n := 24 * bank + 3 * ch + j
        let t := s.set F.THM_SITE_STALE n 1
        match bgs[j]? with
        | some v => t.siteFound n v
        | none => t) s2
      (upTo 24).foldl (fun s j => s.calStart 4 (24 * bank + j)) s3
  else s)

/-! ### Rails and the level H (R528, R529, R569) -/

/-- Readings in a row above the bound of rail n, 9 for device power. -/
def State.excessOf (s : State) (n : Nat) : Nat := mapGet (fun _ => 0) s.thermal.excess n
def State.setExcess (s : State) (n x : Nat) : State :=
  { s with thermal := { s.thermal with excess := mapSet (fun _ => 0) s.thermal.excess n x } }

/-- The excess of a quantity that H follows: VDD_CFG, VDD_LOGIC or device power (R569). -/
def hQuantities : List Nat := [3, 5, 9]
def State.hExcess (s : State) : Bool := hQuantities.any fun n => decide (3 ≤ s.excessOf n)

/-- H becomes `x`: REF_MW is latched when the higher of L and H leaves 0 (R569). -/
def State.setH (s : State) (x : Nat) : State :=
  let s1 := if s.thermal.h = 0 ∧ 0 < x then
      (upTo 64).foldl (fun s b => if s.thrLevel (benchCol b) = 0 then s.latchRef b else s) s else s
  (upTo 64).foldl State.setBenchLevel { s1 with thermal := { s1.thermal with h := x } }

/-- The reading of quantity n and its bound, in R564's units scaled alike: mW for device power. -/
def State.limReading (s : State) (n : Nat) : Nat :=
  if n = 9 then s.get F.TEL_PWR_TOTAL_MW 0 else s.get F.TEL_RAIL_CURRENT n
def State.limBound (s : State) (n : Nat) : Nat := if n = 9 then 1000 * s.hluEff 9 else s.hluEff n

/-- Whether every reading that H follows stays below 95 % of its bound (R569). -/
def State.hClear (s : State) : Bool := hQuantities.all fun n => decide (100 * s.limReading n < 95 * s.limBound n)

/-- One reading of quantity n against its bound; the third excess in a row acts (R569). -/
def State.limitCheck (s : State) (n : Nat) : State :=
  if s.limBound n < s.limReading n then
    let x := s.excessOf n + 1
    if s.excessOf n < 3 ∧ x = 3 then
      let before := s.hExcess
      let v := if n = 9 then s.limReading 9 / 1000 else s.limReading n
      let s1 := (((s.setExcess n 3).alertEvent).raise 75 (if n = 9 then 11 else 10)).wlog 0x0903 178 sevAlert
        (n + v % 2 ^ 16 * 2 ^ 16)
      if hQuantities.contains n && !before then (s1.startTimer tmHUp).setH (min 8 (s1.thermal.h + 1)) else s1
    else s.setExcess n (min 3 x)
  else
    let s1 := s.setExcess n 0
    if s.excessOf n = 3 ∧ s1.alertHeld = false then s1.emit (.alert false) else s1

/-- A rail's reading: voltage in mV and current in 100 mA; a channel that has changed converter holds (R511, R528). -/
def State.railReading (s : State) (n mv ca : Nat) : State :=
  let s1 := if s.chHold (128 + n) then s else s.set F.TEL_RAIL_VOLT_MV n mv
  let s2 := if s.chHold (137 + n) then s1 else s1.set F.TEL_RAIL_CURRENT n ca
  let held := s.chHold (128 + n) || s.chHold (137 + n)
  ((s2.set F.TEL_RAIL_STALE n (b2n held)).setChHold (128 + n) false).setChHold (137 + n) false

/-- The sum of voltage × current over the rails in mW (R528). -/
def State.railPower (s : State) : Nat :=
  ((upTo 9).map fun n => s.get F.TEL_RAIL_VOLT_MV n * s.get F.TEL_RAIL_CURRENT n).foldl (· + ·) 0 / 10

/-- TEL_PWR is formed; a sum beyond its field is a free value (log entry 57). -/
def State.setPower (s : State) : State :=
  if s.railPower < 2 ^ 20 then s.set F.TEL_PWR_TOTAL_MW 0 s.railPower
  else let r := s.fresh 20; r.2.set F.TEL_PWR_TOTAL_MW 0 r.1

/-- Energy of a tier of a column since the last measurement (R529). -/
def State.tierEnergy (s : State) (k uj : Nat) : State :=
  { s with thermal := { s.thermal with
      tiers := mapSet (fun _ => 0) s.thermal.tiers k (mapGet (fun _ => 0) s.thermal.tiers k + uj) } }

/-- A tier's energy in mJ, 64 bits. -/
def State.tierMj (s : State) (k : Nat) : Nat := mapGet (fun _ => 0) s.thermal.tiers k / 1000 % 2 ^ 64

/-- RAIL_MEASURE (R528, R529, R569): the readings of rails 0 to 8 as (mV, 100 mA), and the energies in µJ that the memory
and configuration tier of each column have drawn since the last measurement, at 2c and 2c + 1. -/
def execRailMeasure (rails : List (Nat × Nat)) (tiers : List Nat) (s : State) : Host.Outcome State Fault Refusal :=
  .next (if s.powered 4 then
    let s1 := (upTo 9).foldl (fun s n => match rails[n]? with
      | some (mv, ca) => s.railReading n mv ca
      | none => s) s
    let s2 := (upTo 8).foldl (fun s k => s.tierEnergy k (tiers.getD k 0)) s1.setPower
    let s3 := (upTo 10).foldl State.limitCheck s2
    if s3.hClear then s3 else s3.startTimer tmHDown
  else s)

/-- HLU_LEVEL_TIMER (R569): 500 µs on during an excess H rises; 5 ms on with every reading below 95 % of its bound it
falls. -/
def execHluLevelTimer (s : State) : Host.Outcome State Fault Refusal :=
  .next (if s.powered 4 = false then s
    else if s.hExcess then
      if s.timerDue tmHUp 500000 then (s.startTimer tmHUp).setH (min 8 (s.thermal.h + 1)) else s
    else if s.hClear && s.timerDue tmHDown 5000000 then (s.startTimer tmHDown).setH (s.thermal.h - 1)
    else s)

end Sys2Proof.Machine
end

