-- ==== Sys2Proof/Machine/Hlu.lean ====
section
/-!
DEFINITION. The hardware limit unit (R563 to R568): layer writes, what a tightened bound does to live fields, and the
thermal limits that it bounds.
-/

namespace Sys2Proof.Machine

/-- Each rewrite of a live field is logged (R567). -/
def State.hluLog (s : State) (q : Nat) : State := s.wlog 0x0902 178 sevInfo q

/-- A live field above the bound of quantity q is rewritten to it, while its domain is up. -/
def State.hluLower (s : State) (q : Nat) (f : Fld) (i : Nat) : State :=
  if s.powered (regDomain f.reg i) && decide (s.hluEff q < s.get f i) then (s.set f i (s.hluEff q)).hluLog q else s

/-- Lane n is set to OFF, with every lane of its Ethernet port (R567). -/
def State.laneOff (s : State) (q n : Nat) : State :=
  let o := n / 8
  let h := s.laneHead n
  let old := (s.reg .ETH_OCT_CFG o).toNat
  if s.laneUp n && s.laneMode n != 0 then
    let v := (upTo (s.portWidth n)).foldl (fun v i => putBits v (4 * ((h + i) % 8)) 4 0) old
    (upTo (s.portWidth n)).foldl (fun s _ => s.hluLog q) (s.octApply o (BitVec.ofNat 32 v))
  else s

/-- The new bound of quantity q applies to the live fields (R567). -/
def State.hluApply (s : State) (q : Nat) : State :=
  if q = 10 then (upTo 64).foldl (fun s b => s.hluLower 10 F.BENCH_PCAP_CAP_MW b) s
  else if q = 11 ∨ q = 12 then
    (upTo 32).foldl (fun s i => if bitOf (s.hluEff q) i = 0 then s.laneOff q (32 * (q - 11) + i) else s) s
  else if q = 13 then (upTo 64).foldl (fun s n => s.hluLower 13 F.LANE_TX_SWING_MV n) s
  else if q = 14 then
    let oe := s.get F.DBG_GPIO_OE_OE 0
    if hluWithin 14 oe (s.hluEff 14) || !s.powered 5 then s
    else (s.set F.DBG_GPIO_OE_OE 0 (Nat.land oe (s.hluEff 14))).hluLog 14
  else if q = 15 then s.hluLower 15 F.THM_LIMITS_SHDN_C 0
  else if q = 16 then (upTo 4).foldl (fun s c => s.hluLower 16 F.BENCH_SURGE_CTL_SURGE_MAX c) s
  else if q = 17 then
    let s1 := if bitOf (s.hluEff 17) 0 = 0 ∧ s.flag F.DBG_TMUX_STAT_UNLOCKED 0 = true then
        (s.set F.DBG_TMUX_STAT_UNLOCKED 0 0).hluLog 17 else s
    if bitOf (s.hluEff 17) 1 = 0 then
      (upTo 2).foldl (fun s i => if s.flag F.CLK_OUT_EN i then (s.set F.CLK_OUT_EN i 0).hluLog 17 else s) s1
    else s1
  else if q = 18 then s.reclampTrims
  else if q = 19 then (upTo 96).foldl State.siteClamp s
  else s

/-- A layer write of quantity q that would make the surge limit smaller than the largest gang of some column (R567). -/
def State.surgeTooSmall (s : State) (q : Nat) : Bool :=
  q == 16 && (upTo 4).any fun c => decide (s.hluEff 16 < s.largestGang c)

/-- A board layer write (R565, R567, R568): only from a PCIe end point, only before LOCK, not looser than the absolute
layer, and not below the largest gang. -/
def State.boardWrite (s : State) (src : Src) (q : Nat) (v : Word) : State :=
  let s1 := s.setReg .HLU_BOARD q v
  let ok := match src with
    | .pf _ => true
    | _ => false
  if !ok || s.flag F.HLU_CTL_LOCK 0 || !hluWithin q v.toNat (hluAbs q) || s1.surgeTooSmall q then s.hluRefuse q (srcCode src)
  else s1.hluApply q

/-- HLU_BOARD_WRITE (R565). The HLU refuses and counts what other haul sources write. -/
def execHluBoardWrite (src : Src) (q : Nat) (v : Word) (s : State) : Host.Outcome State Fault Refusal :=
  .next (if s.mayWrite src .HLU_BOARD q = true ∨ (src = .other ∧ validInst .HLU_BOARD q = true) then
    s.boardWrite src q v
  else s)

/-- Writes on the private bus to the HLU are blocked: from HALT of a restart to its OPEN (R546). -/
def State.fwBlocked (s : State) : Bool := s.fw.restarting || s.flag F.MBX_FW_STAT_FAILED 0

/-- A firmware layer write (R566 to R568): within the board layer. The second part says how it was refused: 1 looser than
the board layer, 2 the surge limit. -/
def State.fwLayerWrite (s : State) (q v : Nat) : State × Nat :=
  let s1 := s.setReg .HLU_FW q (BitVec.ofNat 32 v)
  if hluWithin q v (s.get F.HLU_BOARD_VALUE q) = false then (s.hluRefuse q 2, 1)
  else if s1.surgeTooSmall q then (s.hluRefuse q 2, 2)
  else (s1.hluApply q, 0)

/-- A HLU_CTL write (R575): the first one sets LOCK to what it carries, and later ones are ignored until PD_AON's next
power-on reset (RWO, R8). A LOCK that OTP set (R565) holds in the same way. -/
def State.hluCtlWrite (s : State) (v : Word) : State :=
  if s.thermal.lockUsed || s.flag F.HLU_CTL_LOCK 0 then s
  else { s.set F.HLU_CTL_LOCK 0 (fldOf F.HLU_CTL_LOCK v) with thermal := { s.thermal with lockUsed := true } }

/-- HLU_LOCK (R575). -/
def execHluLock (src : Src) (v : Word) (s : State) : Host.Outcome State Fault Refusal :=
  .next (if s.mayWrite src .HLU_CTL 0 then s.hluCtlWrite v else s)

/-! ### Thermal limits (R517, R532, R534) -/

/-- Whether a THM_LIMITS word is refused for a reason other than the HLU's (R517). -/
def State.limitsBad (s : State) (v : Word) : Bool :=
  decide (s.get F.THM_LIMITS_SHDN_C 0 < fldOf F.THM_LIMITS_SHDN_C v
    ∨ fldOf F.THM_LIMITS_THROT_C v < fldOf F.THM_LIMITS_WARN_C v
    ∨ fldOf F.THM_LIMITS_SHDN_C v < fldOf F.THM_LIMITS_THROT_C v)

/-- A THM_LIMITS write (R517, R532): a hysteresis of 0 reads back as 1. -/
def State.limitsWrite (s : State) (src : Nat) (v : Word) : State :=
  if s.hluEff 15 < fldOf F.THM_LIMITS_SHDN_C v then (s.set F.THM_STAT_LIM_ERR 0 1).hluRefuse 15 src
  else if s.limitsBad v then s.set F.THM_STAT_LIM_ERR 0 1
  else
    let s1 := s.setReg .THM_LIMITS 0 v
    let s2 := if fldOf F.THM_LIMITS_THROT_HYST v = 0 then s1.set F.THM_LIMITS_THROT_HYST 0 1 else s1
    if fldOf F.THM_LIMITS_WARN_HYST v = 0 then s2.set F.THM_LIMITS_WARN_HYST 0 1 else s2

/-- THM_LIMITS_WRITE (R517). -/
def execThmLimitsWrite (src : Src) (v : Word) (s : State) : Host.Outcome State Fault Refusal :=
  .next (if s.mayWrite src .THM_LIMITS 0 then s.limitsWrite (srcCode src) v else s)

/-- A THM_PRIV_CTL write: GRACE_MS 1 to 100, PRIV_TGT 0 reads back as 1 (R534). -/
def State.privCtlWrite (s : State) (v : Word) : State :=
  (s.set F.THM_PRIV_CTL_GRACE_MS 0 (clampNat 1 100 (fldOf F.THM_PRIV_CTL_GRACE_MS v))).set
    F.THM_PRIV_CTL_PRIV_TGT 0 (max 1 (fldOf F.THM_PRIV_CTL_PRIV_TGT v))

end Sys2Proof.Machine
end

