-- ==== Sys2Proof/Machine/RegRead.lean ====
section
/-!
DEFINITION. What a read of a register returns: the register file, with the registers that show state kept elsewhere
computed from it; and the reads of LO registers that latch HI (R195, R283, R540).
-/

namespace Sys2Proof.Machine

/-- A word with one field replaced. -/
def putFld (f : Fld) (v x : Nat) : Nat := putBits v f.lo f.w x

/-- Device time in ns for which plane p of bench b has been active, k = 8b + p (R195). -/
def State.planeTime (s : State) (k : Nat) : Nat :=
  let done := mapGet (fun _ => 0) s.planes.active k
  if s.online (k / 8) ∧ s.get F.BENCH_PLANE_STAT_ACTIVE (k / 8) = k % 8 then
    (done + s.sinceEdge (k / 8)) % 2 ^ 64
  else done % 2 ^ 64

/-- The 64-bit counter behind a LO register, its HI register, if it is one of R195, R283 or R540. -/
def State.wideCount (s : State) (r : Reg) (i : Nat) : Option (Nat × Reg) :=
  match r with
  | .BENCH_PLANE_TIME_LO => some (s.planeTime i, .BENCH_PLANE_TIME_HI)
  | .BENCH_TALLY_LO => some (s.tallyTotal i, .BENCH_TALLY_HI)
  | .BENCH_TALLY_IDLE_LO => some (s.tallyMj i 8, .BENCH_TALLY_IDLE_HI)
  | .BENCH_TALLY_PLANE_LO => some (s.tallyMj (i / 8) (i % 8), .BENCH_TALLY_PLANE_HI)
  | .TEL_MEM_E_LO => some (s.tierMj (2 * i), .TEL_MEM_E_HI)
  | .TEL_CFG_E_LO => some (s.tierMj (2 * i + 1), .TEL_CFG_E_HI)
  | _ => none

/-- Whether the test multiplexer pins drive (R609, R651). -/
def State.tmuxDrives (s : State) : Bool :=
  s.flag F.DBG_TMUX_STAT_UNLOCKED 0 && s.side.dbgEn && bitOf (s.hluEff 17) 0 == 1

/-- Registers of benches and columns that show state kept elsewhere. -/
def State.readBench (s : State) (r : Reg) (i w : Nat) : Nat :=
  match r with
  | .BENCH_DLYMON_VAL => s.readDlymonVal i
  | .BENCH_DLYMON_WORST => s.readDlymonWorst i
  | .MEMT_BLK_STAT => s.readBlkStat
  | .MEMT_REMAP_VAL => s.readRemapVal
  | .MEMT_FLIP_2 => putFld F.MEMT_FLIP_2_PENDING w s.readFlipPending
  | .HOP_STAT => s.readHopStat i
  | .HOP_COUNT => s.readHopCount i
  | .BENCH_PLANE_STAT => putFld F.BENCH_PLANE_STAT_GANG_MEMBER w (b2n (s.inGang i && s.leaderOf i != i))
  | .CTX_STAT => putFld F.CTX_STAT_BUSY w (b2n (s.ctxBusy i))
  | .BENCH_PCAP_STAT =>
    2 ^ 31 * b2n (decide (0 < s.capLevel i ∧ s.thermSup i ≤ s.capLevel i)) + s.suppr i
  | .BENCH_RING_CTL => putFld F.BENCH_RING_CTL_FULL w (b2n (s.ringFullBit i))
  | .PF_RING_CTL => putFld F.PF_RING_CTL_FULL w (b2n (s.ringFullBit 64))
  | .CTX_SCRUB_STAT => putFld F.CTX_SCRUB_STAT_REPORT_ONLY w (b2n (votedRo (s.shownScrub i)))
  | .CTX_SCRUB_MASK => putFld F.CTX_SCRUB_MASK_BENCH_EN w (votedEn (s.shownScrub i))
  | .CTX_SCRUB_BENCH => putFld F.CTX_SCRUB_BENCH_NO_HOME w (s.noHome i)
  | .BENCH_HPORT_STAT => s.readHportStat i
  | _ => w

/-- Registers of the routers, clocks, limits, mailboxes, recorder and pins that show state kept elsewhere. -/
def State.readDevice (s : State) (r : Reg) (i w : Nat) : Nat :=
  match r with
  | .CAL_BORE_TRIM => s.readTrim i
  | .CAL_BORE_STAT => s.readGroupStat i
  | .CAL_BORE_SPARE => s.readSpare i
  | .CAL_BORE_LIMIT => s.hluEff 18
  | .HN_RT_ENT =>
    if 22 < s.get F.HN_RT_SEL_DEST i then 0
    else s.routeEntry i (s.get F.HN_RT_SEL_BANK i) (s.get F.HN_RT_SEL_DEST i)
  | .HN_RTR_EPOCH => let e := 1 - s.get F.HN_EPOCH_STAT_CUR 0
    mapGet (fun _ => 0) s.haul.inside (2 * i + e) + s.bridgeHeads i e
  | .CLK_FAB => putFld F.CLK_FAB_IN_USE w (b2n (s.nodeInUse i))
  | .THM_SITE_CAL =>
    putFld F.THM_SITE_CAL_EFFECTIVE (putFld F.THM_SITE_CAL_FACTORY w (Config.calFactory 4 i).toNat)
      (unsignedOf 8 (s.siteOffset i))
  | .MBX_STATUS => putFld F.MBX_STATUS_FW_UP w (s.get F.MBX_FW_STAT_FW_UP 0)
  | .HLU_EFF => s.hluEff i
  | .PWR_RAIL_STAT => putFld F.PWR_RAIL_STAT_UP w s.power.railsUp
  | .PWR_RST_STAT => putFld F.PWR_RST_STAT_BUSY w (b2n (s.floorReset != 0))
  | .WPL_STAT =>
    putFld F.WPL_STAT_NEWEST_R (putFld F.WPL_STAT_REC_ANY w (b2n s.recAny)) (if s.recAny then s.wpl.newest else 7)
  | .WPL_REC_TIME_LO => (s.wplRecord i).time
  | .WPL_REC_TIME_HI => (s.wplRecord i).time / 2 ^ 32
  | .WPL_REC_INFO =>
    let x := s.wplRecord i
    b2n x.valid * 2 ^ 31 + x.seq % 128 * 2 ^ 24 + x.trigger % 4 * 2 ^ 16 + x.cause % 2 ^ 16
  | .WPL_REC_ENTRIES => (s.wplRecord i).entries.length
  | .DBG_GPIO_IN =>
    let oe := s.get F.DBG_GPIO_OE_OE 0
    Nat.lor (Nat.land oe (s.get F.DBG_GPIO_OUT_OUT 0)) (Nat.land (2 ^ 32 - 1 - oe) (Config.gpioLevel s.time).toNat)
  | .DBG_TMUX_STAT =>
    putFld F.DBG_TMUX_STAT_DRIVING (putFld F.DBG_TMUX_STAT_HLU_OK (putFld F.DBG_TMUX_STAT_DBG_EN w (b2n s.side.dbgEn))
      (bitOf (s.hluEff 17) 0)) (b2n s.tmuxDrives)
  | _ => s.readBench r i w

/-- What a read of instance i of register r returns while its domain is powered. -/
def State.readReg (s : State) (r : Reg) (i : Nat) : Word :=
  match s.wideCount r i with
  | some x => BitVec.ofNat 32 x.1
  | none => BitVec.ofNat 32 (s.readDevice r i (s.reg r i).toNat)

/-- A register as the controller reads it for a response: of a domain that is down the spec states no value, and it is
free (log entry 59). -/
def State.readOut (s : State) (r : Reg) (i : Nat) : Nat × State :=
  if s.powered (regDomain r i) then ((s.readReg r i).toNat, s) else s.fresh 32

/-- Registers in order, as the little-endian bytes of a response. -/
def State.readOuts (s : State) : List (Reg × Nat) → List Byte × State
  | [] => ([], s)
  | x :: l =>
    let a := s.readOut x.1 x.2
    let z := a.2.readOuts l
    (leBytes 4 a.1 ++ z.1, z.2)

/-! ### Reads that latch (R195, R283, R540) -/

/-- Whether a source reads a register: as for a write, but a VF reads all of its bench's control block while FN is 0, with
the registers that its chapter lists for it (R258, R259). -/
def State.mayRead (s : State) (src : Src) (r : Reg) (i : Nat) : Bool :=
  validInst r i && s.powered (regDomain r i) &&
    match src with
    | .pf x => s.barsServed x
    | .fw => true
    | .vf n => s.barsServed (s.vfPort n) && vfAccess r != .none && benchOfInst r i == n && s.get F.BENCH_ASSIGN_FN n == 0
    | .other => false

/-- A read of a LO register latches the counter's upper half in its HI register. -/
def State.latchHi (s : State) (r : Reg) (i : Nat) : State :=
  match s.wideCount r i with
  | some x => s.setReg x.2 i (BitVec.ofNat 32 (x.1 / 2 ^ 32))
  | none => s

/-- READING_LO_LATCHES_HI (R283). -/
def execReadingLoLatchesHi (src : Src) (r : Reg) (i : Nat) (s : State) : Host.Outcome State Fault Refusal :=
  .next (if s.mayRead src r i then s.latchHi r i else s)

end Sys2Proof.Machine
end

