-- ==== Sys2Proof/Machine/BarRead.lean ====
section
/-!
DEFINITION. BAR reads of registers and buffers (R9, R259, R420 to R424, R550, R619, R672): what stands at an offset of the PF
window or of a VF's.
-/

namespace Sys2Proof.Machine

/-! ### What stands at an offset -/

/-- The instance that lies `rem` bytes behind instance 0, by the (stride, count) of each index. -/
def placeIndex : List (Nat × Nat) → Nat → Option Nat
  | [], rem => if rem = 0 then some 0 else none
  | (stride, count) :: rest, rem =>
    if rem / stride < count then
      (placeIndex rest (rem % stride)).map fun i =>
        rem / stride * (rest.foldl (fun a (e : Nat × Nat) => a * e.2) 1) + i
    else none

/-- The instance that a place of the PF window shows: where one place serves several, the one that a selection register names
(R35, R110, R221), the PF's mailbox, and the copy of the source for CAL_BORE_SEL. -/
def State.shownInst (s : State) (src : Src) (r : Reg) (i : Nat) : Nat :=
  match r with
  | .CAL_BORE_SEL => selCopy src
  | .MEMT_INV => s.memtBench
  | .MEMT_ARB => s.memtBench
  | .MEMT_PATROL_STAT => s.memtBench
  | .MEMT_ECC_CNT => s.memtBench
  | .MEMT_FENCE_CNT => s.memtBench
  | .MEMT_EVT => s.memtBench
  | .MEMT_EVT_EN => s.memtBench
  | .MEMT_ERR_LOG_0 => s.memtBench
  | .MEMT_ERR_LOG_1 => s.memtBench
  | .CTX_SLOT_STAT => s.selSlot i
  | .CTX_SLOT_OWNER => s.selSlot i
  | .CTX_SLOT_CTL => s.selSlot i
  | .MBX_CMD_DOOR => 64
  | .MBX_RSP_DOOR => 64
  | .MBX_STATUS => 64
  | .MBX_CTL => 64
  | _ => i

/-- The register at offset `o` of the PF window, if one lies there (R672, R673). -/
def State.regAt (s : State) (src : Src) (o : Nat) : Option (Reg × Nat) :=
  allRegs.findSome? fun r =>
    let p := regPlace r
    if r = .PCIE_VF_APER ∨ o < p.1 then none
    else (placeIndex p.2 (o - p.1)).map fun i => (r, s.shownInst src r i)

/-- A 32-bit word of a mailbox's buffer (R550). -/
def bufWord (l : List Byte) (o : Nat) : Nat := (upTo 4).foldl (fun a i => a + (l.getD (o + i) 0).toNat * 2 ^ (8 * i)) 0

/-- A 32-bit word of a Weapel entry (R611, R619); a position without an entry reads 0. -/
def entryWord (e : Option WplEntry) (o : Nat) : Nat :=
  match e with
  | some x => bitsOf (wplWord x) (8 * (o % 16 / 4 * 4)) 32
  | none => 0

/-- The 32-bit word at offset `o` of the PF window: a register, a trace buffer (R361), the PF mailbox's buffers (R550), the
Weapel readout (R619); every other offset is reserved and reads 0 (R9, R420). -/
def State.windowWord (s : State) (src : Src) (o : Nat) : Nat :=
  match s.regAt src o with
  | some (r, i) => (s.readReg r i).toNat
  | none =>
    if 0x400000 ≤ o ∧ o < 0x401000 then bufWord (s.box 64).cmdBuf (o - 0x400000)
    else if 0x401000 ≤ o ∧ o < 0x402000 then bufWord (s.box 64).rspBuf (o - 0x401000)
    else if 0x510000 ≤ o ∧ o < 0x520000 then entryWord (s.ringEntry ((o - 0x510000) / 16)) o
    else if 0x580000 ≤ o ∧ o < 0x600000 then
      entryWord (s.wplRecord ((o - 0x580000) / 0x10000)).entries[(o - 0x580000) % 0x10000 / 16]? o
    else if 0x1060000 ≤ o ∧ o < 0x10A0000 then
      let t := o - 0x1060000
      bitsOf (mapGet (fun _ => 0) s.haul.trace (2048 * (t / 0x10000) + t % 0x10000 / 32)) (8 * (t % 32)) 32
    else 0

/-- The 32-bit word at offset `o` of VF n's mailbox window (R550). -/
def State.vfMailWord (s : State) (n o : Nat) : Nat :=
  if o < 0x400 then bufWord (s.box n).cmdBuf o
  else if o < 0x800 then bufWord (s.box n).rspBuf (o - 0x400)
  else match o with
    | 0x800 => (s.readReg .MBX_CMD_DOOR n).toNat
    | 0x804 => (s.readReg .MBX_RSP_DOOR n).toNat
    | 0x808 => (s.readReg .MBX_STATUS n).toNat
    | 0x80C => (s.readReg .MBX_CTL n).toNat
    | _ => 0

/-- What a BAR read that the network carries finds: for the PF's window, a VF's bench control block, which reads 0 while FN
is 1 (R259), and a VF's mailbox the device's own state; `none` for memory, whose data the response brings. -/
def State.barContent (s : State) (r : BarReq) : Option Nat :=
  if r.fn = 0 then
    some (gatherWords (s.windowWord (.pf r.port)) (r.addr - 0x03F000000000) r.len)
  else
    let n := r.fn - 1
    if benchBlockAddr n ≤ r.addr ∧ r.addr < benchBlockAddr n + 0x10000 then
      if s.get F.BENCH_ASSIGN_FN n = 1 then some 0
      else some (gatherWords (fun o => s.windowWord (.vf n) (0x10000 * n + o)) (r.addr - benchBlockAddr n) r.len)
    else if 0x010000000000 ≤ r.addr ∧ r.addr < 0x010400000000 then none
    else some (gatherWords (s.vfMailWord n) (r.addr - Config.vfMailboxAddr n % 2 ^ 48) r.len)

end Sys2Proof.Machine
end

