-- ==== Sys2Proof/Machine/Catalogue.lean ====
section
/-!
DEFINITION. Catalogue commands of families 0x01xx and 0x02xx (R576 to R588): the device, benches and fences. What R576
asks of a payload is checked when a command is taken; a command whose block's domain is down is answered BAD_ARG (log
entry 59).
-/

namespace Sys2Proof.Machine

/-- A field of a command's payload: n bytes at offset o (R576). -/
def pf (e : MbCmd) (o n : Nat) : Nat := leAt e.payload o n
/-- A word of a payload. -/
def pw (e : MbCmd) (o : Nat) : Word := BitVec.ofNat 32 (leAt e.payload o 4)

/-- A malformed argument (R576, R578). -/
def State.badArg (s : State) (e : MbCmd) : State := s.err e stBADARG 0 0

/-- Whether the issuer may name bench b: the PF or the sideband, or VF b while its bench's FN is 0 (R557, R582). -/
def State.mayNameBench (s : State) (e : MbCmd) (b : Nat) : Bool :=
  match mbVf e.mb with
  | none => true
  | some n => b == n && s.get F.BENCH_ASSIGN_FN b == 0

/-! ### Device (R583 to R585) -/

/-- FAMILY as in R228. -/
def familyWord : Nat := 0x2AB4

/-- The response of DEV_INFO. -/
def State.devInfo (s : State) : List Byte :=
  leBytes 2 familyWord ++ leBytes 2 Config.vendorId ++ leBytes 8 Config.serial ++ leBytes 4 s.fw.version
    ++ leBytes 2 (s.get F.MBX_FW_STAT_SVN 0) ++ leBytes 2 s.minSvn
    ++ leBytes 4 (s.get F.MBX_FW_STAT_RECOVERY 0 + 2 * s.get F.MBX_FW_STAT_BOOT_SLOT 0 + 4 * s.get F.HLU_CTL_LOCK 0
        + 8 * s.get F.HLU_CTL_OTP_BOARD 0 + 16 * b2n s.side.dbgEn)
    ++ leBytes 8 s.fw.openTime

/-- DEV_INFO (R583). -/
def execDevInfo (mb : Nat) (s : State) : Host.Outcome State Fault Refusal :=
  .next (s.command mb 0x0100 fun e s => s.ok e s.devInfo)

/-- DEV_TIME (R583): device time when the command was taken. -/
def execDevTime (mb : Nat) (s : State) : Host.Outcome State Fault Refusal :=
  .next (s.command mb 0x0101 fun e s =>
    s.ok e (leBytes 8 e.taken ++ leBytes 1 (s.get F.CLK_OSC_STAT_DT_SRC 0) ++ leBytes 7 0))

/-- OTP_STEP (R584); `vpp` is what the OTP block senses on VPP_OTP. -/
def State.otpStep (s : State) (e : MbCmd) (vpp : Bool) : State :=
  if 1 < pf e 0 1 then s.badArg e
  else
    let s1 := { s.startTimer tmOtp with fw := { s.fw with stepOpen := pf e 0 1 == 1 } }
    s1.ok e (leBytes 4 (b2n s1.fw.stepOpen + 2 * b2n vpp))

def execOtpStep (mb : Nat) (vpp : Bool) (s : State) : Host.Outcome State Fault Refusal :=
  .next (s.command mb 0x0102 fun e s => s.otpStep e vpp)

/-- OTP_STEP_TIMEOUT (R584): 10 s after it opened, the programming step closes. -/
def execOtpStepTimeout (s : State) : Host.Outcome State Fault Refusal :=
  .next (if s.timerDue tmOtp 10000000000 then { s with fw := { s.fw with stepOpen := false } } else s)

/-- The 20 values of OTP_BOARD. -/
def boardValues (e : MbCmd) : List Nat := (upTo 20).map fun q => pf e (4 * q) 4

/-- The first quantity whose value is looser than the absolute layer (R585). -/
def looserQ (l : List Nat) : Option Nat := (upTo 20).find? fun q => !hluWithin q (l.getD q 0) (hluAbs q)

/-- OTP_BOARD (R585): the board area is programmed once, within an open step. -/
def State.otpBoard (s : State) (e : MbCmd) (vpp : Bool) : State :=
  if (s.fw.stepOpen && vpp) = false then s.err e stNORES 1 0
  else if s.nvs.otpBoard.isSome then s.err e stNORES 2 0
  else match looserQ (boardValues e) with
    | some q => s.err e stLIMIT 0 q
    | none => { s with nvs := { s.nvs with otpBoard := some (boardValues e) } }.ok e []

def execOtpBoard (mb : Nat) (vpp : Bool) (s : State) : Host.Outcome State Fault Refusal :=
  .next (s.command mb 0x0103 fun e s => s.otpBoard e vpp)

/-! ### Benches and fences (R586, R587) -/

/-- REASON of a refused BENCH_ASSIGN, 0 if it is accepted (R587). -/
def State.assignReason (s : State) (b fn priv : Nat) : Nat :=
  if fn ≠ s.fnNow b ∧ s.online b = true then 1
  else if fn ≠ s.fnNow b ∧ s.ctxBusy b = true then 2
  else if fn ≠ s.fnNow b ∧ s.inGang b = true then 3
  else if priv = 1 ∧ fn = 0 then 4
  else if s.assignRefused b fn priv then 5
  else 0

/-- The status of a refused BENCH_ASSIGN (R579). -/
def assignStatus (r : Nat) : Nat := if r ≤ 2 then stBUSY else if r = 5 then stNORES else stBADARG

def State.benchAssign (s : State) (e : MbCmd) : State :=
  let b := pf e 0 1
  let fn := bitOf (pf e 1 1) 0
  let priv := bitOf (pf e 1 1) 1
  if 64 ≤ b then s.badArg e
  else
    let r := s.assignReason b fn priv
    let s1 := s.assignWrite b (BitVec.ofNat 32 (fn * 2 ^ 31 + priv * 2 ^ 30))
    if r = 0 then s1.ok e [] else s1.err e (assignStatus r) r 0

/-- BENCH_ASSIGN (R586). -/
def execBenchAssign (mb : Nat) (s : State) : Host.Outcome State Fault Refusal :=
  .next (s.command mb 0x0200 fun e s => s.benchAssign e)

/-- The status of a refused gang command by its REASON (R587). -/
def gangStatus (r : Nat) : Nat := if r = 2 ∨ r = 5 then stBUSY else if r = 4 then stLIMIT else stBADARG

def State.gangFormCmd (s : State) (e : MbCmd) : State :=
  let c := pf e 0 1
  let pos := pf e 1 1
  let w := bitsOf (pf e 2 1) 0 2
  let h := bitsOf (pf e 2 1) 2 2
  if 4 ≤ c ∨ 16 ≤ pos then s.badArg e
  else
    let r := s.formReason c pos w h
    let s1 := s.gangCmdWrite c (BitVec.ofNat 32 (2 ^ 31 + pos * 2 ^ 16 + w * 2 ^ 10 + h * 2 ^ 8))
    if r = 0 then s1.ok e [] else s1.err e (gangStatus r) r 0

/-- GANG_FORM_CMD (R586): the GANG_FORM command of the catalogue. -/
def execGangFormCmd (mb : Nat) (s : State) : Host.Outcome State Fault Refusal :=
  .next (s.command mb 0x0201 fun e s => s.gangFormCmd e)

def State.gangDissolveCmd (s : State) (e : MbCmd) : State :=
  let c := pf e 0 1
  let pos := pf e 1 1
  if 4 ≤ c ∨ 16 ≤ pos then s.badArg e
  else
    let r := s.dissolveReason (16 * c + pos)
    let s1 := s.gangCmdWrite c (BitVec.ofNat 32 (2 ^ 30 + pos * 2 ^ 16))
    if r = 0 then s1.ok e [] else s1.err e (gangStatus r) r 0

/-- GANG_DISSOLVE_CMD (R586): the GANG_DISSOLVE command of the catalogue. -/
def execGangDissolveCmd (mb : Nat) (s : State) : Host.Outcome State Fault Refusal :=
  .next (s.command mb 0x0202 fun e s => s.gangDissolveCmd e)

/-- A BENCH_MFENCE word whose range leaves the region (R269). -/
def mfenceBad (v : Word) : Bool := decide (1023 < fldOf F.BENCH_MFENCE_FIRST v + fldOf F.BENCH_MFENCE_COUNT_M1 v)

def State.mfenceSet (s : State) (e : MbCmd) : State :=
  let b := pf e 0 1
  let p := pf e 1 1
  if 64 ≤ b ∨ 8 ≤ p ∨ s.benchUp b = false then s.badArg e
  else match (upTo 4).find? fun k => mfenceBad (pw e (4 + 4 * k)) with
    | some k => (s.set F.BENCH_FENCE_STAT_FENCE_ERR b 1).err e stBADARG 1 k
    | none => ((upTo 4).foldl (fun s k => s.mfenceWrite (32 * b + 4 * p + k) (pw e (4 + 4 * k))) s).ok e []

/-- MFENCE_SET (R586, R587): all four ranges are checked before any is written. -/
def execMfenceSet (mb : Nat) (s : State) : Host.Outcome State Fault Refusal :=
  .next (s.command mb 0x0203 fun e s => s.mfenceSet e)

def State.hwinSet (s : State) (e : MbCmd) : State :=
  let b := pf e 0 1
  let i := pf e 1 1
  if 64 ≤ b ∨ 16 ≤ i ∨ s.benchUp b = false then s.badArg e
  else
    let s1 := s.plainWrite .BENCH_HWIN_LO (16 * b + i) (pw e 4)
    if s1.hwinRefused (16 * b + i) (pw e 8) then (s.set F.BENCH_FENCE_STAT_FENCE_ERR b 1).err e stBADARG 1 0
    else (s1.hwinWrite (16 * b + i) (pw e 8)).ok e []

/-- HWIN_SET (R586, R587). -/
def execHwinSet (mb : Nat) (s : State) : Host.Outcome State Fault Refusal :=
  .next (s.command mb 0x0204 fun e s => s.hwinSet e)

/-- Whether a bench other than b holds lane n's bit in a direction (R275). -/
def State.laneTaken (s : State) (b n : Nat) (rx : Bool) : Bool := (upTo 64).any fun o => o != b && s.laneBit o n rx

/-- The first lane that a pair of masks asks for and another bench holds. -/
def State.firstTaken (s : State) (b tx rx : Nat) : Option Nat :=
  (upTo 64).find? fun n => (bitOf tx n == 1 && s.laneTaken b n false) || (bitOf rx n == 1 && s.laneTaken b n true)

def State.laneFenceSet (s : State) (e : MbCmd) : State :=
  let b := pf e 0 1
  if 64 ≤ b ∨ s.benchUp b = false then s.badArg e
  else match s.firstTaken b (pf e 4 8) (pf e 12 8) with
    | some n => (s.set F.BENCH_FENCE_STAT_FENCE_ERR b 1).err e stNORES 1 n
    | none =>
      ((((s.laneMaskWrite b false false (pw e 4)).laneMaskWrite b false true (pw e 8)).laneMaskWrite b true false
        (pw e 12)).laneMaskWrite b true true (pw e 16)).ok e []

/-- LANE_FENCE (R586, R587). -/
def execLaneFence (mb : Nat) (s : State) : Host.Outcome State Fault Refusal :=
  .next (s.command mb 0x0205 fun e s => s.laneFenceSet e)

def State.wbSet (s : State) (e : MbCmd) : State :=
  let b := pf e 0 1
  let p := pf e 1 1
  let k := pf e 2 1
  if 64 ≤ b ∨ 2 ≤ p ∨ 3 ≤ k ∨ s.benchUp b = false then s.badArg e
  else (s.wbCtlWrite (6 * b + 3 * p + k) (pw e 4)).ok e []

/-- WB_SET (R586). -/
def execWbSet (mb : Nat) (s : State) : Host.Outcome State Fault Refusal :=
  .next (s.command mb 0x0206 fun e s => s.wbSet e)

def State.pcapSet (s : State) (e : MbCmd) : State :=
  let b := pf e 0 1
  if 64 ≤ b ∨ s.benchUp b = false then s.badArg e
  else if s.hluEff 10 < fldOf F.BENCH_PCAP_CAP_MW (pw e 4) then (s.hluRefuse 10 2).err e stLIMIT 0 0
  else (s.pcapWrite .fw b (pw e 4)).ok e []

/-- PCAP_SET (R586): a cap above the HLU's bound changes nothing (R557). -/
def execPcapSet (mb : Nat) (s : State) : Host.Outcome State Fault Refusal :=
  .next (s.command mb 0x0207 fun e s => s.pcapSet e)

def State.hopperSet (s : State) (e : MbCmd) : State :=
  let b := pf e 0 1
  let h := pf e 1 1
  let j := 32 * b + h
  let cfg := bitOf (pf e 2 1) 0 == 1
  let own := bitOf (pf e 2 1) 1 == 1
  if 64 ≤ b ∨ 32 ≤ h ∨ s.benchUp b = false then s.badArg e
  else if cfg && s.hopCfgRefused b (pw e 4) then (s.hopCfgWrite j (pw e 4)).err e stBADARG 1 0
  else
    let s1 := if cfg then s.hopCfgWrite j (pw e 4) else s
    (if own then s1.hopOwnerWrite j (pw e 8) else s1).ok e []

/-- HOPPER_SET (R586, R587): HOP_CFG_h before HOP_OWNER_h. -/
def execHopperSet (mb : Nat) (s : State) : Host.Outcome State Fault Refusal :=
  .next (s.command mb 0x0208 fun e s => s.hopperSet e)

/-! ### Declarations (R234 to R236, R588) -/

/-- A record that the checks over all records make faulty beside those before it: a hopper that a declared pair contains,
or a pair whose second hopper is declared (R236). -/
def hopClash (d : Decls) : Bool :=
  d.hop.any fun (x : Nat × Nat) => x.2 == 1 && d.hop.any fun (y : Nat × Nat) => y.1 == x.1 + 1

/-- The records of a stream as TYPE and body, or the index of the first faulty one (R234 to R236). `tail` says that what
lies beyond the last whole word is 0. -/
def declScan (tail : Bool) (d : Decls) (i : Nat) : Nat → List Nat → Option Nat × List (Nat × List Nat)
  | 0, _ => (some i, [])
  | _ + 1, [] => (some i, [])
  | k + 1, h :: rest =>
    let t := bitsOf h 0 8
    let w := bitsOf h 8 8
    if t = 0 then
      (if h = 0 ∧ rest.all (· == 0) = true ∧ tail = true ∧ d.clk.length = 1 then none else some i, [])
    else if bitsOf h 16 16 ≠ 0 ∨ rest.length < w then (some i, [])
    else match declRecord d t (rest.take w) with
      | none => (some i, [])
      | some d1 =>
        if hopClash d1 then (some i, [])
        else
          let z := declScan tail d1 (i + 1) k (rest.drop w)
          (z.1, (t, rest.take w) :: z.2)

/-- The scan of a byte stream. -/
def declScanBytes (bs : List Byte) : Option Nat × List (Nat × List Nat) :=
  let ws := wordsOf (bs.length / 4) bs
  declScan ((bs.drop (4 * (bs.length / 4))).all (· == 0#8)) {} 0 (ws.length + 1) ws

/-- DECL_APPLY under way: the state, the record's index, MEMORY and HAUL_WINDOW records so far, the status. -/
structure DeclRun where
  st     : State
  item   : Nat := 0
  mem    : Nat := 0
  win    : Nat := 0
  status : Nat := 0

/-- The base of bench b's memory region (R90). -/
def memBase (b : Nat) : Nat := 0x010000000000 + benchCol b * 2 ^ 32 + benchPos b * 2 ^ 26

/-- A HAUL_WINDOW record writes window j (R588); the state and the status. -/
def State.declWindow (s : State) (b j : Nat) (w : List Nat) : State × Nat :=
  let a := w.getD 0 0
  let base := w.getD 1 0 + bitsOf (w.getD 2 0) 0 16 * 2 ^ 32 + (if bitOf a 0 = 1 then memBase b else 0)
  let hi := BitVec.ofNat 32 (2 ^ 31 + bitOf a 1 * 2 ^ 30 + bitOf a 2 * 2 ^ 29 + bitsOf (w.getD 3 0) 0 6 * 2 ^ 16
    + bitsOf base 32 16)
  let s1 := s.plainWrite .BENCH_HWIN_LO (16 * b + j) (BitVec.ofNat 32 base)
  if s1.hwinRefused (16 * b + j) hi ∨ 2 ^ 48 ≤ base then (s.set F.BENCH_FENCE_STAT_FENCE_ERR b 1, stBADARG)
  else (s1.hwinWrite (16 * b + j) hi, stOK)

/-- A HAUL_PORT record writes RATE of the three weighbridges of each named port, BURST_EXP unchanged (R588). -/
def State.declPort (s : State) (b : Nat) (w : List Nat) : State :=
  let rates := [bitsOf (w.getD 1 0) 0 11, bitsOf (w.getD 1 0) 16 11, bitsOf (w.getD 2 0) 0 11]
  (upTo 2).foldl (fun s p =>
    if bitOf (w.getD 0 0) p = 1 then
      (upTo 3).foldl (fun s k =>
        let j := 6 * b + 3 * p + k
        s.wbCtlWrite j (BitVec.ofNat 32 (s.get F.BENCH_WB_CTL_BURST_EXP j * 2 ^ 16 + rates.getD k 0))) s
    else s) s

/-- A LANE record adds its bits to the bench's masks (R588); a bit that another bench holds is refused. -/
def State.declLane (s : State) (b : Nat) (w : List Nat) : State × Nat :=
  let a := w.getD 0 0
  let n := bitsOf a 0 6
  let hi := decide (32 ≤ n)
  let add := fun (s : State) (rx : Bool) =>
    s.laneMaskWrite b rx hi (s.reg (laneMaskReg rx hi) b ||| BitVec.ofNat 32 (2 ^ (n % 32)))
  if (bitOf a 8 = 1 ∧ s.laneTaken b n false = true) ∨ (bitOf a 9 = 1 ∧ s.laneTaken b n true = true) then
    (s.set F.BENCH_FENCE_STAT_FENCE_ERR b 1, stNORES)
  else
    let s1 := if bitOf a 8 = 1 then add s false else s
    (if bitOf a 9 = 1 then add s1 true else s1, stOK)

/-- A HOPPER record (R588). -/
def State.declHopper (s : State) (b p : Nat) (w : List Nat) : State × Nat :=
  let j := 32 * b + w.getD 0 0 % 32
  let v := BitVec.ofNat 32 (w.getD 1 0)
  if s.hopCfgRefused b v then (s.hopCfgWrite j v, stBADARG)
  else ((s.hopCfgWrite j v).hopOwnerWrite j (BitVec.ofNat 32 (2 ^ 31 + p)), stOK)

/-- A CLOCK record (R588); SW_EN is not applied. -/
def State.declClock (s : State) (b p : Nat) (w : List Nat) : State × Nat :=
  let v := BitVec.ofNat 32 (w.getD 0 0)
  (s.clkSrcWrite b p v, if s.clkLive b p then stBUSY else if s.clkSrcRefused b p v then stBADARG else stOK)

/-- One record applies (R588). -/
def declApplyOne (b p : Nat) (clock haul lane : Bool) (r : DeclRun) (x : Nat × List Nat) : DeclRun :=
  if r.status ≠ stOK then r
  else
    let s := r.st
    let z : State × Nat := match x.1 with
      | 1 => (s.mfenceWrite (32 * b + 4 * p + r.mem) (BitVec.ofNat 32 (2 ^ 31 + x.2.getD 0 0)), stOK)
      | 2 => s.declHopper b p x.2
      | 3 => if haul then (s.declPort b x.2, stOK) else (s, stOK)
      | 4 => if haul then s.declWindow b r.win x.2 else (s, stOK)
      | 5 => if lane then s.declLane b x.2 else (s, stOK)
      | 6 => if clock then s.declClock b p x.2 else (s, stOK)
      | _ => (s, stOK)
    { st := z.1, status := z.2
      item := if z.2 = stOK then r.item + 1 else r.item
      mem := r.mem + b2n (x.1 == 1)
      win := r.win + b2n (x.1 == 4) }

/-- DECL_APPLY on bench b and plane p (R588): the state, the status and ITEM. Ranges, and with HAUL windows, that no record
writes are disabled once every record has applied (log entry 59). -/
def State.declApply (s : State) (b p : Nat) (clock haul lane : Bool) (bs : List Byte) : State × Nat × Nat :=
  match declScanBytes bs with
  | (some i, _) => (s, stBADARG, i)
  | (none, l) =>
    let r := l.foldl (declApplyOne b p clock haul lane) { st := s }
    if r.status ≠ stOK then (r.st, r.status, r.item)
    else
      let s1 := (upTo 4).foldl (fun s k =>
        if k < r.mem then s else s.set F.BENCH_MFENCE_EN (32 * b + 4 * p + k) 0) r.st
      let s2 := (upTo 16).foldl (fun s j => if haul = false ∨ j < r.win then s else s.set F.BENCH_HWIN_HI_EN (16 * b + j) 0) s1
      (s2, stOK, 0)

def State.declApplyCmd (s : State) (e : MbCmd) : State :=
  let b := pf e 0 1
  let p := pf e 1 1
  let fl := fun i => bitOf (pf e 2 1) i == 1
  if 64 ≤ b ∨ 8 ≤ p ∨ s.benchUp b = false then s.badArg e
  else
    let r := s.declApply b p (fl 0) (fl 1) (fl 2) (e.payload.drop 4)
    if r.2.1 = stOK then r.1.ok e [] else r.1.err e r.2.1 0 r.2.2

/-- DECL_APPLY (R588). -/
def execDeclApply (mb : Nat) (s : State) : Host.Outcome State Fault Refusal :=
  .next (s.command mb 0x0209 fun e s => s.declApplyCmd e)

/-- The registers of BENCH_STATUS (R586). -/
def benchStatusRegs (b : Nat) : List (Reg × Nat) :=
  [(.BENCH_PLANE_STAT, b), (.BENCH_PLANE_STATE, b), (.BENCH_ASSIGN, b), (.BENCH_GANG_STAT, b), (.BENCH_SHIFT, b),
    (.BENCH_PCAP_STAT, b), (.THM_BENCH, b), (.BENCH_FENCE_STAT, b)]

def State.benchStatus (s : State) (e : MbCmd) : State :=
  let b := pf e 0 1
  if 64 ≤ b then s.badArg e
  else if s.mayNameBench e b then
    let z := s.readOuts (benchStatusRegs b)
    z.2.ok e z.1
  else s.err e stNOTOWNER 0 0

/-- BENCH_STATUS (R586). -/
def execBenchStatus (mb : Nat) (s : State) : Host.Outcome State Fault Refusal :=
  .next (s.command mb 0x020A fun e s => s.benchStatus e)

end Sys2Proof.Machine
end

