-- ==== Sys2Proof/Machine/Commands.lean ====
section
/-!
DEFINITION. Catalogue commands of families 0x03xx to 0x05xx (R589 to R596): slots, lanes, power, thermal limits and the
firmware layer of the HLU.
-/

namespace Sys2Proof.Machine

/-! ### Contexts and slots (R589 to R591) -/

/-- What stands against a SLOT_COPY: status and REASON (R590); a slot that a load holds counts as WRITING (R243). -/
def State.slotCopyBad (s : State) (a d : Nat) : Option (Nat × Nat) :=
  if 4096 ≤ a ∨ 4096 ≤ d then some (stBADARG, 0)
  else if a = d then some (stBADARG, 1)
  else if s.powered (dCfg (a / 1024)) = false ∨ s.powered (dCfg (d / 1024)) = false then some (stBADARG, 3)
  else if s.slotSt a ≠ slValid ∨ s.slotHeld a = true then some (stBADARG, 2)
  else if s.slotClaimed d then some (stBUSY, 4)
  else none

def State.slotCopyCmd (s : State) (e : MbCmd) : State :=
  let a := pf e 0 2
  let d := pf e 2 2
  if e.started then
    if s.slots.copies.any fun x => x.from_ == a && x.to_ == d then s
    else if s.slotSt d = slValid then s.ok e (leBytes 4 (s.slotGen d)) else s.err e stFRAME 0 0
  else match s.slotCopyBad a d with
    | some r => s.err e r.1 r.2 0
    | none => (s.slotCopyStart a d).await e 0

/-- SLOT_COPY (R590): the copy starts, and the response is posted when it has ended. -/
def execSlotCopy (mb : Nat) (s : State) : Host.Outcome State Fault Refusal :=
  .next (s.command mb 0x0300 fun e s => s.slotCopyCmd e)

def State.slotOwnerCmd (s : State) (e : MbCmd) : State :=
  let g := pf e 0 2
  let v := BitVec.ofNat 32 (bitOf (pf e 3 1) 0 * 2 ^ 31 + pf e 2 1 % 64)
  if 4096 ≤ g ∨ 64 ≤ pf e 2 1 ∨ s.powered (dCfg (g / 1024)) = false then s.badArg e
  else
    let s1 := s.slotOwnerWrite g v
    if s.slotClaimed g && s1.reg .CTX_SLOT_OWNER g != v then s1.err e stBUSY 1 0 else s1.ok e []

/-- SLOT_OWNER (R590). -/
def execSlotOwner (mb : Nat) (s : State) : Host.Outcome State Fault Refusal :=
  .next (s.command mb 0x0301 fun e s => s.slotOwnerCmd e)

def State.slotReleaseCmd (s : State) (e : MbCmd) : State :=
  let g := pf e 0 2
  let own := match mbVf e.mb with
    | none => true
    | some n => s.slotOwnedBy g n
  if 4096 ≤ g ∨ s.powered (dCfg (g / 1024)) = false then s.badArg e
  else if own = false then s.err e stNOTOWNER 0 0
  else if s.slotClaimed g then (s.slotRelease g).err e stBUSY 1 0
  else (s.slotRelease g).ok e []

/-- SLOT_RELEASE (R590): a VF releases only slots it owns. -/
def execSlotRelease (mb : Nat) (s : State) : Host.Outcome State Fault Refusal :=
  .next (s.command mb 0x0302 fun e s => s.slotReleaseCmd e)

/-- ENTRY_s of SLOT_LIST (R589). -/
def State.slotListEntry (s : State) (g : Nat) : Nat :=
  s.slotSt g + s.get F.CTX_SLOT_OWNER_OWN_VALID g * 2 ^ 2 + s.get F.CTX_SLOT_OWNER_VF g * 2 ^ 3 + s.readers g * 2 ^ 9
    + s.get F.CTX_SLOT_STAT_HOMES g * 2 ^ 14 + s.slotGen g % 2 ^ 10 * 2 ^ 22

def State.slotListCmd (s : State) (e : MbCmd) : State :=
  let c := pf e 0 1
  let sees := fun g => match mbVf e.mb with
    | none => true
    | some n => s.slotOwnedBy g n
  if 4 ≤ c ∨ s.powered (dCfg c) = false then s.badArg e
  else s.ok e ((upTo 1024).flatMap fun i =>
    leBytes 4 (if sees (1024 * c + i) then s.slotListEntry (1024 * c + i) else 0))

/-- SLOT_LIST (R589, R590): slots that a VF does not own read 0. -/
def execSlotList (mb : Nat) (s : State) : Host.Outcome State Fault Refusal :=
  .next (s.command mb 0x0303 fun e s => s.slotListCmd e)

def State.scrubSet (s : State) (e : MbCmd) (ok : Bool) : State :=
  let c := pf e 0 1
  if 4 ≤ c then s.badArg e
  else if ok then
    { s with nvs := { s.nvs with
        scrub := mapSet (fun _ => 0xFFFF) s.nvs.scrub c (pf e 2 2 + bitOf (pf e 1 1) 0 * 2 ^ 16) } }.ok e []
  else s.err e stFRAME 0 0

/-- SCRUB_SET (R591); `ok` says whether NVS reads back what was written. -/
def execScrubSet (mb : Nat) (ok : Bool) (s : State) : Host.Outcome State Fault Refusal :=
  .next (s.command mb 0x0304 fun e s => s.scrubSet e ok)

/-! ### Lanes (R592) -/

def State.octetCfgCmd (s : State) (e : MbCmd) : State :=
  let o := pf e 0 1
  let v := pw e 4
  if 8 ≤ o ∨ s.powered (dEth o) = false then s.badArg e
  else
    let s1 := s.octCfgWrite o 2 v
    match (upTo 8).find? (octBadAt v.toNat), (upTo 8).find? (s.octDeniedAt o v.toNat) with
    | some j, _ => s1.err e stBADARG 2 j
    | none, some j => s1.err e stLIMIT 1 j
    | none, none => s1.ok e []

/-- OCTET_CFG (R592). -/
def execOctetCfg (mb : Nat) (s : State) : Host.Outcome State Fault Refusal :=
  .next (s.command mb 0x0400 fun e s => s.octetCfgCmd e)

/-- Whether the issuer may name lane n: the PF or the sideband, or VF b whose bench holds a TX or RX bit of it, while its FN
is 0 (R582). -/
def State.mayNameLane (s : State) (e : MbCmd) (n : Nat) : Bool :=
  match mbVf e.mb with
  | none => true
  | some b => s.get F.BENCH_ASSIGN_FN b == 0 && (s.laneBit b n false || s.laneBit b n true)

def State.laneStatusCmd (s : State) (e : MbCmd) : State :=
  let n := pf e 0 1
  if 64 ≤ n then s.badArg e
  else if s.mayNameLane e n then
    let z := s.readOuts [(.LANE_STAT, n), (.LANE_SQ, n), (.LANE_PEER_ID, n), (.LANE_DROP, n)]
    z.2.ok e z.1
  else s.err e stNOTOWNER 0 0

/-- LANE_STATUS (R592). -/
def execLaneStatus (mb : Nat) (s : State) : Host.Outcome State Fault Refusal :=
  .next (s.command mb 0x0401 fun e s => s.laneStatusCmd e)

def State.laneRestartCmd (s : State) (e : MbCmd) : State :=
  let n := pf e 0 1
  if 64 ≤ n ∨ s.laneUp n = false then s.badArg e
  else (s.laneCtlWrite n (s.reg .LANE_CTL n ||| 0x80000000#32)).ok e []

/-- LANE_RESTART_CMD (R592): the LANE_RESTART command of the catalogue writes RESTART in LANE_CTL_n. -/
def execLaneRestartCmd (mb : Nat) (s : State) : Host.Outcome State Fault Refusal :=
  .next (s.command mb 0x0402 fun e s => s.laneRestartCmd e)

/-! ### Power, thermal and limits (R593 to R596) -/

/-- The status of a refused DOMAIN_SET by its REASON (R594). -/
def pwrStatus (why : Nat) : Nat := if why = prBusy ∨ why = prLinkUp then stBUSY else stBADARG

/-- LAST_T of domain d, as the response carries it. -/
def State.lastTPayload (s : State) (d : Nat) : List Byte := leBytes 2 (s.get F.PWR_DOM_LAST_T d) ++ leBytes 2 0

def State.domainSet (s : State) (e : MbCmd) : State :=
  let d := pf e 0 1
  let on := bitOf (pf e 1 1) 0 == 1
  if e.started then
    if s.domSt d = (if on then pdOn else pdOff) then s.ok e (s.lastTPayload d) else s
  else if 97 ≤ d then s.badArg e
  else if s.flag F.PWR_DOM_ON d == on then s.ok e (s.lastTPayload d)
  else
    let why := s.pwrCheck d on
    if why = 0 then (s.pwrRequest d on).await e 0 else (s.pwrRequest d on).err e (pwrStatus why) why 0

/-- DOMAIN_SET (R594): ON in PWR_DOM_d, with the response when the sequence of R498 or R500 has ended. -/
def execDomainSet (mb : Nat) (s : State) : Host.Outcome State Fault Refusal :=
  .next (s.command mb 0x0500 fun e s => s.domainSet e)

/-- DOMAIN_LIST (R593). -/
def execDomainList (mb : Nat) (s : State) : Host.Outcome State Fault Refusal :=
  .next (s.command mb 0x0501 fun e s =>
    let z := s.readOuts ((upTo 97).map fun d => (Reg.PWR_DOM, d))
    z.2.ok e z.1)

def State.thmSet (s : State) (e : MbCmd) : State :=
  let v := pw e 0
  let s1 := s.limitsWrite 2 v
  if s.hluEff 15 < fldOf F.THM_LIMITS_SHDN_C v then s1.err e stLIMIT 1 0
  else if s.limitsBad v then s1.err e stBADARG 1 0
  else ((s1.plainWrite .THM_SHDN_MODE 0 (pw e 4)).privCtlWrite (pw e 8)).ok e []

/-- THM_SET (R595). -/
def execThmSet (mb : Nat) (s : State) : Host.Outcome State Fault Refusal :=
  .next (s.command mb 0x0502 fun e s => s.thmSet e)

/-- The response of TELEMETRY (R593). -/
def State.telemetry (s : State) : List Byte × State :=
  let temps := (upTo 96).flatMap fun n =>
    leBytes 2 (if s.flag F.THM_SITE_VALID n then s.get F.THM_SITE_TEMP n else 0x8000)
  let z := s.readOuts (((upTo 9).map fun n => (Reg.TEL_RAIL, n)) ++ [(.TEL_PWR, 0), (.THM_STAT, 0)]
    ++ (upTo 4).map fun c => (Reg.THM_COL, c))
  (temps ++ z.1 ++ leBytes 8 s.time, z.2)

/-- TELEMETRY (R593). -/
def execTelemetry (mb : Nat) (s : State) : Host.Outcome State Fault Refusal :=
  .next (s.command mb 0x0503 fun e s => s.telemetry.2.ok e s.telemetry.1)

def State.hluFwSet (s : State) (e : MbCmd) : State :=
  let q := pf e 0 1
  if s.fwBlocked then s
  else if 20 ≤ q then s.badArg e
  else
    let r := s.fwLayerWrite q (pf e 4 4)
    if r.2 = 0 then r.1.ok e (leBytes 4 (r.1.hluEff q)) else r.1.err e stLIMIT r.2 0

/-- HLU_FW_SET (R596). -/
def execHluFwSet (mb : Nat) (s : State) : Host.Outcome State Fault Refusal :=
  .next (s.command mb 0x0504 fun e s => s.hluFwSet e)

end Sys2Proof.Machine
end

