-- ==== Sys2Proof/Machine/Upkeep.lean ====
section
/-!
DEFINITION. Catalogue commands of families 0x06xx to 0x0Axx (R597 to R609): calibration, repair, the Weapel recorder,
firmware and debug.
-/

namespace Sys2Proof.Machine

/-! ### Calibration (R597, R598) -/

/-- How many values a class holds. -/
def calCount (cls : Nat) : Nat := [20480, 4460544, 66048, 4608, 96, 19, 2176].getD cls 0

/-- The bore group of trim value `i` of class `cls` in column c: bench positions first, then the periphery. -/
def calGroup (cls c i : Nat) : Nat :=
  let per := groupCount cls 0
  if i < 16 * per then gidOf (16 * c + i / per) cls (i % per)
  else c * 2 ^ 30 + cls * 2 ^ 28 + 2 ^ 27 + (i - 16 * per)

/-- The sum of the layers of a value of class 3, 5 or 6, and its effective value, within Krovant's range (R510, R564). -/
def State.calSum (s : State) (cls i : Nat) : Int :=
  let x := s.calVal cls i
  signedOf 8 (Config.calFactory cls i).toNat + signedOf 8 x.user + signedOf 8 x.bg

def State.calEffInt (s : State) (cls i : Nat) : Int :=
  clampInt (Config.calRange cls).1 (Config.calRange cls).2 (s.calSum cls i)

def State.calEff (s : State) (cls i : Nat) : Nat := unsignedOf 8 (s.calEffInt cls i)

/-- The domain that holds value i of class 3 to 6 (R510). -/
def calDomain (cls i : Nat) : Nat := if cls = 3 then dEth (i / 72 / 8) else if cls = 6 then dBench (i / 34) else 4

/-- A layer of a value (R598): 0 factory, 1 user offset, 2 background, 3 effective. -/
def State.calRead (s : State) (cls layer c i : Nat) : Nat :=
  if cls < 3 then
    let g := calGroup cls c i
    [s.factoryTrim g, (s.group g).ofs, (s.group g).bg, (s.group g).eff].getD layer 0
  else if cls = 4 then
    let w := s.readDevice .THM_SITE_CAL i (s.reg .THM_SITE_CAL i).toNat
    [bitsOf w 0 8, bitsOf w 8 8, bitsOf w 16 8, bitsOf w 24 8].getD layer 0
  else [(Config.calFactory cls i).toNat, (s.calVal cls i).user, (s.calVal cls i).bg, s.calEff cls i].getD layer 0

/-- A value is handed to its calibrator (R512, R513, R598): the state, and whether the effective value is clamped. A value
whose domain is down has nowhere to be held: it takes its reset value when the domain powers up (R510). -/
def State.calPut (s : State) (cls layer c i v : Nat) : State × Bool :=
  if cls < 3 then
    let g := calGroup cls c i
    let s1 := if layer = 1 then s.setUserOfs g v else s.setBackground g v
    (s1, (s1.group g).clamped)
  else if s.powered (calDomain cls i) = false then (s, false)
  else if cls = 4 then
    let s0 := if layer = 1 then s.set F.THM_SITE_CAL_USER_OFS i v
      else (s.set F.THM_SITE_CAL_BACKGROUND i v).calWritten 4 i 0
    let s1 := s0.siteClamp i
    (s1, decide (s1.siteOffset i ≠ s1.siteSum i))
  else
    let s1 := if layer = 1 then s.setCal cls i { s.calVal cls i with user := v % 256 } else s.calWritten cls i v
    (s1, decide (s1.calEffInt cls i ≠ s1.calSum cls i))

/-- What makes the arguments of a calibration command bad, as REASON; none if they are good. -/
def calBad (e : MbCmd) : Option Nat :=
  let cls := pf e 0 1
  let n := pf e 8 4
  if 6 < cls ∨ 3 < pf e 1 1 ∨ (if cls < 3 then 3 else 0) < pf e 2 1 ∨ n = 0 ∨ 65520 < n then some 0
  else if calCount cls < pf e 4 4 + n then some 1
  else none

def State.calReadCmd (s : State) (e : MbCmd) : State :=
  match calBad e with
  | some r => s.err e stBADARG r 0
  | none =>
    s.ok e ((upTo (pf e 8 4)).map fun k => BitVec.ofNat 8 (s.calRead (pf e 0 1) (pf e 1 1) (pf e 2 1) (pf e 4 4 + k)))

/-- CAL_READ (R598). -/
def execCalRead (mb : Nat) (s : State) : Host.Outcome State Fault Refusal :=
  .next (s.command mb 0x0600 fun e s => s.calReadCmd e)

/-- The values of CAL_WRITE in index order; counts those that the HLU clamps. -/
def State.calPutAll (s : State) (cls layer c : Nat) : Nat → Nat → List Byte → State × Nat
  | _, n, [] => (s, n)
  | i, n, v :: vs =>
    let z := s.calPut cls layer c i v.toNat
    z.1.calPutAll cls layer c (i + 1) (n + b2n z.2) vs

def State.calWriteCmd (s : State) (e : MbCmd) : State :=
  match calBad e with
  | some r => s.err e stBADARG r 0
  | none =>
    if pf e 1 1 = 0 ∨ pf e 1 1 = 3 then s.err e stBADARG 2 0
    else
      let z := s.calPutAll (pf e 0 1) (pf e 1 1) (pf e 2 1) (pf e 4 4) 0 (e.payload.drop 12)
      z.1.ok e (leBytes 4 z.2)

/-- CAL_WRITE (R598). -/
def execCalWrite (mb : Nat) (s : State) : Host.Outcome State Fault Refusal :=
  .next (s.command mb 0x0601 fun e s => s.calWriteCmd e)

/-! ### Repair (R599 to R602) -/

/-- A spoil entry as 16 bytes (R388). -/
def spoilBytes (x : SpoilEntry) : List Byte :=
  leBytes 4 (x.type % 256 + x.sub % 1024 * 2 ^ 8) ++ leBytes 4 x.id ++ leBytes 8 x.time

def State.spoilRead (s : State) (e : MbCmd) : State :=
  let n := pf e 4 4
  if n = 0 ∨ 4094 < n then s.badArg e
  else s.ok e (leBytes 4 s.nvs.spoil.length ++ leBytes 4 (b2n (decide (16384 ≤ s.nvs.spoil.length)))
    ++ ((s.nvs.spoil.drop (pf e 0 4)).take n).flatMap spoilBytes)

/-- SPOIL_READ (R599). -/
def execSpoilRead (mb : Nat) (s : State) : Host.Outcome State Fault Refusal :=
  .next (s.command mb 0x0700 fun e s => s.spoilRead e)

def State.spoilClear (s : State) (e : MbCmd) (ok : Bool) : State :=
  if pf e 0 4 ≠ s.nvs.spoil.length then s.err e stBUSY 1 0
  else if ok then { s with nvs := { s.nvs with spoil := [] } }.ok e []
  else s.err e stFRAME 0 0

/-- SPOIL_CLEAR (R600); `ok` says whether the NVS write verifies. -/
def execSpoilClear (mb : Nat) (ok : Bool) (s : State) : Host.Outcome State Fault Refusal :=
  .next (s.command mb 0x0701 fun e s => s.spoilClear e ok)

def State.routerRetire (s : State) (e : MbCmd) : State :=
  let k := pf e 0 1
  if e.started then
    if s.repair.detourDue || s.flag F.HN_EPOCH_STAT_DRAINING 0 then s else s.ok e []
  else if 80 ≤ k ∨ s.powered (dHn (routerCol k)) = false then s.badArg e
  else if routerRow k = 0 then s.err e stBADARG 1 0
  else if s.flag F.HN_RTR_STAT_RETIRED k then s.ok e []
  else (s.retireRouter k).await e 0

/-- ROUTER_RETIRE (R601): the response follows the EPOCH step. -/
def execRouterRetire (mb : Nat) (s : State) : Host.Outcome State Fault Refusal :=
  .next (s.command mb 0x0702 fun e s => s.routerRetire e)

def State.columnShift (s : State) (e : MbCmd) : State :=
  let b := pf e 0 1
  let f := pf e 1 1
  if e.started then
    if (s.shift b).isSome || s.flag F.BENCH_SHIFT_REPAIRING b then s
    else
      let z := s.readOut .BENCH_REPAIR_STAT b
      z.2.ok e (leBytes 4 z.1)
  else if 64 ≤ b ∨ s.powered (dCfg (benchCol b)) = false then s.badArg e
  else if 32 ≤ f then s.err e stBADARG 3 0
  else if s.flag F.BENCH_SHIFT_SHIFTED b || s.flag F.BENCH_SHIFT_SPARE_LOST b || s.flag F.BENCH_SHIFT_DEGRADED b then
    s.err e stNORES 1 0
  else if s.flag F.BENCH_SHIFT_REPAIRING b then s.err e stBUSY 2 0
  else (s.columnFault b f).await e 0

/-- COLUMN_SHIFT (R602): the response follows RESUME. -/
def execColumnShift (mb : Nat) (s : State) : Host.Outcome State Fault Refusal :=
  .next (s.command mb 0x0703 fun e s => s.columnShift e)

/-! ### Weapel (R603, R604) -/

/-- A readout command. -/
def State.wplCommand (s : State) (e : MbCmd) : State :=
  let r := s.wplReadout e.op e.payload
  s.finish e r.1 r.2

/-- WPL_RING_READ (R604). -/
def execWplRingRead (mb : Nat) (s : State) : Host.Outcome State Fault Refusal :=
  .next (s.command mb 0x0800 fun e s => s.wplCommand e)

/-- The freeze that was asked for at time t is still on its way to the ring, or its copy runs. -/
def State.freezeDue (s : State) (t : Nat) : Bool :=
  s.flag F.WPL_STAT_COPYING 0 || (s.wpl.offers ++ s.wpl.queue).any fun x => x.code == 0x0A01 && x.time == t

/-- The position of the valid record of a host freeze asked for at time t. -/
def State.freezeRecord (s : State) (t : Nat) : Option Nat :=
  (upTo 8).find? fun r =>
    let x := s.wplRecord r
    x.valid && x.cause == 0x0A01 && decide (t ≤ x.time)

def State.wplFreeze (s : State) (e : MbCmd) : State :=
  if e.started then
    if s.freezeDue e.arg then s
    else match s.freezeRecord e.arg with
      | some r => s.ok e (leBytes 1 r ++ leBytes 3 0)
      | none => s.err e stFRAME 0 0
  else (s.hostFreeze 180 0).await e s.time

/-- WPL_FREEZE (R604): the response follows the copy to NVS. -/
def execWplFreeze (mb : Nat) (s : State) : Host.Outcome State Fault Refusal :=
  .next (s.command mb 0x0801 fun e s => s.wplFreeze e)

/-- WPL_RESUME (R604). -/
def execWplResume (mb : Nat) (s : State) : Host.Outcome State Fault Refusal :=
  .next (s.command mb 0x0802 fun e s => s.wplResume.ok e [])

/-- WPL_RECORD_LIST (R603). -/
def execWplRecordList (mb : Nat) (s : State) : Host.Outcome State Fault Refusal :=
  .next (s.command mb 0x0803 fun e s => s.wplCommand e)

/-- WPL_RECORD_READ (R603). -/
def execWplRecordRead (mb : Nat) (s : State) : Host.Outcome State Fault Refusal :=
  .next (s.command mb 0x0804 fun e s => s.wplCommand e)

/-! ### Firmware (R605 to R607) -/

/-- Bytes put into the flash from address a on. -/
def State.flashPut (s : State) (a : Nat) : List Byte → State
  | [] => s
  | x :: l => (s.setFlashByte a x).flashPut (a + 1) l

/-- The OFFSET that the next write of slot k must carry (R606). -/
def State.fwNext (s : State) (k : Nat) : Nat := mapGet (fun _ => 0) s.fw.next k
def State.setFwNext (s : State) (k n : Nat) : State := { s with fw := { s.fw with next := mapSet (fun _ => 0) s.fw.next k n } }

/-- FW_WRITE (R606); `back` is what the flash reads back where the data were written. -/
def State.fwWrite (s : State) (e : MbCmd) (back : List Byte) : State :=
  let k := pf e 0 1
  let off := pf e 4 4
  let data := e.payload.drop 8
  if 1 < k then s.badArg e
  else if s.get F.MBX_FW_STAT_BOOT_SLOT 0 = k then s.err e stBADARG 1 0
  else if off ≠ 0 ∧ off ≠ s.fwNext k then s.err e stBADARG 2 0
  else if slotSize < off + data.length then s.err e stBADARG 3 0
  else
    let s1 := if off = 0 then (s.eraseFlash k).setFwNext k 0 else s
    let s2 := s1.flashPut (slotBase k + off) (back.take data.length)
    if back = data then (s2.setFwNext k (off + data.length)).ok e (leBytes 4 (off + data.length))
    else s2.err e stFRAME 0 0

def execFwWrite (mb : Nat) (back : List Byte) (s : State) : Host.Outcome State Fault Refusal :=
  .next (s.command mb 0x0900 fun e s => s.fwWrite e back)

def State.fwVerify (s : State) (e : MbCmd) : State :=
  let k := pf e 0 1
  if 1 < k then s.badArg e
  else s.ok e (leBytes 4 (s.imageCheck k) ++ leBytes 4 (s.imgVersion k) ++ leBytes 4 (s.imgSvn k) ++ leBytes 4 (s.imgLen k))

/-- FW_VERIFY (R606): OK whatever RESULT holds. -/
def execFwVerify (mb : Nat) (s : State) : Host.Outcome State Fault Refusal :=
  .next (s.command mb 0x0901 fun e s => s.fwVerify e)

def State.fwActivate (s : State) (e : MbCmd) : State :=
  let k := pf e 0 1
  if 1 < k then s.badArg e
  else ({ s with nvs := { s.nvs with preferred := k } }.ok e []).fwHalt 3

/-- FW_ACTIVATE (R607): the OK response, then the restart. -/
def execFwActivate (mb : Nat) (s : State) : Host.Outcome State Fault Refusal :=
  .next (s.command mb 0x0902 fun e s => s.fwActivate e)

def State.fwMinSvn (s : State) (e : MbCmd) (vpp : Bool) : State :=
  let n := pf e 0 2
  if s.get F.MBX_FW_STAT_SVN 0 < n then s.err e stBADARG 1 0
  else if n ≤ s.minSvn then s.ok e (leBytes 4 s.minSvn)
  else if (s.fw.stepOpen && vpp) = false then s.err e stNORES 1 0
  else { s with nvs := { s.nvs with minSvn := some n } }.ok e (leBytes 4 n)

/-- FW_MIN_SVN (R607); `vpp` is what the OTP block senses on VPP_OTP. -/
def execFwMinSvn (mb : Nat) (vpp : Bool) (s : State) : Host.Outcome State Fault Refusal :=
  .next (s.command mb 0x0903 fun e s => s.fwMinSvn e vpp)

/-! ### Debug (R608, R609, R650) -/

def State.tmuxUnlock (s : State) (e : MbCmd) : State :=
  let on := bitOf (pf e 0 1) 0
  if on = 1 ∧ bitOf (s.hluEff 17) 0 = 0 then s.err e stLIMIT 1 0
  else
    let s1 := s.set F.DBG_TMUX_STAT_UNLOCKED 0 on
    s1.ok e (leBytes 4 (s1.readReg .DBG_TMUX_STAT 0).toNat)

/-- TMUX_UNLOCK (R609). -/
def execTmuxUnlock (mb : Nat) (s : State) : Host.Outcome State Fault Refusal :=
  .next (s.command mb 0x0A00 fun e s => s.tmuxUnlock e)

/-- Whether R650 catalogues a signal number. -/
def tmuxSignal (n : Nat) : Bool :=
  let c := bitsOf n 10 2
  let i := bitsOf n 0 6
  decide (n < 4096) && match bitsOf n 6 4 with
    | 0 => true
    | 1 => decide (i < 10) || (c == 0 && decide (i < 14))
    | 2 => true
    | 3 => decide (i < 40)
    | 4 => decide (i < 48)
    | 5 => decide (i < 2) && (c == 0 || c == 3)
    | 6 => decide (i < 4)
    | 7 => decide (i < 25)
    | _ => false

def State.tmuxSelect (s : State) (e : MbCmd) : State :=
  let pin := pf e 0 1
  let sig := pf e 2 2
  if ¬(pin < 4 ∨ (16 ≤ pin ∧ pin < 32)) then s.badArg e
  else if sig ≠ 0xFFFF ∧ tmuxSignal sig = false then s.err e stBADARG 1 0
  else { s with side := { s.side with tmux := mapSet (fun _ => 0xFFFF) s.side.tmux pin sig } }.ok e []

/-- TMUX_SELECT (R609): accepted in any state. -/
def execTmuxSelect (mb : Nat) (s : State) : Host.Outcome State Fault Refusal :=
  .next (s.command mb 0x0A01 fun e s => s.tmuxSelect e)

end Sys2Proof.Machine
end

