-- ==== Sys2Proof/Machine/Boot.lean ====
section
/-!
DEFINITION. Rails, PWRGOOD and the boot (R489 to R495, R624 to R630): power-on and cold reset, the phases of the boot, the
shell boot descriptor, and the resets of a PCIe port and of a VF.
-/

namespace Sys2Proof.Machine

/-! ### Rails (R489, R491, R493, R495) -/

/-- The rails that feed domain d (R494). -/
def domainRails (d : Nat) : List Nat :=
  match d with
  | 0 => [0]
  | 2 => [0]
  | 3 => [2, 6]
  | 5 => [0, 1]
  | _ =>
    if d < 11 then [2]
    else if d < 21 then [2, 6, 7]
    else if d < 25 then [2, 8]
    else if d < 29 then [4]
    else if d < 33 then [3]
    else [5, 3]

def State.railUp (s : State) (n : Nat) : Bool := bitOf s.power.railsUp n == 1

/-- Every rail of domain d is up. -/
def State.fed (s : State) (d : Nat) : Bool := (domainRails d).all s.railUp

/-- The rails that R491 wants up before rail n rises. -/
def railNeeds (n : Nat) : List Nat :=
  if n < 2 then [] else if n = 2 then [0, 1] else if n = 7 then [6] else [2]

/-- A fixed domain powers up from its rails (R495). -/
def State.fixedUp (s : State) (d : Nat) : State := (s.set F.PWR_DOM_STATE d pdOn).holdFields d

/-- PD_MGT runs: the start is logged, and a fault of the rails' order (R493, R545). -/
def State.mgtStart (s : State) : State :=
  let s1 := s.restartLog 0
  if s1.get F.PWR_RAIL_STAT_ORDER_ERR 0 = 0 then s1
  else s1.wlog 0x0106 177 sevAlert (s1.get F.PWR_RAIL_STAT_ORDER_ERR 0)

/-- Fixed domains that are off and now may be on: PD_SIDE, and with PWRGOOD high PD_CLK, PD_TEL and PD_MGT (R495). -/
def State.fixedUpAll (s : State) : State :=
  ((if s.power.good then [5, 3, 4, 1] else [5]).foldl (fun s d =>
    if s.domSt d = pdOff ∧ s.powered 0 = true ∧ s.fed d = true then
      (if d = 1 then (s.fixedUp d).mgtStart else s.fixedUp d) else s) s)

/-- What survives the loss of VDD_AON: NVS, OTP and the boot flash, the Weapel records, the levels of pins and rails, and
what belongs to the model (R610, R617, R624). -/
def State.volatileLost (s : State) : State :=
  { pending := s.pending, freeCtr := s.freeCtr, out := s.out, nvs := s.nvs
    wpl := { records := s.wpl.records, newest := s.wpl.newest, lastSeq := s.wpl.lastSeq, anyYet := s.wpl.anyYet }
    ddr := { chans := s.ddr.chans.map fun (e : Nat × DdrCh) => (e.1, { gen := e.2.gen + 1 }) }
    power := { railsUp := s.power.railsUp, perst := s.power.perst, good := false }
    side := { dbgEn := s.side.dbgEn } }

/-- VDD_AON is lost: the two domains that a reset leaves on are off too. -/
def State.aonLost (s : State) : State :=
  ((s.volatileLost.set F.PWR_DOM_STATE 0 pdOff).set F.PWR_DOM_STATE 2 pdOff)

/-- The board layer loaded from OTP, which locks it (R565). -/
def State.loadBoard (s : State) : State :=
  match s.nvs.otpBoard with
  | none => s
  | some l =>
    (((upTo 20).foldl (fun s q => s.setReg .HLU_BOARD q (BitVec.ofNat 32 (l.getD q (hluAbs q)))) s).set F.HLU_CTL_LOCK 0 1).set
      F.HLU_CTL_OTP_BOARD 0 1

/-- Power-on reset of PD_AON (R624): device time starts at 0. Rails that rose before VDD_AON rose out of order (log entry
60). -/
def State.powerOn (s : State) : State :=
  let s0 := s.volatileLost
  let s1 := { s0 with power := { s0.power with railsUp := Nat.lor s.power.railsUp 1 } }
  let early := (upTo 9).foldl (fun a n => if 2 ≤ n ∧ s.railUp n = true then a + 2 ^ n else a) 0
  ((s1.set F.PWR_RAIL_STAT_ORDER_ERR 0 early).loadBoard).fixedUpAll

/-- POWER_ON_RESET (R624): VDD_AON rises past 90 %. -/
def execPowerOnReset (s : State) : Host.Outcome State Fault Refusal := .next s.powerOn

/-- RAIL_UP (R493, R495, R505). A rail that is up already does not rise; VDD_AON's rise is a power-on reset. -/
def State.railRise (s : State) (n : Nat) : State :=
  if 8 < n ∨ s.railUp n = true then s
  else if n = 0 then s.powerOn
  else
    let s1 := { s with power := { s.power with railsUp := s.power.railsUp + 2 ^ n } }
    if s.powered 0 = false then s1
    else if (railNeeds n).all s.railUp then s1.fixedUpAll
    else
      let s2 := s1.set F.PWR_RAIL_STAT_ORDER_ERR 0 (Nat.lor (s1.get F.PWR_RAIL_STAT_ORDER_ERR 0) (2 ^ n))
      let s3 := if s2.powered 1 then s2.wlog 0x0106 177 sevAlert (s2.get F.PWR_RAIL_STAT_ORDER_ERR 0) else s2
      s3.fixedUpAll

def execRailUp (n : Nat) (s : State) : Host.Outcome State Fault Refusal := .next (s.railRise n)

/-- Switched domains of which a prerequisite is off go off too, in one round (R496). -/
def State.dropOrphans (s : State) : State :=
  (upTo 97).foldl (fun s d =>
    if s.domSt d ≠ pdOff ∧ ((prereqs d).any fun e => s.domSt e == pdOff) = true then s.dropDomain d else s) s

/-- VDDQ_DDR falls: DRAM that was kept in self-refresh is lost (R501). -/
def State.dramGone (s : State) (ch : Nat) : State :=
  let s1 := s.dramLost ch
  s1.setChan ch { s1.chan ch with trained := false }

/-- RAIL_DOWN (R495, R496, R503, R505): UP clears, and the domains that the rail feeds are lost with it, and so are those that
need them. -/
def State.railFall (s : State) (n : Nat) : State :=
  if s.railUp n = false then s
  else
    let s1 := { s with power := { s.power with railsUp := s.power.railsUp - 2 ^ n } }
    if n = 0 then s1.aonLost
    else
      let s2 := (upTo 97).foldl (fun s d => if (domainRails d).contains n && s.domSt d != pdOff then s.dropDomain d else s) s1
      let s3 := if n = 8 then (upTo 8).foldl (fun s ch => s.dramGone ch) s2 else s2
      s3.dropOrphans.dropOrphans

def execRailDown (n : Nat) (s : State) : Host.Outcome State Fault Refusal := .next (s.railFall n)

/-! ### PWRGOOD (R492, R503, R624, R625) -/

/-- The domains that a cold reset leaves alone (R624). -/
def coldKept (d : Nat) : Bool := d == 0 || d == 2 || d == 5

/-- What a fall of PWRGOOD takes: everything outside PD_AON, PD_NVS and PD_SIDE, all sequences, a floor-die reset (R503,
R624, R625, R635). -/
def State.coldLost (s : State) : State :=
  let s1 := (3 :: (upTo 10).map (11 + ·)).foldl State.pllsOff s
  let s2 := { s1 with
    regs := mapKeep (fun k => coldKept (regDomain (allRegs.getD (k % 512) .CAL_BORE_SEL) (k / 512))) s1.regs
    collector := {}, bores := {}, pcie := {}, tenancy := {}, haul := {}, planes := {}, slots := {}, loads := [], memt := {}
    floorReset := 0, repair := {}, mbx := {}, fw := {}, scrub := [], hports := [], lanes := {}, cal := [], hoppers := []
    thermal := { h := s1.thermal.h, lockUsed := s1.thermal.lockUsed }
    ddr := { chans := s1.ddr.chans.map fun (e : Nat × DdrCh) => (e.1, { gen := e.2.gen + 1 }) }
    clocks := { s1.clocks with lag := [] }
    power := { railsUp := s1.power.railsUp, perst := s1.power.perst, tripped := s1.power.tripped } }
  let s3 := (upTo 97).foldl (fun s d =>
    if coldKept d then s else (if d < 6 then s else s.set F.PWR_DOM_ON d 0).set F.PWR_DOM_STATE d pdOff) s2
  (s3.set F.DBG_TMUX_STAT_UNLOCKED 0 0).set F.PWR_RST_STAT_LAST 0 1

/-- PWRGOOD_FALL (R492, R503): the power-loss warning freezes the recorder; every switched domain is lost. -/
def execPwrgoodFall (s : State) : Host.Outcome State Fault Refusal :=
  .next (if s.power.good then (s.wlog 0x0A02 177 sevAlert 0).coldLost else s)

/-- PWRGOOD rises: the straps are sampled, PWR_BOOT_STAT clears, and FIXED brings up PD_CLK, PD_TEL and PD_MGT (R626, R627,
R638, R648). -/
def State.goodRise (s : State) (sbSel : Bool) (sbAddr : Nat) (flashOct : Bool) : State :=
  let s1 := { s.setReg .PWR_BOOT_STAT 0 0 with power := { s.power with good := true, riseAt := s.time, boot := 1 } }
  let s2 := if s1.powered 5 then
      s1.setReg .DBG_STRAP 0 (BitVec.ofNat 32 (b2n flashOct * 8 + sbAddr % 4 * 2 + b2n sbSel)) else s1
  s2.fixedUpAll

def execPwrgoodRise (sbSel : Bool) (sbAddr : Nat) (flashOct : Bool) (s : State) : Host.Outcome State Fault Refusal :=
  .next (if s.power.good || !s.powered 0 then s else s.goodRise sbSel sbAddr flashOct)

/-! ### Boot phases (R627) -/

/-- The boot stands at phase k, with PD_MGT on and the controller running. -/
def State.bootAt (s : State) (k : Nat) : Bool := s.fwRuns && !s.fw.restarting && s.power.boot == k
def State.bootTo (s : State) (k : Nat) : State := { s with power := { s.power with boot := k } }

/-- CLOCKS has ended: REFCLK_SYS is stable, and PLL_MGT, PLL_HN_c, PLL_FAB_c_k and PLL_DDR_c are locked, or their domains
run from their fallback (R627, log entry 60). -/
def State.clocksReady (s : State) : Bool :=
  (s.oscStable 2 || s.flag F.CLK_OSC_STAT_REF_FAIL 0)
    && (upTo 41).all fun i => s.flag F.CLK_MON_LOCKED (3 + i) || s.flag F.CLK_MON_ON_FALLBACK (3 + i)

/-- BOOT_ROM (R543, R544, R627, R645): the first slot that passes its checks boots; else recovery mode. A flash without the
mode of the strap is read slowly. -/
def execBootRom (s : State) : Host.Outcome State Fault Refusal :=
  .next (if s.bootAt 1 && s.clocksReady then
    let s1 := if s.powered 5 && !Config.flashOffers (s.flag F.DBG_STRAP_FLASH_OCT 0) then
        s.set F.DBG_STRAP_FLASH_SLOW 0 1 else s
    (match s1.bootChoice with
    | some k => s1.bootSlot k
    | none => s1.recoveryMode).bootTo 2
  else s)

/-- A set of domains is powered up by the boot where its rails are up and its prerequisites on (R496, R627). -/
def State.bootDomains (s : State) (l : List Nat) : State :=
  l.foldl (fun s d =>
    if s.fed d && s.domSt d == pdOff && (prereqs d).all fun e => s.domSt e == pdOn then s.bootDomain d else s) s

/-- BOOT_NET (R390, R627): PD_HN_0, PD_BRG, PD_HN_1 to PD_HN_3, with the bore entries of the spoil list. -/
def execBootNet (s : State) : Host.Outcome State Fault Refusal :=
  .next (if s.bootAt 2 then ((s.spoilBores.bootDomains [6, 10, 7, 8, 9]).bootDetours).bootTo 3 else s)

/-- BOOT_PORTS (R627). -/
def execBootPorts (s : State) : Host.Outcome State Fault Refusal :=
  .next (if s.bootAt 3 then (s.bootDomains ((upTo 14).map (11 + ·))).bootTo 4 else s)

/-- BOOT_TIERS (R390, R627): the configuration tiers, then the memory tiers. -/
def execBootTiers (s : State) : Host.Outcome State Fault Refusal :=
  .next (if s.bootAt 4 then (s.bootDomains [29, 30, 31, 32, 25, 26, 27, 28]).bootTo 5 else s)

/-- BOOT_BENCHES (R627). -/
def execBootBenches (s : State) : Host.Outcome State Fault Refusal :=
  .next (if s.bootAt 5 then (s.bootDomains ((upTo 64).map (33 + ·))).bootTo 6 else s)

/-! ### The shell boot descriptor (R629) -/

def shellBase : Nat := 0x1000000

/-- An entry of the descriptor. -/
structure ShellEntry where
  gslot  : Nat
  bench  : Nat
  plane  : Nat
  priv   : Bool
  online : Bool
  deriving DecidableEq, Repr

def shellEntry (d : List Byte) (e : Nat) : ShellEntry :=
  let f := leAt d (0x13 + 8 * e) 1
  { gslot := leAt d (0x10 + 8 * e) 2 % 4096, bench := leAt d (0x12 + 8 * e) 1, plane := bitsOf f 0 3
    priv := bitOf f 4 == 1, online := bitOf f 5 == 1 }

def shellEntries (d : List Byte) : List ShellEntry := (upTo (leAt d 8 1)).map (shellEntry d)

/-- A descriptor whose MAGIC reads all-ones is absent. -/
def shellAbsent (d : List Byte) : Bool := leAt d 0 4 == 0xFFFFFFFF

/-- A valid descriptor (R629). -/
def shellValid (d : List Byte) : Bool :=
  leAt d 0 4 == 0x4259454D && leAt d 0xFC 4 == crc32c (d.take 0xFC) && decide (1 ≤ leAt d 8 1 ∧ leAt d 8 1 ≤ 16)
    && decide ((shellEntries d).map fun (e : ShellEntry) => e.bench).Nodup
    && (shellEntries d).all fun (e : ShellEntry) => e.bench / 16 == e.gslot / 1024

/-- A failed SHELL step (R629): it is logged with the load's RESULT, which SHELL_RESULT and DESC_ERR record. A load that
fails has logged it by itself. -/
def State.shellFail (s : State) (result : Nat) (logged : Bool) : State :=
  let s1 := (s.set F.PWR_BOOT_STAT_SHELL_RESULT 0 result).set F.PWR_BOOT_STAT_DESC_ERR 0 1
  if logged then s1 else s1.wlog 0x0302 64 sevNotice (result * 2 ^ 8)

/-- The distinct elements of a list, in the order in which they first appear. -/
def distinct : List Nat → List Nat
  | [] => []
  | x :: l => x :: (distinct l).filter (· != x)

/-- Step 1: the image at flash offset `a` goes through load channel 0 into the distinct global slots. -/
def State.shellLoad (s : State) (a : Nat) (slots : List Nat) : State :=
  let len := leNat (s.flashRead (a + 0x20) 4)
  let s1 := ((s.setReg .MEY_LOAD_SRC_LO 0 (BitVec.ofNat 32 a)).setReg .MEY_LOAD_SRC_HI 0 0).setReg .MEY_LOAD_LEN 0
    (BitVec.ofNat 32 len)
  let s2 := (upTo slots.length).foldl (fun s i =>
    (s.set F.MEY_LOAD_TGT_VALID i 1).set F.MEY_LOAD_TGT_GSLOT i (slots.getD i 0)) s1
  let ctl := putFld F.MEY_LOAD_CTL_GO (putFld F.MEY_LOAD_CTL_SRC_KIND (putFld F.MEY_LOAD_CTL_SW_ALLOW 0 1) 3) 1
  let r := (s2.loadCtlWrite 0 (BitVec.ofNat 32 ctl)).loadFeed 0 3 (s2.flashRead a len)
  (((r.2.loadHold 0).loadFeed 0 3 r.1).2).loadCommit 0

/-- The bytes of the image's DECL section (R229, R234): the data of its frames. -/
def State.imageDecl (s : State) (a : Nat) : List Byte :=
  let start := a + 256 + 32 * leNat (s.flashRead (a + 0x12) 2)
  (upTo (leNat (s.flashRead (a + 256 + 4) 4))).flatMap fun i => s.flashRead (start + 520 * i) 512

/-- Step 2: GSLOT is staged into PLANE of BENCH; whether it succeeded. -/
def State.shellStage (s : State) (e : ShellEntry) : State × Bool :=
  if s.benchUp e.bench then
    let v := putFld F.CTX_CMD_GO (putFld F.CTX_CMD_PLANE (putFld F.CTX_CMD_SLOT 0 (e.gslot % 1024)) e.plane) 1
    let s1 := s.ctxCmdWrite .fw e.bench (BitVec.ofNat 32 v)
    let s2 := s1.ctxFinish e.bench true
    (s2, (s1.ctxRun e.bench).isSome && s2.get F.CTX_STAT_RESULT e.bench == rsOk)
  else (s, false)

/-- Step 3: the declarations apply to the plane as DECL_APPLY does. -/
def State.shellDeclare (s : State) (decl : List Byte) (e : ShellEntry) : State × Bool :=
  let z := s.declApply e.bench e.plane true true true decl
  (z.1, z.2.1 == stOK)

/-- Step 4: PRIV as the entry asks. -/
def State.shellPriv (s : State) (e : ShellEntry) : State × Bool :=
  let v := putFld F.BENCH_ASSIGN_PRIV (putFld F.BENCH_ASSIGN_FN 0 (s.fnNow e.bench)) (b2n e.priv)
  (s.assignWrite e.bench (BitVec.ofNat 32 v), !s.assignRefused e.bench (s.fnNow e.bench) (b2n e.priv))

/-- Step 5: the online edge, if the entry asks for it. -/
def State.shellOnline (s : State) (e : ShellEntry) : State × Bool :=
  if e.online then
    let v := putFld F.BENCH_PLANE_SEL_CMD (putFld F.BENCH_PLANE_SEL_PLANE 0 e.plane) 1
    let s1 := (s.planeSelWrite e.bench (BitVec.ofNat 32 v)).presentEdge e.bench false false true false true
    (s1, s1.online e.bench)
  else (s, true)

/-- Steps 2 to 5 of the entries in order, up to the first that fails. -/
def State.shellBring (s : State) (decl : List Byte) : List ShellEntry → State × Bool
  | [] => (s, true)
  | e :: rest =>
    let a := s.shellStage e
    let b := if a.2 then a.1.shellDeclare decl e else a
    let c := if b.2 then b.1.shellPriv e else b
    let d := if c.2 then c.1.shellOnline e else c
    if d.2 then d.1.shellBring decl rest else d

/-- SHELL (R629): an absent descriptor leaves everything as it is. -/
def State.shell (s : State) : State :=
  let d := s.flashRead shellBase 256
  if shellAbsent d then s
  else
    let s1 := s.set F.PWR_BOOT_STAT_SHELL_PRESENT 0 1
    if shellValid d = false then s1.shellFail ldFormat false
    else
      let a := shellBase + leAt d 4 4
      let es := shellEntries d
      let s2 := s1.shellLoad a (distinct (es.map fun (e : ShellEntry) => e.gslot))
      let result := s2.get F.MEY_LOAD_STAT_RESULT 0
      if s2.flag F.MEY_LOAD_STAT_BUSY 0 then
        match s2.load 0 with
        | some r => (s2.loadFail 0 r ldFormat).shellFail ldFormat true
        | none => s2.shellFail ldFormat true
      else if result ≠ ldOk then s2.shellFail result true
      else
        let z := s2.shellBring (s2.imageDecl a) es
        if z.2 then z.1 else z.1.shellFail ldOk false

/-- BOOT_SHELL (R629): recovery mode has no shell (R544, log entry 60). -/
def execBootShell (s : State) : Host.Outcome State Fault Refusal :=
  .next (if s.bootAt 6 then (if s.flag F.MBX_FW_STAT_RECOVERY 0 then s else s.shell).bootTo 7 else s)

/-- BOOT_OPEN (R416, R627, R628, R638): FW_UP, boot complete, BOOT_US; the ports answer from now on. -/
def execBootOpen (s : State) : Host.Outcome State Fault Refusal :=
  .next (if s.bootAt 7 then
    ((s.fwOpen.set F.PWR_BOOT_STAT_DONE 0 1).set F.PWR_BOOT_STAT_BOOT_US 0
      (min 0xFFFFFF ((s.time - s.power.riseAt) / 1000))).bootTo 8
  else s)

/-! ### Resets of a port and of a VF (R419, R624, R630) -/

/-- PERST_ASSERT (R428, R501, R555, R624): port x, and the mailboxes of the VFs attached to it. -/
def State.perstDown (s : State) (x : Nat) : State :=
  let vfs := (upTo 64).filter fun n => s.vfPort n == x
  let s1 := (s.pcieReset x).set F.PCIE_LINK_STAT_PERST x 1
  let s2 := { s1 with power := { s1.power with perst := Nat.lor s1.power.perst (2 ^ x) } }
  if s2.powered 1 then vfs.foldl State.mbxAbort s2 else s2

def execPerstAssert (x : Nat) (s : State) : Host.Outcome State Fault Refusal :=
  .next (if 1 < x ∨ bitOf s.power.perst x = 1 then s
    else if s.powered (dPcie x) then s.perstDown x
    else { s with power := { s.power with perst := s.power.perst + 2 ^ x } })

/-- PERST_DEASSERT (R630): the link may train; configuration requests get Request Retry Status until OPEN (R416). -/
def execPerstDeassert (x : Nat) (s : State) : Host.Outcome State Fault Refusal :=
  .next (if 1 < x ∨ bitOf s.power.perst x = 0 then s
    else
      let s1 := { s with power := { s.power with perst := s.power.perst - 2 ^ x } }
      if s.powered (dPcie x) then s1.set F.PCIE_LINK_STAT_PERST x 0 else s1)

/-- VF_FLR (R419): through port x. Configuration space and MSI-X state; at the port to which the VF is attached also its
event ring's enable and its mailbox. -/
def State.vfReset (s : State) (x n : Nat) : State :=
  let s1 := s.vfCfgReset x n
  if s.vfPort n = x ∧ s.powered 1 = true then (s1.set F.BENCH_RING_CTL_EN n 0).mbxReset n else s1

def execVfFlr (x n : Nat) (s : State) : Host.Outcome State Fault Refusal :=
  .next (if x < 2 ∧ n < 64 ∧ s.portLive x = true then
    if s.flag F.PWR_BOOT_STAT_DONE 0 then (if s.hasFn x (n + 1) then s.vfReset x n else s) else s.emit (.cfgRetry x (n + 1))
  else s)

end Sys2Proof.Machine
end

