-- ==== Sys2Proof/Machine/FloorReset.lean ====
section
/-!
DEFINITION. The floor-die reset (R631 to R635): its start and refusals, what its steps end, and what RESUME delivers.
-/

namespace Sys2Proof.Machine

/-! ### ENTER (R631, R632) -/

/-- The reset starts: the floor's end points stop, the DDR channels begin self-refresh, FW_UP reads 0 and the commands
taken wait to be settled (R632, R633); the scrubbers stop (R407). -/
def State.floorStart (s : State) : State :=
  let s1 := (upTo 4).foldl (fun s c => s.ddrEnterSelfCol c false) { s.scrubsStop with floorReset := 1 }
  { s1.set F.MBX_FW_STAT_FW_UP 0 0 with
    mbx := { s1.mbx with cmds := s1.mbx.cmds.map (fun (e : MbCmd) => { e with old := true }) } }

/-- Why a FLOOR write is refused (R631). -/
def State.floorRefused (s : State) : Bool :=
  s.floorReset != 0 || !s.flag F.PWR_BOOT_STAT_DONE 0 || !s.power.good

/-- A PWR_RST_CTL write (R631, R636): HOLD_US is 1 to 1,000; a refused FLOOR leaves the register as it is. -/
def State.rstCtlWrite (s : State) (v : Word) : State :=
  let floor := fldOf F.PWR_RST_CTL_FLOOR v == 1
  if floor && s.floorRefused then s.set F.PWR_RST_STAT_RST_ERR 0 1
  else
    let s1 := s.set F.PWR_RST_CTL_HOLD_US 0 (clampNat 1 1000 (fldOf F.PWR_RST_CTL_HOLD_US v))
    if floor then s1.floorStart else s1

/-- FLOOR_RESET (R631): a write through the PF window, which meets the refusals of the power block also before OPEN and
during a reset. -/
def execFloorReset (src : Src) (v : Word) (s : State) : Host.Outcome State Fault Refusal :=
  .next (match src with
    | .pf x => if x < 2 ∧ s.portLive x = true ∧ s.powered 0 = true then s.rstCtlWrite v else s
    | _ => s)

/-- FLOOR_RESET_ENTER_DONE (R632): both DDR channels of each column are in self-refresh, and HOLD begins. -/
def execFloorResetEnterDone (s : State) : Host.Outcome State Fault Refusal :=
  .next (if s.floorReset = 1 then
    let s1 := (upTo 8).foldl (fun s ch =>
      if (s.chan ch).entering then
        (s.setChan ch { s.chan ch with entering := false }).set F.DDR_CH_STAT_STATE ch ddSelfref
      else s) s
    { s1.startTimer tmHold with floorReset := 2 }
  else s)

/-! ### HOLD: how work in flight ends (R633) -/

/-- Flits in routers, bridge queues and end point buffers are discarded and credits start anew; tables, fences and traces
stay. -/
def State.floorRouters (s : State) : State :=
  let s := s.memt.reqs.foldl (fun s (e : Nat × List MemReq) => s.setMemReqs e.1 []) s
  { s with
    haul := { s.haul with
      queues := [], opens := [], held := [], spent := [], inside := [], rrIn := [], rrVc := [], rrCh := [], inj := []
      epSpent := [], bridgeQ := [], synth := [] } }

/-- A response that a port holds and has not begun to write is discarded with the port's buffer: its request is answered
UNREACHABLE (log entry 61). -/
def State.heldLost (s : State) (b : Nat) (h : HeldRsp) : HeldRsp :=
  let j := 32 * b + h.hop
  let raw := h.items.map fun (e : Nat × Bool × Bool) => e.1
  let d0 := if s.hopWidth j = 144 then raw.getD 0 0 % 2 ^ 72 else raw.getD 0 0
  let d1 := if s.hopWidth j = 144 then raw.getD 0 0 / 2 ^ 72 else raw.getD 1 0
  { h with items := s.hopItems j [d0, putBits d1 14 4 stUnreachable], skew := 0 }

/-- A transfer that a port is writing into an in hopper: cut in packet mode, ended where it stands in stream mode, counted
in MALFORMED. -/
def State.cutTransfer (s : State) (b p : Nat) (h : HeldRsp) : State :=
  let j := 32 * b + h.hop
  let s1 := match (s.hop j).wopen with
    | some n => if s.flag F.HOP_CFG_PKT j then s.hopCut j (s.hop j) n else s
    | none => s
  s1.inc F.BENCH_HPORT_ERR_MALFORMED (2 * b + p)

/-- A bench haul port in HOLD: PWRITEs, responses and requests in its buffers are discarded, pending entries freed. -/
def State.floorPort (s : State) (b p : Nat) : State :=
  let x := s.hport b p
  let s1 := (s.incBy F.BENCH_HPORT_DROP_PST_DROP (2 * b + p) (s.waiting b p 2).length).incBy
    F.BENCH_HPORT_ERR_REFUSED (2 * b + p) x.pend.length
  let s2 := (x.held.filter fun (h : HeldRsp) => h.sent != 0).foldl (fun s h => s.cutTransfer b p h) s1
  s2.setHport b p { x with
    pend := [], wait := []
    held := (x.held.filter fun (h : HeldRsp) => h.sent == 0).map (s2.heldLost b) }

/-- BAR accesses on the network: reads complete with all-ones, writes are discarded, each counted; their TAGs are free. -/
def State.floorBars (s : State) : State :=
  let s1 := s.pcie.bars.foldl (fun s r =>
    (s.barFail r).setFtag r.port r.ht { s.ftag r.port r.ht with busy := false }) s
  { s1 with pcie := { s1.pcie with bars := [] } }

/-- FLOOR_RESET_HOLD_END (R632, R633): HOLD_US have passed and the floor logic leaves reset. -/
def execFloorResetHoldEnd (s : State) : Host.Outcome State Fault Refusal :=
  .next (if s.floorReset = 2 ∧ s.timerDue tmHold (1000 * s.get F.PWR_RST_CTL_HOLD_US 0) = true then
    let s1 := s.floorRouters
    let s2 := (s1.hports.map fun (e : Nat × Hport) => e.1).foldl (fun s k => s.floorPort (k / 2) (k % 2)) s1
    { s2.floorBars with floorReset := 3 }
  else s)

/-! ### RELEASE and RESUME (R632 to R634) -/

/-- A group's evaluation at RELEASE: the background value moves by at most 4 codes toward the eye centre; a group that is
then still more than 4 codes off is acquired afresh and logged. -/
def State.floorGroup (s : State) (g : Nat) (bins : List Nat) : State :=
  let x := s.group g
  if gidValid g = false ∨ x.acqDone = false ∨ ¬(gidIface g = 0 ∨ gidPeriph g = 1) then s
  else
    let (d, s1) := s.centre2 bins
    let m := clampInt (-4) 4 (d / 2)
    let off := d / 2 - m
    let y := s1.withClamp g { x with bg := signed8 (signedOf 8 x.bg + m), centreErr := unsignedOf 8 (clampInt (-128) 127 off) }
    let z := { y with eff := s1.trimTarget g y }
    if off.natAbs ≤ 4 then s1.setGroup g z
    else
      let (code, s2) := s1.fresh 8
      (s2.setGroup g { s2.acqFinish g z code (s2.get F.THM_COL_BAND (gidCol g)) with centreErr := 0 }).wlog
        0x0404 74 sevAlert g

/-- The requests of a bench port that are outstanding are answered UNREACHABLE (R633). -/
def State.floorAnswer (s : State) (b p : Nat) : State :=
  (s.hport b p).tags.foldl (fun s (e : Nat × PortTag) => match e.2.req with
    | none => s
    | some q =>
      let s1 := s.setPortTag b p e.1 { e.2 with req := none }
      if s.isInHopper (32 * b + q.rspHop) p && s.get F.HOP_OWNER_PLANE (32 * b + q.rspHop) == q.plane then
        s1.holdRsp b p ⟨q.rspHop, q.plane, s1.hopItems (32 * b + q.rspHop) (rspItems q stUnreachable []), 0, q.room, 0⟩
      else s1.inc F.BENCH_HPORT_DROP_RSP_DROP (2 * b + p)) s

/-- What a bench port has for its hoppers moves on. -/
def State.floorDeliver (s : State) (b p : Nat) : State :=
  (s.hport b p).held.foldl (fun s (h : HeldRsp) => s.drainHopper b (32 * b + h.hop)) s

/-- The DDR channels leave self-refresh, but for those whose PLL has tripped or whose domain powers down (R478, R498,
R642). -/
def State.floorDdr (s : State) : State :=
  (upTo 8).foldl (fun s ch =>
    if s.ddrClocked (ch / 2) = true ∧ s.domSt (dDdr (ch / 2)) = pdOn then s.ddrExitSelf ch else s) s

/-- Copy descriptors in progress end as for link down (R428, R633). -/
def State.floorDma (s : State) (x : Nat) : State := if (s.dmaEng x).descs.isEmpty then s else s.dmaEnd x

/-- The controller settles its commands and serves again (R548, R633), unless it restarts or has failed. -/
def State.floorFw (s : State) : State :=
  if s.fw.restarting || s.flag F.MBX_FW_STAT_FAILED 0 || !s.powered 1 then s
  else
    let s1 := s.settle
    { s1.set F.MBX_FW_STAT_FW_UP 0 1 with
      mbx := { s1.mbx with cmds := s1.mbx.cmds.map (fun (e : MbCmd) => { e with old := false }) } }

/-- The groups that the reset paused: evaluation restarts 1 µs after the pause ends, from an empty histogram (R33). -/
def State.floorEvals (s : State) : State :=
  s.waitEvals (((upTo 64).map fun b => benchClass b 0) ++ (upTo 12).map fun i => periphClass (i / 3) (i % 3))

/-- RESUME (R632): end points inject, held events and completions are delivered, FLOOR_CNT counts. -/
def State.floorResume (s : State) : State :=
  let ports := s.hports.map fun (e : Nat × Hport) => e.1
  let s1 := (({ s with floorReset := 0 }.floorEvals).loadsAborted).scrubsResume
  let s2 := (s1.floorDma 0).floorDma 1
  let s3 := ports.foldl (fun s k => (s.floorAnswer (k / 2) (k % 2)).floorDeliver (k / 2) (k % 2)) s2
  let s4 := (((upTo 97).foldl (fun s d => s.fenceStepEnd d) s3.floorDdr).floorFw.inc F.PWR_RST_STAT_FLOOR_CNT 0).set F.PWR_RST_STAT_LAST 0 2
  (s4.sendPort 0).sendPort 1

/-- FLOOR_RESET_RELEASE_DONE (R634): `evals` holds what the evaluations at RELEASE counted, by group. -/
def execFloorResetReleaseDone (evals : List (Nat × List Nat)) (s : State) : Host.Outcome State Fault Refusal :=
  .next (if s.floorReset = 3 then
    (evals.foldl (fun s (e : Nat × List Nat) => s.floorGroup e.1 e.2) s).floorResume
  else s)

end Sys2Proof.Machine
end

