-- ==== Sys2Proof/Machine/Debug.lean ====
section
/-!
DEFINITION. The TAP and DBG_EN (R609, R652, R653): the instruction, when it takes the pins, and what that does to links,
lanes and DDR channels.
-/

namespace Sys2Proof.Machine

/-! ### Instructions (R652) -/

def tapIdcode : Nat := 0x01
def tapSample : Nat := 0x02
def tapExtest : Nat := 0x03
def tapClamp : Nat := 0x04
def tapHighz : Nat := 0x05
def tapExtestPulse : Nat := 0x06
def tapExtestTrain : Nat := 0x07
def tapBypass : Nat := 0xFF

/-- Instructions that take the pins while DBG_EN is high (R653). -/
def tapDrives (ir : Nat) : Bool := decide (3 ≤ ir ∧ ir ≤ 7)

/-- The identification register: stepping B0, part 0xA4D0, Krovant's manufacturer code (R652). -/
def idcodeWord : Nat := 2 * 2 ^ 28 + 0xA4D0 * 2 ^ 12 + Config.jtagMaker % 2 ^ 11 * 2 + 1

/-- The instruction that is in effect: every undefined opcode, and with DBG_EN low every instruction that takes pins, acts
as BYPASS (R652, R653). -/
def State.tapActs (s : State) : Nat :=
  if s.side.tapIr = tapIdcode ∨ s.side.tapIr = tapSample then s.side.tapIr
  else if tapDrives s.side.tapIr && s.side.dbgEn then s.side.tapIr
  else tapBypass

/-! ### Taking and returning the pins (R653) -/

/-- Entry to an instruction that drives the pins: the PCIe links go down, every lane enters FAULT with cause LOL. -/
def State.tapTake (s : State) : State :=
  let s1 := [0, 1].foldl (fun s x => if s.powered (dPcie x) then s.linkDown x else s) s
  let s2 := (upTo 8).foldl (fun s o => if s.powered (dEth o) then s.octetLol o else s) s1
  { s2 with side := { s2.side with tapPins := true } }.emit (.tapPins s.side.tapIr true)

/-- The pins return to their functions: the DDR channels train. -/
def State.tapReturn (s : State) : State :=
  let s1 := (upTo 8).foldl (fun s ch => if s.powered (dDdr (ch / 2)) then s.ddrTrainFull ch else s)
    { s with side := { s.side with tapPins := false } }
  s1.emit (.tapPins s.side.tapIr false)

/-- The pins follow the instruction and DBG_EN; `entry` marks a new instruction. -/
def State.tapPinsFollow (s : State) (entry : Bool) : State :=
  let drives := tapDrives s.side.tapIr && s.side.dbgEn
  if drives then (if entry || !s.side.tapPins then s.tapTake else s)
  else if s.side.tapPins then s.tapReturn else s

/-- The TAP takes an instruction, while PD_SIDE feeds its pins. -/
def State.tapTo (s : State) (ir : Nat) : State :=
  if s.powered 5 then { s with side := { s.side with tapIr := ir } }.tapPinsFollow true else s

/-- TAP_RESET (R624, R652): TRST_N resets the TAP alone; IDCODE is the instruction after it. -/
def execTapReset (s : State) : Host.Outcome State Fault Refusal := .next (s.tapTo tapIdcode)

/-- TAP_BYPASS (R652). -/
def execTapBypass (s : State) : Host.Outcome State Fault Refusal := .next (s.tapTo tapBypass)

/-- TAP_IDCODE (R652). -/
def execTapIdcode (s : State) : Host.Outcome State Fault Refusal := .next (s.tapTo tapIdcode)

/-- TAP_SAMPLE_PRELOAD (R652): the pins keep their functions. -/
def execTapSamplePreload (s : State) : Host.Outcome State Fault Refusal := .next (s.tapTo tapSample)

/-- TAP_EXTEST (R653). -/
def execTapExtest (s : State) : Host.Outcome State Fault Refusal := .next (s.tapTo tapExtest)

/-- TAP_CLAMP (R653). -/
def execTapClamp (s : State) : Host.Outcome State Fault Refusal := .next (s.tapTo tapClamp)

/-- TAP_HIGHZ (R653). -/
def execTapHighz (s : State) : Host.Outcome State Fault Refusal := .next (s.tapTo tapHighz)

/-- TAP_EXTEST_PULSE (R653). -/
def execTapExtestPulse (s : State) : Host.Outcome State Fault Refusal := .next (s.tapTo tapExtestPulse)

/-- TAP_EXTEST_TRAIN (R653). -/
def execTapExtestTrain (s : State) : Host.Outcome State Fault Refusal := .next (s.tapTo tapExtestTrain)

/-! ### DBG_EN (R609, R653) -/

/-- DBG_EN_CHANGE: a fall clears UNLOCKED and returns the pins at once, and the TAP keeps its instruction. -/
def State.dbgChange (s : State) (on : Bool) : State :=
  let s1 := { s with side := { s.side with dbgEn := on } }
  if s.powered 5 = false then s1
  else (if on then s1 else s1.set F.DBG_TMUX_STAT_UNLOCKED 0 0).tapPinsFollow false

def execDbgEnChange (on : Bool) (s : State) : Host.Outcome State Fault Refusal := .next (s.dbgChange on)

end Sys2Proof.Machine
end

