-- ==== Sys2Proof/Machine/RegWrite.lean ====
section
/-!
DEFINITION. REGISTER_WRITE (R8, R9): a write of any register through a window. A register whose write does more than R8
says goes to the operation of its chapter; every other one is written under its access codes, with the fields that its
chapter holds to a range.
-/

namespace Sys2Proof.Machine

/-- The registers of one window that the selection registers move (R35, R110, R221): the write reaches the selected
instance only. -/
def State.windowInst (s : State) (src : Src) (r : Reg) (i : Nat) : Bool :=
  match r with
  | .CAL_BORE_SEL => i == selCopy src
  | .MEMT_INV => i == s.memtBench
  | .MEMT_ARB => i == s.memtBench
  | .MEMT_ECC_CNT => i == s.memtBench
  | .MEMT_FENCE_CNT => i == s.memtBench
  | .MEMT_EVT => i == s.memtBench
  | .MEMT_EVT_EN => i == s.memtBench
  | .MEMT_ERR_LOG_0 => i == s.memtBench
  | .CTX_SLOT_STAT => i == s.selSlot (i / 1024)
  | .CTX_SLOT_OWNER => i == s.selSlot (i / 1024)
  | .CTX_SLOT_CTL => i == s.selSlot (i / 1024)
  | _ => true

/-- A field held to the range [lo, hi]: it reads back as the nearer limit. -/
def State.clampFld (s : State) (f : Fld) (i lo hi : Nat) : State := s.set f i (clampNat lo hi (s.get f i))

/-- Plain writes of registers of which some field is held to a range. -/
def State.rangedWrite (s : State) (r : Reg) (i : Nat) (v : Word) : State :=
  let t := s.plainWrite r i v
  match r with
  | .CAL_BORE_CTL => t.clampFld F.CAL_BORE_CTL_WINDOW i 0 0xC
  | .HOP_TAIL => if t.get F.HOP_TAIL_TAIL_EXP i = 0 then t else t.clampFld F.HOP_TAIL_TAIL_EXP i 4 24
  | .BENCH_SCHED_QUANT => t.clampFld F.BENCH_SCHED_QUANT_QUANTUM_US i 1 1000000
  | .MEY_LOAD_TMO => t.clampFld F.MEY_LOAD_TMO_TMO_US i 1 1000000
  | .HN_DDR_ILV => t.clampFld F.HN_DDR_ILV_G i 12 16
  | .HN_TMO => t.clampFld F.HN_TMO_TMO_US i 1 1000000
  | .BENCH_HPORT_TMO => t.clampFld F.BENCH_HPORT_TMO_TMO_US i 1 1000000
  | .ETH_PORT_CFG => t.clampFld F.ETH_PORT_CFG_MAX_FRAME i 64 9216
  | .CLK_RAMP_CTL => t.clampFld F.CLK_RAMP_CTL_DWELL i 0 5
  | _ => t

/-- A DBG_GPIO_OE write (R649): bits outside HLU quantity 14 are refused and stay 0. -/
def State.gpioOeWrite (s : State) (src : Src) (v : Word) : State :=
  let s1 := s.set F.DBG_GPIO_OE_OE 0 (Nat.land v.toNat (s.hluEff 14))
  if hluWithin 14 v.toNat (s.hluEff 14) then s1 else s1.hluRefuse 14 (srcCode src)

/-- A LANE_TX write (R463): SWING_MV above the bound is refused and keeps its value. -/
def State.laneTxWrite (s : State) (src : Src) (n : Nat) (v : Word) : State :=
  let s1 := s.plainWrite .LANE_TX n v
  if fldOf F.LANE_TX_SWING_MV v ≤ s.hluEff 13 then s1
  else (s1.set F.LANE_TX_SWING_MV n (s.get F.LANE_TX_SWING_MV n)).hluRefuse 13 (srcCode src)

/-- A PCIE_DEV_CTL write (R429, R435): pending PF messages follow the port that PF_VEC_PORT names. -/
def State.devCtlWrite (s : State) (v : Word) : State := ((s.plainWrite .PCIE_DEV_CTL 0 v).sendPort 0).sendPort 1

/-- A WPL_CTL write (R621). -/
def State.wplCtlWrite (s : State) (v : Word) : State :=
  if wplCtlBoth v then s
  else if bitOf v.toNat 31 = 1 then s.hostFreeze 180 1
  else if bitOf v.toNat 30 = 1 then s.wplResume
  else s

/-- Writes of the control blocks of benches, of memory and configuration tiers, and of load channels. -/
def State.writeBench (s : State) (src : Src) (r : Reg) (i : Nat) (v : Word) : State :=
  match r with
  | .BENCH_DLYMON_CTL => s.dlymonCtlWrite i v
  | .MEMT_INV => s.invWrite i v
  | .MEMT_FLIP_2 => s.flipWrite v
  | .HOP_CFG => s.hopCfgWrite i v
  | .HOP_CTL => if fldOf F.HOP_CTL_FLUSH v = 1 ∧ s.hopSlave i = false then s.setHop i (startFlush (s.hop i)) else s
  | .HOP_OWNER => s.hopOwnerWrite i v
  | .BENCH_PLANE_SEL => s.planeSelWrite i v
  | .BENCH_SCHED_CTL => s.schedCtlWrite i v
  | .BENCH_CLKSRC => s.clkSrcWrite (i / 8) (i % 8) v
  | .BENCH_SURGE_CTL => s.surgeWrite src i v
  | .CTX_CMD => s.ctxCmdWrite src i v
  | .CTX_SLOT_OWNER => s.slotOwnerWrite i v
  | .CTX_SLOT_CTL => if fldOf F.CTX_SLOT_CTL_RELEASE v = 1 then s.slotRelease i else s
  | .MEY_LOAD_CTL => s.loadCtlWrite i v
  | .MEY_LOAD_TGT => if s.flag F.MEY_LOAD_STAT_BUSY (i / 64) then s else s.plainWrite r i v
  | .BENCH_ASSIGN => s.assignWrite i v
  | .BENCH_GANG_CMD => s.gangCmdWrite i v
  | .BENCH_MFENCE => s.mfenceWrite i v
  | .BENCH_HWIN_HI => s.hwinWrite i v
  | .BENCH_LANE_TX_LO => s.laneMaskWrite i false false v
  | .BENCH_LANE_TX_HI => s.laneMaskWrite i false true v
  | .BENCH_LANE_RX_LO => s.laneMaskWrite i true false v
  | .BENCH_LANE_RX_HI => s.laneMaskWrite i true true v
  | .BENCH_PCAP => s.pcapWrite src i v
  | .BENCH_WB_CTL => s.wbCtlWrite i v
  | .BENCH_RING_BASE_LO => if s.ringEn i = 1 then s else s.plainWrite r i v
  | .BENCH_RING_BASE_HI => if s.ringEn i = 1 then s else s.plainWrite r i v
  | .PF_RING_BASE_LO => if s.ringEn 64 = 1 then s else s.plainWrite r i v
  | .PF_RING_BASE_HI => if s.ringEn 64 = 1 then s else s.plainWrite r i v
  | .BENCH_RING_CTL => s.ringCtlWrite i v
  | .PF_RING_CTL => s.ringCtlWrite 64 v
  | .BENCH_HPORT_CFG => s.hportCfgWrite i v
  | _ => s.rangedWrite r i v

/-- Writes of routers, ports, lanes, clocks, power, limits, mailboxes, recorder and pins; the others are of the benches. -/
def State.writeReg (s : State) (src : Src) (r : Reg) (i : Nat) (v : Word) : State :=
  match r with
  | .CAL_BORE_TRIM => s.trimWrite src v
  | .HN_RT_ENT => s.rtEntWrite i v
  | .HN_RTR_CTL => s.rtrCtlWrite i v
  | .HN_EPOCH_CTL => if fldOf F.HN_EPOCH_CTL_FLIP v = 1 then s.epochFlip else s
  | .HN_TRC_CTL =>
    if fldOf F.HN_TRC_CTL_CLEAR v = 1 then (s.plainWrite r i v).traceClear i else s.plainWrite r i v
  | .PCIE_DMA_BASE_LO => if s.flag F.PCIE_DMA_CTL_EN i then s else s.plainWrite r i v
  | .PCIE_DMA_BASE_HI => if s.flag F.PCIE_DMA_CTL_EN i then s else s.plainWrite r i v
  | .PCIE_DMA_CTL => s.dmaCtlWrite i v
  | .PCIE_DMA_PROD => s.dmaProdWrite i v
  | .PCIE_VF_MAP_LO => s.vfMapWrite 0 v
  | .PCIE_VF_MAP_HI => s.vfMapWrite 1 v
  | .PCIE_DEV_CTL => s.devCtlWrite v
  | .LANE_CTL => s.laneCtlWrite i v
  | .LANE_TX => s.laneTxWrite src i v
  | .LANE_PRBS => s.lanePrbsWrite i v
  | .ETH_OCT_CFG => s.octCfgWrite i (srcCode src) v
  | .CLK_MON => s.clkMonWrite i v
  | .CLK_FAB => s.clkFabWrite i v
  | .CLK_OUT => s.clkOutWrite i (srcCode src) v
  | .PWR_DOM => s.pwrDomWrite i v
  | .PWR_RST_CTL => s.rstCtlWrite v
  | .THM_SITE_CAL => ((s.plainWrite r i v).calWritten 4 i 0).siteClamp i
  | .THM_LIMITS => s.limitsWrite (srcCode src) v
  | .THM_PRIV_CTL => s.privCtlWrite v
  | .MBX_CMD_DOOR => if fldOf F.MBX_CMD_DOOR_RING v = 1 then s.ring i [] else s
  | .MBX_RSP_DOOR => if fldOf F.MBX_RSP_DOOR_ACK v = 1 then s.ack i else s
  | .MBX_CTL => s.mbxCtlWrite i v
  | .MBX_FW_CTL => s.fwCtlWrite v
  | .HLU_BOARD => s.boardWrite src i v
  | .HLU_FW => if src = .fw ∧ s.fwBlocked = false then (s.fwLayerWrite i v.toNat).1 else s
  | .HLU_CTL => s.hluCtlWrite v
  | .WPL_CTL => s.wplCtlWrite v
  | .DDR_CH_CFG => s.ddrCfgWrite i v
  | .DBG_GPIO_OE => s.gpioOeWrite src v
  | _ => s.writeBench src r i v

/-- REGISTER_WRITE (R8). What the HLU refuses of other sources it counts (R565). -/
def execRegisterWrite (src : Src) (r : Reg) (i : Nat) (v : Word) (s : State) : Host.Outcome State Fault Refusal :=
  .next (if (s.mayWrite src r i = true ∧ s.windowInst src r i = true)
      ∨ (src = .other ∧ r = .HLU_BOARD ∧ validInst r i = true) then s.writeReg src r i v else s)

/-- WPL_CTL_FREEZE (R621): FREEZE written to WPL_CTL. -/
def execWplCtlFreeze (src : Src) (v : Word) (s : State) : Host.Outcome State Fault Refusal :=
  .next (if s.mayWrite src .WPL_CTL 0 = true ∧ bitOf v.toNat 31 = 1 then s.wplCtlWrite v else s)

/-- WPL_CTL_RESUME (R616, R621): RESUME written to WPL_CTL. -/
def execWplCtlResume (src : Src) (v : Word) (s : State) : Host.Outcome State Fault Refusal :=
  .next (if s.mayWrite src .WPL_CTL 0 = true ∧ bitOf v.toNat 30 = 1 then s.wplCtlWrite v else s)

end Sys2Proof.Machine
end

