-- ==== Sys2Proof/Machine/BarAnswer.lean ====
section
/-!
DEFINITION. Responses of BAR accesses (R424), with what a carried access does where the device's own registers and buffers
stand (R421, R423, log entry 76): a read latches (R283), a write writes.
-/

namespace Sys2Proof.Machine

/-- What a read of a register does beside answering: HI latches (R283), a timestamp entry is taken (R466). -/
def State.readSide (s : State) (r : Reg) (i : Nat) : State :=
  match r with
  | .ETH_TXTS_ID => s.txtsRead i
  | _ => s.latchHi r i

/-- A write of the bytes `be` of register r: the bytes that it does not carry keep what RW fields hold (log entry 76). -/
def State.carriedWrite (s : State) (src : Src) (r : Reg) (i be v : Nat) : State :=
  let w := BitVec.ofNat 32 (mergeBytes be ((s.reg r i) &&& rwMask r).toNat v)
  if s.mayWrite src r i = true then s.writeReg src r i w else s

/-- A write of the bytes `be` at byte `o` of a mailbox's command buffer (R550). -/
def State.bufWrite (s : State) (m o be v : Nat) : State :=
  let l := (s.box m).cmdBuf
  s.setBox m { s.box m with
    cmdBuf := (upTo (max l.length (o + 4))).map fun j =>
      if o ≤ j ∧ j < o + 4 ∧ bitOf be (j - o) = 1 then BitVec.ofNat 8 (bitsOf v (8 * (j - o)) 8) else l.getD j 0 }

/-- A write of one 32-bit word at offset `o` of the PF window: a register, or the PF mailbox's command buffer; every other
offset ignores it (R9). -/
def State.windowPut (s : State) (src : Src) (o be v : Nat) : State :=
  match s.regAt src o with
  | some (r, i) => s.carriedWrite src r i be v
  | none => if 0x400000 ≤ o ∧ o < 0x401000 then s.bufWrite 64 (o - 0x400000) be v else s

/-- A read of one 32-bit word at offset `o` of the PF window, as far as it changes anything. -/
def State.windowSide (s : State) (src : Src) (o : Nat) : State :=
  match s.regAt src o with
  | some (r, i) => if s.mayRead src r i then s.readSide r i else s
  | none => s

/-- A write of one word at offset `o` of VF n's mailbox window (R550). -/
def State.vfMailPut (s : State) (n o be v : Nat) : State :=
  if o < 0x400 then s.bufWrite n o be v
  else match o with
    | 0x800 => s.carriedWrite (.vf n) .MBX_CMD_DOOR n be v
    | 0x804 => s.carriedWrite (.vf n) .MBX_RSP_DOOR n be v
    | 0x80C => s.carriedWrite (.vf n) .MBX_CTL n be v
    | _ => s

/-- What a served BAR write does in the device's own registers and buffers (R421, R423); what lies in memory was written at its
memory port. -/
def State.barStore (s : State) (r : BarReq) : State :=
  if r.fn = 0 then
    (wordsOfWrite (r.addr - 0x03F000000000) r.data).foldl
      (fun s (e : Nat × Nat × Nat) => s.windowPut (.pf r.port) e.1 e.2.1 e.2.2) s
  else
    let n := r.fn - 1
    if benchBlockAddr n ≤ r.addr ∧ r.addr < benchBlockAddr n + 0x10000 then
      (wordsOfWrite (r.addr - benchBlockAddr n) r.data).foldl
        (fun s (e : Nat × Nat × Nat) => s.windowPut (.vf n) (0x10000 * n + e.1) e.2.1 e.2.2) s
    else if 0x010000000000 ≤ r.addr ∧ r.addr < 0x010400000000 then s
    else
      (wordsOfWrite (r.addr - Config.vfMailboxAddr n % 2 ^ 48) r.data).foldl
        (fun s (e : Nat × Nat × Nat) => s.vfMailPut n e.1 e.2.1 e.2.2) s

/-- What a served BAR read does beside answering (R283, R466). -/
def State.barSide (s : State) (r : BarReq) : State :=
  if r.fn = 0 then
    let o := r.addr - 0x03F000000000
    (upTo ((o % 4 + r.len + 3) / 4)).foldl (fun s k => s.windowSide (.pf r.port) (o / 4 * 4 + 4 * k)) s
  else
    let n := r.fn - 1
    if benchBlockAddr n ≤ r.addr ∧ r.addr < benchBlockAddr n + 0x10000 then
      let o := r.addr - benchBlockAddr n
      (upTo ((o % 4 + r.len + 3) / 4)).foldl (fun s k => s.windowSide (.vf n) (0x10000 * n + (o / 4 * 4 + 4 * k))) s
    else s

/-- The STATUS of a response as it counts: a register, a buffer and a reserved offset of the device raise no error (R9), so
that only the network's POISON and UNREACHABLE stand for them. -/
def State.barStatus (s : State) (r : BarReq) (st : Nat) : Nat :=
  if (s.barContent r).isSome ∧ st ≠ stPoison ∧ st ≠ stUnreachable then stOk else st

/-- The response of a BAR access (R424). -/
def State.barAnswer (s : State) (r : BarReq) (st : Nat) (flits : List (Nat × Bool)) : State :=
  if s.barStatus r st = stOk then
    if r.write then s.barStore r
    else
      let s1 := s.barSide r
      if r.discard then s1
      else s1.emit (.completion r.port r.fn r.tag false
        (some ((s1.barContent r).getD (rangeOfFlits r.addr r.len flits))))
  else if st = stPoison ∧ r.write = false then
    let s1 := s.inc F.PCIE_ERR_BAR_ERR r.port
    if r.discard then s1 else s1.emit (.completion r.port r.fn r.tag true (some (rangeOfFlits r.addr r.len flits)))
  else s.barFail r

/-- BAR_HAUL_RESPONSE (R424, R355): one that its requester does not take is discarded (R307, R310). -/
def execBarHaulResponse (x hdr : Nat) (flits : List (Nat × Bool)) (s : State) : Host.Outcome State Fault Refusal :=
  let i := hTag hdr % 2 ^ 9
  .next (if x < 2 ∧ s.powered (dPcie x) = true ∧ s.floorReset = 0 ∧ rspSound hdr flits = true then
    match s.pcie.bars.find? fun r => r.port == x && r.ht == i && r.inj.isSome with
    | some r =>
      if (s.ftag x i).gen = hTag hdr / 2 ^ 9 then (s.barAnswer r (rspStatus hdr flits) flits).barClose r
      else s.floorLate x
    | none => s.floorLate x
  else s)

end Sys2Proof.Machine
end

