-- ==== Sys2Proof/Machine/Dispatch.lean ====
section
/-!
DEFINITION. One arm per command: its meaning, or its rejection by name.
-/

namespace Sys2Proof.Machine

/-- The effect of a command on everything but the queue. -/
def exec (i : Instr) (s : State) : Host.Outcome State Fault Refusal :=
  match i with
  | .registerWrite src r idx v => Sys2Proof.Machine.execRegisterWrite src r idx v s
  | .powerOnReset => Sys2Proof.Machine.execPowerOnReset s
  | .railUp n => Sys2Proof.Machine.execRailUp n s
  | .pwrgoodRise sbSel sbAddr flashOct => Sys2Proof.Machine.execPwrgoodRise sbSel sbAddr flashOct s
  | .pwrgoodFall => Sys2Proof.Machine.execPwrgoodFall s
  | .bootRom => Sys2Proof.Machine.execBootRom s
  | .bootNet => Sys2Proof.Machine.execBootNet s
  | .bootPorts => Sys2Proof.Machine.execBootPorts s
  | .bootTiers => Sys2Proof.Machine.execBootTiers s
  | .bootBenches => Sys2Proof.Machine.execBootBenches s
  | .bootShell => Sys2Proof.Machine.execBootShell s
  | .bootOpen => Sys2Proof.Machine.execBootOpen s
  | .perstAssert x => Sys2Proof.Machine.execPerstAssert x s
  | .perstDeassert x => Sys2Proof.Machine.execPerstDeassert x s
  | .pcieLinkUp x speed width flit => Sys2Proof.Machine.execPcieLinkUp x speed width flit s
  | .pcieLinkDown x => Sys2Proof.Machine.execPcieLinkDown x s
  | .pcieConfigRequest x fn tag q => Sys2Proof.Machine.execPcieConfigRequest x fn tag q s
  | .pcieBarRead x fn tag o len ht => Sys2Proof.Machine.execPcieBarRead x fn tag o len ht s
  | .pcieBarWrite x fn o data ht => Sys2Proof.Machine.execPcieBarWrite x fn o data ht s
  | .barHaulResponse x hdr flits => Sys2Proof.Machine.execBarHaulResponse x hdr flits s
  | .vfFlr x n => Sys2Proof.Machine.execVfFlr x n s
  | .pfFlr x => Sys2Proof.Machine.execPfFlr x s
  | .vfMapWrite src half v => Sys2Proof.Machine.execVfMapWrite src half v s
  | .msixUnmask x fn vec => Sys2Proof.Machine.execMsixUnmask x fn vec s
  | .dmaRingEnable src x v => Sys2Proof.Machine.execDmaRingEnable src x v s
  | .dmaRingDisable src x v => Sys2Proof.Machine.execDmaRingDisable src x v s
  | .dmaProdWrite src x v => Sys2Proof.Machine.execDmaProdWrite src x v s
  | .dmaDescFetch x word => Sys2Proof.Machine.execDmaDescFetch x word s
  | .dmaPieceComplete x e => Sys2Proof.Machine.execDmaPieceComplete x e s
  | .dmaWriteback x => Sys2Proof.Machine.execDmaWriteback x s
  | .fabricClockEdge edges late => Sys2Proof.Machine.execFabricClockEdge edges late s
  | .asyncResetAssert b sx sy g => Sys2Proof.Machine.execAsyncResetAssert b sx sy g s
  | .dlymonMeasure b ps => Sys2Proof.Machine.execDlymonMeasure b ps s
  | .dlymonConverterRotate b sx => Sys2Proof.Machine.execDlymonConverterRotate b sx s
  | .idleSpareMismatch g n => Sys2Proof.Machine.execIdleSpareMismatch g n s
  | .calEvaluationEnd g bins => Sys2Proof.Machine.execCalEvaluationEnd g bins s
  | .trimChangeover g => Sys2Proof.Machine.execTrimChangeover g s
  | .trimAcqStep g bit => Sys2Proof.Machine.execTrimAcqStep g bit s
  | .evalRestartAfterPause g => Sys2Proof.Machine.execEvalRestartAfterPause g s
  | .calBoreTrimWrite src v => Sys2Proof.Machine.execCalBoreTrimWrite src v s
  | .portAccess b n inA inB ups => Sys2Proof.Machine.execPortAccess b n inA inB ups s
  | .blockRetireDone b n => Sys2Proof.Machine.execBlockRetireDone b n s
  | .correctionWriteBack b n port => Sys2Proof.Machine.execCorrectionWriteBack b n port s
  | .haulMemoryAccess b n arr q0 q1 q2 flits fabEn ups => Sys2Proof.Machine.execHaulMemoryAccess b n arr q0 q1 q2 flits fabEn ups s
  | .patrolStep b ups => Sys2Proof.Machine.execPatrolStep b ups s
  | .patrolForcedCycle b ups => Sys2Proof.Machine.execPatrolForcedCycle b ups s
  | .memtInvStart src v => Sys2Proof.Machine.execMemtInvStart src v s
  | .bulkInvalidateDone b => Sys2Proof.Machine.execBulkInvalidateDone b s
  | .memtFlipArm src v => Sys2Proof.Machine.execMemtFlipArm src v s
  | .hopperWrite b h data sop eop => Sys2Proof.Machine.execHopperWrite b h data sop eop s
  | .hopperRead b h => Sys2Proof.Machine.execHopperRead b h s
  | .hopperPointerSync b h toRead => Sys2Proof.Machine.execHopperPointerSync b h toRead s
  | .hopCfgWrite src b h v => Sys2Proof.Machine.execHopCfgWrite src b h v s
  | .hopperFlush src b h v => Sys2Proof.Machine.execHopperFlush src b h v s
  | .hopperFlushApply b h readSide => Sys2Proof.Machine.execHopperFlushApply b h readSide s
  | .hopperTailTimeout b h => Sys2Proof.Machine.execHopperTailTimeout b h s
  | .hopOwnerWrite src b h v => Sys2Proof.Machine.execHopOwnerWrite src b h v s
  | .switchCellRequest b last => Sys2Proof.Machine.execSwitchCellRequest b last s
  | .planeSelSwitch src b v => Sys2Proof.Machine.execPlaneSelSwitch src b v s
  | .planeSelOnline src b v => Sys2Proof.Machine.execPlaneSelOnline src b v s
  | .planeSelOffline src b v => Sys2Proof.Machine.execPlaneSelOffline src b v s
  | .hostRequestPresented b fab last => Sys2Proof.Machine.execHostRequestPresented b fab last s
  | .deferredCandidateRetry b last => Sys2Proof.Machine.execDeferredCandidateRetry b last s
  | .scheduleEnable src b v => Sys2Proof.Machine.execScheduleEnable src b v s
  | .schedQuantWrite src b v => Sys2Proof.Machine.execSchedQuantWrite src b v s
  | .scheduleExpiry b => Sys2Proof.Machine.execScheduleExpiry b s
  | .scheduleRequestPresented b fab host last => Sys2Proof.Machine.execScheduleRequestPresented b fab host last s
  | .benchClksrcWrite src b p v => Sys2Proof.Machine.execBenchClksrcWrite src b p v s
  | .surgeCtlWrite src c v => Sys2Proof.Machine.execSurgeCtlWrite src c v s
  | .imageEvent b => Sys2Proof.Machine.execImageEvent b s
  | .stateInitDone b => Sys2Proof.Machine.execStateInitDone b s
  | .ctxStage src b v => Sys2Proof.Machine.execCtxStage src b v s
  | .ctxPage src b v => Sys2Proof.Machine.execCtxPage src b v s
  | .ctxPageFree src b v => Sys2Proof.Machine.execCtxPageFree src b v s
  | .ctxAbort src b v => Sys2Proof.Machine.execCtxAbort src b v s
  | .ctxCopyFrame b ups => Sys2Proof.Machine.execCtxCopyFrame b ups s
  | .ctxStageCommit b => Sys2Proof.Machine.execCtxStageCommit b s
  | .ctxPageCommit b => Sys2Proof.Machine.execCtxPageCommit b s
  | .ctxSlotRelease src c v => Sys2Proof.Machine.execCtxSlotRelease src c v s
  | .ctxSlotOwnerWrite src c v => Sys2Proof.Machine.execCtxSlotOwnerWrite src c v s
  | .bulkStoreRefresh c => Sys2Proof.Machine.execBulkStoreRefresh c s
  | .slotPatrolStep c ups => Sys2Proof.Machine.execSlotPatrolStep c ups s
  | .slotCopyDone a d ups => Sys2Proof.Machine.execSlotCopyDone a d ups s
  | .loadGo src n v => Sys2Proof.Machine.execLoadGo src n v s
  | .loadAbort src n v => Sys2Proof.Machine.execLoadAbort src n v s
  | .loadDataArrival n bytes => Sys2Proof.Machine.execLoadDataArrival n bytes s
  | .loadHoldDone n => Sys2Proof.Machine.execLoadHoldDone n s
  | .loadCommit n => Sys2Proof.Machine.execLoadCommit n s
  | .loadSourceTimeout n => Sys2Proof.Machine.execLoadSourceTimeout n s
  | .loadSourceError n => Sys2Proof.Machine.execLoadSourceError n s
  | .benchAssignWrite src b v => Sys2Proof.Machine.execBenchAssignWrite src b v s
  | .fnChangeEffect b => Sys2Proof.Machine.execFnChangeEffect b s
  | .gangForm src c v => Sys2Proof.Machine.execGangForm src c v s
  | .gangFormDone l => Sys2Proof.Machine.execGangFormDone l s
  | .gangDissolve src c v => Sys2Proof.Machine.execGangDissolve src c v s
  | .mfenceWrite src b p k v => Sys2Proof.Machine.execMfenceWrite src b p k v s
  | .hwinWrite src b idx v => Sys2Proof.Machine.execHwinWrite src b idx v s
  | .laneFenceWrite src b rx hi v => Sys2Proof.Machine.execLaneFenceWrite src b rx hi v s
  | .wbCtlWrite src b p k v => Sys2Proof.Machine.execWbCtlWrite src b p k v s
  | .weighbridgeRefill b p => Sys2Proof.Machine.execWeighbridgeRefill b p s
  | .weighbridgeAdmit b p k => Sys2Proof.Machine.execWeighbridgeAdmit b p k s
  | .tallySample b nj => Sys2Proof.Machine.execTallySample b nj s
  | .pcapUpdate b => Sys2Proof.Machine.execPcapUpdate b s
  | .collectorEvent source => Sys2Proof.Machine.execCollectorEvent source s
  | .collectorRecordWrite ok => Sys2Proof.Machine.execCollectorRecordWrite ok s
  | .msixModerationExpiry r vec => Sys2Proof.Machine.execMsixModerationExpiry r vec s
  | .ringEnable src r v => Sys2Proof.Machine.execRingEnable src r v s
  | .benchPortRequest b p h tag => Sys2Proof.Machine.execBenchPortRequest b p h tag s
  | .flitArrival k port w => Sys2Proof.Machine.execFlitArrival k port w s
  | .flitFallbackDepart k out => Sys2Proof.Machine.execFlitFallbackDepart k out s
  | .haulCalibratorTest k mainSound fallbackSound => Sys2Proof.Machine.execHaulCalibratorTest k mainSound fallbackSound s
  | .benchPortResponse b p hdr flits => Sys2Proof.Machine.execBenchPortResponse b p hdr flits s
  | .benchPortIncomingRequest b p hdr flits => Sys2Proof.Machine.execBenchPortIncomingRequest b p hdr flits s
  | .benchPortImageResponse b p h => Sys2Proof.Machine.execBenchPortImageResponse b p h s
  | .pendingEntryExpiry b p => Sys2Proof.Machine.execPendingEntryExpiry b p s
  | .hportCfgWrite src b p v => Sys2Proof.Machine.execHportCfgWrite src b p v s
  | .hportCfgApply b p => Sys2Proof.Machine.execHportCfgApply b p s
  | .ddrRequest ch hdr flits ups => Sys2Proof.Machine.execDdrRequest ch hdr flits ups s
  | .ddrRefresh ch => Sys2Proof.Machine.execDdrRefresh ch s
  | .rtEntWrite src k v => Sys2Proof.Machine.execRtEntWrite src k v s
  | .epochFlip src v => Sys2Proof.Machine.execEpochFlip src v s
  | .drainComplete => Sys2Proof.Machine.execDrainComplete s
  | .drainTimeout => Sys2Proof.Machine.execDrainTimeout s
  | .fenceClosingDone k l => Sys2Proof.Machine.execFenceClosingDone k l s
  | .fenceClosingTimeout k l => Sys2Proof.Machine.execFenceClosingTimeout k l s
  | .requestTimeout q => Sys2Proof.Machine.execRequestTimeout q s
  | .tagReturn q => Sys2Proof.Machine.execTagReturn q s
  | .traceClear src c v => Sys2Proof.Machine.execTraceClear src c v s
  | .boreTestRound g => Sys2Proof.Machine.execBoreTestRound g s
  | .boreTestEnd g mismatch => Sys2Proof.Machine.execBoreTestEnd g mismatch s
  | .groupResume g => Sys2Proof.Machine.execGroupResume g s
  | .shiftStop b fab host sched last => Sys2Proof.Machine.execShiftStop b fab host sched last s
  | .shiftMovePlane b flips => Sys2Proof.Machine.execShiftMovePlane b flips s
  | .shiftResume b fab host sched last => Sys2Proof.Machine.execShiftResume b fab host sched last s
  | .linkRetrainDone k port => Sys2Proof.Machine.execLinkRetrainDone k port s
  | .detourTablesWritten => Sys2Proof.Machine.execDetourTablesWritten s
  | .scrubPassStart c idx nvsOk ups => Sys2Proof.Machine.execScrubPassStart c idx nvsOk ups s
  | .scrubFrameCompare c idx slotUps latchUps delivery => Sys2Proof.Machine.execScrubFrameCompare c idx slotUps latchUps delivery s
  | .scrubRestore c idx => Sys2Proof.Machine.execScrubRestore c idx s
  | .scrubStateParityCheck b p flips => Sys2Proof.Machine.execScrubStateParityCheck b p flips s
  | .octCfgWrite src o v => Sys2Proof.Machine.execOctCfgWrite src o v s
  | .ethRxFrame n bs fcsOk ns frac carried corr uncorr => Sys2Proof.Machine.execEthRxFrame n bs fcsOk ns frac carried corr uncorr s
  | .ethTxFrame n ns frac => Sys2Proof.Machine.execEthTxFrame n ns frac s
  | .txtsRead n => Sys2Proof.Machine.execTxtsRead n s
  | .rawRxItem n item carried => Sys2Proof.Machine.execRawRxItem n item carried s
  | .rawTxItem n => Sys2Proof.Machine.execRawTxItem n s
  | .laneRestart src n v => Sys2Proof.Machine.execLaneRestart src n v s
  | .detectStep n present => Sys2Proof.Machine.execDetectStep n present s
  | .trainingFrame n ctl crc tap ready => Sys2Proof.Machine.execTrainingFrame n ctl crc tap ready s
  | .lockFrame n marker chip => Sys2Proof.Machine.execLockFrame n marker chip s
  | .capabilityFrame n f => Sys2Proof.Machine.execCapabilityFrame n f s
  | .laneTimerExpiry n => Sys2Proof.Machine.execLaneTimerExpiry n s
  | .losAssert n => Sys2Proof.Machine.execLosAssert n s
  | .lolAssert n => Sys2Proof.Machine.execLolAssert n s
  | .faultRestartTimer n => Sys2Proof.Machine.execFaultRestartTimer n s
  | .prbsInject src n v => Sys2Proof.Machine.execPrbsInject src n v s
  | .lanePrbsWrite src n v => Sys2Proof.Machine.execLanePrbsWrite src n v s
  | .elementRecalStart n e => Sys2Proof.Machine.execElementRecalStart n e s
  | .elementRecalDone n ok bg eye snr => Sys2Proof.Machine.execElementRecalDone n ok bg eye snr s
  | .oscStable o => Sys2Proof.Machine.execOscStable o s
  | .pllLock m t => Sys2Proof.Machine.execPllLock m t s
  | .pllLockDrop m t => Sys2Proof.Machine.execPllLockDrop m t s
  | .clkFabWrite src n v => Sys2Proof.Machine.execClkFabWrite src n v s
  | .monitorWindowEnd m cnt => Sys2Proof.Machine.execMonitorWindowEnd m cnt s
  | .twinBlankEnd o lost => Sys2Proof.Machine.execTwinBlankEnd o lost s
  | .rampDwellEnd m => Sys2Proof.Machine.execRampDwellEnd m s
  | .dividerStep b j => Sys2Proof.Machine.execDividerStep b j s
  | .clkReturn m w => Sys2Proof.Machine.execClkReturn m w s
  | .deviceTimeTick => Sys2Proof.Machine.execDeviceTimeTick s
  | .clkoutWrite src idx v => Sys2Proof.Machine.execClkoutWrite src idx v s
  | .domainPowerDown src d v => Sys2Proof.Machine.execDomainPowerDown src d v s
  | .domainPowerUp src d v => Sys2Proof.Machine.execDomainPowerUp src d v s
  | .quiesceDone d fab host sched last => Sys2Proof.Machine.execQuiesceDone d fab host sched last s
  | .isolateDone d => Sys2Proof.Machine.execIsolateDone d s
  | .gateDone d => Sys2Proof.Machine.execGateDone d s
  | .rampSlotFree => Sys2Proof.Machine.execRampSlotFree s
  | .rampDone d => Sys2Proof.Machine.execRampDone d s
  | .initDone d => Sys2Proof.Machine.execInitDone d s
  | .measurementInterval c rd => Sys2Proof.Machine.execMeasurementInterval c rd s
  | .throttleRiseTimer c => Sys2Proof.Machine.execThrottleRiseTimer c s
  | .throttleRecoveryTimer c => Sys2Proof.Machine.execThrottleRecoveryTimer c s
  | .thermalLevelUpdate b => Sys2Proof.Machine.execThermalLevelUpdate b s
  | .graceEnd b => Sys2Proof.Machine.execGraceEnd b s
  | .exemptCheck b => Sys2Proof.Machine.execExemptCheck b s
  | .hardwareTrip n => Sys2Proof.Machine.execHardwareTrip n s
  | .converterRotate bank ch bgs => Sys2Proof.Machine.execConverterRotate bank ch bgs s
  | .railMeasure rails tiers => Sys2Proof.Machine.execRailMeasure rails tiers s
  | .hluLevelTimer => Sys2Proof.Machine.execHluLevelTimer s
  | .thmLimitsWrite src v => Sys2Proof.Machine.execThmLimitsWrite src v s
  | .hluBoardWrite src q v => Sys2Proof.Machine.execHluBoardWrite src q v s
  | .hluLock src v => Sys2Proof.Machine.execHluLock src v s
  | .lockstepMismatch => Sys2Proof.Machine.execLockstepMismatch s
  | .watchdogExpiry => Sys2Proof.Machine.execWatchdogExpiry s
  | .fwRestart src v => Sys2Proof.Machine.execFwRestart src v s
  | .controllerOpen => Sys2Proof.Machine.execControllerOpen s
  | .mbxRing src m v page => Sys2Proof.Machine.execMbxRing src m v page s
  | .mbxAck src m v => Sys2Proof.Machine.execMbxAck src m v s
  | .mbxAbort src m v => Sys2Proof.Machine.execMbxAbort src m v s
  | .pageTimerExpiry m => Sys2Proof.Machine.execPageTimerExpiry m s
  | .mctpMessage tag msg => Sys2Proof.Machine.execMctpMessage tag msg s
  | .setEndpointId eid => Sys2Proof.Machine.execSetEndpointId eid s
  | .getEndpointId => Sys2Proof.Machine.execGetEndpointId s
  | .getMctpVersionSupport msgType => Sys2Proof.Machine.execGetMctpVersionSupport msgType s
  | .getMessageTypeSupport => Sys2Proof.Machine.execGetMessageTypeSupport s
  | .getVendorDefinedMsgSupport selector => Sys2Proof.Machine.execGetVendorDefinedMsgSupport selector s
  | .devInfo mb => Sys2Proof.Machine.execDevInfo mb s
  | .devTime mb => Sys2Proof.Machine.execDevTime mb s
  | .otpStep mb vpp => Sys2Proof.Machine.execOtpStep mb vpp s
  | .otpStepTimeout => Sys2Proof.Machine.execOtpStepTimeout s
  | .otpBoard mb vpp => Sys2Proof.Machine.execOtpBoard mb vpp s
  | .benchAssign mb => Sys2Proof.Machine.execBenchAssign mb s
  | .gangFormCmd mb => Sys2Proof.Machine.execGangFormCmd mb s
  | .gangDissolveCmd mb => Sys2Proof.Machine.execGangDissolveCmd mb s
  | .mfenceSet mb => Sys2Proof.Machine.execMfenceSet mb s
  | .hwinSet mb => Sys2Proof.Machine.execHwinSet mb s
  | .laneFence mb => Sys2Proof.Machine.execLaneFence mb s
  | .wbSet mb => Sys2Proof.Machine.execWbSet mb s
  | .pcapSet mb => Sys2Proof.Machine.execPcapSet mb s
  | .hopperSet mb => Sys2Proof.Machine.execHopperSet mb s
  | .declApply mb => Sys2Proof.Machine.execDeclApply mb s
  | .benchStatus mb => Sys2Proof.Machine.execBenchStatus mb s
  | .slotCopy mb => Sys2Proof.Machine.execSlotCopy mb s
  | .slotOwner mb => Sys2Proof.Machine.execSlotOwner mb s
  | .slotRelease mb => Sys2Proof.Machine.execSlotRelease mb s
  | .slotList mb => Sys2Proof.Machine.execSlotList mb s
  | .scrubSet mb ok => Sys2Proof.Machine.execScrubSet mb ok s
  | .octetCfg mb => Sys2Proof.Machine.execOctetCfg mb s
  | .laneStatus mb => Sys2Proof.Machine.execLaneStatus mb s
  | .laneRestartCmd mb => Sys2Proof.Machine.execLaneRestartCmd mb s
  | .domainSet mb => Sys2Proof.Machine.execDomainSet mb s
  | .domainList mb => Sys2Proof.Machine.execDomainList mb s
  | .thmSet mb => Sys2Proof.Machine.execThmSet mb s
  | .telemetry mb => Sys2Proof.Machine.execTelemetry mb s
  | .hluFwSet mb => Sys2Proof.Machine.execHluFwSet mb s
  | .calRead mb => Sys2Proof.Machine.execCalRead mb s
  | .calWrite mb => Sys2Proof.Machine.execCalWrite mb s
  | .spoilRead mb => Sys2Proof.Machine.execSpoilRead mb s
  | .spoilClear mb ok => Sys2Proof.Machine.execSpoilClear mb ok s
  | .routerRetire mb => Sys2Proof.Machine.execRouterRetire mb s
  | .columnShift mb => Sys2Proof.Machine.execColumnShift mb s
  | .wplRingRead mb => Sys2Proof.Machine.execWplRingRead mb s
  | .wplFreeze mb => Sys2Proof.Machine.execWplFreeze mb s
  | .wplResume mb => Sys2Proof.Machine.execWplResume mb s
  | .wplRecordList mb => Sys2Proof.Machine.execWplRecordList mb s
  | .wplRecordRead mb => Sys2Proof.Machine.execWplRecordRead mb s
  | .fwWrite mb back => Sys2Proof.Machine.execFwWrite mb back s
  | .fwVerify mb => Sys2Proof.Machine.execFwVerify mb s
  | .fwActivate mb => Sys2Proof.Machine.execFwActivate mb s
  | .fwMinSvn mb vpp => Sys2Proof.Machine.execFwMinSvn mb vpp s
  | .tmuxUnlock mb => Sys2Proof.Machine.execTmuxUnlock mb s
  | .tmuxSelect mb => Sys2Proof.Machine.execTmuxSelect mb s
  | .dbgEnChange on => Sys2Proof.Machine.execDbgEnChange on s
  | .weapelEntry => Sys2Proof.Machine.execWeapelEntry s
  | .recordCopyDone ok => Sys2Proof.Machine.execRecordCopyDone ok s
  | .wplCtlFreeze src v => Sys2Proof.Machine.execWplCtlFreeze src v s
  | .wplCtlResume src v => Sys2Proof.Machine.execWplCtlResume src v s
  | .floorReset src v => Sys2Proof.Machine.execFloorReset src v s
  | .floorResetEnterDone => Sys2Proof.Machine.execFloorResetEnterDone s
  | .floorResetHoldEnd => Sys2Proof.Machine.execFloorResetHoldEnd s
  | .floorResetReleaseDone evals => Sys2Proof.Machine.execFloorResetReleaseDone evals s
  | .ddrTrain src ch v => Sys2Proof.Machine.execDdrTrain src ch v s
  | .ddrTrainingDone ch spd ok ms => Sys2Proof.Machine.execDdrTrainingDone ch spd ok ms s
  | .ddrSelfrefEntryDone ch => Sys2Proof.Machine.execDdrSelfrefEntryDone ch s
  | .tapReset => Sys2Proof.Machine.execTapReset s
  | .tapBypass => Sys2Proof.Machine.execTapBypass s
  | .tapIdcode => Sys2Proof.Machine.execTapIdcode s
  | .tapSamplePreload => Sys2Proof.Machine.execTapSamplePreload s
  | .tapExtest => Sys2Proof.Machine.execTapExtest s
  | .tapClamp => Sys2Proof.Machine.execTapClamp s
  | .tapHighz => Sys2Proof.Machine.execTapHighz s
  | .tapExtestPulse => Sys2Proof.Machine.execTapExtestPulse s
  | .tapExtestTrain => Sys2Proof.Machine.execTapExtestTrain s
  | .railDown n => Sys2Proof.Machine.execRailDown n s
  | .losClear n => Sys2Proof.Machine.execLosClear n s
  | .readingLoLatchesHi src r idx => Sys2Proof.Machine.execReadingLoLatchesHi src r idx s
  | .cataloguedTimeExceeded mb => Sys2Proof.Machine.execCataloguedTimeExceeded mb s
  | .autoNegotiationPage n rf done => Sys2Proof.Machine.execAutoNegotiationPage n rf done s
  | .linkTrainingFrame n done => Sys2Proof.Machine.execLinkTrainingFrame n done s
  | .dynamicAddressAssignment addr => Sys2Proof.Machine.execDynamicAddressAssignment addr s

end Sys2Proof.Machine
end

