-- ==== Sys2Proof/Safety.lean ====
section
/-!
DEFINITION. What a safe run is: every step answers a next state, the waiting commands stay as they were sent, and the
register file stays in its canonical form with every reserved bit 0 (R9).
-/

namespace Sys2Proof.Machine

/-- The bits of a register that some field of its table takes; the others are reserved (R9). -/
def fieldMask : Reg → Word
  | .CAL_BORE_STAT => 0xfe00ffff
  | .CAL_BORE_CTL => 0x0000fff1
  | .CAL_BORE_LIMIT => 0xffff0ff0
  | .BENCH_DLYMON_SEL => 0x0000003f
  | .BENCH_DLYMON_VAL => 0xcfff0fff
  | .BENCH_DLYMON_WORST => 0xbfffffff
  | .BENCH_DLYMON_CTL => 0x0fff0101
  | .MEMT_SEL => 0x003f07ff
  | .MEMT_FLIP_2 => 0x800001ff
  | .MEMT_REMAP_IDX => 0x00000007
  | .MEMT_PATROL_CTL => 0xfffff001
  | .MEMT_BLK_STAT => 0xf8f007ff
  | .MEMT_REMAP_VAL => 0xc0001fff
  | .MEMT_INV => 0xf0ffc3ff
  | .MEMT_ARB => 0x00000003
  | .MEMT_PATROL_STAT => 0xffff03ff
  | .MEMT_EVT => 0x0000007f
  | .MEMT_EVT_EN => 0x0000007f
  | .MEMT_ERR_LOG_0 => 0xfffc1fff
  | .MEMT_ERR_LOG_1 => 0x000000ff
  | .HOP_CFG => 0xf077fc0f
  | .HOP_CTL => 0x00000001
  | .HOP_STAT => 0xff000000
  | .HOP_COUNT => 0x1fff1fff
  | .HOP_LEVEL => 0x1fff1fff
  | .HOP_TAIL => 0x0000001f
  | .HOP_IDLE_2 => 0x000000ff
  | .HOP_OWNER => 0x80000007
  | .HOP_EVT => 0x0000000f
  | .HOP_EVT_EN => 0x0000000f
  | .BENCH_PLANE_SEL => 0x80000307
  | .BENCH_PLANE_STAT => 0xffffff00
  | .BENCH_PLANE_EVT => 0x0000000f
  | .BENCH_PLANE_EVT_EN => 0x0000000f
  | .BENCH_SCHED_CTL => 0x87070000
  | .BENCH_SCHED_LIST => 0x00ffffff
  | .BENCH_SCHED_QUANT => 0x000fffff
  | .BENCH_BND_CTL => 0x00000001
  | .BENCH_SURGE_CTL => 0x0000011f
  | .CTX_CMD => 0xf70003ff
  | .CTX_STAT => 0xff00ffff
  | .CTX_EVT => 0x00000003
  | .CTX_EVT_EN => 0x00000003
  | .CTX_HOME => 0x800003ff
  | .CTX_SLOT_SEL => 0x000003ff
  | .CTX_REFRESH => 0x00ffff07
  | .CTX_PATROL => 0xfffff001
  | .CTX_SCRUB_STAT => 0xf000ffff
  | .CTX_SCRUB_MASK => 0x0000ffff
  | .CTX_SCRUB_LOG_0 => 0xffffe000
  | .CTX_SCRUB_LOG_1 => 0x0001ffff
  | .CTX_SLOT_OWNER => 0x8000003f
  | .CTX_SLOT_CTL => 0x00000001
  | .MEY_LOAD_CTL => 0xfff00000
  | .MEY_LOAD_TMO => 0x000fffff
  | .MEY_LOAD_STAT => 0xfffc0000
  | .MEY_LOAD_FAULT => 0x800fffff
  | .MEY_LOAD_EVT => 0x00000003
  | .MEY_LOAD_EVT_EN => 0x00000003
  | .MEY_LOAD_TGT => 0x80000fff
  | .BENCH_ASSIGN => 0xc0000003
  | .BENCH_GANG_STAT => 0xc00f0fff
  | .BENCH_GANG_CMD => 0xfc0f0f00
  | .BENCH_MFENCE => 0x800fffff
  | .BENCH_HWIN_LO => 0xfffff000
  | .BENCH_HWIN_HI => 0xe03fffff
  | .BENCH_FENCE_STAT => 0x8000ffff
  | .BENCH_PCAP => 0x800fffff
  | .BENCH_PCAP_STAT => 0x8000000f
  | .BENCH_WB_CTL => 0x001f07ff
  | .BENCH_RING_BASE_LO => 0xfffff000
  | .PF_RING_BASE_LO => 0xfffff000
  | .BENCH_RING_CTL => 0xe01f03ff
  | .PF_RING_CTL => 0xe01f03ff
  | .BENCH_RING_HEAD => 0x0000ffff
  | .PF_RING_HEAD => 0x0000ffff
  | .BENCH_RING_TAIL => 0x0000ffff
  | .PF_RING_TAIL => 0x0000ffff
  | .HN_RT_SEL => 0x0001001f
  | .HN_RT_ENT => 0x00000007
  | .HN_RTR_CTL => 0x00000001
  | .HN_RTR_STAT => 0xe0000000
  | .HN_RTR_EPOCH => 0x0000ffff
  | .HN_FENCE => 0x0000003f
  | .HN_LINK_SPARE => 0x0fffffff
  | .HN_PRB_SEL => 0xc000000f
  | .HN_PRB_AVAL_HI => 0x0000ffff
  | .HN_PRB_AMSK_HI => 0x0000ffff
  | .HN_PRB_SRC => 0x03ff03ff
  | .HN_PRB_TAG => 0xffff0fff
  | .HN_PRB_EVT => 0x0000ffff
  | .HN_DDR_ILV => 0x00001f03
  | .HN_EPOCH_CTL => 0x80000000
  | .HN_EPOCH_STAT => 0xf0ffff01
  | .HN_TMO => 0x000fffff
  | .HN_TRC_CTL => 0xc0000001
  | .HN_TRC_STAT => 0xc7ffffff
  | .BENCH_HPORT_CFG => 0x8000010f
  | .BENCH_HPORT_STAT => 0xc3ff07ff
  | .BENCH_HPORT_TMO => 0x000fffff
  | .BENCH_SHIFT => 0xff00003f
  | .PCIE_LINK_STAT => 0xe71f00ff
  | .PCIE_DMA_BASE_LO => 0xfffff000
  | .PCIE_DMA_CTL => 0xf01f0000
  | .PCIE_DMA_PROD => 0x0000ffff
  | .PCIE_DMA_CONS => 0x0000ffff
  | .PCIE_DEV_CTL => 0x80000001
  | .PCIE_VF_APER => 0x00000001
  | .LANE_CTL => 0xf3ff0000
  | .LANE_STAT => 0xff8000ff
  | .LANE_TX => 0x800007ff
  | .LANE_PRBS => 0xffff0000
  | .LANE_SQ => 0xc3ff03ff
  | .ETH_OCT_STAT => 0x00000001
  | .ETH_PORT_CFG => 0x80003fff
  | .ETH_PORT_STAT => 0xf8000000
  | .ETH_TX_ERR => 0x0000ffff
  | .ETH_TXTS_ID => 0x80ffffff
  | .CLK_OSC_STAT => 0xc00001f7
  | .CLK_RAMP_CTL => 0x00000007
  | .CLK_MON => 0xffefffff
  | .CLK_FAB => 0xc00001ff
  | .CLK_OUT => 0xc00f01ff
  | .PWR_RAIL_STAT => 0x01ff01ff
  | .PWR_DOM => 0xff80ffff
  | .PWR_RST_CTL => 0x800003ff
  | .PWR_RST_STAT => 0xc300ffff
  | .THM_SITE => 0xfe00ffff
  | .THM_SHDN_MODE => 0x00000001
  | .THM_PRIV_CTL => 0x007f0007
  | .THM_STAT => 0xf07fffff
  | .THM_COL => 0xf8f0ffff
  | .THM_BENCH => 0xe000000f
  | .TEL_RAIL => 0x8fff0fff
  | .TEL_PWR => 0x000fffff
  | .MBX_CMD_DOOR => 0x00000001
  | .MBX_RSP_DOOR => 0x00000001
  | .MBX_STATUS => 0xf800ffff
  | .MBX_CTL => 0x00000003
  | .MBX_FW_CTL => 0x80000000
  | .HLU_CTL => 0xc0000000
  | .HLU_REFUSE => 0xffffe01f
  | .WPL_STAT => 0xdfffffff
  | .WPL_CTL => 0xc0000000
  | .WPL_REC_INFO => 0xff03ffff
  | .WPL_REC_ENTRIES => 0x00001fff
  | .DDR_CH_CFG => 0x80000303
  | .DDR_CH_STAT => 0xf8ffffff
  | .DBG_STRAP => 0x0000001f
  | .DBG_TMUX_STAT => 0x0000000f
  | _ => 0xffffffff

/-- The register that a key of the register file belongs to. -/
def keyReg (k : Nat) : Reg := allRegs.getD (k % 512) .CAL_BORE_SEL

/-- A field that lies within the bits its register's table gives to fields. -/
def Fld.ok (f : Fld) : Bool :=
  decide (BitVec.ofNat 32 (2 ^ (f.lo + f.w) - 2 ^ f.lo) &&& ~~~(fieldMask f.reg) = 0)

/-- The register file is in its canonical form, and no reserved bit of a register is 1. -/
def RegsOk (m : SMap Word) : Prop :=
  mapWf regDefault m ∧ ∀ e ∈ m, e.2 &&& ~~~(fieldMask (keyReg e.1)) = 0

/-- Every command that waits is well formed. -/
def QueueOk (q : List Instr) : Prop := ∀ c ∈ q, c.wf = true

/-- The addressed memories are in their canonical form: the words of the memory tiers, the words of the context slots, the
frames of the planes, the words of every DDR channel and the bytes of the boot flash. -/
def State.MemOk (s : State) : Prop :=
  mapWf (fun _ => none) s.memt.words ∧ mapWf (fun _ => 0) s.slots.words ∧ mapWf (fun _ => 0) s.planes.frames
    ∧ (∀ ch, mapWf (fun _ => none) (s.chan ch).words) ∧ mapWf s.flashDef s.nvs.flash

/-- What every step keeps. -/
def State.Inv (s : State) : Prop := QueueOk s.pending ∧ RegsOk s.regs ∧ s.MemOk

/-- A state from which the next step goes on. -/
def State.goesOn (s : State) : Prop := ∃ t, step s = .next t

/-- From s to t command c of a mailbox has left the queue and, unless its response is discarded (R555), its mailbox holds
the first response page, with status st and payload p (R551, R552). -/
def State.answered (s t : State) (c : MbCmd) (st : Nat) (p : List Byte) : Bool :=
  decide (t.mbx.cmds = dropFirst c.mb s.mbx.cmds)
    && (c.drop || (t.mbSt c.mb == mbRsp && leAt (t.box c.mb).rspBuf 0 2 == st
      && (t.box c.mb).rspBuf.drop 16 == p.take (pageCap c.mb)))

/-- The commands at which PD_AON loses or regains power: VDD_AON's rise and fall. GATE_DONE names a domain as an operand;
PD_AON itself reaches GATE in no run, since it is always on (R494). -/
def losesAon : Instr → Bool
  | .powerOnReset => true
  | .railUp n => n == 0
  | .railDown n => n == 0
  | .gateDone d => d == 0
  | _ => false

/-- The parts of State beside the queue and the register file. -/
inductive Part where
  | time | freeCtr | out | collector | wpl | hluLogged | bores | pcie | tenancy | nvs
  | haul | planes | slots | loads | memt | floorReset | repair | power | thermal | mbx
  | fw | side | scrub | hports | ddr | lanes | clocks | cal | hoppers | timers
  deriving DecidableEq, Repr

/-- A part is the same in two states. -/
def Part.same (p : Part) (a b : State) : Prop :=
  match p with
  | .time => b.time = a.time
  | .freeCtr => b.freeCtr = a.freeCtr
  | .out => b.out = a.out
  | .collector => b.collector = a.collector
  | .wpl => b.wpl = a.wpl
  | .hluLogged => b.hluLogged = a.hluLogged
  | .bores => b.bores = a.bores
  | .pcie => b.pcie = a.pcie
  | .tenancy => b.tenancy = a.tenancy
  | .nvs => b.nvs = a.nvs
  | .haul => b.haul = a.haul
  | .planes => b.planes = a.planes
  | .slots => b.slots = a.slots
  | .loads => b.loads = a.loads
  | .memt => b.memt = a.memt
  | .floorReset => b.floorReset = a.floorReset
  | .repair => b.repair = a.repair
  | .power => b.power = a.power
  | .thermal => b.thermal = a.thermal
  | .mbx => b.mbx = a.mbx
  | .fw => b.fw = a.fw
  | .side => b.side = a.side
  | .scrub => b.scrub = a.scrub
  | .hports => b.hports = a.hports
  | .ddr => b.ddr = a.ddr
  | .lanes => b.lanes = a.lanes
  | .clocks => b.clocks = a.clocks
  | .cal => b.cal = a.cal
  | .hoppers => b.hoppers = a.hoppers
  | .timers => b.timers = a.timers

end Sys2Proof.Machine
end

