-- ==== Sys2Proof/Footprint.lean ====
section
/-!
DEFINITION. The footprint of every command: the parts of the state and the registers that it may change. What a command
leaves alone is the rest. A footprint names a register with all its instances, and counts what follows at once from a
command: the entries it logs, the events it raises, the messages it sends.
-/

namespace Sys2Proof.Machine

/-- The parts and the registers that a command may change. -/
def touches : Instr → List Part × List Reg
  | .registerWrite _ r _ _ =>
    ([.freeCtr, .out, .collector, .wpl, .hluLogged, .bores, .pcie, .tenancy, .haul, .planes, .slots, .loads, .memt,
      .floorReset, .power, .thermal, .mbx, .fw, .scrub, .ddr, .lanes, .clocks, .cal, .hoppers, .timers],
     r :: [.CAL_BORE_CTL, .BENCH_DLYMON_CTL, .MEMT_FLIP_2, .MEMT_INV, .HOP_CFG, .HOP_STAT, .HOP_TAIL, .HOP_OWNER,
      .BENCH_PLANE_SEL, .BENCH_PLANE_STAT, .BENCH_PLANE_ERRCNT, .BENCH_PLANE_EVT, .BENCH_SCHED_CTL,
      .BENCH_SCHED_QUANT, .BENCH_CLKSRC, .BENCH_SURGE_CTL, .CTX_CMD, .CTX_STAT, .CTX_SLOT_STAT, .CTX_SLOT_OWNER,
      .MEY_LOAD_CTL, .MEY_LOAD_TMO, .MEY_LOAD_STAT, .MEY_LOAD_PROG, .MEY_LOAD_FAULT, .MEY_LOAD_EVT, .BENCH_ASSIGN,
      .BENCH_GANG_STAT, .BENCH_GANG_CMD, .BENCH_MFENCE, .BENCH_HWIN_HI, .BENCH_LANE_TX_LO, .BENCH_LANE_TX_HI,
      .BENCH_LANE_RX_LO, .BENCH_LANE_RX_HI, .BENCH_FENCE_STAT, .BENCH_PCAP, .BENCH_WB_CTL, .BENCH_RING_CTL,
      .PF_RING_CTL, .BENCH_RING_HEAD, .PF_RING_HEAD, .BENCH_RING_TAIL, .PF_RING_TAIL, .HN_RTR_CTL, .HN_RTR_STAT,
      .HN_DDR_ILV, .HN_EPOCH_STAT, .HN_TMO, .HN_TRC_STAT, .BENCH_HPORT_CFG, .BENCH_HPORT_TMO, .PCIE_DMA_CTL,
      .PCIE_DMA_PROD, .PCIE_DMA_CONS, .PCIE_VF_MAP_LO, .PCIE_VF_MAP_HI, .PCIE_DEV_CTL, .LANE_CTL, .LANE_STAT,
      .LANE_TX, .LANE_PRBS, .LANE_PRBS_ERR, .LANE_PRBS_BITS, .LANE_SQ, .ETH_OCT_CFG, .ETH_OCT_STAT, .ETH_PORT_CFG,
      .ETH_PORT_STAT, .CLK_RAMP_CTL, .CLK_MON, .CLK_FAB, .CLK_OUT, .PWR_DOM, .PWR_RST_CTL, .PWR_RST_STAT,
      .THM_SITE, .THM_LIMITS, .THM_PRIV_CTL, .THM_STAT, .MBX_STATUS, .MBX_CTL, .MBX_FW_STAT, .HLU_BOARD, .HLU_FW,
      .HLU_CTL, .HLU_REFUSE, .WPL_STAT, .DDR_CH_CFG, .DDR_CH_STAT, .DBG_GPIO_OE, .DBG_TMUX_STAT])
  | .powerOnReset | .railUp _ | .railDown _ =>
    ([.time, .collector, .wpl, .hluLogged, .bores, .pcie, .tenancy, .haul, .planes, .slots, .loads, .memt,
      .floorReset, .repair, .power, .thermal, .mbx, .fw, .side, .scrub, .hports, .ddr, .lanes, .clocks, .cal,
      .hoppers, .timers],
     allRegs)
  | .pwrgoodRise _ _ _ =>
    ([.wpl, .power],
     [.BENCH_SURGE_CTL, .BENCH_PCAP, .LANE_TX, .PWR_DOM, .PWR_BOOT_STAT, .THM_LIMITS, .MBX_FW_STAT, .DBG_STRAP])
  | .pwrgoodFall =>
    ([.collector, .wpl, .bores, .pcie, .tenancy, .haul, .planes, .slots, .loads, .memt, .floorReset, .repair,
      .power, .thermal, .mbx, .fw, .scrub, .hports, .ddr, .lanes, .clocks, .cal, .hoppers],
     allRegs)
  | .bootRom =>
    ([.wpl, .nvs, .power, .fw],
     [.MBX_FW_STAT, .DBG_STRAP])
  | .bootNet | .bootPorts | .bootTiers | .bootBenches =>
    ([.freeCtr, .collector, .bores, .tenancy, .haul, .planes, .slots, .memt, .power, .thermal, .scrub, .ddr, .timers],
     [.BENCH_PLANE_STATE, .BENCH_SURGE_CTL, .BENCH_PCAP, .HN_RTR_STAT, .HN_FENCE, .HN_LINK_SPARE,
      .BENCH_HPORT_STAT, .BENCH_SHIFT, .PCIE_LINK_STAT, .LANE_TX, .PWR_DOM, .THM_LIMITS, .DDR_CH_STAT])
  | .bootShell =>
    ([.out, .collector, .wpl, .bores, .pcie, .tenancy, .nvs, .planes, .slots, .loads, .memt, .repair, .power,
      .clocks, .hoppers],
     [.HOP_CFG, .HOP_STAT, .HOP_OWNER, .BENCH_PLANE_SEL, .BENCH_PLANE_STAT, .BENCH_PLANE_STATE, .BENCH_PLANE_CNT,
      .BENCH_PLANE_ERRCNT, .BENCH_PLANE_EVT, .BENCH_SCHED_CTL, .BENCH_CLKSRC, .CTX_CMD, .CTX_STAT, .CTX_CE_CNT,
      .CTX_EVT, .CTX_HOME, .CTX_SLOT_STAT, .MEY_LOAD_CTL, .MEY_LOAD_SRC_LO, .MEY_LOAD_SRC_HI, .MEY_LOAD_LEN,
      .MEY_LOAD_STAT, .MEY_LOAD_PROG, .MEY_LOAD_FAULT, .MEY_LOAD_EVT, .MEY_LOAD_TGT, .BENCH_ASSIGN, .BENCH_MFENCE,
      .BENCH_HWIN_LO, .BENCH_HWIN_HI, .BENCH_LANE_TX_LO, .BENCH_LANE_TX_HI, .BENCH_LANE_RX_LO, .BENCH_LANE_RX_HI,
      .BENCH_FENCE_STAT, .BENCH_WB_CTL, .HN_FENCE, .BENCH_HPORT_STAT, .BENCH_SHIFT, .PWR_BOOT_STAT])
  | .bootOpen =>
    ([.out, .pcie, .power, .mbx, .fw, .timers],
     [.PWR_BOOT_STAT, .MBX_STATUS, .MBX_FW_STAT])
  | .perstAssert _ =>
    ([.collector, .wpl, .pcie, .slots, .loads, .memt, .power, .mbx],
     [.CTX_SLOT_STAT, .MEY_LOAD_STAT, .MEY_LOAD_EVT, .PCIE_LINK_STAT, .PCIE_DMA_CTL, .MBX_STATUS])
  | .perstDeassert _ =>
    ([.power],
     [.PCIE_LINK_STAT])
  | .pcieLinkUp _ _ _ _ =>
    ([.out, .collector, .pcie],
     [.PCIE_LINK_STAT])
  | .pcieLinkDown _ =>
    ([.collector, .wpl, .pcie, .slots, .loads, .memt],
     [.CTX_SLOT_STAT, .MEY_LOAD_STAT, .MEY_LOAD_EVT, .PCIE_LINK_STAT, .PCIE_DMA_CTL])
  | .pcieConfigRequest _ _ _ _ | .msixUnmask _ _ _ =>
    ([.out, .pcie],
     [])
  | .pcieBarRead _ _ _ _ _ _ =>
    ([.out, .pcie, .haul],
     [.PCIE_ERR])
  | .pcieBarWrite _ _ _ _ _ =>
    ([.out, .pcie, .haul],
     [.PCIE_ERR, .PCIE_VF_APER])
  | .barHaulResponse _ _ _ =>
    ([.freeCtr, .out, .collector, .wpl, .hluLogged, .bores, .pcie, .tenancy, .haul, .planes, .slots, .loads, .memt,
      .floorReset, .power, .thermal, .mbx, .fw, .scrub, .ddr, .lanes, .clocks, .cal, .hoppers, .timers],
     allRegs)
  | .vfFlr _ _ =>
    ([.out, .pcie, .mbx],
     [.BENCH_RING_CTL, .PCIE_VF_APER, .MBX_STATUS, .MBX_CTL])
  | .pfFlr _ =>
    ([.out, .collector, .wpl, .pcie, .slots, .loads, .memt],
     [.CTX_SLOT_STAT, .MEY_LOAD_STAT, .MEY_LOAD_EVT, .PCIE_DMA_CTL])
  | .vfMapWrite _ _ _ =>
    ([.out, .pcie],
     [.PCIE_VF_MAP_LO, .PCIE_VF_MAP_HI, .PCIE_DEV_CTL])
  | .dmaRingEnable _ _ _ | .dmaRingDisable _ _ _ =>
    ([.pcie],
     [.PCIE_DMA_CTL, .PCIE_DMA_PROD, .PCIE_DMA_CONS])
  | .dmaProdWrite _ _ _ =>
    ([],
     [.PCIE_DMA_CTL, .PCIE_DMA_PROD])
  | .dmaDescFetch _ _ =>
    ([.collector, .pcie],
     [.PCIE_DMA_CTL])
  | .dmaPieceComplete _ _ =>
    ([.out, .pcie, .haul],
     [.HN_LATE_RSP, .PCIE_ERR, .PCIE_DMA_CTL])
  | .dmaWriteback _ =>
    ([.out, .collector, .pcie],
     [.PCIE_DMA_CTL, .PCIE_DMA_CONS])
  | .fabricClockEdge _ _ =>
    ([.freeCtr, .planes, .clocks, .hoppers],
     [.BENCH_USER_STAT])
  | .asyncResetAssert _ _ _ _ | .scheduleExpiry _ | .stateInitDone _ =>
    ([.planes],
     [])
  | .dlymonMeasure _ _ =>
    ([.collector, .wpl, .repair],
     [.BENCH_DLYMON_CTL])
  | .dlymonConverterRotate _ _ =>
    ([.freeCtr, .repair, .cal],
     [])
  | .idleSpareMismatch _ _ =>
    ([.out, .collector, .wpl, .bores, .pcie, .nvs],
     [])
  | .calEvaluationEnd _ _ =>
    ([.freeCtr, .bores],
     [])
  | .trimChangeover _ | .trimAcqStep _ _ | .evalRestartAfterPause _ | .calBoreTrimWrite _ _ | .boreTestRound _ =>
    ([.bores],
     [])
  | .portAccess _ _ _ _ _ =>
    ([.out, .collector, .wpl, .pcie, .nvs, .memt],
     [.MEMT_ECC_CNT, .MEMT_FENCE_CNT, .MEMT_EVT, .MEMT_ERR_LOG_0, .MEMT_ERR_LOG_1])
  | .blockRetireDone _ _ =>
    ([.out, .collector, .wpl, .pcie, .nvs, .memt],
     [.MEMT_EVT])
  | .correctionWriteBack _ _ _ =>
    ([.memt],
     [])
  | .haulMemoryAccess _ _ _ _ _ _ _ _ _ =>
    ([.out, .collector, .wpl, .pcie, .nvs, .haul, .loads, .memt],
     [.MEMT_ECC_CNT, .MEMT_EVT, .MEMT_ERR_LOG_0, .MEMT_ERR_LOG_1])
  | .patrolStep _ _ | .patrolForcedCycle _ _ =>
    ([.out, .collector, .wpl, .pcie, .nvs, .memt, .timers],
     [.MEMT_PATROL_STAT, .MEMT_ECC_CNT, .MEMT_EVT, .MEMT_ERR_LOG_0, .MEMT_ERR_LOG_1])
  | .memtInvStart _ _ =>
    ([.memt],
     [.MEMT_INV])
  | .bulkInvalidateDone _ =>
    ([.collector, .wpl, .memt],
     [.MEMT_INV, .MEMT_EVT])
  | .memtFlipArm _ _ =>
    ([.memt],
     [.MEMT_FLIP_2])
  | .hopperWrite _ _ _ _ _ =>
    ([.collector, .planes, .hoppers],
     [.HOP_ERRCNT, .HOP_EVT])
  | .hopperRead _ _ =>
    ([.out, .collector, .hoppers],
     [.HOP_EVT])
  | .hopperPointerSync _ _ _ =>
    ([.collector, .hports, .hoppers],
     [.HOP_ERRCNT, .HOP_EVT, .BENCH_HPORT_DROP])
  | .hopCfgWrite _ _ _ _ =>
    ([.hoppers],
     [.HOP_CFG, .HOP_STAT])
  | .hopperFlush _ _ _ _ | .hopperFlushApply _ _ _ =>
    ([.hoppers],
     [])
  | .hopperTailTimeout _ _ =>
    ([.collector, .hoppers],
     [.HOP_EVT])
  | .hopOwnerWrite _ _ _ _ =>
    ([.hoppers],
     [.HOP_OWNER])
  | .switchCellRequest _ _ | .hostRequestPresented _ _ _ | .scheduleRequestPresented _ _ _ _ =>
    ([.collector, .bores, .planes, .memt, .clocks, .hoppers],
     [.BENCH_PLANE_SEL, .BENCH_PLANE_STAT, .BENCH_PLANE_STATE, .BENCH_PLANE_CNT, .BENCH_PLANE_ERRCNT,
      .BENCH_PLANE_EVT, .BENCH_SCHED_CTL, .HN_FENCE, .BENCH_HPORT_STAT, .BENCH_SHIFT])
  | .planeSelSwitch _ _ _ | .planeSelOnline _ _ _ | .planeSelOffline _ _ _ =>
    ([.collector, .planes],
     [.BENCH_PLANE_SEL, .BENCH_PLANE_STAT, .BENCH_PLANE_ERRCNT, .BENCH_PLANE_EVT])
  | .deferredCandidateRetry _ _ =>
    ([.collector, .bores, .planes, .memt, .clocks, .hoppers],
     [.BENCH_PLANE_STAT, .BENCH_PLANE_STATE, .BENCH_PLANE_CNT, .BENCH_PLANE_ERRCNT, .BENCH_PLANE_EVT,
      .BENCH_SCHED_CTL, .HN_FENCE, .BENCH_HPORT_STAT])
  | .scheduleEnable _ _ _ =>
    ([.planes],
     [.BENCH_SCHED_CTL])
  | .schedQuantWrite _ _ _ =>
    ([],
     [.BENCH_SCHED_QUANT])
  | .benchClksrcWrite _ _ _ _ =>
    ([],
     [.BENCH_PLANE_STAT, .BENCH_CLKSRC])
  | .surgeCtlWrite _ _ _ =>
    ([.wpl, .hluLogged],
     [.BENCH_SURGE_CTL, .HLU_REFUSE])
  | .imageEvent _ =>
    ([.collector, .planes],
     [])
  | .ctxStage _ _ _ | .ctxPage _ _ _ | .ctxPageFree _ _ _ | .ctxAbort _ _ _ =>
    ([.slots],
     [.CTX_CMD, .CTX_STAT])
  | .ctxCopyFrame _ _ =>
    ([.out, .collector, .wpl, .bores, .pcie, .nvs, .planes, .slots, .memt, .repair, .clocks, .hoppers],
     [.BENCH_PLANE_SEL, .BENCH_PLANE_STAT, .BENCH_PLANE_STATE, .BENCH_PLANE_CNT, .BENCH_PLANE_ERRCNT,
      .BENCH_PLANE_EVT, .BENCH_SCHED_CTL, .CTX_STAT, .CTX_CE_CNT, .CTX_EVT, .CTX_HOME, .CTX_SLOT_STAT, .HN_FENCE,
      .BENCH_HPORT_STAT, .BENCH_SHIFT])
  | .ctxStageCommit _ | .ctxPageCommit _ =>
    ([.out, .collector, .wpl, .bores, .pcie, .nvs, .planes, .slots, .memt, .repair, .clocks, .hoppers],
     [.BENCH_PLANE_SEL, .BENCH_PLANE_STAT, .BENCH_PLANE_STATE, .BENCH_PLANE_CNT, .BENCH_PLANE_ERRCNT,
      .BENCH_PLANE_EVT, .BENCH_SCHED_CTL, .BENCH_CLKSRC, .CTX_STAT, .CTX_CE_CNT, .CTX_EVT, .CTX_HOME,
      .CTX_SLOT_STAT, .HN_FENCE, .BENCH_HPORT_STAT, .BENCH_SHIFT])
  | .ctxSlotRelease _ _ _ =>
    ([.planes, .slots],
     [.CTX_SLOT_STAT])
  | .ctxSlotOwnerWrite _ _ _ =>
    ([.planes, .slots],
     [.CTX_SLOT_STAT, .CTX_SLOT_OWNER])
  | .bulkStoreRefresh _ =>
    ([],
     [.CTX_REFRESH])
  | .slotPatrolStep _ _ =>
    ([.out, .collector, .wpl, .pcie, .slots],
     [.CTX_SLOT_STAT])
  | .slotCopyDone _ _ _ =>
    ([.collector, .wpl, .planes, .slots],
     [.CTX_SLOT_STAT])
  | .loadGo _ _ _ | .loadAbort _ _ _ =>
    ([.collector, .wpl, .slots, .loads, .memt],
     [.CTX_SLOT_STAT, .MEY_LOAD_CTL, .MEY_LOAD_STAT, .MEY_LOAD_PROG, .MEY_LOAD_FAULT, .MEY_LOAD_EVT])
  | .loadDataArrival _ _ =>
    ([.collector, .wpl, .slots, .loads, .memt, .ddr],
     [.CTX_SLOT_STAT, .MEY_LOAD_STAT, .MEY_LOAD_PROG, .MEY_LOAD_FAULT, .MEY_LOAD_EVT, .DDR_ECC])
  | .loadHoldDone _ =>
    ([.collector, .wpl, .slots, .loads, .memt],
     [.CTX_SLOT_STAT, .MEY_LOAD_STAT, .MEY_LOAD_PROG, .MEY_LOAD_FAULT, .MEY_LOAD_EVT])
  | .loadCommit _ =>
    ([.collector, .wpl, .planes, .slots, .loads, .memt],
     [.CTX_SLOT_STAT, .MEY_LOAD_STAT, .MEY_LOAD_EVT])
  | .loadSourceTimeout _ =>
    ([.collector, .wpl, .slots, .loads, .memt],
     [.CTX_SLOT_STAT, .MEY_LOAD_STAT, .MEY_LOAD_EVT])
  | .loadSourceError _ =>
    ([.collector, .wpl, .slots, .loads, .memt],
     [.CTX_SLOT_STAT, .MEY_LOAD_STAT, .MEY_LOAD_EVT, .PCIE_ERR])
  | .benchAssignWrite _ _ _ =>
    ([.collector],
     [.BENCH_ASSIGN])
  | .fnChangeEffect _ =>
    ([.out, .collector, .pcie],
     [.BENCH_ASSIGN, .BENCH_RING_TAIL, .PF_RING_TAIL])
  | .gangForm _ _ _ | .gangDissolve _ _ _ =>
    ([.tenancy],
     [.BENCH_GANG_STAT, .BENCH_GANG_CMD])
  | .gangFormDone _ =>
    ([.tenancy],
     [.BENCH_CLKSRC])
  | .mfenceWrite _ _ _ _ _ =>
    ([],
     [.BENCH_MFENCE, .BENCH_FENCE_STAT])
  | .hwinWrite _ _ _ _ =>
    ([.tenancy],
     [.BENCH_HWIN_HI, .BENCH_FENCE_STAT])
  | .laneFenceWrite _ _ _ _ _ =>
    ([],
     [.BENCH_LANE_TX_LO, .BENCH_LANE_TX_HI, .BENCH_LANE_RX_LO, .BENCH_LANE_RX_HI, .BENCH_FENCE_STAT])
  | .wbCtlWrite _ _ _ _ _ =>
    ([.tenancy],
     [.BENCH_WB_CTL])
  | .weighbridgeRefill _ _ =>
    ([.tenancy],
     [.BENCH_WB_HELD])
  | .weighbridgeAdmit _ _ _ =>
    ([.out, .tenancy, .haul, .hports],
     [])
  | .tallySample _ _ =>
    ([.tenancy],
     [])
  | .pcapUpdate _ =>
    ([.collector, .tenancy],
     [])
  | .collectorEvent _ =>
    ([.collector],
     [])
  | .collectorRecordWrite _ =>
    ([.out, .collector, .pcie],
     [.BENCH_RING_CTL, .PF_RING_CTL, .BENCH_RING_TAIL, .PF_RING_TAIL])
  | .msixModerationExpiry _ _ =>
    ([.out, .collector, .pcie],
     [])
  | .ringEnable _ _ _ =>
    ([.collector],
     [.BENCH_RING_CTL, .PF_RING_CTL, .BENCH_RING_HEAD, .PF_RING_HEAD, .BENCH_RING_TAIL, .PF_RING_TAIL])
  | .benchPortRequest _ _ _ _ =>
    ([.collector, .hports, .hoppers],
     [.HOP_ERRCNT, .HOP_EVT, .BENCH_FENCE_STAT, .BENCH_HPORT_ERR, .BENCH_HPORT_DROP])
  | .flitArrival _ _ _ =>
    ([.out, .wpl, .pcie, .haul, .hports],
     [.HN_RTR_STAT, .HN_RTR_ECC, .HN_DARK, .HN_PRB_EVT, .HN_PRB_CNT, .HN_TRC_CTL, .HN_TRC_STAT])
  | .flitFallbackDepart _ _ =>
    ([.out, .wpl, .pcie, .haul],
     [.HN_RTR_STAT, .HN_RTR_ECC, .HN_DARK, .HN_PRB_EVT, .HN_PRB_CNT, .HN_TRC_CTL, .HN_TRC_STAT])
  | .haulCalibratorTest _ _ _ =>
    ([.out, .collector, .wpl, .pcie, .nvs, .haul, .repair],
     [.HN_RTR_STAT, .HN_FENCE])
  | .benchPortResponse _ _ _ _ =>
    ([.collector, .hports, .hoppers],
     [.HOP_ERRCNT, .HOP_EVT, .HN_LATE_RSP, .BENCH_HPORT_ERR, .BENCH_HPORT_DROP])
  | .benchPortIncomingRequest _ _ _ _ =>
    ([.out, .collector, .haul, .hports, .hoppers],
     [.HOP_ERRCNT, .HOP_EVT, .BENCH_HPORT_ERR, .BENCH_HPORT_DROP])
  | .benchPortImageResponse _ _ _ =>
    ([.hports, .hoppers],
     [.BENCH_HPORT_ERR, .BENCH_HPORT_DROP])
  | .pendingEntryExpiry _ _ =>
    ([.hports],
     [.BENCH_HPORT_ERR])
  | .hportCfgWrite _ _ _ _ =>
    ([],
     [.BENCH_HPORT_CFG])
  | .hportCfgApply _ _ =>
    ([.hports],
     [])
  | .ddrRequest _ _ _ _ =>
    ([.out, .collector, .wpl, .haul, .ddr],
     [.DDR_ECC])
  | .ddrRefresh _ =>
    ([.ddr],
     [])
  | .rtEntWrite _ _ _ | .epochFlip _ _ =>
    ([.haul],
     [.HN_EPOCH_STAT])
  | .drainComplete =>
    ([.out, .pcie, .haul],
     [.HN_EPOCH_STAT])
  | .drainTimeout =>
    ([.out, .collector, .wpl, .haul, .slots, .loads, .memt, .hports],
     [.CTX_SLOT_STAT, .MEY_LOAD_STAT, .MEY_LOAD_EVT, .HN_DARK, .HN_EPOCH_STAT])
  | .fenceClosingDone _ _ =>
    ([.haul],
     [.HN_FENCE, .PWR_DOM])
  | .fenceClosingTimeout _ _ =>
    ([.out, .collector, .wpl, .haul, .slots, .loads, .memt, .hports],
     [.CTX_SLOT_STAT, .MEY_LOAD_STAT, .MEY_LOAD_EVT, .HN_FENCE, .HN_DARK, .HN_PRB_EVT, .HN_PRB_CNT, .HN_TRC_CTL,
      .HN_TRC_STAT, .PWR_DOM])
  | .requestTimeout _ =>
    ([.out, .collector, .pcie, .haul, .hports, .hoppers],
     [.HOP_ERRCNT, .HOP_EVT, .HN_TOCNT, .BENCH_HPORT_DROP, .BENCH_HPORT_TOCNT, .PCIE_ERR, .PCIE_DMA_CTL])
  | .tagReturn _ =>
    ([.pcie, .hports],
     [])
  | .traceClear _ _ _ =>
    ([.haul],
     [.HN_TRC_CTL, .HN_TRC_STAT])
  | .boreTestEnd _ _ =>
    ([.out, .collector, .wpl, .bores, .pcie, .nvs, .planes, .memt, .repair, .clocks, .hoppers],
     [.CAL_REPAIR_CNT, .BENCH_PLANE_SEL, .BENCH_PLANE_STAT, .BENCH_PLANE_STATE, .BENCH_PLANE_CNT,
      .BENCH_PLANE_ERRCNT, .BENCH_PLANE_EVT, .BENCH_SCHED_CTL, .HN_FENCE, .BENCH_HPORT_STAT, .BENCH_SHIFT])
  | .groupResume _ =>
    ([.collector, .bores, .planes, .memt, .repair, .clocks, .hoppers],
     [.BENCH_PLANE_SEL, .BENCH_PLANE_STAT, .BENCH_PLANE_STATE, .BENCH_PLANE_CNT, .BENCH_PLANE_ERRCNT,
      .BENCH_PLANE_EVT, .BENCH_SCHED_CTL, .HN_FENCE, .BENCH_HPORT_STAT, .BENCH_SHIFT])
  | .shiftStop _ _ _ _ _ =>
    ([.out, .collector, .wpl, .bores, .pcie, .nvs, .planes, .memt, .repair, .clocks, .hoppers],
     [.BENCH_PLANE_SEL, .BENCH_PLANE_STAT, .BENCH_PLANE_STATE, .BENCH_PLANE_CNT, .BENCH_PLANE_ERRCNT,
      .BENCH_PLANE_EVT, .BENCH_SCHED_CTL, .HN_FENCE, .BENCH_HPORT_STAT, .BENCH_SHIFT, .BENCH_REPAIR_STAT])
  | .shiftMovePlane _ _ =>
    ([.out, .collector, .wpl, .bores, .pcie, .nvs, .planes, .slots, .memt, .repair, .clocks, .hoppers],
     [.BENCH_PLANE_SEL, .BENCH_PLANE_STAT, .BENCH_PLANE_STATE, .BENCH_PLANE_CNT, .BENCH_PLANE_ERRCNT,
      .BENCH_PLANE_EVT, .BENCH_SCHED_CTL, .CTX_CE_CNT, .CTX_SLOT_STAT, .HN_FENCE, .BENCH_HPORT_STAT, .BENCH_SHIFT,
      .BENCH_REPAIR_STAT])
  | .shiftResume _ _ _ _ _ =>
    ([.out, .collector, .wpl, .bores, .pcie, .planes, .memt, .repair, .power, .clocks, .hoppers],
     [.BENCH_PLANE_SEL, .BENCH_PLANE_STAT, .BENCH_PLANE_STATE, .BENCH_PLANE_CNT, .BENCH_PLANE_ERRCNT,
      .BENCH_PLANE_EVT, .BENCH_SCHED_CTL, .HN_FENCE, .BENCH_HPORT_STAT, .BENCH_SHIFT, .BENCH_REPAIR_STAT, .PWR_DOM])
  | .linkRetrainDone _ _ =>
    ([.out, .collector, .wpl, .pcie, .nvs, .haul, .repair],
     [.HN_FENCE, .HN_LINK_SPARE])
  | .detourTablesWritten =>
    ([.haul, .repair],
     [.HN_EPOCH_STAT])
  | .scrubPassStart _ _ _ _ =>
    ([.out, .collector, .wpl, .pcie, .slots, .scrub],
     [.CTX_SCRUB_STAT, .CTX_SCRUB_CNT])
  | .scrubFrameCompare _ _ _ _ _ =>
    ([.freeCtr, .out, .collector, .wpl, .bores, .pcie, .nvs, .planes, .slots, .memt, .repair, .scrub, .clocks,
      .hoppers],
     [.CAL_REPAIR_CNT, .BENCH_PLANE_SEL, .BENCH_PLANE_STAT, .BENCH_PLANE_STATE, .BENCH_PLANE_CNT,
      .BENCH_PLANE_ERRCNT, .BENCH_PLANE_EVT, .BENCH_SCHED_CTL, .CTX_CE_CNT, .CTX_SCRUB_STAT, .CTX_SCRUB_CNT,
      .CTX_SCRUB_LOG_0, .CTX_SCRUB_LOG_1, .CTX_SLOT_STAT, .HN_FENCE, .BENCH_HPORT_STAT, .BENCH_SHIFT,
      .CTX_SCRUB_BENCH])
  | .scrubRestore _ _ =>
    ([.planes, .scrub],
     [.CTX_SCRUB_CNT, .CTX_SCRUB_BENCH])
  | .scrubStateParityCheck _ _ _ =>
    ([.out, .collector, .wpl, .bores, .pcie, .nvs, .planes, .memt, .repair, .scrub, .clocks, .hoppers],
     [.BENCH_PLANE_SEL, .BENCH_PLANE_STAT, .BENCH_PLANE_STATE, .BENCH_PLANE_CNT, .BENCH_PLANE_ERRCNT,
      .BENCH_PLANE_EVT, .BENCH_SCHED_CTL, .HN_FENCE, .BENCH_HPORT_STAT, .BENCH_SHIFT, .CTX_SCRUB_BENCH])
  | .octCfgWrite _ _ _ =>
    ([.collector, .wpl, .hluLogged, .lanes],
     [.LANE_STAT, .LANE_SQ, .ETH_OCT_CFG, .ETH_OCT_STAT, .ETH_PORT_STAT, .HLU_REFUSE])
  | .ethRxFrame _ _ _ _ _ _ _ _ =>
    ([.collector, .lanes, .hoppers],
     [.HOP_ERRCNT, .HOP_EVT, .LANE_DROP, .ETH_RX_FRAMES, .ETH_RX_ERR, .ETH_FEC_CORR, .ETH_FEC_UNCORR])
  | .ethTxFrame _ _ _ =>
    ([.out, .lanes, .hoppers],
     [.LANE_DROP, .ETH_PORT_STAT, .ETH_TX_FRAMES, .ETH_TX_ERR])
  | .txtsRead _ =>
    ([.lanes],
     [.ETH_TXTS_ID, .ETH_TXTS_LO, .ETH_TXTS_HI])
  | .rawRxItem _ _ _ =>
    ([.out, .collector, .wpl, .pcie, .lanes, .hoppers],
     [.HOP_ERRCNT, .HOP_EVT, .LANE_STAT, .LANE_PRBS, .LANE_PRBS_ERR, .LANE_PRBS_BITS, .LANE_SQ, .LANE_DROP,
      .ETH_PORT_STAT])
  | .rawTxItem _ =>
    ([.out, .lanes, .hoppers],
     [.LANE_DROP])
  | .laneRestart _ _ _ =>
    ([.out, .collector, .wpl, .pcie, .lanes],
     [.LANE_CTL, .LANE_STAT, .LANE_SQ, .ETH_PORT_STAT])
  | .detectStep _ _ | .lockFrame _ _ _ | .faultRestartTimer _ | .autoNegotiationPage _ _ _
  | .linkTrainingFrame _ _ =>
    ([.collector, .lanes],
     [.LANE_STAT, .LANE_SQ, .ETH_PORT_STAT])
  | .trainingFrame _ _ _ _ _ =>
    ([.freeCtr, .out, .collector, .lanes],
     [.LANE_STAT, .LANE_SQ, .ETH_PORT_STAT])
  | .capabilityFrame _ _ =>
    ([.freeCtr, .out, .collector, .wpl, .pcie, .lanes],
     [.LANE_STAT, .LANE_PEER_ID, .LANE_PEER_USER, .LANE_SQ, .ETH_PORT_STAT])
  | .laneTimerExpiry _ | .losAssert _ | .lolAssert _ | .twinBlankEnd _ _ =>
    ([.out, .collector, .wpl, .pcie, .lanes],
     [.LANE_STAT, .LANE_SQ, .ETH_PORT_STAT])
  | .prbsInject _ _ _ | .lanePrbsWrite _ _ _ =>
    ([.freeCtr, .lanes],
     [.LANE_PRBS, .LANE_PRBS_ERR, .LANE_PRBS_BITS])
  | .elementRecalStart _ _ =>
    ([.lanes, .cal],
     [.LANE_SQ])
  | .elementRecalDone _ _ _ _ _ =>
    ([.collector, .wpl, .lanes, .cal],
     [.LANE_STAT, .LANE_SQ])
  | .oscStable _ =>
    ([.wpl, .clocks],
     [.CLK_OSC_STAT, .CLK_MON])
  | .pllLock _ _ =>
    ([.clocks],
     [.CLK_MON])
  | .pllLockDrop _ _ =>
    ([.out, .collector, .wpl, .pcie, .slots, .loads, .memt, .ddr, .lanes, .clocks],
     [.CTX_SLOT_STAT, .MEY_LOAD_STAT, .MEY_LOAD_EVT, .PCIE_LINK_STAT, .PCIE_DMA_CTL, .LANE_STAT, .LANE_SQ,
      .ETH_PORT_STAT, .CLK_MON])
  | .clkFabWrite _ _ _ =>
    ([.clocks],
     [.CLK_MON, .CLK_FAB])
  | .monitorWindowEnd _ _ =>
    ([.out, .collector, .wpl, .pcie, .slots, .loads, .memt, .ddr, .lanes, .clocks],
     [.CTX_SLOT_STAT, .MEY_LOAD_STAT, .MEY_LOAD_EVT, .PCIE_LINK_STAT, .PCIE_DMA_CTL, .LANE_STAT, .LANE_SQ,
      .ETH_PORT_STAT, .CLK_OSC_STAT, .CLK_MON])
  | .rampDwellEnd _ =>
    ([.ddr, .clocks],
     [.CLK_MON, .DDR_CH_STAT])
  | .dividerStep _ _ =>
    ([.clocks],
     [])
  | .clkReturn _ _ =>
    ([.out, .clocks],
     [.CLK_MON])
  | .deviceTimeTick =>
    ([.time, .haul, .clocks, .hoppers],
     [.HN_PRB_EVT, .HN_PRB_CNT])
  | .clkoutWrite _ _ _ =>
    ([.wpl, .hluLogged],
     [.CLK_OUT, .HLU_REFUSE])
  | .domainPowerDown _ _ _ | .domainPowerUp _ _ _ =>
    ([.collector, .wpl, .power, .ddr],
     [.PWR_DOM])
  | .quiesceDone _ _ _ _ _ =>
    ([.collector, .wpl, .bores, .haul, .planes, .memt, .power, .ddr, .clocks, .hoppers],
     [.BENCH_PLANE_SEL, .BENCH_PLANE_STAT, .BENCH_PLANE_STATE, .BENCH_PLANE_CNT, .BENCH_PLANE_ERRCNT,
      .BENCH_PLANE_EVT, .BENCH_SCHED_CTL, .HN_FENCE, .BENCH_HPORT_STAT, .BENCH_SHIFT, .PWR_DOM])
  | .isolateDone _ =>
    ([.out, .haul, .hports],
     [.HN_FENCE, .HN_DARK, .HN_PRB_EVT, .HN_PRB_CNT, .HN_TRC_CTL, .HN_TRC_STAT, .PWR_DOM])
  | .gateDone _ =>
    ([.collector, .wpl, .pcie, .tenancy, .haul, .planes, .slots, .loads, .memt, .repair, .power, .thermal, .mbx,
      .fw, .side, .hports, .ddr, .lanes, .clocks, .cal, .hoppers],
     allRegs)
  | .rampSlotFree =>
    ([.power],
     [.PWR_DOM])
  | .rampDone _ =>
    ([.bores, .tenancy, .planes, .thermal],
     [.BENCH_PLANE_STATE, .PWR_DOM])
  | .initDone _ =>
    ([.freeCtr, .collector, .bores, .haul, .slots, .memt, .scrub, .ddr, .timers],
     [.BENCH_SURGE_CTL, .BENCH_PCAP, .HN_RTR_STAT, .HN_FENCE, .HN_LINK_SPARE, .BENCH_HPORT_STAT, .BENCH_SHIFT,
      .PCIE_LINK_STAT, .LANE_TX, .PWR_DOM, .THM_LIMITS, .DDR_CH_STAT])
  | .measurementInterval _ _ =>
    ([.freeCtr, .out, .collector, .wpl, .bores, .pcie, .tenancy, .haul, .planes, .slots, .loads, .memt, .repair,
      .power, .thermal, .mbx, .fw, .side, .hports, .ddr, .lanes, .clocks, .cal, .hoppers, .timers],
     allRegs)
  | .throttleRiseTimer _ | .throttleRecoveryTimer _ =>
    ([.out, .collector, .wpl, .pcie, .thermal, .timers],
     [.THM_COL, .THM_BENCH, .THM_BENCH_REF])
  | .thermalLevelUpdate _ =>
    ([.thermal],
     [])
  | .graceEnd _ | .exemptCheck _ =>
    ([.out, .collector, .wpl, .pcie, .timers],
     [.THM_BENCH])
  | .hardwareTrip _ =>
    ([.out, .collector, .wpl, .pcie, .tenancy, .haul, .planes, .slots, .loads, .memt, .repair, .power, .thermal,
      .mbx, .fw, .side, .hports, .ddr, .lanes, .clocks, .cal, .hoppers],
     allRegs)
  | .converterRotate _ _ _ =>
    ([.thermal, .cal],
     [.THM_SITE, .THM_SITE_CAL, .TEL_RAIL])
  | .railMeasure _ _ =>
    ([.freeCtr, .out, .collector, .wpl, .pcie, .thermal, .timers],
     [.THM_BENCH, .THM_BENCH_REF, .TEL_RAIL, .TEL_PWR])
  | .hluLevelTimer =>
    ([.thermal, .timers],
     [.THM_BENCH, .THM_BENCH_REF])
  | .thmLimitsWrite _ _ =>
    ([.wpl, .hluLogged],
     [.THM_LIMITS, .THM_STAT, .HLU_REFUSE])
  | .hluBoardWrite _ _ _ =>
    ([.collector, .wpl, .hluLogged, .bores, .lanes],
     [.BENCH_SURGE_CTL, .BENCH_PCAP, .LANE_STAT, .LANE_TX, .LANE_SQ, .ETH_OCT_CFG, .ETH_PORT_STAT, .CLK_OUT,
      .THM_SITE, .THM_LIMITS, .HLU_BOARD, .HLU_REFUSE, .DBG_GPIO_OE, .DBG_TMUX_STAT])
  | .hluLock _ _ =>
    ([.thermal],
     [.HLU_CTL])
  | .lockstepMismatch | .watchdogExpiry | .fwRestart _ _ =>
    ([.out, .wpl, .pcie, .mbx, .fw],
     [.MBX_FW_STAT, .DBG_TMUX_STAT])
  | .controllerOpen =>
    ([.out, .wpl, .pcie, .nvs, .mbx, .fw, .timers],
     [.MBX_STATUS, .MBX_FW_STAT])
  | .mbxRing _ _ _ _ | .mbxAck _ _ _ | .mctpMessage _ _ | .devInfo _ | .devTime _ | .slotList _ | .calRead _
  | .spoilRead _ | .wplRingRead _ | .wplRecordList _ | .wplRecordRead _ | .fwVerify _
  | .cataloguedTimeExceeded _ =>
    ([.out, .pcie, .mbx, .timers],
     [.MBX_STATUS])
  | .mbxAbort _ _ _ =>
    ([.mbx],
     [.MBX_STATUS, .MBX_CTL])
  | .pageTimerExpiry _ | .wplFreeze _ =>
    ([.out, .wpl, .pcie, .mbx, .timers],
     [.MBX_STATUS])
  | .setEndpointId _ =>
    ([.out, .side],
     [])
  | .getEndpointId | .getMctpVersionSupport _ | .getMessageTypeSupport | .getVendorDefinedMsgSupport _ =>
    ([.out],
     [])
  | .otpStep _ _ =>
    ([.out, .pcie, .mbx, .fw, .timers],
     [.MBX_STATUS])
  | .otpStepTimeout =>
    ([.fw],
     [])
  | .otpBoard _ _ | .spoilClear _ _ | .fwMinSvn _ _ =>
    ([.out, .pcie, .nvs, .mbx, .timers],
     [.MBX_STATUS])
  | .benchAssign _ =>
    ([.out, .collector, .pcie, .mbx, .timers],
     [.BENCH_ASSIGN, .MBX_STATUS])
  | .gangFormCmd _ | .gangDissolveCmd _ =>
    ([.out, .pcie, .tenancy, .mbx, .timers],
     [.BENCH_GANG_STAT, .BENCH_GANG_CMD, .MBX_STATUS])
  | .mfenceSet _ =>
    ([.out, .pcie, .mbx, .timers],
     [.BENCH_MFENCE, .BENCH_FENCE_STAT, .MBX_STATUS])
  | .hwinSet _ =>
    ([.out, .pcie, .tenancy, .mbx, .timers],
     [.BENCH_HWIN_LO, .BENCH_HWIN_HI, .BENCH_FENCE_STAT, .MBX_STATUS])
  | .laneFence _ =>
    ([.out, .pcie, .mbx, .timers],
     [.BENCH_LANE_TX_LO, .BENCH_LANE_TX_HI, .BENCH_LANE_RX_LO, .BENCH_LANE_RX_HI, .BENCH_FENCE_STAT, .MBX_STATUS])
  | .wbSet _ =>
    ([.out, .pcie, .tenancy, .mbx, .timers],
     [.BENCH_WB_CTL, .MBX_STATUS])
  | .pcapSet _ =>
    ([.out, .wpl, .hluLogged, .pcie, .mbx, .timers],
     [.BENCH_PCAP, .MBX_STATUS, .HLU_REFUSE])
  | .hopperSet _ =>
    ([.out, .pcie, .mbx, .hoppers, .timers],
     [.HOP_CFG, .HOP_STAT, .HOP_OWNER, .MBX_STATUS])
  | .declApply _ =>
    ([.out, .pcie, .tenancy, .mbx, .hoppers, .timers],
     [.HOP_CFG, .HOP_STAT, .HOP_OWNER, .BENCH_PLANE_STAT, .BENCH_CLKSRC, .BENCH_MFENCE, .BENCH_HWIN_LO,
      .BENCH_HWIN_HI, .BENCH_LANE_TX_LO, .BENCH_LANE_TX_HI, .BENCH_LANE_RX_LO, .BENCH_LANE_RX_HI,
      .BENCH_FENCE_STAT, .BENCH_WB_CTL, .MBX_STATUS])
  | .benchStatus _ =>
    ([.freeCtr, .out, .pcie, .mbx, .timers],
     [.MBX_STATUS])
  | .slotCopy _ =>
    ([.out, .pcie, .slots, .mbx, .timers],
     [.CTX_SLOT_STAT, .MBX_STATUS])
  | .slotOwner _ =>
    ([.out, .pcie, .planes, .slots, .mbx, .timers],
     [.CTX_SLOT_STAT, .CTX_SLOT_OWNER, .MBX_STATUS])
  | .slotRelease _ =>
    ([.out, .pcie, .planes, .slots, .mbx, .timers],
     [.CTX_SLOT_STAT, .MBX_STATUS])
  | .scrubSet _ _ =>
    ([.out, .pcie, .nvs, .mbx, .scrub, .timers],
     [.MBX_STATUS])
  | .octetCfg _ =>
    ([.out, .collector, .wpl, .hluLogged, .pcie, .mbx, .lanes, .timers],
     [.LANE_STAT, .LANE_SQ, .ETH_OCT_CFG, .ETH_OCT_STAT, .ETH_PORT_STAT, .MBX_STATUS, .HLU_REFUSE])
  | .laneStatus _ =>
    ([.freeCtr, .out, .pcie, .mbx, .timers],
     [.LANE_STAT, .LANE_PEER_ID, .LANE_SQ, .LANE_DROP, .MBX_STATUS])
  | .laneRestartCmd _ =>
    ([.out, .collector, .wpl, .pcie, .mbx, .lanes, .timers],
     [.LANE_CTL, .LANE_STAT, .LANE_SQ, .ETH_PORT_STAT, .MBX_STATUS])
  | .domainSet _ =>
    ([.out, .collector, .wpl, .pcie, .power, .mbx, .ddr, .timers],
     [.PWR_DOM, .MBX_STATUS])
  | .domainList _ =>
    ([.freeCtr, .out, .pcie, .mbx, .timers],
     [.PWR_DOM, .MBX_STATUS])
  | .thmSet _ =>
    ([.out, .wpl, .hluLogged, .pcie, .mbx, .timers],
     [.THM_LIMITS, .THM_SHDN_MODE, .THM_PRIV_CTL, .THM_STAT, .MBX_STATUS, .HLU_REFUSE])
  | .telemetry _ =>
    ([.freeCtr, .out, .pcie, .mbx, .timers],
     [.THM_STAT, .THM_COL, .TEL_RAIL, .TEL_PWR, .MBX_STATUS])
  | .hluFwSet _ =>
    ([.out, .collector, .wpl, .hluLogged, .bores, .pcie, .mbx, .lanes, .timers],
     [.BENCH_SURGE_CTL, .BENCH_PCAP, .LANE_STAT, .LANE_TX, .LANE_SQ, .ETH_OCT_CFG, .ETH_PORT_STAT, .CLK_OUT,
      .THM_SITE, .THM_LIMITS, .MBX_STATUS, .HLU_FW, .HLU_REFUSE, .DBG_GPIO_OE, .DBG_TMUX_STAT])
  | .calWrite _ =>
    ([.out, .bores, .pcie, .mbx, .cal, .timers],
     [.THM_SITE, .THM_SITE_CAL, .MBX_STATUS])
  | .routerRetire _ =>
    ([.out, .collector, .wpl, .pcie, .nvs, .haul, .repair, .mbx, .timers],
     [.HN_RTR_STAT, .MBX_STATUS])
  | .columnShift _ =>
    ([.freeCtr, .out, .collector, .wpl, .bores, .pcie, .nvs, .planes, .memt, .repair, .mbx, .clocks, .hoppers,
      .timers],
     [.BENCH_PLANE_SEL, .BENCH_PLANE_STAT, .BENCH_PLANE_STATE, .BENCH_PLANE_CNT, .BENCH_PLANE_ERRCNT,
      .BENCH_PLANE_EVT, .BENCH_SCHED_CTL, .HN_FENCE, .BENCH_HPORT_STAT, .BENCH_SHIFT, .MBX_STATUS])
  | .wplResume _ =>
    ([.out, .wpl, .pcie, .mbx, .timers],
     [.MBX_STATUS, .WPL_STAT])
  | .fwWrite _ _ =>
    ([.out, .pcie, .nvs, .mbx, .fw, .timers],
     [.MBX_STATUS])
  | .fwActivate _ =>
    ([.out, .wpl, .pcie, .nvs, .mbx, .fw, .timers],
     [.MBX_STATUS, .MBX_FW_STAT, .DBG_TMUX_STAT])
  | .tmuxUnlock _ =>
    ([.out, .pcie, .mbx, .timers],
     [.MBX_STATUS, .DBG_TMUX_STAT])
  | .tmuxSelect _ =>
    ([.out, .pcie, .mbx, .side, .timers],
     [.MBX_STATUS])
  | .dbgEnChange _ =>
    ([.out, .collector, .wpl, .pcie, .slots, .loads, .memt, .side, .ddr, .lanes],
     [.CTX_SLOT_STAT, .MEY_LOAD_STAT, .MEY_LOAD_EVT, .PCIE_LINK_STAT, .PCIE_DMA_CTL, .LANE_STAT, .LANE_SQ,
      .ETH_PORT_STAT, .DDR_CH_STAT, .DBG_TMUX_STAT])
  | .weapelEntry =>
    ([.wpl],
     [.WPL_STAT, .WPL_DROP])
  | .recordCopyDone _ =>
    ([.wpl, .power, .ddr],
     [.PWR_DOM, .WPL_STAT, .WPL_DROP])
  | .wplCtlFreeze _ _ | .wplCtlResume _ _ =>
    ([.wpl],
     [.WPL_STAT])
  | .floorReset _ _ =>
    ([.floorReset, .mbx, .scrub, .ddr],
     [.PWR_RST_CTL, .PWR_RST_STAT, .MBX_FW_STAT])
  | .floorResetEnterDone =>
    ([.floorReset, .ddr, .timers],
     [.DDR_CH_STAT])
  | .floorResetHoldEnd =>
    ([.out, .collector, .pcie, .haul, .memt, .floorReset, .hports, .hoppers],
     [.HOP_ERRCNT, .HOP_EVT, .BENCH_HPORT_ERR, .BENCH_HPORT_DROP, .PCIE_ERR])
  | .floorResetReleaseDone _ =>
    ([.freeCtr, .out, .collector, .wpl, .bores, .pcie, .slots, .loads, .memt, .floorReset, .mbx, .scrub, .hports,
      .ddr, .hoppers, .timers],
     [.HOP_ERRCNT, .HOP_EVT, .CTX_SLOT_STAT, .MEY_LOAD_STAT, .MEY_LOAD_EVT, .BENCH_HPORT_DROP, .PCIE_DMA_CTL,
      .PWR_DOM, .PWR_RST_STAT, .MBX_STATUS, .MBX_FW_STAT, .DDR_CH_STAT])
  | .ddrTrain _ _ _ =>
    ([.ddr],
     [.DDR_CH_CFG, .DDR_CH_STAT])
  | .ddrTrainingDone _ _ _ _ =>
    ([.out, .collector, .wpl, .pcie, .ddr],
     [.DDR_CH_STAT])
  | .ddrSelfrefEntryDone _ =>
    ([.ddr],
     [.DDR_CH_STAT])
  | .tapReset | .tapBypass | .tapIdcode | .tapSamplePreload | .tapExtest | .tapClamp | .tapHighz
  | .tapExtestPulse | .tapExtestTrain =>
    ([.out, .collector, .wpl, .pcie, .slots, .loads, .memt, .side, .ddr, .lanes],
     [.CTX_SLOT_STAT, .MEY_LOAD_STAT, .MEY_LOAD_EVT, .PCIE_LINK_STAT, .PCIE_DMA_CTL, .LANE_STAT, .LANE_SQ,
      .ETH_PORT_STAT, .DDR_CH_STAT])
  | .losClear _ =>
    ([],
     [.LANE_STAT])
  | .readingLoLatchesHi _ _ _ =>
    ([],
     [.BENCH_PLANE_TIME_HI, .BENCH_TALLY_HI, .BENCH_TALLY_IDLE_HI, .BENCH_TALLY_PLANE_HI, .TEL_MEM_E_HI,
      .TEL_CFG_E_HI])
  | .dynamicAddressAssignment _ =>
    ([.side],
     [])

end Sys2Proof.Machine
end

