-- ==== Sys2Proof/Certificates/Slice0/Obligations.lean ====
section
/-!
DEFINITION. The statements for the provers, in the words of the model. A statement about a command names where the
command has its own effect and what the next state then holds; FootprintKept says what every command leaves alone.
-/

open Sys2Proof Sys2Proof.Machine

/-- A step takes the command at the front of the queue, first in first out, and is exec of it on the state with
the queue's rest. (00_scope.md, R8) -/
def Obligations.StepRunsFront : Prop :=
  ∀ (c : Instr) (q : List Instr) (s : State), s.pending = c :: q → step s = exec c { s with pending := q }

/-- With no command waiting the device idles (a choice of the model, log entry 1). (00_scope.md) -/
def Obligations.StepIdle : Prop := ∀ s : State, s.pending = [] → step s = .next s

/-- The machine right after reset satisfies the invariant that every step keeps. (00_scope.md, R8, R9) -/
def Obligations.ResetInv : Prop := State.reset.Inv

/-- Every step answers a next state and keeps the invariant: queue well formed, registers canonical with reserved
bits 0, every memory canonical. (00_scope.md, R8, R9) -/
def Obligations.StepKeepsInv : Prop := ∀ s : State, s.Inv → ∃ t, step s = .next t ∧ t.Inv

/-- The frame of every command: each answers a next state, leaves the queue alone, and changes no part of the
state and no register outside its footprint. (00_scope.md, 95_what_each_step_holds.md, R8) -/
def Obligations.FootprintKept : Prop :=
  ∀ (c : Instr) (s : State), ∃ t, exec c s = .next t ∧ t.pending = s.pending
    ∧ (∀ p : Part, p ∉ (touches c).1 → p.same s t)
    ∧ ∀ r : Reg, r ∉ (touches c).2 → ∀ i, t.reg r i = s.reg r i

/-- A reserved bit of a register reads as 0 before and after every command. (00_scope.md, R9) -/
def Obligations.ReservedReadsZero : Prop :=
  ∀ (c : Instr) (s t : State), RegsOk s.regs → exec c s = .next t →
    ∀ (r : Reg) (i : Nat), s.reg r i &&& ~~~(fieldMask r) = 0 ∧ t.reg r i &&& ~~~(fieldMask r) = 0

/-- Power-on reset, rails and PWRGOOD: what each leaves. (R493, R495, R624, R625, R627, R503, 16_power_domains.md) -/
def Obligations.PowerOnAndRails : Prop :=
  (∀ (s : State),
    ∃ t, exec (.powerOnReset) s = .next t
      ∧ t.time = 0 ∧ t.power.good = false ∧ t.nvs = s.nvs ∧ t.memt = {} ∧ t.slots = {}
      ∧ (∀ r : Reg, r ∉ [Reg.PWR_DOM, .PWR_RAIL_STAT, .HLU_BOARD, .HLU_CTL, .BENCH_SURGE_CTL, .BENCH_PCAP, .LANE_TX,
        .THM_LIMITS, .MBX_FW_STAT] → ∀ i, t.reg r i = regReset r i))
  ∧ (∀ (s : State) (n : Nat), 0 < n → n ≤ 8 → s.railUp n = false →
    ∃ t, exec (.railUp n) s = .next t
      ∧ t.railUp n = true
      ∧ (s.powered 0 = true → (railNeeds n).all s.railUp = false → bitOf (t.get F.PWR_RAIL_STAT_ORDER_ERR 0) n = 1))
  ∧ (∀ (s : State), s.railUp 0 = false →
    ∃ t, exec (.railUp 0) s = .next t
      ∧ t.railUp 0 = true ∧ t.time = 0)
  ∧ (∀ (s : State) (n : Nat), 0 < n → n ≤ 8 → s.railUp n = true →
    ∃ t, exec (.railDown n) s = .next t
      ∧ t.railUp n = false)
  ∧ (∀ (s : State) (sbSel flashOct : Bool) (sbAddr : Nat), s.power.good = false → s.powered 0 = true →
    ∃ t, exec (.pwrgoodRise sbSel sbAddr flashOct) s = .next t
      ∧ t.power.good = true ∧ t.power.boot = 1 ∧ t.power.riseAt = s.time ∧ t.reg .PWR_BOOT_STAT 0 = 0
      ∧ (s.powered 5 = true → t.flag F.DBG_STRAP_SB_SEL 0 = sbSel ∧ t.get F.DBG_STRAP_SB_ADDR 0 = sbAddr % 4
        ∧ t.flag F.DBG_STRAP_FLASH_OCT 0 = flashOct))
  ∧ (∀ (s : State), s.power.good = true →
    ∃ t, exec (.pwrgoodFall) s = .next t
      ∧ t.power.good = false ∧ t.power.boot = 0 ∧ t.get F.PWR_RST_STAT_LAST 0 = 1 ∧ t.memt = {}
      ∧ t.lanes = {} ∧ t.loads = [])

/-- The phases of the boot, each from the phase before it. (R543, R544, R627, R628, R629, R638,
21_startup_and_reset.md) -/
def Obligations.BootPhases : Prop :=
  (∀ (s : State), s.bootAt 1 = true → s.clocksReady = true →
    ∃ t, exec (.bootRom) s = .next t
      ∧ t.power.boot = 2
      ∧ (∀ k, s.bootChoice = some k → t.get F.MBX_FW_STAT_BOOT_SLOT 0 = k % 2 ∧ t.flag F.MBX_FW_STAT_RECOVERY 0 = false)
      ∧ (s.bootChoice = none → t.flag F.MBX_FW_STAT_RECOVERY 0 = true))
  ∧ (∀ (s : State), s.bootAt 2 = true →
    ∃ t, exec (.bootNet) s = .next t
      ∧ t.power.boot = 3
      ∧ (∀ d ∈ [6, 10, 7, 8, 9], s.fed d = true ∧ s.domSt d = pdOff ∧ (prereqs d).all (fun e => t.domSt e == pdOn) = true →
  t.domSt d = pdOn))
  ∧ (∀ (s : State), s.bootAt 3 = true →
    ∃ t, exec (.bootPorts) s = .next t
      ∧ t.power.boot = 4
      ∧ (∀ d ∈ (upTo 14).map (11 + ·), s.fed d = true ∧ s.domSt d = pdOff ∧ (prereqs d).all (fun e => t.domSt e == pdOn) = true →
  t.domSt d = pdOn))
  ∧ (∀ (s : State), s.bootAt 4 = true →
    ∃ t, exec (.bootTiers) s = .next t
      ∧ t.power.boot = 5
      ∧ (∀ d ∈ [29, 30, 31, 32, 25, 26, 27, 28], s.fed d = true ∧ s.domSt d = pdOff ∧ (prereqs d).all (fun e => t.domSt e == pdOn) = true →
  t.domSt d = pdOn))
  ∧ (∀ (s : State), s.bootAt 5 = true →
    ∃ t, exec (.bootBenches) s = .next t
      ∧ t.power.boot = 6
      ∧ (∀ d ∈ (upTo 64).map (33 + ·), s.fed d = true ∧ s.domSt d = pdOff ∧ (prereqs d).all (fun e => t.domSt e == pdOn) = true →
  t.domSt d = pdOn))
  ∧ (∀ (s : State), s.bootAt 6 = true →
    ∃ t, exec (.bootShell) s = .next t
      ∧ t.power.boot = 7
      ∧ (s.flag F.MBX_FW_STAT_RECOVERY 0 = true ∨ shellAbsent (s.flashRead shellBase 256) = true → t = s.bootTo 7))
  ∧ (∀ (s : State), s.bootAt 7 = true →
    ∃ t, exec (.bootOpen) s = .next t
      ∧ t.power.boot = 8 ∧ t.flag F.PWR_BOOT_STAT_DONE 0 = true ∧ t.flag F.MBX_FW_STAT_FW_UP 0 = true
      ∧ t.get F.PWR_BOOT_STAT_BOOT_US 0 = min 0xFFFFFF ((s.time - s.power.riseAt) / 1000))

/-- PERST, link up and down, and function-level resets: what each leaves. (R419, R428, R430, R501, R555, R624,
R626, R630, 13_host_ports.md) -/
def Obligations.PortResets : Prop :=
  (∀ (s : State) (x : Nat), x < 2 → bitOf s.power.perst x = 0 →
    ∃ t, exec (.perstAssert x) s = .next t
      ∧ bitOf t.power.perst x = 1
      ∧ (s.powered (dPcie x) = true → t.flag F.PCIE_LINK_STAT_PERST x = true ∧ t.flag F.PCIE_LINK_STAT_UP x = false
        ∧ t.flag F.PCIE_DMA_CTL_EN x = false))
  ∧ (∀ (s : State) (x : Nat), x < 2 → bitOf s.power.perst x = 1 →
    ∃ t, exec (.perstDeassert x) s = .next t
      ∧ bitOf t.power.perst x = 0 ∧ (s.powered (dPcie x) = true → t.flag F.PCIE_LINK_STAT_PERST x = false))
  ∧ (∀ (s : State) (x speed width : Nat) (flit : Bool), x < 2 → s.powered (dPcie x) = true →
    s.side.tapPins = false → s.floorReset = 0 → linkMode speed width flit = true →
    s.flag F.PCIE_LINK_STAT_PERST x = false → s.flag F.PCIE_LINK_STAT_UP x = false →
    ∃ t, exec (.pcieLinkUp x speed width flit) s = .next t
      ∧ t.flag F.PCIE_LINK_STAT_UP x = true ∧ t.get F.PCIE_LINK_STAT_SPEED x = speed
      ∧ t.get F.PCIE_LINK_STAT_WIDTH x = width ∧ t.flag F.PCIE_LINK_STAT_FLIT x = flit)
  ∧ (∀ (s : State) (x : Nat), x < 2 → s.flag F.PCIE_LINK_STAT_UP x = true →
    ∃ t, exec (.pcieLinkDown x) s = .next t
      ∧ t.flag F.PCIE_LINK_STAT_UP x = false ∧ t.get F.PCIE_LINK_STAT_SPEED x = 0
      ∧ t.get F.PCIE_LINK_STAT_WIDTH x = 0 ∧ t.flag F.PCIE_DMA_CTL_EN x = false
      ∧ t.get F.PCIE_LINK_STAT_DOWN_CNT x = min 255 (s.get F.PCIE_LINK_STAT_DOWN_CNT x + 1))
  ∧ (∀ (s : State) (x n : Nat), x < 2 → n < 64 → s.portLive x = true → s.hasFn x (n + 1) = true →
    ∃ t, exec (.vfFlr x n) s = .next t
      ∧ (s.flag F.PWR_BOOT_STAT_DONE 0 = false → t = s.emit (.cfgRetry x (n + 1)))
      ∧ (s.flag F.PWR_BOOT_STAT_DONE 0 = true → t.cfg x (n + 1) = {})
      ∧ (s.flag F.PWR_BOOT_STAT_DONE 0 = true → s.vfPort n = x → t.get F.PCIE_VF_APER_APER n = 0
        ∧ (s.powered 1 = true → t.flag F.BENCH_RING_CTL_EN n = false ∧ t.mbSt n = mbIdle)))
  ∧ (∀ (s : State) (x : Nat), x < 2 → s.portLive x = true →
    ∃ t, exec (.pfFlr x) s = .next t
      ∧ (s.flag F.PWR_BOOT_STAT_DONE 0 = false → t = s.emit (.cfgRetry x 0))
      ∧ (s.flag F.PWR_BOOT_STAT_DONE 0 = true → t.cfg x 0 = {} ∧ t.flag F.PCIE_DMA_CTL_EN x = false
        ∧ (t.dmaEng x).descs = [])
      ∧ (∀ n, n < 64 → s.flag F.PWR_BOOT_STAT_DONE 0 = true → t.cfg x (n + 1) = {}))

/-- Configuration requests, BAR accesses and the VF map of a live port. (R416, R418, R420, R421, R422, R423, R424,
R429, 13_host_ports.md) -/
def Obligations.PcieAccesses : Prop :=
  (∀ (s : State) (x fn tag : Nat) (q : CfgReq), x < 2 → fn < 65 → s.portLive x = true →
    ∃ t, exec (.pcieConfigRequest x fn tag q) s = .next t
      ∧ (s.flag F.PWR_BOOT_STAT_DONE 0 = true → s.hasFn x fn = true → t.out.head? = some (.completion x fn tag false (some (s.cfgRead x fn q))))
      ∧ (s.flag F.PWR_BOOT_STAT_DONE 0 = true → s.hasFn x fn = false → t = s.emit (.unsupported x fn tag))
      ∧ (s.flag F.PWR_BOOT_STAT_DONE 0 = false → t = s.emit (.cfgRetry x fn)))
  ∧ (∀ (s : State) (x fn tag o len ht : Nat), s.barOpen x fn = true → 0 < len → s.floorReset = 0 →
    ∃ t, exec (.pcieBarRead x fn tag o len ht) s = .next t
      ∧ (∀ b, s.barPlace x fn o = .msix b → t = s.emit (.completion x fn tag false
        (some (gatherWords (fun o => s.msixWord x fn (o / 4)) b len % 2 ^ (8 * len)))))
      ∧ (∀ b, s.barPlace x fn o = .pba b →
        t = s.emit (.completion x fn tag false (some (gatherWords (s.pbaWord fn) b len % 2 ^ (8 * len)))))
      ∧ (s.barPlace x fn o = .none → t = s.emit (.completion x fn tag false (some 0)))
      ∧ (s.barPlace x fn o = .aper 0 → len ≤ 4 →
        t = s.emit (.completion x fn tag false (some (s.get F.PCIE_VF_APER_APER (fn - 1)))))
      ∧ (∀ b, s.barPlace x fn o = .aper b → 0 < b → b + len ≤ 4 → t = s.emit (.completion x fn tag false (some 0)))
      ∧ (∀ cls m a, s.barPlace x fn o = .haul cls m a → s.ftagFree x ht = true → s.localStatus m a len = none →
        (t.ftag x ht).busy = true))
  ∧ (∀ (s : State) (x fn o : Nat) (data : List Byte) (ht : Nat), s.barOpen x fn = true → data ≠ [] →
    s.floorReset = 0 →
    ∃ t, exec (.pcieBarWrite x fn o data ht) s = .next t
      ∧ (∀ b, s.barPlace x fn o = .msix b → t = s.msixBytes x fn b data)
      ∧ (s.barPlace x fn o = .none → t = s)
      ∧ (s.barPlace x fn o = .aper 0 → t.get F.PCIE_VF_APER_APER (fn - 1) = leNat data % 2)
      ∧ (∀ b, s.barPlace x fn o = .aper b → 0 < b → t = s)
      ∧ (∀ cls m a, s.barPlace x fn o = .haul cls m a → s.ftagFree x ht = true → s.localStatus m a data.length = none →
        (t.ftag x ht).busy = true))
  ∧ (∀ (s : State) (x hdr : Nat) (flits : List (Nat × Bool)) (r : BarReq), x < 2 → s.powered (dPcie x) = true →
    s.floorReset = 0 →
    (s.pcie.bars.find? fun q => q.port == x && q.ht == hTag hdr % 2 ^ 9 && q.inj.isSome) = some r →
    (s.ftag x (hTag hdr % 2 ^ 9)).gen = hTag hdr / 2 ^ 9 → rspSound hdr flits = true →
    ∃ t, exec (.barHaulResponse x hdr flits) s = .next t
      ∧ (t.ftag x (hTag hdr % 2 ^ 9)).busy = false
      ∧ (rspStatus hdr flits = stOk → r.write = false → r.discard = false →
        .completion x r.fn r.tag false (some (((s.barSide r).barContent r).getD (rangeOfFlits r.addr r.len flits))) ∈ t.out)
      ∧ (rspStatus hdr flits = stOk → r.write = true → t = (s.barStore r).barClose r))
  ∧ (∀ (s : State) (src : Src) (half : Nat) (v : Word), half < 2 →
    s.mayWrite src (if half = 0 then .PCIE_VF_MAP_LO else .PCIE_VF_MAP_HI) 0 = true →
    ∃ t, exec (.vfMapWrite src half v) s = .next t
      ∧ (((upTo 32).all fun i => bitOf (s.get (if half = 0 then F.PCIE_VF_MAP_LO_MAP_LO else F.PCIE_VF_MAP_HI_MAP_HI) 0) i
          == bitOf v.toNat i || !s.vfBusy (32 * half + i)) = true →
        t.get (if half = 0 then F.PCIE_VF_MAP_LO_MAP_LO else F.PCIE_VF_MAP_HI_MAP_HI) 0 = v.toNat)
      ∧ (((upTo 32).all fun i => bitOf (s.get (if half = 0 then F.PCIE_VF_MAP_LO_MAP_LO else F.PCIE_VF_MAP_HI_MAP_HI) 0) i
          == bitOf v.toNat i || !s.vfBusy (32 * half + i)) = false → t.flag F.PCIE_DEV_CTL_MAP_ERR 0 = true))
  ∧ (∀ (s : State) (x fn vec : Nat), x < 2 → s.portLive x = true →
    fn = 0 ∨ (fn < 65 ∧ s.hasFn x fn = true ∧ s.vfPort (fn - 1) = x) → vec < vecCount fn →
    ∃ t, exec (.msixUnmask x fn vec) s = .next t
      ∧ (t.msixEntry x fn vec).mask = false)

/-- The copy rings of the PCIe ports: enable, producer, fetch, pieces and write-back. (R425, R426, R427, R428,
R433, 13_host_ports.md) -/
def Obligations.CopyRings : Prop :=
  (∀ (s : State) (src : Src) (x : Nat) (v : Word), s.mayWrite src .PCIE_DMA_CTL x = true →
    fldOf F.PCIE_DMA_CTL_EN v = 1 →
    ∃ t, exec (.dmaRingEnable src x v) s = .next t
      ∧ t.flag F.PCIE_DMA_CTL_EN x = true
      ∧ (s.flag F.PCIE_DMA_CTL_EN x = false → t.get F.PCIE_DMA_PROD_PROD x = 0 ∧ t.get F.PCIE_DMA_CONS_CONS x = 0
        ∧ t.get F.PCIE_DMA_CTL_SIZE_EXP x = clampNat 4 16 (fldOf F.PCIE_DMA_CTL_SIZE_EXP v) ∧ (t.dmaEng x).fetchIdx = 0))
  ∧ (∀ (s : State) (src : Src) (x : Nat) (v : Word), s.mayWrite src .PCIE_DMA_CTL x = true →
    fldOf F.PCIE_DMA_CTL_EN v = 0 →
    ∃ t, exec (.dmaRingDisable src x v) s = .next t
      ∧ t.flag F.PCIE_DMA_CTL_EN x = false)
  ∧ (∀ (s : State) (src : Src) (x : Nat) (v : Word), s.mayWrite src .PCIE_DMA_PROD x = true →
    ∃ t, exec (.dmaProdWrite src x v) s = .next t
      ∧ (fldOf F.PCIE_DMA_PROD_PROD v < s.dmaRingSize x →
          ¬(fldOf F.PCIE_DMA_PROD_PROD v = s.get F.PCIE_DMA_CONS_CONS x
            ∧ s.get F.PCIE_DMA_PROD_PROD x ≠ s.get F.PCIE_DMA_CONS_CONS x) →
        t.get F.PCIE_DMA_PROD_PROD x = fldOf F.PCIE_DMA_PROD_PROD v)
      ∧ (s.dmaRingSize x ≤ fldOf F.PCIE_DMA_PROD_PROD v → t.flag F.PCIE_DMA_CTL_PROD_ERR x = true
        ∧ t.get F.PCIE_DMA_PROD_PROD x = s.get F.PCIE_DMA_PROD_PROD x))
  ∧ (∀ (s : State) (x : Nat) (word : Option Nat), x < 2 → s.portLive x = true → s.floorReset = 0 →
    s.flag F.PCIE_DMA_CTL_EN x = true → (s.dmaEng x).descs.length < 8 →
    (s.dmaEng x).fetchIdx ≠ s.get F.PCIE_DMA_PROD_PROD x →
    ∃ t, exec (.dmaDescFetch x word) s = .next t
      ∧ (word ≠ none → (t.dmaEng x).descs.length = (s.dmaEng x).descs.length + 1
        ∧ (t.dmaEng x).fetchIdx = ((s.dmaEng x).fetchIdx + 1) % s.dmaRingSize x)
      ∧ (word = none → t.flag F.PCIE_DMA_CTL_EN x = false ∧ t.flag F.PCIE_DMA_CTL_FETCH_ERR x = true))
  ∧ (∀ (s : State) (x j i a n : Nat) (host : Option (List Byte)) (d : DmaDesc) (rest : List (Nat × Nat)), x < 2 →
    s.powered (dPcie x) = true → s.floorReset = 0 → (s.dmaEng x).descs[j]? = some d →
    d.todo = (a, n) :: rest → s.ftagFree (engOf x) i = true → s.floorHolds x = false →
    s.floorRoom (engOf x) (!dsToHost d.word) a n = true → s.injReady (pcieId x) clsReq = true →
    s.descTurn x j d = true → s.localStatus false a n = none → dsToHost d.word = true ∨ host ≠ none →
    ∃ t, exec (.dmaPieceComplete x (.issue j i host)) s = .next t
      ∧ (t.ftag (engOf x) i).busy = true ∧ ((t.dmaEng x).descs[j]?.map fun y => y.todo) = some rest)
  ∧ (∀ (s : State) (x hdr j : Nat) (flits : List (Nat × Bool)) (d : DmaDesc) (p : DmaPiece), x < 2 →
    s.powered (dPcie x) = true → s.floorReset = 0 → rspSound hdr flits = true →
    s.pieceOf x (hTag hdr % 2 ^ 9) = some (j, d, p) →
    (s.ftag (engOf x) (hTag hdr % 2 ^ 9)).gen = hTag hdr / 2 ^ 9 →
    ∃ t, exec (.dmaPieceComplete x (.answer hdr flits)) s = .next t
      ∧ (t.ftag (engOf x) (hTag hdr % 2 ^ 9)).busy = false)
  ∧ (∀ (s : State) (x : Nat) (d : DmaDesc) (rest : List DmaDesc), x < 2 → s.floorReset = 0 →
    (s.dmaEng x).descs = d :: rest → d.whole = true →
    ∃ t, exec (.dmaWriteback x) s = .next t
      ∧ (t.dmaEng x).descs = rest
      ∧ t.get F.PCIE_DMA_CONS_CONS x = (s.get F.PCIE_DMA_CONS_CONS x + 1) % s.dmaRingSize x % 2 ^ 16
      ∧ t.out.length = s.out.length + 1)

/-- Bore groups: changeovers, the acquisition search, evaluations, trims written by the host, and bore tests.
(R29, R30, R31, R32, R33, R36, R371, R374, 01_stack_and_columns.md) -/
def Obligations.BoreTrims : Prop :=
  (∀ (s : State) (g : Nat), gidValid g = true → (s.group g).acqDone = true → (s.group g).paused = false →
    s.groupHeld g = false →
    ∃ t, exec (.trimChangeover g) s = .next t
      ∧ (t.group g).eff = (if (s.group g).eff < s.trimTarget g (s.group g) then (s.group g).eff + 1
        else if s.trimTarget g (s.group g) < (s.group g).eff then (s.group g).eff - 1 else (s.group g).eff)
      ∧ (t.group g).bg = (s.group g).bg ∧ (t.group g).ofs = (s.group g).ofs)
  ∧ (∀ (s : State) (g bit : Nat), gidValid g = true → (s.group g).acqDone = false → (s.group g).acqStep < 8 →
    s.groupHeld g = false →
    ∃ t, exec (.trimAcqStep g bit) s = .next t
      ∧ (t.group g).acqStep = (s.group g).acqStep + 1
      ∧ (t.group g).acqCode = (s.group g).acqCode + bit % 2 * 2 ^ (7 - (s.group g).acqStep)
      ∧ (t.group g).acqDone = decide ((s.group g).acqStep = 7))
  ∧ (∀ (s : State) (g : Nat) (bins : List Nat), gidValid g = true → (s.group g).acqDone = true →
    (s.group g).evalRun = true → (s.group g).paused = false → s.get F.CAL_BORE_CTL_CAL_EN (gidCol g) ≠ 0 →
    s.groupHeld g = false →
    ∃ t, exec (.calEvaluationEnd g bins) s = .next t
      ∧ (t.group g).calHold = decide ((bins.take 16).foldl (· + ·) 0 < max 1 (s.get F.CAL_BORE_CTL_MIN_TRANS (gidCol g)) * 256)
      ∧ (t.group g).transK = min 255 ((bins.take 16).foldl (· + ·) 0 / 256)
      ∧ (t.group g).ofs = (s.group g).ofs)
  ∧ (∀ (s : State) (g : Nat), gidValid g = true → (s.group g).evalWait = true → (s.group g).paused = false →
    (s.group g).waitAt + 1000 ≤ s.time →
    ∃ t, exec (.evalRestartAfterPause g) s = .next t
      ∧ (t.group g).evalWait = false ∧ (t.group g).evalRun = true)
  ∧ (∀ (s : State) (src : Src) (v : Word), s.mayWrite src .CAL_BORE_TRIM 0 = true →
    gidValid (s.get F.CAL_BORE_SEL_GROUP_ID (selCopy src)) = true →
    ∃ t, exec (.calBoreTrimWrite src v) s = .next t
      ∧ (t.group (s.get F.CAL_BORE_SEL_GROUP_ID (selCopy src))).ofs = bitsOf v.toNat 8 8
      ∧ (t.group (s.get F.CAL_BORE_SEL_GROUP_ID (selCopy src))).bg = bitsOf v.toNat 16 8)
  ∧ (∀ (s : State) (g : Nat), s.groupRuns g = true → (idleSpare (s.group g)).isSome = true →
    (s.group g).test = none → (s.group g).paused = false →
    (s.group g).round = none ∨ ∃ at_ ∈ (s.group g).round, at_ + 100000000 ≤ s.time →
    ∃ t, exec (.boreTestRound g) s = .next t
      ∧ (t.group g).test = some (0, false) ∧ (t.group g).round = some s.time)
  ∧ (∀ (s : State) (g i : Nat) (mismatch again : Bool), s.groupRuns g = true →
    (s.group g).test = some (i, again) →
    ∃ t, exec (.boreTestEnd g mismatch) s = .next t
      ∧ (mismatch = true → again = false → (t.group g).test = some (i, true))
      ∧ (mismatch = false → (t.group g).test = nextTest i)
      ∧ (mismatch = true → again = true → t = (s.setGroup g { s.group g with test := nextTest i }).hardBore g i))
  ∧ (∀ (s : State) (g : Nat), gidValid g = true → (s.group g).paused = true →
    s.floorReset ≤ 1 ∨ s.groupHeld g = false →
    ∃ t, exec (.groupResume g) s = .next t
      ∧ (t.group g).paused = false)
  ∧ (∀ (s : State) (g n : Nat), n < 4 → s.groupRuns g = true → spareIdle (spareByte (s.group g) n) = true →
    n < (s.group g).spares.length →
    ∃ t, exec (.idleSpareMismatch g n) s = .next t
      ∧ spareFailed (spareByte (t.group g) n) = true ∧ spareInUse (spareByte (t.group g) n) = false)

/-- Fabric clock edges, asynchronous resets, image events, state initialisation and delay monitors. (R47, R48,
R50, R72, R73, R153, R171, 02_setts_and_routing.md, 17_thermal_and_telemetry.md) -/
def Obligations.FabricAndMonitors : Prop :=
  (∀ (s : State) (b clk p : Nat) (late : List (Nat × Nat × Nat)), s.activePlane b = some p →
    s.edgeActs b clk = true →
    ∃ t, exec (.fabricClockEdge [(b, clk)] late) s = .next t
      ∧ (∀ j, j < 256 → t.planeFrame b p (ffRun + j) = s.ffFrame s b p clk j
        ((late.filter fun x => x.1 == b).map fun x => x.2) % 2 ^ 512)
      ∧ t.freeCtr = s.freeCtr + 1)
  ∧ (∀ (s : State) (b sx sy g p : Nat), s.benchUp b = true → s.activePlane b = some p →
    ∃ t, exec (.asyncResetAssert b sx sy g) s = .next t
      ∧ (∀ i, i < 16 → bitOf (s.ctlWord b p sx sy g) 27 = 1 → s.groupReset b p sx sy g = true →
        t.runBit b p ffRun (128 * (32 * sx + sy) + 16 * g + i) = b2n (s.srval b p sx sy (16 * g + i)))
      ∧ (s.groupReset b p sx sy g = false → t = s))
  ∧ (∀ (s : State) (b p : Nat), s.benchUp b = true → s.activePlane b = some p →
    ∃ t, exec (.imageEvent b) s = .next t
      ∧ mapGet (fun _ => 0) t.planes.imgPrev b = s.imgSample b
      ∧ (bitOf (s.imgSample b) 0 = 1 → bitOf (mapGet (fun _ => 0) s.planes.imgPrev b) 0 = 0 →
        s.collector.inFlight.length < t.collector.inFlight.length))
  ∧ (∀ (s : State) (b : Nat), mapGet (fun _ => false) s.planes.initing b = true →
    ∃ t, exec (.stateInitDone b) s = .next t
      ∧ mapGet (fun _ => false) t.planes.initing b = false
      ∧ (∀ p, p < 8 → s.planeSt b p = psReady → ∀ j, j < 256 → t.planeFrame b p (abRun + j) = 0))
  ∧ (∀ (s : State) (b : Nat) (ps : List Nat), b < 64 → s.benchUp b = true →
    ∃ t, exec (.dlymonMeasure b ps) s = .next t
      ∧ (∀ sx d, sx < 33 → ps[sx]? = some d → (s.monitor b sx).hold = false →
        (t.monitor b sx).ps = d % 4096 ∧ (t.monitor b sx).valid = true ∧ (t.monitor b sx).stale = false)
      ∧ (∀ sx, sx < 33 → (s.monitor b sx).hold = true → sx < ps.length → (t.monitor b sx).hold = false
        ∧ (t.monitor b sx).ps = (s.monitor b sx).ps))
  ∧ (∀ (s : State) (b sx : Nat), b < 64 → sx < 33 → s.benchUp b = true →
    ∃ t, exec (.dlymonConverterRotate b sx) s = .next t
      ∧ (t.monitor b sx).stale = true ∧ (t.monitor b sx).hold = true
      ∧ mapGet (fun k => k % 64) t.repair.convs (monKey b sx) = mapGet (fun _ => 33) s.repair.convOut b
      ∧ mapGet (fun _ => 33) t.repair.convOut b = mapGet (fun k => k % 64) s.repair.convs (monKey b sx))

/-- Fabric clock edges of any benches: what every edge leaves, and how generated edges are numbered. (R50, R191,
R285, R377, R674, 02_setts_and_routing.md, 05_hot_planes_and_switching.md) -/
def Obligations.FabricEdges : Prop :=
  (∀ (s : State) (edges : List (Nat × Nat)) (late : List (Nat × Nat × Nat)),
    ∃ t, exec (.fabricClockEdge edges late) s = .next t
      ∧ t.freeCtr = s.freeCtr + 1 ∧ t.memt = s.memt ∧ t.haul = s.haul ∧ t.slots = s.slots
      ∧ (∀ b p j, b < 64 → p < 8 → j < slotFrames → (∀ x ∈ edges, x.1 = b → s.edgeActs b x.2 = false) →
        t.planeFrame b p j = s.planeFrame b p j))
  ∧ (∀ (s : State) (b clk : Nat) (late : List (Nat × Nat × Nat)), s.clkRuns b clk = true →
    ∃ t, exec (.fabricClockEdge [(b, clk)] late) s = .next t
      ∧ mapGet (fun _ => 0) t.clocks.edgeNo (4 * b + clk) = (mapGet (fun _ => 0) s.clocks.edgeNo (4 * b + clk) + 1) % 16
      ∧ mapGet (fun _ => 0) t.planes.foldEdges b = mapGet (fun _ => 0) s.planes.foldEdges b - (if clk = 0 then 1 else 0))
  ∧ (∀ (s : State) (b clk : Nat) (late : List (Nat × Nat × Nat)), s.clkRuns b clk = false →
    ∃ t, exec (.fabricClockEdge [(b, clk)] late) s = .next t
      ∧ t = { s with freeCtr := s.freeCtr + 1 })

/-- Asynchronous resets, image events and state initialisation in every state. (R50, R153, R171,
02_setts_and_routing.md, 05_hot_planes_and_switching.md) -/
def Obligations.BenchStateEvents : Prop :=
  (∀ (s : State) (b sx sy g : Nat),
    ∃ t, exec (.asyncResetAssert b sx sy g) s = .next t
      ∧ t.regs = s.regs ∧ t.collector = s.collector ∧ (s.benchUp b = false ∨ s.activePlane b = none → t = s)
      ∧ (∀ c p j, b < 64 → c < 64 → c ≠ b → p < 8 → j < slotFrames → sx < 32 → sy < 32 → g < 8 →
        t.planeFrame c p j = s.planeFrame c p j))
  ∧ (∀ (s : State) (b : Nat),
    ∃ t, exec (.imageEvent b) s = .next t
      ∧ (s.benchUp b = true → (s.activePlane b).isSome = true → t.collector.inFlight = s.collector.inFlight
        ++ (if bitOf (s.imgSample b) 0 = 1 ∧ bitOf (mapGet (fun _ => 0) s.planes.imgPrev b) 0 = 0 then
          [⟨b, 0, s.time, s.get F.BENCH_PLANE_STAT_ACTIVE b, s.flag F.BENCH_PLANE_STAT_ONLINE b⟩] else [])
        ++ (if bitOf (s.imgSample b) 1 = 1 ∧ bitOf (mapGet (fun _ => 0) s.planes.imgPrev b) 1 = 0 then
          [⟨b, 1, s.time, s.get F.BENCH_PLANE_STAT_ACTIVE b, s.flag F.BENCH_PLANE_STAT_ONLINE b⟩] else []))
      ∧ (s.benchUp b = false ∨ s.activePlane b = none → t = s) ∧ t.regs = s.regs)
  ∧ (∀ (s : State) (b : Nat),
    ∃ t, exec (.stateInitDone b) s = .next t
      ∧ (∀ p j, mapGet (fun _ => false) s.planes.initing b = true → p < 8 → s.planeSt b p = psReady → j < 256 →
        t.planeFrame b p (ffRun + j) = s.initFrame b p j % 2 ^ 512)
      ∧ (mapGet (fun _ => false) s.planes.initing b = false → t = s) ∧ t.regs = s.regs)

/-- Delay monitors: a measurement and a change of converter, and what they leave. (R72, R73,
02_setts_and_routing.md) -/
def Obligations.DelayMonitorReadings : Prop :=
  (∀ (s : State) (b : Nat) (ps : List Nat),
    ∃ t, exec (.dlymonMeasure b ps) s = .next t
      ∧ (s.benchUp b = false → t = s) ∧ (∀ c sx, c < 64 → c ≠ b → sx < 33 → t.monitor c sx = s.monitor c sx)
      ∧ t.repair.convs = s.repair.convs ∧ t.repair.convOut = s.repair.convOut)
  ∧ (∀ (s : State) (b sx : Nat), b < 64 → sx < 33 → s.benchUp b = true →
    ∃ t, exec (.dlymonConverterRotate b sx) s = .next t
      ∧ (t.monitor b sx).ps = (s.monitor b sx).ps ∧ (t.monitor b sx).derate = (s.monitor b sx).derate
      ∧ (t.monitor b sx).valid = (s.monitor b sx).valid
      ∧ (∀ x, x < 33 → x ≠ sx → t.monitor b x = s.monitor b x ∧ mapGet (fun k => k % 64) t.repair.convs (monKey b x)
        = mapGet (fun k => k % 64) s.repair.convs (monKey b x)))
  ∧ (∀ (s : State) (b sx : Nat), s.benchUp b = false →
    ∃ t, exec (.dlymonConverterRotate b sx) s = .next t
      ∧ t = s)

/-- Memory words: port and haul accesses, write-backs, patrol, retirement, bulk invalidate and flip mask. (R86,
R91, R93, R94, R97, R100, R102, R103, R105, R112, R114, 03_memory_tier.md) -/
def Obligations.MemoryTier : Prop :=
  (∀ (s : State) (b n p u : Nat), s.activePlane b = some p → n < 1024 → s.powered (dMem (benchCol b)) = true →
    s.benchUp b = true → s.portEnabled b p n 0 = true → bitsOf (s.binding b p n 0) 7 2 = 2 →
    (s.blk b (s.physOf b n)).wbA = [] → ubEn u = true → s.insideFence b p n = true →
    s.blockHeld b n = false → ubWe u = true → bitsOf (ubBe u) 0 8 = 255 →
    ∃ t, exec (.portAccess b n (.bundle u) .noEdge []) s = .next t
      ∧ t.memWord b (s.physOf b n) (ubAddr u % 2 ^ 13)
        = some (Nat.xor (eccEncode (bitsOf u 34 64)) (s.blk b (s.physOf b n)).mask)
      ∧ (t.blk b (s.physOf b n)).mask = 0)
  ∧ (∀ (s : State) (b n p u cw : Nat), s.activePlane b = some p → n < 1024 →
    s.powered (dMem (benchCol b)) = true → s.benchUp b = true → s.portEnabled b p n 0 = true →
    bitsOf (s.binding b p n 0) 7 2 = 2 → (s.blk b (s.physOf b n)).wbA = [] → ubEn u = true →
    s.insideFence b p n = true → s.blockHeld b n = false → ubWe u = false →
    s.memWord b (s.physOf b n) (ubAddr u % 2 ^ 13) = some cw → (eccDecode cw).kind = .clean →
    ∃ t, exec (.portAccess b n (.bundle u) .noEdge []) s = .next t
      ∧ (t.blk b (s.physOf b n)).pipeA.head? = some (downBundle 2 (eccDecode cw).data false false false)
      ∧ t.memt.words = s.memt.words)
  ∧ (∀ (s : State) (b n q0 q1 q2 : Nat) (fl : List (Nat × Bool)) (r : MemReq), b < 64 → n < 1024 →
    s.floorReset = 0 → s.powered (dMem (benchCol b)) = true → s.blockHeld b n = false →
    s.memTurn b n = some r → wbFirst (s.blk b (s.physOf b n)) (s.haulPort b n) false = false →
    hOp r.hdr ≠ opRead → rangeBe (hAddr r.hdr) (hLen r.hdr) r.done = 255 →
    (r.flits.getD ((hAddr r.hdr / 8 + r.done) / 8 - hAddr r.hdr / 64) (0, false)).2 = false →
    ∃ t, exec (.haulMemoryAccess b n false q0 q1 q2 fl false []) s = .next t
      ∧ t.memWord b (s.physOf b n) r.place.2.1 = some (Nat.xor (eccEncode (bitsOf
        (r.flits.getD ((hAddr r.hdr / 8 + r.done) / 8 - hAddr r.hdr / 64) (0, false)).1
        (64 * ((hAddr r.hdr / 8 + r.done) % 8)) 64)) (s.blk b (s.physOf b n)).mask)
      ∧ (t.blk b (s.physOf b n)).mask = 0
      ∧ (dataItems (hAddr r.hdr) (hLen r.hdr) ≤ r.done + 1 → t.memReqs b = (s.memReqs b).erase r))
  ∧ (∀ (s : State) (b n q0 q1 q2 : Nat) (fl : List (Nat × Bool)) (r : MemReq), b < 64 → n < 1024 →
    s.floorReset = 0 → s.powered (dMem (benchCol b)) = true → s.blockHeld b n = false →
    s.memTurn b n = some r → wbFirst (s.blk b (s.physOf b n)) (s.haulPort b n) false = false →
    hOp r.hdr = opRead → r.done + 1 < dataItems (hAddr r.hdr) (hLen r.hdr) →
    ∃ t, exec (.haulMemoryAccess b n false q0 q1 q2 fl false []) s = .next t
      ∧ (s.memWord b (s.physOf b n) r.place.2.1 = none →
        ({ r with done := r.done + 1, items := r.items ++ [0] } : MemReq) ∈ t.memReqs b)
      ∧ (∀ cw, s.memWord b (s.physOf b n) r.place.2.1 = some cw → (eccDecode cw).kind = .clean →
        ({ r with done := r.done + 1, items := r.items ++ [(eccDecode cw).data] } : MemReq) ∈ t.memReqs b)
      ∧ t.memt.words = s.memt.words)
  ∧ (∀ (s : State) (b n q0 q1 q2 hd : Nat) (fl : List (Nat × Bool)) (fabEn : Bool) (off offEnd : Nat),
    hd = headerOf q0 q1 q2 → b < 64 → s.floorReset = 0 → s.powered (dMem (benchCol b)) = true →
    s.blockHeld b n = true → opMatchesClass (hOp hd) (hClass hd) = true → hClass hd ≠ clsRsp →
    s.haulTarget (hAddr hd) = .mem b off → s.haulTarget (hAddr hd + hLen hd) = .mem b offEnd →
    packetFlits (hOp hd) (hAddr hd) (hLen hd) 0 ≤ fl.length →
    ∃ t, exec (.haulMemoryAccess b n true q0 q1 q2 fl fabEn []) s = .next t
      ∧ t.memReqs b = s.memReqs b ++ [{ hdr := hd, flits := fl }] ∧ t.memt.words = s.memt.words)
  ∧ (∀ (s : State) (b n port wd d : Nat) (i : WbItem), n < 1024 → s.powered (dMem (benchCol b)) = true →
    dueWb (ageWb (s.blk b (s.physOf b n)) port) port false = some i → i.words = [(wd, d)] →
    ∃ t, exec (.correctionWriteBack b n port) s = .next t
      ∧ t.memWord b (s.physOf b n) wd = some (eccEncode d))
  ∧ (∀ (s : State) (b : Nat), s.flag F.MEMT_PATROL_CTL_EN 0 = true → s.powered (dMem (benchCol b)) = true →
    s.patrolDue b 0 = true → s.patrolTurn b (s.patrolBlock b) = true →
    ∃ t, exec (.patrolStep b []) s = .next t
      ∧ mapGet (fun _ => 0) t.memt.patrol b = (mapGet (fun _ => 0) s.memt.patrol b + 1) % (1024 * 8192)
      ∧ t.get F.MEMT_PATROL_STAT_BLOCK b = (mapGet (fun _ => 0) s.memt.patrol b + 1) % (1024 * 8192) / 8192)
  ∧ (∀ (s : State) (b : Nat), s.flag F.MEMT_PATROL_CTL_EN 0 = true → s.powered (dMem (benchCol b)) = true →
    s.patrolDue b 1000000 = true →
    ∃ t, exec (.patrolForcedCycle b []) s = .next t
      ∧ mapGet (fun _ => 0) t.memt.patrol b = (mapGet (fun _ => 0) s.memt.patrol b + 1) % (1024 * 8192)
      ∧ (s.sharedPortOn b (s.patrolBlock b) = true → (t.blk b (s.physOf b (s.patrolBlock b))).stolen = true))
  ∧ (∀ (s : State) (b n : Nat), (s.blk b n).copying = true →
    ∃ t, exec (.blockRetireDone b n) s = .next t
      ∧ t.spareOf b (n / 64) = some n ∧ t.physOf b n = 1024 + n / 64 ∧ (t.blk b n).copying = false)
  ∧ (∀ (s : State) (src : Src) (v : Word), s.mayWrite src .MEMT_INV s.memtBench = true →
    fldOf F.MEMT_INV_START v = 1 →
    ∃ t, exec (.memtInvStart src v) s = .next t
      ∧ (s.flag F.MEMT_INV_ACTIVE s.memtBench = false → fldOf F.MEMT_INV_FIRST v + fldOf F.MEMT_INV_COUNT_M1 v ≤ 1023 →
        t.flag F.MEMT_INV_ACTIVE s.memtBench = true ∧ mapGet (fun _ => none) t.memt.inv s.memtBench
          = some (fldOf F.MEMT_INV_FIRST v, fldOf F.MEMT_INV_COUNT_M1 v))
      ∧ (s.flag F.MEMT_INV_ACTIVE s.memtBench = true → t.flag F.MEMT_INV_BUSY_ERR s.memtBench = true ∧ t.memt = s.memt)
      ∧ (1023 < fldOf F.MEMT_INV_FIRST v + fldOf F.MEMT_INV_COUNT_M1 v →
        t.flag F.MEMT_INV_RANGE_ERR s.memtBench = true ∧ t.memt = s.memt))
  ∧ (∀ (s : State) (b first m1 : Nat),
    (mapGet (fun _ => none) s.memt.inv b : Option (Nat × Nat)) = some (first, m1) →
    ∃ t, exec (.bulkInvalidateDone b) s = .next t
      ∧ t.flag F.MEMT_INV_ACTIVE b = false
      ∧ (∀ n wd, first ≤ n → n ≤ first + m1 → n < 1024 → t.arrayWord b n wd = none)
      ∧ (∀ n, n < 1024 → (n < first ∨ first + m1 < n) → ∀ wd, t.arrayWord b n wd = s.arrayWord b n wd))
  ∧ (∀ (s : State) (src : Src) (v : Word), s.mayWrite src .MEMT_FLIP_2 0 = true → fldOf F.MEMT_FLIP_2_ARM v = 1 →
    s.get F.MEMT_SEL_BLOCK 0 < 1040 → fldOf F.MEMT_FLIP_2_MASK_HI v ≠ 0 →
    ∃ t, exec (.memtFlipArm src v) s = .next t
      ∧ (t.blk s.memtBench (s.get F.MEMT_SEL_BLOCK 0)).mask = s.get F.MEMT_FLIP_0_MASK_LO 0
        + s.get F.MEMT_FLIP_1_MASK_MID 0 * 2 ^ 32 + fldOf F.MEMT_FLIP_2_MASK_HI v * 2 ^ 64)

/-- Hoppers: writes, packets, reads, pointers, configuration, owner, flush and tail timeout. (R126, R127, R129,
R131, R134, R135, R136, R137, R139, 04_hoppers.md) -/
def Obligations.Hoppers : Prop :=
  (∀ (s : State) (b k data : Nat) (sop eop : Bool), b < 64 → k < 32 → s.benchUp b = true →
    s.hopSlave (32 * b + k) = false → s.get F.HOP_CFG_WR_SRC (32 * b + k) < 4 →
    s.hopFabric (32 * b + k) = some true → s.flag F.HOP_CFG_PKT (32 * b + k) = false →
    (s.hop (32 * b + k)).flushW = false → (s.hop (32 * b + k)).discard = false →
    ∃ t, exec (.hopperWrite b k data sop eop) s = .next t
      ∧ (wcount (s.hop (32 * b + k)) < s.hopCap (32 * b + k) →
        (t.hop (32 * b + k)).slots = (s.hop (32 * b + k)).slots ++ [.data (data % 2 ^ s.hopWidth (32 * b + k))]
        ∧ (t.hop (32 * b + k)).wr = (s.hop (32 * b + k)).wr + 1 ∧ (t.hop (32 * b + k)).pub = (t.hop (32 * b + k)).wr)
      ∧ (s.hopCap (32 * b + k) ≤ wcount (s.hop (32 * b + k)) → s.flag F.HOP_CFG_WR_RAW (32 * b + k) = true →
        t.hop (32 * b + k) = s.hop (32 * b + k) ∧ t.flag F.HOP_EVT_OVF (32 * b + k) = true
        ∧ t.get F.HOP_ERRCNT_DROP_CNT (32 * b + k) = min 65535 (s.get F.HOP_ERRCNT_DROP_CNT (32 * b + k) + 1)))
  ∧ (∀ (s : State) (b k data : Nat) (sop : Bool), b < 64 → k < 32 → s.benchUp b = true →
    s.hopSlave (32 * b + k) = false → s.get F.HOP_CFG_WR_SRC (32 * b + k) < 4 →
    s.hopFabric (32 * b + k) = some true → s.flag F.HOP_CFG_PKT (32 * b + k) = true →
    (s.hop (32 * b + k)).flushW = false → (s.hop (32 * b + k)).discard = false →
    (s.hop (32 * b + k)).wopen = none → wcount (s.hop (32 * b + k)) + 2 ≤ s.hopCap (32 * b + k) →
    ∃ t, exec (.hopperWrite b k data sop true) s = .next t
      ∧ (t.hop (32 * b + k)).slots
        = (s.hop (32 * b + k)).slots ++ [.length false 1, .data (data % 2 ^ s.hopWidth (32 * b + k))]
      ∧ (t.hop (32 * b + k)).wopen = none ∧ (t.hop (32 * b + k)).pub = (s.hop (32 * b + k)).wr + 2)
  ∧ (∀ (s : State) (b k x : Nat) (rest : List HopSlot), b < 64 → k < 32 → s.benchUp b = true →
    s.hopSlave (32 * b + k) = false → s.get F.HOP_CFG_RD_SRC (32 * b + k) < 4 →
    s.hopFabric (32 * b + k) = some true → (s.hop (32 * b + k)).flushR = false →
    (s.hop (32 * b + k)).cutEnd = false → rcount (s.hop (32 * b + k)) ≠ 0 →
    (s.hop (32 * b + k)).slots = .data x :: rest →
    ∃ t, exec (.hopperRead b k) s = .next t
      ∧ t.out = .hopItem b k 0 x :: s.out ∧ (t.hop (32 * b + k)).slots = rest
      ∧ (t.hop (32 * b + k)).rd = (s.hop (32 * b + k)).rd + 1)
  ∧ (∀ (s : State) (b k : Nat), b < 64 → k < 32 → s.benchUp b = true → s.hopSlave (32 * b + k) = false →
    s.get F.HOP_CFG_RD_SRC (32 * b + k) < 4 → s.hopFabric (32 * b + k) = some false →
    (s.hop (32 * b + k)).fenced = false →
    ∃ t, exec (.hopperRead b k) s = .next t
      ∧ t.flag F.HOP_EVT_FENCE (32 * b + k) = true ∧ (t.hop (32 * b + k)).fenced = true
      ∧ (s.flag F.HOP_CFG_RD_RAW (32 * b + k) = false → t.out = s.out)
      ∧ (s.flag F.HOP_CFG_RD_RAW (32 * b + k) = true → t.out = .hopIdle b k (s.idleItem (32 * b + k)) :: s.out))
  ∧ (∀ (s : State) (b k p : Nat) (rest : List Nat), b < 64 → k < 32 → s.benchUp b = true →
    (s.hop (32 * b + k)).pubFly = p :: rest → (s.hop (32 * b + k)).flushP = false →
    ∃ t, exec (.hopperPointerSync b k true) s = .next t
      ∧ (t.hop (32 * b + k)).pubSeen = p ∧ (t.hop (32 * b + k)).pubFly = rest)
  ∧ (∀ (s : State) (src : Src) (b k : Nat) (v : Word), k < 32 → s.mayWrite src .HOP_CFG (32 * b + k) = true →
    ∃ t, exec (.hopCfgWrite src b k v) s = .next t
      ∧ (s.hopCfgRefused b v = true → t.flag F.HOP_STAT_CFG_ERR (32 * b + k) = true
        ∧ t.reg .HOP_CFG (32 * b + k) = s.reg .HOP_CFG (32 * b + k))
      ∧ (s.hopCfgRefused b v = false → t.get F.HOP_CFG_DEPTH (32 * b + k) = min 8 (fldOf F.HOP_CFG_DEPTH v)
        ∧ t.get F.HOP_CFG_WR_SRC (32 * b + k) = fldOf F.HOP_CFG_WR_SRC v
        ∧ t.get F.HOP_CFG_RD_SRC (32 * b + k) = fldOf F.HOP_CFG_RD_SRC v)
      ∧ (t.reg .HOP_CFG (32 * b + k) ≠ s.reg .HOP_CFG (32 * b + k) → s.hopSlave (32 * b + k) = false → (flushAtW (t.hop (32 * b + k))).slots = []
        ∧ rcount (flushAtR (t.hop (32 * b + k))) = 0 ∧ flushBusy (t.hop (32 * b + k)) = true))
  ∧ (∀ (s : State) (src : Src) (b k : Nat) (v : Word), k < 32 → s.mayWrite src .HOP_CTL (32 * b + k) = true →
    fldOf F.HOP_CTL_FLUSH v = 1 → s.hopSlave (32 * b + k) = false →
    ∃ t, exec (.hopperFlush src b k v) s = .next t
      ∧ flushBusy (t.hop (32 * b + k)) = true ∧ (t.hop (32 * b + k)).slots = (s.hop (32 * b + k)).slots)
  ∧ (∀ (s : State) (b k : Nat) (readSide : Bool), b < 64 → k < 32 → s.benchUp b = true →
    ∃ t, exec (.hopperFlushApply b k readSide) s = .next t
      ∧ (readSide = true → (t.hop (32 * b + k)).flushR = false
        ∧ ((s.hop (32 * b + k)).flushR = true → rcount (t.hop (32 * b + k)) = 0))
      ∧ (readSide = false → (t.hop (32 * b + k)).flushW = false
        ∧ ((s.hop (32 * b + k)).flushW = true → (t.hop (32 * b + k)).slots = [] ∧ wcount (t.hop (32 * b + k)) = 0)))
  ∧ (∀ (s : State) (b k : Nat), b < 64 → k < 32 → s.benchUp b = true → s.hopSlave (32 * b + k) = false →
    s.get F.HOP_TAIL_TAIL_EXP (32 * b + k) ≠ 0 → rcount (s.hop (32 * b + k)) ≠ 0 →
    (s.hop (32 * b + k)).tailed = false →
    s.get F.HOP_CFG_RD_SRC (32 * b + k) ≥ 4 ∨ s.hopFabric (32 * b + k) = some true →
    s.get F.HOP_CFG_RD_SRC (32 * b + k) = 6 ∨ 2 ^ s.get F.HOP_TAIL_TAIL_EXP (32 * b + k) ≤ (s.hop (32 * b + k)).tail →
    ∃ t, exec (.hopperTailTimeout b k) s = .next t
      ∧ t.flag F.HOP_EVT_TAIL (32 * b + k) = true ∧ (t.hop (32 * b + k)).tailed = true)
  ∧ (∀ (s : State) (src : Src) (b k : Nat) (v : Word), k < 32 → s.mayWrite src .HOP_OWNER (32 * b + k) = true →
    ∃ t, exec (.hopOwnerWrite src b k v) s = .next t
      ∧ t.get F.HOP_OWNER_PLANE (32 * b + k) = fldOf F.HOP_OWNER_PLANE v
      ∧ t.get F.HOP_OWNER_OWN_VALID (32 * b + k) = fldOf F.HOP_OWNER_OWN_VALID v
      ∧ (t.reg .HOP_OWNER (32 * b + k) ≠ s.reg .HOP_OWNER (32 * b + k) → s.hopSlave (32 * b + k) = false → flushBusy (t.hop (32 * b + k)) = true
        ∧ (flushAtW (t.hop (32 * b + k))).slots = [] ∧ rcount (flushAtR (t.hop (32 * b + k))) = 0))

/-- Plane requests of the host, the switch cell and a deferral: written, presented, granted, deferred. (R154,
R158, R160, R162, R165, R174, R178, R375, 05_hot_planes_and_switching.md) -/
def Obligations.PlaneSwitching : Prop :=
  (∀ (s : State) (src : Src) (b : Nat) (v : Word), s.mayWrite src .BENCH_PLANE_SEL b = true →
    fldOf F.BENCH_PLANE_SEL_CMD v = 0 → s.inGang b = false ∨ s.flag F.BENCH_GANG_STAT_IS_LEADER b = true →
    ∃ t, exec (.planeSelSwitch src b v) s = .next t
      ∧ (s.flag F.BENCH_PLANE_SEL_PENDING b = false → t.flag F.BENCH_PLANE_SEL_PENDING b = true
        ∧ t.hostReqOf b = [⟨.host, .switch, fldOf F.BENCH_PLANE_SEL_PLANE v, 0⟩])
      ∧ (s.flag F.BENCH_PLANE_SEL_PENDING b = true → t.flag F.BENCH_PLANE_STAT_REFUSED b = true
        ∧ t.get F.BENCH_PLANE_STAT_REF_REASON b = 3 ∧ t.hostReqOf b = s.hostReqOf b))
  ∧ (∀ (s : State) (src : Src) (b : Nat) (v : Word), s.mayWrite src .BENCH_PLANE_SEL b = true →
    fldOf F.BENCH_PLANE_SEL_CMD v = 1 → s.inGang b = false ∨ s.flag F.BENCH_GANG_STAT_IS_LEADER b = true →
    s.flag F.BENCH_PLANE_SEL_PENDING b = false →
    ∃ t, exec (.planeSelOnline src b v) s = .next t
      ∧ t.flag F.BENCH_PLANE_SEL_PENDING b = true
      ∧ t.hostReqOf b = [⟨.host, .online, fldOf F.BENCH_PLANE_SEL_PLANE v, 0⟩])
  ∧ (∀ (s : State) (src : Src) (b : Nat) (v : Word), s.mayWrite src .BENCH_PLANE_SEL b = true →
    fldOf F.BENCH_PLANE_SEL_CMD v = 2 → s.inGang b = false ∨ s.flag F.BENCH_GANG_STAT_IS_LEADER b = true →
    s.flag F.BENCH_PLANE_SEL_PENDING b = false →
    ∃ t, exec (.planeSelOffline src b v) s = .next t
      ∧ t.flag F.BENCH_PLANE_SEL_PENDING b = true
      ∧ t.hostReqOf b = [⟨.host, .offline, fldOf F.BENCH_PLANE_SEL_PLANE v, 0⟩])
  ∧ (∀ (s : State) (b p q n : Nat), s.benchUp b = true → s.inGang b = false →
    s.hostReqOf b = [⟨.host, .switch, p, n⟩] →
    (mapGet (fun _ => none) s.planes.defer b : Option PlaneReq) = none →
    mapGet (fun _ => []) s.planes.cands (benchCol b) = [] → s.activePlane b = some q → p < 8 →
    s.planeCheck b ⟨.host, .switch, p, n⟩ = some none → s.staticPaused b = false →
    s.get F.BENCH_SURGE_CTL_SURGE_MAX (benchCol b) ≠ 0 →
    ∃ t, exec (.hostRequestPresented b false true) s = .next t
      ∧ t.activePlane b = some p ∧ t.planeSt b p = psActive ∧ t.planeSt b q = psReady
      ∧ t.get F.BENCH_PLANE_CNT_SWITCHES b = (s.get F.BENCH_PLANE_CNT_SWITCHES b + 1) % 2 ^ F.BENCH_PLANE_CNT_SWITCHES.w
      ∧ t.get F.BENCH_PLANE_STAT_LAST_SRC b = 1 ∧ t.flag F.BENCH_PLANE_EVT_DONE b = true
      ∧ t.flag F.BENCH_PLANE_SEL_PENDING b = false)
  ∧ (∀ (s : State) (b p q n : Nat), s.benchUp b = true → s.inGang b = false →
    s.hostReqOf b = [⟨.host, .offline, p, n⟩] →
    (mapGet (fun _ => none) s.planes.defer b : Option PlaneReq) = none →
    mapGet (fun _ => []) s.planes.cands (benchCol b) = [] → s.activePlane b = some q → q < 8 →
    s.planeCheck b ⟨.host, .offline, p, n⟩ = some none → s.staticPaused b = false →
    s.get F.BENCH_SURGE_CTL_SURGE_MAX (benchCol b) ≠ 0 →
    ∃ t, exec (.hostRequestPresented b false true) s = .next t
      ∧ t.online b = false ∧ t.planeSt b q = psReady ∧ t.flag F.BENCH_PLANE_EVT_DONE b = true)
  ∧ (∀ (s : State) (b : Nat), s.benchUp b = true → s.inGang b = false →
    (mapGet (fun _ => none) s.planes.defer b : Option PlaneReq) = none →
    mapGet (fun _ => []) s.planes.cands (benchCol b) = [] → s.staticPaused b = false →
    s.get F.BENCH_SURGE_CTL_SURGE_MAX (benchCol b) ≠ 0 →
    ∃ t, exec (.switchCellRequest b true) s = .next t
      ∧ (∀ r, s.cellReq b = [r] → s.planeCheck b r = some none → t.activePlane b = some r.plane
        ∧ t.get F.BENCH_PLANE_STAT_LAST_SRC b = 0)
      ∧ (∀ r why, s.cellReq b = [r] → s.planeCheck b r = some (some why) → why < 8 → t.flag F.BENCH_PLANE_STAT_REFUSED b = true
        ∧ t.get F.BENCH_PLANE_STAT_REF_REASON b = why ∧ t.activePlane b = s.activePlane b))
  ∧ (∀ (s : State) (b : Nat) (r : PlaneReq),
    (mapGet (fun _ => none) s.planes.defer b : Option PlaneReq) = some r → s.inGang b = false →
    mapGet (fun _ => []) s.planes.cands (benchCol b) = [] → r.cmd = .switch → r.plane < 8 →
    s.get F.BENCH_SURGE_CTL_SURGE_MAX (benchCol b) ≠ 0 →
    ∃ t, exec (.deferredCandidateRetry b true) s = .next t
      ∧ (s.staticPaused b = false → t.activePlane b = some r.plane
        ∧ (mapGet (fun _ => none) t.planes.defer b : Option PlaneReq) = none)
      ∧ (s.staticPaused b = true → t.flag F.BENCH_PLANE_STAT_DEFERRED b = true ∧ t.activePlane b = s.activePlane b
        ∧ (mapGet (fun _ => none) t.planes.defer b : Option PlaneReq) = some { r with n := r.n + 1 }))

/-- The plane schedule, the clock sources of planes and the surge guard's bound. (R163, R164, R169, R177, R190,
R196, 05_hot_planes_and_switching.md) -/
def Obligations.PlaneSchedule : Prop :=
  (∀ (s : State) (src : Src) (b : Nat) (v : Word), s.mayWrite src .BENCH_SCHED_CTL b = true →
    fldOf F.BENCH_SCHED_CTL_EN v = 1 → s.flag F.BENCH_SCHED_CTL_EN b = false →
    ∃ t, exec (.scheduleEnable src b v) s = .next t
      ∧ t.flag F.BENCH_SCHED_CTL_EN b = true
      ∧ (s.online b = true → (mapGet (fun _ => none) t.planes.expiry b : Option Nat) = some (s.time + s.quantumNs b))
      ∧ (s.online b = false → (mapGet (fun _ => none) t.planes.expiry b : Option Nat) = none
        ∧ (mapGet (fun _ => none) t.planes.held b : Option Nat) = some (s.quantumNs b)))
  ∧ (∀ (s : State) (src : Src) (b : Nat) (v : Word), s.mayWrite src .BENCH_SCHED_QUANT b = true →
    ∃ t, exec (.schedQuantWrite src b v) s = .next t
      ∧ t.get F.BENCH_SCHED_QUANT_QUANTUM_US b = max 1 (min 1000000 (fldOf F.BENCH_SCHED_QUANT_QUANTUM_US v)))
  ∧ (∀ (s : State) (b x : Nat), (mapGet (fun _ => none) s.planes.expiry b : Option Nat) = some x → x ≤ s.time →
    ∃ t, exec (.scheduleExpiry b) s = .next t
      ∧ (mapGet (fun _ => none) t.planes.expiry b : Option Nat) = some (x + s.quantumNs b)
      ∧ (s.leaderOf b = b → mapGet (fun _ => false) t.planes.schedDue b = true))
  ∧ (∀ (s : State) (b pos : Nat), s.benchUp b = true → s.inGang b = false →
    (mapGet (fun _ => none) s.planes.defer b : Option PlaneReq) = none →
    mapGet (fun _ => []) s.planes.cands (benchCol b) = [] → s.online b = true →
    mapGet (fun _ => false) s.planes.schedDue b = true → s.flag F.BENCH_SCHED_CTL_EN b = true →
    pos = (s.get F.BENCH_SCHED_CTL_IDX b + 1) % (s.get F.BENCH_SCHED_CTL_LEN_M1 b + 1) →
    s.planeCheck b ⟨.sched, .switch, bitsOf (s.get F.BENCH_SCHED_LIST_LIST b) (3 * pos) 3, 0⟩ = some none →
    s.staticPaused b = false → s.get F.BENCH_SURGE_CTL_SURGE_MAX (benchCol b) ≠ 0 →
    ∃ t, exec (.scheduleRequestPresented b false false true) s = .next t
      ∧ t.activePlane b = some (bitsOf (s.get F.BENCH_SCHED_LIST_LIST b) (3 * pos) 3)
      ∧ t.get F.BENCH_SCHED_CTL_IDX b = pos ∧ t.get F.BENCH_PLANE_STAT_LAST_SRC b = 2
      ∧ mapGet (fun _ => false) t.planes.schedDue b = false)
  ∧ (∀ (s : State) (src : Src) (b p : Nat) (v : Word), p < 8 → s.mayWrite src .BENCH_CLKSRC (8 * b + p) = true →
    ∃ t, exec (.benchClksrcWrite src b p v) s = .next t
      ∧ (s.clkSrcRefused b p v = false → t.get F.BENCH_CLKSRC_CLK0 (8 * b + p) = fldOf F.BENCH_CLKSRC_CLK0 v)
      ∧ (s.clkSrcRefused b p v = true → t.flag F.BENCH_PLANE_STAT_CFG_ERR b = true
        ∧ t.reg .BENCH_CLKSRC (8 * b + p) = s.reg .BENCH_CLKSRC (8 * b + p)))
  ∧ (∀ (s : State) (src : Src) (c : Nat) (v : Word), s.mayWrite src .BENCH_SURGE_CTL c = true →
    ∃ t, exec (.surgeCtlWrite src c v) s = .next t
      ∧ (hluWithin 16 (max 1 (fldOf F.BENCH_SURGE_CTL_SURGE_MAX v)) (s.hluEff 16) = true →
        s.largestGang c ≤ max 1 (fldOf F.BENCH_SURGE_CTL_SURGE_MAX v) →
        t.get F.BENCH_SURGE_CTL_SURGE_MAX c = max 1 (fldOf F.BENCH_SURGE_CTL_SURGE_MAX v))
      ∧ (hluWithin 16 (max 1 (fldOf F.BENCH_SURGE_CTL_SURGE_MAX v)) (s.hluEff 16) = false →
        t.get F.HLU_REFUSE_Q 0 = 16 ∧ t.get F.BENCH_SURGE_CTL_SURGE_MAX c = s.get F.BENCH_SURGE_CTL_SURGE_MAX c))

/-- The context engine: accepted, refused and aborted operations, frames moved, and commits. (R202, R204, R207,
R208, R209, R675, 06_context_slots_and_paging.md) -/
def Obligations.ContextEngine : Prop :=
  (∀ (s : State) (src : Src) (b : Nat) (v : Word), s.mayWrite src .CTX_CMD b = true → fldOf F.CTX_CMD_GO v = 1 →
    fldOf F.CTX_CMD_OP v = 0 →
    ∃ t, exec (.ctxStage src b v) s = .next t
      ∧ (s.ctxBusy b = false → s.powered (dCfg (benchCol b)) = true → t.flag F.CTX_STAT_BUSY b = true
        ∧ t.get F.CTX_STAT_PHASE b = 0 ∧ t.get F.CTX_STAT_FRAMES b = 0 ∧ (t.ctxRun b).map (fun y => (y.op, y.plane, y.slot))
          = some (0, fldOf F.CTX_CMD_PLANE v, fldOf F.CTX_CMD_SLOT v))
      ∧ (s.ctxBusy b = true → t.flag F.CTX_STAT_REJECT b = true ∧ t.slots = s.slots))
  ∧ (∀ (s : State) (src : Src) (b : Nat) (v : Word), s.mayWrite src .CTX_CMD b = true → fldOf F.CTX_CMD_GO v = 1 →
    fldOf F.CTX_CMD_OP v = 1 →
    ∃ t, exec (.ctxPage src b v) s = .next t
      ∧ (s.ctxBusy b = false → s.powered (dCfg (benchCol b)) = true → t.flag F.CTX_STAT_BUSY b = true
        ∧ (t.ctxRun b).map (fun y => (y.op, y.plane, y.slot)) = some (1, fldOf F.CTX_CMD_PLANE v, fldOf F.CTX_CMD_SLOT v)))
  ∧ (∀ (s : State) (src : Src) (b : Nat) (v : Word), s.mayWrite src .CTX_CMD b = true → fldOf F.CTX_CMD_GO v = 1 →
    fldOf F.CTX_CMD_OP v = 2 →
    ∃ t, exec (.ctxPageFree src b v) s = .next t
      ∧ (s.ctxBusy b = false → s.powered (dCfg (benchCol b)) = true → t.flag F.CTX_STAT_BUSY b = true
        ∧ (t.ctxRun b).map (fun y => (y.op, y.plane, y.slot)) = some (2, fldOf F.CTX_CMD_PLANE v, fldOf F.CTX_CMD_SLOT v)))
  ∧ (∀ (s : State) (src : Src) (b : Nat) (v : Word) (r : CtxRun), s.mayWrite src .CTX_CMD b = true →
    fldOf F.CTX_CMD_GO v = 0 → fldOf F.CTX_CMD_ABORT v = 1 → s.ctxRun b = some r →
    ∃ t, exec (.ctxAbort src b v) s = .next t
      ∧ t.ctxRun b = some { r with abort := true })
  ∧ (∀ (s : State) (b f : Nat) (r : CtxRun), s.ctxRun b = some r → r.abort = false →
    s.get F.CTX_STAT_PHASE b ≠ 0 → f = s.get F.CTX_STAT_FRAMES b → 0 < f → f < ffRun →
    ∃ t, exec (.ctxCopyFrame b []) s = .next t
      ∧ (r.op = 0 → s.slotSt (1024 * benchCol b + r.slot) = slValid →
        (slotDecode (s.slotWord (1024 * benchCol b + r.slot) f)).kind = .clean →
        t.planeFrame b r.plane f = s.slotData (1024 * benchCol b + r.slot) f % 2 ^ 512 ∧ t.get F.CTX_STAT_FRAMES b = f + 1)
      ∧ (r.op ≠ 0 → t.slotWord (1024 * benchCol b + r.slot) f = slotEncode (s.planeFrame b r.plane f % 2 ^ 512) % 2 ^ 533
        ∧ t.get F.CTX_STAT_FRAMES b = f + 1))
  ∧ (∀ (s : State) (b : Nat) (r : CtxRun), s.ctxRun b = some r → r.op = 0 → r.plane < 8 → r.slot < 1024 →
    s.get F.CTX_STAT_PHASE b ≠ 0 → s.get F.CTX_STAT_FRAMES b = slotFrames →
    ∃ t, exec (.ctxStageCommit b) s = .next t
      ∧ t.planeSt b r.plane = psReady ∧ t.home b r.plane = some r.slot ∧ t.flag F.CTX_STAT_BUSY b = false
      ∧ t.get F.CTX_STAT_RESULT b = 0 ∧ t.ctxRun b = none ∧ t.flag F.CTX_EVT_DONE b = true)
  ∧ (∀ (s : State) (b : Nat) (r : CtxRun), s.ctxRun b = some r → r.op ≠ 0 → r.plane < 8 → r.slot < 1024 →
    s.get F.CTX_STAT_PHASE b ≠ 0 → s.get F.CTX_STAT_FRAMES b = slotFrames →
    ∃ t, exec (.ctxPageCommit b) s = .next t
      ∧ t.slotSt (1024 * benchCol b + r.slot) = slValid
      ∧ t.planeSt b r.plane = (if r.op = 2 then psEmpty else psReady)
      ∧ t.home b r.plane = (if r.op = 2 then none else some r.slot)
      ∧ t.slotGen (1024 * benchCol b + r.slot) = (s.slotGen (1024 * benchCol b + r.slot) + 1) % 2 ^ 32
      ∧ t.get F.CTX_STAT_RESULT b = 0 ∧ t.ctxRun b = none)

/-- Context slots: release, owner, copies, refresh and patrol. (R200, R201, R202, R213, R214, R215,
06_context_slots_and_paging.md) -/
def Obligations.ContextSlots : Prop :=
  (∀ (s : State) (src : Src) (c : Nat) (v : Word), s.mayWrite src .CTX_SLOT_CTL (s.selSlot c) = true →
    fldOf F.CTX_SLOT_CTL_RELEASE v = 1 →
    ∃ t, exec (.ctxSlotRelease src c v) s = .next t
      ∧ (s.slotClaimed (s.selSlot c) = false → t.slotSt (s.selSlot c) = slFree
        ∧ t.get F.CTX_SLOT_OWNER_VF (s.selSlot c) = s.get F.CTX_SLOT_OWNER_VF (s.selSlot c))
      ∧ (∀ f, f < slotFrames → s.slotClaimed (s.selSlot c) = false → t.slotWord (s.selSlot c) f = 0)
      ∧ (s.slotClaimed (s.selSlot c) = true → t.flag F.CTX_SLOT_STAT_CFG_ERR (s.selSlot c) = true
        ∧ t.slotSt (s.selSlot c) = s.slotSt (s.selSlot c) ∧ t.slots = s.slots))
  ∧ (∀ (s : State) (src : Src) (c : Nat) (v : Word), s.mayWrite src .CTX_SLOT_OWNER (s.selSlot c) = true →
    s.slotClaimed (s.selSlot c) = false →
    ∃ t, exec (.ctxSlotOwnerWrite src c v) s = .next t
      ∧ t.get F.CTX_SLOT_OWNER_OWN_VALID (s.selSlot c) = fldOf F.CTX_SLOT_OWNER_OWN_VALID v
      ∧ t.get F.CTX_SLOT_OWNER_VF (s.selSlot c) = fldOf F.CTX_SLOT_OWNER_VF v
      ∧ (fldOf F.CTX_SLOT_OWNER_OWN_VALID v ≠ s.get F.CTX_SLOT_OWNER_OWN_VALID (s.selSlot c) → t.slotSt (s.selSlot c) = slFree))
  ∧ (∀ (s : State) (a d : Nat), (s.slots.copies.any fun x => x.from_ == a && x.to_ == d) = true → a ≠ d →
    ∃ t, exec (.slotCopyDone a d []) s = .next t
      ∧ (s.slotSt a ≠ slValid → t.slotSt d = slFree)
      ∧ (s.slotSt a = slValid → (s.slots.words.all fun y => !(y.1 / slotFrames == a) || !((slotDecode y.2).kind == .bad)) = true →
        t.slotSt d = slValid ∧ t.slotGen d = (s.slotGen d + 1) % 2 ^ 32 ∧ t.slotSt a = slValid)
      ∧ (t.slots.copies.any fun x => x.from_ == a && x.to_ == d) = false)
  ∧ (∀ (s : State) (c : Nat), c < 4 → s.powered (dCfg c) = true →
    ∃ t, exec (.bulkStoreRefresh c) s = .next t
      ∧ t.get F.CTX_REFRESH_INTERVAL_US c = refreshUs (s.get F.THM_COL_BAND c)
      ∧ t.get F.CTX_REFRESH_BAND c = s.get F.THM_COL_BAND c)
  ∧ (∀ (s : State) (c : Nat), c < 4 → s.powered (dCfg c) = true → s.flag F.CTX_PATROL_EN c = true →
    ∃ t, exec (.slotPatrolStep c []) s = .next t
      ∧ (s.slotSt (1024 * c + mapGet (fun _ => 0) s.slots.patrol c / slotFrames) = slValid →
        mapGet (fun _ => 0) t.slots.patrol c = (mapGet (fun _ => 0) s.slots.patrol c + 1) % (1024 * slotFrames))
      ∧ (s.slotSt (1024 * c + mapGet (fun _ => 0) s.slots.patrol c / slotFrames) ≠ slValid →
        mapGet (fun _ => 0) t.slots.patrol c
          = (mapGet (fun _ => 0) s.slots.patrol c / slotFrames + 1) * slotFrames % (1024 * slotFrames)))

/-- Load channels: start, abort, data, hold, commit and source errors. (R240, R241, R242, R243, R244, R245, R249,
R253, R256, 07_meyth_images.md) -/
def Obligations.LoadChannels : Prop :=
  (∀ (s : State) (src : Src) (n : Nat) (v : Word), s.mayWrite src .MEY_LOAD_CTL n = true →
    fldOf F.MEY_LOAD_CTL_GO v = 1 → fldOf F.MEY_LOAD_CTL_ABORT v = 0 →
    ∃ t, exec (.loadGo src n v) s = .next t
      ∧ (s.flag F.MEY_LOAD_STAT_BUSY n = false → srcDenied (fldOf F.MEY_LOAD_CTL_SRC_KIND v)
        (s.get F.MEY_LOAD_SRC_LO_SRC_LO n + s.get F.MEY_LOAD_SRC_HI_SRC_HI n * 2 ^ 32) (s.get F.MEY_LOAD_LEN_LEN n) = false →
        t.flag F.MEY_LOAD_STAT_BUSY n = true ∧ t.get F.MEY_LOAD_STAT_PHASE n = 0 ∧ (t.load n).isSome = true
        ∧ t.get F.MEY_LOAD_PROG_FRAMES n = 0)
      ∧ (s.flag F.MEY_LOAD_STAT_BUSY n = false → srcDenied (fldOf F.MEY_LOAD_CTL_SRC_KIND v)
        (s.get F.MEY_LOAD_SRC_LO_SRC_LO n + s.get F.MEY_LOAD_SRC_HI_SRC_HI n * 2 ^ 32) (s.get F.MEY_LOAD_LEN_LEN n) = true →
        t.flag F.MEY_LOAD_STAT_BUSY n = false ∧ t.get F.MEY_LOAD_STAT_RESULT n = ldSrcDenied)
      ∧ (s.flag F.MEY_LOAD_STAT_BUSY n = true → t.flag F.MEY_LOAD_STAT_REJECT n = true ∧ t.loads = s.loads))
  ∧ (∀ (s : State) (src : Src) (n : Nat) (v : Word) (r : LoadRun), s.mayWrite src .MEY_LOAD_CTL n = true →
    fldOf F.MEY_LOAD_CTL_GO v = 0 → fldOf F.MEY_LOAD_CTL_ABORT v = 1 → s.load n = some r →
    ∃ t, exec (.loadAbort src n v) s = .next t
      ∧ t.load n = none ∧ t.flag F.MEY_LOAD_STAT_BUSY n = false ∧ t.get F.MEY_LOAD_STAT_RESULT n = ldAborted
      ∧ t.flag F.MEY_LOAD_EVT_ERR n = true)
  ∧ (∀ (s : State) (n : Nat) (bytes : List Byte) (r : LoadRun), s.floorReset = 0 → s.load n = some r →
    r.hdr = false → r.bad = false → r.kind < 2 → s.portLive r.kind = true → r.buf.length < 256 → bytes ≠ [] →
    ∃ t, exec (.loadDataArrival n bytes) s = .next t
      ∧ ((r.buf ++ bytes).length < 256 → t.load n = some { r with buf := r.buf ++ bytes, pos := r.pos + bytes.length, since := s.time })
      ∧ (256 ≤ (r.buf ++ bytes).length → crc32c ((r.buf ++ bytes).take 0xFC) ≠ leAt ((r.buf ++ bytes).take 256) 0xFC 4 →
        t.load n = none ∧ t.get F.MEY_LOAD_STAT_RESULT n = ldHeaderCrc))
  ∧ (∀ (s : State) (n : Nat) (r : LoadRun) (c : LoadSection), s.floorReset = 0 → s.load n = some r →
    r.holding = true → r.hdr = true → r.buf = [] → r.table[r.sect]? = some c → c.frames ≠ 0 → r.bad = false →
    ∃ t, exec (.loadHoldDone n) s = .next t
      ∧ (r.refused = false → (∀ g ∈ r.targets, t.slotSt g = slWriting) ∧ t.get F.MEY_LOAD_STAT_PHASE n = phConfig
        ∧ t.load n = some { r with holding := false, held := true, since := s.time })
      ∧ (r.refused = true → t.load n = none ∧ t.get F.MEY_LOAD_STAT_RESULT n = ldTargetBusy))
  ∧ (∀ (s : State) (n : Nat) (r : LoadRun), s.floorReset = 0 → s.load n = some r → r.ready = true →
    r.bad = false → r.acks = 0 →
    ∃ t, exec (.loadCommit n) s = .next t
      ∧ (∀ g ∈ r.targets, t.slotSt g = slValid) ∧ t.flag F.MEY_LOAD_STAT_BUSY n = false
      ∧ t.get F.MEY_LOAD_STAT_RESULT n = ldOk ∧ t.flag F.MEY_LOAD_EVT_DONE n = true ∧ t.load n = none)
  ∧ (∀ (s : State) (n : Nat) (r : LoadRun), s.load n = some r → loadAwaits r = true → s.floorReset = 0 →
    r.since + 1000 * s.get F.MEY_LOAD_TMO_TMO_US n ≤ s.time →
    ∃ t, exec (.loadSourceTimeout n) s = .next t
      ∧ t.load n = none ∧ t.get F.MEY_LOAD_STAT_RESULT n = ldTimeout ∧ t.flag F.MEY_LOAD_STAT_BUSY n = false)
  ∧ (∀ (s : State) (n : Nat) (r : LoadRun), s.load n = some r → s.floorReset = 0 →
    ∃ t, exec (.loadSourceError n) s = .next t
      ∧ t.load n = none ∧ t.get F.MEY_LOAD_STAT_RESULT n = ldSrcError ∧ t.flag F.MEY_LOAD_EVT_ERR n = true)

/-- Assignment, gangs, memory fences, haul windows and lane masks. (R260, R261, R263, R264, R265, R269, R273,
R275, 08_benches_and_tenancy.md) -/
def Obligations.TenancyAndGangs : Prop :=
  (∀ (s : State) (src : Src) (b : Nat) (v : Word), s.mayWrite src .BENCH_ASSIGN b = true →
    ∃ t, exec (.benchAssignWrite src b v) s = .next t
      ∧ (s.assignRefused b (fldOf F.BENCH_ASSIGN_FN v) (fldOf F.BENCH_ASSIGN_PRIV v) = false →
        t.get F.BENCH_ASSIGN_PRIV b = fldOf F.BENCH_ASSIGN_PRIV v ∧ t.fnNow b = fldOf F.BENCH_ASSIGN_FN v)
      ∧ (s.assignRefused b (fldOf F.BENCH_ASSIGN_FN v) (fldOf F.BENCH_ASSIGN_PRIV v) = true →
        t.flag F.BENCH_ASSIGN_ASSIGN_ERR b = true ∧ t.get F.BENCH_ASSIGN_PRIV b = s.get F.BENCH_ASSIGN_PRIV b
        ∧ t.fnNow b = s.fnNow b)
      ∧ t.get F.BENCH_ASSIGN_FN b = s.get F.BENCH_ASSIGN_FN b)
  ∧ (∀ (s : State) (b fn : Nat), (mapGet (fun _ => none) s.collector.fnPending b : Option Nat) = some fn →
    fn < 2 →
    (s.stagedOf b).full = false ∨ s.ringTakes b = true ∨ mapGet (fun _ => 0) s.collector.fnSince b + 10000 ≤ s.time →
    ∃ t, exec (.fnChangeEffect b) s = .next t
      ∧ t.get F.BENCH_ASSIGN_FN b = fn ∧ (mapGet (fun _ => none) t.collector.fnPending b : Option Nat) = none
      ∧ (t.stagedOf b).full = false
      ∧ ((s.stagedOf b).full = true → s.ringTakes b = false → t.flag F.BENCH_ASSIGN_LOST_REC b = true))
  ∧ (∀ (s : State) (src : Src) (c pos wd ht : Nat) (v : Word), s.mayWrite src .BENCH_GANG_CMD c = true →
    fldOf F.BENCH_GANG_CMD_FORM v = 1 → fldOf F.BENCH_GANG_CMD_DISSOLVE v = 0 →
    pos = fldOf F.BENCH_GANG_CMD_LEADER v → wd = fldOf F.BENCH_GANG_CMD_W_M1 v →
    ht = fldOf F.BENCH_GANG_CMD_H_M1 v →
    ∃ t, exec (.gangForm src c v) s = .next t
      ∧ (s.formReason c pos wd ht = 0 → (∀ m ∈ gangRect c pos (wd + 1) (ht + 1), t.inGang m = true ∧ t.leaderOf m = 16 * c + pos)
        ∧ t.tenancy.forming.contains (16 * c + pos) = true)
      ∧ (s.formReason c pos wd ht ≠ 0 → t.flag F.BENCH_GANG_CMD_GANG_ERR c = true
        ∧ t.get F.BENCH_GANG_CMD_REASON c = s.formReason c pos wd ht ∧ t.tenancy = s.tenancy))
  ∧ (∀ (s : State) (l : Nat), s.tenancy.forming.contains l = true →
    ∃ t, exec (.gangFormDone l) s = .next t
      ∧ t.tenancy.forming.contains l = false
      ∧ (∀ m ∈ s.gangOf l, ∀ p, p < 8 → t.get F.BENCH_CLKSRC_CLK0 (8 * m + p) = s.get F.BENCH_CLKSRC_CLK0 (8 * l + p)))
  ∧ (∀ (s : State) (src : Src) (c l : Nat) (v : Word), s.mayWrite src .BENCH_GANG_CMD c = true →
    fldOf F.BENCH_GANG_CMD_FORM v = 0 → fldOf F.BENCH_GANG_CMD_DISSOLVE v = 1 →
    l = 16 * c + fldOf F.BENCH_GANG_CMD_LEADER v →
    ∃ t, exec (.gangDissolve src c v) s = .next t
      ∧ (s.dissolveReason l = 0 → (∀ m ∈ s.gangOf l, t.inGang m = false) ∧ t.tenancy.forming.contains l = false)
      ∧ (s.dissolveReason l ≠ 0 → t.flag F.BENCH_GANG_CMD_GANG_ERR c = true
        ∧ t.get F.BENCH_GANG_CMD_REASON c = s.dissolveReason l ∧ t.tenancy = s.tenancy))
  ∧ (∀ (s : State) (src : Src) (b p k : Nat) (v : Word), p < 8 → k < 4 →
    s.mayWrite src .BENCH_MFENCE (32 * b + 4 * p + k) = true →
    ∃ t, exec (.mfenceWrite src b p k v) s = .next t
      ∧ (fldOf F.BENCH_MFENCE_FIRST v + fldOf F.BENCH_MFENCE_COUNT_M1 v ≤ 1023 →
        t.get F.BENCH_MFENCE_FIRST (32 * b + 4 * p + k) = fldOf F.BENCH_MFENCE_FIRST v
        ∧ t.get F.BENCH_MFENCE_COUNT_M1 (32 * b + 4 * p + k) = fldOf F.BENCH_MFENCE_COUNT_M1 v
        ∧ t.get F.BENCH_MFENCE_EN (32 * b + 4 * p + k) = fldOf F.BENCH_MFENCE_EN v)
      ∧ (1023 < fldOf F.BENCH_MFENCE_FIRST v + fldOf F.BENCH_MFENCE_COUNT_M1 v → t.flag F.BENCH_FENCE_STAT_FENCE_ERR b = true
        ∧ t.reg .BENCH_MFENCE (32 * b + 4 * p + k) = s.reg .BENCH_MFENCE (32 * b + 4 * p + k)))
  ∧ (∀ (s : State) (src : Src) (b i : Nat) (v : Word), i < 16 →
    s.mayWrite src .BENCH_HWIN_HI (16 * b + i) = true →
    ∃ t, exec (.hwinWrite src b i v) s = .next t
      ∧ (s.hwinRefused (16 * b + i) v = false → mapGet (fun _ => 0) t.tenancy.hwins (16 * b + i)
          = s.get F.BENCH_HWIN_LO_BASE_LO (16 * b + i)
        ∧ t.get F.BENCH_HWIN_HI_SIZE_EXP (16 * b + i) = fldOf F.BENCH_HWIN_HI_SIZE_EXP v
        ∧ t.get F.BENCH_HWIN_HI_EN (16 * b + i) = fldOf F.BENCH_HWIN_HI_EN v)
      ∧ (s.hwinRefused (16 * b + i) v = true → t.flag F.BENCH_FENCE_STAT_FENCE_ERR b = true ∧ t.tenancy = s.tenancy
        ∧ t.reg .BENCH_HWIN_HI (16 * b + i) = s.reg .BENCH_HWIN_HI (16 * b + i)))
  ∧ (∀ (s : State) (src : Src) (b : Nat) (rx hi : Bool) (v : Word), s.mayWrite src (laneMaskReg rx hi) b = true →
    ∃ t, exec (.laneFenceWrite src b rx hi v) s = .next t
      ∧ (((upTo 64).any fun o => o != b && (s.reg (laneMaskReg rx hi) o &&& v) != 0) = false → t.reg (laneMaskReg rx hi) b = v)
      ∧ (((upTo 64).any fun o => o != b && (s.reg (laneMaskReg rx hi) o &&& v) != 0) = true →
        t.flag F.BENCH_FENCE_STAT_FENCE_ERR b = true ∧ t.reg (laneMaskReg rx hi) b = s.reg (laneMaskReg rx hi) b))

/-- Weighbridges, tally meters and power caps. (R278, R279, R280, R282, R285, 08_benches_and_tenancy.md) -/
def Obligations.WeighbridgesAndMeters : Prop :=
  (∀ (s : State) (src : Src) (b p k j : Nat) (v : Word), p < 2 → k < 3 → j = 6 * b + 3 * p + k →
    s.mayWrite src .BENCH_WB_CTL j = true →
    ∃ t, exec (.wbCtlWrite src b p k v) s = .next t
      ∧ t.get F.BENCH_WB_CTL_RATE j = max (if k = 1 then 16 else 0) (min 1024 (fldOf F.BENCH_WB_CTL_RATE v))
      ∧ t.get F.BENCH_WB_CTL_BURST_EXP j = max 6 (min 16 (fldOf F.BENCH_WB_CTL_BURST_EXP v))
      ∧ t.wbTokens j = min (t.wbCap j) (s.wbTokens j))
  ∧ (∀ (s : State) (b p k : Nat), s.portRuns b p = true → k < 3 →
    ∃ t, exec (.weighbridgeRefill b p) s = .next t
      ∧ t.wbTokens (6 * b + 3 * p + k) = min (s.wbCap (6 * b + 3 * p + k))
        (s.wbTokens (6 * b + 3 * p + k) + s.get F.BENCH_WB_CTL_RATE (6 * b + 3 * p + k)))
  ∧ (∀ (s : State) (b p k r l : Nat) (x : WbPacket) (rest : List WbPacket), k < 3 → s.portRuns b p = true →
    s.wbOpen b p k = true → k = 1 ∨ s.holdsRequests b p = false → s.waiting b p k = x :: rest →
    s.behindOwn b p x = false → s.injReady (hportId b p) (hClass x.hdr) = true →
    r = routerOf (epCol (hportId b p)) (epRow (hportId b p)) (epX (hportId b p)) →
    l = epLocal (hportId b p) → mapGet (fun _ => false) s.haul.retrain (linkKey r (4 + l)) = false →
    ∃ t, exec (.weighbridgeAdmit b p k) s = .next t
      ∧ t.waiting b p k = rest
      ∧ t.wbTokens (6 * b + 3 * p + k) = s.wbTokens (6 * b + 3 * p + k) - 16 * ((64 * (1 + x.data.length) : Nat) : Int)
      ∧ .inject r l (s.injWord r (2 * hClass x.hdr) (s.stampHdr x.hdr) ⟨s.stampHdr x.hdr, true, x.data.isEmpty, false⟩) ∈ t.out)
  ∧ (∀ (s : State) (b nj : Nat), s.powered 4 = true →
    ∃ t, exec (.tallySample b nj) s = .next t
      ∧ mapGet (fun _ => 0) t.tenancy.energy (s.tallyAcc b) = mapGet (fun _ => 0) s.tenancy.energy (s.tallyAcc b) + nj
      ∧ mapGet (fun _ => 0) t.tenancy.sinceUpd b = mapGet (fun _ => 0) s.tenancy.sinceUpd b + nj)
  ∧ (∀ (s : State) (b x n : Nat), s.powered 4 = true →
    (x, n) = s.capWindow b ((mapGet (fun _ => 0) s.tenancy.sinceUpd b :: mapGet (fun _ => []) s.tenancy.history b).take 4096) →
    ∃ t, exec (.pcapUpdate b) s = .next t
      ∧ (s.capMw b * n < x → t.capLevel b = min 15 (s.capLevel b + 1))
      ∧ (x * 16 ≤ s.capMw b * n * 15 → t.capLevel b = s.capLevel b - 1)
      ∧ (s.capMw b * n * 15 < x * 16 → x ≤ s.capMw b * n → t.capLevel b = s.capLevel b)
      ∧ mapGet (fun _ => 0) t.tenancy.sinceUpd b = 0)

/-- The completion collector: events merged, records written, delayed messages, rings enabled. (R288, R291, R292,
R293, R294, R295, 08_benches_and_tenancy.md) -/
def Obligations.CollectorAndRings : Prop :=
  (∀ (s : State) (source : Nat) (x : Event) (rest : List Event), s.powered 1 = true →
    takeEvent source s.collector.inFlight = (some x, rest) →
    ∃ t, exec (.collectorEvent source) s = .next t
      ∧ t.stagedOf source = mergeEvent (s.stagedOf source) x ∧ t.collector.inFlight = rest)
  ∧ (∀ (s : State) (src r : Nat), s.powered 1 = true → s.floorReset = 0 → s.nextSource = some src →
    r = s.ringOf src → s.portLive (s.msgPort (ringFn r)) = true →
    ∃ t, exec (.collectorRecordWrite true) s = .next t
      ∧ (t.stagedOf src).full = false ∧ t.ringTail r = (s.ringTail r + 1) % s.ringSize r
      ∧ .hostWrite (s.msgPort (ringFn r)) (s.ringBase r + 16 * s.ringTail r)
        (leBytes 16 (recordWord src (s.stagedOf src) (s.ringSt r).phase)) ∈ t.out)
  ∧ (∀ (s : State) (src r : Nat), s.powered 1 = true → s.floorReset = 0 → s.nextSource = some src →
    r = s.ringOf src →
    ∃ t, exec (.collectorRecordWrite false) s = .next t
      ∧ t.ringEn r = 0 ∧ t.getRing r F.BENCH_RING_CTL_DMA_ERR F.PF_RING_CTL_DMA_ERR = 1
      ∧ t.stagedOf src = s.stagedOf src)
  ∧ (∀ (s : State) (r vec : Nat), mapGet (fun _ => false) (s.ringSt r).waiting vec = true →
    s.msgHeld r vec = false →
    ∃ t, exec (.msixModerationExpiry r vec) s = .next t
      ∧ mapGet (fun _ => false) (t.ringSt r).waiting vec = false
      ∧ (mapGet (fun _ => none) (t.ringSt r).lastMsg vec : Option Nat) = some s.time
      ∧ (s.canSend (ringFn r) vec = true → t.out = .msix (s.msgPort (ringFn r)) (ringFn r) vec :: s.out)
      ∧ (s.canSend (ringFn r) vec = false → bitOf (t.pendBits (ringFn r)) vec = 1))
  ∧ (∀ (s : State) (src : Src) (r : Nat) (v : Word), s.mayWrite src (ringCtlReg r).1 (ringCtlReg r).2 = true →
    s.ringEn r = 0 → fldOf F.BENCH_RING_CTL_EN v = 1 →
    ∃ t, exec (.ringEnable src r v) s = .next t
      ∧ t.ringEn r = 1 ∧ t.ringHead r = 0 ∧ t.ringTail r = 0 ∧ (t.ringSt r).phase = true
      ∧ t.ringSize r = 2 ^ max 4 (min 16 (fldOf F.BENCH_RING_CTL_SIZE_EXP v)))

/-- Bench haul ports: requests, responses, incoming requests, answers, expiries and the receive buffer. (R326,
R327, R328, R330, R331, R332, R352, R353, R355, 09_haul_network.md, 10_haul_edge_cases.md) -/
def Obligations.BenchPorts : Prop :=
  (∀ (s : State) (b p k i j d0 d1 : Nat), k < 32 → j = 32 * b + k → s.portRuns b p = true → s.online b = true →
    s.isOutHopper j p = true → s.flag F.HOP_CFG_PKT j = false → s.hopWidth j = 72 →
    (s.hop j).asm = [d0, d1] → (s.hop j).asmLen = none → bitsOf d1 0 4 = opRead →
    bitsOf d0 0 48 % 4096 + bitsOf d0 60 12 + 1 ≤ 4096 → s.rspHopOk b p j (bitsOf d1 18 5) = true → i < 512 →
    (s.portTag b p i).req = none → (s.portTag b p i).since = none →
    s.reserveUsed b p + rspRoom false (bitsOf d0 0 48) (bitsOf d0 60 12) ≤ 1040 →
    s.portLocal b p (bitsOf d0 0 48) (bitsOf d0 60 12) false = none →
    ∃ t, exec (.benchPortRequest b p k i) s = .next t
      ∧ (t.portTag b p i).req.isSome = true ∧ (t.waiting b p 0).length = (s.waiting b p 0).length + 1
      ∧ (t.hop j).asm = [])
  ∧ (∀ (s : State) (b p k i j d0 d1 : Nat), k < 32 → j = 32 * b + k → s.portRuns b p = true → s.online b = true →
    s.isOutHopper j p = true → s.flag F.HOP_CFG_PKT j = false → s.hopWidth j = 72 →
    (s.hop j).asm = [d0, d1] → (s.hop j).asmLen = none → bitsOf d1 0 4 ∉ [0, 1, 2, 8, 9] →
    ∃ t, exec (.benchPortRequest b p k i) s = .next t
      ∧ t.get F.BENCH_HPORT_ERR_MALFORMED (2 * b + p) = min 65535 (s.get F.BENCH_HPORT_ERR_MALFORMED (2 * b + p) + 1)
      ∧ (t.hop j).asm = [] ∧ t.hports = s.hports)
  ∧ (∀ (s : State) (b p hdr : Nat) (flits : List (Nat × Bool)), s.portRuns b p = true →
    hOp hdr = opRdata ∨ hOp hdr = opWack → hClass hdr = clsRsp →
    flits.length = packetFlits (hOp hdr) (hAddr hdr) (hLen hdr) (hStatus hdr) →
    ∃ t, exec (.benchPortResponse b p hdr flits) s = .next t
      ∧ (∀ q, (s.portTag b p (hTag hdr % 2 ^ 9)).req = some q → (s.portTag b p (hTag hdr % 2 ^ 9)).gen = hTag hdr / 2 ^ 9 →
        q.inj.isSome = true → (t.portTag b p (hTag hdr % 2 ^ 9)).req = none)
      ∧ ((s.portTag b p (hTag hdr % 2 ^ 9)).req = none →
        t.get F.HN_LATE_RSP_COUNT (benchCol b) = min (2 ^ 32 - 1) (s.get F.HN_LATE_RSP_COUNT (benchCol b) + 1)))
  ∧ (∀ (s : State) (b p hdr o j : Nat) (flits : List (Nat × Bool)), s.portRuns b p = true → hOp hdr = opRead →
    hClass hdr = clsReq ∨ hClass hdr = clsMgt → o = (hAddr hdr - 0x020000000000) % 2 ^ 30 →
    j = 32 * b + o / 2 ^ 25 → flits = [] →
    ∃ t, exec (.benchPortIncomingRequest b p hdr flits) s = .next t
      ∧ (s.isInHopper j p = true → bitOf o 24 = p →
        (if s.hopWidth j = 144 then 1 else 2) + b2n (s.flag F.HOP_CFG_PKT j) ≤ s.hopFree b p j →
        (s.hport b p).pend.length < 256 → (t.hport b p).pend = (s.hport b p).pend
          ++ [⟨hSrc hdr, hTag hdr, hAddr hdr, hLen hdr, opRead, hEpoch hdr, s.time⟩])
      ∧ (s.isInHopper j p = false → t.hports = s.hports
        ∧ t.get F.BENCH_HPORT_ERR_REFUSED (2 * b + p) = min 65535 (s.get F.BENCH_HPORT_ERR_REFUSED (2 * b + p) + 1)))
  ∧ (∀ (s : State) (b p k j d0 d1 : Nat) (x : PendEnt), k < 32 → j = 32 * b + k → s.portRuns b p = true →
    s.online b = true → s.isOutHopper j p = true → s.flag F.HOP_CFG_PKT j = false → s.hopWidth j = 72 →
    (s.hop j).asm = [d0, d1] → (s.hop j).asmLen = none → bitsOf d1 0 4 = opWack →
    bitsOf d1 14 4 ∈ [stOk, stPoison, stRefused] →
    ((s.hport b p).pend.find? fun y => y.src == bitsOf d1 4 10 && y.tag == bitsOf d0 48 12) = some x →
    x.op = opWrite → s.portUp b p = true →
    ∃ t, exec (.benchPortImageResponse b p k) s = .next t
      ∧ (t.hport b p).pend = (s.hport b p).pend.erase x
      ∧ (t.waiting b p 1).length = (s.waiting b p 1).length + 1)
  ∧ (∀ (s : State) (b p : Nat), s.portRuns b p = true →
    ∃ t, exec (.pendingEntryExpiry b p) s = .next t
      ∧ (t.hport b p).pend = (s.hport b p).pend.filter (fun y => !decide (y.time + 1000000000 ≤ s.time))
      ∧ t.get F.BENCH_HPORT_ERR_REFUSED (2 * b + p) = min 65535 (s.get F.BENCH_HPORT_ERR_REFUSED (2 * b + p)
          + ((s.hport b p).pend.filter (fun y => decide (y.time + 1000000000 ≤ s.time))).length))
  ∧ (∀ (s : State) (src : Src) (b p : Nat) (v : Word), p < 2 →
    s.mayWrite src .BENCH_HPORT_CFG (2 * b + p) = true →
    ∃ t, exec (.hportCfgWrite src b p v) s = .next t
      ∧ (fldOf F.BENCH_HPORT_CFG_DELIVERY v = 0 ∨ 13 ≤ fldOf F.BENCH_HPORT_CFG_RXBUF_EXP v →
        t.get F.BENCH_HPORT_CFG_DELIVERY (2 * b + p) = fldOf F.BENCH_HPORT_CFG_DELIVERY v
        ∧ t.get F.BENCH_HPORT_CFG_RXBUF_EXP (2 * b + p) = max 10 (min 14 (fldOf F.BENCH_HPORT_CFG_RXBUF_EXP v)))
      ∧ (fldOf F.BENCH_HPORT_CFG_DELIVERY v = 1 → fldOf F.BENCH_HPORT_CFG_RXBUF_EXP v < 13 →
        t.flag F.BENCH_HPORT_CFG_CFG_ERR (2 * b + p) = true
        ∧ t.get F.BENCH_HPORT_CFG_DELIVERY (2 * b + p) = s.get F.BENCH_HPORT_CFG_DELIVERY (2 * b + p)
        ∧ t.get F.BENCH_HPORT_CFG_RXBUF_EXP (2 * b + p) = s.get F.BENCH_HPORT_CFG_RXBUF_EXP (2 * b + p))
      ∧ t.hports = s.hports)
  ∧ (∀ (s : State) (b p : Nat), s.portRuns b p = true →
    ∃ t, exec (.hportCfgApply b p) s = .next t
      ∧ (t.hport b p).mode = (s.get F.BENCH_HPORT_CFG_DELIVERY (2 * b + p), s.get F.BENCH_HPORT_CFG_RXBUF_EXP (2 * b + p)))
  ∧ (∀ (s : State) (b p i x : Nat) (q : PortReq), s.portRuns b p = true → (s.portTag b p i).req = some q →
    q.inj = some x → x + 1000 * s.get F.BENCH_HPORT_TMO_TMO_US (2 * b + p) ≤ s.time →
    ∃ t, exec (.requestTimeout (.bench b p i)) s = .next t
      ∧ (t.portTag b p i).req = none ∧ (t.portTag b p i).since = some s.time
      ∧ t.get F.BENCH_HPORT_TOCNT_COUNT (2 * b + p) = min (2 ^ 32 - 1) (s.get F.BENCH_HPORT_TOCNT_COUNT (2 * b + p) + 1))
  ∧ (∀ (s : State) (x i y : Nat) (r : BarReq), x < 2 → s.powered (dPcie x) = true → s.floorReset = 0 →
    (s.pcie.bars.find? fun z => z.port == x && z.ht == i) = some r → r.inj = some y →
    y + 1000 * s.get F.HN_TMO_TMO_US (3 * x) ≤ s.time →
    ∃ t, exec (.requestTimeout (.pcie x i)) s = .next t
      ∧ (t.ftag x i).busy = false ∧ (t.ftag x i).since = some s.time)
  ∧ (∀ (s : State) (b p i x : Nat), s.portRuns b p = true → (s.portTag b p i).since = some x →
    x + 1000 * s.get F.BENCH_HPORT_TMO_TMO_US (2 * b + p) ≤ s.time →
    ∃ t, exec (.tagReturn (.bench b p i)) s = .next t
      ∧ (t.portTag b p i).since = none ∧ (t.portTag b p i).gen = ((s.portTag b p i).gen + 1) % 8)
  ∧ (∀ (s : State) (x i y : Nat), x < 2 → (s.ftag x i).since = some y →
    y + 1000 * s.get F.HN_TMO_TMO_US (3 * x) ≤ s.time →
    ∃ t, exec (.tagReturn (.pcie x i)) s = .next t
      ∧ (t.ftag x i).since = none ∧ (t.ftag x i).gen = ((s.ftag x i).gen + 1) % 8)

/-- Routers: flits, the fallback path, the calibrator, route tables, epochs, fences and traces. (R307, R313, R314,
R315, R316, R334, R343, R344, R345, R348, R351, R368) -/
def Obligations.Routers : Prop :=
  (∀ (s : State) (k port x d sd : Nat), k < 80 → portPresent k port = true →
    s.powered (dHn (routerCol k)) = true → s.flag F.HN_RTR_STAT_RETIRED k = false → s.floorReset = 0 →
    port < 4 ∨ isBridgePort k (port - 4) = false →
    linkDecode x = ⟨d, sd, [], false, [false, false, false, false]⟩ → bitOf sd 0 = 1 → bitOf sd 1 = 1 →
    bitOf sd 2 = 0 → s.outState k (s.routeOf k d) = 0 →
    ∃ t, exec (.flitArrival k port x) s = .next t
      ∧ t.openAt (chKey k port (bitsOf sd 3 3)) = some ⟨d, .pass (s.routeOf k d) (vcFor k port (bitsOf sd 3 3))⟩
      ∧ (bitsOf sd 6 3 ≠ s.routeOf k d → t.flag F.HN_RTR_STAT_BYP_FAULT k = true ∧ t.flag F.HN_RTR_STAT_QUEUED k = true))
  ∧ (∀ (s : State) (k port x d sd : Nat), k < 80 → portPresent k port = true →
    s.powered (dHn (routerCol k)) = true → s.flag F.HN_RTR_STAT_RETIRED k = false → s.floorReset = 0 →
    port < 4 ∨ isBridgePort k (port - 4) = false → x < 2 ^ 576 →
    linkDecode x = ⟨d, sd, [], false, [false, false, false, false]⟩ → bitOf sd 0 = 1 → bitOf sd 1 = 0 →
    s.openAt (chKey k port (bitsOf sd 3 3)) = none →
    ∃ t, exec (.flitArrival k port x) s = .next t
      ∧ t.out = .link k port (linkWord 0 (creditSide (bitsOf sd 3 3))) :: s.out ∧ t.regs = s.regs)
  ∧ (∀ (s : State) (k port x : Nat), k < 80 → portPresent k port = true → s.powered (dHn (routerCol k)) = true →
    s.flag F.HN_RTR_STAT_RETIRED k = false → s.floorReset = 0 → (linkDecode x).badSide = true →
    ∃ t, exec (.flitArrival k port x) s = .next t
      ∧ mapGet (fun _ => false) t.haul.retrain (linkKey k port) = true ∧ .retrain k port ∈ t.out)
  ∧ (∀ (s : State) (k l x d sd : Nat), k < 80 → hasEndPoint k l = true → s.powered (dHn (routerCol k)) = true →
    s.flag F.HN_RTR_STAT_RETIRED k = false → s.floorReset = 0 →
    linkDecode x = ⟨d, sd, [], false, [false, false, false, false]⟩ → bitOf sd 0 = 1 → bitOf sd 10 = 0 →
    ∃ t, exec (.flitArrival k (8 + l) x) s = .next t
      ∧ t.out = .inject k l (linkWord 0 (creditSide (bitsOf sd 3 3))) :: s.out ∧ t.regs = s.regs)
  ∧ (∀ (s : State) (k out vc j : Nat) (q : QFlit) (rest : List QFlit), k < 80 → portPresent k out = true →
    s.powered (dHn (routerCol k)) = true → s.floorReset = 0 →
    (mapGet (fun _ => []) s.haul.synth k : List Nat) = [] →
    (upTo 56).all (fun i => (s.queueAt (56 * k + i)).head?.all fun y =>
        !(y.flit.head && s.fenceStops k y.out y.hdr)) = true →
    (s.allocHeads k out).pickVc k out = some (vc, j) → s.queueAt j = q :: rest →
    ∃ t, exec (.flitFallbackDepart k out) s = .next t
      ∧ .link k out (linkWord q.flit.data (flitSide q.flit vc (s.lookAhead k out q.hdr))) ∈ t.out
      ∧ ((upTo 16).all (fun i => (s.bridgeAt (chKey k (4 + i / 8) (i % 8))).isEmpty) = true →
        t.queueAt j = rest ∧ t.spentAt (chKey k out vc) = s.spentAt (chKey k out vc) + 1))
  ∧ (∀ (s : State) (k : Nat) (mainSound : Bool), k < 80 → s.powered (dHn (routerCol k)) = true →
    s.flag F.HN_RTR_STAT_RETIRED k = false →
    ∃ t, exec (.haulCalibratorTest k mainSound true) s = .next t
      ∧ t.flag F.HN_RTR_STAT_QUEUED k = (!mainSound || s.flag F.HN_RTR_CTL_FORCE_QUEUED k)
      ∧ mapGet (fun _ => false) t.haul.sound k = mainSound)
  ∧ (∀ (s : State) (src : Src) (k : Nat) (v : Word), s.mayWrite src .HN_RT_ENT k = true →
    s.get F.HN_RT_SEL_DEST k ≤ 22 →
    ∃ t, exec (.rtEntWrite src k v) s = .next t
      ∧ (s.get F.HN_RT_SEL_BANK k ≠ s.get F.HN_EPOCH_STAT_CUR 0 → s.get F.HN_EPOCH_STAT_DRAINING 0 = 0 →
        t.routeEntry k (s.get F.HN_RT_SEL_BANK k) (s.get F.HN_RT_SEL_DEST k) = fldOf F.HN_RT_ENT_PORT v)
      ∧ (s.get F.HN_RT_SEL_BANK k = s.get F.HN_EPOCH_STAT_CUR 0 ∨ s.get F.HN_EPOCH_STAT_DRAINING 0 = 1 →
        t.flag F.HN_EPOCH_STAT_RT_ERR 0 = true ∧ t.haul = s.haul))
  ∧ (∀ (s : State) (src : Src) (v : Word), s.mayWrite src .HN_EPOCH_CTL 0 = true →
    fldOf F.HN_EPOCH_CTL_FLIP v = 1 →
    ∃ t, exec (.epochFlip src v) s = .next t
      ∧ t.flag F.HN_EPOCH_STAT_DRAINING 0 = true
      ∧ (s.get F.HN_EPOCH_STAT_DRAINING 0 = 0 → t.haul.flipTime = s.time)
      ∧ (s.get F.HN_EPOCH_STAT_DRAINING 0 = 1 → t.flag F.HN_EPOCH_STAT_FLIP_ERR 0 = true ∧ t.haul = s.haul))
  ∧ (∀ (s : State), s.get F.HN_EPOCH_STAT_DRAINING 0 = 1 → s.epochInside (s.get F.HN_EPOCH_STAT_CUR 0) = false →
    s.epochOwed (s.get F.HN_EPOCH_STAT_CUR 0) = false →
    ∃ t, exec (.drainComplete) s = .next t
      ∧ t.get F.HN_EPOCH_STAT_CUR 0 = 1 - s.get F.HN_EPOCH_STAT_CUR 0 ∧ t.get F.HN_EPOCH_STAT_DRAINING 0 = 0
      ∧ t.get F.HN_EPOCH_STAT_LAST_DRAIN_US 0 = min 0xFFFF ((s.time - s.haul.flipTime) / 1000))
  ∧ (∀ (s : State), s.get F.HN_EPOCH_STAT_DRAINING 0 = 1 → s.haul.flipTime + 200000 ≤ s.time →
    s.haul.drainTmo = false →
    ∃ t, exec (.drainTimeout) s = .next t
      ∧ t.flag F.HN_EPOCH_STAT_DRAIN_TMO 0 = true ∧ t.haul.drainTmo = true
      ∧ t.get F.HN_EPOCH_STAT_DRAINING 0 = 1)
  ∧ (∀ (s : State) (k l : Nat), s.get (fenceFld l) k = 1 → s.endPointIdle k l = true →
    hasEndPoint k l = true ∨ isBridgePort k l = true →
    ∃ t, exec (.fenceClosingDone k l) s = .next t
      ∧ t.get (fenceFld l) k = 2)
  ∧ (∀ (s : State) (k l : Nat), s.get (fenceFld l) k = 1 →
    mapGet (fun _ => 0) s.haul.closing (3 * k + l) + 20000 ≤ s.time →
    hasEndPoint k l = true ∨ isBridgePort k l = true →
    ∃ t, exec (.fenceClosingTimeout k l) s = .next t
      ∧ t.get (fenceFld l) k = 2 ∧ (∀ b p, benchPortAt k l = some (b, p) → (t.hport b p).pend = []))
  ∧ (∀ (s : State) (src : Src) (c : Nat) (v : Word), s.mayWrite src .HN_TRC_CTL c = true →
    fldOf F.HN_TRC_CTL_CLEAR v = 1 →
    ∃ t, exec (.traceClear src c v) s = .next t
      ∧ t.get F.HN_TRC_STAT_NEXT c = 0 ∧ t.flag F.HN_TRC_STAT_WRAPPED c = false
      ∧ t.flag F.HN_TRC_STAT_FULL c = false
      ∧ (∀ i, i < 2048 → bitOf (mapGet (fun _ => 0) t.haul.trace (2048 * c + i)) 255 = 0))

/-- Column shifts, link retraining and detour tables. (R381, R382, R383, R385, R387, R391, R392, R394,
11_repair_ladder.md) -/
def Obligations.ColumnShiftsAndLinks : Prop :=
  (∀ (s : State) (b : Nat) (r : ShiftRun), s.shift b = some r → r.mapped = false → r.col < 64 →
    s.flag F.CTX_STAT_BUSY b = false → s.online b = false →
    ∃ t, exec (.shiftStop b false false false true) s = .next t
      ∧ t.flag F.BENCH_SHIFT_SHIFTED b = true ∧ t.get F.BENCH_SHIFT_RETIRED_SX b = r.col
      ∧ (t.shift b).map (fun y => (y.mapped, y.stopAt)) = some (true, s.time))
  ∧ (∀ (s : State) (b : Nat) (r : ShiftRun), s.shift b = some r → r.mapped = false → r.col < 64 →
    s.flag F.CTX_STAT_BUSY b = false → s.online b = true → s.inGang b = false →
    (mapGet (fun _ => none) s.planes.defer b : Option PlaneReq) = none →
    mapGet (fun _ => []) s.planes.cands (benchCol b) = [] → s.staticPaused b = false →
    s.get F.BENCH_SURGE_CTL_SURGE_MAX (benchCol b) ≠ 0 →
    ∃ t, exec (.shiftStop b false false false true) s = .next t
      ∧ t.online b = false ∧ t.flag F.BENCH_SHIFT_SHIFTED b = true ∧ t.get F.BENCH_SHIFT_RETIRED_SX b = r.col)
  ∧ (∀ (s : State) (b p : Nat) (r : ShiftRun) (rest : List Nat), s.shift b = some r → r.planes = p :: rest →
    r.mapped = true → p < 8 → s.powered (dCfg (benchCol b)) = true →
    ∃ t, exec (.shiftMovePlane b []) s = .next t
      ∧ t.shift b = some { r with planes := rest }
      ∧ (s.validHome b p = none → bitOf (t.get F.BENCH_REPAIR_STAT_UNVERIFIED b) p = 1))
  ∧ (∀ (s : State) (b : Nat) (r : ShiftRun), s.shift b = some r → r.mapped = true → r.planes = [] →
    s.floorReset = 0 → r.back = none ∨ s.online b = true →
    ∃ t, exec (.shiftResume b false false false true) s = .next t
      ∧ t.flag F.BENCH_SHIFT_REPAIRING b = false ∧ t.shift b = none
      ∧ t.get F.BENCH_REPAIR_STAT_LAST_US b = min 0xFFFF ((s.time - r.stopAt) / 1000))
  ∧ (∀ (s : State) (k port : Nat) (ws : List Nat), port < 7 →
    mapGet (fun _ => false) s.haul.retrain (7 * k + port) = true →
    (s.haul.wireHard.filter fun y => y.1 / 580 == 7 * k + port).map (fun y => y.1 % 580) = ws →
    ∃ t, exec (.linkRetrainDone k port) s = .next t
      ∧ mapGet (fun _ => false) t.haul.retrain (7 * k + port) = false
      ∧ (ws.length = 1 → s.get (spareFld port) k < 4 → t.get (spareFld port) k = s.get (spareFld port) k + 1)
      ∧ (ws = [] → t.get (spareFld port) k = s.get (spareFld port) k))
  ∧ (∀ (s : State), s.repair.detourDue = true → s.flag F.MBX_FW_STAT_FW_UP 0 = true →
    s.get F.HN_EPOCH_STAT_DRAINING 0 = 0 →
    ∃ t, exec (.detourTablesWritten) s = .next t
      ∧ t.repair.detourDue = false ∧ t.get F.HN_EPOCH_STAT_DRAINING 0 = 1
      ∧ (∀ k, k < 80 → t.routeEntry k (1 - s.get F.HN_EPOCH_STAT_CUR 0) (k % 20) = 7)
      ∧ (∀ k i, k < 80 → i < 23 → t.routeEntry k (s.get F.HN_EPOCH_STAT_CUR 0) i = s.routeEntry k (s.get F.HN_EPOCH_STAT_CUR 0) i))

/-- Scrubbers: passes, comparison, restores and state parity. (R396, R397, R398, R399, R403, R405,
12_scrubbing.md) -/
def Obligations.Scrubbing : Prop :=
  (∀ (s : State) (c i : Nat) (nvsOk : Bool), c < 4 → i < 2 → s.powered (dCfg c) = true → s.floorReset = 0 →
    (s.scrubber c i).failed = false → (s.scrubber c i).next ≤ s.time →
    ∃ t, exec (.scrubPassStart c i nvsOk []) s = .next t
      ∧ (t.scrubber c i).pos.isSome = true ∧ (t.scrubber c i).started = s.time
      ∧ s.time < (t.scrubber c i).next ∧ (nvsOk = true → votedEn (t.scrubber c i) = s.nvsScrub c % 2 ^ 16)
      ∧ (nvsOk = false → t.flag F.CTX_SCRUB_STAT_NVS_ERR c = true ∧ (t.scrubber c i).en = (s.scrubber c i).en))
  ∧ (∀ (s : State) (c i k p f g : Nat), c < 4 → i < 2 → s.powered (dCfg c) = true → s.floorReset = 0 →
    (s.scrubber c i).pos = some (k, p, f) → f ≠ 0 → s.inScope (16 * c + k) p = true →
    s.home (16 * c + k) p = (s.scrubber c i).home → g = 1024 * c + (s.scrubber c i).home.getD 0 →
    votedRo (s.scrubber c i) = false → (slotDecode (s.slotWord g f)).kind = .clean →
    ∃ t, exec (.scrubFrameCompare c i [] [] []) s = .next t
      ∧ (t.scrubber c i).restores.length
        = (s.scrubber c i).restores.length + (diffBits (s.planeFrame (16 * c + k) p f) (s.slotData g f)).length
      ∧ (f < 31828 → (t.scrubber c i).pos = some (k, p, f + 1)))
  ∧ (∀ (s : State) (c i k p g : Nat), c < 4 → i < 2 → s.powered (dCfg c) = true → s.floorReset = 0 →
    (s.scrubber c i).pos = some (k, p, 0) → (s.scrubber c i).home = some g → k < 16 →
    s.inScope (16 * c + k) p = true → s.home (16 * c + k) p = some g →
    (slotDecode (s.slotWord (1024 * c + g) 0)).kind = .clean →
    ∃ t, exec (.scrubFrameCompare c i [] [] []) s = .next t
      ∧ (t.scrubber c i).pos = some (k, p, 1) ∧ t.regs = s.regs)
  ∧ (∀ (s : State) (c i : Nat) (r : Restore) (rest : List Restore), c < 4 → i < 2 → s.powered (dCfg c) = true →
    s.floorReset = 0 → (s.scrubber c i).restores = r :: rest →
    ∃ t, exec (.scrubRestore c i) s = .next t
      ∧ (t.scrubber c i).restores = rest
      ∧ (s.planeSt r.bench r.plane = psReady → s.home r.bench r.plane = some r.home → t.planeFrame r.bench r.plane r.frame
          = putBits (s.planeFrame r.bench r.plane r.frame) r.bit 1 r.val % 2 ^ 512)
      ∧ (s.home r.bench r.plane ≠ some r.home → t.planes = s.planes))
  ∧ (∀ (s : State) (b p i : Nat), b < 64 → p < 8 → s.powered (dCfg (benchCol b)) = true → s.benchUp b = true →
    s.floorReset = 0 → s.planeSt b p = psReady → s.stateScrubber b p = some i →
    mapGet (fun _ => []) s.planes.parSeen (8 * b + p) = [] →
    ∃ t, exec (.scrubStateParityCheck b p []) s = .next t
      ∧ (((upTo 512).any fun j => !(s.parityBad b p j).isEmpty) = true → bitOf (t.get F.CTX_SCRUB_BENCH_PERR b) p = 1)
      ∧ (((upTo 512).any fun j => !(s.parityBad b p j).isEmpty) = false → t = s.setScrubber (benchCol b) i
        { s.scrubber (benchCol b) i with par := (s.scrubber (benchCol b) i).par.map fun l => l ++ [8 * b + p] }))

/-- The bring-up machine of a lane: every state's events, timers, faults and restarts. (R451, R452, R453, R454,
R456, R460, R461, R466, 14_lanes_and_ethernet.md) -/
def Obligations.LaneBringUp : Prop :=
  (∀ (s : State) (n : Nat) (present : Bool), s.laneUp n = true → s.laneSt n = lnDetect →
    ∃ t, exec (.detectStep n present) s = .next t
      ∧ (present = false → (t.lane n).cnt = 0 ∧ t.laneSt n = lnDetect)
      ∧ (present = true → (s.lane n).cnt = 0 → (t.lane n).cnt = 1 ∧ t.laneSt n = lnDetect)
      ∧ (present = true → (s.lane n).cnt ≠ 0 → t.laneSt n = lnTrain))
  ∧ (∀ (s : State) (n ctl crc tap : Nat) (ready : Bool), s.laneUp n = true → s.isRaw n = true →
    s.laneSt n = lnTrain → crc16 (wordBytes ctl) = crc →
    ∃ t, exec (.trainingFrame n ctl crc tap ready) s = .next t
      ∧ (s.flag F.LANE_TX_TX_DIS n = false → s.flag F.LANE_PRBS_GEN_EN n = false → t.out.length = s.out.length + 1)
      ∧ (s.flag F.LANE_TX_TX_DIS n = true → t.out = s.out) ∧ (t.lane n).ackTgl = bitOf ctl 13
      ∧ (bitOf ctl 12 = 1 → 2 ≤ (s.lane n).cnt → ready = true → t.laneSt n = lnLock)
      ∧ (bitOf ctl 12 = 1 → ready = false → t.laneSt n = lnTrain ∧ (t.lane n).cnt = (s.lane n).cnt + 1)
      ∧ (bitOf ctl 12 = 0 → t.laneSt n = lnTrain ∧ (t.lane n).cnt = 0)
      ∧ (bitOf ctl 13 ≠ (s.lane n).ackTgl → bitOf ctl 13 = (t.lane n).ackTgl ∧ (t.lane n).taps = (upTo 4).map fun i => tapStep ((s.lane n).taps.getD i 0) (bitsOf ctl (2 * i) 2))
      ∧ (bitOf ctl 13 = (s.lane n).ackTgl → (t.lane n).taps = (s.lane n).taps))
  ∧ (∀ (s : State) (n ctl crc tap : Nat) (ready : Bool), crc16 (wordBytes ctl) ≠ crc →
    ∃ t, exec (.trainingFrame n ctl crc tap ready) s = .next t
      ∧ t.laneSt n = s.laneSt n ∧ (t.lane n).cnt = (s.lane n).cnt ∧ (t.lane n).taps = (s.lane n).taps
      ∧ (t.lane n).ackTgl = (s.lane n).ackTgl ∧ t.regs = s.regs)
  ∧ (∀ (s : State) (n : Nat), s.laneUp n = true → s.isEth n = true → s.laneSt (s.laneHead n) = lnTrain →
    ∃ t, exec (.linkTrainingFrame n true) s = .next t
      ∧ t.laneSt (s.laneHead n) = lnLock)
  ∧ (∀ (s : State) (n : Nat) (marker chip : Bool), s.laneUp n = true → s.laneSt (s.laneHead n) = lnLock →
    ∃ t, exec (.lockFrame n marker chip) s = .next t
      ∧ (marker = false → (t.lane (s.laneHead n)).cnt = 0 ∧ t.laneSt (s.laneHead n) = lnLock)
      ∧ (marker = true → (s.lane (s.laneHead n)).cnt < 15 → (t.lane (s.laneHead n)).cnt = (s.lane (s.laneHead n)).cnt + 1 ∧ t.laneSt (s.laneHead n) = lnLock)
      ∧ (marker = true → 15 ≤ (s.lane (s.laneHead n)).cnt → t.flag F.LANE_STAT_LOL (s.laneHead n) = false
        ∧ t.laneSt (s.laneHead n) = if s.isEth (s.laneHead n) && chip then lnActive else lnExchange))
  ∧ (∀ (s : State) (n : Nat) (rf done : Bool), s.laneUp n = true → s.isEth n = true →
    s.laneSt (s.laneHead n) = lnExchange →
    ∃ t, exec (.autoNegotiationPage n rf done) s = .next t
      ∧ t.flag F.ETH_PORT_STAT_RF (s.laneHead n) = rf
      ∧ (done = true → t.laneSt (s.laneHead n) = lnActive ∧ t.flag F.ETH_PORT_STAT_AN_DONE (s.laneHead n) = true)
      ∧ (done = false → t.laneSt (s.laneHead n) = lnExchange))
  ∧ (∀ (s : State) (n : Nat), s.laneUp n = true → s.isRaw n = true → s.laneSt n = lnExchange →
    ∃ t, exec (.capabilityFrame n none) s = .next t
      ∧ ((s.lane n).gotReady = true → t.laneSt n = lnActive)
      ∧ ((s.lane n).gotReady = false → t.laneSt n = lnExchange ∧ (t.lane n).seq = (s.lane n).seq + 1
        ∧ (t.lane n).cnt = (if (s.lane n).cnt < 2 then 0 else (s.lane n).cnt)))
  ∧ (∀ (s : State) (n p crc : Nat) (rdy : Bool), rdy = ((s.lane n).gotReady || bitOf p 64 == 1) →
    s.laneUp n = true → s.isRaw n = true → s.laneSt n = lnExchange → bitsOf p 0 16 = 0x4B56 →
    bitsOf p 16 4 = 1 → crc32c (leBytes 32 p) = crc →
    ∃ t, exec (.capabilityFrame n (some (p, crc))) s = .next t
      ∧ t.reg .LANE_PEER_ID n = BitVec.ofNat 32 (bitsOf p 32 32)
      ∧ t.reg .LANE_PEER_USER n = BitVec.ofNat 32 (bitsOf p 96 32)
      ∧ (bitsOf p 20 2 ≠ s.laneMode n → t.laneSt n = lnFault ∧ t.get F.LANE_STAT_FAULT_WHY n = whyMode)
      ∧ (bitsOf p 20 2 = s.laneMode n → s.flag F.LANE_CTL_PEER_CHK n = true → bitsOf p 32 32 ≠ (s.reg .LANE_LINKID n).toNat
        → t.laneSt n = lnFault ∧ t.get F.LANE_STAT_FAULT_WHY n = whyPeer)
      ∧ (bitsOf p 20 2 = s.laneMode n → s.flag F.LANE_CTL_PEER_CHK n = false → t.laneSt n = lnExchange ∧ (t.lane n).gotReady = rdy)
      ∧ (bitsOf p 20 2 = s.laneMode n → s.flag F.LANE_CTL_PEER_CHK n = false → rdy = false ∨ (s.lane n).cnt < 2
        → (t.lane n).cnt = (s.lane n).cnt + 1 ∧ (t.lane n).seq = (s.lane n).seq + 1)
      ∧ (bitsOf p 20 2 = s.laneMode n → s.flag F.LANE_CTL_PEER_CHK n = false → rdy = false ∨ (s.lane n).cnt < 2
        → s.flag F.LANE_TX_TX_DIS n = false → s.flag F.LANE_PRBS_GEN_EN n = false → t.out.length = s.out.length + 1)
      ∧ (bitsOf p 20 2 = s.laneMode n → s.flag F.LANE_CTL_PEER_CHK n = false → rdy = true → 2 ≤ (s.lane n).cnt
        → (t.lane n).sendsData = true ∧ t.out = s.out))
  ∧ (∀ (s : State) (n p crc : Nat), s.laneUp n = true → s.isRaw n = true → s.laneSt n = lnExchange →
    crc32c (leBytes 32 p) ≠ crc →
    ∃ t, exec (.capabilityFrame n (some (p, crc))) s = .next t
      ∧ t.laneSt n = lnExchange
      ∧ ((s.lane n).gotReady = false → (t.lane n).seq = (s.lane n).seq + 1
        ∧ (t.lane n).cnt = (if (s.lane n).cnt < 2 then 0 else (s.lane n).cnt)))
  ∧ (∀ (s : State) (n x : Nat), s.laneUp n = true → s.laneTimer (s.laneHead n) = some x →
    (s.lane (s.laneHead n)).since + x ≤ s.time →
    ∃ t, exec (.laneTimerExpiry n) s = .next t
      ∧ t.laneSt (s.laneHead n) = lnFault ∧ t.get F.LANE_STAT_FAULT_WHY (s.laneHead n) = whyTimeout
      ∧ t.get F.LANE_STAT_FAULT_CNT (s.laneHead n) = min 255 (s.get F.LANE_STAT_FAULT_CNT (s.laneHead n) + 1))
  ∧ (∀ (s : State) (n : Nat), s.laneUp n = true → s.laneSt (s.laneHead n) = lnFault →
    s.flag F.LANE_CTL_AUTO_RESTART (s.laneHead n) = true → (s.lane (s.laneHead n)).since + 1000000 ≤ s.time →
    ∃ t, exec (.faultRestartTimer n) s = .next t
      ∧ t.laneSt (s.laneHead n) = if s.laneMode (s.laneHead n) = 0 then lnDisabled
        else if s.isRaw (s.laneHead n) && s.flag F.LANE_CTL_DETECT_EN (s.laneHead n) then lnDetect else lnTrain)
  ∧ (∀ (s : State) (n : Nat), s.laneUp n = true → s.laneBlank n = false →
    ∃ t, exec (.losAssert n) s = .next t
      ∧ t.flag F.LANE_STAT_LOS n = true
      ∧ (s.laneRuns (s.laneHead n) = true → t.laneSt (s.laneHead n) = lnFault ∧ t.get F.LANE_STAT_FAULT_WHY (s.laneHead n) = whyLos)
      ∧ (s.laneRuns (s.laneHead n) = false → t.laneSt (s.laneHead n) = s.laneSt (s.laneHead n)))
  ∧ (∀ (s : State) (n : Nat), s.laneBlank n = true →
    ∃ t, exec (.losAssert n) s = .next t
      ∧ t = s)
  ∧ (∀ (s : State) (n : Nat), s.laneUp n = true →
    ∃ t, exec (.losClear n) s = .next t
      ∧ t.flag F.LANE_STAT_LOS n = false ∧ t.laneSt n = s.laneSt n ∧ t.lanes = s.lanes)
  ∧ (∀ (s : State) (n : Nat), s.laneUp n = true → s.laneBlank n = false →
    ∃ t, exec (.lolAssert n) s = .next t
      ∧ t.flag F.LANE_STAT_LOL n = true
      ∧ (s.laneRuns (s.laneHead n) = true → t.laneSt (s.laneHead n) = lnFault ∧ t.get F.LANE_STAT_FAULT_WHY (s.laneHead n) = whyLol)
      ∧ (s.laneRuns (s.laneHead n) = false → t.laneSt (s.laneHead n) = s.laneSt (s.laneHead n)))
  ∧ (∀ (s : State) (src : Src) (n : Nat) (v : Word), s.mayWrite src .LANE_CTL n = true →
    ∃ t, exec (.laneRestart src n v) s = .next t
      ∧ (s.laneSt (s.laneHead n) = lnFault → (s.lane (s.laneHead n)).since = s.time → t.laneSt (s.laneHead n) = lnFault)
      ∧ t.get F.LANE_CTL_TRAIN_TMO n = max 1 (fldOf F.LANE_CTL_TRAIN_TMO v)
      ∧ (fldOf F.LANE_CTL_RESTART v = 0 → t.laneSt (s.laneHead n) = s.laneSt (s.laneHead n))
      ∧ (fldOf F.LANE_CTL_RESTART v = 1 → s.laneSt (s.laneHead n) = lnActive → t.laneSt (s.laneHead n) = lnFault
        ∧ t.get F.LANE_STAT_FAULT_WHY (s.laneHead n) = whyHost)
      ∧ (fldOf F.LANE_CTL_RESTART v = 1 → s.laneSt (s.laneHead n) ≠ lnActive
        → ¬(s.laneSt (s.laneHead n) = lnFault ∧ (s.lane (s.laneHead n)).since = s.time) → s.laneMode (s.laneHead n) = 0 → t.laneSt (s.laneHead n) = lnDisabled)
      ∧ (fldOf F.LANE_CTL_RESTART v = 1 → s.laneSt (s.laneHead n) ≠ lnActive
        → ¬(s.laneSt (s.laneHead n) = lnFault ∧ (s.lane (s.laneHead n)).since = s.time) → s.laneMode (s.laneHead n) = 1 → t.laneSt (s.laneHead n) = lnTrain))

/-- Octet words, raw items, Ethernet frames, timestamps, PRBS tests and recalibration. (R440, R443, R444, R447,
R449, R455, R457, R464, R465, R466, R479, 14_lanes_and_ethernet.md) -/
def Obligations.LaneTraffic : Prop :=
  (∀ (s : State) (src : Src) (o : Nat) (v : Word), s.mayWrite src .ETH_OCT_CFG o = true →
    ∃ t, exec (.octCfgWrite src o v) s = .next t
      ∧ (octBad v.toNat = true → t.flag F.ETH_OCT_STAT_CFG_ERR o = true ∧ t.reg .ETH_OCT_CFG o = s.reg .ETH_OCT_CFG o ∧ t.lanes = s.lanes)
      ∧ (octBad v.toNat = false → s.octDenied o v.toNat = true → t.flag F.ETH_OCT_STAT_CFG_ERR o = true
        ∧ t.reg .ETH_OCT_CFG o = s.reg .ETH_OCT_CFG o ∧ t.lanes = s.lanes
        ∧ t.get F.HLU_REFUSE_Q 0 = (if o < 4 then 11 else 12))
      ∧ (octBad v.toNat = false → s.octDenied o v.toNat = false → t.reg .ETH_OCT_CFG o = v
        ∧ ∀ j ∈ upTo 8, octField (s.reg .ETH_OCT_CFG o).toNat j ≠ octField v.toNat j → octMode (octField v.toNat j) = 0
          → t.laneSt (8 * o + j) = lnDisabled))
  ∧ (∀ (s : State) (n item : Nat) (carried : Bool), s.laneUp n = true → s.flag F.LANE_PRBS_CHK_EN n = false →
    s.laneMode n = 3 → s.laneSt n = lnActive →
    ∃ t, exec (.rawRxItem n item carried) s = .next t
      ∧ (t.lane n).rxItem = ((s.lane n).rxItem % s.wayCount n + 1) % s.wayCount n
      ∧ (s.floorReset = 0 → s.laneBlank n = false → (s.laneWays n true)[(s.lane n).rxItem % s.wayCount n]? = none
        → t.get F.LANE_DROP_RX_DROP n = min 65535 (s.get F.LANE_DROP_RX_DROP n + 1) ∧ t.hoppers = s.hoppers)
      ∧ (s.floorReset ≠ 0 ∨ s.laneBlank n = true → t.hoppers = s.hoppers
        ∧ t.get F.LANE_DROP_RX_DROP n = min 65535 (s.get F.LANE_DROP_RX_DROP n + 1)))
  ∧ (∀ (s : State) (n : Nat), s.laneUp n = true → s.isRaw n = true → s.laneSt n = lnActive →
    s.flag F.LANE_PRBS_GEN_EN n = false →
    ∃ t, exec (.rawTxItem n) s = .next t
      ∧ (t.lane n).txItem = ((s.lane n).txItem % s.wayCount n + 1) % s.wayCount n
      ∧ (s.flag F.LANE_TX_TX_DIS n = false → t.out.length = s.out.length + 1)
      ∧ (s.flag F.LANE_TX_TX_DIS n = true → t.out = s.out))
  ∧ (∀ (s : State) (n ts frac corr uncorr : Nat) (bs : List Byte) (fcsOk carried : Bool), s.laneLive n = true →
    s.isEth n = true → s.laneHead n = n → s.floorReset = 0 → s.laneBlank n = false →
    s.flag F.LANE_PRBS_CHK_EN n = false →
    ∃ t, exec (.ethRxFrame n bs fcsOk ts frac carried corr uncorr) s = .next t
      ∧ t.get F.ETH_RX_FRAMES_COUNT n = (s.get F.ETH_RX_FRAMES_COUNT n + 1) % 2 ^ 32
      ∧ t.get F.ETH_FEC_CORR_COUNT n = min (2 ^ 32 - 1) (s.get F.ETH_FEC_CORR_COUNT n + corr)
      ∧ t.get F.ETH_FEC_UNCORR_COUNT n = min (2 ^ 32 - 1) (s.get F.ETH_FEC_UNCORR_COUNT n + uncorr)
      ∧ (fcsOk = false ∨ fcsGood bs = false ∨ bs.length < 64 ∨ s.get F.ETH_PORT_CFG_MAX_FRAME n < bs.length
        → t.get F.ETH_RX_ERR_FCS_ERR n = min 65535 (s.get F.ETH_RX_ERR_FCS_ERR n + 1))
      ∧ (fcsOk = true → fcsGood bs = true → 64 ≤ bs.length → bs.length ≤ s.get F.ETH_PORT_CFG_MAX_FRAME n
        → t.get F.ETH_RX_ERR_FCS_ERR n = s.get F.ETH_RX_ERR_FCS_ERR n)
      ∧ (fcsOk = false ∨ fcsGood bs = false → s.flag F.ETH_PORT_CFG_FCS_DROP n = true → t.hoppers = s.hoppers))
  ∧ (∀ (s : State) (n ts frac j d : Nat) (ds : List Nat), s.laneLive n = true → s.isEth n = true →
    s.laneHead n = n → s.floorReset = 0 → s.flag F.LANE_PRBS_GEN_EN n = false →
    s.flag F.LANE_TX_TX_DIS n = false →
    ((s.portWays n false (s.lane n).txWay).find? fun k => !s.wayFenced n k false && s.hopRvalid k) = some j →
    s.reachesBench (n / 16) (j / 32) true = true → (s.fillPort j).asmWhole j = true → s.hopWidth j = 72 →
    ((s.fillPort j).hop j).asm = d :: ds →
    ((s.fillPort j).hop j).asmLen = some (false, 1 + (bitsOf d 0 14 + 7) / 8) →
    bitsOf d 0 14 + 4 ≤ s.get F.ETH_PORT_CFG_MAX_FRAME n →
    ∃ t, exec (.ethTxFrame n ts frac) s = .next t
      ∧ t.out = .ethFrame n (injectBytes (s.lane n).inj (macFrame (((ds.map fun z => leBytes 8 z).flatten).take (bitsOf d 0 14))))
        :: s.out
      ∧ t.get F.ETH_TX_FRAMES_COUNT n = (s.get F.ETH_TX_FRAMES_COUNT n + 1) % 2 ^ 32
      ∧ (t.lane n).txWay = j + 1 ∧ (t.hop j).asm = [])
  ∧ (∀ (s : State) (n id ts frac : Nat) (rest : List (Nat × Nat × Nat)), s.laneUp n = true →
    (s.lane n).txts = (id, ts, frac) :: rest →
    ∃ t, exec (.txtsRead n) s = .next t
      ∧ (t.lane n).txts = rest ∧ t.flag F.ETH_TXTS_ID_VALID n = true
      ∧ t.get F.ETH_TXTS_ID_TS_ID n = id % 2 ^ 16 ∧ t.get F.ETH_TXTS_ID_FRAC n = frac % 2 ^ 8
      ∧ t.get F.ETH_TXTS_LO_TS_LO n = ts % 2 ^ 32 ∧ t.get F.ETH_TXTS_HI_TS_HI n = ts / 2 ^ 32 % 2 ^ 32)
  ∧ (∀ (s : State) (n : Nat), s.laneUp n = true → (s.lane n).txts = [] →
    ∃ t, exec (.txtsRead n) s = .next t
      ∧ t.reg .ETH_TXTS_ID n = 0 ∧ t.lanes = s.lanes)
  ∧ (∀ (s : State) (src : Src) (n : Nat) (v : Word), s.mayWrite src .LANE_PRBS n = true →
    ∃ t, exec (.lanePrbsWrite src n v) s = .next t
      ∧ t.get F.LANE_PRBS_PAT n = min 5 (fldOf F.LANE_PRBS_PAT v)
      ∧ t.get F.LANE_PRBS_BURST_LEN n = max 1 (fldOf F.LANE_PRBS_BURST_LEN v)
      ∧ (fldOf F.LANE_PRBS_CHK_EN v = 1 → s.flag F.LANE_PRBS_CHK_EN n = false → t.flag F.LANE_PRBS_CHK_LOCK n = false
        ∧ t.get F.LANE_PRBS_ERR_ERRORS n = 0 ∧ t.get F.LANE_PRBS_BITS_MBITS n = 0)
      ∧ (fldOf F.LANE_PRBS_CHK_EN v = 0 → t.flag F.LANE_PRBS_CHK_LOCK n = false)
      ∧ (fldOf F.LANE_PRBS_GEN_EN v = 1 → s.flag F.LANE_PRBS_GEN_EN n = false → (t.lane n).gen.reg ≠ 0))
  ∧ (∀ (s : State) (src : Src) (n : Nat) (v : Word), s.mayWrite src .LANE_PRBS n = true →
    fldOf F.LANE_PRBS_INJ_1 v = 1 ∨ fldOf F.LANE_PRBS_INJ_BURST v = 1 →
    ∃ t, exec (.prbsInject src n v) s = .next t
      ∧ ((s.lane n).inj = 0 → (t.lane n).inj
        = if fldOf F.LANE_PRBS_INJ_1 v = 1 then 1 else max 1 (fldOf F.LANE_PRBS_BURST_LEN v))
      ∧ ((s.lane n).inj ≠ 0 → (t.lane n).inj = (s.lane n).inj))
  ∧ (∀ (s : State) (n k : Nat), s.laneUp n = true → k < 72 → (s.lane n).elem = none →
    (s.lane n).retired.contains k = false →
    ∃ t, exec (.elementRecalStart n k) s = .next t
      ∧ (t.lane n).elem = some k ∧ t.flag F.LANE_SQ_STALE n = true)
  ∧ (∀ (s : State) (n bg eye snr k : Nat) (ok : Bool), (s.lane n).elem = some k →
    ∃ t, exec (.elementRecalDone n ok bg eye snr) s = .next t
      ∧ (t.lane n).elem = none ∧ t.flag F.LANE_SQ_STALE n = false ∧ t.get F.LANE_SQ_EYE_MV n = eye % 1024
      ∧ t.get F.LANE_SQ_SNR n = snr % 1024
      ∧ (ok = true → (t.lane n).retired = (s.lane n).retired ∧ (t.calVal 3 (72 * n + k)).bg
        = (if (s.calVal 3 (72 * n + k)).keep then (s.calVal 3 (72 * n + k)).bg else bg % 256))
      ∧ (ok = false → (t.lane n).retired = (s.lane n).retired ++ [k]
        ∧ t.flag F.LANE_STAT_CAL_EXH n
          = (s.flag F.LANE_STAT_CAL_EXH n || sparesLeft ((s.lane n).retired ++ [k]) k == 0)))
  ∧ (∀ (s : State) (o j x : Nat), o < 8 → j < 8 → mapGet (fun _ => none) s.lanes.blank o = some x →
    x + 5000 ≤ s.time →
    ∃ t, exec (.twinBlankEnd o [j]) s = .next t
      ∧ (mapGet (fun _ => none) t.lanes.blank o : Option Nat) = none
      ∧ t.flag F.LANE_STAT_LOL (8 * o + j) = true
      ∧ (s.laneRuns (s.laneHead (8 * o + j)) = true → t.laneSt (s.laneHead (8 * o + j)) = lnFault))
  ∧ (∀ (s : State) (o x : Nat), o < 8 → mapGet (fun _ => none) s.lanes.blank o = some x → x + 5000 ≤ s.time →
    ∃ t, exec (.twinBlankEnd o []) s = .next t
      ∧ (mapGet (fun _ => none) t.lanes.blank o : Option Nat) = none ∧ t.regs = s.regs)

/-- Oscillators, PLL locks, monitor windows, ramps, returns, fabric clocks, device time and clock outputs. (R467,
R468, R469, R470, R471, R472, R473, R475, R476, R479, R480, 15_clocks.md) -/
def Obligations.ClockSources : Prop :=
  (∀ (s : State) (o : Nat), o < 3 → s.oscStable o = false → s.flag (oscFailFld o) 0 = false →
    ∃ t, exec (.oscStable o) s = .next t
      ∧ t.oscStable o = true ∧ (o < 2 → t.oscTrim o = true ∧ t.flag F.CLK_MON_LOCKED o = true)
      ∧ (o = 2 → t.get F.CLK_OSC_STAT_DT_SRC 0 = 0))
  ∧ (∀ (s : State) (o : Nat), 3 ≤ o → o < 13 →
    ∃ t, exec (.oscStable o) s = .next t
      ∧ mapGet (fun _ => false) t.clocks.extStable (o - 3) = true)
  ∧ (∀ (s : State) (m i : Nat), s.pllFed m = true →
    ∃ t, exec (.pllLock m i) s = .next t
      ∧ ((hasTwin m && i != s.get F.CLK_MON_TWIN m) = true → t.flag F.CLK_MON_STBY_OK m = true ∧ t.flag F.CLK_MON_LOCKED m = s.flag F.CLK_MON_LOCKED m)
      ∧ ((hasTwin m && i != s.get F.CLK_MON_TWIN m) = false → t.flag F.CLK_MON_LOCKED m = true))
  ∧ (∀ (s : State) (m i : Nat), 3 ≤ m → m < 54 → (hasTwin m && i != s.get F.CLK_MON_TWIN m) = true →
    ∃ t, exec (.pllLockDrop m i) s = .next t
      ∧ t.flag F.CLK_MON_STBY_OK m = false ∧ t.flag F.CLK_MON_LOCKED m = s.flag F.CLK_MON_LOCKED m)
  ∧ (∀ (s : State) (m i : Nat), 3 ≤ m → m < 54 → (hasTwin m && i != s.get F.CLK_MON_TWIN m) = false →
    s.flag F.CLK_MON_LOCKED m = true → s.flag F.CLK_MON_ON_FALLBACK m = false →
    ∃ t, exec (.pllLockDrop m i) s = .next t
      ∧ (s.flag F.CLK_MON_ARMED m = false → t = s.set F.CLK_MON_LOCKED m 0)
      ∧ (s.flag F.CLK_MON_ARMED m = true → (hasTwin m && s.flag F.CLK_MON_STBY_OK m) = false → t.flag F.CLK_MON_TRIPPED m = true
        ∧ t.flag F.CLK_MON_ON_FALLBACK m = true ∧ t.flag F.CLK_MON_LOCKED m = false)
      ∧ (s.flag F.CLK_MON_ARMED m = true → (hasTwin m && s.flag F.CLK_MON_STBY_OK m) = true → t.flag F.CLK_MON_TRIPPED m = true
        ∧ t.flag F.CLK_MON_ON_FALLBACK m = false ∧ t.flag F.CLK_MON_LOCKED m = true ∧ t.flag F.CLK_MON_STBY_OK m = false
        ∧ t.get F.CLK_MON_TWIN m = 1 - s.get F.CLK_MON_TWIN m))
  ∧ (∀ (s : State) (m cnt : Nat), m < 54 → s.flag F.CLK_MON_ARMED m = true →
    ∃ t, exec (.monitorWindowEnd m cnt) s = .next t
      ∧ t.get F.CLK_MON_LAST_COUNT m = min (2 ^ 20 - 1) cnt
      ∧ (m = 0 → t.clocks.mon0Bad = (s.clocks.mon0Bad || !inBand (s.monExpect m) cnt))
      ∧ (3 ≤ m → inBand (s.monExpect m) cnt = true → t.dom m
        = { s.dom m with good := if s.flag F.CLK_MON_LOCKED m then min 16 ((s.dom m).good + 1) else 0, lastIn := true })
      ∧ (3 ≤ m → inBand (s.monExpect m) cnt = false → s.flag F.CLK_MON_ON_FALLBACK m = false
        → (hasTwin m && s.flag F.CLK_MON_STBY_OK m) = false → t.flag F.CLK_MON_TRIPPED m = true ∧ t.flag F.CLK_MON_ON_FALLBACK m = true)
      ∧ (m = 1 → s.clocks.mon0Bad = false → inBand (s.monExpect m) cnt = false → t.flag F.CLK_OSC_STAT_REF_FAIL 0 = true
        ∧ t.flag F.CLK_OSC_STAT_REF_STABLE 0 = false ∧ t.get F.CLK_OSC_STAT_DT_SRC 0 ≠ 0))
  ∧ (∀ (s : State) (m : Nat) (r : ClkRamp), (s.dom m).ramp = some r →
    ∃ t, exec (.rampDwellEnd m) s = .next t
      ∧ (r.down = true → r.div < 16 → (t.dom m).ramp = some { r with div := 2 * r.div })
      ∧ (r.down = true → 16 ≤ r.div → (t.dom m).ramp = some { r with down := false, div := 16 })
      ∧ (r.down = true → 16 ≤ r.div → r.toPll = true → t.flag F.CLK_MON_ON_FALLBACK m = false)
      ∧ (r.down = false → r.div ≤ 2 → (t.dom m).ramp = none)
      ∧ (r.down = false → 2 < r.div → (t.dom m).ramp = some { r with div := r.div / 2 }))
  ∧ (∀ (s : State) (b j : Nat), b < 64 → j < 4 → s.effDiv b j < s.clkLag b j →
    ∃ t, exec (.dividerStep b j) s = .next t
      ∧ t.clkLag b j = (if (s.clkLag b j + 1) / 2 ≤ s.effDiv b j then 0 else (s.clkLag b j + 1) / 2)
      ∧ t.benchDiv b j = max (s.effDiv b j) ((s.clkLag b j + 1) / 2))
  ∧ (∀ (s : State) (m : Nat) (src : Src) (v : Word), s.mayWrite src .CLK_MON m = true → 3 ≤ m →
    fldOf F.CLK_MON_RETURN v = 1 → s.flag F.CLK_MON_ON_FALLBACK m = true → s.returning m = false →
    s.flag F.CLK_MON_LOCKED m = true → (s.dom m).lastIn = true →
    ∃ t, exec (.clkReturn m (some (src, v))) s = .next t
      ∧ t.returning m = true ∧ t.get F.CLK_MON_FB_PREF m = fldOf F.CLK_MON_FB_PREF v
      ∧ t.get F.CLK_MON_AUTO_RET m = fldOf F.CLK_MON_AUTO_RET v ∧ t.flag F.CLK_MON_ON_FALLBACK m = true)
  ∧ (∀ (s : State) (m : Nat), 3 ≤ m → m < 54 → s.flag F.CLK_MON_AUTO_RET m = true →
    s.flag F.CLK_MON_ON_FALLBACK m = true → s.returning m = false → s.flag F.CLK_MON_LOCKED m = true →
    16 ≤ (s.dom m).good →
    ∃ t, exec (.clkReturn m none) s = .next t
      ∧ (t.dom m).ramp.map (fun r => (r.down, r.toPll)) = some (true, true) ∧ t.regs = s.regs)
  ∧ (∀ (s : State) (src : Src) (n : Nat) (v : Word), s.mayWrite src .CLK_FAB n = true →
    ∃ t, exec (.clkFabWrite src n v) s = .next t
      ∧ (64 ≤ fldOf F.CLK_FAB_MULT v → fldOf F.CLK_FAB_MULT v ≤ 320 → (s.nodeInUse n = false ∨ s.flag F.CLK_MON_ON_FALLBACK (8 + n) = true)
        → t.get F.CLK_FAB_MULT n = fldOf F.CLK_FAB_MULT v ∧ t.flag F.CLK_MON_LOCKED (8 + n) = false ∧ t.flag F.CLK_MON_ARMED (8 + n) = false)
      ∧ (fldOf F.CLK_FAB_MULT v < 64 ∨ 320 < fldOf F.CLK_FAB_MULT v ∨ (s.nodeInUse n = true ∧ s.flag F.CLK_MON_ON_FALLBACK (8 + n) = false)
        → t.get F.CLK_FAB_MULT n = s.get F.CLK_FAB_MULT n ∧ t.flag F.CLK_FAB_CFG_ERR n = true))
  ∧ (∀ (s : State), s.powered 0 = true →
    ∃ t, exec (.deviceTimeTick) s = .next t
      ∧ t.time = (s.time + (if s.get F.CLK_OSC_STAT_DT_SRC 0 = 0 then 40 else 5)) % 2 ^ 64 ∧ t.regs = s.regs)
  ∧ (∀ (s : State) (src : Src) (i x d : Nat) (v : Word), s.mayWrite src .CLK_OUT i = true →
    s.catalogFreq (fldOf F.CLK_OUT_SEL v) = some (x, d) → x ≤ 40 * (2 ^ (fldOf F.CLK_OUT_K_M1 v + 1) * d) →
    ∃ t, exec (.clkoutWrite src i v) s = .next t
      ∧ (fldOf F.CLK_OUT_EN v = 0 ∨ bitOf (s.hluEff 17) 1 = 1 → t.get F.CLK_OUT_SEL i = fldOf F.CLK_OUT_SEL v
        ∧ t.get F.CLK_OUT_K_M1 i = fldOf F.CLK_OUT_K_M1 v ∧ t.get F.CLK_OUT_EN i = fldOf F.CLK_OUT_EN v)
      ∧ (fldOf F.CLK_OUT_EN v = 1 → bitOf (s.hluEff 17) 1 = 0 → t.flag F.CLK_OUT_CFG_ERR i = true
        ∧ t.get F.CLK_OUT_EN i = s.get F.CLK_OUT_EN i ∧ t.get F.CLK_OUT_SEL i = s.get F.CLK_OUT_SEL i ∧ t.get F.HLU_REFUSE_Q 0 = 17))
  ∧ (∀ (s : State) (src : Src) (i : Nat) (v : Word), s.mayWrite src .CLK_OUT i = true →
    s.catalogFreq (fldOf F.CLK_OUT_SEL v) = none →
    ∃ t, exec (.clkoutWrite src i v) s = .next t
      ∧ t.flag F.CLK_OUT_CFG_ERR i = true ∧ t.get F.CLK_OUT_SEL i = s.get F.CLK_OUT_SEL i
      ∧ t.get F.CLK_OUT_EN i = s.get F.CLK_OUT_EN i)

/-- Power domains: requests, refusals and every step of a power-down and a power-up. (R496, R497, R498, R499,
R500, R501, R502, R504, R506, 16_power_domains.md) -/
def Obligations.PowerDomains : Prop :=
  (∀ (s : State) (src : Src) (d : Nat) (v : Word), s.mayWrite src .PWR_DOM d = true → fldOf F.PWR_DOM_ON v = 0 →
    s.floorReset = 0 →
    ∃ t, exec (.domainPowerDown src d v) s = .next t
      ∧ (s.flag F.PWR_DOM_ON d = false → t.domSt d = s.domSt d ∧ t.flag F.PWR_DOM_ON d = false)
      ∧ (s.flag F.PWR_DOM_ON d = true → s.pwrCheck d false ≠ 0 → t.domSt d = s.domSt d ∧ t.flag F.PWR_DOM_ON d = true
        ∧ t.flag F.PWR_DOM_ERR d = true ∧ t.get F.PWR_DOM_REASON d = s.pwrCheck d false)
      ∧ (s.flag F.PWR_DOM_ON d = true → s.pwrCheck d false = 0 → (d < 33 ∨ s.flag F.BENCH_SHIFT_REPAIRING (d - 33) = false)
        → t.domSt d = pdQuiesce ∧ t.flag F.PWR_DOM_ON d = false))
  ∧ (∀ (s : State) (src : Src) (d : Nat) (v : Word), s.mayWrite src .PWR_DOM d = true → fldOf F.PWR_DOM_ON v = 1 →
    s.floorReset = 0 → s.flag F.PWR_DOM_ON d = false → s.power.rampWait = [] →
    ∃ t, exec (.domainPowerUp src d v) s = .next t
      ∧ (s.pwrCheck d true ≠ 0 → t.domSt d = s.domSt d ∧ t.flag F.PWR_DOM_ERR d = true ∧ t.get F.PWR_DOM_REASON d = s.pwrCheck d true)
      ∧ (s.pwrCheck d true = 0 → s.ramping < 4 → t.domSt d = pdRamp ∧ t.flag F.PWR_DOM_ON d = true ∧ t.power.rampWait = [])
      ∧ (s.pwrCheck d true = 0 → 4 ≤ s.ramping → t.domSt d = s.domSt d ∧ t.flag F.PWR_DOM_ON d = true ∧ t.power.rampWait = [d]))
  ∧ (∀ (s : State) (d : Nat) (fa ho sc la : Bool), d < 97 → s.domSt d = pdQuiesce → s.floorReset = 0 →
    s.quiet d = true →
    ∃ t, exec (.quiesceDone d fa ho sc la) s = .next t
      ∧ (d < 33 ∨ t.online (d - 33) = false → t.domSt d = pdFence ∨ t.domSt d = pdIsolate)
      ∧ (33 ≤ d → t.online (d - 33) = true → t.domSt d = pdQuiesce)
      ∧ (d < 33 → ∀ q ∈ domainPorts d, s.get (fenceFld q.2) q.1 = 0 → mapGet (fun _ => false) s.haul.dead (3 * q.1 + q.2) = false →
  t.get (fenceFld q.2) q.1 = 1))
  ∧ (∀ (s : State) (d : Nat), d < 97 → s.domSt d = pdIsolate → s.floorReset = 0 →
    ∃ t, exec (.isolateDone d) s = .next t
      ∧ t.domSt d = pdGate)
  ∧ (∀ (s : State) (d : Nat), d < 97 → s.domSt d = pdGate → s.floorReset = 0 →
    ∃ t, exec (.gateDone d) s = .next t
      ∧ t.domSt d = pdOff
      ∧ t.get F.PWR_DOM_LAST_T d = min 0xFFFF ((s.time - mapGet (fun _ => 0) s.power.start d) / 100)
      ∧ (∀ (r : Reg) (i : Nat), d ≠ 0 → regDomain r i = d → t.reg r i = regReset r i))
  ∧ (∀ (s : State) (d : Nat) (rest : List Nat), s.floorReset = 0 →
    sortBy (fun a b => decide (a ≤ b)) s.power.rampWait = d :: rest →
    ∃ t, exec (.rampSlotFree) s = .next t
      ∧ (s.ramping < 4 → t.domSt d = pdRamp ∧ t.power.rampWait = rest) ∧ (4 ≤ s.ramping → t = s))
  ∧ (∀ (s : State) (d : Nat), d < 97 → s.domSt d = pdRamp → s.floorReset = 0 →
    ∃ t, exec (.rampDone d) s = .next t
      ∧ t.domSt d = pdInit ∧ (33 ≤ d → mapGet (fun _ => false) t.planes.initing (d - 33) = true))
  ∧ (∀ (s : State) (d : Nat), d < 97 → s.domSt d = pdInit → s.floorReset = 0 →
    d < 33 ∨ mapGet (fun _ => false) s.planes.initing (d - 33) = false →
    ∃ t, exec (.initDone d) s = .next t
      ∧ t.domSt d = pdOn
      ∧ t.get F.PWR_DOM_LAST_T d = min 0xFFFF ((s.time - mapGet (fun _ => 0) s.power.start d) / 100))

/-- Measurement intervals, throttling, privileged benches, the hardware trip, converters, rails and the level H.
(R508, R509, R511, R514, R518, R519, R520, R526, R528, R529, R569, 17_thermal_and_telemetry.md) -/
def Obligations.ThermalControl : Prop :=
  (∀ (s : State) (c : Nat) (x y : Option Int), c < 4 → s.powered 4 = true → s.chHold (32 * c) = false →
    ∃ t, exec (.measurementInterval c [(x, y)]) s = .next t
      ∧ (x = none → y = none → t.flag F.THM_SITE_FAIL (24 * c) = true ∧ t.flag F.THM_SITE_VALID (24 * c) = false
        ∧ t.flag F.THM_COL_SENS_FAIL c = true ∧ t.get F.THM_COL_BAND c = 4)
      ∧ t.get F.THM_SITE_DIODE_FAIL (24 * c) = b2n x.isNone + 2 * b2n y.isNone)
  ∧ (∀ (s : State) (c : Nat) (x y : Int), c < 4 → s.powered 4 = true → s.chHold (32 * c) = false →
    ∃ t, exec (.measurementInterval c [(some x, some y)]) s = .next t
      ∧ t.get F.THM_SITE_TEMP (24 * c) = unsignedOf 16 (clampInt (-32768) 32767 (max x y + s.siteOffset (24 * c)))
      ∧ t.flag F.THM_SITE_VALID (24 * c) = true ∧ t.flag F.THM_SITE_FAIL (24 * c) = false
      ∧ (64 < x - y ∨ 64 < y - x → t.flag F.THM_SITE_MISMATCH (24 * c) = true))
  ∧ (∀ (s : State) (c : Nat), c < 4 → s.powered 4 = true → mapGet (fun _ => 0) s.thermal.zone c = 1 →
    s.timerDue (tmRise c) 500000 = true →
    ∃ t, exec (.throttleRiseTimer c) s = .next t
      ∧ t.thrLevel c = min 8 (s.thrLevel c + 1)
      ∧ (s.thrLevel c < 8 → (∀ b ∈ colBenches c, t.get F.THM_BENCH_LEVEL b = t.benchLevel b % 16))
      ∧ (s.thrLevel c = 0 → (∀ b ∈ colBenches c, s.flag F.BENCH_ASSIGN_PRIV b = true → t.flag F.THM_BENCH_GRACE b = true)))
  ∧ (∀ (s : State) (c : Nat), c < 4 → s.powered 4 = true → mapGet (fun _ => 0) s.thermal.zone c = 2 →
    s.timerDue (tmFall c) 5000000 = true →
    ∃ t, exec (.throttleRecoveryTimer c) s = .next t
      ∧ t.thrLevel c = s.thrLevel c - 1
      ∧ (s.thrLevel c = 1 → (∀ b ∈ colBenches c, t.flag F.THM_BENCH_GRACE b = false ∧ t.flag F.THM_BENCH_EXEMPT b = false ∧ t.flag F.THM_BENCH_ENFORCED b = false)))
  ∧ (∀ (s : State) (b : Nat), b < 64 → s.powered 4 = true → s.flag F.THM_BENCH_GRACE b = true →
    s.timerDue (tmGrace b) (1000000 * s.get F.THM_PRIV_CTL_GRACE_MS 0) = true →
    ∃ t, exec (.graceEnd b) s = .next t
      ∧ t.flag F.THM_BENCH_GRACE b = false
      ∧ (s.avgMw b ≤ s.get F.THM_BENCH_REF_TARGET_MW b → t.flag F.THM_BENCH_EXEMPT b = true)
      ∧ (s.get F.THM_BENCH_REF_TARGET_MW b < s.avgMw b → t.flag F.THM_BENCH_ENFORCED b = true ∧ t.flag F.THM_BENCH_EXEMPT b = false
        ∧ t.get F.THM_BENCH_LEVEL b = max (s.thrLevel (benchCol b)) s.thermal.h % 16))
  ∧ (∀ (s : State) (b : Nat), b < 64 → s.powered 4 = true → s.flag F.THM_BENCH_EXEMPT b = true →
    s.timerDue (tmExempt b) 500000 = true →
    ∃ t, exec (.exemptCheck b) s = .next t
      ∧ (s.avgMw b ≤ s.get F.THM_BENCH_REF_TARGET_MW b → t.flag F.THM_BENCH_EXEMPT b = true)
      ∧ (s.get F.THM_BENCH_REF_TARGET_MW b < s.avgMw b → t.flag F.THM_BENCH_ENFORCED b = true ∧ t.flag F.THM_BENCH_EXEMPT b = false))
  ∧ (∀ (s : State) (b x y : Nat), b < 64 → s.powered 4 = true → s.benchUp b = true →
    s.capWindow b (mapGet (fun _ => []) s.tenancy.history b) = (x, y) →
    ∃ t, exec (.thermalLevelUpdate b) s = .next t
      ∧ (s.get F.THM_BENCH_LEVEL b = 0 → t.thermSup b = s.thermSup b - 1)
      ∧ (s.get F.THM_BENCH_LEVEL b ≠ 0 → s.get F.THM_BENCH_REF_REF_MW b * (8 - s.get F.THM_BENCH_LEVEL b) * y < x * 8
        → t.thermSup b = min 15 (s.thermSup b + 1))
      ∧ t.regs = s.regs)
  ∧ (∀ (s : State) (n : Nat), n < 96 → n % 24 < 16 ∨ 20 ≤ n % 24 → s.powered 0 = true →
    ∃ t, exec (.hardwareTrip n) s = .next t
      ∧ t.power.tripped = true
      ∧ (∀ d ∈ (upTo 72).map (25 + ·), t.domSt d = pdOff ∧ t.flag F.PWR_DOM_ON d = false)
      ∧ (s.power.tripped = false → t.out.contains .thermtrip = true))
  ∧ (∀ (s : State) (bank ch : Nat) (bgs : List Nat), s.powered 4 = true → bank < 5 →
    ch < (if bank = 4 then 18 else 8) →
    ∃ t, exec (.converterRotate bank ch bgs) s = .next t
      ∧ mapGet (fun k => k % 32) t.thermal.convs (32 * bank + ch) = mapGet (fun _ => if bank = 4 then 18 else 8) s.thermal.convOut bank
      ∧ mapGet (fun _ => if bank = 4 then 18 else 8) t.thermal.convOut bank = mapGet (fun k => k % 32) s.thermal.convs (32 * bank + ch)
      ∧ t.chHold (32 * bank + ch) = true ∧ (bank = 4 → t.flag F.TEL_RAIL_STALE (ch % 9) = true)
      ∧ (bank < 4 → (∀ j ∈ upTo 3, t.flag F.THM_SITE_STALE (24 * bank + 3 * ch + j) = true)))
  ∧ (∀ (s : State) (rails : List (Nat × Nat)) (tiers : List Nat), s.powered 4 = true →
    ∃ t, exec (.railMeasure rails tiers) s = .next t
      ∧ (∀ n ∈ upTo 9, s.chHold (128 + n) = false → s.chHold (137 + n) = false → (rails[n]?).all (fun q =>
        decide (t.get F.TEL_RAIL_VOLT_MV n = q.1 % 4096 ∧ t.get F.TEL_RAIL_CURRENT n = q.2 % 4096 ∧ t.flag F.TEL_RAIL_STALE n = false)) = true)
      ∧ (∀ k ∈ upTo 8, mapGet (fun _ => 0) t.thermal.tiers k = mapGet (fun _ => 0) s.thermal.tiers k + tiers.getD k 0)
      ∧ (t.railPower < 2 ^ 20 → t.get F.TEL_PWR_TOTAL_MW 0 = t.railPower))
  ∧ (∀ (s : State), s.powered 4 = true →
    ∃ t, exec (.hluLevelTimer) s = .next t
      ∧ (s.hExcess = true → s.timerDue tmHUp 500000 = true → t.thermal.h = min 8 (s.thermal.h + 1))
      ∧ (s.hExcess = false → s.hClear = true → s.timerDue tmHDown 5000000 = true → t.thermal.h = s.thermal.h - 1
        ∧ (∀ b ∈ upTo 64, t.get F.THM_BENCH_LEVEL b = t.benchLevel b % 16))
      ∧ (s.hExcess = false → s.hClear = false → t = s))

/-- Board layer writes, LOCK and the thermal limits. (R517, R563, R564, R565, R567, R568, R575,
17_thermal_and_telemetry.md, 18_burig_controller.md) -/
def Obligations.HardwareLimits : Prop :=
  (∀ (s : State) (x q : Nat) (v : Word), s.mayWrite (.pf x) .HLU_BOARD q = true →
    s.flag F.HLU_CTL_LOCK 0 = false → hluWithin q v.toNat (hluAbs q) = true →
    (s.setReg .HLU_BOARD q v).surgeTooSmall q = false →
    ∃ t, exec (.hluBoardWrite (.pf x) q v) s = .next t
      ∧ t.reg .HLU_BOARD q = v
      ∧ t.hluEff q = hluTighter q (hluAbs q) (hluTighter q v.toNat (s.get F.HLU_FW_VALUE q))
      ∧ (q = 10 → (∀ b ∈ upTo 64, s.benchUp b = true → t.get F.BENCH_PCAP_CAP_MW b ≤ t.hluEff 10)))
  ∧ (∀ (s : State) (src : Src) (q : Nat) (v : Word),
    s.mayWrite src .HLU_BOARD q = true ∨ (src = .other ∧ validInst .HLU_BOARD q = true) →
    src = .fw ∨ src = .other ∨ s.flag F.HLU_CTL_LOCK 0 = true ∨ hluWithin q v.toNat (hluAbs q) = false →
    ∃ t, exec (.hluBoardWrite src q v) s = .next t
      ∧ t.reg .HLU_BOARD q = s.reg .HLU_BOARD q
      ∧ t.get F.HLU_REFUSE_COUNT 0 = min 65535 (s.get F.HLU_REFUSE_COUNT 0 + 1)
      ∧ t.get F.HLU_REFUSE_SRC 0 = srcCode src ∧ t.get F.HLU_REFUSE_Q 0 = q)
  ∧ (∀ (s : State) (src : Src) (v : Word), s.mayWrite src .HLU_CTL 0 = true →
    ∃ t, exec (.hluLock src v) s = .next t
      ∧ (s.thermal.lockUsed = false → s.flag F.HLU_CTL_LOCK 0 = false → t.get F.HLU_CTL_LOCK 0 = fldOf F.HLU_CTL_LOCK v ∧ t.thermal.lockUsed = true)
      ∧ (s.thermal.lockUsed = true ∨ s.flag F.HLU_CTL_LOCK 0 = true → t = s))
  ∧ (∀ (s : State) (src : Src) (v : Word), s.mayWrite src .THM_LIMITS 0 = true →
    ∃ t, exec (.thmLimitsWrite src v) s = .next t
      ∧ (s.hluEff 15 < fldOf F.THM_LIMITS_SHDN_C v → t.reg .THM_LIMITS 0 = s.reg .THM_LIMITS 0 ∧ t.flag F.THM_STAT_LIM_ERR 0 = true
        ∧ t.get F.HLU_REFUSE_Q 0 = 15)
      ∧ (fldOf F.THM_LIMITS_SHDN_C v ≤ s.hluEff 15 → s.limitsBad v = true → t.reg .THM_LIMITS 0 = s.reg .THM_LIMITS 0
        ∧ t.flag F.THM_STAT_LIM_ERR 0 = true)
      ∧ (fldOf F.THM_LIMITS_SHDN_C v ≤ s.hluEff 15 → s.limitsBad v = false → t.get F.THM_LIMITS_SHDN_C 0 = fldOf F.THM_LIMITS_SHDN_C v
        ∧ t.get F.THM_LIMITS_THROT_C 0 = fldOf F.THM_LIMITS_THROT_C v ∧ t.get F.THM_LIMITS_WARN_C 0 = fldOf F.THM_LIMITS_WARN_C v
        ∧ t.get F.THM_LIMITS_THROT_HYST 0 = max 1 (fldOf F.THM_LIMITS_THROT_HYST v)
        ∧ t.get F.THM_LIMITS_WARN_HYST 0 = max 1 (fldOf F.THM_LIMITS_WARN_HYST v)))

/-- DDR channels: reads and writes with ECC, refresh, training, and self-refresh. (R640, R641, R642, R643, R644,
R654, R655, 22_ddr_sideband_debug.md) -/
def Obligations.DdrChannels : Prop :=
  (∀ (s : State) (ch hdr a : Nat) (flits : List (Nat × Bool)), ch < 8 → s.powered (dDdr (ch / 2)) = true →
    s.floorReset = 0 → hOp hdr = opRead → hClass hdr = clsReq ∨ hClass hdr = clsMgt → s.ddrSt ch = ddReady →
    s.side.tapPins = false → a = (s.ddrPlace (hAddr hdr)).2 → a % 8 = 0 → hLen hdr = 7 →
    a + 8 ≤ s.get F.DDR_CH_STAT_SIZE_GIB ch * 2 ^ 30 →
    ∃ t, exec (.ddrRequest ch hdr flits []) s = .next t
      ∧ ((eccDecode (s.dramWord ch (a / 8))).kind = .clean →
        t = s.ddrAnswer ch hdr stOk (flitsOf a 7 [(eccDecode (s.dramWord ch (a / 8))).data]))
      ∧ ((eccDecode (s.dramWord ch (a / 8))).kind = .corrected → t.dramWord ch (a / 8) = eccEncode (eccDecode (s.dramWord ch (a / 8))).data
        ∧ t.get F.DDR_ECC_CE_CNT ch = min 65535 (s.get F.DDR_ECC_CE_CNT ch + 1))
      ∧ ((eccDecode (s.dramWord ch (a / 8))).kind = .bad → t.dramWord ch (a / 8) = s.dramWord ch (a / 8)
        ∧ t.get F.DDR_ECC_UE_CNT ch = min 65535 (s.get F.DDR_ECC_UE_CNT ch + 1)))
  ∧ (∀ (s : State) (ch hdr a d : Nat), ch < 8 → s.powered (dDdr (ch / 2)) = true → s.floorReset = 0 →
    hOp hdr = opWrite → hClass hdr = clsReq ∨ hClass hdr = clsMgt →
    packetFlits opWrite (hAddr hdr) (hLen hdr) 0 = 1 → s.ddrSt ch = ddReady → s.side.tapPins = false →
    a = (s.ddrPlace (hAddr hdr)).2 → a % 8 = 0 → hLen hdr = 7 →
    a + 8 ≤ s.get F.DDR_CH_STAT_SIZE_GIB ch * 2 ^ 30 →
    ∃ t, exec (.ddrRequest ch hdr [(d, false)] []) s = .next t
      ∧ ∃ u : State, u.out = s.out ∧ t = u.ddrAnswer ch hdr stOk []
      ∧ t.dramWord ch (a / 8) = eccEncode (bitsOf d (64 * (a / 8 % 8)) 64)
      ∧ t.get F.DDR_ECC_CE_CNT ch = s.get F.DDR_ECC_CE_CNT ch)
  ∧ (∀ (s : State) (ch hdr : Nat) (flits : List (Nat × Bool)) (ups : List (Nat × Nat)), ch < 8 →
    s.powered (dDdr (ch / 2)) = true → s.floorReset = 0 → hClass hdr ≠ clsRsp →
    opMatchesClass (hOp hdr) (hClass hdr) = true →
    packetFlits (hOp hdr) (hAddr hdr) (hLen hdr) 0 ≤ flits.length → s.ddrSt ch ≠ ddReady →
    ∃ t, exec (.ddrRequest ch hdr flits ups) s = .next t
      ∧ t.ddr = s.ddr ∧ (isNonPosted (hOp hdr) = true → t = s.ddrAnswer ch hdr stUnreachable [])
      ∧ (isNonPosted (hOp hdr) = false → t = s))
  ∧ (∀ (s : State) (ch : Nat), ch < 8 → s.ddrSt ch = ddReady →
    ∃ t, exec (.ddrRefresh ch) s = .next t
      ∧ (t.chan ch).refresh = some s.time ∧ t.regs = s.regs)
  ∧ (∀ (s : State) (src : Src) (ch : Nat) (v : Word), s.mayWrite src .DDR_CH_CFG ch = true →
    ∃ t, exec (.ddrTrain src ch v) s = .next t
      ∧ t.get F.DDR_CH_CFG_CAP ch = fldOf F.DDR_CH_CFG_CAP v
      ∧ t.get F.DDR_CH_CFG_RATE (ch / 2 * 2) = min 2 (fldOf F.DDR_CH_CFG_RATE v)
      ∧ t.get F.DDR_CH_CFG_RATE (ch / 2 * 2 + 1) = min 2 (fldOf F.DDR_CH_CFG_RATE v)
      ∧ (fldOf F.DDR_CH_CFG_TRAIN v = 1 → s.ddrSt ch ≠ ddTraining → t.ddrSt ch = ddTraining ∧ (t.chan ch).words = [] ∧ t.ddrRate (ch / 2) = min 2 (fldOf F.DDR_CH_CFG_RATE v))
      ∧ (fldOf F.DDR_CH_CFG_TRAIN v = 0 ∨ s.ddrSt ch = ddTraining → t.ddrSt ch = s.ddrSt ch ∧ t.ddr = s.ddr))
  ∧ (∀ (s : State) (ch gib ms : Nat) (ok : Bool), ch < 8 → s.powered (dDdr (ch / 2)) = true →
    s.ddrSt ch = ddTraining →
    ∃ t, exec (.ddrTrainingDone ch (some gib) ok ms) s = .next t
      ∧ (ok = true → t.ddrSt ch = ddReady ∧ t.get F.DDR_CH_STAT_SIZE_GIB ch = gib % 256)
      ∧ ((s.chan ch).check = false → t.get F.DDR_CH_STAT_TRAIN_MS ch = min 0xFFFF ms)
      ∧ (ok = false → (s.chan ch).check = false → t.ddrSt ch = ddFailed ∧ t.flag F.DDR_CH_STAT_TRAIN_ERR ch = true)
      ∧ (ok = false → (s.chan ch).check = true → t.ddrSt ch = ddTraining ∧ t.flag F.DDR_CH_STAT_LOST_DATA ch = true ∧ (t.chan ch).check = false))
  ∧ (∀ (s : State) (ch : Nat), (s.chan ch).entering = true →
    ∃ t, exec (.ddrSelfrefEntryDone ch) s = .next t
      ∧ t.ddrSt ch = ddSelfref ∧ (t.chan ch).entering = false ∧ (t.chan ch).words = (s.chan ch).words)

/-- Mailbox doors, timers, the sideband's messages and its control commands. (R551, R552, R553, R554, R555, R556,
R560, R561, R571, R572, R578, 19_mailbox_commands.md) -/
def Obligations.MailboxDoors : Prop :=
  (∀ (s : State) (src : Src) (m op tag : Nat) (v : Word) (p : List Byte),
    s.mayWrite src .MBX_CMD_DOOR m = true → fldOf F.MBX_CMD_DOOR_RING v = 1 → s.powered 1 = true →
    s.mbSt m = mbIdle → op < 65536 → tag < 65536 → p.length ≤ pageCap m →
    ∃ t, exec (.mbxRing src m v (mkPage op tag p.length 0 true p.length 0 p)) s = .next t
      ∧ (s.flag F.MBX_FW_STAT_FW_UP 0 = true → mayIssue (s.flag F.MBX_FW_STAT_RECOVERY 0) m op = true → payloadOk op p = true
        → t.mbSt m = mbCmd ∧ t.mbx.cmds = s.mbx.cmds ++ [⟨m, op, tag, p, false, false, 0, false, s.time⟩])
      ∧ (s.flag F.MBX_FW_STAT_FW_UP 0 = true → mayIssue (s.flag F.MBX_FW_STAT_RECOVERY 0) m op = false
        → t.mbSt m = mbRsp ∧ t.mbx.cmds = s.mbx.cmds ∧ leAt (t.box m).rspBuf 0 2 = stBADOP)
      ∧ (s.flag F.MBX_FW_STAT_FW_UP 0 = false → t.mbSt m = mbRsp ∧ t.mbx.cmds = s.mbx.cmds ∧ leAt (t.box m).rspBuf 0 2 = stBUSY))
  ∧ (∀ (s : State) (src : Src) (m : Nat) (v : Word) (page : List Byte), s.mayWrite src .MBX_CMD_DOOR m = true →
    fldOf F.MBX_CMD_DOOR_RING v = 1 → s.mbSt m ≠ mbIdle → s.mbSt m ≠ mbMore →
    ∃ t, exec (.mbxRing src m v page) s = .next t
      ∧ t.flag F.MBX_STATUS_DOOR_ERR m = true ∧ t.mbx = s.mbx)
  ∧ (∀ (s : State) (src : Src) (m : Nat) (v : Word), s.mayWrite src .MBX_RSP_DOOR m = true →
    fldOf F.MBX_RSP_DOOR_ACK v = 1 →
    ∃ t, exec (.mbxAck src m v) s = .next t
      ∧ (s.mbSt m ≠ mbRsp → t.flag F.MBX_STATUS_DOOR_ERR m = true ∧ t.mbx = s.mbx)
      ∧ (s.mbSt m = mbRsp → (s.box m).pages = [] → t.mbSt m = mbIdle ∧ t.mbx = s.mbx)
      ∧ (s.mbSt m = mbRsp → (s.box m).pages ≠ [] → t.mbSt m = mbRsp ∧ some (t.box m).rspBuf = (s.box m).pages.head? ∧ (t.box m).pages = (s.box m).pages.tail))
  ∧ (∀ (s : State) (src : Src) (m : Nat) (v : Word), s.mayWrite src .MBX_CTL m = true →
    fldOf F.MBX_CTL_ABORT v = 1 →
    ∃ t, exec (.mbxAbort src m v) s = .next t
      ∧ t.mbSt m = mbIdle ∧ t.get F.MBX_CTL_IRQ_EN m = fldOf F.MBX_CTL_IRQ_EN v
      ∧ (s.mbSt m = mbCmd → (t.mbx.cmds.all fun c => c.mb != m || c.drop) = true ∧ t.mbx.cmds.length = s.mbx.cmds.length)
      ∧ (s.mbSt m ≠ mbCmd → t.mbx.cmds = s.mbx.cmds))
  ∧ (∀ (s : State) (m : Nat), m < 66 → s.mbSt m = mbMore ∨ s.mbSt m = mbRsp →
    s.timerDue (tmPage m) 100000000 = true →
    ∃ t, exec (.pageTimerExpiry m) s = .next t
      ∧ (s.mbSt m = mbMore → t.mbSt m = mbRsp ∧ leAt (t.box m).rspBuf 0 2 = stTIMEOUT)
      ∧ (s.mbSt m = mbRsp → t.mbSt m = mbIdle ∧ (t.box m).pages = []))
  ∧ (∀ (s : State) (mb : Nat) (c : MbCmd), (s.mbx.cmds.find? fun x => x.mb == mb) = some c → s.serves c = true →
    c.taken + catTime c ≤ s.time →
    ∃ t, exec (.cataloguedTimeExceeded mb) s = .next t
      ∧ s.answered t c stTIMEOUT (detail 0 0) = true)
  ∧ (∀ (s : State) (tag : Nat) (rest : List Byte), s.powered 5 = true →
    ∃ t, exec (.mctpMessage tag (0x7E#8 :: ((leBytes 2 Config.vendorId).reverse ++ [2#8, 0#8] ++ rest))) s = .next t
      ∧ (s.mbSt 65 ≠ mbRsp → t.flag F.MBX_STATUS_DOOR_ERR 65 = true ∧ t.mbx = s.mbx)
      ∧ (s.mbSt 65 = mbRsp → (s.box 65).pages = [] → t.mbSt 65 = mbIdle)
      ∧ (s.mbSt 65 = mbRsp → (s.box 65).pages ≠ [] → t.mbSt 65 = mbRsp ∧ t.out.length = s.out.length + 1 ∧ (t.box 65).pages = (s.box 65).pages.tail
        ∧ (t.box 65).msgTag = none))
  ∧ (∀ (s : State) (eid : Nat), s.powered 5 = true →
    ∃ t, exec (.setEndpointId eid) s = .next t
      ∧ t.out.length = s.out.length + 1 ∧ (eid % 256 ≠ 0 → eid % 256 ≠ 0xFF → t.side.eid = eid % 256)
      ∧ (eid % 256 = 0 ∨ eid % 256 = 0xFF → t.side = s.side))
  ∧ (∀ (s : State), s.powered 5 = true →
    ∃ t, exec (.getEndpointId) s = .next t
      ∧ t.out = .mctpCtl 2 0 [s.side.eid] :: s.out ∧ t.side = s.side)
  ∧ (∀ (s : State) (x : Nat), s.powered 5 = true →
    ∃ t, exec (.getMctpVersionSupport x) s = .next t
      ∧ t = s.emit (.mctpCtl 4 0 (Config.mctpVersions x)))
  ∧ (∀ (s : State), s.powered 5 = true →
    ∃ t, exec (.getMessageTypeSupport) s = .next t
      ∧ t.out = .mctpCtl 5 0 [0x7E] :: s.out)
  ∧ (∀ (s : State) (x : Nat), s.powered 5 = true →
    ∃ t, exec (.getVendorDefinedMsgSupport x) s = .next t
      ∧ (x = 0 → t.out = .mctpCtl 6 0 [Config.vendorId, Config.mctpVendorSet] :: s.out)
      ∧ (x ≠ 0 → t.out = .mctpCtl 6 2 [] :: s.out))
  ∧ (∀ (s : State) (x : Nat), s.powered 5 = true → s.flag F.DBG_STRAP_SB_SEL 0 = true →
    ∃ t, exec (.dynamicAddressAssignment x) s = .next t
      ∧ t.side.dynAddr = some (x % 128) ∧ t.sbAddress = x % 128)

/-- Catalogue families 0x01xx and 0x02xx: the device, OTP, and benches with their fences. (R557, R558, R583, R584,
R585, R586, R587, R588, 19_mailbox_commands.md) -/
def Obligations.BenchCommands : Prop :=
  (∀ (s : State) (mb : Nat) (c : MbCmd), s.current mb 0x0100 = some c →
    ∃ t, exec (.devInfo mb) s = .next t
      ∧ s.answered t c stOK s.devInfo = true)
  ∧ (∀ (s : State) (mb : Nat) (c : MbCmd), s.current mb 0x0101 = some c →
    ∃ t, exec (.devTime mb) s = .next t
      ∧ s.answered t c stOK (leBytes 8 c.taken ++ leBytes 1 (s.get F.CLK_OSC_STAT_DT_SRC 0) ++ leBytes 7 0) = true
      ∧ t.time = s.time)
  ∧ (∀ (s : State) (mb : Nat) (vpp : Bool) (c : MbCmd), s.current mb 0x0102 = some c →
    ∃ t, exec (.otpStep mb vpp) s = .next t
      ∧ (pf c 0 1 ≤ 1 → s.answered t c stOK (leBytes 4 (pf c 0 1 + 2 * b2n vpp)) = true ∧ t.fw.stepOpen = (pf c 0 1 == 1))
      ∧ (1 < pf c 0 1 → s.answered t c stBADARG (detail 0 0) = true ∧ t.fw = s.fw))
  ∧ (∀ (s : State), s.timerDue tmOtp 10000000000 = true →
    ∃ t, exec (.otpStepTimeout) s = .next t
      ∧ t.fw.stepOpen = false ∧ t.nvs = s.nvs)
  ∧ (∀ (s : State) (mb : Nat) (vpp : Bool) (c : MbCmd), s.current mb 0x0103 = some c →
    ∃ t, exec (.otpBoard mb vpp) s = .next t
      ∧ ((s.fw.stepOpen && vpp) = false → s.answered t c stNORES (detail 1 0) = true ∧ t.nvs = s.nvs)
      ∧ ((s.fw.stepOpen && vpp) = true → s.nvs.otpBoard.isSome = true → s.answered t c stNORES (detail 2 0) = true ∧ t.nvs = s.nvs)
      ∧ ((s.fw.stepOpen && vpp) = true → s.nvs.otpBoard = none → (looserQ (boardValues c)).isSome = true
        → s.answered t c stLIMIT (detail 0 ((looserQ (boardValues c)).getD 0)) = true ∧ t.nvs = s.nvs)
      ∧ ((s.fw.stepOpen && vpp) = true → s.nvs.otpBoard = none → looserQ (boardValues c) = none
        → s.answered t c stOK [] = true ∧ t.nvs.otpBoard = some (boardValues c)))
  ∧ (∀ (s : State) (mb fn priv : Nat) (c : MbCmd), s.current mb 0x0200 = some c → pf c 0 1 < 64 →
    fn = bitOf (pf c 1 1) 0 → priv = bitOf (pf c 1 1) 1 →
    ∃ t, exec (.benchAssign mb) s = .next t
      ∧ (s.assignReason (pf c 0 1) fn priv = 0 → s.answered t c stOK [] = true ∧ t.get F.BENCH_ASSIGN_PRIV (pf c 0 1) = priv
        ∧ t.fnNow (pf c 0 1) = fn)
      ∧ (s.assignReason (pf c 0 1) fn priv ≠ 0 → s.answered t c (assignStatus (s.assignReason (pf c 0 1) fn priv))
          (detail (s.assignReason (pf c 0 1) fn priv) 0) = true
        ∧ t.get F.BENCH_ASSIGN_PRIV (pf c 0 1) = s.get F.BENCH_ASSIGN_PRIV (pf c 0 1) ∧ t.fnNow (pf c 0 1) = s.fnNow (pf c 0 1)))
  ∧ (∀ (s : State) (mb x pos wd ht : Nat) (c : MbCmd), s.current mb 0x0201 = some c → x = pf c 0 1 →
    pos = pf c 1 1 → x < 4 → pos < 16 → wd = bitsOf (pf c 2 1) 0 2 → ht = bitsOf (pf c 2 1) 2 2 →
    ∃ t, exec (.gangFormCmd mb) s = .next t
      ∧ (s.formReason x pos wd ht = 0 → s.answered t c stOK [] = true ∧ t.tenancy.forming.contains (16 * x + pos) = true)
      ∧ (s.formReason x pos wd ht ≠ 0 → s.answered t c (gangStatus (s.formReason x pos wd ht)) (detail (s.formReason x pos wd ht) 0) = true
        ∧ t.tenancy = s.tenancy ∧ t.get F.BENCH_GANG_CMD_REASON x = s.formReason x pos wd ht))
  ∧ (∀ (s : State) (mb x : Nat) (c : MbCmd), s.current mb 0x0202 = some c → pf c 0 1 < 4 → pf c 1 1 < 16 →
    x = 16 * pf c 0 1 + pf c 1 1 →
    ∃ t, exec (.gangDissolveCmd mb) s = .next t
      ∧ (s.dissolveReason x = 0 → s.answered t c stOK [] = true ∧ (∀ m ∈ s.gangOf x, t.inGang m = false))
      ∧ (s.dissolveReason x ≠ 0 → s.answered t c (gangStatus (s.dissolveReason x)) (detail (s.dissolveReason x) 0) = true ∧ t.tenancy = s.tenancy))
  ∧ (∀ (s : State) (mb b p : Nat) (c : MbCmd), s.current mb 0x0203 = some c → b = pf c 0 1 → p = pf c 1 1 →
    b < 64 → p < 8 → s.benchUp b = true →
    ∃ t, exec (.mfenceSet mb) s = .next t
      ∧ (((upTo 4).all fun k => !mfenceBad (pw c (4 + 4 * k))) = true → s.answered t c stOK [] = true
        ∧ (∀ k ∈ upTo 4, t.get F.BENCH_MFENCE_FIRST (32 * b + 4 * p + k) = fldOf F.BENCH_MFENCE_FIRST (pw c (4 + 4 * k))
          ∧ t.get F.BENCH_MFENCE_EN (32 * b + 4 * p + k) = fldOf F.BENCH_MFENCE_EN (pw c (4 + 4 * k))))
      ∧ (((upTo 4).any fun k => mfenceBad (pw c (4 + 4 * k))) = true → s.answered t c stBADARG (detail 1 (((upTo 4).find? fun k => mfenceBad (pw c (4 + 4 * k))).getD 0)) = true
        ∧ t.flag F.BENCH_FENCE_STAT_FENCE_ERR b = true ∧ (∀ k ∈ upTo 4, t.reg .BENCH_MFENCE (32 * b + 4 * p + k) = s.reg .BENCH_MFENCE (32 * b + 4 * p + k))))
  ∧ (∀ (s : State) (mb b i : Nat) (c : MbCmd), s.current mb 0x0204 = some c → b = pf c 0 1 → i = pf c 1 1 →
    b < 64 → i < 16 → s.benchUp b = true →
    ∃ t, exec (.hwinSet mb) s = .next t
      ∧ ((s.plainWrite .BENCH_HWIN_LO (16 * b + i) (pw c 4)).hwinRefused (16 * b + i) (pw c 8) = false → s.answered t c stOK [] = true
        ∧ t.get F.BENCH_HWIN_HI_SIZE_EXP (16 * b + i) = fldOf F.BENCH_HWIN_HI_SIZE_EXP (pw c 8)
        ∧ t.get F.BENCH_HWIN_LO_BASE_LO (16 * b + i) = fldOf F.BENCH_HWIN_LO_BASE_LO (pw c 4))
      ∧ ((s.plainWrite .BENCH_HWIN_LO (16 * b + i) (pw c 4)).hwinRefused (16 * b + i) (pw c 8) = true → s.answered t c stBADARG (detail 1 0) = true
        ∧ t.flag F.BENCH_FENCE_STAT_FENCE_ERR b = true ∧ t.reg .BENCH_HWIN_HI (16 * b + i) = s.reg .BENCH_HWIN_HI (16 * b + i)
        ∧ t.reg .BENCH_HWIN_LO (16 * b + i) = s.reg .BENCH_HWIN_LO (16 * b + i)))
  ∧ (∀ (s : State) (mb b : Nat) (c : MbCmd), s.current mb 0x0205 = some c → b = pf c 0 1 → b < 64 →
    s.benchUp b = true →
    ∃ t, exec (.laneFence mb) s = .next t
      ∧ (s.firstTaken b (pf c 4 8) (pf c 12 8) = none → s.answered t c stOK [] = true ∧ t.reg .BENCH_LANE_TX_LO b = pw c 4
        ∧ t.reg .BENCH_LANE_TX_HI b = pw c 8 ∧ t.reg .BENCH_LANE_RX_LO b = pw c 12 ∧ t.reg .BENCH_LANE_RX_HI b = pw c 16)
      ∧ ((s.firstTaken b (pf c 4 8) (pf c 12 8)).isSome = true → s.answered t c stNORES (detail 1 ((s.firstTaken b (pf c 4 8) (pf c 12 8)).getD 0)) = true
        ∧ t.flag F.BENCH_FENCE_STAT_FENCE_ERR b = true ∧ t.reg .BENCH_LANE_TX_HI b = s.reg .BENCH_LANE_TX_HI b))
  ∧ (∀ (s : State) (mb b p k j : Nat) (c : MbCmd), s.current mb 0x0206 = some c → b = pf c 0 1 → p = pf c 1 1 →
    k = pf c 2 1 → j = 6 * b + 3 * p + k → b < 64 → p < 2 → k < 3 → s.benchUp b = true →
    ∃ t, exec (.wbSet mb) s = .next t
      ∧ s.answered t c stOK [] = true
      ∧ t.get F.BENCH_WB_CTL_RATE j = clampNat (if k = 1 then 16 else 0) 1024 (fldOf F.BENCH_WB_CTL_RATE (pw c 4))
      ∧ t.get F.BENCH_WB_CTL_BURST_EXP j = clampNat 6 16 (fldOf F.BENCH_WB_CTL_BURST_EXP (pw c 4)))
  ∧ (∀ (s : State) (mb b : Nat) (c : MbCmd), s.current mb 0x0207 = some c → b = pf c 0 1 → b < 64 →
    s.benchUp b = true →
    ∃ t, exec (.pcapSet mb) s = .next t
      ∧ (fldOf F.BENCH_PCAP_CAP_MW (pw c 4) ≤ s.hluEff 10 → s.answered t c stOK [] = true
        ∧ t.get F.BENCH_PCAP_CAP_MW b = fldOf F.BENCH_PCAP_CAP_MW (pw c 4) ∧ t.get F.BENCH_PCAP_EN b = fldOf F.BENCH_PCAP_EN (pw c 4))
      ∧ (s.hluEff 10 < fldOf F.BENCH_PCAP_CAP_MW (pw c 4) → s.answered t c stLIMIT (detail 0 0) = true
        ∧ t.reg .BENCH_PCAP b = s.reg .BENCH_PCAP b ∧ t.get F.HLU_REFUSE_Q 0 = 10))
  ∧ (∀ (s : State) (mb b k j : Nat) (c : MbCmd), s.current mb 0x0208 = some c → b = pf c 0 1 → k = pf c 1 1 →
    j = 32 * b + k → b < 64 → k < 32 → s.benchUp b = true → pf c 2 1 = 3 →
    ∃ t, exec (.hopperSet mb) s = .next t
      ∧ (s.hopCfgRefused b (pw c 4) = false → s.answered t c stOK [] = true ∧ t.get F.HOP_CFG_WR_SRC j = fldOf F.HOP_CFG_WR_SRC (pw c 4)
        ∧ t.get F.HOP_CFG_DEPTH j = min 8 (fldOf F.HOP_CFG_DEPTH (pw c 4))
        ∧ t.get F.HOP_OWNER_OWN_VALID j = fldOf F.HOP_OWNER_OWN_VALID (pw c 8))
      ∧ (s.hopCfgRefused b (pw c 4) = true → s.answered t c stBADARG (detail 1 0) = true ∧ t.flag F.HOP_STAT_CFG_ERR j = true
        ∧ t.reg .HOP_CFG j = s.reg .HOP_CFG j ∧ t.reg .HOP_OWNER j = s.reg .HOP_OWNER j))
  ∧ (∀ (s : State) (mb b p i : Nat) (c : MbCmd) (l : List (Nat × List Nat)), s.current mb 0x0209 = some c →
    b = pf c 0 1 → p = pf c 1 1 → b < 64 → p < 8 → s.benchUp b = true →
    declScanBytes (c.payload.drop 4) = (some i, l) →
    ∃ t, exec (.declApply mb) s = .next t
      ∧ s.answered t c stBADARG (detail 0 i) = true
      ∧ (∀ (r : Reg) (n : Nat), r ≠ .MBX_STATUS → t.reg r n = s.reg r n))
  ∧ (∀ (s : State) (mb b p i : Nat) (c : MbCmd) (ws : List Nat), s.current mb 0x0209 = some c → b = pf c 0 1 →
    p = pf c 1 1 → b < 64 → p < 8 → s.benchUp b = true → pf c 2 1 = 0 →
    declScanBytes (c.payload.drop 4) = (none, [(1, [i]), (6, ws)]) → i < 2 ^ 31 →
    mfenceBad (BitVec.ofNat 32 (2 ^ 31 + i)) = false →
    ∃ t, exec (.declApply mb) s = .next t
      ∧ s.answered t c stOK [] = true ∧ t.get F.BENCH_MFENCE_EN (32 * b + 4 * p) = 1
      ∧ t.get F.BENCH_MFENCE_FIRST (32 * b + 4 * p) = fldOf F.BENCH_MFENCE_FIRST (BitVec.ofNat 32 i)
      ∧ (∀ k ∈ [1, 2, 3], t.get F.BENCH_MFENCE_EN (32 * b + 4 * p + k) = 0))
  ∧ (∀ (s : State) (mb b : Nat) (c : MbCmd), s.current mb 0x020A = some c → b = pf c 0 1 → b < 64 →
    ∃ t, exec (.benchStatus mb) s = .next t
      ∧ (s.mayNameBench c b = true → s.answered t c stOK (s.readOuts (benchStatusRegs b)).1 = true)
      ∧ (s.mayNameBench c b = false → s.answered t c stNOTOWNER (detail 0 0) = true))

/-- Catalogue families 0x03xx to 0x05xx: slots, scrub settings, lanes, domains, thermal limits and the firmware
layer. (R557, R578, R581, R589, R590, R591, R592, R593, R594, R595, R596, 19_mailbox_commands.md) -/
def Obligations.SlotLaneAndPowerCommands : Prop :=
  (∀ (s : State) (mb a d : Nat) (c : MbCmd), s.current mb 0x0300 = some c → a = pf c 0 2 → d = pf c 2 2 →
    c.started = false →
    ∃ t, exec (.slotCopy mb) s = .next t
      ∧ (s.slotCopyBad a d = none → t.slotSt d = slWriting ∧ t.slots.copies = s.slots.copies ++ [⟨a, d, false⟩]
        ∧ (t.mbx.cmds.find? fun x => x.mb == mb) = some { c with started := true, arg := 0 })
      ∧ ((s.slotCopyBad a d).isSome = true → s.answered t c ((s.slotCopyBad a d).getD (0, 0)).1 (detail ((s.slotCopyBad a d).getD (0, 0)).2 0) = true
        ∧ t.slots = s.slots))
  ∧ (∀ (s : State) (mb d : Nat) (c : MbCmd), s.current mb 0x0300 = some c → d = pf c 2 2 → c.started = true →
    (s.slots.copies.any fun x => x.from_ == pf c 0 2 && x.to_ == d) = false →
    ∃ t, exec (.slotCopy mb) s = .next t
      ∧ (s.slotSt d = slValid → s.answered t c stOK (leBytes 4 (s.slotGen d)) = true)
      ∧ (s.slotSt d ≠ slValid → s.answered t c stFRAME (detail 0 0) = true))
  ∧ (∀ (s : State) (mb k : Nat) (c : MbCmd), s.current mb 0x0301 = some c → k = pf c 0 2 → k < 4096 →
    pf c 2 1 < 64 → s.powered (dCfg (k / 1024)) = true →
    ∃ t, exec (.slotOwner mb) s = .next t
      ∧ (s.slotClaimed k = false → s.answered t c stOK [] = true ∧ t.get F.CTX_SLOT_OWNER_OWN_VALID k = bitOf (pf c 3 1) 0
        ∧ t.get F.CTX_SLOT_OWNER_VF k = pf c 2 1)
      ∧ (s.slotClaimed k = true → s.get F.CTX_SLOT_OWNER_OWN_VALID k ≠ bitOf (pf c 3 1) 0 → s.answered t c stBUSY (detail 1 0) = true
        ∧ t.flag F.CTX_SLOT_STAT_CFG_ERR k = true ∧ t.reg .CTX_SLOT_OWNER k = s.reg .CTX_SLOT_OWNER k))
  ∧ (∀ (s : State) (mb k : Nat) (c : MbCmd), s.current mb 0x0302 = some c → k = pf c 0 2 → k < 4096 →
    s.powered (dCfg (k / 1024)) = true →
    ∃ t, exec (.slotRelease mb) s = .next t
      ∧ ((mbVf mb).all (fun x => s.slotOwnedBy k x) = true → s.slotClaimed k = false → s.answered t c stOK [] = true ∧ t.slotSt k = slFree)
      ∧ ((mbVf mb).all (fun x => s.slotOwnedBy k x) = true → s.slotClaimed k = true → s.answered t c stBUSY (detail 1 0) = true ∧ t.slotSt k = s.slotSt k)
      ∧ ((mbVf mb).all (fun x => s.slotOwnedBy k x) = false → s.answered t c stNOTOWNER (detail 0 0) = true ∧ t.slots = s.slots ∧ t.slotSt k = s.slotSt k))
  ∧ (∀ (s : State) (mb x : Nat) (c : MbCmd), s.current mb 0x0303 = some c → x = pf c 0 1 → x < 4 →
    s.powered (dCfg x) = true →
    ∃ t, exec (.slotList mb) s = .next t
      ∧ s.answered t c stOK ((upTo 1024).flatMap fun i => leBytes 4 (if (mbVf mb).all (fun z => s.slotOwnedBy (1024 * x + i) z) = true then s.slotListEntry (1024 * x + i) else 0)) = true)
  ∧ (∀ (s : State) (mb x : Nat) (ok : Bool) (c : MbCmd), s.current mb 0x0304 = some c → x = pf c 0 1 → x < 4 →
    ∃ t, exec (.scrubSet mb ok) s = .next t
      ∧ (ok = true → s.answered t c stOK [] = true ∧ t.nvsScrub x = pf c 2 2 + bitOf (pf c 1 1) 0 * 2 ^ 16)
      ∧ (ok = false → s.answered t c stFRAME (detail 0 0) = true ∧ t.nvs = s.nvs))
  ∧ (∀ (s : State) (mb o : Nat) (v : Word) (c : MbCmd), s.current mb 0x0400 = some c → o = pf c 0 1 → v = pw c 4 →
    o < 8 → s.powered (dEth o) = true →
    ∃ t, exec (.octetCfg mb) s = .next t
      ∧ (octBad v.toNat = false → s.octDenied o v.toNat = false → s.answered t c stOK [] = true ∧ t.reg .ETH_OCT_CFG o = v)
      ∧ (octBad v.toNat = true → s.answered t c stBADARG (detail 2 (((upTo 8).find? (octBadAt v.toNat)).getD 0)) = true ∧ t.reg .ETH_OCT_CFG o = s.reg .ETH_OCT_CFG o)
      ∧ (octBad v.toNat = false → s.octDenied o v.toNat = true → s.answered t c stLIMIT (detail 1 (((upTo 8).find? (s.octDeniedAt o v.toNat)).getD 0)) = true
        ∧ t.reg .ETH_OCT_CFG o = s.reg .ETH_OCT_CFG o))
  ∧ (∀ (s : State) (mb n : Nat) (c : MbCmd), s.current mb 0x0401 = some c → n = pf c 0 1 → n < 64 →
    ∃ t, exec (.laneStatus mb) s = .next t
      ∧ (s.mayNameLane c n = true → s.answered t c stOK (s.readOuts [(.LANE_STAT, n), (.LANE_SQ, n), (.LANE_PEER_ID, n), (.LANE_DROP, n)]).1 = true)
      ∧ (s.mayNameLane c n = false → s.answered t c stNOTOWNER (detail 0 0) = true))
  ∧ (∀ (s : State) (mb n : Nat) (c : MbCmd), s.current mb 0x0402 = some c → n = pf c 0 1 → n < 64 →
    s.laneUp n = true →
    ∃ t, exec (.laneRestartCmd mb) s = .next t
      ∧ s.answered t c stOK [] = true
      ∧ (s.laneSt (s.laneHead n) = lnActive → t.laneSt (s.laneHead n) = lnFault ∧ t.get F.LANE_STAT_FAULT_WHY (s.laneHead n) = whyHost)
      ∧ (s.laneSt (s.laneHead n) ≠ lnActive → s.laneMode (s.laneHead n) = 0
        → ¬(s.laneSt (s.laneHead n) = lnFault ∧ (s.lane (s.laneHead n)).since = s.time) → t.laneSt (s.laneHead n) = lnDisabled))
  ∧ (∀ (s : State) (mb d : Nat) (c : MbCmd), s.current mb 0x0500 = some c → d = pf c 0 1 → d < 97 →
    c.started = false →
    ∃ t, exec (.domainSet mb) s = .next t
      ∧ (s.get F.PWR_DOM_ON d = bitOf (pf c 1 1) 0 → s.answered t c stOK (s.lastTPayload d) = true ∧ t.domSt d = s.domSt d)
      ∧ (s.get F.PWR_DOM_ON d ≠ bitOf (pf c 1 1) 0 → s.pwrCheck d (bitOf (pf c 1 1) 0 == 1) = 0 → t.get F.PWR_DOM_ON d = bitOf (pf c 1 1) 0
        ∧ (t.mbx.cmds.find? fun x => x.mb == mb) = some { c with started := true, arg := 0 })
      ∧ (s.get F.PWR_DOM_ON d ≠ bitOf (pf c 1 1) 0 → s.pwrCheck d (bitOf (pf c 1 1) 0 == 1) ≠ 0 → t.get F.PWR_DOM_ON d = s.get F.PWR_DOM_ON d
        ∧ s.answered t c (pwrStatus (s.pwrCheck d (bitOf (pf c 1 1) 0 == 1))) (detail (s.pwrCheck d (bitOf (pf c 1 1) 0 == 1)) 0) = true
        ∧ t.get F.PWR_DOM_REASON d = s.pwrCheck d (bitOf (pf c 1 1) 0 == 1)))
  ∧ (∀ (s : State) (mb d : Nat) (c : MbCmd), s.current mb 0x0500 = some c → d = pf c 0 1 → c.started = true →
    s.domSt d = (if bitOf (pf c 1 1) 0 = 1 then pdOn else pdOff) →
    ∃ t, exec (.domainSet mb) s = .next t
      ∧ s.answered t c stOK (s.lastTPayload d) = true)
  ∧ (∀ (s : State) (mb : Nat) (c : MbCmd), s.current mb 0x0501 = some c →
    ∃ t, exec (.domainList mb) s = .next t
      ∧ s.answered t c stOK (s.readOuts ((upTo 97).map fun d => (Reg.PWR_DOM, d))).1 = true)
  ∧ (∀ (s : State) (mb : Nat) (v : Word) (c : MbCmd), s.current mb 0x0502 = some c → v = pw c 0 →
    ∃ t, exec (.thmSet mb) s = .next t
      ∧ (s.hluEff 15 < fldOf F.THM_LIMITS_SHDN_C v → s.answered t c stLIMIT (detail 1 0) = true ∧ t.reg .THM_LIMITS 0 = s.reg .THM_LIMITS 0)
      ∧ (fldOf F.THM_LIMITS_SHDN_C v ≤ s.hluEff 15 → s.limitsBad v = true → s.answered t c stBADARG (detail 1 0) = true ∧ t.reg .THM_LIMITS 0 = s.reg .THM_LIMITS 0)
      ∧ (fldOf F.THM_LIMITS_SHDN_C v ≤ s.hluEff 15 → s.limitsBad v = false → s.answered t c stOK [] = true
        ∧ t.get F.THM_LIMITS_THROT_C 0 = fldOf F.THM_LIMITS_THROT_C v ∧ t.get F.THM_SHDN_MODE_MODE 0 = fldOf F.THM_SHDN_MODE_MODE (pw c 4)
        ∧ t.get F.THM_PRIV_CTL_GRACE_MS 0 = clampNat 1 100 (fldOf F.THM_PRIV_CTL_GRACE_MS (pw c 8))
        ∧ t.get F.THM_PRIV_CTL_PRIV_TGT 0 = max 1 (fldOf F.THM_PRIV_CTL_PRIV_TGT (pw c 8))))
  ∧ (∀ (s : State) (mb : Nat) (c : MbCmd), s.current mb 0x0503 = some c →
    ∃ t, exec (.telemetry mb) s = .next t
      ∧ s.answered t c stOK s.telemetry.1 = true)
  ∧ (∀ (s : State) (mb q x : Nat) (c : MbCmd), s.current mb 0x0504 = some c → q = pf c 0 1 → x = pf c 4 4 →
    q < 20 →
    ∃ t, exec (.hluFwSet mb) s = .next t
      ∧ (hluWithin q x (s.get F.HLU_BOARD_VALUE q) = true → (s.setReg .HLU_FW q (BitVec.ofNat 32 x)).surgeTooSmall q = false
        → s.answered t c stOK (leBytes 4 (t.hluEff q)) = true ∧ t.get F.HLU_FW_VALUE q = x)
      ∧ (hluWithin q x (s.get F.HLU_BOARD_VALUE q) = false → s.answered t c stLIMIT (detail 1 0) = true ∧ t.reg .HLU_FW q = s.reg .HLU_FW q
        ∧ t.get F.HLU_REFUSE_COUNT 0 = min 65535 (s.get F.HLU_REFUSE_COUNT 0 + 1) ∧ t.get F.HLU_REFUSE_SRC 0 = 2))

/-- Catalogue families 0x06xx to 0x0Axx: calibration, repair, the Weapel recorder, firmware and debug. (R597,
R598, R599, R600, R601, R602, R603, R604, R605, R606, R607, R609) -/
def Obligations.UpkeepCommands : Prop :=
  (∀ (s : State) (mb : Nat) (c : MbCmd), s.current mb 0x0600 = some c →
    ∃ t, exec (.calRead mb) s = .next t
      ∧ (calBad c = none → s.answered t c stOK ((upTo (pf c 8 4)).map fun k => BitVec.ofNat 8 (s.calRead (pf c 0 1) (pf c 1 1) (pf c 2 1) (pf c 4 4 + k))) = true)
      ∧ ((calBad c).isSome = true → s.answered t c stBADARG (detail ((calBad c).getD 0) 0) = true))
  ∧ (∀ (s : State) (mb i : Nat) (x : Byte) (c : MbCmd), s.current mb 0x0601 = some c → calBad c = none →
    i = 8192 * pf c 0 1 + pf c 4 4 → c.payload.drop 12 = [x] →
    ∃ t, exec (.calWrite mb) s = .next t
      ∧ (pf c 1 1 = 0 ∨ pf c 1 1 = 3 → s.answered t c stBADARG (detail 2 0) = true ∧ t.cal = s.cal)
      ∧ (pf c 0 1 = 5 → pf c 1 1 = 1 ∨ pf c 1 1 = 2 → s.powered 4 = true →
        s.answered t c stOK (leBytes 4 (b2n (decide (t.calEffInt 5 (pf c 4 4) ≠ t.calSum 5 (pf c 4 4))))) = true)
      ∧ (pf c 0 1 = 5 → pf c 1 1 = 1 ∨ pf c 1 1 = 2 → s.powered 4 = false → s.answered t c stOK (leBytes 4 0) = true ∧ t.cal = s.cal)
      ∧ (pf c 0 1 = 5 → pf c 1 1 = 1 → s.powered 4 = true → (mapGet (fun _ => {}) t.cal i).user = x.toNat
        ∧ (mapGet (fun _ => {}) t.cal i).bg = (mapGet (fun _ => {}) s.cal i).bg)
      ∧ (pf c 0 1 = 5 → pf c 1 1 = 2 → s.powered 4 = true → (mapGet (fun _ => {}) t.cal i).bg = x.toNat
        ∧ (mapGet (fun _ => {}) t.cal i).user = (mapGet (fun _ => {}) s.cal i).user))
  ∧ (∀ (s : State) (mb : Nat) (c : MbCmd), s.current mb 0x0700 = some c →
    ∃ t, exec (.spoilRead mb) s = .next t
      ∧ (1 ≤ pf c 4 4 → pf c 4 4 ≤ 4094 → s.answered t c stOK (leBytes 4 s.nvs.spoil.length ++ leBytes 4 (b2n (decide (16384 ≤ s.nvs.spoil.length)))
        ++ ((s.nvs.spoil.drop (pf c 0 4)).take (pf c 4 4)).flatMap spoilBytes) = true)
      ∧ (pf c 4 4 = 0 ∨ 4094 < pf c 4 4 → s.answered t c stBADARG (detail 0 0) = true))
  ∧ (∀ (s : State) (mb : Nat) (ok : Bool) (c : MbCmd), s.current mb 0x0701 = some c →
    ∃ t, exec (.spoilClear mb ok) s = .next t
      ∧ (pf c 0 4 = s.nvs.spoil.length → ok = true → s.answered t c stOK [] = true ∧ t.nvs.spoil = [])
      ∧ (pf c 0 4 = s.nvs.spoil.length → ok = false → s.answered t c stFRAME (detail 0 0) = true ∧ t.nvs = s.nvs)
      ∧ (pf c 0 4 ≠ s.nvs.spoil.length → s.answered t c stBUSY (detail 1 0) = true ∧ t.nvs = s.nvs))
  ∧ (∀ (s : State) (mb k : Nat) (c : MbCmd), s.current mb 0x0702 = some c → k = pf c 0 1 → k < 80 →
    s.powered (dHn (routerCol k)) = true → c.started = false →
    ∃ t, exec (.routerRetire mb) s = .next t
      ∧ (routerRow k ≠ 0 → s.flag F.HN_RTR_STAT_RETIRED k = false → t.flag F.HN_RTR_STAT_RETIRED k = true ∧ t.repair.detourDue = true
        ∧ (t.mbx.cmds.find? fun x => x.mb == mb) = some { c with started := true, arg := 0 })
      ∧ (routerRow k ≠ 0 → s.flag F.HN_RTR_STAT_RETIRED k = true → s.answered t c stOK [] = true ∧ t.repair = s.repair)
      ∧ (routerRow k = 0 → s.answered t c stBADARG (detail 1 0) = true ∧ t.repair = s.repair))
  ∧ (∀ (s : State) (mb b f : Nat) (c : MbCmd), s.current mb 0x0703 = some c → b = pf c 0 1 → f = pf c 1 1 →
    c.started = false → b < 64 → f < 32 → s.powered (dCfg (benchCol b)) = true → s.shift b = none →
    ∃ t, exec (.columnShift mb) s = .next t
      ∧ ((s.flag F.BENCH_SHIFT_SHIFTED b || s.flag F.BENCH_SHIFT_SPARE_LOST b || s.flag F.BENCH_SHIFT_DEGRADED b) = false → s.flag F.BENCH_SHIFT_REPAIRING b = false
        → t.flag F.BENCH_SHIFT_REPAIRING b = true ∧ t.shift b = some { col := f }
        ∧ (t.mbx.cmds.find? fun x => x.mb == mb) = some { c with started := true, arg := 0 })
      ∧ ((s.flag F.BENCH_SHIFT_SHIFTED b || s.flag F.BENCH_SHIFT_SPARE_LOST b || s.flag F.BENCH_SHIFT_DEGRADED b) = true → s.answered t c stNORES (detail 1 0) = true ∧ t.repair = s.repair))
  ∧ (∀ (s : State) (mb : Nat) (c : MbCmd), s.current mb 0x0800 = some c →
    ∃ t, exec (.wplRingRead mb) s = .next t
      ∧ (1 ≤ pf c 4 4 → pf c 4 4 ≤ 4095 → s.answered t c stOK (s.wplRingPayload c.payload) = true)
      ∧ (pf c 4 4 = 0 ∨ 4095 < pf c 4 4 → s.answered t c stBADARG (detail 0 0) = true) ∧ t.wpl = s.wpl)
  ∧ (∀ (s : State) (mb : Nat) (c : MbCmd), s.current mb 0x0801 = some c →
    ∃ t, exec (.wplFreeze mb) s = .next t
      ∧ (c.started = false → t.wpl.offers = s.wpl.offers ++ [⟨s.time, 0x0A01, 180, sevInfo, 0⟩]
        ∧ (t.mbx.cmds.find? fun x => x.mb == mb) = some { c with started := true, arg := s.time })
      ∧ (c.started = true → s.freezeDue c.arg = false → (s.freezeRecord c.arg).isSome = true
        → s.answered t c stOK (leBytes 1 ((s.freezeRecord c.arg).getD 0) ++ leBytes 3 0) = true)
      ∧ (c.started = true → s.freezeDue c.arg = true → t = s))
  ∧ (∀ (s : State) (mb : Nat) (c : MbCmd), s.current mb 0x0802 = some c →
    ∃ t, exec (.wplResume mb) s = .next t
      ∧ s.answered t c stOK [] = true ∧ t.flag F.WPL_STAT_FROZEN 0 = false)
  ∧ (∀ (s : State) (mb : Nat) (c : MbCmd), s.current mb 0x0803 = some c →
    ∃ t, exec (.wplRecordList mb) s = .next t
      ∧ s.answered t c stOK s.wplListPayload = true ∧ t.wpl = s.wpl)
  ∧ (∀ (s : State) (mb : Nat) (c : MbCmd), s.current mb 0x0804 = some c →
    ∃ t, exec (.wplRecordRead mb) s = .next t
      ∧ (1 ≤ pf c 4 4 → pf c 4 4 ≤ 4095 → pf c 0 1 ≤ 7 → s.answered t c stOK (s.wplRecordPayload c.payload) = true)
      ∧ (pf c 4 4 = 0 ∨ 4095 < pf c 4 4 ∨ 7 < pf c 0 1 → s.answered t c stBADARG (detail 0 0) = true))
  ∧ (∀ (s : State) (mb k off : Nat) (back : List Byte) (c : MbCmd), s.current mb 0x0900 = some c → k = pf c 0 1 →
    off = pf c 4 4 → k ≤ 1 → s.get F.MBX_FW_STAT_BOOT_SLOT 0 ≠ k → back = c.payload.drop 8 →
    ∃ t, exec (.fwWrite mb back) s = .next t
      ∧ (off = 0 ∨ off = s.fwNext k → off + back.length ≤ slotSize → s.answered t c stOK (leBytes 4 (off + back.length)) = true
        ∧ t.fwNext k = off + back.length ∧ (∀ i ∈ upTo back.length, t.flashByte (slotBase k + off + i) = back.getD i 0))
      ∧ (off ≠ 0 → off ≠ s.fwNext k → s.answered t c stBADARG (detail 2 0) = true ∧ t.nvs = s.nvs))
  ∧ (∀ (s : State) (mb k : Nat) (c : MbCmd), s.current mb 0x0901 = some c → k = pf c 0 1 → k ≤ 1 →
    ∃ t, exec (.fwVerify mb) s = .next t
      ∧ s.answered t c stOK (leBytes 4 (s.imageCheck k) ++ leBytes 4 (s.imgVersion k) ++ leBytes 4 (s.imgSvn k) ++ leBytes 4 (s.imgLen k)) = true
      ∧ t.nvs = s.nvs)
  ∧ (∀ (s : State) (mb k : Nat) (c : MbCmd), s.current mb 0x0902 = some c → k = pf c 0 1 → k ≤ 1 →
    ∃ t, exec (.fwActivate mb) s = .next t
      ∧ t.nvs.preferred = k ∧ t.flag F.MBX_FW_STAT_FW_UP 0 = false ∧ t.get F.MBX_FW_STAT_LAST_CAUSE 0 = 3
      ∧ t.get F.MBX_FW_STAT_RESTARTS 0 = min 255 (s.get F.MBX_FW_STAT_RESTARTS 0 + 1)
      ∧ (c.drop = false → t.mbSt mb = mbRsp ∧ leAt (t.box mb).rspBuf 0 2 = stOK))
  ∧ (∀ (s : State) (mb x : Nat) (vpp : Bool) (c : MbCmd), s.current mb 0x0903 = some c → x = pf c 0 2 →
    ∃ t, exec (.fwMinSvn mb vpp) s = .next t
      ∧ (s.get F.MBX_FW_STAT_SVN 0 < x → s.answered t c stBADARG (detail 1 0) = true ∧ t.nvs = s.nvs)
      ∧ (x ≤ s.get F.MBX_FW_STAT_SVN 0 → x ≤ s.minSvn → s.answered t c stOK (leBytes 4 s.minSvn) = true ∧ t.nvs = s.nvs)
      ∧ (x ≤ s.get F.MBX_FW_STAT_SVN 0 → s.minSvn < x → (s.fw.stepOpen && vpp) = true → s.answered t c stOK (leBytes 4 x) = true ∧ t.minSvn = x)
      ∧ (x ≤ s.get F.MBX_FW_STAT_SVN 0 → s.minSvn < x → (s.fw.stepOpen && vpp) = false → s.answered t c stNORES (detail 1 0) = true ∧ t.nvs = s.nvs))
  ∧ (∀ (s : State) (mb x : Nat) (c : MbCmd), s.current mb 0x0A00 = some c → x = bitOf (pf c 0 1) 0 →
    ∃ t, exec (.tmuxUnlock mb) s = .next t
      ∧ (x = 1 → bitOf (s.hluEff 17) 0 = 0 → s.answered t c stLIMIT (detail 1 0) = true ∧ t.flag F.DBG_TMUX_STAT_UNLOCKED 0 = s.flag F.DBG_TMUX_STAT_UNLOCKED 0)
      ∧ (x = 0 ∨ bitOf (s.hluEff 17) 0 = 1 → t.get F.DBG_TMUX_STAT_UNLOCKED 0 = x ∧ s.answered t c stOK (leBytes 4 (t.readReg .DBG_TMUX_STAT 0).toNat) = true))
  ∧ (∀ (s : State) (mb x y : Nat) (c : MbCmd), s.current mb 0x0A01 = some c → x = pf c 0 1 → y = pf c 2 2 →
    ∃ t, exec (.tmuxSelect mb) s = .next t
      ∧ ((x < 4 ∨ (16 ≤ x ∧ x < 32)) → (y = 0xFFFF ∨ tmuxSignal y = true) → s.answered t c stOK [] = true ∧ mapGet (fun _ => 0xFFFF) t.side.tmux x = y)
      ∧ ((x < 4 ∨ (16 ≤ x ∧ x < 32)) → y ≠ 0xFFFF → tmuxSignal y = false → s.answered t c stBADARG (detail 1 0) = true ∧ t.side = s.side))

/-- Controller restarts and the Weapel recorder's entries, freezes, copies and resumption. (R545, R546, R548,
R549, R610, R613, R615, R616, R617, R621, 18_burig_controller.md, 20_weapel_recorder.md) -/
def Obligations.ControllerAndRecorder : Prop :=
  (∀ (s : State) (x : Nat), s.fwRuns = true →
    (s.fw.times.filter fun z => decide (s.time < z + 60000000000)).length = x →
    ∃ t, exec (.lockstepMismatch) s = .next t
      ∧ t.flag F.MBX_FW_STAT_FW_UP 0 = false ∧ t.get F.MBX_FW_STAT_LAST_CAUSE 0 = 2
      ∧ t.get F.MBX_FW_STAT_RESTARTS 0 = min 255 (s.get F.MBX_FW_STAT_RESTARTS 0 + 1)
      ∧ (x < 3 → t.fw.restarting = true ∧ t.flag F.MBX_FW_STAT_FAILED 0 = false)
      ∧ (3 ≤ x → t.fw.restarting = false ∧ t.flag F.MBX_FW_STAT_FAILED 0 = true))
  ∧ (∀ (s : State) (x : Nat), s.fwRuns = true →
    (s.fw.times.filter fun z => decide (s.time < z + 60000000000)).length = x →
    ∃ t, exec (.watchdogExpiry) s = .next t
      ∧ t.flag F.MBX_FW_STAT_FW_UP 0 = false ∧ t.get F.MBX_FW_STAT_LAST_CAUSE 0 = 1
      ∧ (x < 3 → t.fw.restarting = true ∧ t.flag F.MBX_FW_STAT_FAILED 0 = false)
      ∧ (3 ≤ x → t.fw.restarting = false ∧ t.flag F.MBX_FW_STAT_FAILED 0 = true)
      ∧ (t.mbx.cmds.all fun c => c.old) = true)
  ∧ (∀ (s : State) (src : Src) (v : Word), s.mayWrite src .MBX_FW_CTL 0 = true →
    fldOf F.MBX_FW_CTL_RESTART v = 1 → s.flag F.PWR_BOOT_STAT_DONE 0 = true →
    ∃ t, exec (.fwRestart src v) s = .next t
      ∧ t.flag F.MBX_FW_STAT_FAILED 0 = false ∧ t.flag F.MBX_FW_STAT_FW_UP 0 = false
      ∧ t.get F.MBX_FW_STAT_LAST_CAUSE 0 = 4 ∧ t.fw.restarting = true ∧ t.fw.times = [s.time])
  ∧ (∀ (s : State), s.fw.restarting = true → s.powered 1 = true → s.floorReset = 0 →
    ∃ t, exec (.controllerOpen) s = .next t
      ∧ (s.bootChoice.isSome = true → t.flag F.MBX_FW_STAT_FW_UP 0 = true ∧ t.fw.restarting = false ∧ t.fw.openTime = s.time
        ∧ t.get F.MBX_FW_STAT_BOOT_SLOT 0 = s.bootChoice.getD 0 % 2 ∧ (t.mbx.cmds.any fun c => c.old) = false)
      ∧ (s.bootChoice = none → t.flag F.MBX_FW_STAT_FAILED 0 = true ∧ t.fw.restarting = false ∧ t.flag F.MBX_FW_STAT_FW_UP 0 = s.flag F.MBX_FW_STAT_FW_UP 0))
  ∧ (∀ (s : State) (x : WplEntry), s.wpl.offers = [x] → s.wpl.queue = [] →
    ∃ t, exec (.weapelEntry) s = .next t
      ∧ (isTrigger x = false → s.flag F.WPL_STAT_FROZEN 0 = false → t.ringEntry (s.get F.WPL_STAT_NEXT 0) = some x
        ∧ t.get F.WPL_STAT_NEXT 0 = (s.get F.WPL_STAT_NEXT 0 + 1) % 4096
        ∧ t.get F.WPL_STAT_VALID_CNT 0 = min 4096 (s.get F.WPL_STAT_VALID_CNT 0 + 1) ∧ t.wpl.offers = [])
      ∧ (isTrigger x = false → s.flag F.WPL_STAT_FROZEN 0 = true → t.wpl.ring = s.wpl.ring
        ∧ t.get F.WPL_DROP_FROZEN_DROP 0 = min 65535 (s.get F.WPL_DROP_FROZEN_DROP 0 + 1))
      ∧ (isTrigger x = true → s.flag F.WPL_STAT_COPYING 0 = false → t.ringEntry (s.get F.WPL_STAT_NEXT 0) = some x
        ∧ t.flag F.WPL_STAT_FROZEN 0 = true ∧ t.flag F.WPL_STAT_COPYING 0 = true ∧ t.wpl.copy.isSome = true)
      ∧ (isTrigger x = true → s.flag F.WPL_STAT_COPYING 0 = true → t.wpl.ring = s.wpl.ring ∧ t.wpl.queue = [x] ∧ t.wpl.offers = []))
  ∧ (∀ (s : State) (ok : Bool) (r : WplRecord), s.wpl.copy = some r → s.wpl.queue = [] →
    ∃ t, exec (.recordCopyDone ok) s = .next t
      ∧ t.flag F.WPL_STAT_COPYING 0 = false ∧ t.wpl.copy = none
      ∧ (ok = true → t.wpl.newest = (s.wpl.newest + 1) % 8 ∧ t.wplRecord ((s.wpl.newest + 1) % 8) = r ∧ t.wpl.lastSeq = r.seq)
      ∧ (ok = false → t.wpl.newest = s.wpl.newest ∧ (t.wplRecord ((s.wpl.newest + 1) % 8)).valid = false))
  ∧ (∀ (s : State) (src : Src) (v : Word), s.mayWrite src .WPL_CTL 0 = true → fldOf F.WPL_CTL_FREEZE v = 1 →
    ∃ t, exec (.wplCtlFreeze src v) s = .next t
      ∧ (fldOf F.WPL_CTL_RESUME v = 0 → t.wpl.offers = s.wpl.offers ++ [⟨s.time, 0x0A01, 180, sevInfo, 1⟩] ∧ t.regs = s.regs)
      ∧ (fldOf F.WPL_CTL_RESUME v = 1 → t = s))
  ∧ (∀ (s : State) (src : Src) (v : Word), s.mayWrite src .WPL_CTL 0 = true → fldOf F.WPL_CTL_RESUME v = 1 →
    fldOf F.WPL_CTL_FREEZE v = 0 →
    ∃ t, exec (.wplCtlResume src v) s = .next t
      ∧ t.flag F.WPL_STAT_FROZEN 0 = false
      ∧ (s.flag F.WPL_STAT_FROZEN 0 = true → t.ringEntry (s.get F.WPL_STAT_NEXT 0) = some ⟨s.time, 0x0A03, 180, sevInfo, min (2 ^ 32 - 1) s.wpl.discarded⟩)
      ∧ (s.flag F.WPL_STAT_FROZEN 0 = false → t = s))

/-- The steps of the floor-die reset, the TAP's instructions and DBG_EN. (R609, R631, R632, R633, R634, R636,
R652, R653, 21_startup_and_reset.md, 22_ddr_sideband_debug.md) -/
def Obligations.FloorResetAndTap : Prop :=
  (∀ (s : State) (x : Nat) (v : Word), x < 2 → s.portLive x = true → s.powered 0 = true →
    ∃ t, exec (.floorReset (.pf x) v) s = .next t
      ∧ (fldOf F.PWR_RST_CTL_FLOOR v = 1 → s.floorRefused = false → t.floorReset = 1 ∧ t.flag F.MBX_FW_STAT_FW_UP 0 = false
        ∧ t.get F.PWR_RST_CTL_HOLD_US 0 = clampNat 1 1000 (fldOf F.PWR_RST_CTL_HOLD_US v))
      ∧ (fldOf F.PWR_RST_CTL_FLOOR v = 1 → s.floorRefused = true → t.floorReset = s.floorReset ∧ t.flag F.PWR_RST_STAT_RST_ERR 0 = true
        ∧ t.get F.PWR_RST_CTL_HOLD_US 0 = s.get F.PWR_RST_CTL_HOLD_US 0)
      ∧ (fldOf F.PWR_RST_CTL_FLOOR v = 0 → t.floorReset = s.floorReset
        ∧ t.get F.PWR_RST_CTL_HOLD_US 0 = clampNat 1 1000 (fldOf F.PWR_RST_CTL_HOLD_US v)))
  ∧ (∀ (s : State), s.floorReset = 1 →
    ∃ t, exec (.floorResetEnterDone) s = .next t
      ∧ t.floorReset = 2
      ∧ (∀ ch ∈ upTo 8, (s.chan ch).entering = true → t.ddrSt ch = ddSelfref ∧ (t.chan ch).entering = false))
  ∧ (∀ (s : State), s.floorReset = 2 → s.timerDue tmHold (1000 * s.get F.PWR_RST_CTL_HOLD_US 0) = true →
    ∃ t, exec (.floorResetHoldEnd) s = .next t
      ∧ t.floorReset = 3 ∧ t.haul.queues = [] ∧ t.memt.reqs = [] ∧ t.pcie.bars = []
      ∧ (∀ b p, (t.hport b p).pend = []))
  ∧ (∀ (s : State) (evals : List (Nat × List Nat)), s.floorReset = 3 →
    ∃ t, exec (.floorResetReleaseDone evals) s = .next t
      ∧ t.floorReset = 0
      ∧ t.get F.PWR_RST_STAT_FLOOR_CNT 0 = min 65535 (s.get F.PWR_RST_STAT_FLOOR_CNT 0 + 1)
      ∧ t.get F.PWR_RST_STAT_LAST 0 = 2
      ∧ (s.fw.restarting = false → s.flag F.MBX_FW_STAT_FAILED 0 = false → s.powered 1 = true → t.flag F.MBX_FW_STAT_FW_UP 0 = true))
  ∧ (∀ (s : State), s.powered 5 = true →
    ∃ t, exec (.tapReset) s = .next t
      ∧ t.side.tapIr = tapIdcode ∧ t.side.tapPins = false)
  ∧ (∀ (s : State), s.powered 5 = true →
    ∃ t, exec (.tapBypass) s = .next t
      ∧ t.side.tapIr = tapBypass ∧ t.side.tapPins = false)
  ∧ (∀ (s : State), s.powered 5 = true →
    ∃ t, exec (.tapIdcode) s = .next t
      ∧ t.side.tapIr = tapIdcode ∧ t.side.tapPins = false
      ∧ (s.side.tapPins = false → t = { s with side := { s.side with tapIr := tapIdcode } }))
  ∧ (∀ (s : State), s.powered 5 = true →
    ∃ t, exec (.tapSamplePreload) s = .next t
      ∧ t.side.tapIr = tapSample ∧ t.side.tapPins = false)
  ∧ (∀ (s : State), s.powered 5 = true →
    ∃ t, exec (.tapExtest) s = .next t
      ∧ t.side.tapIr = tapExtest ∧ t.side.tapPins = s.side.dbgEn
      ∧ (s.side.dbgEn = true → (∀ n ∈ upTo 64, s.laneUp n = true → s.laneMode n ≠ 0 → t.flag F.LANE_STAT_LOL n = true))
      ∧ (s.side.dbgEn = true → s.powered (dPcie 0) = true → t.flag F.PCIE_LINK_STAT_UP 0 = false)
      ∧ (s.side.dbgEn = true → s.powered (dPcie 1) = true → t.flag F.PCIE_LINK_STAT_UP 1 = false))
  ∧ (∀ (s : State), s.powered 5 = true →
    ∃ t, exec (.tapClamp) s = .next t
      ∧ t.side.tapIr = tapClamp ∧ t.side.tapPins = s.side.dbgEn)
  ∧ (∀ (s : State), s.powered 5 = true →
    ∃ t, exec (.tapHighz) s = .next t
      ∧ t.side.tapIr = tapHighz ∧ t.side.tapPins = s.side.dbgEn)
  ∧ (∀ (s : State), s.powered 5 = true →
    ∃ t, exec (.tapExtestPulse) s = .next t
      ∧ t.side.tapIr = tapExtestPulse ∧ t.side.tapPins = s.side.dbgEn)
  ∧ (∀ (s : State), s.powered 5 = true →
    ∃ t, exec (.tapExtestTrain) s = .next t
      ∧ t.side.tapIr = tapExtestTrain ∧ t.side.tapPins = s.side.dbgEn)
  ∧ (∀ (s : State) (on : Bool), s.powered 5 = true →
    ∃ t, exec (.dbgEnChange on) s = .next t
      ∧ t.side.dbgEn = on ∧ t.side.tapIr = s.side.tapIr ∧ t.side.tapPins = (on && tapDrives s.side.tapIr)
      ∧ (on = false → t.flag F.DBG_TMUX_STAT_UNLOCKED 0 = false))

/-- Register writes under the access codes, writes that do not reach, and reads that latch. (R8, R9, R258, R259,
R283, 00_scope.md, 08_benches_and_tenancy.md) -/
def Obligations.RegisterAccess : Prop :=
  (∀ (s : State) (src : Src) (r : Reg) (i : Nat) (v : Word), s.mayWrite src r i = true →
    s.windowInst src r i = true →
    r ∈ [Reg.BENCH_DLYMON_SEL, .MEMT_SEL, .MEMT_REMAP_IDX, .MEMT_PATROL_CTL, .MEMT_EVT, .MEMT_EVT_EN, .HOP_LEVEL, .HOP_IDLE_0, .HOP_IDLE_1, .HOP_IDLE_2, .HOP_STAT, .HOP_EVT, .HOP_EVT_EN, .BENCH_PLANE_STAT, .BENCH_PLANE_EVT, .BENCH_PLANE_EVT_EN, .BENCH_SCHED_LIST, .BENCH_BND_MODE, .BENCH_USER_CONST, .CTX_STAT, .CTX_EVT, .CTX_EVT_EN, .CTX_SLOT_SEL, .CTX_PATROL, .MEY_LOAD_SRC_LO, .MEY_LOAD_LEN, .MEY_LOAD_EVT, .BENCH_HWIN_LO, .BENCH_FENCE_STAT, .BENCH_RING_HEAD, .HN_RT_SEL, .HN_RTR_STAT, .HN_PRB_SEL, .HN_PRB_SRC, .HN_PRB_EVT, .HN_EPOCH_STAT, .PCIE_LINK_STAT, .LANE_STAT, .LANE_LINKID, .LANE_USER, .ETH_PORT_STAT, .PWR_RAIL_STAT, .THM_SITE, .THM_SHDN_MODE, .THM_STAT, .MBX_STATUS, .MBX_FW_STAT, .DDR_CH_STAT, .DBG_GPIO_OUT] →
    ∃ t, exec (.registerWrite src r i v) s = .next t
      ∧ t = s.setReg r i (maskedWrite r (s.reg r i) v) ∧ t.reg r i = maskedWrite r (s.reg r i) v
      ∧ (t.reg r i &&& (rwMask r &&& ~~~(w1cMask r)) = v &&& (rwMask r &&& ~~~(w1cMask r)))
      ∧ (t.reg r i &&& (w1cMask r &&& v) = 0)
      ∧ (t.reg r i &&& ~~~(rwMask r ||| w1cMask r) = s.reg r i &&& ~~~(rwMask r ||| w1cMask r)))
  ∧ (∀ (s : State) (src : Src) (r : Reg) (i : Nat) (v : Word),
    s.mayWrite src r i = false ∨ s.windowInst src r i = false → src ≠ .other ∨ r ≠ .HLU_BOARD →
    ∃ t, exec (.registerWrite src r i v) s = .next t
      ∧ t = s)
  ∧ (∀ (s : State) (src : Src) (r r2 : Reg) (i x : Nat), s.mayRead src r i = true →
    s.wideCount r i = some (x, r2) →
    ∃ t, exec (.readingLoLatchesHi src r i) s = .next t
      ∧ t = s.setReg r2 i (BitVec.ofNat 32 (x / 2 ^ 32)) ∧ (t.reg r2 i).toNat = x / 2 ^ 32 % 2 ^ 32
      ∧ t.readReg r i = BitVec.ofNat 32 x)
  ∧ (∀ (s : State) (src : Src) (r : Reg) (i : Nat), s.mayRead src r i = false ∨ s.wideCount r i = none →
    ∃ t, exec (.readingLoLatchesHi src r i) s = .next t
      ∧ t = s)

/-- The floor-die reset goes from step to step, and only so. (R631, R632, R633, 21_startup_and_reset.md) -/
def Obligations.FloorResetSteps : Prop :=
  (∀ (s : State) (src : Src) (v : Word),
    ∃ t, exec (.floorReset src v) s = .next t
      ∧ ((∀ x, src ≠ .pf x) → t = s) ∧ (s.floorReset ≠ 0 → t.floorReset = s.floorReset ∧ t.ddr = s.ddr)
      ∧ (s.floorReset = 0 → t.floorReset = 1 → (∀ ch ∈ upTo 8, s.ddrSt ch = ddReady → (t.chan ch).entering = true)))
  ∧ (∀ (s : State),
    ∃ t, exec (.floorResetEnterDone) s = .next t
      ∧ (s.floorReset = 1 → t.floorReset = 2) ∧ (s.floorReset ≠ 1 → t = s) ∧ t.memt = s.memt)
  ∧ (∀ (s : State),
    ∃ t, exec (.floorResetHoldEnd) s = .next t
      ∧ (s.floorReset = 2 → s.timerDue tmHold (1000 * s.get F.PWR_RST_CTL_HOLD_US 0) = true → t.floorReset = 3)
      ∧ (s.floorReset ≠ 2 ∨ s.timerDue tmHold (1000 * s.get F.PWR_RST_CTL_HOLD_US 0) = false → t = s)
      ∧ t.haul.tables = s.haul.tables ∧ t.haul.trace = s.haul.trace ∧ t.memt.words = s.memt.words)
  ∧ (∀ (s : State) (evals : List (Nat × List Nat)),
    ∃ t, exec (.floorResetReleaseDone evals) s = .next t
      ∧ (s.floorReset = 3 → t.floorReset = 0) ∧ (s.floorReset ≠ 3 → t = s) ∧ t.haul.tables = s.haul.tables)

/-- The TAP takes each instruction in every state in which PD_SIDE feeds it, and DBG_EN follows its pin. (R652,
R653, 22_ddr_sideband_debug.md) -/
def Obligations.TapAndDebugEnable : Prop :=
  (∀ (s : State),
    ∃ t, exec (.tapReset) s = .next t
      ∧ (s.powered 5 = true → t.side.tapIr = tapIdcode ∧ t.side.tapPins = (tapDrives tapIdcode && s.side.dbgEn))
      ∧ (s.powered 5 = false → t = s) ∧ t.side.dbgEn = s.side.dbgEn ∧ t.planes = s.planes)
  ∧ (∀ (s : State),
    ∃ t, exec (.tapBypass) s = .next t
      ∧ (s.powered 5 = true → t.side.tapIr = tapBypass ∧ t.side.tapPins = (tapDrives tapBypass && s.side.dbgEn))
      ∧ (s.powered 5 = false → t = s) ∧ t.side.dbgEn = s.side.dbgEn ∧ t.planes = s.planes)
  ∧ (∀ (s : State),
    ∃ t, exec (.tapIdcode) s = .next t
      ∧ (s.powered 5 = true → t.side.tapIr = tapIdcode ∧ t.side.tapPins = (tapDrives tapIdcode && s.side.dbgEn))
      ∧ (s.powered 5 = false → t = s) ∧ t.side.dbgEn = s.side.dbgEn ∧ t.planes = s.planes)
  ∧ (∀ (s : State),
    ∃ t, exec (.tapSamplePreload) s = .next t
      ∧ (s.powered 5 = true → t.side.tapIr = tapSample ∧ t.side.tapPins = (tapDrives tapSample && s.side.dbgEn))
      ∧ (s.powered 5 = false → t = s) ∧ t.side.dbgEn = s.side.dbgEn ∧ t.planes = s.planes)
  ∧ (∀ (s : State),
    ∃ t, exec (.tapExtest) s = .next t
      ∧ (s.powered 5 = true → t.side.tapIr = tapExtest ∧ t.side.tapPins = (tapDrives tapExtest && s.side.dbgEn))
      ∧ (s.powered 5 = false → t = s) ∧ t.side.dbgEn = s.side.dbgEn ∧ t.planes = s.planes)
  ∧ (∀ (s : State),
    ∃ t, exec (.tapClamp) s = .next t
      ∧ (s.powered 5 = true → t.side.tapIr = tapClamp ∧ t.side.tapPins = (tapDrives tapClamp && s.side.dbgEn))
      ∧ (s.powered 5 = false → t = s) ∧ t.side.dbgEn = s.side.dbgEn ∧ t.planes = s.planes)
  ∧ (∀ (s : State),
    ∃ t, exec (.tapHighz) s = .next t
      ∧ (s.powered 5 = true → t.side.tapIr = tapHighz ∧ t.side.tapPins = (tapDrives tapHighz && s.side.dbgEn))
      ∧ (s.powered 5 = false → t = s) ∧ t.side.dbgEn = s.side.dbgEn ∧ t.planes = s.planes)
  ∧ (∀ (s : State),
    ∃ t, exec (.tapExtestPulse) s = .next t
      ∧ (s.powered 5 = true → t.side.tapIr = tapExtestPulse ∧ t.side.tapPins = (tapDrives tapExtestPulse && s.side.dbgEn))
      ∧ (s.powered 5 = false → t = s) ∧ t.side.dbgEn = s.side.dbgEn ∧ t.planes = s.planes)
  ∧ (∀ (s : State),
    ∃ t, exec (.tapExtestTrain) s = .next t
      ∧ (s.powered 5 = true → t.side.tapIr = tapExtestTrain ∧ t.side.tapPins = (tapDrives tapExtestTrain && s.side.dbgEn))
      ∧ (s.powered 5 = false → t = s) ∧ t.side.dbgEn = s.side.dbgEn ∧ t.planes = s.planes)
  ∧ (∀ (s : State) (on : Bool),
    ∃ t, exec (.dbgEnChange on) s = .next t
      ∧ t.side.dbgEn = on ∧ t.side.tapIr = s.side.tapIr
      ∧ (s.powered 5 = false → t = { s with side := { s.side with dbgEn := on } }) ∧ t.planes = s.planes)

/-- The codes of memory words, DRAM words, link flits and sidebands: what is encoded reads back, one wrong bit is
corrected wherever it lies, two are detected. (R95, R96, R99, R306, R641, 03_memory_tier.md) -/
def Obligations.CheckCodesCorrectAndDetect : Prop :=
  (∀ p ∈ [(7, 64), (8, 128), (5, 22)], ∀ d < 2 ^ p.2,
    secEncode p.1 p.2 d < 2 ^ (p.2 + p.1 + 1)
    ∧ (secDecode p.1 p.2 (secEncode p.1 p.2 d)).kind = .clean
    ∧ (secDecode p.1 p.2 (secEncode p.1 p.2 d)).data = d
    ∧ (∀ k < p.2 + p.1 + 1,
        (secDecode p.1 p.2 (Nat.xor (secEncode p.1 p.2 d) (2 ^ k))).kind = .corrected
        ∧ (secDecode p.1 p.2 (Nat.xor (secEncode p.1 p.2 d) (2 ^ k))).data = d
        ∧ (secDecode p.1 p.2 (Nat.xor (secEncode p.1 p.2 d) (2 ^ k))).bit = k)
    ∧ ∀ k < p.2 + p.1 + 1, ∀ j < k,
        (secDecode p.1 p.2 (Nat.xor (Nat.xor (secEncode p.1 p.2 d) (2 ^ k)) (2 ^ j))).kind = .bad)
  ∧ ((secCodes 7 64).getD 0 0 = 0x03 ∧ (secCodes 7 64).getD 1 0 = 0x05 ∧ (secCodes 7 64).getD 63 0 = 0x47)
  ∧ ∀ d < 2 ^ 64, eccDecode (poisonEncode d) = ⟨.bad, d, 0x03, 0, 0⟩

/-- THM_SET writes the limits, the shutdown mode and the privilege control, or on a refusal of R517 nothing else.
(R595) -/
def Obligations.ThmSetWritesInOrder : Prop :=
  ∀ (s : State) (mb : Nat) (c : MbCmd), s.current mb 0x0502 = some c →
    ∃ t, exec (.thmSet mb) s = .next t
      ∧ (s.hluEff 15 < fldOf F.THM_LIMITS_SHDN_C (pw c 0) → s.answered t c stLIMIT (detail 1 0) = true)
      ∧ (fldOf F.THM_LIMITS_SHDN_C (pw c 0) ≤ s.hluEff 15 → s.limitsBad (pw c 0) = true →
          s.answered t c stBADARG (detail 1 0) = true)
      ∧ ((s.hluEff 15 < fldOf F.THM_LIMITS_SHDN_C (pw c 0) ∨ s.limitsBad (pw c 0) = true) →
          ∀ (r : Reg) (i : Nat), r ∉ [Reg.THM_STAT, .HLU_REFUSE, .MBX_STATUS] → t.reg r i = s.reg r i)
      ∧ (fldOf F.THM_LIMITS_SHDN_C (pw c 0) ≤ s.hluEff 15 → s.limitsBad (pw c 0) = false →
          s.answered t c stOK [] = true
          ∧ t.reg .THM_LIMITS 0 = (s.limitsWrite 2 (pw c 0)).reg .THM_LIMITS 0
          ∧ t.get F.THM_LIMITS_SHDN_C 0 = fldOf F.THM_LIMITS_SHDN_C (pw c 0)
          ∧ t.get F.THM_LIMITS_THROT_C 0 = fldOf F.THM_LIMITS_THROT_C (pw c 0)
          ∧ t.get F.THM_LIMITS_WARN_C 0 = fldOf F.THM_LIMITS_WARN_C (pw c 0)
          ∧ t.get F.THM_LIMITS_THROT_HYST 0 = max 1 (fldOf F.THM_LIMITS_THROT_HYST (pw c 0))
          ∧ t.get F.THM_LIMITS_WARN_HYST 0 = max 1 (fldOf F.THM_LIMITS_WARN_HYST (pw c 0))
          ∧ t.get F.THM_SHDN_MODE_MODE 0 = fldOf F.THM_SHDN_MODE_MODE (pw c 4)
          ∧ t.get F.THM_PRIV_CTL_GRACE_MS 0 = clampNat 1 100 (fldOf F.THM_PRIV_CTL_GRACE_MS (pw c 8))
          ∧ t.get F.THM_PRIV_CTL_PRIV_TGT 0 = max 1 (fldOf F.THM_PRIV_CTL_PRIV_TGT (pw c 8)))

/-- ROUTER_RETIRE retires a bench router, lists it in the spoil list and answers after the EPOCH step. (R601) -/
def Obligations.RouterRetirement : Prop :=
  ∀ (s : State) (mb : Nat) (c : MbCmd), s.current mb 0x0702 = some c →
    (c.started = false → pf c 0 1 < 80 → s.powered (dHn (routerCol (pf c 0 1))) = true →
      ∃ t, exec (.routerRetire mb) s = .next t
        ∧ (routerRow (pf c 0 1) = 0 →
            s.answered t c stBADARG (detail 1 0) = true ∧ t.nvs = s.nvs ∧ t.repair = s.repair ∧ t.haul = s.haul)
        ∧ (routerRow (pf c 0 1) ≠ 0 → s.flag F.HN_RTR_STAT_RETIRED (pf c 0 1) = true →
            s.answered t c stOK [] = true ∧ t.nvs = s.nvs ∧ t.repair = s.repair ∧ t.haul = s.haul
            ∧ ∀ k, t.reg .HN_RTR_STAT k = s.reg .HN_RTR_STAT k)
        ∧ (routerRow (pf c 0 1) ≠ 0 → s.flag F.HN_RTR_STAT_RETIRED (pf c 0 1) = false →
            t.flag F.HN_RTR_STAT_RETIRED (pf c 0 1) = true ∧ t.repair.detourDue = true
            ∧ (s.nvs.spoil.length < 16384 →
                t.nvs.spoil = s.nvs.spoil ++ [(⟨0x0A, 0, pf c 0 1, s.time⟩ : SpoilEntry)])
            ∧ (∀ p < 4, ∀ e ∈ farEnd (pf c 0 1) p, mapGet (fun _ => false) t.haul.closed (7 * e.1 + e.2) = true)
            ∧ (∀ e ∈ t.haul.queues, e.1 / 56 ≠ pf c 0 1) ∧ (∀ e ∈ t.haul.inside, e.1 / 2 ≠ pf c 0 1)
            ∧ (t.mbx.cmds.find? fun x => x.mb == mb) = some { c with started := true, arg := 0 }
            ∧ t.mbSt mb = s.mbSt mb))
    ∧ (c.started = true →
      ∃ t, exec (.routerRetire mb) s = .next t
        ∧ ((s.repair.detourDue = true ∨ s.flag F.HN_EPOCH_STAT_DRAINING 0 = true) → t = s)
        ∧ (s.repair.detourDue = false → s.flag F.HN_EPOCH_STAT_DRAINING 0 = false → s.answered t c stOK [] = true))

/-- The firmware layer changes only by the controller's own writes, within the board layer, and starts at the
absolute layer. (R566) -/
def Obligations.FirmwareLayerIsTheControllers : Prop :=
  (∀ (c : Instr) (s t : State) (q : Nat), q < 20 → exec c s = .next t →
    t.reg .HLU_FW q = s.reg .HLU_FW q
    ∨ (((∃ mb, c = .hluFwSet mb) ∨ ∃ v, c = .registerWrite .fw .HLU_FW q v)
        ∧ hluWithin q (t.get F.HLU_FW_VALUE q) (t.get F.HLU_BOARD_VALUE q) = true)
    ∨ (losesAon c = true ∧ t.get F.HLU_FW_VALUE q = hluAbs q))
  ∧ (∀ (x q : Nat) (v : Word) (s : State), ∃ t, exec (.registerWrite (.pf x) .HLU_FW q v) s = .next t
      ∧ ∀ j, t.reg .HLU_FW j = s.reg .HLU_FW j)
  ∧ (∀ s : State, ∃ t, exec .powerOnReset s = .next t ∧ ∀ q < 20, t.get F.HLU_FW_VALUE q = hluAbs q)
  ∧ ∀ (c : Instr) (s : State), ((∃ src v, c = .fwRestart src v) ∨ c ∈ [.lockstepMismatch, .watchdogExpiry, .controllerOpen]) →
      ∃ t, exec c s = .next t ∧ ∀ q, t.reg .HLU_FW q = s.reg .HLU_FW q

/-- The board layer is loaded from OTP or written by a PCIe end point until LOCK, and by nothing else. (R565) -/
def Obligations.BoardLayerAndLock : Prop :=
  (∀ (s : State) (l : List Nat), s.nvs.otpBoard = some l → ∃ t, exec .powerOnReset s = .next t
    ∧ t.flag F.HLU_CTL_LOCK 0 = true ∧ t.flag F.HLU_CTL_OTP_BOARD 0 = true
    ∧ ∀ q < 20, t.reg .HLU_BOARD q = BitVec.ofNat 32 (l.getD q (hluAbs q)))
  ∧ (∀ (c : Instr) (s t : State) (q : Nat), q < 20 → losesAon c = false → exec c s = .next t →
      t.reg .HLU_BOARD q ≠ s.reg .HLU_BOARD q →
        (∃ x v, c = .hluBoardWrite (.pf x) q v ∨ c = .registerWrite (.pf x) .HLU_BOARD q v)
        ∧ s.flag F.HLU_CTL_LOCK 0 = false ∧ hluWithin q (t.get F.HLU_BOARD_VALUE q) (hluAbs q) = true)
  ∧ (∀ (s : State) (x q : Nat) (v : Word), s.mayWrite (.pf x) .HLU_BOARD q = true → s.flag F.HLU_CTL_LOCK 0 = false →
      hluWithin q v.toNat (hluAbs q) = true → (s.setReg .HLU_BOARD q v).surgeTooSmall q = false →
        ∃ t, exec (.hluBoardWrite (.pf x) q v) s = .next t ∧ t.reg .HLU_BOARD q = v)
  ∧ (∀ (s : State) (src : Src) (q : Nat) (v : Word), (∀ x, src ≠ .pf x) →
      ∃ t, exec (.hluBoardWrite src q v) s = .next t ∧ ∀ j, t.reg .HLU_BOARD j = s.reg .HLU_BOARD j)
  ∧ ∀ (c : Instr) (s t : State), losesAon c = false → exec c s = .next t → s.flag F.HLU_CTL_LOCK 0 = true →
      t.flag F.HLU_CTL_LOCK 0 = true ∧ ∀ q < 20, t.reg .HLU_BOARD q = s.reg .HLU_BOARD q

/-- At most four domains are in RAMP at once; further power-ups wait, the lowest domain first; power-downs do not.
(R502) -/
def Obligations.AtMostFourDomainsRamp : Prop :=
  (∀ (c : Instr) (s t : State), s.ramping ≤ 4 → exec c s = .next t → t.ramping ≤ 4)
  ∧ (∀ (s : State) (src : Src) (d : Nat) (v : Word), s.mayWrite src .PWR_DOM d = true → fldOf F.PWR_DOM_ON v = 1 →
      s.floorReset = 0 → s.flag F.PWR_DOM_ON d = false → s.pwrCheck d true = 0 → s.ramping = 4 →
        ∃ t, exec (.domainPowerUp src d v) s = .next t ∧ d ∈ t.power.rampWait ∧ (∀ e ∈ s.power.rampWait, e ∈ t.power.rampWait)
          ∧ ∀ e, t.domSt e = s.domSt e)
  ∧ (∀ (s : State) (d : Nat), s.floorReset = 0 → s.ramping < 4 → d ∈ s.power.rampWait → (∀ e ∈ s.power.rampWait, d ≤ e) →
        ∃ t, exec .rampSlotFree s = .next t ∧ t.domSt d = pdRamp ∧ (∀ e, e ≠ d → t.domSt e = s.domSt e)
          ∧ t.power.rampWait.length + 1 = s.power.rampWait.length)
  ∧ ∀ (s : State) (src : Src) (d : Nat) (v : Word), s.mayWrite src .PWR_DOM d = true → fldOf F.PWR_DOM_ON v = 0 →
      s.floorReset = 0 → s.flag F.PWR_DOM_ON d = true → s.pwrCheck d false = 0 →
      (d < 33 ∨ s.flag F.BENCH_SHIFT_REPAIRING (d - 33) = false) →
        ∃ t, exec (.domainPowerDown src d v) s = .next t ∧ t.domSt d = pdQuiesce

/-- The effective bound of a quantity lies within each of its three layers, and nothing within all three lies
outside it. (R563, R564, 16_power_domains.md) -/
def Obligations.EffectiveBoundIsTheTightest : Prop :=
  ∀ (s : State) (q : Nat), q < 20 →
    hluWithin q (s.hluEff q) (hluAbs q) = true
    ∧ hluWithin q (s.hluEff q) (s.get F.HLU_BOARD_VALUE q) = true
    ∧ hluWithin q (s.hluEff q) (s.get F.HLU_FW_VALUE q) = true
    ∧ ∀ v, hluWithin q v (hluAbs q) = true → hluWithin q v (s.get F.HLU_BOARD_VALUE q) = true →
        hluWithin q v (s.get F.HLU_FW_VALUE q) = true → hluWithin q v (s.hluEff q) = true

/-- Device time moves at its tick and nowhere else, and starts at 0 when PD_AON leaves power-on reset. (R12, R482,
00_scope.md) -/
def Obligations.DeviceTimeOnlyTicks : Prop :=
  (∀ (c : Instr) (s t : State), exec c s = .next t → c ≠ .deviceTimeTick → losesAon c = false → t.time = s.time)
  ∧ (∀ s : State, s.powered 0 = true → ∃ t, exec .deviceTimeTick s = .next t
      ∧ t.time = (s.time + (if s.get F.CLK_OSC_STAT_DT_SRC 0 = 0 then 40 else 5)) % 2 ^ 64
      ∧ t.memt = s.memt ∧ t.ddr = s.ddr ∧ t.slots = s.slots ∧ t.planes = s.planes ∧ t.power = s.power ∧ t.nvs = s.nvs)
  ∧ ∀ s : State, ∃ t, exec .powerOnReset s = .next t ∧ t.time = 0

/-- A WRITE to a DDR channel stores its bytes in the words of its range, merged with what those words held, and no
other word of any channel changes. (R641, R676, R640, 22_ddr_sideband_debug.md) -/
def Obligations.DramKeepsWhatIsWritten : Prop :=
  ∀ (s : State) (ch hdr : Nat) (flits : List (Nat × Bool)), ch < 8 → s.powered (dDdr (ch / 2)) = true → s.floorReset = 0 →
    hOp hdr = opWrite → opMatchesClass (hOp hdr) (hClass hdr) = true → hClass hdr ≠ clsRsp →
    packetFlits (hOp hdr) (hAddr hdr) (hLen hdr) 0 ≤ flits.length → s.ddrSt ch = ddReady → s.side.tapPins = false →
    (s.ddrPlace (hAddr hdr)).2 + hLen hdr + 1 ≤ s.get F.DDR_CH_STAT_SIZE_GIB ch * 2 ^ 30 →
    ∃ t, exec (.ddrRequest ch hdr flits []) s = .next t
      ∧ (∀ ch2 w, (ch2 ≠ ch ∨ w < (s.ddrPlace (hAddr hdr)).2 / 8 ∨ ((s.ddrPlace (hAddr hdr)).2 + hLen hdr) / 8 < w) →
          t.dramWord ch2 w = s.dramWord ch2 w)
      ∧ ∀ w, (s.ddrPlace (hAddr hdr)).2 / 8 ≤ w → w ≤ ((s.ddrPlace (hAddr hdr)).2 + hLen hdr) / 8 →
          (flits.getD (w / 8 - (s.ddrPlace (hAddr hdr)).2 / 64) (0, false)).2 = false →
          ((s.ddrPlace (hAddr hdr)).2 ≤ 8 * w → 8 * w + 8 ≤ (s.ddrPlace (hAddr hdr)).2 + hLen hdr + 1 →
            t.dramWord ch w
              = eccEncode (bitsOf (flits.getD (w / 8 - (s.ddrPlace (hAddr hdr)).2 / 64) (0, false)).1 (64 * (w % 8)) 64))
          ∧ (rangeBe (s.ddrPlace (hAddr hdr)).2 (hLen hdr) (w - (s.ddrPlace (hAddr hdr)).2 / 8) ≠ 255 →
            (eccDecode (s.dramWord ch w)).kind ≠ .bad →
            t.dramWord ch w = eccEncode (mergeBytes
              (rangeBe (s.ddrPlace (hAddr hdr)).2 (hLen hdr) (w - (s.ddrPlace (hAddr hdr)).2 / 8))
              (eccDecode (s.dramWord ch w)).data
              (bitsOf (flits.getD (w / 8 - (s.ddrPlace (hAddr hdr)).2 / 64) (0, false)).1 (64 * (w % 8)) 64)))

/-- A DDR request at or beyond the installed capacity is answered UNMAPPED, whatever the interleaving, and one
within it is served. (R640) -/
def Obligations.BeyondCapacityUnmapped : Prop :=
  ∀ (s : State) (ch hdr : Nat) (flits : List (Nat × Bool)), ch < 8 → s.powered (dDdr (ch / 2)) = true → s.floorReset = 0 →
    isNonPosted (hOp hdr) = true → hClass hdr ≠ clsRsp → opMatchesClass (hOp hdr) (hClass hdr) = true →
    packetFlits (hOp hdr) (hAddr hdr) (hLen hdr) 0 ≤ flits.length → s.ddrSt ch = ddReady → s.side.tapPins = false →
    ∃ t, exec (.ddrRequest ch hdr flits []) s = .next t
      ∧ (s.get F.DDR_CH_STAT_SIZE_GIB ch * 2 ^ 30 ≤ (s.ddrPlace (hAddr hdr)).2 → t = s.ddrAnswer ch hdr stUnmapped [])
      ∧ ((s.ddrPlace (hAddr hdr)).2 + hLen hdr + 1 ≤ s.get F.DDR_CH_STAT_SIZE_GIB ch * 2 ^ 30 →
          ∃ (u : State) (st : Nat) (data : List (Nat × Bool)), t = u.ddrAnswer ch hdr st data ∧ u.out = s.out
            ∧ (st = stOk ∨ st = stPoison))

/-- Counters stop at their highest value, and a write of 0 clears them. (R118, R219, R655, R186, R119,
03_memory_tier.md) -/
def Obligations.CountersSaturateAndClear : Prop :=
  (∀ (s : State) (f : Fld) (i : Nat), f.lo + f.w ≤ 32 → (s.inc f i).get f i = min (2 ^ f.w - 1) (s.get f i + 1)
    ∧ ∀ r j, (r ≠ f.reg ∨ j ≠ i) → (s.inc f i).reg r j = s.reg r j)
  ∧ ∀ (s : State) (src : Src) (r : Reg) (i : Nat), s.mayWrite src r i = true → s.windowInst src r i = true →
      r ∈ [Reg.MEMT_ECC_CNT, .MEMT_FENCE_CNT, .HOP_ERRCNT, .BENCH_PLANE_ERRCNT, .CTX_CE_CNT, .DDR_ECC] →
        ∃ t, exec (.registerWrite src r i 0) s = .next t ∧ t.reg r i = 0
          ∧ ∀ r2 j, (r2 ≠ r ∨ j ≠ i) → t.reg r2 j = s.reg r2 j

/-- What a virtual function writes reaches its own mailbox, its own aperture register and the writable registers
of its own bench, and no other register. (R258, R259, R421, R422, R550, 08_benches_and_tenancy.md,
13_host_ports.md) -/
def Obligations.VirtualFunctionReach : Prop :=
  ∀ (n : Nat) (r : Reg) (i : Nat) (v : Word) (s t : State), exec (.registerWrite (.vf n) r i v) s = .next t →
    (∀ (r2 : Reg) (j : Nat), t.reg r2 j ≠ s.reg r2 j →
      ((isMailboxReg r2 = true ∨ r2 = .PCIE_VF_APER) ∧ j = n)
      ∨ (vfAccess r2 = .write ∧ benchOfInst r2 j = n ∧ s.get F.BENCH_ASSIGN_FN n = 0))
    ∧ t.time = s.time ∧ t.nvs = s.nvs ∧ t.haul = s.haul ∧ t.memt = s.memt ∧ t.ddr = s.ddr ∧ t.power = s.power

/-- The operation table gives no row any bits: no word spells a command (a choice of the model, log entry 4).
(00_scope.md) -/
def Obligations.NoWordSpellsACommand : Prop :=
  ∀ nbits w : Nat, decodeTableWord nbits w = none ∧ ∀ s : State, s.withFetchWord nbits w = s

/-- What the registers read right after reset. (R8, R145, R252, R565, R566, R575, R654, 21_startup_and_reset.md) -/
def Obligations.RegistersAfterReset : Prop :=
  (∀ (r : Reg) (i : Nat), State.reset.reg r i = regReset r i)
  ∧ (∀ i, regReset .HOP_TAIL i = 0 ∧ regReset .MEY_LOAD_TMO i = 0x3E8 ∧ regReset .HLU_CTL i = 0
      ∧ State.reset.ddrSt i = ddDown)
  ∧ (∀ q, State.reset.get F.HLU_BOARD_VALUE q = hluAbs q % 2 ^ 32 ∧ State.reset.get F.HLU_FW_VALUE q = hluAbs q % 2 ^ 32)
  ∧ State.reset.pending = [] ∧ State.reset.out = [] ∧ State.reset.time = 0
end

