-- ==== Sys2Proof/Laws/Store.lean ====
section
/-!
SUPPORT. The sparse stores: what a read gives after a write, and that every operation keeps the canonical form. Fields
of a number: what a read gives after a write.
-/

set_option Elab.async false

namespace Sys2Proof.Machine

variable {α : Type}

theorem mapGet_mapIns_same (d : Nat → α) (m : SMap α) (k : Nat) (v : α) : mapGet d (mapIns k v m) k = v := by
  induction m with
  | nil => simp [mapIns, mapGet]
  | cons e m ih =>
    obtain ⟨k', v'⟩ := e
    simp only [mapIns]
    split
    · simp [mapGet]
    · split
      · simp [mapGet]
      · rename_i h1 h2
        rw [mapGet, if_neg (Ne.symm h2), ih]

theorem mapGet_mapIns_ne (d : Nat → α) (m : SMap α) {k k2 : Nat} (v : α) (h : k2 ≠ k) :
    mapGet d (mapIns k v m) k2 = mapGet d m k2 := by
  induction m with
  | nil => simp [mapIns, mapGet, h.symm]
  | cons e m ih =>
    obtain ⟨k', v'⟩ := e
    simp only [mapIns]
    split
    · simp [mapGet, h.symm]
    · split
      · rename_i h1 h2
        subst h2
        simp [mapGet, h.symm]
      · simp [mapGet, ih]

theorem mapGet_filter_same (d : Nat → α) (m : SMap α) (p : Nat → Bool) {k : Nat} (h : p k = false) :
    mapGet d (m.filter fun e => p e.1) k = d k := by
  induction m with
  | nil => rfl
  | cons e m ih =>
    obtain ⟨k', v'⟩ := e
    by_cases hk : p k'
    · have hne : k' ≠ k := by intro he; subst he; simp [h] at hk
      simp [List.filter_cons, hk, mapGet, hne, ih]
    · simp [List.filter_cons, hk, ih]

theorem mapGet_filter_keep (d : Nat → α) (m : SMap α) (p : Nat → Bool) {k : Nat} (h : p k = true) :
    mapGet d (m.filter fun e => p e.1) k = mapGet d m k := by
  induction m with
  | nil => rfl
  | cons e m ih =>
    obtain ⟨k', v'⟩ := e
    by_cases hk : p k'
    · simp [List.filter_cons, hk, mapGet, ih]
    · have hne : k' ≠ k := by intro he; subst he; exact hk h
      simp [List.filter_cons, hk, mapGet, hne, ih]

/-- A read after a write to the same key gives the value written. -/
theorem mapGet_mapSet_same [DecidableEq α] (d : Nat → α) (m : SMap α) (k : Nat) (v : α) :
    mapGet d (mapSet d m k v) k = v := by
  unfold mapSet
  split
  · rename_i h
    rw [mapDel, mapGet_filter_same (p := fun x => x != k)] <;> simp [h]
  · exact mapGet_mapIns_same d m k v

/-- A write leaves every other key alone. -/
theorem mapGet_mapSet_ne [DecidableEq α] (d : Nat → α) (m : SMap α) {k k2 : Nat} (v : α) (h : k2 ≠ k) :
    mapGet d (mapSet d m k v) k2 = mapGet d m k2 := by
  unfold mapSet
  split
  · rw [mapDel, mapGet_filter_keep (p := fun x => x != k)]
    simp [h]
  · exact mapGet_mapIns_ne d m v h

theorem mapIns_keys (k : Nat) (v : α) (m : SMap α) : ∀ e ∈ mapIns k v m, e = (k, v) ∨ e ∈ m := by
  induction m with
  | nil => intro e he; simpa [mapIns] using he
  | cons a m ih =>
    intro e he
    simp only [mapIns] at he
    split at he
    · simpa using he
    · split at he
      · simp only [List.mem_cons] at he ⊢; tauto
      · simp only [List.mem_cons] at he ⊢
        rcases he with he | he
        · exact .inr (.inl he)
        · rcases ih e he with h | h <;> tauto

theorem mapIns_sorted (k : Nat) (v : α) (m : SMap α) (h : m.Pairwise fun a b => a.1 < b.1) :
    (mapIns k v m).Pairwise fun a b => a.1 < b.1 := by
  induction m with
  | nil => simp [mapIns]
  | cons a m ih =>
    rw [List.pairwise_cons] at h
    simp only [mapIns]
    split
    · rename_i hlt
      rw [List.pairwise_cons]
      refine ⟨fun b hb => ?_, List.pairwise_cons.2 h⟩
      rcases List.mem_cons.1 hb with rfl | hb
      · exact hlt
      · exact lt_trans hlt (h.1 b hb)
    · split
      · rename_i _ heq
        rw [List.pairwise_cons]
        exact ⟨fun b hb => by simpa [heq] using h.1 b hb, h.2⟩
      · rename_i h1 h2
        rw [List.pairwise_cons]
        refine ⟨fun b hb => ?_, ih h.2⟩
        rcases mapIns_keys k v m b hb with rfl | hb
        · exact lt_of_le_of_ne (not_lt.1 h1) (Ne.symm h2)
        · exact h.1 b hb

theorem filter_sorted (m : SMap α) (p : Nat × α → Bool) (h : m.Pairwise fun a b => a.1 < b.1) :
    (m.filter p).Pairwise fun a b => a.1 < b.1 := h.filter p

/-- A write keeps the canonical form. -/
theorem mapSet_wf [DecidableEq α] (d : Nat → α) (m : SMap α) (k : Nat) (v : α) (h : mapWf d m) :
    mapWf d (mapSet d m k v) := by
  unfold mapSet
  split
  · exact ⟨filter_sorted m _ h.1, fun e he => h.2 e (List.mem_filter.1 he).1⟩
  · rename_i hv
    refine ⟨mapIns_sorted k v m h.1, fun e he => ?_⟩
    rcases mapIns_keys k v m e he with rfl | he
    · exact hv
    · exact h.2 e he

/-- Keeping some keys keeps the canonical form. -/
theorem mapKeep_wf [DecidableEq α] (d : Nat → α) (m : SMap α) (p : Nat → Bool) (h : mapWf d m) :
    mapWf d (mapKeep p m) :=
  ⟨filter_sorted m _ h.1, fun e he => h.2 e (List.mem_filter.1 he).1⟩

/-- Changing every value keeps the canonical form. -/
theorem mapUpd_wf [DecidableEq α] (d : Nat → α) (f : Nat → α → α) (m : SMap α) (h : mapWf d m) :
    mapWf d (mapUpd d f m) := by
  refine ⟨filter_sorted _ _ ?_, fun e he => ?_⟩
  · exact List.pairwise_map.2 h.1
  · simpa using (List.mem_filter.1 he).2

/-- Two canonical stores that read the same are equal. -/
theorem mapWf_nil [DecidableEq α] (d : Nat → α) : mapWf d ([] : SMap α) := ⟨List.Pairwise.nil, by simp⟩

/-! ### Bit fields of a number -/

theorem bitsOf_lt (v lo w : Nat) : bitsOf v lo w < 2 ^ w := Nat.mod_lt _ (by positivity)

/-- A field reads what was put there. -/
theorem bitsOf_putBits_same (v lo w x : Nat) : bitsOf (putBits v lo w x) lo w = x % 2 ^ w := by
  unfold bitsOf putBits
  have h2 : 0 < 2 ^ lo := by positivity
  have : v / 2 ^ (lo + w) * 2 ^ (lo + w) + x % 2 ^ w * 2 ^ lo + v % 2 ^ lo
      = v % 2 ^ lo + 2 ^ lo * (x % 2 ^ w + 2 ^ w * (v / 2 ^ (lo + w))) := by
    rw [pow_add]; ring
  rw [this, Nat.add_mul_div_left _ _ h2, Nat.div_eq_of_lt (Nat.mod_lt _ h2), Nat.zero_add, Nat.add_mul_mod_self_left]
  simp

theorem testBit_bitsOf (v lo w j : Nat) : (bitsOf v lo w).testBit j = (decide (j < w) && v.testBit (lo + j)) := by
  simp [bitsOf, Nat.testBit_mod_two_pow, Nat.testBit_div_two_pow, Nat.add_comm]

theorem testBit_putBits (v lo w x j : Nat) :
    (putBits v lo w x).testBit j
      = if lo ≤ j ∧ j < lo + w then x.testBit (j - lo) else v.testBit j := by
  have e : putBits v lo w x = 2 ^ lo * (2 ^ w * (v / 2 ^ (lo + w)) + x % 2 ^ w) + v % 2 ^ lo := by
    unfold putBits; rw [pow_add]; ring
  have hv : v % 2 ^ lo < 2 ^ lo := Nat.mod_lt _ (by positivity)
  have hx : x % 2 ^ w < 2 ^ w := Nat.mod_lt _ (by positivity)
  rw [e, Nat.testBit_two_pow_mul_add _ hv]
  by_cases h1 : j < lo
  · rw [if_pos h1, if_neg (by omega), Nat.testBit_mod_two_pow]
    simp [h1]
  · rw [if_neg h1, Nat.testBit_two_pow_mul_add _ hx]
    by_cases h2 : j - lo < w
    · rw [if_pos h2, if_pos (by omega), Nat.testBit_mod_two_pow]
      simp [h2]
    · rw [if_neg h2, if_neg (by omega), Nat.testBit_div_two_pow]
      congr 1; omega

/-- A field reads the same after another, disjoint one is put. -/
theorem bitsOf_putBits_ne (v lo w x lo2 w2 : Nat) (h : lo2 + w2 ≤ lo ∨ lo + w ≤ lo2) :
    bitsOf (putBits v lo w x) lo2 w2 = bitsOf v lo2 w2 := by
  apply Nat.eq_of_testBit_eq
  intro j
  rw [testBit_bitsOf, testBit_bitsOf, testBit_putBits]
  by_cases hj : j < w2
  · rw [if_neg (by omega)]
  · simp [hj]

theorem putBits_lt (v lo w x n : Nat) (hv : v < 2 ^ n) (h : lo + w ≤ n) : putBits v lo w x < 2 ^ n := by
  apply Nat.lt_pow_two_of_testBit
  intro j hj
  rw [testBit_putBits, if_neg (by omega)]
  exact Nat.testBit_lt_two_pow (lt_of_lt_of_le hv (Nat.pow_le_pow_right (by norm_num) hj))

end Sys2Proof.Machine
end

