-- ==== Sys2Proof/Laws/Regs.lean ====
section
/-!
SUPPORT. The register file: what a field reads after a write of it or of another field, and that a write of a field
within its register's table keeps the register file as R9 says.
-/

set_option Elab.async false

namespace Sys2Proof.Machine

theorem allRegs_ctorIdx (r : Reg) : allRegs.getD r.ctorIdx .CAL_BORE_SEL = r := by cases r <;> rfl

theorem ctorIdx_lt (r : Reg) : r.ctorIdx < 512 := by cases r <;> decide

theorem regKey_mod (r : Reg) (i : Nat) : regKey r i % 512 = r.ctorIdx := by
  unfold regKey; have := ctorIdx_lt r; omega

theorem regKey_div (r : Reg) (i : Nat) : regKey r i / 512 = i := by
  unfold regKey; have := ctorIdx_lt r; omega

/-- The register that a key names. -/
theorem keyReg_regKey (r : Reg) (i : Nat) : keyReg (regKey r i) = r := by
  rw [keyReg, regKey_mod, allRegs_ctorIdx]

theorem regDefault_regKey (r : Reg) (i : Nat) : regDefault (regKey r i) = regReset r i := by
  rw [regDefault, regKey_mod, regKey_div, allRegs_ctorIdx]

/-- Two instances of registers share a key only if they are the same. -/
theorem regKey_inj {r r2 : Reg} {i i2 : Nat} (h : regKey r i = regKey r2 i2) : r = r2 ∧ i = i2 :=
  ⟨by rw [← keyReg_regKey r i, h, keyReg_regKey], by rw [← regKey_div r i, h, regKey_div]⟩

@[simp] theorem reg_setReg_same (s : State) (r : Reg) (i : Nat) (v : Word) : (s.setReg r i v).reg r i = v :=
  mapGet_mapSet_same _ _ _ _

theorem reg_setReg_ne (s : State) {r r2 : Reg} {i i2 : Nat} (v : Word) (h : r2 ≠ r ∨ i2 ≠ i) :
    (s.setReg r i v).reg r2 i2 = s.reg r2 i2 := by
  refine mapGet_mapSet_ne _ _ _ fun e => ?_
  have := regKey_inj e
  tauto

/-- A field reads the low bits of what was written to it. -/
theorem get_set_same (s : State) (f : Fld) (i x : Nat) (h : f.lo + f.w ≤ 32) : (s.set f i x).get f i = x % 2 ^ f.w := by
  unfold State.get State.set
  rw [reg_setReg_same]
  have hlt : putBits (s.reg f.reg i).toNat f.lo f.w x < 2 ^ 32 := putBits_lt _ _ _ _ _ (s.reg f.reg i).isLt h
  rw [BitVec.toNat_ofNat, Nat.mod_eq_of_lt hlt, bitsOf_putBits_same]

/-- A field keeps its value when another field, or the same field of another instance, is written. -/
theorem get_set_ne (s : State) (f f2 : Fld) (i i2 x : Nat) (hf : f.lo + f.w ≤ 32)
    (h : f2.reg ≠ f.reg ∨ i2 ≠ i ∨ f2.lo + f2.w ≤ f.lo ∨ f.lo + f.w ≤ f2.lo) :
    (s.set f i x).get f2 i2 = s.get f2 i2 := by
  unfold State.get State.set
  by_cases hr : f2.reg ≠ f.reg ∨ i2 ≠ i
  · rw [reg_setReg_ne _ _ hr]
  · push Not at hr
    obtain ⟨h1, h2⟩ := hr
    have h3 : f2.lo + f2.w ≤ f.lo ∨ f.lo + f.w ≤ f2.lo := by tauto
    rw [h1, h2, reg_setReg_same]
    have hlt : putBits (s.reg f.reg i).toNat f.lo f.w x < 2 ^ 32 := putBits_lt _ _ _ _ _ (s.reg f.reg i).isLt hf
    rw [BitVec.toNat_ofNat, Nat.mod_eq_of_lt hlt, bitsOf_putBits_ne _ _ _ _ _ _ h3]

/-- A register keeps its word when another register or instance is written. -/
theorem reg_set_ne (s : State) (f : Fld) {r : Reg} {i i2 : Nat} (x : Nat) (h : r ≠ f.reg ∨ i2 ≠ i) :
    (s.set f i x).reg r i2 = s.reg r i2 := reg_setReg_ne s _ h

/-! ### Reserved bits -/

theorem resetWord_mask (r : Reg) : resetWord r &&& ~~~(fieldMask r) = 0 := by cases r <;> decide

theorem rwMask_mask (r : Reg) : rwMask r &&& ~~~(fieldMask r) = 0 := by cases r <;> decide

theorem mask_full {r : Reg} (v : Word) (h : fieldMask r = 0xffffffff#32) : v &&& ~~~(fieldMask r) = 0 := by
  rw [h]; ext j; simp

/-- Every register has its reserved bits 0 after reset. -/
theorem regReset_mask (r : Reg) (i : Nat) : regReset r i &&& ~~~(fieldMask r) = 0 := by
  by_cases h : r = .HN_FENCE
  · subst h
    simp only [regReset]
    split
    · decide
    · cases hasEndPoint i 0 <;> cases hasEndPoint i 1 <;> cases hasEndPoint i 2 <;> decide
  · unfold regReset
    split
    · split <;> decide
    · exact absurd rfl h
    · split
      · decide
      · split <;> decide
    · split <;> decide
    · decide
    all_goals first | exact mask_full _ rfl | exact resetWord_mask _

/-- The register at a key reads with its reserved bits 0. -/
theorem regsOk_get {m : SMap Word} (h : RegsOk m) (k : Nat) : mapGet regDefault m k &&& ~~~(fieldMask (keyReg k)) = 0 := by
  have h2 := h.2
  clear h
  induction m with
  | nil => exact regReset_mask _ _
  | cons e m ih =>
    obtain ⟨k', v⟩ := e
    simp only [mapGet]
    split
    · rename_i hk
      subst hk
      exact h2 (k', v) (by simp)
    · exact ih fun e he => h2 e (List.mem_cons_of_mem _ he)

theorem and_not_bit {v m : Word} (h : v &&& ~~~m = 0) {j : Nat} (hj : j < 32) (hv : v.getLsbD j = true) :
    m.getLsbD j = true := by
  have := congrArg (fun x : Word => x.getLsbD j) h
  simp [hj, hv] at this
  exact this

theorem bit_and_not {v m : Word} (h : ∀ j < 32, v.getLsbD j = true → m.getLsbD j = true) : v &&& ~~~m = 0 := by
  ext j hj
  have := h j hj
  rw [BitVec.getLsbD_eq_getElem hj, BitVec.getLsbD_eq_getElem hj] at this
  simp only [BitVec.getElem_and, BitVec.getElem_not]
  cases hv : v[j] <;> simp_all

theorem testBit_fieldBits (lo w j : Nat) : (2 ^ (lo + w) - 2 ^ lo).testBit j = (decide (lo ≤ j) && decide (j < lo + w)) := by
  have : 2 ^ (lo + w) - 2 ^ lo = 2 ^ lo * (2 ^ w - 1) := by rw [pow_add, Nat.mul_sub, Nat.mul_one]
  rw [this, Nat.testBit_two_pow_mul, Nat.testBit_two_pow_sub_one]
  by_cases h : lo ≤ j
  · simp [h]; omega
  · simp [h]

/-- A write of a field within its register's table keeps the reserved bits 0. -/
theorem putBits_mask {f : Fld} (hf : f.ok = true) {v : Word} (hv : v &&& ~~~(fieldMask f.reg) = 0) (x : Nat) :
    BitVec.ofNat 32 (putBits v.toNat f.lo f.w x) &&& ~~~(fieldMask f.reg) = 0 := by
  simp only [Fld.ok, decide_eq_true_eq] at hf
  refine bit_and_not fun j hj hb => ?_
  rw [BitVec.getLsbD_ofNat, testBit_putBits] at hb
  simp only [hj, decide_true, Bool.true_and] at hb
  split at hb
  · rename_i hr
    refine and_not_bit hf hj ?_
    rw [BitVec.getLsbD_ofNat, testBit_fieldBits]
    simp [hj, hr.1, hr.2]
  · exact and_not_bit hv hj hb

/-- Every field of a register without reserved bits is in order. -/
theorem fld_ok_full {f : Fld} (h : fieldMask f.reg = 0xffffffff#32) : f.ok = true := by
  simp only [Fld.ok, decide_eq_true_eq]
  exact mask_full _ h

theorem maskedWrite_mask {r : Reg} {old : Word} (h : old &&& ~~~(fieldMask r) = 0) (v : Word) :
    maskedWrite r old v &&& ~~~(fieldMask r) = 0 := by
  refine bit_and_not fun j hj hb => ?_
  simp only [maskedWrite, BitVec.getLsbD_and, BitVec.getLsbD_or, Bool.and_eq_true, Bool.or_eq_true] at hb
  rcases hb.1 with h1 | h1
  · exact and_not_bit h hj h1.1
  · exact and_not_bit (rwMask_mask r) hj h1.2

end Sys2Proof.Machine
end

