-- ==== Sys2Proof/Laws/Keep.lean ====
section
/-!
SUPPORT. What every command keeps: the queue, the register file as R9 says, the canonical form of the memories, at most
four domains in RAMP (R502), and every register and part of the state outside a footprint. A footprint is a number: bit k for part k,
bit 64 + k for register k. One lemma for each way in which an operation changes the state.
-/

set_option Elab.async false

namespace Sys2Proof.Machine

/-- Footprint k lies within footprint t. -/
abbrev Within (k t : Nat) : Prop := Nat.lor k t = t

/-- The footprint of a register, and of all of them. -/
def regBit (r : Reg) : Nat := 2 ^ r.ctorIdx * 2 ^ 64
def allRegBits : Nat := (2 ^ 241 - 1) * 2 ^ 64

theorem within_bit {k t j : Nat} (h : Within k t) (hj : k.testBit j = true) : t.testBit j = true := by
  rw [← h]
  change (k ||| t).testBit j = true
  simp [hj]

theorem sub_trans {k m t : Nat} (h2 : Within m t) (h1 : Within k m) : Within k t := by
  refine Nat.eq_of_testBit_eq fun j => ?_
  have h3 := @within_bit k m j h1
  have h4 := @within_bit m t j h2
  change (k ||| t).testBit j = t.testBit j
  rw [Nat.testBit_or]
  cases hk : k.testBit j
  · rfl
  · rw [h4 (h3 hk)]; rfl

theorem within_reg {r : Reg} {t : Nat} (h : Within (regBit r) t) : t.testBit (64 + r.ctorIdx) = true :=
  within_bit h (by rw [regBit, Nat.testBit_mul_two_pow]; simp)

/-- From S0 to s the queue is kept, the register file and the memories stay in order, no fifth domain ramps, and nothing
outside the footprint T0 changes. -/
structure Ok (T0 : Nat) (S0 s : State) : Prop where
  queue : s.pending = S0.pending
  regs  : RegsOk S0.regs → RegsOk s.regs
  reg   : ∀ r i, T0.testBit (64 + r.ctorIdx) = false → s.reg r i = S0.reg r i
  part  : ∀ p : Part, T0.testBit p.ctorIdx = false → p.same S0 s
  mem   : S0.MemOk → s.MemOk
  ramp  : S0.ramping ≤ 4 → s.ramping ≤ 4

theorem ok_refl (T0 : Nat) (s : State) : Ok T0 s s := ⟨rfl, id, fun _ _ _ => rfl, fun p _ => by cases p <;> rfl, id, id⟩

variable {T0 : Nat} {S0 s : State}

/-- A change of parts beside the queue and the registers. -/
theorem ok_with (h : Ok T0 S0 s)
    (x0) (x1) (x2) (x3) (x4) (x5) (x6) (x7)
    (x8) (x9) (x10) (x11) (x12) (x13) (x14) (x15)
    (x16) (x17) (x18) (x19) (x20) (x21) (x22) (x23)
    (x24) (x25) (x26) (x27) (x28) (x29)
    (h0 : x0 = s.time ∨ Within 1 T0 := by first | exact .inr (sub_trans hT rfl) | exact .inl rfl)
    (h1 : x1 = s.freeCtr ∨ Within 2 T0 := by first | exact .inr (sub_trans hT rfl) | exact .inl rfl)
    (h2 : x2 = s.out ∨ Within 4 T0 := by first | exact .inr (sub_trans hT rfl) | exact .inl rfl)
    (h3 : x3 = s.collector ∨ Within 8 T0 := by first | exact .inr (sub_trans hT rfl) | exact .inl rfl)
    (h4 : x4 = s.wpl ∨ Within 16 T0 := by first | exact .inr (sub_trans hT rfl) | exact .inl rfl)
    (h5 : x5 = s.hluLogged ∨ Within 32 T0 := by first | exact .inr (sub_trans hT rfl) | exact .inl rfl)
    (h6 : x6 = s.bores ∨ Within 64 T0 := by first | exact .inr (sub_trans hT rfl) | exact .inl rfl)
    (h7 : x7 = s.pcie ∨ Within 128 T0 := by first | exact .inr (sub_trans hT rfl) | exact .inl rfl)
    (h8 : x8 = s.tenancy ∨ Within 256 T0 := by first | exact .inr (sub_trans hT rfl) | exact .inl rfl)
    (h9 : x9 = s.nvs ∨ Within 512 T0 := by first | exact .inr (sub_trans hT rfl) | exact .inl rfl)
    (h10 : x10 = s.haul ∨ Within 1024 T0 := by first | exact .inr (sub_trans hT rfl) | exact .inl rfl)
    (h11 : x11 = s.planes ∨ Within 2048 T0 := by first | exact .inr (sub_trans hT rfl) | exact .inl rfl)
    (h12 : x12 = s.slots ∨ Within 4096 T0 := by first | exact .inr (sub_trans hT rfl) | exact .inl rfl)
    (h13 : x13 = s.loads ∨ Within 8192 T0 := by first | exact .inr (sub_trans hT rfl) | exact .inl rfl)
    (h14 : x14 = s.memt ∨ Within 16384 T0 := by first | exact .inr (sub_trans hT rfl) | exact .inl rfl)
    (h15 : x15 = s.floorReset ∨ Within 32768 T0 := by first | exact .inr (sub_trans hT rfl) | exact .inl rfl)
    (h16 : x16 = s.repair ∨ Within 65536 T0 := by first | exact .inr (sub_trans hT rfl) | exact .inl rfl)
    (h17 : x17 = s.power ∨ Within 131072 T0 := by first | exact .inr (sub_trans hT rfl) | exact .inl rfl)
    (h18 : x18 = s.thermal ∨ Within 262144 T0 := by first | exact .inr (sub_trans hT rfl) | exact .inl rfl)
    (h19 : x19 = s.mbx ∨ Within 524288 T0 := by first | exact .inr (sub_trans hT rfl) | exact .inl rfl)
    (h20 : x20 = s.fw ∨ Within 1048576 T0 := by first | exact .inr (sub_trans hT rfl) | exact .inl rfl)
    (h21 : x21 = s.side ∨ Within 2097152 T0 := by first | exact .inr (sub_trans hT rfl) | exact .inl rfl)
    (h22 : x22 = s.scrub ∨ Within 4194304 T0 := by first | exact .inr (sub_trans hT rfl) | exact .inl rfl)
    (h23 : x23 = s.hports ∨ Within 8388608 T0 := by first | exact .inr (sub_trans hT rfl) | exact .inl rfl)
    (h24 : x24 = s.ddr ∨ Within 16777216 T0 := by first | exact .inr (sub_trans hT rfl) | exact .inl rfl)
    (h25 : x25 = s.lanes ∨ Within 33554432 T0 := by first | exact .inr (sub_trans hT rfl) | exact .inl rfl)
    (h26 : x26 = s.clocks ∨ Within 67108864 T0 := by first | exact .inr (sub_trans hT rfl) | exact .inl rfl)
    (h27 : x27 = s.cal ∨ Within 134217728 T0 := by first | exact .inr (sub_trans hT rfl) | exact .inl rfl)
    (h28 : x28 = s.hoppers ∨ Within 268435456 T0 := by first | exact .inr (sub_trans hT rfl) | exact .inl rfl)
    (h29 : x29 = s.timers ∨ Within 536870912 T0 := by first | exact .inr (sub_trans hT rfl) | exact .inl rfl)
    (m11 : mapWf (fun _ => 0) s.planes.frames → mapWf (fun _ => 0) x11.frames := by
      first | exact fun h => h | with_unfolding_all exact fun h => h | exact mapKeep_wf _ _ _ | exact mapSet_wf _ _ _ _ | exact mapUpd_wf _ _ _ | exact fun _ => mapWf_nil _)
    (m12 : mapWf (fun _ => 0) s.slots.words → mapWf (fun _ => 0) x12.words := by
      first | exact fun h => h | with_unfolding_all exact fun h => h | exact mapKeep_wf _ _ _ | exact mapSet_wf _ _ _ _
            | exact fun _ => mapWf_nil _)
    (m14 : mapWf (fun _ => none) s.memt.words → mapWf (fun _ => none) x14.words := by
      first | exact fun h => h | with_unfolding_all exact fun h => h | exact mapKeep_wf _ _ _ | exact mapSet_wf _ _ _ _
            | exact fun _ => mapWf_nil _ | (dsimp only [Memt.erase]; exact mapKeep_wf _ _ _))
    (m24 : (∀ ch, mapWf (fun _ => none) (mapGet (fun _ => {}) s.ddr.chans ch).words) →
      ∀ ch, mapWf (fun _ => none) (mapGet (fun _ => {}) x24.chans ch).words := by exact fun h => h)
    (m9 : x9.flash = s.nvs.flash ∧ x9.erased = s.nvs.erased := by exact ⟨rfl, rfl⟩)
    : Ok T0 S0 { s with
      time := x0
      freeCtr := x1
      out := x2
      collector := x3
      wpl := x4
      hluLogged := x5
      bores := x6
      pcie := x7
      tenancy := x8
      nvs := x9
      haul := x10
      planes := x11
      slots := x12
      loads := x13
      memt := x14
      floorReset := x15
      repair := x16
      power := x17
      thermal := x18
      mbx := x19
      fw := x20
      side := x21
      scrub := x22
      hports := x23
      ddr := x24
      lanes := x25
      clocks := x26
      cal := x27
      hoppers := x28
      timers := x29 } := by
  refine ⟨h.queue, h.regs, h.reg, fun p hp => ?_, fun h0 => ?_, h.ramp⟩
  case refine_2 =>
    obtain ⟨k14, k12, k11, k24, k9⟩ := h.mem h0
    refine ⟨m14 k14, m12 k12, m11 k11, m24 k24, ?_⟩
    · obtain ⟨e1, e2⟩ := m9
      have hd : State.flashDef { s with nvs := x9 } = s.flashDef := by
        funext a; simp only [State.flashDef, e2]
      have := k9
      rw [← hd, ← e1] at this
      exact this
  have hs := h.part p hp
  cases p
  · rcases h0 with rfl | hw
    · exact hs
    · exact absurd (within_bit (j := 0) hw (by decide)) (by simp only [Bool.not_eq_true]; exact hp)
  · rcases h1 with rfl | hw
    · exact hs
    · exact absurd (within_bit (j := 1) hw (by decide)) (by simp only [Bool.not_eq_true]; exact hp)
  · rcases h2 with rfl | hw
    · exact hs
    · exact absurd (within_bit (j := 2) hw (by decide)) (by simp only [Bool.not_eq_true]; exact hp)
  · rcases h3 with rfl | hw
    · exact hs
    · exact absurd (within_bit (j := 3) hw (by decide)) (by simp only [Bool.not_eq_true]; exact hp)
  · rcases h4 with rfl | hw
    · exact hs
    · exact absurd (within_bit (j := 4) hw (by decide)) (by simp only [Bool.not_eq_true]; exact hp)
  · rcases h5 with rfl | hw
    · exact hs
    · exact absurd (within_bit (j := 5) hw (by decide)) (by simp only [Bool.not_eq_true]; exact hp)
  · rcases h6 with rfl | hw
    · exact hs
    · exact absurd (within_bit (j := 6) hw (by decide)) (by simp only [Bool.not_eq_true]; exact hp)
  · rcases h7 with rfl | hw
    · exact hs
    · exact absurd (within_bit (j := 7) hw (by decide)) (by simp only [Bool.not_eq_true]; exact hp)
  · rcases h8 with rfl | hw
    · exact hs
    · exact absurd (within_bit (j := 8) hw (by decide)) (by simp only [Bool.not_eq_true]; exact hp)
  · rcases h9 with rfl | hw
    · exact hs
    · exact absurd (within_bit (j := 9) hw (by decide)) (by simp only [Bool.not_eq_true]; exact hp)
  · rcases h10 with rfl | hw
    · exact hs
    · exact absurd (within_bit (j := 10) hw (by decide)) (by simp only [Bool.not_eq_true]; exact hp)
  · rcases h11 with rfl | hw
    · exact hs
    · exact absurd (within_bit (j := 11) hw (by decide)) (by simp only [Bool.not_eq_true]; exact hp)
  · rcases h12 with rfl | hw
    · exact hs
    · exact absurd (within_bit (j := 12) hw (by decide)) (by simp only [Bool.not_eq_true]; exact hp)
  · rcases h13 with rfl | hw
    · exact hs
    · exact absurd (within_bit (j := 13) hw (by decide)) (by simp only [Bool.not_eq_true]; exact hp)
  · rcases h14 with rfl | hw
    · exact hs
    · exact absurd (within_bit (j := 14) hw (by decide)) (by simp only [Bool.not_eq_true]; exact hp)
  · rcases h15 with rfl | hw
    · exact hs
    · exact absurd (within_bit (j := 15) hw (by decide)) (by simp only [Bool.not_eq_true]; exact hp)
  · rcases h16 with rfl | hw
    · exact hs
    · exact absurd (within_bit (j := 16) hw (by decide)) (by simp only [Bool.not_eq_true]; exact hp)
  · rcases h17 with rfl | hw
    · exact hs
    · exact absurd (within_bit (j := 17) hw (by decide)) (by simp only [Bool.not_eq_true]; exact hp)
  · rcases h18 with rfl | hw
    · exact hs
    · exact absurd (within_bit (j := 18) hw (by decide)) (by simp only [Bool.not_eq_true]; exact hp)
  · rcases h19 with rfl | hw
    · exact hs
    · exact absurd (within_bit (j := 19) hw (by decide)) (by simp only [Bool.not_eq_true]; exact hp)
  · rcases h20 with rfl | hw
    · exact hs
    · exact absurd (within_bit (j := 20) hw (by decide)) (by simp only [Bool.not_eq_true]; exact hp)
  · rcases h21 with rfl | hw
    · exact hs
    · exact absurd (within_bit (j := 21) hw (by decide)) (by simp only [Bool.not_eq_true]; exact hp)
  · rcases h22 with rfl | hw
    · exact hs
    · exact absurd (within_bit (j := 22) hw (by decide)) (by simp only [Bool.not_eq_true]; exact hp)
  · rcases h23 with rfl | hw
    · exact hs
    · exact absurd (within_bit (j := 23) hw (by decide)) (by simp only [Bool.not_eq_true]; exact hp)
  · rcases h24 with rfl | hw
    · exact hs
    · exact absurd (within_bit (j := 24) hw (by decide)) (by simp only [Bool.not_eq_true]; exact hp)
  · rcases h25 with rfl | hw
    · exact hs
    · exact absurd (within_bit (j := 25) hw (by decide)) (by simp only [Bool.not_eq_true]; exact hp)
  · rcases h26 with rfl | hw
    · exact hs
    · exact absurd (within_bit (j := 26) hw (by decide)) (by simp only [Bool.not_eq_true]; exact hp)
  · rcases h27 with rfl | hw
    · exact hs
    · exact absurd (within_bit (j := 27) hw (by decide)) (by simp only [Bool.not_eq_true]; exact hp)
  · rcases h28 with rfl | hw
    · exact hs
    · exact absurd (within_bit (j := 28) hw (by decide)) (by simp only [Bool.not_eq_true]; exact hp)
  · rcases h29 with rfl | hw
    · exact hs
    · exact absurd (within_bit (j := 29) hw (by decide)) (by simp only [Bool.not_eq_true]; exact hp)

/-- A change of the non-volatile stores that keeps the flash in its form. -/
theorem ok_nvs (h : Ok T0 S0 s) {x : Nvs} (hw : Within 512 T0)
    (hm : mapWf s.flashDef s.nvs.flash → mapWf (State.flashDef { s with nvs := x }) x.flash) :
    Ok T0 S0 { s with nvs := x } := by
  refine ⟨h.queue, h.regs, h.reg, fun p hp => ?_, fun h0 => ?_, h.ramp⟩
  · have hs := h.part p hp
    cases p
    case nvs => exact absurd (within_bit (j := 9) hw (by decide)) (by simp only [Bool.not_eq_true]; exact hp)
    all_goals exact hs
  · obtain ⟨k14, k12, k11, k24, k9⟩ := h.mem h0
    exact ⟨k14, k12, k11, k24, hm k9⟩

/-- A change of the DDR channels that keeps their words in their form. -/
theorem ok_ddr (h : Ok T0 S0 s) {x : Ddr} (hw : Within 16777216 T0)
    (hm : (∀ ch, mapWf (fun _ => none) (s.chan ch).words) →
      ∀ ch, mapWf (fun _ => none) (State.chan { s with ddr := x } ch).words) : Ok T0 S0 { s with ddr := x } := by
  refine ⟨h.queue, h.regs, h.reg, fun p hp => ?_, fun h0 => ?_, h.ramp⟩
  · have hs := h.part p hp
    cases p
    case ddr => exact absurd (within_bit (j := 24) hw (by decide)) (by simp only [Bool.not_eq_true]; exact hp)
    all_goals exact hs
  · obtain ⟨k14, k12, k11, k24, k9⟩ := h.mem h0
    exact ⟨k14, k12, k11, hm k24, k9⟩

/-- A register outside PWR_DOM, which holds the states of the domains. -/
def calmReg (r : Reg) : Bool := r.ctorIdx != Reg.PWR_DOM.ctorIdx

/-- A field within its register's table that is not STATE of PWR_DOM. -/
def Fld.calm (f : Fld) : Bool := f.ok && (calmReg f.reg || decide (f.lo + f.w ≤ 24) || (decide (27 ≤ f.lo) && decide (f.lo + f.w ≤ 32)))

theorem calmReg_ne {r : Reg} (h : calmReg r = true) : r ≠ .PWR_DOM := by rintro rfl; exact absurd h (by decide)

theorem fld_calm_full {f : Fld} (h : fieldMask f.reg = 0xffffffff#32) : f.calm = true := by
  have hr : calmReg f.reg = true := by
    simp only [calmReg, bne_iff_ne, ne_eq]
    intro e
    have e2 : f.reg = .PWR_DOM := by rw [← keyReg_regKey f.reg 0, ← keyReg_regKey .PWR_DOM 0, regKey, regKey, e]
    rw [e2] at h
    exact absurd h (by decide)
  simp [Fld.calm, fld_ok_full h, hr]

/-- No more domains ramp where every one that ramps ramped before. -/
theorem ramping_le {s t : State} (h : ∀ d, t.domSt d = pdRamp → s.domSt d = pdRamp) : t.ramping ≤ s.ramping := by
  unfold State.ramping
  rw [← List.countP_eq_length_filter, ← List.countP_eq_length_filter]
  exact List.countP_mono_left fun d _ hd => by simpa using h d (by simpa using hd)

theorem domSt_reg (s : State) (d : Nat) : s.domSt d = bitsOf (s.reg .PWR_DOM d).toNat 24 3 := rfl

theorem domSt_setReg (s : State) {r : Reg} (i : Nat) (v : Word) (hr : calmReg r = true) (d : Nat) :
    (s.setReg r i v).domSt d = s.domSt d := by
  rw [domSt_reg, domSt_reg, reg_setReg_ne _ _ (.inl (calmReg_ne hr).symm)]

theorem domSt_set (s : State) {f : Fld} (i x : Nat) (hf : f.calm = true) (d : Nat) : (s.set f i x).domSt d = s.domSt d := by
  simp only [Fld.calm, Bool.and_eq_true, Bool.or_eq_true, decide_eq_true_eq] at hf
  by_cases hr : calmReg f.reg = true
  · exact domSt_setReg _ _ _ hr d
  · refine get_set_ne _ _ _ _ _ _ ?_ ?_
    · rcases hf.2 with (h | h) | h
      · exact absurd h hr
      · omega
      · exact h.2
    · rcases hf.2 with (h | h) | h
      · exact absurd h hr
      · exact .inr (.inr (.inr h))
      · exact .inr (.inr (.inl h.1))

/-- The other clauses of a register change. -/
theorem ok_setReg_any {r : Reg} {i : Nat} {v : Word} (hv : RegsOk s.regs → v &&& ~~~(fieldMask r) = 0) (h : Ok T0 S0 s)
    (hp : s.ramping ≤ 4 → (s.setReg r i v).ramping ≤ 4) (hr : Within (regBit r) T0) : Ok T0 S0 (s.setReg r i v) := by
  refine ⟨h.queue, fun h0 => ⟨mapSet_wf _ _ _ _ (h.regs h0).1, fun e he => ?_⟩, fun r2 i2 h2 => ?_, fun p hp => ?_, h.mem,
    fun h0 => hp (h.ramp h0)⟩
  · have hm : e = (regKey r i, v) ∨ e ∈ s.regs := by
      have he' : e ∈ mapSet regDefault s.regs (regKey r i) v := he
      unfold mapSet at he'
      split at he'
      · exact .inr (List.mem_filter.1 he').1
      · exact mapIns_keys _ _ _ e he'
    rcases hm with rfl | hm
    · rw [keyReg_regKey]; exact hv (h.regs h0)
    · exact (h.regs h0).2 e hm
  · rw [← h.reg r2 i2 h2]
    refine reg_setReg_ne _ _ (.inl fun e => ?_)
    subst e
    exact absurd (within_reg hr) (by simp [h2])
  · have := h.part p hp
    cases p <;> exact this

theorem ok_setReg {r : Reg} {i : Nat} {v : Word} (hv : v &&& ~~~(fieldMask r) = 0) (h : Ok T0 S0 s)
    (hr : Within (regBit r) T0 := by first | with_reducible assumption | exact sub_trans hT rfl)
    (hc : calmReg r = true := by rfl) : Ok T0 S0 (s.setReg r i v) :=
  ok_setReg_any (fun _ => hv) h (fun h0 => le_trans (ramping_le fun d hd => by rwa [domSt_setReg _ _ _ hc] at hd) h0) hr

/-- A register file in order is one whose registers read in order. -/
theorem ok_setReg_of {r : Reg} {i : Nat} {v : Word} (hv : RegsOk s.regs → v &&& ~~~(fieldMask r) = 0) (h : Ok T0 S0 s)
    (hr : Within (regBit r) T0 := by first | with_reducible assumption | exact sub_trans hT rfl)
    (hc : calmReg r = true := by rfl) : Ok T0 S0 (s.setReg r i v) :=
  ok_setReg_any hv h (fun h0 => le_trans (ramping_le fun d hd => by rwa [domSt_setReg _ _ _ hc] at hd) h0) hr

theorem reg_mask (h : RegsOk s.regs) (r : Reg) (i : Nat) : s.reg r i &&& ~~~(fieldMask r) = 0 := by
  have := regsOk_get h (regKey r i)
  rwa [keyReg_regKey] at this

theorem ok_set {f : Fld} {i x : Nat} (hf : f.calm = true) (h : Ok T0 S0 s) (hr : Within (regBit f.reg) T0 := by first | with_reducible assumption | exact sub_trans hT rfl) :
    Ok T0 S0 (s.set f i x) :=
  ok_setReg_any (fun h0 => putBits_mask (by simp only [Fld.calm, Bool.and_eq_true] at hf; exact hf.1) (reg_mask h0 _ _) x) h
    (fun h0 => le_trans (ramping_le (t := s.set f i x) fun d hd => by rwa [domSt_set _ _ _ hf] at hd) h0) hr

/-- A domain's state becomes another one than RAMP. -/
theorem ok_domSt {i x : Nat} (hx : (x % 8 == 1) = false) (h : Ok T0 S0 s) (hr : Within (regBit .PWR_DOM) T0 := by first | with_reducible assumption | exact sub_trans hT rfl) :
    Ok T0 S0 (s.set F.PWR_DOM_STATE i x) := by
  refine ok_setReg_any (fun h0 => putBits_mask rfl (reg_mask h0 _ _) x) h (fun h0 => le_trans (ramping_le (s := s) ?_) h0) hr
  intro d hd
  change (s.set F.PWR_DOM_STATE i x).domSt d = pdRamp at hd
  by_cases he : d = i
  · subst he
    have h1 : (s.set F.PWR_DOM_STATE d x).get F.PWR_DOM_STATE d = x % 8 := get_set_same _ _ _ _ (by decide)
    rw [show (s.set F.PWR_DOM_STATE d x).domSt d = x % 8 from h1] at hd
    rw [hd] at hx
    exact absurd hx (by decide)
  · have h1 : (s.set F.PWR_DOM_STATE i x).get F.PWR_DOM_STATE d = s.get F.PWR_DOM_STATE d :=
      get_set_ne _ _ _ _ _ _ (by decide) (.inr (.inl he))
    rwa [show (s.set F.PWR_DOM_STATE i x).domSt d = s.domSt d from h1] at hd

/-- While fewer than four domains ramp, one more may. -/
theorem ok_domRamp {i x : Nat} (hl : s.ramping < 4) (h : Ok T0 S0 s) (hr : Within (regBit .PWR_DOM) T0 := by first | with_reducible assumption | exact sub_trans hT rfl) :
    Ok T0 S0 (s.set F.PWR_DOM_STATE i x) := by
  refine ok_setReg_any (fun h0 => putBits_mask rfl (reg_mask h0 _ _) x) h (fun _ => ?_) hr
  have h1 : ∀ d, d ≠ i → (s.set F.PWR_DOM_STATE i x).domSt d = s.domSt d := fun d he =>
    get_set_ne _ _ _ _ _ _ (by decide) (.inr (.inl he))
  have h2 : (s.set F.PWR_DOM_STATE i x).ramping ≤ s.ramping + 1 := by
    unfold State.ramping
    rw [← List.countP_eq_length_filter, ← List.countP_eq_length_filter]
    have h3 : ∀ l : List Nat, l.Nodup → List.countP (fun d => (s.set F.PWR_DOM_STATE i x).domSt d == pdRamp) l
        ≤ List.countP (fun d => s.domSt d == pdRamp) l + 1 := by
      intro l hn
      induction l with
      | nil => simp
      | cons a l ih =>
        rw [List.nodup_cons] at hn
        rw [List.countP_cons, List.countP_cons]
        by_cases ha : a = i
        · subst ha
          have h4 : List.countP (fun d => (s.set F.PWR_DOM_STATE a x).domSt d == pdRamp) l
              = List.countP (fun d => s.domSt d == pdRamp) l := by
            refine List.countP_congr fun d hd => ?_
            rw [h1 d fun e => hn.1 (e ▸ hd)]
          rw [h4]
          split <;> split <;> omega
        · rw [h1 a ha]
          have := ih hn.2
          omega
    exact h3 _ List.nodup_range
  exact le_trans h2 hl

theorem ok_incBy {f : Fld} {i n : Nat} (hf : f.calm = true) (h : Ok T0 S0 s)
    (hr : Within (regBit f.reg) T0 := by first | with_reducible assumption | exact sub_trans hT rfl) : Ok T0 S0 (s.incBy f i n) := ok_set hf h hr

theorem ok_inc {f : Fld} {i : Nat} (hf : f.calm = true) (h : Ok T0 S0 s)
    (hr : Within (regBit f.reg) T0 := by first | with_reducible assumption | exact sub_trans hT rfl) : Ok T0 S0 (s.inc f i) := ok_set hf h hr

theorem ok_incWrap {f : Fld} {i n : Nat} (hf : f.calm = true) (h : Ok T0 S0 s)
    (hr : Within (regBit f.reg) T0 := by first | with_reducible assumption | exact sub_trans hT rfl) : Ok T0 S0 (s.incWrap f i n) := ok_set hf h hr

theorem domSt_reset (d : Nat) : bitsOf (regReset .PWR_DOM d).toNat 24 3 ≠ pdRamp := by
  unfold regReset
  dsimp only
  split
  · decide
  · split <;> decide

theorem domSt_reset_nil (s : State) (d : Nat) : State.domSt { s with regs := [] } d ≠ pdRamp := by
  rw [domSt_reg]
  change bitsOf (regDefault (regKey .PWR_DOM d)).toNat 24 3 ≠ pdRamp
  rw [regDefault_regKey]
  exact domSt_reset d

theorem ok_clearReg {r : Reg} {i : Nat} (h : Ok T0 S0 s) (hr : Within (regBit r) T0 := by first | with_reducible assumption | exact sub_trans hT rfl) :
    Ok T0 S0 (s.clearReg r i) := by
  refine ok_setReg_any (fun _ => regReset_mask r i) h (fun h0 => le_trans (ramping_le (s := s) fun d hd => ?_) h0) hr
  by_cases he : Reg.PWR_DOM ≠ r ∨ d ≠ i
  · rw [domSt_reg] at hd ⊢
    rwa [reg_setReg_ne _ _ he] at hd
  · push Not at he
    obtain ⟨rfl, rfl⟩ := he
    rw [domSt_reg, reg_setReg_same] at hd
    exact absurd hd (domSt_reset d)

/-- A write of PWR_DOM under masks that leave STATE leaves it. -/
theorem ok_maskWrite {r : Reg} {i : Nat} {v : Word} (hv : RegsOk s.regs → v &&& ~~~(fieldMask r) = 0)
    (hs : r = .PWR_DOM → bitsOf v.toNat 24 3 = bitsOf (s.reg .PWR_DOM i).toNat 24 3) (h : Ok T0 S0 s)
    (hr : Within (regBit r) T0) : Ok T0 S0 (s.setReg r i v) := by
  refine ok_setReg_any hv h (fun h0 => le_trans (ramping_le (s := s) fun d hd => ?_) h0) hr
  by_cases he : Reg.PWR_DOM ≠ r ∨ d ≠ i
  · rw [domSt_reg] at hd ⊢
    rwa [reg_setReg_ne _ _ he] at hd
  · push Not at he
    obtain ⟨rfl, rfl⟩ := he
    rw [domSt_reg] at hd ⊢
    rw [reg_setReg_same] at hd
    exact (hs rfl).symm.trans hd

theorem state_bits {a b : Word} (h : ∀ j, 24 ≤ j → j < 27 → a.getLsbD j = b.getLsbD j) :
    bitsOf a.toNat 24 3 = bitsOf b.toNat 24 3 := by
  refine Nat.eq_of_testBit_eq fun j => ?_
  rw [testBit_bitsOf, testBit_bitsOf]
  by_cases hj : j < 3
  · rw [show a.toNat.testBit (24 + j) = a.getLsbD (24 + j) from rfl, show b.toNat.testBit (24 + j) = b.getLsbD (24 + j) from rfl,
      h _ (by omega) (by omega)]
  · simp [hj]

theorem rwMask_state (j : Nat) (h1 : 24 ≤ j) (h2 : j < 27) : (rwMask .PWR_DOM).getLsbD j = false ∧ (w1cMask .PWR_DOM).getLsbD j = false := by
  interval_cases j <;> decide

theorem ok_plainWrite {r : Reg} {i : Nat} {v : Word} (h : Ok T0 S0 s) (hr : Within (regBit r) T0 := by first | with_reducible assumption | exact sub_trans hT rfl) :
    Ok T0 S0 (s.plainWrite r i v) := by
  refine ok_maskWrite (fun h0 => maskedWrite_mask (reg_mask h0 r i) v) (fun e => ?_) h hr
  subst e
  refine state_bits fun j h1 h2 => ?_
  obtain ⟨h3, h4⟩ := rwMask_state j h1 h2
  simp only [maskedWrite, BitVec.getLsbD_and, BitVec.getLsbD_or, BitVec.getLsbD_not, h3, h4]
  simp
  omega

theorem ok_w1cWrite {r : Reg} {i : Nat} {v : Word} (h : Ok T0 S0 s) (hr : Within (regBit r) T0 := by first | with_reducible assumption | exact sub_trans hT rfl) :
    Ok T0 S0 (s.w1cWrite r i v) := by
  refine ok_maskWrite (fun h0 => bit_and_not fun j hj hb => and_not_bit (reg_mask h0 r i) hj (by simp at hb; exact hb.1))
    (fun e => ?_) h hr
  subst e
  refine state_bits fun j h1 h2 => ?_
  obtain ⟨_, h4⟩ := rwMask_state j h1 h2
  simp only [BitVec.getLsbD_and, BitVec.getLsbD_not, h4]
  simp
  omega

/-- A change of any registers that keeps them in order and lets no domain ramp. -/
theorem ok_regs {m : SMap Word} (h : Ok T0 S0 s) (hm : RegsOk s.regs → RegsOk m)
    (hp : ∀ d, State.domSt { s with regs := m } d = pdRamp → s.domSt d = pdRamp)
    (hr : Within allRegBits T0 := by first | with_reducible assumption | exact sub_trans hT rfl) : Ok T0 S0 { s with regs := m } := by
  refine ⟨h.queue, fun h0 => hm (h.regs h0), fun r i h2 => ?_, fun p hp => ?_, h.mem, fun h0 => le_trans (ramping_le hp) (h.ramp h0)⟩
  · refine absurd (within_bit (j := 64 + r.ctorIdx) hr ?_) (by simp [h2])
    unfold allRegBits
    rw [Nat.testBit_mul_two_pow]
    have : r.ctorIdx < 241 := by cases r <;> decide
    rw [Nat.testBit_two_pow_sub_one]
    simp
    omega
  · have := h.part p hp
    cases p <;> exact this

/-- Some registers go back to their reset values. -/
theorem ok_keepRegs (h : Ok T0 S0 s) (p : Nat → Bool) (hr : Within allRegBits T0 := by first | with_reducible assumption | exact sub_trans hT rfl) :
    Ok T0 S0 { s with regs := mapKeep p s.regs } :=
  ok_regs h (fun h0 => ⟨mapKeep_wf _ _ _ h0.1, fun e he => h0.2 e (List.mem_filter.1 he).1⟩) (fun d hd => by
    rw [domSt_reg] at hd ⊢
    unfold State.reg at hd ⊢
    cases hk : p (regKey .PWR_DOM d)
    · rw [show mapGet regDefault (mapKeep p s.regs) (regKey .PWR_DOM d) = regDefault (regKey .PWR_DOM d) from
          mapGet_filter_same _ _ _ hk, regDefault_regKey] at hd
      exact absurd hd (domSt_reset d)
    · rwa [show mapGet regDefault (mapKeep p s.regs) (regKey .PWR_DOM d) = mapGet regDefault s.regs (regKey .PWR_DOM d) from
          mapGet_filter_keep _ _ _ hk] at hd) hr

theorem ok_resetDomainRegs {d : Nat} (h : Ok T0 S0 s) (hr : Within allRegBits T0 := by first | with_reducible assumption | exact sub_trans hT rfl) :
    Ok T0 S0 (s.resetDomainRegs d) := ok_keepRegs h _ hr

/-- Channels that have lost their contents list no word. -/
theorem chans_lost_wf (m : SMap DdrCh) (ch : Nat) : mapWf (fun _ => none)
    (mapGet (fun _ => {}) (m.map fun (e : Nat × DdrCh) => (e.1, ({ gen := e.2.gen + 1 } : DdrCh))) ch).words := by
  induction m with
  | nil => exact mapWf_nil _
  | cons e m ih =>
    rw [List.map_cons, mapGet]
    split
    · exact mapWf_nil _
    · exact ih

theorem chan_set (s : State) (f : Fld) (i x ch : Nat) : (s.set f i x).chan ch = s.chan ch :=
  congrArg (fun d : Ddr => mapGet (fun _ => ({} : DdrCh)) d.chans ch) (rfl : (s.set f i x).ddr = s.ddr)

theorem ok_foldl {β : Type} {f : State → β → State} {l : List β} (hf : ∀ s x, Ok T0 S0 s → Ok T0 S0 (f s x)) (h : Ok T0 S0 s) :
    Ok T0 S0 (l.foldl f s) := by
  induction l generalizing s with
  | nil => exact h
  | cons a l ih => exact ih (hf s a h)

theorem ok_ite {c : Prop} [Decidable c] {a b : State} (ha : Ok T0 S0 a) (hb : Ok T0 S0 b) : Ok T0 S0 (if c then a else b) := by
  split
  · exact ha
  · exact hb

/-- A fold whose accumulator carries more than the state. -/
theorem ok_foldl_snd {α β : Type} {f : α × State → β → α × State} {l : List β}
    (hf : ∀ a x, Ok T0 S0 a.2 → Ok T0 S0 (f a x).2) {a : α × State} (h : Ok T0 S0 a.2) : Ok T0 S0 (l.foldl f a).2 := by
  induction l generalizing a with
  | nil => exact h
  | cons x l ih => exact ih (hf a x h)

theorem ok_foldl_fst {α β : Type} {f : State × α → β → State × α} {l : List β}
    (hf : ∀ a x, Ok T0 S0 a.1 → Ok T0 S0 (f a x).1) {a : State × α} (h : Ok T0 S0 a.1) : Ok T0 S0 (l.foldl f a).1 := by
  induction l generalizing a with
  | nil => exact h
  | cons x l ih => exact ih (hf a x h)

end Sys2Proof.Machine
end

