-- ==== Sys2Proof/Laws/KeepBase.lean ====
section
/-!
SUPPORT. The queue and the register file are kept (Laws/Keep.lean) by what events, vectors, the recorder, mailboxes and bores do: one lemma for each
operation and each command.
-/

set_option Elab.async false
set_option linter.unusedTactic false
set_option linter.unusedVariables false
set_option linter.unreachableTactic false

namespace Sys2Proof.Machine

variable {T0 : Nat} {S0 : State}

/-! ### Ops -/

theorem ok_fresh {s : State} (w : Nat) (hOk : Ok T0 S0 s)
    (hT : Within 0x2 T0 := by first | with_reducible assumption | exact sub_trans hT rfl) : Ok T0 S0 (State.fresh s w).2 := by
  unfold State.fresh
  repeat' (first
    | with_reducible assumption | (exact sub_trans hT rfl)
    | (fail_if_no_progress (with_reducible refine ok_with ?_ ..)) | dsimp only)

theorem ok_setCal {s : State} (cls : Nat) (i : Nat) (x : CalVal) (hOk : Ok T0 S0 s)
    (hT : Within 0x8000000 T0 := by first | with_reducible assumption | exact sub_trans hT rfl) : Ok T0 S0 (State.setCal s cls i x) := by
  unfold State.setCal
  repeat' (first
    | with_reducible assumption | (exact sub_trans hT rfl)
    | (fail_if_no_progress (with_reducible refine ok_with ?_ ..)) | dsimp only)

theorem ok_calWritten {s : State} (cls : Nat) (i : Nat) (v : Nat) (hOk : Ok T0 S0 s)
    (hT : Within 0x8000000 T0 := by first | with_reducible assumption | exact sub_trans hT rfl) : Ok T0 S0 (State.calWritten s cls i v) := by
  unfold State.calWritten
  repeat' (first
    | with_reducible assumption | (exact rfl) | (exact sub_trans hT rfl) | with_reducible apply ok_setCal
    | (fail_if_no_progress (with_reducible refine ok_with ?_ ..)) | dsimp only)

theorem ok_calStart {s : State} (cls : Nat) (i : Nat) (hOk : Ok T0 S0 s)
    (hT : Within 0x8000000 T0 := by first | with_reducible assumption | exact sub_trans hT rfl) : Ok T0 S0 (State.calStart s cls i) := by
  unfold State.calStart
  repeat' (first
    | with_reducible assumption | (exact rfl) | (exact sub_trans hT rfl) | with_reducible apply ok_setCal
    | (fail_if_no_progress (with_reducible refine ok_with ?_ ..)) | dsimp only)

theorem ok_calFound {s : State} (cls : Nat) (i : Nat) (v : Nat) (hOk : Ok T0 S0 s)
    (hT : Within 0x8000000 T0 := by first | with_reducible assumption | exact sub_trans hT rfl) : Ok T0 S0 (State.calFound s cls i v) := by
  unfold State.calFound
  repeat' (first
    | with_reducible assumption | (exact rfl) | (exact sub_trans hT rfl) | with_reducible apply ok_setCal | split
    | dsimp only)

theorem ok_setTimer {s : State} (k : Nat) (t : Nat) (hOk : Ok T0 S0 s)
    (hT : Within 0x20000000 T0 := by first | with_reducible assumption | exact sub_trans hT rfl) : Ok T0 S0 (State.setTimer s k t) := by
  unfold State.setTimer
  repeat' (first
    | with_reducible assumption | (exact sub_trans hT rfl)
    | (fail_if_no_progress (with_reducible refine ok_with ?_ ..)) | dsimp only)

theorem ok_startTimer {s : State} (k : Nat) (hOk : Ok T0 S0 s)
    (hT : Within 0x20000000 T0 := by first | with_reducible assumption | exact sub_trans hT rfl) : Ok T0 S0 (State.startTimer s k) := by
  unfold State.startTimer
  repeat' (first
    | with_reducible assumption | (exact rfl) | (exact sub_trans hT rfl) | with_reducible apply ok_setTimer
    | dsimp only)

theorem ok_emit {s : State} (o : Output) (hOk : Ok T0 S0 s)
    (hT : Within 0x4 T0 := by first | with_reducible assumption | exact sub_trans hT rfl) : Ok T0 S0 (State.emit s o) := by
  unfold State.emit
  repeat' (first
    | with_reducible assumption | (exact sub_trans hT rfl)
    | (fail_if_no_progress (with_reducible refine ok_with ?_ ..)) | dsimp only)

theorem ok_raiseWith {s : State} (source : Nat) (bit : Nat) (plane : Nat) (online : Bool) (hOk : Ok T0 S0 s)
    (hT : Within 0x8 T0 := by first | with_reducible assumption | exact sub_trans hT rfl) : Ok T0 S0 (State.raiseWith s source bit plane online) := by
  unfold State.raiseWith
  repeat' (first
    | with_reducible assumption | (exact rfl) | (exact sub_trans hT rfl)
    | (fail_if_no_progress (with_reducible refine ok_with ?_ ..)) | dsimp only)

theorem ok_raiseBench {s : State} (b : Nat) (bit : Nat) (hOk : Ok T0 S0 s)
    (hT : Within 0x8 T0 := by first | with_reducible assumption | exact sub_trans hT rfl) : Ok T0 S0 (State.raiseBench s b bit) := by
  unfold State.raiseBench
  repeat' (first
    | with_reducible assumption | (exact rfl) | (exact sub_trans hT rfl) | with_reducible apply ok_raiseWith
    | dsimp only)

theorem ok_raise {s : State} (source : Nat) (bit : Nat) (hOk : Ok T0 S0 s)
    (hT : Within 0x8 T0 := by first | with_reducible assumption | exact sub_trans hT rfl) : Ok T0 S0 (State.raise s source bit) := by
  unfold State.raise
  repeat' (first
    | with_reducible assumption | (exact sub_trans hT rfl) | with_reducible apply ok_raiseWith | dsimp only)

theorem ok_wlog {s : State} (code : Nat) (source : Nat) (severity : Nat) (detail : Nat) (hOk : Ok T0 S0 s)
    (hT : Within 0x10 T0 := by first | with_reducible assumption | exact sub_trans hT rfl) : Ok T0 S0 (State.wlog s code source severity detail) := by
  unfold State.wlog
  repeat' (first
    | with_reducible assumption | (exact rfl) | (exact sub_trans hT rfl)
    | (fail_if_no_progress (with_reducible refine ok_with ?_ ..)) | dsimp only)

theorem ok_hluRefuse {s : State} (q : Nat) (src : Nat) (hOk : Ok T0 S0 s)
    (hT : Within 0x2000000000000000000000000000000000000000000000000000000000000000000000030 T0 := by first | with_reducible assumption | exact sub_trans hT rfl) : Ok T0 S0 (State.hluRefuse s q src) := by
  unfold State.hluRefuse
  repeat' (first
    | with_reducible assumption | (exact rfl) | (exact sub_trans hT rfl) | with_reducible apply ok_set
    | with_reducible apply ok_inc | with_reducible apply ok_wlog
    | (fail_if_no_progress (with_reducible refine ok_with ?_ ..)) | split | dsimp only)

/-! ### Msix -/

theorem ok_setCfg {s : State} (port : Nat) (fn : Nat) (c : CfgSpace) (hOk : Ok T0 S0 s)
    (hT : Within 0x80 T0 := by first | with_reducible assumption | exact sub_trans hT rfl) : Ok T0 S0 (State.setCfg s port fn c) := by
  unfold State.setCfg
  repeat' (first
    | with_reducible assumption | (exact sub_trans hT rfl)
    | (fail_if_no_progress (with_reducible refine ok_with ?_ ..)) | dsimp only)

theorem ok_setMsixEntry {s : State} (port : Nat) (fn : Nat) (vec : Nat) (e : MsixEntry) (hOk : Ok T0 S0 s)
    (hT : Within 0x80 T0 := by first | with_reducible assumption | exact sub_trans hT rfl) : Ok T0 S0 (State.setMsixEntry s port fn vec e) := by
  unfold State.setMsixEntry
  repeat' (first
    | with_reducible assumption | (exact sub_trans hT rfl)
    | (fail_if_no_progress (with_reducible refine ok_with ?_ ..)) | dsimp only)

theorem ok_setPendBits {s : State} (fn : Nat) (x : Nat) (hOk : Ok T0 S0 s)
    (hT : Within 0x80 T0 := by first | with_reducible assumption | exact sub_trans hT rfl) : Ok T0 S0 (State.setPendBits s fn x) := by
  unfold State.setPendBits
  repeat' (first
    | with_reducible assumption | (exact sub_trans hT rfl)
    | (fail_if_no_progress (with_reducible refine ok_with ?_ ..)) | split | dsimp only)

theorem ok_raiseVec {s : State} (fn : Nat) (vec : Nat) (hOk : Ok T0 S0 s)
    (hT : Within 0x84 T0 := by first | with_reducible assumption | exact sub_trans hT rfl) : Ok T0 S0 (State.raiseVec s fn vec) := by
  unfold State.raiseVec
  repeat' (first
    | with_reducible assumption | (exact rfl) | (exact sub_trans hT rfl) | with_reducible apply ok_emit
    | with_reducible apply ok_setPendBits | split | dsimp only)

theorem ok_sendPending {s : State} (fn : Nat) (vec : Nat) (hOk : Ok T0 S0 s)
    (hT : Within 0x84 T0 := by first | with_reducible assumption | exact sub_trans hT rfl) : Ok T0 S0 (State.sendPending s fn vec) := by
  unfold State.sendPending
  repeat' (first
    | with_reducible assumption | (exact rfl) | (exact sub_trans hT rfl) | with_reducible apply ok_emit
    | with_reducible apply ok_setPendBits | split | dsimp only)

theorem ok_sendAllPending {s : State} (fn : Nat) (hOk : Ok T0 S0 s)
    (hT : Within 0x84 T0 := by first | with_reducible assumption | exact sub_trans hT rfl) : Ok T0 S0 (State.sendAllPending s fn) := by
  unfold State.sendAllPending
  repeat' (first
    | with_reducible assumption | (exact sub_trans hT rfl) | with_reducible apply ok_sendPending
    | (with_reducible apply ok_foldl; intro _ _ _; beta_reduce) | (intro _) | dsimp only)

theorem ok_alertEvent {s : State} (hOk : Ok T0 S0 s)
    (hT : Within 0x84 T0 := by first | with_reducible assumption | exact sub_trans hT rfl) : Ok T0 S0 (State.alertEvent s) := by
  unfold State.alertEvent
  repeat' (first
    | with_reducible assumption | (exact sub_trans hT rfl) | with_reducible apply ok_emit
    | with_reducible apply ok_raiseVec | dsimp only)

theorem ok_resetCfg {s : State} (port : Nat) (fn : Nat) (hOk : Ok T0 S0 s)
    (hT : Within 0x80 T0 := by first | with_reducible assumption | exact sub_trans hT rfl) : Ok T0 S0 (State.resetCfg s port fn) := by
  unfold State.resetCfg
  repeat' (first
    | with_reducible assumption | (exact sub_trans hT rfl)
    | (fail_if_no_progress (with_reducible refine ok_with ?_ ..)) | dsimp only)

/-! ### Weapel -/

theorem ok_ringWrite {s : State} (e : WplEntry) (hOk : Ok T0 S0 s)
    (hT : Within 0x4000000000000000000000000000000000000000000000000000000000000000000000010 T0 := by first | with_reducible assumption | exact sub_trans hT rfl) : Ok T0 S0 (State.ringWrite s e) := by
  unfold State.ringWrite
  repeat' (first
    | with_reducible assumption | (exact rfl) | (exact sub_trans hT rfl) | with_reducible apply ok_set
    | with_reducible apply ok_ring | (fail_if_no_progress (with_reducible refine ok_with ?_ ..)) | dsimp only)

theorem ok_freezeAfter {s : State} (e : WplEntry) (hOk : Ok T0 S0 s)
    (hT : Within 0x4000000000000000000000000000000000000000000000000000000000000000000000010 T0 := by first | with_reducible assumption | exact sub_trans hT rfl) : Ok T0 S0 (State.freezeAfter s e) := by
  unfold State.freezeAfter
  repeat' (first
    | with_reducible assumption | (exact rfl) | (exact sub_trans hT rfl) | with_reducible apply ok_set
    | (fail_if_no_progress (with_reducible refine ok_with ?_ ..)) | split | dsimp only)

theorem ok_takeEntry {s : State} (e : WplEntry) (hOk : Ok T0 S0 s)
    (hT : Within 0x14000000000000000000000000000000000000000000000000000000000000000000000010 T0 := by first | with_reducible assumption | exact sub_trans hT rfl) : Ok T0 S0 (State.takeEntry s e) := by
  unfold State.takeEntry
  repeat' (first
    | with_reducible assumption | (exact rfl) | (exact sub_trans hT rfl) | with_reducible apply ok_inc
    | with_reducible apply ok_ringWrite | with_reducible apply ok_freezeAfter
    | (fail_if_no_progress (with_reducible refine ok_with ?_ ..)) | split | dsimp only)

theorem ok_queueOne {s : State} (e : WplEntry) (hOk : Ok T0 S0 s)
    (hT : Within 0x10000000000000000000000000000000000000000000000000000000000000000000000010 T0 := by first | with_reducible assumption | exact sub_trans hT rfl) : Ok T0 S0 (State.queueOne s e) := by
  unfold State.queueOne
  repeat' (first
    | with_reducible assumption | (exact rfl) | (exact sub_trans hT rfl) | with_reducible apply ok_inc
    | (fail_if_no_progress (with_reducible refine ok_with ?_ ..)) | split | dsimp only)

theorem ok_queueOffers {s : State} (hOk : Ok T0 S0 s)
    (hT : Within 0x10000000000000000000000000000000000000000000000000000000000000000000000010 T0 := by first | with_reducible assumption | exact sub_trans hT rfl) : Ok T0 S0 (State.queueOffers s) := by
  unfold State.queueOffers
  repeat' (first
    | with_reducible assumption | (exact sub_trans hT rfl) | with_reducible apply ok_queueOne
    | (fail_if_no_progress (with_reducible refine ok_with ?_ ..))
    | (with_reducible apply ok_foldl; intro _ _ _; beta_reduce) | (intro _) | dsimp only)

theorem ok_serveQueue {s : State} (hOk : Ok T0 S0 s)
    (hT : Within 0x14000000000000000000000000000000000000000000000000000000000000000000000010 T0 := by first | with_reducible assumption | exact sub_trans hT rfl) : Ok T0 S0 (State.serveQueue s) := by
  unfold State.serveQueue
  repeat' (first
    | with_reducible assumption | (exact rfl) | (exact sub_trans hT rfl) | with_reducible apply ok_takeEntry
    | (fail_if_no_progress (with_reducible refine ok_with ?_ ..)) | split | dsimp only)

theorem ok_execWeapelEntry {s : State} (hOk : Ok T0 S0 s)
    (hT : Within 0x14000000000000000000000000000000000000000000000000000000000000000000000010 T0 := by first | with_reducible assumption | exact sub_trans hT rfl) : ∃ sNext, execWeapelEntry s = .next sNext ∧ Ok T0 S0 sNext := by
  unfold execWeapelEntry
  refine ⟨_, rfl, ?_⟩
  repeat' (first
    | with_reducible assumption | (exact sub_trans hT rfl) | with_reducible apply ok_queueOffers
    | with_reducible apply ok_serveQueue | dsimp only)

theorem ok_commitRecord {s : State} (r : WplRecord) (hOk : Ok T0 S0 s)
    (hT : Within 0x10 T0 := by first | with_reducible assumption | exact sub_trans hT rfl) : Ok T0 S0 (State.commitRecord s r) := by
  unfold State.commitRecord
  repeat' (first
    | with_reducible assumption | (exact sub_trans hT rfl)
    | (fail_if_no_progress (with_reducible refine ok_with ?_ ..)) | dsimp only)

theorem ok_failRecord {s : State} (hOk : Ok T0 S0 s)
    (hT : Within 0x10 T0 := by first | with_reducible assumption | exact sub_trans hT rfl) : Ok T0 S0 (State.failRecord s) := by
  unfold State.failRecord
  repeat' (first
    | with_reducible assumption | (exact sub_trans hT rfl) | with_reducible apply ok_wlog
    | (fail_if_no_progress (with_reducible refine ok_with ?_ ..)) | dsimp only)

theorem ok_recordDone {s : State} (ok : Bool) (hOk : Ok T0 S0 s)
    (hT : Within 0x14000000000000000000000000000000000000000000000000000000000000000000000010 T0 := by first | with_reducible assumption | exact sub_trans hT rfl) : Ok T0 S0 (State.recordDone s ok) := by
  unfold State.recordDone
  repeat' (first
    | with_reducible assumption | (exact rfl) | (exact sub_trans hT rfl) | with_reducible apply ok_set
    | with_reducible apply ok_serveQueue | with_reducible apply ok_commitRecord | with_reducible apply ok_failRecord
    | (fail_if_no_progress (with_reducible refine ok_with ?_ ..)) | split | dsimp only)

theorem ok_hostFreeze {s : State} (src : Nat) (detail : Nat) (hOk : Ok T0 S0 s)
    (hT : Within 0x10 T0 := by first | with_reducible assumption | exact sub_trans hT rfl) : Ok T0 S0 (State.hostFreeze s src detail) := by
  unfold State.hostFreeze
  repeat' (first
    | with_reducible assumption | (exact sub_trans hT rfl) | with_reducible apply ok_wlog | dsimp only)

theorem ok_wplResume {s : State} (hOk : Ok T0 S0 s)
    (hT : Within 0x4000000000000000000000000000000000000000000000000000000000000000000000010 T0 := by first | with_reducible assumption | exact sub_trans hT rfl) : Ok T0 S0 (State.wplResume s) := by
  unfold State.wplResume
  repeat' (first
    | with_reducible assumption | (exact rfl) | (exact sub_trans hT rfl) | with_reducible apply ok_set
    | with_reducible apply ok_ringWrite | (fail_if_no_progress (with_reducible refine ok_with ?_ ..)) | split
    | dsimp only)

/-! ### Mailbox -/

theorem ok_setBox {s : State} (m : Nat) (x : Mbx) (hOk : Ok T0 S0 s)
    (hT : Within 0x80000 T0 := by first | with_reducible assumption | exact sub_trans hT rfl) : Ok T0 S0 (State.setBox s m x) := by
  unfold State.setBox
  repeat' (first
    | with_reducible assumption | (exact sub_trans hT rfl)
    | (fail_if_no_progress (with_reducible refine ok_with ?_ ..)) | dsimp only)

theorem ok_setMbSt {s : State} (m : Nat) (st : Nat) (hOk : Ok T0 S0 s)
    (hT : Within 0x10000000000000000000000000000000000000000000000000000000000000000000000 T0 := by first | with_reducible assumption | exact sub_trans hT rfl) : Ok T0 S0 (State.setMbSt s m st) := by
  unfold State.setMbSt
  repeat' (first
    | with_reducible assumption | (exact rfl) | (exact sub_trans hT rfl) | with_reducible apply ok_set | dsimp only)

theorem ok_sbAnswer {s : State} (kind : Nat) (page : List Byte) (hOk : Ok T0 S0 s)
    (hT : Within 0x80004 T0 := by first | with_reducible assumption | exact sub_trans hT rfl) : Ok T0 S0 (State.sbAnswer s kind page) := by
  unfold State.sbAnswer
  repeat' (first
    | with_reducible assumption | (exact rfl) | (exact sub_trans hT rfl) | with_reducible apply ok_emit
    | with_reducible apply ok_setBox | (fail_if_no_progress (with_reducible refine ok_with ?_ ..)) | split
    | dsimp only)

theorem ok_postPage {s : State} (m : Nat) (page : List Byte) (rest : List (List Byte)) (hOk : Ok T0 S0 s)
    (hT : Within 0x10000000000000000000000000000000000000000000000000000000000000020080084 T0 := by first | with_reducible assumption | exact sub_trans hT rfl) : Ok T0 S0 (State.postPage s m page rest) := by
  unfold State.postPage
  repeat' (first
    | with_reducible assumption | (exact rfl) | (exact sub_trans hT rfl) | with_reducible apply ok_startTimer
    | with_reducible apply ok_raiseVec | with_reducible apply ok_setBox | with_reducible apply ok_setMbSt
    | with_reducible apply ok_sbAnswer | (fail_if_no_progress (with_reducible refine ok_with ?_ ..)) | split
    | dsimp only)

theorem ok_respond {s : State} (m : Nat) (op : Nat) (tag : Nat) (st : Nat) (payload : List Byte) (hOk : Ok T0 S0 s)
    (hT : Within 0x10000000000000000000000000000000000000000000000000000000000000020080084 T0 := by first | with_reducible assumption | exact sub_trans hT rfl) : Ok T0 S0 (State.respond s m op tag st payload) := by
  unfold State.respond
  repeat' (first
    | with_reducible assumption | (exact rfl) | (exact sub_trans hT rfl) | with_reducible apply ok_setBox
    | with_reducible apply ok_postPage | (fail_if_no_progress (with_reducible refine ok_with ?_ ..)) | split
    | dsimp only)

theorem ok_hwBusy {s : State} (m : Nat) (op : Nat) (tag : Nat) (hOk : Ok T0 S0 s)
    (hT : Within 0x10000000000000000000000000000000000000000000000000000000000000020080084 T0 := by first | with_reducible assumption | exact sub_trans hT rfl) : Ok T0 S0 (State.hwBusy s m op tag) := by
  unfold State.hwBusy
  repeat' (first
    | with_reducible assumption | (exact rfl) | (exact sub_trans hT rfl) | with_reducible apply ok_set
    | with_reducible apply ok_respond | dsimp only)

theorem ok_sbHardware {s : State} (op : Nat) (tag : Nat) (p : List Byte) (hOk : Ok T0 S0 s)
    (hT : Within 0x10000000000000000000000000000000000000000000000000000000000000020080084 T0 := by first | with_reducible assumption | exact sub_trans hT rfl) : Ok T0 S0 (State.sbHardware s op tag p) := by
  unfold State.sbHardware
  repeat' (first
    | with_reducible assumption | (exact sub_trans hT rfl) | with_reducible apply ok_respond
    | with_reducible apply ok_hwBusy | split | dsimp only)

theorem ok_takeCommand {s : State} (m : Nat) (x : Mbx) (hOk : Ok T0 S0 s)
    (hT : Within 0x10000000000000000000000000000000000000000000000000000000000000020080084 T0 := by first | with_reducible assumption | exact sub_trans hT rfl) : Ok T0 S0 (State.takeCommand s m x) := by
  unfold State.takeCommand
  repeat' (first
    | with_reducible assumption | (exact rfl) | (exact sub_trans hT rfl) | with_reducible apply ok_setMbSt
    | with_reducible apply ok_respond | with_reducible apply ok_sbHardware
    | (fail_if_no_progress (with_reducible refine ok_with ?_ ..)) | split | dsimp only)

theorem ok_takePage {s : State} (m : Nat) (pg : List Byte) (hOk : Ok T0 S0 s)
    (hT : Within 0x10000000000000000000000000000000000000000000000000000000000000020080084 T0 := by first | with_reducible assumption | exact sub_trans hT rfl) : Ok T0 S0 (State.takePage s m pg) := by
  unfold State.takePage
  repeat' (first
    | with_reducible assumption | (exact rfl) | (exact sub_trans hT rfl) | with_reducible apply ok_set
    | with_reducible apply ok_startTimer | with_reducible apply ok_setBox | with_reducible apply ok_setMbSt
    | with_reducible apply ok_sbAnswer | with_reducible apply ok_respond | with_reducible apply ok_takeCommand
    | (fail_if_no_progress (with_reducible refine ok_with ?_ ..)) | split | dsimp only)

theorem ok_ring {s : State} (m : Nat) (page : List Byte) (hOk : Ok T0 S0 s)
    (hT : Within 0x10000000000000000000000000000000000000000000000000000000000000020080084 T0 := by first | with_reducible assumption | exact sub_trans hT rfl) : Ok T0 S0 (State.ring s m page) := by
  unfold State.ring
  repeat' (first
    | with_reducible assumption | (exact rfl) | (exact sub_trans hT rfl) | with_reducible apply ok_set
    | with_reducible apply ok_setBox | with_reducible apply ok_hwBusy | with_reducible apply ok_takePage
    | (fail_if_no_progress (with_reducible refine ok_with ?_ ..)) | split | dsimp only)

theorem ok_execMbxRing (src : Src) (m : Nat) (v : Word) (page : List Byte) {s : State} (hOk : Ok T0 S0 s)
    (hT : Within 0x10000000000000000000000000000000000000000000000000000000000000020080084 T0 := by first | with_reducible assumption | exact sub_trans hT rfl) : ∃ sNext, execMbxRing src m v page s = .next sNext ∧ Ok T0 S0 sNext := by
  unfold execMbxRing
  refine ⟨_, rfl, ?_⟩
  repeat' (first
    | with_reducible assumption | (exact rfl) | (exact sub_trans hT rfl) | with_reducible apply ok_ring | split
    | dsimp only)

theorem ok_ack {s : State} (m : Nat) (hOk : Ok T0 S0 s)
    (hT : Within 0x10000000000000000000000000000000000000000000000000000000000000020080084 T0 := by first | with_reducible assumption | exact sub_trans hT rfl) : Ok T0 S0 (State.ack s m) := by
  unfold State.ack
  repeat' (first
    | with_reducible assumption | (exact rfl) | (exact sub_trans hT rfl) | with_reducible apply ok_set
    | with_reducible apply ok_setMbSt | with_reducible apply ok_postPage
    | (fail_if_no_progress (with_reducible refine ok_with ?_ ..)) | split | dsimp only)

theorem ok_execMbxAck (src : Src) (m : Nat) (v : Word) {s : State} (hOk : Ok T0 S0 s)
    (hT : Within 0x10000000000000000000000000000000000000000000000000000000000000020080084 T0 := by first | with_reducible assumption | exact sub_trans hT rfl) : ∃ sNext, execMbxAck src m v s = .next sNext ∧ Ok T0 S0 sNext := by
  unfold execMbxAck
  refine ⟨_, rfl, ?_⟩
  repeat' (first
    | with_reducible assumption | (exact rfl) | (exact sub_trans hT rfl) | with_reducible apply ok_ack | split
    | dsimp only)

theorem ok_mbxAbort {s : State} (m : Nat) (hOk : Ok T0 S0 s)
    (hT : Within 0x10000000000000000000000000000000000000000000000000000000000000000080000 T0 := by first | with_reducible assumption | exact sub_trans hT rfl) : Ok T0 S0 (State.mbxAbort s m) := by
  unfold State.mbxAbort
  repeat' (first
    | with_reducible assumption | (exact rfl) | (exact sub_trans hT rfl) | with_reducible apply ok_setBox
    | with_reducible apply ok_setMbSt | (fail_if_no_progress (with_reducible refine ok_with ?_ ..)) | split
    | dsimp only)

theorem ok_mbxCtlWrite {s : State} (m : Nat) (v : Word) (hOk : Ok T0 S0 s)
    (hT : Within 0x30000000000000000000000000000000000000000000000000000000000000000080000 T0 := by first | with_reducible assumption | exact sub_trans hT rfl) : Ok T0 S0 (State.mbxCtlWrite s m v) := by
  unfold State.mbxCtlWrite
  repeat' (first
    | with_reducible assumption | (exact rfl) | (exact sub_trans hT rfl) | with_reducible apply ok_plainWrite
    | with_reducible apply ok_mbxAbort | split | dsimp only)

theorem ok_execMbxAbort (src : Src) (m : Nat) (v : Word) {s : State} (hOk : Ok T0 S0 s)
    (hT : Within 0x30000000000000000000000000000000000000000000000000000000000000000080000 T0 := by first | with_reducible assumption | exact sub_trans hT rfl) : ∃ sNext, execMbxAbort src m v s = .next sNext ∧ Ok T0 S0 sNext := by
  unfold execMbxAbort
  refine ⟨_, rfl, ?_⟩
  repeat' (first
    | with_reducible assumption | (exact rfl) | (exact sub_trans hT rfl) | with_reducible apply ok_mbxCtlWrite | split
    | dsimp only)

theorem ok_mbxReset {s : State} (n : Nat) (hOk : Ok T0 S0 s)
    (hT : Within 0x30000000000000000000000000000000000000000000000000000000000000000080000 T0 := by first | with_reducible assumption | exact sub_trans hT rfl) : Ok T0 S0 (State.mbxReset s n) := by
  unfold State.mbxReset
  repeat' (first
    | with_reducible assumption | (exact rfl) | (exact sub_trans hT rfl) | with_reducible apply ok_set
    | with_reducible apply ok_setBox | with_reducible apply ok_mbxAbort
    | (fail_if_no_progress (with_reducible refine ok_with ?_ ..)) | dsimp only)

theorem ok_execPageTimerExpiry (m : Nat) {s : State} (hOk : Ok T0 S0 s)
    (hT : Within 0x10000000000000000000000000000000000000000000000000000000000000020080094 T0 := by first | with_reducible assumption | exact sub_trans hT rfl) : ∃ sNext, execPageTimerExpiry m s = .next sNext ∧ Ok T0 S0 sNext := by
  unfold execPageTimerExpiry
  refine ⟨_, rfl, ?_⟩
  repeat' (first
    | with_reducible assumption | (exact rfl) | (exact sub_trans hT rfl) | with_reducible apply ok_wlog
    | with_reducible apply ok_setBox | with_reducible apply ok_setMbSt | with_reducible apply ok_respond
    | (fail_if_no_progress (with_reducible refine ok_with ?_ ..)) | split | dsimp only)

theorem ok_finish {s : State} (e : MbCmd) (st : Nat) (payload : List Byte) (hOk : Ok T0 S0 s)
    (hT : Within 0x10000000000000000000000000000000000000000000000000000000000000020080084 T0 := by first | with_reducible assumption | exact sub_trans hT rfl) : Ok T0 S0 (State.finish s e st payload) := by
  unfold State.finish
  repeat' (first
    | with_reducible assumption | (exact sub_trans hT rfl) | with_reducible apply ok_respond
    | (fail_if_no_progress (with_reducible refine ok_with ?_ ..)) | split | dsimp only)

theorem ok_ok {s : State} (e : MbCmd) (payload : List Byte) (hOk : Ok T0 S0 s)
    (hT : Within 0x10000000000000000000000000000000000000000000000000000000000000020080084 T0 := by first | with_reducible assumption | exact sub_trans hT rfl) : Ok T0 S0 (State.ok s e payload) := by
  unfold State.ok
  repeat' (first
    | with_reducible assumption | (exact sub_trans hT rfl) | with_reducible apply ok_finish | dsimp only)

theorem ok_err {s : State} (e : MbCmd) (st : Nat) (reason : Nat) (item : Nat) (hOk : Ok T0 S0 s)
    (hT : Within 0x10000000000000000000000000000000000000000000000000000000000000020080084 T0 := by first | with_reducible assumption | exact sub_trans hT rfl) : Ok T0 S0 (State.err s e st reason item) := by
  unfold State.err
  repeat' (first
    | with_reducible assumption | (exact sub_trans hT rfl) | with_reducible apply ok_finish | dsimp only)

theorem ok_await {s : State} (e : MbCmd) (arg : Nat) (hOk : Ok T0 S0 s)
    (hT : Within 0x80000 T0 := by first | with_reducible assumption | exact sub_trans hT rfl) : Ok T0 S0 (State.await s e arg) := by
  unfold State.await
  repeat' (first
    | with_reducible assumption | (exact sub_trans hT rfl)
    | (fail_if_no_progress (with_reducible refine ok_with ?_ ..)) | dsimp only)

theorem ok_command {s : State} (m op : Nat) {f : MbCmd → State → State}
    (hf : ∀ e s, Ok T0 S0 s → Ok T0 S0 (f e s)) (hOk : Ok T0 S0 s)
    (hT : Within 0x0 T0 := by first | with_reducible assumption | exact sub_trans hT rfl) : Ok T0 S0 (s.command m op f) := by
  unfold State.command
  split
  · exact hOk
  · exact hf _ _ hOk

theorem ok_execCataloguedTimeExceeded (mb : Nat) {s : State} (hOk : Ok T0 S0 s)
    (hT : Within 0x10000000000000000000000000000000000000000000000000000000000000020080084 T0 := by first | with_reducible assumption | exact sub_trans hT rfl) : ∃ sNext, execCataloguedTimeExceeded mb s = .next sNext ∧ Ok T0 S0 sNext := by
  unfold execCataloguedTimeExceeded
  refine ⟨_, rfl, ?_⟩
  repeat' (first
    | with_reducible assumption | (exact sub_trans hT rfl) | with_reducible apply ok_err
    | (fail_if_no_progress (with_reducible refine ok_with ?_ ..)) | split | dsimp only)

theorem ok_execMctpMessage (tag : Nat) (msg : List Byte) {s : State} (hOk : Ok T0 S0 s)
    (hT : Within 0x10000000000000000000000000000000000000000000000000000000000000020080084 T0 := by first | with_reducible assumption | exact sub_trans hT rfl) : ∃ sNext, execMctpMessage tag msg s = .next sNext ∧ Ok T0 S0 sNext := by
  unfold execMctpMessage
  refine ⟨_, rfl, ?_⟩
  repeat' (first
    | with_reducible assumption | (exact rfl) | (exact sub_trans hT rfl) | with_reducible apply ok_setBox
    | with_reducible apply ok_ring | with_reducible apply ok_ack
    | (fail_if_no_progress (with_reducible refine ok_with ?_ ..)) | split | dsimp only)

theorem ok_execSetEndpointId (eid : Nat) {s : State} (hOk : Ok T0 S0 s)
    (hT : Within 0x200004 T0 := by first | with_reducible assumption | exact sub_trans hT rfl) : ∃ sNext, execSetEndpointId eid s = .next sNext ∧ Ok T0 S0 sNext := by
  unfold execSetEndpointId
  refine ⟨_, rfl, ?_⟩
  repeat' (first
    | with_reducible assumption | (exact sub_trans hT rfl) | with_reducible apply ok_emit
    | (fail_if_no_progress (with_reducible refine ok_with ?_ ..)) | split | dsimp only)

theorem ok_execGetEndpointId {s : State} (hOk : Ok T0 S0 s)
    (hT : Within 0x4 T0 := by first | with_reducible assumption | exact sub_trans hT rfl) : ∃ sNext, execGetEndpointId s = .next sNext ∧ Ok T0 S0 sNext := by
  unfold execGetEndpointId
  refine ⟨_, rfl, ?_⟩
  repeat' (first
    | with_reducible assumption | (exact sub_trans hT rfl) | with_reducible apply ok_emit | split | dsimp only)

theorem ok_execGetMctpVersionSupport (msgType : Nat) {s : State} (hOk : Ok T0 S0 s)
    (hT : Within 0x4 T0 := by first | with_reducible assumption | exact sub_trans hT rfl) : ∃ sNext, execGetMctpVersionSupport msgType s = .next sNext ∧ Ok T0 S0 sNext := by
  unfold execGetMctpVersionSupport
  refine ⟨_, rfl, ?_⟩
  repeat' (first
    | with_reducible assumption | (exact sub_trans hT rfl) | with_reducible apply ok_emit | split | dsimp only)

theorem ok_execGetMessageTypeSupport {s : State} (hOk : Ok T0 S0 s)
    (hT : Within 0x4 T0 := by first | with_reducible assumption | exact sub_trans hT rfl) : ∃ sNext, execGetMessageTypeSupport s = .next sNext ∧ Ok T0 S0 sNext := by
  unfold execGetMessageTypeSupport
  refine ⟨_, rfl, ?_⟩
  repeat' (first
    | with_reducible assumption | (exact sub_trans hT rfl) | with_reducible apply ok_emit | split | dsimp only)

theorem ok_execGetVendorDefinedMsgSupport (selector : Nat) {s : State} (hOk : Ok T0 S0 s)
    (hT : Within 0x4 T0 := by first | with_reducible assumption | exact sub_trans hT rfl) : ∃ sNext, execGetVendorDefinedMsgSupport selector s = .next sNext ∧ Ok T0 S0 sNext := by
  unfold execGetVendorDefinedMsgSupport
  refine ⟨_, rfl, ?_⟩
  repeat' (first
    | with_reducible assumption | (exact sub_trans hT rfl) | with_reducible apply ok_emit | split | dsimp only)

theorem ok_execDynamicAddressAssignment (addr : Nat) {s : State} (hOk : Ok T0 S0 s)
    (hT : Within 0x200000 T0 := by first | with_reducible assumption | exact sub_trans hT rfl) : ∃ sNext, execDynamicAddressAssignment addr s = .next sNext ∧ Ok T0 S0 sNext := by
  unfold execDynamicAddressAssignment
  refine ⟨_, rfl, ?_⟩
  repeat' (first
    | with_reducible assumption | (exact rfl) | (exact sub_trans hT rfl)
    | (fail_if_no_progress (with_reducible refine ok_with ?_ ..)) | split | dsimp only)

/-! ### Flash -/

theorem ok_setFlashByte {s : State} (a : Nat) (x : Byte) (hOk : Ok T0 S0 s)
    (hT : Within 0x200 T0 := by first | with_reducible assumption | exact sub_trans hT rfl) : Ok T0 S0 (State.setFlashByte s a x) :=
  ok_nvs hOk (sub_trans hT rfl) fun h => mapSet_wf _ _ _ _ h

theorem ok_eraseFlash {s : State} (k : Nat) (hOk : Ok T0 S0 s)
    (hT : Within 0x200 T0 := by first | with_reducible assumption | exact sub_trans hT rfl) : Ok T0 S0 (State.eraseFlash s k) := by
  unfold State.eraseFlash
  refine ok_nvs hOk (sub_trans hT rfl) fun h => ?_
  refine ⟨(mapKeep_wf s.flashDef s.nvs.flash (fun a => a / 0x800000 != k) h).1, fun e he => ?_⟩
  obtain ⟨hm, hk⟩ := List.mem_filter.1 he
  have hne : e.1 / 0x800000 ≠ k := by simpa using hk
  have := h.2 e hm
  simp only [State.flashDef] at this ⊢
  rwa [mapGet_mapSet_ne _ _ _ hne]

/-! ### Burig -/

theorem ok_bootSlot {s : State} (k : Nat) (hOk : Ok T0 S0 s)
    (hT : Within 0x40000000000000000000000000000000000000000000000000000000000000000100210 T0 := by first | with_reducible assumption | exact sub_trans hT rfl) : Ok T0 S0 (State.bootSlot s k) := by
  unfold State.bootSlot
  repeat' (first
    | with_reducible assumption | (exact rfl) | (exact sub_trans hT rfl) | with_reducible apply ok_set
    | with_reducible apply ok_wlog | (fail_if_no_progress (with_reducible refine ok_with ?_ ..)) | split | dsimp only)

theorem ok_recoveryMode {s : State} (hOk : Ok T0 S0 s)
    (hT : Within 0x40000000000000000000000000000000000000000000000000000000000000000000010 T0 := by first | with_reducible assumption | exact sub_trans hT rfl) : Ok T0 S0 (State.recoveryMode s) := by
  unfold State.recoveryMode
  repeat' (first
    | with_reducible assumption | (exact rfl) | (exact sub_trans hT rfl) | with_reducible apply ok_set
    | with_reducible apply ok_wlog | dsimp only)

theorem ok_restartLog {s : State} (cause : Nat) (hOk : Ok T0 S0 s)
    (hT : Within 0x40000000000000000000000000000000000000000000000000000000000000000000010 T0 := by first | with_reducible assumption | exact sub_trans hT rfl) : Ok T0 S0 (State.restartLog s cause) := by
  unfold State.restartLog
  repeat' (first
    | with_reducible assumption | (exact rfl) | (exact sub_trans hT rfl) | with_reducible apply ok_set
    | with_reducible apply ok_wlog | dsimp only)

theorem ok_fwFailed {s : State} (hOk : Ok T0 S0 s)
    (hT : Within 0x40000000000000000000000000000000000000000000000000000000000000000100094 T0 := by first | with_reducible assumption | exact sub_trans hT rfl) : Ok T0 S0 (State.fwFailed s) := by
  unfold State.fwFailed
  repeat' (first
    | with_reducible assumption | (exact rfl) | (exact sub_trans hT rfl) | with_reducible apply ok_set
    | with_reducible apply ok_wlog | with_reducible apply ok_alertEvent
    | (fail_if_no_progress (with_reducible refine ok_with ?_ ..)) | dsimp only)

theorem ok_fwHalt {s : State} (cause : Nat) (hOk : Ok T0 S0 s)
    (hT : Within 0x10000040000000000000000000000000000000000000000000000000000000000000000180094 T0 := by first | with_reducible assumption | exact sub_trans hT rfl) : Ok T0 S0 (State.fwHalt s cause) := by
  unfold State.fwHalt
  repeat' (first
    | with_reducible assumption | (exact rfl) | (exact sub_trans hT rfl) | with_reducible apply ok_set
    | with_reducible apply ok_inc | with_reducible apply ok_restartLog | with_reducible apply ok_fwFailed
    | (fail_if_no_progress (with_reducible refine ok_with ?_ ..)) | split | dsimp only)

theorem ok_execLockstepMismatch {s : State} (hOk : Ok T0 S0 s)
    (hT : Within 0x10000040000000000000000000000000000000000000000000000000000000000000000180094 T0 := by first | with_reducible assumption | exact sub_trans hT rfl) : ∃ sNext, execLockstepMismatch s = .next sNext ∧ Ok T0 S0 sNext := by
  unfold execLockstepMismatch
  refine ⟨_, rfl, ?_⟩
  repeat' (first
    | with_reducible assumption | (exact sub_trans hT rfl) | with_reducible apply ok_fwHalt | split | dsimp only)

theorem ok_execWatchdogExpiry {s : State} (hOk : Ok T0 S0 s)
    (hT : Within 0x10000040000000000000000000000000000000000000000000000000000000000000000180094 T0 := by first | with_reducible assumption | exact sub_trans hT rfl) : ∃ sNext, execWatchdogExpiry s = .next sNext ∧ Ok T0 S0 sNext := by
  unfold execWatchdogExpiry
  refine ⟨_, rfl, ?_⟩
  repeat' (first
    | with_reducible assumption | (exact sub_trans hT rfl) | with_reducible apply ok_fwHalt | split | dsimp only)

theorem ok_fwCtlWrite {s : State} (v : Word) (hOk : Ok T0 S0 s)
    (hT : Within 0x10000040000000000000000000000000000000000000000000000000000000000000000180094 T0 := by first | with_reducible assumption | exact sub_trans hT rfl) : Ok T0 S0 (State.fwCtlWrite s v) := by
  unfold State.fwCtlWrite
  repeat' (first
    | with_reducible assumption | (exact rfl) | (exact sub_trans hT rfl) | with_reducible apply ok_set
    | with_reducible apply ok_fwHalt | (fail_if_no_progress (with_reducible refine ok_with ?_ ..)) | split
    | dsimp only)

theorem ok_execFwRestart (src : Src) (v : Word) {s : State} (hOk : Ok T0 S0 s)
    (hT : Within 0x10000040000000000000000000000000000000000000000000000000000000000000000180094 T0 := by first | with_reducible assumption | exact sub_trans hT rfl) : ∃ sNext, execFwRestart src v s = .next sNext ∧ Ok T0 S0 sNext := by
  unfold execFwRestart
  refine ⟨_, rfl, ?_⟩
  repeat' (first
    | with_reducible assumption | (exact sub_trans hT rfl) | with_reducible apply ok_fwCtlWrite | split | dsimp only)

theorem ok_settle {s : State} (hOk : Ok T0 S0 s)
    (hT : Within 0x10000000000000000000000000000000000000000000000000000000000000020080084 T0 := by first | with_reducible assumption | exact sub_trans hT rfl) : Ok T0 S0 (State.settle s) := by
  unfold State.settle
  repeat' (first
    | with_reducible assumption | (exact sub_trans hT rfl) | with_reducible apply ok_err
    | (with_reducible apply ok_foldl; intro _ _ _; beta_reduce) | (intro _) | dsimp only)

theorem ok_fwOpen {s : State} (hOk : Ok T0 S0 s)
    (hT : Within 0x50000000000000000000000000000000000000000000000000000000000000020180084 T0 := by first | with_reducible assumption | exact sub_trans hT rfl) : Ok T0 S0 (State.fwOpen s) := by
  unfold State.fwOpen
  repeat' (first
    | with_reducible assumption | (exact rfl) | (exact sub_trans hT rfl) | with_reducible apply ok_set
    | with_reducible apply ok_settle | (fail_if_no_progress (with_reducible refine ok_with ?_ ..)) | dsimp only)

theorem ok_fwReboot {s : State} (hOk : Ok T0 S0 s)
    (hT : Within 0x100000 T0 := by first | with_reducible assumption | exact sub_trans hT rfl) : Ok T0 S0 (State.fwReboot s) := by
  unfold State.fwReboot
  repeat' (first
    | with_reducible assumption | (exact sub_trans hT rfl)
    | (fail_if_no_progress (with_reducible refine ok_with ?_ ..)) | dsimp only)

theorem ok_execControllerOpen {s : State} (hOk : Ok T0 S0 s)
    (hT : Within 0x50000000000000000000000000000000000000000000000000000000000000020180294 T0 := by first | with_reducible assumption | exact sub_trans hT rfl) : ∃ sNext, execControllerOpen s = .next sNext ∧ Ok T0 S0 sNext := by
  unfold execControllerOpen
  refine ⟨_, rfl, ?_⟩
  repeat' (first
    | with_reducible assumption | (exact rfl) | (exact sub_trans hT rfl) | with_reducible apply ok_bootSlot
    | with_reducible apply ok_fwFailed | with_reducible apply ok_fwOpen | with_reducible apply ok_fwReboot
    | (fail_if_no_progress (with_reducible refine ok_with ?_ ..)) | split | dsimp only)

/-! ### Collector -/

theorem fok_ringFld (r : Nat) {vfF : Fld} {pfF : Fld} (hf_vfF : vfF.calm = true) (hf_pfF : pfF.calm = true) :
    (ringFld r vfF pfF).1.calm = true := by
  first
  | exact fld_calm_full rfl
  | (unfold ringFld
     repeat' (first | assumption | rfl | split))

theorem fb_ringFld (r : Nat) {vfF : Fld} {pfF : Fld} (hT : Within 0x0 T0) (hb_vfF : Within (regBit vfF.reg) T0) (hb_pfF : Within (regBit pfF.reg) T0) :
    Within (regBit (ringFld r vfF pfF).1.reg) T0 := by
  unfold ringFld
  repeat' (first | with_reducible assumption | split | (exact sub_trans hT rfl) | dsimp only)

theorem ok_setRing {s : State} (r : Nat) (vfF : Fld) (pfF : Fld) (x : Nat) (hf_vfF : vfF.calm = true) (hf_pfF : pfF.calm = true) (hOk : Ok T0 S0 s)
    (hT : Within 0x0 T0 := by first | with_reducible assumption | exact sub_trans hT rfl)
    (hb_vfF : Within (regBit vfF.reg) T0 := by first | with_reducible assumption | exact sub_trans hT rfl)
    (hb_pfF : Within (regBit pfF.reg) T0 := by first | with_reducible assumption | exact sub_trans hT rfl) : Ok T0 S0 (State.setRing s r vfF pfF x) := by
  unfold State.setRing
  repeat' (first
    | with_reducible assumption | (exact rfl)
    | (with_reducible exact fb_ringFld _ (sub_trans hT rfl) (by first | with_reducible assumption | exact sub_trans hT rfl) (by first | with_reducible assumption | exact sub_trans hT rfl))
    | (exact sub_trans hT rfl) | (exact fok_ringFld _ (by first | assumption | rfl) (by first | assumption | rfl))
    | with_reducible apply ok_set | dsimp only)

theorem ok_setStaged {s : State} (source : Nat) (e : Staged) (hOk : Ok T0 S0 s)
    (hT : Within 0x8 T0 := by first | with_reducible assumption | exact sub_trans hT rfl) : Ok T0 S0 (State.setStaged s source e) := by
  unfold State.setStaged
  repeat' (first
    | with_reducible assumption | (exact sub_trans hT rfl)
    | (fail_if_no_progress (with_reducible refine ok_with ?_ ..)) | dsimp only)

theorem ok_setRingSt {s : State} (r : Nat) (x : RingSt) (hOk : Ok T0 S0 s)
    (hT : Within 0x8 T0 := by first | with_reducible assumption | exact sub_trans hT rfl) : Ok T0 S0 (State.setRingSt s r x) := by
  unfold State.setRingSt
  repeat' (first
    | with_reducible assumption | (exact sub_trans hT rfl)
    | (fail_if_no_progress (with_reducible refine ok_with ?_ ..)) | dsimp only)

theorem ok_execCollectorEvent (source : Nat) {s : State} (hOk : Ok T0 S0 s)
    (hT : Within 0x8 T0 := by first | with_reducible assumption | exact sub_trans hT rfl) : ∃ sNext, execCollectorEvent source s = .next sNext ∧ Ok T0 S0 sNext := by
  unfold execCollectorEvent
  refine ⟨_, rfl, ?_⟩
  repeat' (first
    | with_reducible assumption | (exact rfl) | (exact sub_trans hT rfl) | with_reducible apply ok_setStaged
    | (fail_if_no_progress (with_reducible refine ok_with ?_ ..)) | split | dsimp only)

theorem ok_msgSend {s : State} (r : Nat) (vec : Nat) (hOk : Ok T0 S0 s)
    (hT : Within 0x8c T0 := by first | with_reducible assumption | exact sub_trans hT rfl) : Ok T0 S0 (State.msgSend s r vec) := by
  unfold State.msgSend
  repeat' (first
    | with_reducible assumption | (exact rfl) | (exact sub_trans hT rfl) | with_reducible apply ok_raiseVec
    | with_reducible apply ok_setRingSt | (fail_if_no_progress (with_reducible refine ok_with ?_ ..)) | dsimp only)

theorem ok_ringMessage {s : State} (r : Nat) (vec : Nat) (hOk : Ok T0 S0 s)
    (hT : Within 0x8c T0 := by first | with_reducible assumption | exact sub_trans hT rfl) : Ok T0 S0 (State.ringMessage s r vec) := by
  unfold State.ringMessage
  repeat' (first
    | with_reducible assumption | (exact rfl) | (exact sub_trans hT rfl) | with_reducible apply ok_setRingSt
    | with_reducible apply ok_msgSend | (fail_if_no_progress (with_reducible refine ok_with ?_ ..)) | split
    | dsimp only)

theorem ok_writeRecord {s : State} (src : Nat) (hOk : Ok T0 S0 s)
    (hT : Within 0x300000000000000000000000000000000000000000008c T0 := by first | with_reducible assumption | exact sub_trans hT rfl) : Ok T0 S0 (State.writeRecord s src) := by
  unfold State.writeRecord
  repeat' (first
    | with_reducible assumption | (exact rfl) | (exact sub_trans hT rfl) | with_reducible apply ok_emit
    | with_reducible apply ok_setRing | with_reducible apply ok_setStaged | with_reducible apply ok_setRingSt
    | with_reducible apply ok_ringMessage | (fail_if_no_progress (with_reducible refine ok_with ?_ ..)) | split
    | dsimp only)

theorem ok_takeTurn {s : State} (src : Nat) (hOk : Ok T0 S0 s)
    (hT : Within 0x8 T0 := by first | with_reducible assumption | exact sub_trans hT rfl) : Ok T0 S0 (State.takeTurn s src) := by
  unfold State.takeTurn
  repeat' (first
    | with_reducible assumption | (exact sub_trans hT rfl)
    | (fail_if_no_progress (with_reducible refine ok_with ?_ ..)) | dsimp only)

theorem ok_execCollectorRecordWrite (ok : Bool) {s : State} (hOk : Ok T0 S0 s)
    (hT : Within 0x330000000000000000000000000000000000000000008c T0 := by first | with_reducible assumption | exact sub_trans hT rfl) : ∃ sNext, execCollectorRecordWrite ok s = .next sNext ∧ Ok T0 S0 sNext := by
  unfold execCollectorRecordWrite
  refine ⟨_, rfl, ?_⟩
  repeat' (first
    | with_reducible assumption | (exact rfl) | (exact sub_trans hT rfl) | with_reducible apply ok_setRing
    | with_reducible apply ok_writeRecord | with_reducible apply ok_takeTurn
    | (fail_if_no_progress (with_reducible refine ok_with ?_ ..)) | split | dsimp only)

theorem ok_execMsixModerationExpiry (r : Nat) (vec : Nat) {s : State} (hOk : Ok T0 S0 s)
    (hT : Within 0x8c T0 := by first | with_reducible assumption | exact sub_trans hT rfl) : ∃ sNext, execMsixModerationExpiry r vec s = .next sNext ∧ Ok T0 S0 sNext := by
  unfold execMsixModerationExpiry
  refine ⟨_, rfl, ?_⟩
  repeat' (first
    | with_reducible assumption | (exact sub_trans hT rfl) | with_reducible apply ok_msgSend | split | dsimp only)

theorem fb_ringCtlReg (r : Nat) (hT : Within 0x300000000000000000000000000000000000000000000 T0) :
    Within (regBit (ringCtlReg r).1) T0 := by
  unfold ringCtlReg
  repeat' (first | split | (exact sub_trans hT rfl) | dsimp only)

theorem ok_ringCtlWrite {s : State} (r : Nat) (v : Word) (hOk : Ok T0 S0 s)
    (hT : Within 0x3f00000000000000000000000000000000000000000008 T0 := by first | with_reducible assumption | exact sub_trans hT rfl) : Ok T0 S0 (State.ringCtlWrite s r v) := by
  unfold State.ringCtlWrite
  repeat' (first
    | with_reducible assumption | (exact rfl) | (with_reducible exact fb_ringCtlReg _ (sub_trans hT rfl))
    | (exact sub_trans hT rfl) | with_reducible apply ok_plainWrite | with_reducible apply ok_setRing
    | with_reducible apply ok_setRingSt | (fail_if_no_progress (with_reducible refine ok_with ?_ ..)) | split
    | dsimp only)

theorem ok_execRingEnable (src : Src) (r : Nat) (v : Word) {s : State} (hOk : Ok T0 S0 s)
    (hT : Within 0x3f00000000000000000000000000000000000000000008 T0 := by first | with_reducible assumption | exact sub_trans hT rfl) : ∃ sNext, execRingEnable src r v s = .next sNext ∧ Ok T0 S0 sNext := by
  unfold execRingEnable
  refine ⟨_, rfl, ?_⟩
  repeat' (first
    | with_reducible assumption | (with_reducible exact fb_ringCtlReg _ (sub_trans hT rfl)) | (exact sub_trans hT rfl)
    | with_reducible apply ok_ringCtlWrite | split | dsimp only)

/-! ### Bores -/

theorem ok_setGroup {s : State} (g : Nat) (x : Group) (hOk : Ok T0 S0 s)
    (hT : Within 0x40 T0 := by first | with_reducible assumption | exact sub_trans hT rfl) : Ok T0 S0 (State.setGroup s g x) := by
  unfold State.setGroup
  repeat' (first
    | with_reducible assumption | (exact sub_trans hT rfl)
    | (fail_if_no_progress (with_reducible refine ok_with ?_ ..)) | dsimp only)

theorem ok_refreshClass {s : State} (cls : Nat) (hOk : Ok T0 S0 s)
    (hT : Within 0x40 T0 := by first | with_reducible assumption | exact sub_trans hT rfl) : Ok T0 S0 (State.refreshClass s cls) := by
  unfold State.refreshClass
  repeat' (first
    | with_reducible assumption | (exact rfl) | (exact sub_trans hT rfl)
    | (fail_if_no_progress (with_reducible refine ok_with ?_ ..)) | split | dsimp only)

theorem ok_changeover {s : State} (g : Nat) (hOk : Ok T0 S0 s)
    (hT : Within 0x40 T0 := by first | with_reducible assumption | exact sub_trans hT rfl) : Ok T0 S0 (State.changeover s g) := by
  unfold State.changeover
  repeat' (first
    | with_reducible assumption | (exact rfl) | (exact sub_trans hT rfl) | with_reducible apply ok_setGroup
    | (fail_if_no_progress (with_reducible refine ok_with ?_ ..)) | split | dsimp only)

theorem ok_execTrimChangeover (g : Nat) {s : State} (hOk : Ok T0 S0 s)
    (hT : Within 0x40 T0 := by first | with_reducible assumption | exact sub_trans hT rfl) : ∃ sNext, execTrimChangeover g s = .next sNext ∧ Ok T0 S0 sNext := by
  unfold execTrimChangeover
  refine ⟨_, rfl, ?_⟩
  repeat' (first
    | with_reducible assumption | (exact sub_trans hT rfl) | with_reducible apply ok_changeover | dsimp only)

theorem ok_acqStep {s : State} (g : Nat) (bit : Nat) (hOk : Ok T0 S0 s)
    (hT : Within 0x40 T0 := by first | with_reducible assumption | exact sub_trans hT rfl) : Ok T0 S0 (State.acqStep s g bit) := by
  unfold State.acqStep
  repeat' (first
    | with_reducible assumption | (exact rfl) | (exact sub_trans hT rfl) | with_reducible apply ok_setGroup
    | (fail_if_no_progress (with_reducible refine ok_with ?_ ..)) | split | dsimp only)

theorem ok_execTrimAcqStep (g : Nat) (bit : Nat) {s : State} (hOk : Ok T0 S0 s)
    (hT : Within 0x40 T0 := by first | with_reducible assumption | exact sub_trans hT rfl) : ∃ sNext, execTrimAcqStep g bit s = .next sNext ∧ Ok T0 S0 sNext := by
  unfold execTrimAcqStep
  refine ⟨_, rfl, ?_⟩
  repeat' (first
    | with_reducible assumption | (exact sub_trans hT rfl) | with_reducible apply ok_acqStep | dsimp only)

theorem ok_acquireClass {s : State} (cls : Nat) (hOk : Ok T0 S0 s)
    (hT : Within 0x42 T0 := by first | with_reducible assumption | exact sub_trans hT rfl) : Ok T0 S0 (State.acquireClass s cls) := by
  unfold State.acquireClass
  repeat' (first
    | with_reducible assumption | (exact rfl) | (exact sub_trans hT rfl)
    | (fail_if_no_progress (with_reducible refine ok_with ?_ ..)) | split | dsimp only)

theorem ok_centre2 {s : State} (bins : List Nat) (hOk : Ok T0 S0 s)
    (hT : Within 0x2 T0 := by first | with_reducible assumption | exact sub_trans hT rfl) : Ok T0 S0 (State.centre2 s bins).2 := by
  unfold State.centre2
  repeat' (first
    | with_reducible assumption | (exact sub_trans hT rfl) | with_reducible apply ok_fresh
    | (fail_if_no_progress (with_reducible refine ok_with ?_ ..)) | split | dsimp only)

theorem ok_evaluationEnd {s : State} (g : Nat) (bins : List Nat) (hOk : Ok T0 S0 s)
    (hT : Within 0x42 T0 := by first | with_reducible assumption | exact sub_trans hT rfl) :
    Ok T0 S0 (s.evaluationEnd g bins) := by
  unfold State.evaluationEnd
  have h2 := ok_centre2 (s := s) bins hOk
  dsimp only
  generalize s.centre2 bins = z at h2
  obtain ⟨d, s1⟩ := z
  dsimp only at h2 ⊢
  repeat' (first
    | with_reducible assumption
    | exact rfl
    | (exact sub_trans hT rfl)
    | (with_reducible apply mask_full; rfl)
    | with_reducible apply ok_setGroup
    | fail_if_no_progress (with_reducible refine ok_with ?_ ..)
    | (with_reducible apply ok_foldl; intro _ _ _; beta_reduce)
    | intro _
    | split
    | dsimp only)

theorem ok_execCalEvaluationEnd (g : Nat) (bins : List Nat) {s : State} (hOk : Ok T0 S0 s)
    (hT : Within 0x42 T0 := by first | with_reducible assumption | exact sub_trans hT rfl) : ∃ sNext, execCalEvaluationEnd g bins s = .next sNext ∧ Ok T0 S0 sNext := by
  unfold execCalEvaluationEnd
  refine ⟨_, rfl, ?_⟩
  repeat' (first
    | with_reducible assumption | (exact sub_trans hT rfl) | with_reducible apply ok_evaluationEnd | dsimp only)

theorem ok_execEvalRestartAfterPause (g : Nat) {s : State} (hOk : Ok T0 S0 s)
    (hT : Within 0x40 T0 := by first | with_reducible assumption | exact sub_trans hT rfl) : ∃ sNext, execEvalRestartAfterPause g s = .next sNext ∧ Ok T0 S0 sNext := by
  unfold execEvalRestartAfterPause
  refine ⟨_, rfl, ?_⟩
  repeat' (first
    | with_reducible assumption | (exact rfl) | (exact sub_trans hT rfl) | with_reducible apply ok_setGroup
    | (fail_if_no_progress (with_reducible refine ok_with ?_ ..)) | split | dsimp only)

theorem ok_pauseGroup {s : State} (g : Nat) (hOk : Ok T0 S0 s)
    (hT : Within 0x40 T0 := by first | with_reducible assumption | exact sub_trans hT rfl) : Ok T0 S0 (State.pauseGroup s g) := by
  unfold State.pauseGroup
  repeat' (first
    | with_reducible assumption | (exact rfl) | (exact sub_trans hT rfl) | with_reducible apply ok_setGroup
    | (fail_if_no_progress (with_reducible refine ok_with ?_ ..)) | dsimp only)

theorem ok_unpauseGroup {s : State} (g : Nat) (hOk : Ok T0 S0 s)
    (hT : Within 0x40 T0 := by first | with_reducible assumption | exact sub_trans hT rfl) : Ok T0 S0 (State.unpauseGroup s g) := by
  unfold State.unpauseGroup
  repeat' (first
    | with_reducible assumption | (exact rfl) | (exact sub_trans hT rfl) | with_reducible apply ok_setGroup
    | (fail_if_no_progress (with_reducible refine ok_with ?_ ..)) | dsimp only)

theorem ok_waitEvals {s : State} (classes : List Nat) (hOk : Ok T0 S0 s)
    (hT : Within 0x40 T0 := by first | with_reducible assumption | exact sub_trans hT rfl) : Ok T0 S0 (State.waitEvals s classes) := by
  unfold State.waitEvals
  repeat' (first
    | with_reducible assumption | (exact sub_trans hT rfl)
    | (fail_if_no_progress (with_reducible refine ok_with ?_ ..))
    | (with_reducible apply ok_foldl; intro _ _ _; beta_reduce) | (intro _) | split | dsimp only)

theorem ok_setBackground {s : State} (g : Nat) (v : Nat) (hOk : Ok T0 S0 s)
    (hT : Within 0x40 T0 := by first | with_reducible assumption | exact sub_trans hT rfl) : Ok T0 S0 (State.setBackground s g v) := by
  unfold State.setBackground
  repeat' (first
    | with_reducible assumption | (exact rfl) | (exact sub_trans hT rfl) | with_reducible apply ok_setGroup
    | (fail_if_no_progress (with_reducible refine ok_with ?_ ..)) | dsimp only)

theorem ok_setUserOfs {s : State} (g : Nat) (v : Nat) (hOk : Ok T0 S0 s)
    (hT : Within 0x40 T0 := by first | with_reducible assumption | exact sub_trans hT rfl) : Ok T0 S0 (State.setUserOfs s g v) := by
  unfold State.setUserOfs
  repeat' (first
    | with_reducible assumption | (exact rfl) | (exact sub_trans hT rfl) | with_reducible apply ok_setGroup
    | (fail_if_no_progress (with_reducible refine ok_with ?_ ..)) | dsimp only)

theorem ok_trimWrite {s : State} (src : Src) (v : Word) (hOk : Ok T0 S0 s)
    (hT : Within 0x40 T0 := by first | with_reducible assumption | exact sub_trans hT rfl) : Ok T0 S0 (State.trimWrite s src v) := by
  unfold State.trimWrite
  repeat' (first
    | with_reducible assumption | (exact rfl) | (exact sub_trans hT rfl) | with_reducible apply ok_setGroup
    | with_reducible apply ok_setBackground | with_reducible apply ok_setUserOfs
    | (fail_if_no_progress (with_reducible refine ok_with ?_ ..)) | split | dsimp only)

theorem ok_execCalBoreTrimWrite (src : Src) (v : Word) {s : State} (hOk : Ok T0 S0 s)
    (hT : Within 0x40 T0 := by first | with_reducible assumption | exact sub_trans hT rfl) : ∃ sNext, execCalBoreTrimWrite src v s = .next sNext ∧ Ok T0 S0 sNext := by
  unfold execCalBoreTrimWrite
  refine ⟨_, rfl, ?_⟩
  repeat' (first
    | with_reducible assumption | (exact sub_trans hT rfl) | with_reducible apply ok_trimWrite | split | dsimp only)

theorem ok_bandChangeTrims {s : State} (c : Nat) (hOk : Ok T0 S0 s)
    (hT : Within 0x40 T0 := by first | with_reducible assumption | exact sub_trans hT rfl) : Ok T0 S0 (State.bandChangeTrims s c) := by
  unfold State.bandChangeTrims
  repeat' (first
    | with_reducible assumption | (exact sub_trans hT rfl)
    | (fail_if_no_progress (with_reducible refine ok_with ?_ ..)) | split | dsimp only)

theorem ok_reclampTrims {s : State} (hOk : Ok T0 S0 s)
    (hT : Within 0x40 T0 := by first | with_reducible assumption | exact sub_trans hT rfl) : Ok T0 S0 (State.reclampTrims s) := by
  unfold State.reclampTrims
  repeat' (first
    | with_reducible assumption | (exact sub_trans hT rfl)
    | (fail_if_no_progress (with_reducible refine ok_with ?_ ..)) | dsimp only)

/-! ### Spoil -/

theorem ok_repairEvent {s : State} (bit : Nat) (severity : Nat) (id : Nat) (hOk : Ok T0 S0 s)
    (hT : Within 0x9c T0 := by first | with_reducible assumption | exact sub_trans hT rfl) : Ok T0 S0 (State.repairEvent s bit severity id) := by
  unfold State.repairEvent
  repeat' (first
    | with_reducible assumption | (exact sub_trans hT rfl) | with_reducible apply ok_raise
    | with_reducible apply ok_wlog | with_reducible apply ok_raiseVec | dsimp only)

theorem ok_spoilAdd {s : State} (type : Nat) (sub : Nat) (id : Nat) (hOk : Ok T0 S0 s)
    (hT : Within 0x29c T0 := by first | with_reducible assumption | exact sub_trans hT rfl) : Ok T0 S0 (State.spoilAdd s type sub id) := by
  unfold State.spoilAdd
  repeat' (first
    | with_reducible assumption | (exact rfl) | (exact sub_trans hT rfl) | with_reducible apply ok_repairEvent
    | (fail_if_no_progress (with_reducible refine ok_with ?_ ..)) | split | dsimp only)

end Sys2Proof.Machine
end

