-- ==== Sys2Proof/Laws/KeepBench.lean ====
section
/-!
SUPPORT. The queue and the register file are kept (Laws/Keep.lean) by what benches do: tenancy, planes, fabric, switching, hoppers, context slots, memory, loads: one lemma for each
operation and each command.
-/

set_option Elab.async false
set_option linter.unusedTactic false
set_option linter.unusedVariables false
set_option linter.unreachableTactic false

namespace Sys2Proof.Machine

variable {T0 : Nat} {S0 : State}

/-! ### Tenancy -/

theorem ok_assignWrite {s : State} (b : Nat) (v : Word) (hOk : Ok T0 S0 s)
    (hT : Within 0x80000000000000000000000000000000000008 T0 := by first | with_reducible assumption | exact sub_trans hT rfl) : Ok T0 S0 (State.assignWrite s b v) := by
  unfold State.assignWrite
  repeat' (first
    | with_reducible assumption | (exact rfl) | (exact sub_trans hT rfl) | with_reducible apply ok_w1cWrite
    | with_reducible apply ok_set | (fail_if_no_progress (with_reducible refine ok_with ?_ ..)) | split | dsimp only)

theorem ok_execBenchAssignWrite (src : Src) (b : Nat) (v : Word) {s : State} (hOk : Ok T0 S0 s)
    (hT : Within 0x80000000000000000000000000000000000008 T0 := by first | with_reducible assumption | exact sub_trans hT rfl) : ∃ sNext, execBenchAssignWrite src b v s = .next sNext ∧ Ok T0 S0 sNext := by
  unfold execBenchAssignWrite
  refine ⟨_, rfl, ?_⟩
  repeat' (first
    | with_reducible assumption | (exact sub_trans hT rfl) | with_reducible apply ok_assignWrite | split | dsimp only)

theorem ok_fnTake {s : State} (b : Nat) (fn : Nat) (hOk : Ok T0 S0 s)
    (hT : Within 0x80000000000000000000000000000000000008 T0 := by first | with_reducible assumption | exact sub_trans hT rfl) : Ok T0 S0 (State.fnTake s b fn) := by
  unfold State.fnTake
  repeat' (first
    | with_reducible assumption | (exact rfl) | (exact sub_trans hT rfl) | with_reducible apply ok_set
    | (fail_if_no_progress (with_reducible refine ok_with ?_ ..)) | dsimp only)

theorem ok_fnEffect {s : State} (b : Nat) (hOk : Ok T0 S0 s)
    (hT : Within 0x300000008000000000000000000000000000000000008c T0 := by first | with_reducible assumption | exact sub_trans hT rfl) : Ok T0 S0 (State.fnEffect s b) := by
  unfold State.fnEffect
  repeat' (first
    | with_reducible assumption | (exact rfl) | (exact sub_trans hT rfl) | with_reducible apply ok_set
    | with_reducible apply ok_setStaged | with_reducible apply ok_writeRecord | with_reducible apply ok_takeTurn
    | with_reducible apply ok_fnTake | (fail_if_no_progress (with_reducible refine ok_with ?_ ..)) | split
    | dsimp only)

theorem ok_execFnChangeEffect (b : Nat) {s : State} (hOk : Ok T0 S0 s)
    (hT : Within 0x300000008000000000000000000000000000000000008c T0 := by first | with_reducible assumption | exact sub_trans hT rfl) : ∃ sNext, execFnChangeEffect b s = .next sNext ∧ Ok T0 S0 sNext := by
  unfold execFnChangeEffect
  refine ⟨_, rfl, ?_⟩
  repeat' (first
    | with_reducible assumption | (exact sub_trans hT rfl) | with_reducible apply ok_fnEffect | dsimp only)

theorem ok_gangRefuse {s : State} (c : Nat) (reason : Nat) (hOk : Ok T0 S0 s)
    (hT : Within 0x200000000000000000000000000000000000000 T0 := by first | with_reducible assumption | exact sub_trans hT rfl) : Ok T0 S0 (State.gangRefuse s c reason) := by
  unfold State.gangRefuse
  repeat' (first
    | with_reducible assumption | (exact rfl) | (exact sub_trans hT rfl) | with_reducible apply ok_set | dsimp only)

theorem ok_gangStat {s : State} (m : Nat) (pos : Nat) (wM1 : Nat) (hM1 : Nat) (hOk : Ok T0 S0 s)
    (hT : Within 0x100000000000000000000000000000000000000 T0 := by first | with_reducible assumption | exact sub_trans hT rfl) : Ok T0 S0 (State.gangStat s m pos wM1 hM1) := by
  unfold State.gangStat
  repeat' (first
    | with_reducible assumption | (exact rfl) | (exact sub_trans hT rfl) | with_reducible apply ok_set | dsimp only)

theorem ok_gangForm {s : State} (c : Nat) (pos : Nat) (wM1 : Nat) (hM1 : Nat) (hOk : Ok T0 S0 s)
    (hT : Within 0x100000000000000000000000000000000000100 T0 := by first | with_reducible assumption | exact sub_trans hT rfl) : Ok T0 S0 (State.gangForm s c pos wM1 hM1) := by
  unfold State.gangForm
  repeat' (first
    | with_reducible assumption | (exact sub_trans hT rfl) | with_reducible apply ok_gangStat
    | (fail_if_no_progress (with_reducible refine ok_with ?_ ..))
    | (with_reducible apply ok_foldl; intro _ _ _; beta_reduce) | (intro _) | dsimp only)

theorem ok_gangDissolve {s : State} (l : Nat) (hOk : Ok T0 S0 s)
    (hT : Within 0x100000000000000000000000000000000000100 T0 := by first | with_reducible assumption | exact sub_trans hT rfl) : Ok T0 S0 (State.gangDissolve s l) := by
  unfold State.gangDissolve
  repeat' (first
    | with_reducible assumption | (exact rfl) | (exact sub_trans hT rfl)
    | (with_reducible show _ &&& ~~~(fieldMask _) = _; exact mask_full _ rfl) | with_reducible apply ok_setReg
    | (fail_if_no_progress (with_reducible refine ok_with ?_ ..))
    | (with_reducible apply ok_foldl; intro _ _ _; beta_reduce) | (intro _) | dsimp only)

theorem ok_gangCmdWrite {s : State} (c : Nat) (v : Word) (hOk : Ok T0 S0 s)
    (hT : Within 0x300000000000000000000000000000000000100 T0 := by first | with_reducible assumption | exact sub_trans hT rfl) : Ok T0 S0 (State.gangCmdWrite s c v) := by
  unfold State.gangCmdWrite
  repeat' (first
    | with_reducible assumption | (exact rfl) | (exact sub_trans hT rfl) | with_reducible apply ok_plainWrite
    | with_reducible apply ok_gangRefuse | with_reducible apply ok_gangForm | with_reducible apply ok_gangDissolve
    | split | dsimp only)

theorem ok_execGangForm (src : Src) (c : Nat) (v : Word) {s : State} (hOk : Ok T0 S0 s)
    (hT : Within 0x300000000000000000000000000000000000100 T0 := by first | with_reducible assumption | exact sub_trans hT rfl) : ∃ sNext, execGangForm src c v s = .next sNext ∧ Ok T0 S0 sNext := by
  unfold execGangForm
  refine ⟨_, rfl, ?_⟩
  repeat' (first
    | with_reducible assumption | (exact sub_trans hT rfl) | with_reducible apply ok_gangCmdWrite | split | dsimp only)

theorem ok_execGangDissolve (src : Src) (c : Nat) (v : Word) {s : State} (hOk : Ok T0 S0 s)
    (hT : Within 0x300000000000000000000000000000000000100 T0 := by first | with_reducible assumption | exact sub_trans hT rfl) : ∃ sNext, execGangDissolve src c v s = .next sNext ∧ Ok T0 S0 sNext := by
  unfold execGangDissolve
  refine ⟨_, rfl, ?_⟩
  repeat' (first
    | with_reducible assumption | (exact sub_trans hT rfl) | with_reducible apply ok_gangCmdWrite | split | dsimp only)

theorem ok_copyClk0 {s : State} (l : Nat) (m : Nat) (hOk : Ok T0 S0 s)
    (hT : Within 0x800000000000000000000000000000 T0 := by first | with_reducible assumption | exact sub_trans hT rfl) : Ok T0 S0 (State.copyClk0 s l m) := by
  unfold State.copyClk0
  repeat' (first
    | with_reducible assumption | (exact rfl) | (exact sub_trans hT rfl) | with_reducible apply ok_set
    | (with_reducible apply ok_foldl; intro _ _ _; beta_reduce) | (intro _) | dsimp only)

theorem ok_gangFormDone {s : State} (l : Nat) (hOk : Ok T0 S0 s)
    (hT : Within 0x800000000000000000000000000100 T0 := by first | with_reducible assumption | exact sub_trans hT rfl) : Ok T0 S0 (State.gangFormDone s l) := by
  unfold State.gangFormDone
  repeat' (first
    | with_reducible assumption | (exact sub_trans hT rfl) | with_reducible apply ok_copyClk0
    | (fail_if_no_progress (with_reducible refine ok_with ?_ ..))
    | (with_reducible apply ok_foldl; intro _ _ _; beta_reduce) | (intro _) | split | dsimp only)

theorem ok_execGangFormDone (l : Nat) {s : State} (hOk : Ok T0 S0 s)
    (hT : Within 0x800000000000000000000000000100 T0 := by first | with_reducible assumption | exact sub_trans hT rfl) : ∃ sNext, execGangFormDone l s = .next sNext ∧ Ok T0 S0 sNext := by
  unfold execGangFormDone
  refine ⟨_, rfl, ?_⟩
  repeat' (first
    | with_reducible assumption | (exact sub_trans hT rfl) | with_reducible apply ok_gangFormDone | dsimp only)

theorem ok_mfenceWrite {s : State} (i : Nat) (v : Word) (hOk : Ok T0 S0 s)
    (hT : Within 0x20400000000000000000000000000000000000000 T0 := by first | with_reducible assumption | exact sub_trans hT rfl) : Ok T0 S0 (State.mfenceWrite s i v) := by
  unfold State.mfenceWrite
  repeat' (first
    | with_reducible assumption | (exact rfl) | (exact sub_trans hT rfl) | with_reducible apply ok_plainWrite
    | with_reducible apply ok_set | split | dsimp only)

theorem ok_execMfenceWrite (src : Src) (b : Nat) (p : Nat) (k : Nat) (v : Word) {s : State} (hOk : Ok T0 S0 s)
    (hT : Within 0x20400000000000000000000000000000000000000 T0 := by first | with_reducible assumption | exact sub_trans hT rfl) : ∃ sNext, execMfenceWrite src b p k v s = .next sNext ∧ Ok T0 S0 sNext := by
  unfold execMfenceWrite
  refine ⟨_, rfl, ?_⟩
  repeat' (first
    | with_reducible assumption | (exact sub_trans hT rfl) | with_reducible apply ok_mfenceWrite | split | dsimp only)

theorem ok_hwinWrite {s : State} (j : Nat) (hi : Word) (hOk : Ok T0 S0 s)
    (hT : Within 0x21000000000000000000000000000000000000100 T0 := by first | with_reducible assumption | exact sub_trans hT rfl) : Ok T0 S0 (State.hwinWrite s j hi) := by
  unfold State.hwinWrite
  repeat' (first
    | with_reducible assumption | (exact rfl) | (exact sub_trans hT rfl) | with_reducible apply ok_plainWrite
    | with_reducible apply ok_set | (fail_if_no_progress (with_reducible refine ok_with ?_ ..)) | split | dsimp only)

theorem ok_execHwinWrite (src : Src) (b : Nat) (i : Nat) (v : Word) {s : State} (hOk : Ok T0 S0 s)
    (hT : Within 0x21000000000000000000000000000000000000100 T0 := by first | with_reducible assumption | exact sub_trans hT rfl) : ∃ sNext, execHwinWrite src b i v s = .next sNext ∧ Ok T0 S0 sNext := by
  unfold execHwinWrite
  refine ⟨_, rfl, ?_⟩
  repeat' (first
    | with_reducible assumption | (exact sub_trans hT rfl) | with_reducible apply ok_hwinWrite | split | dsimp only)

theorem fb_laneMaskReg (rx : Bool) (hi : Bool) (hT : Within 0x1e000000000000000000000000000000000000000 T0) :
    Within (regBit (laneMaskReg rx hi)) T0 := by
  unfold laneMaskReg
  repeat' (first | split | (exact sub_trans hT rfl) | dsimp only)

theorem ok_laneMaskWrite {s : State} (b : Nat) (rx : Bool) (hi : Bool) (v : Word) (hOk : Ok T0 S0 s)
    (hT : Within 0x3e000000000000000000000000000000000000000 T0 := by first | with_reducible assumption | exact sub_trans hT rfl) : Ok T0 S0 (State.laneMaskWrite s b rx hi v) := by
  unfold State.laneMaskWrite
  repeat' (first
    | with_reducible assumption | (exact rfl) | (with_reducible exact fb_laneMaskReg _ _ (sub_trans hT rfl))
    | (exact sub_trans hT rfl) | with_reducible apply ok_plainWrite | with_reducible apply ok_set | split | dsimp only)

theorem ok_execLaneFenceWrite (src : Src) (b : Nat) (rx : Bool) (hi : Bool) (v : Word) {s : State} (hOk : Ok T0 S0 s)
    (hT : Within 0x3e000000000000000000000000000000000000000 T0 := by first | with_reducible assumption | exact sub_trans hT rfl) : ∃ sNext, execLaneFenceWrite src b rx hi v s = .next sNext ∧ Ok T0 S0 sNext := by
  unfold execLaneFenceWrite
  refine ⟨_, rfl, ?_⟩
  repeat' (first
    | with_reducible assumption | (with_reducible exact fb_laneMaskReg _ _ (sub_trans hT rfl))
    | (exact sub_trans hT rfl) | with_reducible apply ok_laneMaskWrite | split | dsimp only)

theorem ok_setWbTokens {s : State} (j : Nat) (x : Int) (hOk : Ok T0 S0 s)
    (hT : Within 0x100 T0 := by first | with_reducible assumption | exact sub_trans hT rfl) : Ok T0 S0 (State.setWbTokens s j x) := by
  unfold State.setWbTokens
  repeat' (first
    | with_reducible assumption | (exact sub_trans hT rfl)
    | (fail_if_no_progress (with_reducible refine ok_with ?_ ..)) | dsimp only)

theorem ok_wbCtlWrite {s : State} (j : Nat) (v : Word) (hOk : Ok T0 S0 s)
    (hT : Within 0x100000000000000000000000000000000000000100 T0 := by first | with_reducible assumption | exact sub_trans hT rfl) : Ok T0 S0 (State.wbCtlWrite s j v) := by
  unfold State.wbCtlWrite
  repeat' (first
    | with_reducible assumption | (exact rfl) | (exact sub_trans hT rfl) | with_reducible apply ok_set
    | with_reducible apply ok_setWbTokens | split | dsimp only)

theorem ok_execWbCtlWrite (src : Src) (b : Nat) (p : Nat) (k : Nat) (v : Word) {s : State} (hOk : Ok T0 S0 s)
    (hT : Within 0x100000000000000000000000000000000000000100 T0 := by first | with_reducible assumption | exact sub_trans hT rfl) : ∃ sNext, execWbCtlWrite src b p k v s = .next sNext ∧ Ok T0 S0 sNext := by
  unfold execWbCtlWrite
  refine ⟨_, rfl, ?_⟩
  repeat' (first
    | with_reducible assumption | (exact sub_trans hT rfl) | with_reducible apply ok_wbCtlWrite | split | dsimp only)

theorem ok_wbRefill {s : State} (j : Nat) (hOk : Ok T0 S0 s)
    (hT : Within 0x100 T0 := by first | with_reducible assumption | exact sub_trans hT rfl) : Ok T0 S0 (State.wbRefill s j) := by
  unfold State.wbRefill
  repeat' (first
    | with_reducible assumption | (exact rfl) | (exact sub_trans hT rfl) | with_reducible apply ok_setWbTokens
    | dsimp only)

theorem ok_tallySample {s : State} (b : Nat) (nj : Nat) (hOk : Ok T0 S0 s)
    (hT : Within 0x100 T0 := by first | with_reducible assumption | exact sub_trans hT rfl) : Ok T0 S0 (State.tallySample s b nj) := by
  unfold State.tallySample
  repeat' (first
    | with_reducible assumption | (exact sub_trans hT rfl)
    | (fail_if_no_progress (with_reducible refine ok_with ?_ ..)) | split | dsimp only)

theorem ok_execTallySample (b : Nat) (nj : Nat) {s : State} (hOk : Ok T0 S0 s)
    (hT : Within 0x100 T0 := by first | with_reducible assumption | exact sub_trans hT rfl) : ∃ sNext, execTallySample b nj s = .next sNext ∧ Ok T0 S0 sNext := by
  unfold execTallySample
  refine ⟨_, rfl, ?_⟩
  repeat' (first
    | with_reducible assumption | (exact sub_trans hT rfl) | with_reducible apply ok_tallySample | dsimp only)

theorem ok_pcapUpdate {s : State} (b : Nat) (hOk : Ok T0 S0 s)
    (hT : Within 0x108 T0 := by first | with_reducible assumption | exact sub_trans hT rfl) : Ok T0 S0 (State.pcapUpdate s b) := by
  unfold State.pcapUpdate
  repeat' (first
    | with_reducible assumption | (exact sub_trans hT rfl) | with_reducible apply ok_raiseBench
    | (fail_if_no_progress (with_reducible refine ok_with ?_ ..)) | split | dsimp only)

theorem ok_execPcapUpdate (b : Nat) {s : State} (hOk : Ok T0 S0 s)
    (hT : Within 0x108 T0 := by first | with_reducible assumption | exact sub_trans hT rfl) : ∃ sNext, execPcapUpdate b s = .next sNext ∧ Ok T0 S0 sNext := by
  unfold execPcapUpdate
  refine ⟨_, rfl, ?_⟩
  repeat' (first
    | with_reducible assumption | (exact sub_trans hT rfl) | with_reducible apply ok_pcapUpdate | dsimp only)

theorem ok_pcapWrite {s : State} (src : Src) (b : Nat) (v : Word) (hOk : Ok T0 S0 s)
    (hT : Within 0x2000000000000000000000000000000040000000000000000000000000000000000000030 T0 := by first | with_reducible assumption | exact sub_trans hT rfl) : Ok T0 S0 (State.pcapWrite s src b v) := by
  unfold State.pcapWrite
  repeat' (first
    | with_reducible assumption | (exact rfl) | (exact sub_trans hT rfl) | with_reducible apply ok_set
    | with_reducible apply ok_hluRefuse | split | dsimp only)

/-! ### Haul -/

theorem ok_setRouteEntry {s : State} (k : Nat) (bank : Nat) (e : Nat) (p : Nat) (hOk : Ok T0 S0 s)
    (hT : Within 0x400 T0 := by first | with_reducible assumption | exact sub_trans hT rfl) : Ok T0 S0 (State.setRouteEntry s k bank e p) := by
  unfold State.setRouteEntry
  repeat' (first
    | with_reducible assumption | (exact sub_trans hT rfl)
    | (fail_if_no_progress (with_reducible refine ok_with ?_ ..)) | dsimp only)

theorem fok_fenceFld (l : Nat) : (fenceFld l).calm = true := by
  first
  | exact fld_calm_full rfl
  | (unfold fenceFld
     repeat' (first | assumption | rfl | split))

theorem fb_fenceFld (l : Nat) (hT : Within 0x100000000000000000000000000000000000000000000000 T0) :
    Within (regBit (fenceFld l).reg) T0 := by
  unfold fenceFld
  repeat' (first | with_reducible assumption | split | (exact sub_trans hT rfl) | dsimp only)

theorem fok_probeEvt (i : Nat) : (probeEvt i).calm = true := by
  first
  | exact fld_calm_full rfl
  | (unfold probeEvt
     repeat' (first | assumption | rfl | split))

theorem fb_probeEvt (i : Nat) (hT : Within 0x40000000000000000000000000000000000000000000000000 T0) :
    Within (regBit (probeEvt i).reg) T0 := by
  unfold probeEvt
  repeat' (first | with_reducible assumption | split | (exact sub_trans hT rfl) | dsimp only)

theorem ok_haulPass {s : State} (ns : Nat) (hOk : Ok T0 S0 s)
    (hT : Within 0x4000000 T0 := by first | with_reducible assumption | exact sub_trans hT rfl) : Ok T0 S0 (State.haulPass s ns) := by
  unfold State.haulPass
  repeat' (first
    | with_reducible assumption | (exact sub_trans hT rfl)
    | (fail_if_no_progress (with_reducible refine ok_with ?_ ..))
    | (with_reducible apply ok_foldl; intro _ _ _; beta_reduce) | (intro _) | dsimp only)

theorem ok_traceDrain {s : State} (ns : Nat) (hOk : Ok T0 S0 s)
    (hT : Within 0x400 T0 := by first | with_reducible assumption | exact sub_trans hT rfl) : Ok T0 S0 (State.traceDrain s ns) := by
  unfold State.traceDrain
  repeat' (first
    | with_reducible assumption | (exact sub_trans hT rfl)
    | (fail_if_no_progress (with_reducible refine ok_with ?_ ..))
    | (with_reducible apply ok_foldl; intro _ _ _; beta_reduce) | (intro _) | dsimp only)

theorem ok_traceStore {s : State} (c : Nat) (w : Nat) (hOk : Ok T0 S0 s)
    (hT : Within 0xc000000000000000000000000000000000000000000000000400 T0 := by first | with_reducible assumption | exact sub_trans hT rfl) : Ok T0 S0 (State.traceStore s c w) := by
  unfold State.traceStore
  repeat' (first
    | with_reducible assumption | (exact rfl) | (exact sub_trans hT rfl) | with_reducible apply ok_set
    | (fail_if_no_progress (with_reducible refine ok_with ?_ ..)) | split | dsimp only)

theorem ok_traceWrite {s : State} (c : Nat) (w : Nat) (hOk : Ok T0 S0 s)
    (hT : Within 0xc000000000000000000000000000000000000000000000000400 T0 := by first | with_reducible assumption | exact sub_trans hT rfl) : Ok T0 S0 (State.traceWrite s c w) := by
  unfold State.traceWrite
  repeat' (first
    | with_reducible assumption | (exact rfl) | (exact sub_trans hT rfl) | with_reducible apply ok_inc
    | with_reducible apply ok_traceStore | (fail_if_no_progress (with_reducible refine ok_with ?_ ..)) | split
    | dsimp only)

theorem ok_probeCycles {s : State} (ns : Nat) (hOk : Ok T0 S0 s)
    (hT : Within 0xc0000000000000000000000000000000000000000000000000 T0 := by first | with_reducible assumption | exact sub_trans hT rfl) : Ok T0 S0 (State.probeCycles s ns) := by
  unfold State.probeCycles
  repeat' (first
    | with_reducible assumption | (exact rfl) | (with_reducible exact fb_probeEvt _ (sub_trans hT rfl))
    | (exact sub_trans hT rfl) | (exact fok_probeEvt _) | with_reducible apply ok_incWrap
    | (with_reducible apply ok_foldl; intro _ _ _; beta_reduce) | (intro _) | split | dsimp only)

theorem ok_probe {s : State} (k : Nat) (p : Nat) (dir : Nat) (h : Nat) (head : Bool) (queued : Bool) (poison : Bool) (hOk : Ok T0 S0 s)
    (hT : Within 0xc0c0000000000000000000000000000000000000000000000400 T0 := by first | with_reducible assumption | exact sub_trans hT rfl) : Ok T0 S0 (State.probe s k p dir h head queued poison) := by
  unfold State.probe
  repeat' (first
    | with_reducible assumption | (exact rfl) | (with_reducible exact fb_probeEvt _ (sub_trans hT rfl))
    | (exact sub_trans hT rfl) | (exact fok_probeEvt _) | with_reducible apply ok_incWrap
    | with_reducible apply ok_traceWrite | (with_reducible apply ok_foldl; intro _ _ _; beta_reduce) | (intro _)
    | split | dsimp only)

theorem ok_linkBad {s : State} (k : Nat) (port : Nat) (hOk : Ok T0 S0 s)
    (hT : Within 0x40000000000000000000000000000000000000000000010 T0 := by first | with_reducible assumption | exact sub_trans hT rfl) : Ok T0 S0 (State.linkBad s k port) := by
  unfold State.linkBad
  repeat' (first
    | with_reducible assumption | (exact rfl) | (exact sub_trans hT rfl) | with_reducible apply ok_inc
    | with_reducible apply ok_wlog | dsimp only)

theorem ok_hardWire {s : State} (k : Nat) (port : Nat) (wire : Nat) (hOk : Ok T0 S0 s)
    (hT : Within 0x404 T0 := by first | with_reducible assumption | exact sub_trans hT rfl) : Ok T0 S0 (State.hardWire s k port wire) := by
  unfold State.hardWire
  repeat' (first
    | with_reducible assumption | (exact sub_trans hT rfl) | with_reducible apply ok_emit
    | (fail_if_no_progress (with_reducible refine ok_with ?_ ..)) | split | dsimp only)

theorem ok_wireFixed {s : State} (k : Nat) (port : Nat) (wire : Nat) (hOk : Ok T0 S0 s)
    (hT : Within 0x40000000000000000000000000000000000000000000404 T0 := by first | with_reducible assumption | exact sub_trans hT rfl) : Ok T0 S0 (State.wireFixed s k port wire) := by
  unfold State.wireFixed
  repeat' (first
    | with_reducible assumption | (exact rfl) | (exact sub_trans hT rfl) | with_reducible apply ok_inc
    | with_reducible apply ok_hardWire | (fail_if_no_progress (with_reducible refine ok_with ?_ ..)) | split
    | dsimp only)

theorem fok_spareFld (port : Nat) : (spareFld port).calm = true := by
  by_cases h : port < 7
  · interval_cases port <;> rfl
  · simp only [spareFld, Fld.calm, calmReg, Fld.ok, if_neg h]
    simp
    exact .inl (.inl (by decide))

theorem fb_spareFld (port : Nat) (hT : Within 0x400000000000000000000000000000000000000000000000 T0) :
    Within (regBit (spareFld port).reg) T0 := by
  unfold spareFld
  repeat' (first | with_reducible assumption | split | (exact sub_trans hT rfl) | dsimp only)

theorem ok_spareChecks {s : State} (k : Nat) (port : Nat) (w : Nat) (hOk : Ok T0 S0 s)
    (hT : Within 0x404 T0 := by first | with_reducible assumption | exact sub_trans hT rfl) : Ok T0 S0 (State.spareChecks s k port w) := by
  unfold State.spareChecks
  repeat' (first
    | with_reducible assumption | (exact sub_trans hT rfl) | with_reducible apply ok_hardWire
    | (with_reducible apply ok_foldl; intro _ _ _; beta_reduce) | (intro _) | split | dsimp only)

theorem ok_setQueue {s : State} (key : Nat) (q : List QFlit) (hOk : Ok T0 S0 s)
    (hT : Within 0x400 T0 := by first | with_reducible assumption | exact sub_trans hT rfl) : Ok T0 S0 (State.setQueue s key q) := by
  unfold State.setQueue
  repeat' (first
    | with_reducible assumption | (exact sub_trans hT rfl)
    | (fail_if_no_progress (with_reducible refine ok_with ?_ ..)) | dsimp only)

theorem ok_setOpen {s : State} (key : Nat) (x : Option OpenPkt) (hOk : Ok T0 S0 s)
    (hT : Within 0x400 T0 := by first | with_reducible assumption | exact sub_trans hT rfl) : Ok T0 S0 (State.setOpen s key x) := by
  unfold State.setOpen
  repeat' (first
    | with_reducible assumption | (exact sub_trans hT rfl)
    | (fail_if_no_progress (with_reducible refine ok_with ?_ ..)) | dsimp only)

theorem ok_setHeld {s : State} (key : Nat) (x : Option Nat) (hOk : Ok T0 S0 s)
    (hT : Within 0x400 T0 := by first | with_reducible assumption | exact sub_trans hT rfl) : Ok T0 S0 (State.setHeld s key x) := by
  unfold State.setHeld
  repeat' (first
    | with_reducible assumption | (exact sub_trans hT rfl)
    | (fail_if_no_progress (with_reducible refine ok_with ?_ ..)) | dsimp only)

theorem ok_setSpent {s : State} (key : Nat) (x : Nat) (hOk : Ok T0 S0 s)
    (hT : Within 0x400 T0 := by first | with_reducible assumption | exact sub_trans hT rfl) : Ok T0 S0 (State.setSpent s key x) := by
  unfold State.setSpent
  repeat' (first
    | with_reducible assumption | (exact sub_trans hT rfl)
    | (fail_if_no_progress (with_reducible refine ok_with ?_ ..)) | dsimp only)

theorem ok_insideAdd {s : State} (k : Nat) (epoch : Nat) (hOk : Ok T0 S0 s)
    (hT : Within 0x400 T0 := by first | with_reducible assumption | exact sub_trans hT rfl) : Ok T0 S0 (State.insideAdd s k epoch) := by
  unfold State.insideAdd
  repeat' (first
    | with_reducible assumption | (exact sub_trans hT rfl)
    | (fail_if_no_progress (with_reducible refine ok_with ?_ ..)) | dsimp only)

theorem ok_insideSub {s : State} (k : Nat) (epoch : Nat) (hOk : Ok T0 S0 s)
    (hT : Within 0x400 T0 := by first | with_reducible assumption | exact sub_trans hT rfl) : Ok T0 S0 (State.insideSub s k epoch) := by
  unfold State.insideSub
  repeat' (first
    | with_reducible assumption | (exact sub_trans hT rfl)
    | (fail_if_no_progress (with_reducible refine ok_with ?_ ..)) | dsimp only)

theorem ok_setHport {s : State} (b : Nat) (p : Nat) (x : Hport) (hOk : Ok T0 S0 s)
    (hT : Within 0x800000 T0 := by first | with_reducible assumption | exact sub_trans hT rfl) : Ok T0 S0 (State.setHport s b p x) := by
  unfold State.setHport
  repeat' (first
    | with_reducible assumption | (exact sub_trans hT rfl)
    | (fail_if_no_progress (with_reducible refine ok_with ?_ ..)) | dsimp only)

theorem ok_creditBack {s : State} (k : Nat) (port : Nat) (vc : Nat) (hOk : Ok T0 S0 s)
    (hT : Within 0x4 T0 := by first | with_reducible assumption | exact sub_trans hT rfl) : Ok T0 S0 (State.creditBack s k port vc) := by
  unfold State.creditBack
  repeat' (first
    | with_reducible assumption | (exact sub_trans hT rfl) | with_reducible apply ok_emit | split | dsimp only)

theorem ok_turn {s : State} (k : Nat) (inPort : Nat) (inVc : Nat) (out : Nat) (vc : Nat) (head : Bool) (hOk : Ok T0 S0 s)
    (hT : Within 0x400 T0 := by first | with_reducible assumption | exact sub_trans hT rfl) : Ok T0 S0 (State.turn s k inPort inVc out vc head) := by
  unfold State.turn
  repeat' (first
    | with_reducible assumption | (exact sub_trans hT rfl)
    | (fail_if_no_progress (with_reducible refine ok_with ?_ ..)) | split | dsimp only)

theorem ok_launch {s : State} (k : Nat) (inPort : Nat) (inVc : Nat) (out : Nat) (vc : Nat) (h : Nat) (f : Flit) (queued : Bool) (hOk : Ok T0 S0 s)
    (hT : Within 0xc0c0000000000000000000000000000000000000000000000404 T0 := by first | with_reducible assumption | exact sub_trans hT rfl) : Ok T0 S0 (State.launch s k inPort inVc out vc h f queued) := by
  unfold State.launch
  repeat' (first
    | with_reducible assumption | (exact rfl) | (exact sub_trans hT rfl) | with_reducible apply ok_emit
    | with_reducible apply ok_probe | with_reducible apply ok_setHeld | with_reducible apply ok_setSpent
    | with_reducible apply ok_insideSub | with_reducible apply ok_creditBack | with_reducible apply ok_turn | split
    | dsimp only)

theorem ok_synthSend {s : State} (k : Nat) (hOk : Ok T0 S0 s)
    (hT : Within 0xc0c0200000000000000000000000000000000000000000000404 T0 := by first | with_reducible assumption | exact sub_trans hT rfl) : Ok T0 S0 (State.synthSend s k) := by
  unfold State.synthSend
  repeat' (first
    | with_reducible assumption | (exact rfl) | (exact sub_trans hT rfl) | with_reducible apply ok_inc
    | with_reducible apply ok_emit | with_reducible apply ok_probe | with_reducible apply ok_setSpent
    | (fail_if_no_progress (with_reducible refine ok_with ?_ ..)) | split | dsimp only)

theorem ok_fenceTail {s : State} (k : Nat) (h : Nat) (out : Nat) (hOk : Ok T0 S0 s)
    (hT : Within 0xc0c0200000000000000000000000000000000000000000000404 T0 := by first | with_reducible assumption | exact sub_trans hT rfl) : Ok T0 S0 (State.fenceTail s k h out) := by
  unfold State.fenceTail
  repeat' (first
    | with_reducible assumption | (exact rfl) | (exact sub_trans hT rfl) | with_reducible apply ok_inc
    | with_reducible apply ok_synthSend | (fail_if_no_progress (with_reducible refine ok_with ?_ ..)) | split
    | dsimp only)

theorem ok_setSound {s : State} (k : Nat) (x : Bool) (hOk : Ok T0 S0 s)
    (hT : Within 0x400 T0 := by first | with_reducible assumption | exact sub_trans hT rfl) : Ok T0 S0 (State.setSound s k x) := by
  unfold State.setSound
  repeat' (first
    | with_reducible assumption | (exact sub_trans hT rfl)
    | (fail_if_no_progress (with_reducible refine ok_with ?_ ..)) | dsimp only)

theorem ok_rtrCtlWrite {s : State} (k : Nat) (v : Word) (hOk : Ok T0 S0 s)
    (hT : Within 0x30000000000000000000000000000000000000000000400 T0 := by first | with_reducible assumption | exact sub_trans hT rfl) : Ok T0 S0 (State.rtrCtlWrite s k v) := by
  unfold State.rtrCtlWrite
  repeat' (first
    | with_reducible assumption | (exact rfl) | (exact sub_trans hT rfl) | with_reducible apply ok_plainWrite
    | with_reducible apply ok_set | with_reducible apply ok_setSound | split | dsimp only)

theorem ok_bypassFault {s : State} (k : Nat) (hOk : Ok T0 S0 s)
    (hT : Within 0x20000000000000000000000000000000000000000000494 T0 := by first | with_reducible assumption | exact sub_trans hT rfl) : Ok T0 S0 (State.bypassFault s k) := by
  unfold State.bypassFault
  repeat' (first
    | with_reducible assumption | (exact rfl) | (exact sub_trans hT rfl) | with_reducible apply ok_set
    | with_reducible apply ok_wlog | with_reducible apply ok_raiseVec | with_reducible apply ok_setSound | dsimp only)

theorem ok_moveFlit {s : State} (k : Nat) (port : Nat) (vc : Nat) (out : Nat) (ovc : Nat) (h : Nat) (f : Flit) (agree : Bool) (hOk : Ok T0 S0 s)
    (hT : Within 0xc0c0000000000000000000000000000000000000000000000404 T0 := by first | with_reducible assumption | exact sub_trans hT rfl) : Ok T0 S0 (State.moveFlit s k port vc out ovc h f agree) := by
  unfold State.moveFlit
  repeat' (first
    | with_reducible assumption | (exact rfl) | (exact sub_trans hT rfl) | with_reducible apply ok_setQueue
    | with_reducible apply ok_launch | split | dsimp only)

theorem ok_flitIn {s : State} (k : Nat) (port : Nat) (vc : Nat) (p : OpenPkt) (f : Flit) (agree : Bool) (hOk : Ok T0 S0 s)
    (hT : Within 0xc0c0200000000000000000000000000000000000000000000404 T0 := by first | with_reducible assumption | exact sub_trans hT rfl) : Ok T0 S0 (State.flitIn s k port vc p f agree) := by
  unfold State.flitIn
  repeat' (first
    | with_reducible assumption | (exact rfl) | (exact sub_trans hT rfl) | with_reducible apply ok_setOpen
    | with_reducible apply ok_insideSub | with_reducible apply ok_creditBack | with_reducible apply ok_fenceTail
    | with_reducible apply ok_moveFlit | (fail_if_no_progress (with_reducible refine ok_with ?_ ..)) | split
    | dsimp only)

theorem ok_headIn {s : State} (k : Nat) (port : Nat) (vc : Nat) (la : Nat) (f : Flit) (bad0 : Bool) (bad1 : Bool) (hOk : Ok T0 S0 s)
    (hT : Within 0xc0c0220000000000000000000000000000000000000000000494 T0 := by first | with_reducible assumption | exact sub_trans hT rfl) : Ok T0 S0 (State.headIn s k port vc la f bad0 bad1) := by
  unfold State.headIn
  repeat' (first
    | with_reducible assumption | (exact rfl) | (exact sub_trans hT rfl) | with_reducible apply ok_probe
    | with_reducible apply ok_setOpen | with_reducible apply ok_insideAdd | with_reducible apply ok_bypassFault
    | with_reducible apply ok_flitIn | (fail_if_no_progress (with_reducible refine ok_with ?_ ..)) | split
    | dsimp only)

theorem ok_bodyIn {s : State} (k : Nat) (port : Nat) (vc : Nat) (f : Flit) (hOk : Ok T0 S0 s)
    (hT : Within 0xc0c0200000000000000000000000000000000000000000000404 T0 := by first | with_reducible assumption | exact sub_trans hT rfl) : Ok T0 S0 (State.bodyIn s k port vc f) := by
  unfold State.bodyIn
  repeat' (first
    | with_reducible assumption | (exact sub_trans hT rfl) | with_reducible apply ok_probe
    | with_reducible apply ok_creditBack | with_reducible apply ok_flitIn
    | (fail_if_no_progress (with_reducible refine ok_with ?_ ..)) | split | dsimp only)

theorem ok_creditIn {s : State} (k : Nat) (port : Nat) (side : Nat) (hOk : Ok T0 S0 s)
    (hT : Within 0x400 T0 := by first | with_reducible assumption | exact sub_trans hT rfl) : Ok T0 S0 (State.creditIn s k port side) := by
  unfold State.creditIn
  repeat' (first
    | with_reducible assumption | (exact rfl) | (exact sub_trans hT rfl) | with_reducible apply ok_setSpent | split
    | dsimp only)

theorem ok_wordIn {s : State} (k : Nat) (port : Nat) (l : LinkIn) (hOk : Ok T0 S0 s)
    (hT : Within 0xc0c0260000000000000000000000000000000000000000000494 T0 := by first | with_reducible assumption | exact sub_trans hT rfl) : Ok T0 S0 (State.wordIn s k port l) := by
  unfold State.wordIn
  repeat' (first
    | with_reducible assumption | (exact rfl) | (exact sub_trans hT rfl) | with_reducible apply ok_linkBad
    | with_reducible apply ok_headIn | with_reducible apply ok_bodyIn
    | (with_reducible apply ok_foldl; intro _ _ _; beta_reduce) | (intro _) | split | dsimp only)

theorem ok_setBridge {s : State} (key : Nat) (l : List Nat) (hOk : Ok T0 S0 s)
    (hT : Within 0x400 T0 := by first | with_reducible assumption | exact sub_trans hT rfl) : Ok T0 S0 (State.setBridge s key l) := by
  unfold State.setBridge
  repeat' (first
    | with_reducible assumption | (exact sub_trans hT rfl)
    | (fail_if_no_progress (with_reducible refine ok_with ?_ ..)) | dsimp only)

theorem ok_bridgeStep {s : State} (k : Nat) (port : Nat) (vc : Nat) (hOk : Ok T0 S0 s)
    (hT : Within 0xc0c0260000000000000000000000000000000000000000000494 T0 := by first | with_reducible assumption | exact sub_trans hT rfl) : Ok T0 S0 (State.bridgeStep s k port vc) := by
  unfold State.bridgeStep
  repeat' (first
    | with_reducible assumption | (exact rfl) | (exact sub_trans hT rfl) | with_reducible apply ok_emit
    | with_reducible apply ok_wordIn | with_reducible apply ok_setBridge
    | (fail_if_no_progress (with_reducible refine ok_with ?_ ..)) | split | dsimp only)

theorem ok_bridgeMove {s : State} (k : Nat) (hOk : Ok T0 S0 s)
    (hT : Within 0xc0c0260000000000000000000000000000000000000000000494 T0 := by first | with_reducible assumption | exact sub_trans hT rfl) : Ok T0 S0 (State.bridgeMove s k) := by
  unfold State.bridgeMove
  repeat' (first
    | with_reducible assumption | (exact sub_trans hT rfl) | with_reducible apply ok_bridgeStep
    | (with_reducible apply ok_foldl; intro _ _ _; beta_reduce) | (intro _) | split | dsimp only)

theorem ok_substTail {s : State} (k : Nat) (port : Nat) (vc : Nat) (hOk : Ok T0 S0 s)
    (hT : Within 0xc0c0200000000000000000000000000000000000000000000404 T0 := by first | with_reducible assumption | exact sub_trans hT rfl) : Ok T0 S0 (State.substTail s k port vc) := by
  unfold State.substTail
  repeat' (first
    | with_reducible assumption | (exact rfl) | (exact sub_trans hT rfl) | with_reducible apply ok_flitIn
    | with_reducible apply ok_setBridge | (fail_if_no_progress (with_reducible refine ok_with ?_ ..)) | split
    | dsimp only)

theorem ok_badSideband {s : State} (k : Nat) (port : Nat) (hOk : Ok T0 S0 s)
    (hT : Within 0xc0c0240000000000000000000000000000000000000000000414 T0 := by first | with_reducible assumption | exact sub_trans hT rfl) : Ok T0 S0 (State.badSideband s k port) := by
  unfold State.badSideband
  repeat' (first
    | with_reducible assumption | (exact sub_trans hT rfl) | with_reducible apply ok_emit
    | with_reducible apply ok_linkBad | with_reducible apply ok_substTail
    | (fail_if_no_progress (with_reducible refine ok_with ?_ ..))
    | (with_reducible apply ok_foldl; intro _ _ _; beta_reduce) | (intro _) | dsimp only)

theorem ok_setInj {s : State} (e : Nat) (l : List InjPkt) (hOk : Ok T0 S0 s)
    (hT : Within 0x400 T0 := by first | with_reducible assumption | exact sub_trans hT rfl) : Ok T0 S0 (State.setInj s e l) := by
  unfold State.setInj
  repeat' (first
    | with_reducible assumption | (exact sub_trans hT rfl)
    | (fail_if_no_progress (with_reducible refine ok_with ?_ ..)) | dsimp only)

theorem ok_setEpSpent {s : State} (key : Nat) (x : Nat) (hOk : Ok T0 S0 s)
    (hT : Within 0x400 T0 := by first | with_reducible assumption | exact sub_trans hT rfl) : Ok T0 S0 (State.setEpSpent s key x) := by
  unfold State.setEpSpent
  repeat' (first
    | with_reducible assumption | (exact sub_trans hT rfl)
    | (fail_if_no_progress (with_reducible refine ok_with ?_ ..)) | dsimp only)

theorem ok_injFlit {s : State} (k : Nat) (l : Nat) (p : InjPkt) (hOk : Ok T0 S0 s)
    (hT : Within 0x404 T0 := by first | with_reducible assumption | exact sub_trans hT rfl) : Ok T0 S0 (State.injFlit s k l p).2 := by
  unfold State.injFlit
  repeat' (first
    | with_reducible assumption | (exact rfl) | (exact sub_trans hT rfl) | with_reducible apply ok_emit
    | with_reducible apply ok_setEpSpent | with_reducible apply ok_inject
    | (fail_if_no_progress (with_reducible refine ok_with ?_ ..)) | split | dsimp only)

theorem ok_injRun {s : State} (k l fuel : Nat) (p : InjPkt) (hOk : Ok T0 S0 s)
    (hT : Within 0x404 T0 := by first | with_reducible assumption | exact sub_trans hT rfl) :
    Ok T0 S0 (s.injRun k l fuel p).2 := by
  induction fuel generalizing s p with
  | zero => exact hOk
  | succ fuel ih =>
    unfold State.injRun
    split
    · have h := ok_injFlit k l p hOk
      generalize s.injFlit k l p = z at h
      obtain ⟨o, s1⟩ := z
      cases o with
      | none => exact h
      | some q => exact ih q h
    · exact hOk

theorem ok_injMove {s : State} (k l : Nat) (hOk : Ok T0 S0 s)
    (hT : Within 0x404 T0 := by first | with_reducible assumption | exact sub_trans hT rfl) : Ok T0 S0 (s.injMove k l) := by
  unfold State.injMove
  refine ok_setInj _ _ (ok_foldl_snd (fun a p h => ?_) hOk)
  split
  · exact h
  · have h2 := ok_injRun k l 66 p h
    generalize State.injRun _ k l 66 p = z at h2
    obtain ⟨o, s1⟩ := z
    cases o <;> exact h2

theorem ok_inject {s : State} (id : Nat) (h : Nat) (data : List (Nat × Bool)) (hOk : Ok T0 S0 s)
    (hT : Within 0x404 T0 := by first | with_reducible assumption | exact sub_trans hT rfl) : Ok T0 S0 (State.inject s id h data) := by
  unfold State.inject
  repeat' (first
    | with_reducible assumption | (exact rfl) | (exact sub_trans hT rfl) | with_reducible apply ok_setInj
    | with_reducible apply ok_injMove | dsimp only)

theorem ok_headArrives {s : State} (k : Nat) (l : Nat) (x : LinkIn) (hOk : Ok T0 S0 s)
    (hT : Within 0x800000 T0 := by first | with_reducible assumption | exact sub_trans hT rfl) : Ok T0 S0 (State.headArrives s k l x) := by
  unfold State.headArrives
  repeat' (first
    | with_reducible assumption | (exact rfl) | (exact sub_trans hT rfl) | with_reducible apply ok_setHport
    | (fail_if_no_progress (with_reducible refine ok_with ?_ ..)) | split | dsimp only)

theorem ok_endPointIn {s : State} (k : Nat) (l : Nat) (x : LinkIn) (hOk : Ok T0 S0 s)
    (hT : Within 0x40000000000000000000000000000000000000000800414 T0 := by first | with_reducible assumption | exact sub_trans hT rfl) : Ok T0 S0 (State.endPointIn s k l x) := by
  unfold State.endPointIn
  repeat' (first
    | with_reducible assumption | (exact rfl) | (exact sub_trans hT rfl) | with_reducible apply ok_emit
    | with_reducible apply ok_linkBad | with_reducible apply ok_setEpSpent | with_reducible apply ok_injMove
    | with_reducible apply ok_inject | with_reducible apply ok_headArrives
    | (fail_if_no_progress (with_reducible refine ok_with ?_ ..))
    | (with_reducible apply ok_foldl; intro _ _ _; beta_reduce) | (intro _) | split | dsimp only)

theorem ok_flitArrival {s : State} (k : Nat) (port : Nat) (w : Nat) (hOk : Ok T0 S0 s)
    (hT : Within 0xc0c0260000000000000000000000000000000000000000800494 T0 := by first | with_reducible assumption | exact sub_trans hT rfl) : Ok T0 S0 (State.flitArrival s k port w) := by
  unfold State.flitArrival
  repeat' (first
    | with_reducible assumption | (exact rfl) | (exact sub_trans hT rfl) | with_reducible apply ok_wireFixed
    | with_reducible apply ok_spareChecks | with_reducible apply ok_creditIn | with_reducible apply ok_wordIn
    | with_reducible apply ok_setBridge | with_reducible apply ok_bridgeMove | with_reducible apply ok_badSideband
    | with_reducible apply ok_endPointIn | (with_reducible apply ok_foldl; intro _ _ _; beta_reduce) | (intro _)
    | split | dsimp only)

theorem ok_execFlitArrival (k : Nat) (port : Nat) (w : Nat) {s : State} (hOk : Ok T0 S0 s)
    (hT : Within 0xc0c0260000000000000000000000000000000000000000800494 T0 := by first | with_reducible assumption | exact sub_trans hT rfl) : ∃ sNext, execFlitArrival k port w s = .next sNext ∧ Ok T0 S0 sNext := by
  unfold execFlitArrival
  refine ⟨_, rfl, ?_⟩
  repeat' (first
    | with_reducible assumption | (exact sub_trans hT rfl) | with_reducible apply ok_flitArrival | dsimp only)

theorem ok_refuseFront {s : State} (j : Nat) (hOk : Ok T0 S0 s)
    (hT : Within 0xc0c0200000000000000000000000000000000000000000000404 T0 := by first | with_reducible assumption | exact sub_trans hT rfl) : Ok T0 S0 (State.refuseFront s j) := by
  unfold State.refuseFront
  repeat' (first
    | with_reducible assumption | (exact rfl) | (exact sub_trans hT rfl) | with_reducible apply ok_setQueue
    | with_reducible apply ok_setOpen | with_reducible apply ok_setHeld | with_reducible apply ok_insideSub
    | with_reducible apply ok_creditBack | with_reducible apply ok_fenceTail
    | (fail_if_no_progress (with_reducible refine ok_with ?_ ..))
    | (with_reducible apply ok_foldl; intro _ _ _; beta_reduce) | (intro _) | split | dsimp only)

theorem ok_allocHeads {s : State} (k : Nat) (out : Nat) (hOk : Ok T0 S0 s)
    (hT : Within 0x400 T0 := by first | with_reducible assumption | exact sub_trans hT rfl) : Ok T0 S0 (State.allocHeads s k out) := by
  unfold State.allocHeads
  repeat' (first
    | with_reducible assumption | (exact rfl) | (exact sub_trans hT rfl) | with_reducible apply ok_setHeld
    | (fail_if_no_progress (with_reducible refine ok_with ?_ ..))
    | (with_reducible apply ok_foldl; intro _ _ _; beta_reduce) | (intro _) | split | dsimp only)

theorem ok_probeWait {s : State} (k : Nat) (out : Nat) (hOk : Ok T0 S0 s)
    (hT : Within 0xc0000000000000000000000000000000000000000000000000 T0 := by first | with_reducible assumption | exact sub_trans hT rfl) : Ok T0 S0 (State.probeWait s k out) := by
  unfold State.probeWait
  repeat' (first
    | with_reducible assumption | (exact rfl) | (with_reducible exact fb_probeEvt _ (sub_trans hT rfl))
    | (exact sub_trans hT rfl) | (exact fok_probeEvt _) | with_reducible apply ok_incWrap
    | (fail_if_no_progress (with_reducible refine ok_with ?_ ..))
    | (with_reducible apply ok_foldl; intro _ _ _; beta_reduce) | (intro _) | split | dsimp only)

theorem ok_fallbackDepart {s : State} (k : Nat) (out : Nat) (hOk : Ok T0 S0 s)
    (hT : Within 0xc0c0260000000000000000000000000000000000000000000494 T0 := by first | with_reducible assumption | exact sub_trans hT rfl) : Ok T0 S0 (State.fallbackDepart s k out) := by
  unfold State.fallbackDepart
  repeat' (first
    | with_reducible assumption | (exact rfl) | (exact sub_trans hT rfl) | with_reducible apply ok_setQueue
    | with_reducible apply ok_launch | with_reducible apply ok_synthSend | with_reducible apply ok_bridgeMove
    | with_reducible apply ok_refuseFront | with_reducible apply ok_allocHeads | with_reducible apply ok_probeWait
    | (fail_if_no_progress (with_reducible refine ok_with ?_ ..))
    | (with_reducible apply ok_foldl; intro _ _ _; beta_reduce) | (intro _) | split | dsimp only)

theorem ok_execFlitFallbackDepart (k : Nat) (out : Nat) {s : State} (hOk : Ok T0 S0 s)
    (hT : Within 0xc0c0260000000000000000000000000000000000000000000494 T0 := by first | with_reducible assumption | exact sub_trans hT rfl) : ∃ sNext, execFlitFallbackDepart k out s = .next sNext ∧ Ok T0 S0 sNext := by
  unfold execFlitFallbackDepart
  refine ⟨_, rfl, ?_⟩
  repeat' (first
    | with_reducible assumption | (exact sub_trans hT rfl) | with_reducible apply ok_fallbackDepart | dsimp only)

theorem ok_rtEntWrite {s : State} (k : Nat) (v : Word) (hOk : Ok T0 S0 s)
    (hT : Within 0x400000000000000000000000000000000000000000000000400 T0 := by first | with_reducible assumption | exact sub_trans hT rfl) : Ok T0 S0 (State.rtEntWrite s k v) := by
  unfold State.rtEntWrite
  repeat' (first
    | with_reducible assumption | (exact rfl) | (exact sub_trans hT rfl) | with_reducible apply ok_set
    | with_reducible apply ok_setRouteEntry | split | dsimp only)

theorem ok_execRtEntWrite (src : Src) (k : Nat) (v : Word) {s : State} (hOk : Ok T0 S0 s)
    (hT : Within 0x400000000000000000000000000000000000000000000000400 T0 := by first | with_reducible assumption | exact sub_trans hT rfl) : ∃ sNext, execRtEntWrite src k v s = .next sNext ∧ Ok T0 S0 sNext := by
  unfold execRtEntWrite
  refine ⟨_, rfl, ?_⟩
  repeat' (first
    | with_reducible assumption | (exact sub_trans hT rfl) | with_reducible apply ok_rtEntWrite | split | dsimp only)

theorem ok_epochFlip {s : State} (hOk : Ok T0 S0 s)
    (hT : Within 0x400000000000000000000000000000000000000000000000400 T0 := by first | with_reducible assumption | exact sub_trans hT rfl) : Ok T0 S0 (State.epochFlip s) := by
  unfold State.epochFlip
  repeat' (first
    | with_reducible assumption | (exact rfl) | (exact sub_trans hT rfl) | with_reducible apply ok_set
    | (fail_if_no_progress (with_reducible refine ok_with ?_ ..)) | split | dsimp only)

theorem ok_execEpochFlip (src : Src) (v : Word) {s : State} (hOk : Ok T0 S0 s)
    (hT : Within 0x400000000000000000000000000000000000000000000000400 T0 := by first | with_reducible assumption | exact sub_trans hT rfl) : ∃ sNext, execEpochFlip src v s = .next sNext ∧ Ok T0 S0 sNext := by
  unfold execEpochFlip
  refine ⟨_, rfl, ?_⟩
  repeat' (first
    | with_reducible assumption | (exact rfl) | (exact sub_trans hT rfl) | with_reducible apply ok_epochFlip | split
    | dsimp only)

theorem ok_drainComplete {s : State} (hOk : Ok T0 S0 s)
    (hT : Within 0x400000000000000000000000000000000000000000000000000 T0 := by first | with_reducible assumption | exact sub_trans hT rfl) : Ok T0 S0 (State.drainComplete s) := by
  unfold State.drainComplete
  repeat' (first
    | with_reducible assumption | (exact rfl) | (exact sub_trans hT rfl) | with_reducible apply ok_set | split
    | dsimp only)

theorem ok_traceClear {s : State} (c : Nat) (hOk : Ok T0 S0 s)
    (hT : Within 0x8000000000000000000000000000000000000000000000000400 T0 := by first | with_reducible assumption | exact sub_trans hT rfl) : Ok T0 S0 (State.traceClear s c) := by
  unfold State.traceClear
  repeat' (first
    | with_reducible assumption | (exact rfl) | (exact sub_trans hT rfl) | with_reducible apply ok_set
    | (fail_if_no_progress (with_reducible refine ok_with ?_ ..)) | split | dsimp only)

theorem ok_execTraceClear (src : Src) (c : Nat) (v : Word) {s : State} (hOk : Ok T0 S0 s)
    (hT : Within 0xc000000000000000000000000000000000000000000000000400 T0 := by first | with_reducible assumption | exact sub_trans hT rfl) : ∃ sNext, execTraceClear src c v s = .next sNext ∧ Ok T0 S0 sNext := by
  unfold execTraceClear
  refine ⟨_, rfl, ?_⟩
  repeat' (first
    | with_reducible assumption | (exact rfl) | (exact sub_trans hT rfl) | with_reducible apply ok_plainWrite
    | with_reducible apply ok_traceClear | split | dsimp only)

theorem ok_setFence {s : State} (k : Nat) (l : Nat) (st : Nat) (hOk : Ok T0 S0 s)
    (hT : Within 0x100000000000000000000000000000000000000000000000 T0 := by first | with_reducible assumption | exact sub_trans hT rfl) : Ok T0 S0 (State.setFence s k l st) := by
  unfold State.setFence
  repeat' (first
    | with_reducible assumption | (exact rfl) | (with_reducible exact fb_fenceFld _ (sub_trans hT rfl))
    | (exact sub_trans hT rfl) | (exact fok_fenceFld _) | with_reducible apply ok_set | split | dsimp only)

theorem ok_portDead {s : State} (k : Nat) (l : Nat) (hOk : Ok T0 S0 s)
    (hT : Within 0x100000000000000000000000000000000000000000000400 T0 := by first | with_reducible assumption | exact sub_trans hT rfl) : Ok T0 S0 (State.portDead s k l) := by
  unfold State.portDead
  repeat' (first
    | with_reducible assumption | (exact rfl) | (exact sub_trans hT rfl) | with_reducible apply ok_setFence
    | (fail_if_no_progress (with_reducible refine ok_with ?_ ..)) | dsimp only)

theorem ok_setDomainFences {s : State} (d : Nat) (st : Nat) (hOk : Ok T0 S0 s)
    (hT : Within 0x100000000000000000000000000000000000000000000000 T0 := by first | with_reducible assumption | exact sub_trans hT rfl) : Ok T0 S0 (State.setDomainFences s d st) := by
  unfold State.setDomainFences
  repeat' (first
    | with_reducible assumption | (exact rfl) | (exact sub_trans hT rfl) | with_reducible apply ok_setFence
    | (with_reducible apply ok_foldl; intro _ _ _; beta_reduce) | (intro _) | dsimp only)

theorem ok_setBridgeFences {s : State} (st : Nat) (hOk : Ok T0 S0 s)
    (hT : Within 0x100000000000000000000000000000000000000000000000 T0 := by first | with_reducible assumption | exact sub_trans hT rfl) : Ok T0 S0 (State.setBridgeFences s st) := by
  unfold State.setBridgeFences
  repeat' (first
    | with_reducible assumption | (exact rfl) | (exact sub_trans hT rfl) | with_reducible apply ok_setFence
    | (with_reducible apply ok_foldl; intro _ _ _; beta_reduce) | (intro _) | dsimp only)

theorem ok_setBenchFences {s : State} (b : Nat) (st : Nat) (hOk : Ok T0 S0 s)
    (hT : Within 0x20000100000000000000000000000000000000000000000000000 T0 := by first | with_reducible assumption | exact sub_trans hT rfl) : Ok T0 S0 (State.setBenchFences s b st) := by
  unfold State.setBenchFences
  repeat' (first
    | with_reducible assumption | (exact rfl) | (exact sub_trans hT rfl) | with_reducible apply ok_set
    | with_reducible apply ok_setFence | dsimp only)

theorem ok_closeDomainFences {s : State} (d : Nat) (hOk : Ok T0 S0 s)
    (hT : Within 0x100000000000000000000000000000000000000000000400 T0 := by first | with_reducible assumption | exact sub_trans hT rfl) : Ok T0 S0 (State.closeDomainFences s d) := by
  unfold State.closeDomainFences
  repeat' (first
    | with_reducible assumption | (exact rfl) | (with_reducible exact fb_fenceFld _ (sub_trans hT rfl))
    | (exact sub_trans hT rfl) | (exact fok_fenceFld _) | with_reducible apply ok_setFence
    | (fail_if_no_progress (with_reducible refine ok_with ?_ ..))
    | (with_reducible apply ok_foldl; intro _ _ _; beta_reduce) | (intro _) | split | dsimp only)

/-! ### Planes -/

theorem ok_setPlaneFrame {s : State} (b : Nat) (p : Nat) (f : Nat) (x : Nat) (hOk : Ok T0 S0 s)
    (hT : Within 0x800 T0 := by first | with_reducible assumption | exact sub_trans hT rfl) : Ok T0 S0 (State.setPlaneFrame s b p f x) := by
  unfold State.setPlaneFrame
  repeat' (first
    | with_reducible assumption | (exact sub_trans hT rfl)
    | (fail_if_no_progress (with_reducible refine ok_with ?_ ..)) | dsimp only)

theorem ok_setRunBits {s : State} (b p f0 i w x : Nat) (hOk : Ok T0 S0 s)
    (hT : Within 0x800 T0 := by first | with_reducible assumption | exact sub_trans hT rfl) :
    Ok T0 S0 (s.setRunBits b p f0 i w x) := by
  induction w generalizing s i x with
  | zero => exact hOk
  | succ w ih =>
    rw [State.setRunBits]
    exact ih _ _ (ok_setPlaneFrame _ _ _ _ hOk)

theorem fok_psFld (p : Nat) : (psFld p).calm = true := by
  first
  | exact fld_calm_full rfl
  | (unfold psFld
     repeat' (first | assumption | rfl | split))

theorem fb_psFld (p : Nat) (hT : Within 0x800000000000000000000000000 T0) :
    Within (regBit (psFld p).reg) T0 := by
  unfold psFld
  repeat' (first | with_reducible assumption | split | (exact sub_trans hT rfl) | dsimp only)

theorem ok_setPlaneSt {s : State} (b : Nat) (p : Nat) (st : Nat) (hOk : Ok T0 S0 s)
    (hT : Within 0x800000000000000000000000000 T0 := by first | with_reducible assumption | exact sub_trans hT rfl) : Ok T0 S0 (State.setPlaneSt s b p st) := by
  unfold State.setPlaneSt
  repeat' (first
    | with_reducible assumption | (exact rfl) | (with_reducible exact fb_psFld _ (sub_trans hT rfl))
    | (exact sub_trans hT rfl) | (exact fok_psFld _) | with_reducible apply ok_set | dsimp only)

theorem ok_refreshHomes {s : State} (g : Nat) (hOk : Ok T0 S0 s)
    (hT : Within 0x20000000000000000000000000000000000 T0 := by first | with_reducible assumption | exact sub_trans hT rfl) : Ok T0 S0 (State.refreshHomes s g) := by
  unfold State.refreshHomes
  repeat' (first
    | with_reducible assumption | (exact rfl) | (exact sub_trans hT rfl) | with_reducible apply ok_set | dsimp only)

theorem ok_setHome {s : State} (b : Nat) (p : Nat) (h : Option Nat) (hOk : Ok T0 S0 s)
    (hT : Within 0x20100000000000000000000000000000000 T0 := by first | with_reducible assumption | exact sub_trans hT rfl) : Ok T0 S0 (State.setHome s b p h) := by
  unfold State.setHome
  repeat' (first
    | with_reducible assumption | (exact rfl) | (exact sub_trans hT rfl)
    | (with_reducible show _ &&& ~~~(fieldMask _) = _; exact mask_full _ rfl) | with_reducible apply ok_set
    | with_reducible apply ok_setReg | with_reducible apply ok_refreshHomes
    | (fail_if_no_progress (with_reducible refine ok_with ?_ ..)) | split | dsimp only)

theorem ok_initSpare {s : State} (b : Nat) (p : Nat) (hOk : Ok T0 S0 s)
    (hT : Within 0x800 T0 := by first | with_reducible assumption | exact sub_trans hT rfl) : Ok T0 S0 (State.initSpare s b p) := by
  unfold State.initSpare
  repeat' (first
    | with_reducible assumption | (exact sub_trans hT rfl)
    | (fail_if_no_progress (with_reducible refine ok_with ?_ ..))
    | (with_reducible apply ok_foldl; intro _ _ _; beta_reduce) | (intro _) | dsimp only)

theorem ok_dropStages {s : State} (loc : Nat) (hOk : Ok T0 S0 s)
    (hT : Within 0x800 T0 := by first | with_reducible assumption | exact sub_trans hT rfl) : Ok T0 S0 (State.dropStages s loc) := by
  unfold State.dropStages
  repeat' (first
    | with_reducible assumption | (exact sub_trans hT rfl)
    | (fail_if_no_progress (with_reducible refine ok_with ?_ ..)) | dsimp only)

theorem ok_copyStages {s : State} (from_ : Nat) (to_ : Nat) (hOk : Ok T0 S0 s)
    (hT : Within 0x800 T0 := by first | with_reducible assumption | exact sub_trans hT rfl) : Ok T0 S0 (State.copyStages s from_ to_) := by
  unfold State.copyStages
  repeat' (first
    | with_reducible assumption | (exact sub_trans hT rfl)
    | (fail_if_no_progress (with_reducible refine ok_with ?_ ..))
    | (with_reducible apply ok_foldl; intro _ _ _; beta_reduce) | (intro _) | dsimp only)

theorem ok_freezeState {s : State} (b : Nat) (p : Nat) (hOk : Ok T0 S0 s)
    (hT : Within 0x800 T0 := by first | with_reducible assumption | exact sub_trans hT rfl) : Ok T0 S0 (State.freezeState s b p) := by
  unfold State.freezeState
  repeat' (first
    | with_reducible assumption | (exact sub_trans hT rfl)
    | (fail_if_no_progress (with_reducible refine ok_with ?_ ..))
    | (with_reducible apply ok_foldl; intro _ _ _; beta_reduce) | (intro _) | dsimp only)

theorem ok_flipState {s : State} (b : Nat) (p : Nat) (flips : List Nat) (hOk : Ok T0 S0 s)
    (hT : Within 0x800 T0 := by first | with_reducible assumption | exact sub_trans hT rfl) : Ok T0 S0 (State.flipState s b p flips) := by
  unfold State.flipState
  repeat' (first
    | with_reducible assumption | (exact rfl) | (exact sub_trans hT rfl) | with_reducible apply ok_setPlaneFrame
    | (with_reducible apply ok_foldl; intro _ _ _; beta_reduce) | (intro _) | dsimp only)

theorem ok_initPlaneState {s : State} (b : Nat) (p : Nat) (hOk : Ok T0 S0 s)
    (hT : Within 0x800 T0 := by first | with_reducible assumption | exact sub_trans hT rfl) : Ok T0 S0 (State.initPlaneState s b p) := by
  unfold State.initPlaneState
  repeat' (first
    | with_reducible assumption | (exact rfl) | (exact sub_trans hT rfl) | with_reducible apply ok_setPlaneFrame
    | with_reducible apply ok_initSpare | with_reducible apply ok_dropStages | with_reducible apply ok_freezeState
    | (with_reducible apply ok_foldl; intro _ _ _; beta_reduce) | (intro _) | dsimp only)

theorem ok_loseState {s : State} (b : Nat) (hOk : Ok T0 S0 s)
    (hT : Within 0x800 T0 := by first | with_reducible assumption | exact sub_trans hT rfl) : Ok T0 S0 (State.loseState s b) := by
  unfold State.loseState
  repeat' (first
    | with_reducible assumption | (exact sub_trans hT rfl)
    | (fail_if_no_progress (with_reducible refine ok_with ?_ ..)) | dsimp only)

/-! ### Fabric -/

theorem ok_abEdge {s0 : State} {s : State} (b : Nat) (p : Nat) (sx : Nat) (k : Nat) (hOk : Ok T0 S0 s)
    (hT : Within 0x800 T0 := by first | with_reducible assumption | exact sub_trans hT rfl) : Ok T0 S0 (State.abEdge s0 s b p sx k) := by
  unfold State.abEdge
  repeat' (first
    | with_reducible assumption | (exact rfl) | (exact sub_trans hT rfl) | with_reducible apply ok_setRunBits
    | (fail_if_no_progress (with_reducible refine ok_with ?_ ..)) | split | dsimp only)

theorem ok_setBnd {s : State} (j : Nat) (v : Nat) (hOk : Ok T0 S0 s)
    (hT : Within 0x800 T0 := by first | with_reducible assumption | exact sub_trans hT rfl) : Ok T0 S0 (State.setBnd s j v) := by
  unfold State.setBnd
  repeat' (first
    | with_reducible assumption | (exact sub_trans hT rfl)
    | (fail_if_no_progress (with_reducible refine ok_with ?_ ..)) | dsimp only)

theorem ok_bndEdge {s0 : State} {s : State} (b : Nat) (clk : Nat) (hOk : Ok T0 S0 s)
    (hT : Within 0x800 T0 := by first | with_reducible assumption | exact sub_trans hT rfl) : Ok T0 S0 (State.bndEdge s0 s b clk) := by
  unfold State.bndEdge
  repeat' (first
    | with_reducible assumption | (exact rfl) | (exact sub_trans hT rfl) | with_reducible apply ok_setBnd
    | (with_reducible apply ok_foldl; intro _ _ _; beta_reduce) | (intro _) | split | dsimp only)

theorem ok_latchPorts {s0 : State} {s : State} (b : Nat) (p : Nat) (clk : Nat) (hOk : Ok T0 S0 s)
    (hT : Within 0x800 T0 := by first | with_reducible assumption | exact sub_trans hT rfl) : Ok T0 S0 (State.latchPorts s0 s b p clk) := by
  unfold State.latchPorts
  repeat' (first
    | with_reducible assumption | (exact sub_trans hT rfl)
    | (fail_if_no_progress (with_reducible refine ok_with ?_ ..))
    | (with_reducible apply ok_foldl; intro _ _ _; beta_reduce) | (intro _) | split | dsimp only)

theorem ok_statusEdge {s0 : State} {s : State} (b : Nat) (hOk : Ok T0 S0 s)
    (hT : Within 0x400000000000000000000000000000 T0 := by first | with_reducible assumption | exact sub_trans hT rfl) : Ok T0 S0 (State.statusEdge s0 s b) := by
  unfold State.statusEdge
  repeat' (first
    | with_reducible assumption | (exact rfl) | (exact sub_trans hT rfl) | with_reducible apply ok_set
    | (fail_if_no_progress (with_reducible refine ok_with ?_ ..))
    | (with_reducible apply ok_foldl; intro _ _ _; beta_reduce) | (intro _) | split | dsimp only)

theorem ok_sampleEdge {s0 : State} {s : State} (b : Nat) (hOk : Ok T0 S0 s)
    (hT : Within 0x800 T0 := by first | with_reducible assumption | exact sub_trans hT rfl) : Ok T0 S0 (State.sampleEdge s0 s b) := by
  unfold State.sampleEdge
  repeat' (first
    | with_reducible assumption | (exact sub_trans hT rfl)
    | (fail_if_no_progress (with_reducible refine ok_with ?_ ..)) | split | dsimp only)

theorem ok_countEdge {s0 : State} {s : State} (b : Nat) (clk : Nat) (hOk : Ok T0 S0 s)
    (hT : Within 0x4000800 T0 := by first | with_reducible assumption | exact sub_trans hT rfl) : Ok T0 S0 (State.countEdge s0 s b clk) := by
  unfold State.countEdge
  repeat' (first
    | with_reducible assumption | (exact sub_trans hT rfl)
    | (fail_if_no_progress (with_reducible refine ok_with ?_ ..)) | split | dsimp only)

theorem ok_benchEdge {s0 : State} {s : State} (b : Nat) (clk : Nat) (late : List (Nat × Nat)) (hOk : Ok T0 S0 s)
    (hT : Within 0x400000000000000000000000000800 T0 := by first | with_reducible assumption | exact sub_trans hT rfl) : Ok T0 S0 (State.benchEdge s0 s b clk late) := by
  unfold State.benchEdge
  repeat' (first
    | with_reducible assumption | (exact rfl) | (exact sub_trans hT rfl) | with_reducible apply ok_setPlaneFrame
    | with_reducible apply ok_abEdge | with_reducible apply ok_bndEdge | with_reducible apply ok_latchPorts
    | with_reducible apply ok_statusEdge | with_reducible apply ok_sampleEdge
    | (fail_if_no_progress (with_reducible refine ok_with ?_ ..))
    | (with_reducible apply ok_foldl; intro _ _ _; beta_reduce) | (intro _) | split | dsimp only)

theorem ok_execAsyncResetAssert (b : Nat) (sx : Nat) (sy : Nat) (g : Nat) {s : State} (hOk : Ok T0 S0 s)
    (hT : Within 0x800 T0 := by first | with_reducible assumption | exact sub_trans hT rfl) : ∃ sNext, execAsyncResetAssert b sx sy g s = .next sNext ∧ Ok T0 S0 sNext := by
  unfold execAsyncResetAssert
  refine ⟨_, rfl, ?_⟩
  repeat' (first
    | with_reducible assumption | (exact rfl) | (exact sub_trans hT rfl) | with_reducible apply ok_setRunBits
    | (fail_if_no_progress (with_reducible refine ok_with ?_ ..))
    | (with_reducible apply ok_foldl; intro _ _ _; beta_reduce) | (intro _) | split | dsimp only)

theorem ok_execImageEvent (b : Nat) {s : State} (hOk : Ok T0 S0 s)
    (hT : Within 0x808 T0 := by first | with_reducible assumption | exact sub_trans hT rfl) : ∃ sNext, execImageEvent b s = .next sNext ∧ Ok T0 S0 sNext := by
  unfold execImageEvent
  refine ⟨_, rfl, ?_⟩
  repeat' (first
    | with_reducible assumption | (exact sub_trans hT rfl) | with_reducible apply ok_raiseBench
    | (fail_if_no_progress (with_reducible refine ok_with ?_ ..)) | split | dsimp only)

/-! ### Switch -/

theorem ok_planeEvt {s : State} (b : Nat) (f : Fld) (hf_f : f.calm = true) (hOk : Ok T0 S0 s)
    (hT : Within 0x8 T0 := by first | with_reducible assumption | exact sub_trans hT rfl)
    (hb_f : Within (regBit f.reg) T0 := by first | with_reducible assumption | exact sub_trans hT rfl) : Ok T0 S0 (State.planeEvt s b f) := by
  unfold State.planeEvt
  repeat' (first
    | with_reducible assumption | (exact rfl) | (exact sub_trans hT rfl) | with_reducible apply ok_set
    | with_reducible apply ok_raiseBench | split | dsimp only)

theorem ok_setLastRef {s : State} (b : Nat) (key : Nat) (hOk : Ok T0 S0 s)
    (hT : Within 0x800 T0 := by first | with_reducible assumption | exact sub_trans hT rfl) : Ok T0 S0 (State.setLastRef s b key) := by
  unfold State.setLastRef
  repeat' (first
    | with_reducible assumption | (exact sub_trans hT rfl)
    | (fail_if_no_progress (with_reducible refine ok_with ?_ ..)) | dsimp only)

theorem ok_planeRefuse {s : State} (b : Nat) (r : PlaneReq) (reason : Nat) (hOk : Ok T0 S0 s)
    (hT : Within 0x6400000000000000000000000808 T0 := by first | with_reducible assumption | exact sub_trans hT rfl) : Ok T0 S0 (State.planeRefuse s b r reason) := by
  unfold State.planeRefuse
  repeat' (first
    | with_reducible assumption | (exact rfl) | (exact sub_trans hT rfl) | with_reducible apply ok_set
    | with_reducible apply ok_inc | with_reducible apply ok_planeEvt | with_reducible apply ok_setLastRef | split
    | dsimp only)

theorem ok_planeLost {s : State} (b : Nat) (losers : List PlaneReq) (hOk : Ok T0 S0 s)
    (hT : Within 0x6400000000000000000000000008 T0 := by first | with_reducible assumption | exact sub_trans hT rfl) : Ok T0 S0 (State.planeLost s b losers) := by
  unfold State.planeLost
  repeat' (first
    | with_reducible assumption | (exact rfl) | (exact sub_trans hT rfl) | with_reducible apply ok_set
    | with_reducible apply ok_inc | with_reducible apply ok_planeEvt
    | (fail_if_no_progress (with_reducible refine ok_with ?_ ..))
    | (with_reducible apply ok_foldl; intro _ _ _; beta_reduce) | (intro _) | split | dsimp only)

theorem ok_setExpiry {s : State} (b : Nat) (t : Option Nat) (held : Option Nat) (hOk : Ok T0 S0 s)
    (hT : Within 0x800 T0 := by first | with_reducible assumption | exact sub_trans hT rfl) : Ok T0 S0 (State.setExpiry s b t held) := by
  unfold State.setExpiry
  repeat' (first
    | with_reducible assumption | (exact sub_trans hT rfl)
    | (fail_if_no_progress (with_reducible refine ok_with ?_ ..)) | dsimp only)

theorem ok_dropMemResults {s : State} (b : Nat) (hOk : Ok T0 S0 s)
    (hT : Within 0x10004800 T0 := by first | with_reducible assumption | exact sub_trans hT rfl) : Ok T0 S0 (State.dropMemResults s b) := by
  unfold State.dropMemResults
  repeat' (first
    | with_reducible assumption | (exact sub_trans hT rfl)
    | (fail_if_no_progress (with_reducible refine ok_with ?_ ..)) | split | dsimp only)

theorem ok_stopPlane {s : State} (m : Nat) (hOk : Ok T0 S0 s)
    (hT : Within 0x800000000000000000000000800 T0 := by first | with_reducible assumption | exact sub_trans hT rfl) : Ok T0 S0 (State.stopPlane s m) := by
  unfold State.stopPlane
  repeat' (first
    | with_reducible assumption | (exact rfl) | (exact sub_trans hT rfl) | with_reducible apply ok_setPlaneSt
    | with_reducible apply ok_freezeState | (fail_if_no_progress (with_reducible refine ok_with ?_ ..)) | split
    | dsimp only)

theorem ok_dropSamples {s : State} (b : Nat) (hOk : Ok T0 S0 s)
    (hT : Within 0x800 T0 := by first | with_reducible assumption | exact sub_trans hT rfl) : Ok T0 S0 (State.dropSamples s b) := by
  unfold State.dropSamples
  repeat' (first
    | with_reducible assumption | (exact sub_trans hT rfl)
    | (fail_if_no_progress (with_reducible refine ok_with ?_ ..)) | dsimp only)

theorem ok_clkChanged {s : State} (s0 : State) (m : Nat) (hOk : Ok T0 S0 s)
    (hT : Within 0x4000040 T0 := by first | with_reducible assumption | exact sub_trans hT rfl) : Ok T0 S0 (s.clkChanged s0 m) := by
  unfold State.clkChanged
  dsimp only
  split
  · exact ok_with hOk ..
  · exact ok_waitEvals _ (ok_with hOk ..)

theorem ok_foldPause {s : State} (m : Nat) (hOk : Ok T0 S0 s)
    (hT : Within 0x800 T0 := by first | with_reducible assumption | exact sub_trans hT rfl) : Ok T0 S0 (State.foldPause s m) := by
  unfold State.foldPause
  repeat' (first
    | with_reducible assumption | (exact sub_trans hT rfl)
    | (fail_if_no_progress (with_reducible refine ok_with ?_ ..)) | split | dsimp only)

theorem ok_memberEdge {s : State} (m : Nat) (p : Option Nat) (src : Nat) (hOk : Ok T0 S0 s)
    (hT : Within 0x20000100000000000000000001c00000000000000000014004840 T0 := by first | with_reducible assumption | exact sub_trans hT rfl) : Ok T0 S0 (State.memberEdge s m p src) := by
  unfold State.memberEdge
  repeat' (first
    | with_reducible assumption | (exact rfl) | (exact sub_trans hT rfl) | with_reducible apply ok_incWrap
    | with_reducible apply ok_set | with_reducible apply ok_setBenchFences | with_reducible apply ok_setPlaneSt
    | with_reducible apply ok_dropMemResults | with_reducible apply ok_stopPlane | with_reducible apply ok_dropSamples
    | with_reducible apply ok_clkChanged | with_reducible apply ok_foldPause
    | (fail_if_no_progress (with_reducible refine ok_with ?_ ..)) | split | dsimp only)

theorem ok_schedEdge {s : State} (b : Nat) (r : PlaneReq) (hOk : Ok T0 S0 s)
    (hT : Within 0x800 T0 := by first | with_reducible assumption | exact sub_trans hT rfl) : Ok T0 S0 (State.schedEdge s b r) := by
  unfold State.schedEdge
  repeat' (first
    | with_reducible assumption | (exact rfl) | (exact sub_trans hT rfl) | with_reducible apply ok_setExpiry
    | (fail_if_no_progress (with_reducible refine ok_with ?_ ..)) | split | dsimp only)

theorem ok_planeGrant {s : State} (b : Nat) (pos : Nat) (r : PlaneReq) (hOk : Ok T0 S0 s)
    (hT : Within 0x20000100000000000000000015c00000000000000000014004848 T0 := by first | with_reducible assumption | exact sub_trans hT rfl) : Ok T0 S0 (State.planeGrant s b pos r) := by
  unfold State.planeGrant
  repeat' (first
    | with_reducible assumption | (exact rfl) | (exact sub_trans hT rfl) | with_reducible apply ok_set
    | with_reducible apply ok_planeEvt | with_reducible apply ok_memberEdge | with_reducible apply ok_schedEdge
    | (fail_if_no_progress (with_reducible refine ok_with ?_ ..))
    | (with_reducible apply ok_foldl; intro _ _ _; beta_reduce) | (intro _) | split | dsimp only)

theorem ok_planeDefer {s : State} (b : Nat) (r : PlaneReq) (hOk : Ok T0 S0 s)
    (hT : Within 0x6400000000000000000000000808 T0 := by first | with_reducible assumption | exact sub_trans hT rfl) : Ok T0 S0 (State.planeDefer s b r) := by
  unfold State.planeDefer
  repeat' (first
    | with_reducible assumption | (exact rfl) | (exact sub_trans hT rfl) | with_reducible apply ok_set
    | with_reducible apply ok_inc | with_reducible apply ok_planeEvt
    | (fail_if_no_progress (with_reducible refine ok_with ?_ ..))
    | (with_reducible apply ok_foldl; intro _ _ _; beta_reduce) | (intro _) | split | dsimp only)

theorem ok_guardRun {s : State} (l : List (Nat × PlaneReq)) (room : Option Nat) (hOk : Ok T0 S0 s)
    (hT : Within 0x20000100000000000000000017c00000000000000000014004848 T0 := by first | with_reducible assumption | exact sub_trans hT rfl) :
    Ok T0 S0 (s.guardRun l room) := by
  induction l generalizing s room with
  | nil => exact hOk
  | cons a l ih =>
    cases room with
    | none =>
      rw [State.guardRun]
      exact ih _ (ok_planeDefer _ _ hOk)
    | some room =>
      rw [State.guardRun]
      split
      · split
        · exact ih _ (ok_planeDefer _ _ hOk)
        · exact ih _ (ok_planeGrant _ _ _ hOk)
      · exact ih _ (ok_planeDefer _ _ hOk)

theorem ok_guardDecide {s : State} (c : Nat) (hOk : Ok T0 S0 s)
    (hT : Within 0x20000100000000000000000017c00000000000000000014004848 T0 := by first | with_reducible assumption | exact sub_trans hT rfl) : Ok T0 S0 (State.guardDecide s c) := by
  unfold State.guardDecide
  repeat' (first
    | with_reducible assumption | (exact rfl) | (exact sub_trans hT rfl) | with_reducible apply ok_guardRun
    | (fail_if_no_progress (with_reducible refine ok_with ?_ ..)) | dsimp only)

theorem ok_candidate {s : State} (b : Nat) (r : PlaneReq) (last : Bool) (hOk : Ok T0 S0 s)
    (hT : Within 0x20000100000000000000000017c00000000000000000014004848 T0 := by first | with_reducible assumption | exact sub_trans hT rfl) : Ok T0 S0 (State.candidate s b r last) := by
  unfold State.candidate
  repeat' (first
    | with_reducible assumption | (exact sub_trans hT rfl) | with_reducible apply ok_guardDecide
    | (fail_if_no_progress (with_reducible refine ok_with ?_ ..)) | split | dsimp only)

theorem ok_judge {s : State} (b : Nat) (reqs : List PlaneReq) (hOk : Ok T0 S0 s)
    (hT : Within 0x400000000000000000000000000000000000000000000000000000 T0 := by first | with_reducible assumption | exact sub_trans hT rfl) : Ok T0 S0 (State.judge s b reqs) := by
  unfold State.judge
  repeat' (first
    | with_reducible assumption | (exact rfl) | (exact sub_trans hT rfl) | with_reducible apply ok_set
    | (with_reducible apply ok_foldl; intro _ _ _; beta_reduce) | (intro _) | split | dsimp only)

theorem ok_presentFree {s : State} (b : Nat) (reqs : List PlaneReq) (last : Bool) (hOk : Ok T0 S0 s)
    (hT : Within 0x420000100000000000000000017c00000000000000000014004848 T0 := by first | with_reducible assumption | exact sub_trans hT rfl) : Ok T0 S0 (State.presentFree s b reqs last) := by
  unfold State.presentFree
  repeat' (first
    | with_reducible assumption | (exact sub_trans hT rfl) | with_reducible apply ok_planeRefuse
    | with_reducible apply ok_planeLost | with_reducible apply ok_guardDecide | with_reducible apply ok_candidate
    | with_reducible apply ok_judge | (fail_if_no_progress (with_reducible refine ok_with ?_ ..))
    | (with_reducible apply ok_foldl; intro _ _ _; beta_reduce) | (intro _) | split | dsimp only)

theorem ok_presentDeferred {s0 : State} (b : Nat) (d : PlaneReq) (reqs0 : List PlaneReq) (hOk : Ok T0 S0 s0)
    (hT : Within 0x6400000000000000000000000808 T0 := by first | with_reducible assumption | exact sub_trans hT rfl) : Ok T0 S0 (State.presentDeferred s0 b d reqs0) := by
  unfold State.presentDeferred
  repeat' (first
    | with_reducible assumption | (exact sub_trans hT rfl) | with_reducible apply ok_planeRefuse
    | with_reducible apply ok_planeLost | (fail_if_no_progress (with_reducible refine ok_with ?_ ..))
    | (with_reducible apply ok_foldl; intro _ _ _; beta_reduce) | (intro _) | split | dsimp only)

theorem ok_present {s : State} (b : Nat) (reqs : List PlaneReq) (last : Bool) (hOk : Ok T0 S0 s)
    (hT : Within 0x420000100000000000000000017c00000000000000000014004848 T0 := by first | with_reducible assumption | exact sub_trans hT rfl) : Ok T0 S0 (State.present s b reqs last) := by
  unfold State.present
  repeat' (first
    | with_reducible assumption | (exact sub_trans hT rfl) | with_reducible apply ok_presentFree
    | with_reducible apply ok_presentDeferred | (fail_if_no_progress (with_reducible refine ok_with ?_ ..)) | split
    | dsimp only)

theorem ok_clearHostReq {s : State} (b : Nat) (hOk : Ok T0 S0 s)
    (hT : Within 0x200000000000000000000000800 T0 := by first | with_reducible assumption | exact sub_trans hT rfl) : Ok T0 S0 (State.clearHostReq s b) := by
  unfold State.clearHostReq
  repeat' (first
    | with_reducible assumption | (exact rfl) | (exact sub_trans hT rfl) | with_reducible apply ok_set
    | (fail_if_no_progress (with_reducible refine ok_with ?_ ..)) | dsimp only)

theorem ok_schedTry {s : State} (b idx0 fuel : Nat) (hOk : Ok T0 S0 s)
    (hT : Within 0x16400000000000000000000000808 T0 := by first | with_reducible assumption | exact sub_trans hT rfl) :
    Ok T0 S0 (s.schedTry b idx0 fuel).1 := by
  induction fuel generalizing s with
  | zero => exact ok_set rfl hOk
  | succ n ih =>
    rw [State.schedTry]
    split
    · exact ok_set rfl hOk
    · exact hOk
    · split
      · exact ih (ok_set rfl (ok_planeRefuse _ _ _ hOk))
      · exact ok_set rfl (ok_planeRefuse _ _ _ hOk)

theorem ok_schedReq {s : State} (b : Nat) (hOk : Ok T0 S0 s)
    (hT : Within 0x16400000000000000000000000808 T0 := by first | with_reducible assumption | exact sub_trans hT rfl) : Ok T0 S0 (s.schedReq b).1 := by
  have h1 : Ok T0 S0 { s with planes := { s.planes with
      schedDue := mapSet (fun _ => false) s.planes.schedDue b false } } := ok_with hOk ..
  unfold State.schedReq
  dsimp only
  split
  · split
    · exact h1
    · exact ok_schedTry _ _ _ h1
  · exact h1

theorem ok_setDevReq {s : State} (b : Nat) (r : Option PlaneReq) (hOk : Ok T0 S0 s)
    (hT : Within 0x800 T0 := by first | with_reducible assumption | exact sub_trans hT rfl) : Ok T0 S0 (State.setDevReq s b r) := by
  unfold State.setDevReq
  repeat' (first
    | with_reducible assumption | (exact sub_trans hT rfl)
    | (fail_if_no_progress (with_reducible refine ok_with ?_ ..)) | dsimp only)

theorem ok_dropCell {s : State} (b : Nat) (hOk : Ok T0 S0 s)
    (hT : Within 0x800 T0 := by first | with_reducible assumption | exact sub_trans hT rfl) : Ok T0 S0 (State.dropCell s b) := by
  unfold State.dropCell
  repeat' (first
    | with_reducible assumption | (exact sub_trans hT rfl)
    | (fail_if_no_progress (with_reducible refine ok_with ?_ ..)) | dsimp only)

theorem ok_presentEdge {s : State} (b : Nat) (dev : Bool) (fab : Bool) (host : Bool) (sched : Bool) (last : Bool) (hOk : Ok T0 S0 s)
    (hT : Within 0x420000100000000000000000017e00000000000000000014004848 T0 := by first | with_reducible assumption | exact sub_trans hT rfl) : Ok T0 S0 (State.presentEdge s b dev fab host sched last) := by
  unfold State.presentEdge
  repeat' (first
    | with_reducible assumption | (exact rfl) | (exact sub_trans hT rfl) | with_reducible apply ok_setLastRef
    | with_reducible apply ok_present | with_reducible apply ok_clearHostReq | with_reducible apply ok_schedReq
    | with_reducible apply ok_setDevReq | with_reducible apply ok_dropCell
    | (fail_if_no_progress (with_reducible refine ok_with ?_ ..)) | split | dsimp only)

theorem ok_execSwitchCellRequest (b : Nat) (last : Bool) {s : State} (hOk : Ok T0 S0 s)
    (hT : Within 0x420000100000000000000000017e00000000000000000014004848 T0 := by first | with_reducible assumption | exact sub_trans hT rfl) : ∃ sNext, execSwitchCellRequest b last s = .next sNext ∧ Ok T0 S0 sNext := by
  unfold execSwitchCellRequest
  refine ⟨_, rfl, ?_⟩
  repeat' (first
    | with_reducible assumption | (exact sub_trans hT rfl) | with_reducible apply ok_presentEdge | split | dsimp only)

theorem ok_execHostRequestPresented (b : Nat) (fab : Bool) (last : Bool) {s : State} (hOk : Ok T0 S0 s)
    (hT : Within 0x420000100000000000000000017e00000000000000000014004848 T0 := by first | with_reducible assumption | exact sub_trans hT rfl) : ∃ sNext, execHostRequestPresented b fab last s = .next sNext ∧ Ok T0 S0 sNext := by
  unfold execHostRequestPresented
  refine ⟨_, rfl, ?_⟩
  repeat' (first
    | with_reducible assumption | (exact sub_trans hT rfl) | with_reducible apply ok_presentEdge | split | dsimp only)

theorem ok_execScheduleRequestPresented (b : Nat) (fab : Bool) (host : Bool) (last : Bool) {s : State} (hOk : Ok T0 S0 s)
    (hT : Within 0x420000100000000000000000017e00000000000000000014004848 T0 := by first | with_reducible assumption | exact sub_trans hT rfl) : ∃ sNext, execScheduleRequestPresented b fab host last s = .next sNext ∧ Ok T0 S0 sNext := by
  unfold execScheduleRequestPresented
  refine ⟨_, rfl, ?_⟩
  repeat' (first
    | with_reducible assumption | (exact sub_trans hT rfl) | with_reducible apply ok_presentEdge | split | dsimp only)

theorem ok_dropDeferred {s : State} (b : Nat) (hOk : Ok T0 S0 s)
    (hT : Within 0x400000000000000000000000800 T0 := by first | with_reducible assumption | exact sub_trans hT rfl) : Ok T0 S0 (State.dropDeferred s b) := by
  unfold State.dropDeferred
  repeat' (first
    | with_reducible assumption | (exact rfl) | (exact sub_trans hT rfl) | with_reducible apply ok_set
    | (fail_if_no_progress (with_reducible refine ok_with ?_ ..)) | dsimp only)

theorem ok_execDeferredCandidateRetry (b : Nat) (last : Bool) {s : State} (hOk : Ok T0 S0 s)
    (hT : Within 0x20000100000000000000000017c00000000000000000014004848 T0 := by first | with_reducible assumption | exact sub_trans hT rfl) : ∃ sNext, execDeferredCandidateRetry b last s = .next sNext ∧ Ok T0 S0 sNext := by
  unfold execDeferredCandidateRetry
  refine ⟨_, rfl, ?_⟩
  repeat' (first
    | with_reducible assumption | (exact sub_trans hT rfl) | with_reducible apply ok_planeRefuse
    | with_reducible apply ok_guardDecide | with_reducible apply ok_candidate | with_reducible apply ok_dropDeferred
    | (fail_if_no_progress (with_reducible refine ok_with ?_ ..)) | split | dsimp only)

theorem ok_planeSelWrite {s : State} (b : Nat) (v : Word) (hOk : Ok T0 S0 s)
    (hT : Within 0x6600000000000000000000000808 T0 := by first | with_reducible assumption | exact sub_trans hT rfl) : Ok T0 S0 (State.planeSelWrite s b v) := by
  unfold State.planeSelWrite
  repeat' (first
    | with_reducible assumption | (exact rfl) | (exact sub_trans hT rfl) | with_reducible apply ok_set
    | with_reducible apply ok_planeRefuse | (fail_if_no_progress (with_reducible refine ok_with ?_ ..)) | split
    | dsimp only)

theorem ok_execPlaneSelSwitch (src : Src) (b : Nat) (v : Word) {s : State} (hOk : Ok T0 S0 s)
    (hT : Within 0x6600000000000000000000000808 T0 := by first | with_reducible assumption | exact sub_trans hT rfl) : ∃ sNext, execPlaneSelSwitch src b v s = .next sNext ∧ Ok T0 S0 sNext := by
  unfold execPlaneSelSwitch
  refine ⟨_, rfl, ?_⟩
  repeat' (first
    | with_reducible assumption | (exact sub_trans hT rfl) | with_reducible apply ok_planeSelWrite | split
    | dsimp only)

theorem ok_execPlaneSelOnline (src : Src) (b : Nat) (v : Word) {s : State} (hOk : Ok T0 S0 s)
    (hT : Within 0x6600000000000000000000000808 T0 := by first | with_reducible assumption | exact sub_trans hT rfl) : ∃ sNext, execPlaneSelOnline src b v s = .next sNext ∧ Ok T0 S0 sNext := by
  unfold execPlaneSelOnline
  refine ⟨_, rfl, ?_⟩
  repeat' (first
    | with_reducible assumption | (exact sub_trans hT rfl) | with_reducible apply ok_planeSelWrite | split
    | dsimp only)

theorem ok_execPlaneSelOffline (src : Src) (b : Nat) (v : Word) {s : State} (hOk : Ok T0 S0 s)
    (hT : Within 0x6600000000000000000000000808 T0 := by first | with_reducible assumption | exact sub_trans hT rfl) : ∃ sNext, execPlaneSelOffline src b v s = .next sNext ∧ Ok T0 S0 sNext := by
  unfold execPlaneSelOffline
  refine ⟨_, rfl, ?_⟩
  repeat' (first
    | with_reducible assumption | (exact sub_trans hT rfl) | with_reducible apply ok_planeSelWrite | split
    | dsimp only)

theorem ok_schedCtlWrite {s : State} (b : Nat) (v : Word) (hOk : Ok T0 S0 s)
    (hT : Within 0x10000000000000000000000000800 T0 := by first | with_reducible assumption | exact sub_trans hT rfl) : Ok T0 S0 (State.schedCtlWrite s b v) := by
  unfold State.schedCtlWrite
  repeat' (first
    | with_reducible assumption | (exact rfl) | (exact sub_trans hT rfl) | with_reducible apply ok_plainWrite
    | with_reducible apply ok_set | with_reducible apply ok_setExpiry
    | (fail_if_no_progress (with_reducible refine ok_with ?_ ..)) | split | dsimp only)

theorem ok_execScheduleEnable (src : Src) (b : Nat) (v : Word) {s : State} (hOk : Ok T0 S0 s)
    (hT : Within 0x10000000000000000000000000800 T0 := by first | with_reducible assumption | exact sub_trans hT rfl) : ∃ sNext, execScheduleEnable src b v s = .next sNext ∧ Ok T0 S0 sNext := by
  unfold execScheduleEnable
  refine ⟨_, rfl, ?_⟩
  repeat' (first
    | with_reducible assumption | (exact sub_trans hT rfl) | with_reducible apply ok_schedCtlWrite | split
    | dsimp only)

theorem ok_execSchedQuantWrite (src : Src) (b : Nat) (v : Word) {s : State} (hOk : Ok T0 S0 s)
    (hT : Within 0x40000000000000000000000000000 T0 := by first | with_reducible assumption | exact sub_trans hT rfl) : ∃ sNext, execSchedQuantWrite src b v s = .next sNext ∧ Ok T0 S0 sNext := by
  unfold execSchedQuantWrite
  refine ⟨_, rfl, ?_⟩
  repeat' (first
    | with_reducible assumption | (exact rfl) | (exact sub_trans hT rfl) | with_reducible apply ok_set | split
    | dsimp only)

theorem ok_execScheduleExpiry (b : Nat) {s : State} (hOk : Ok T0 S0 s)
    (hT : Within 0x800 T0 := by first | with_reducible assumption | exact sub_trans hT rfl) : ∃ sNext, execScheduleExpiry b s = .next sNext ∧ Ok T0 S0 sNext := by
  unfold execScheduleExpiry
  refine ⟨_, rfl, ?_⟩
  repeat' (first
    | with_reducible assumption | (exact rfl) | (exact sub_trans hT rfl) | with_reducible apply ok_setExpiry
    | (fail_if_no_progress (with_reducible refine ok_with ?_ ..)) | split | dsimp only)

theorem ok_clkSrcWrite {s : State} (b : Nat) (p : Nat) (v : Word) (hOk : Ok T0 S0 s)
    (hT : Within 0x800400000000000000000000000000 T0 := by first | with_reducible assumption | exact sub_trans hT rfl) : Ok T0 S0 (State.clkSrcWrite s b p v) := by
  unfold State.clkSrcWrite
  repeat' (first
    | with_reducible assumption | (exact rfl) | (exact sub_trans hT rfl)
    | (with_reducible show _ &&& ~~~(fieldMask _) = _; exact mask_full _ rfl) | with_reducible apply ok_set
    | with_reducible apply ok_setReg | (with_reducible apply ok_foldl; intro _ _ _; beta_reduce) | (intro _) | split
    | dsimp only)

theorem ok_execBenchClksrcWrite (src : Src) (b : Nat) (p : Nat) (v : Word) {s : State} (hOk : Ok T0 S0 s)
    (hT : Within 0x800400000000000000000000000000 T0 := by first | with_reducible assumption | exact sub_trans hT rfl) : ∃ sNext, execBenchClksrcWrite src b p v s = .next sNext ∧ Ok T0 S0 sNext := by
  unfold execBenchClksrcWrite
  refine ⟨_, rfl, ?_⟩
  repeat' (first
    | with_reducible assumption | (exact sub_trans hT rfl) | with_reducible apply ok_clkSrcWrite | split | dsimp only)

theorem ok_surgeWrite {s : State} (src : Src) (c : Nat) (v : Word) (hOk : Ok T0 S0 s)
    (hT : Within 0x2000000000000000000000000000000000000000004000000000000000000000000000030 T0 := by first | with_reducible assumption | exact sub_trans hT rfl) : Ok T0 S0 (State.surgeWrite s src c v) := by
  unfold State.surgeWrite
  repeat' (first
    | with_reducible assumption | (exact rfl) | (exact sub_trans hT rfl) | with_reducible apply ok_w1cWrite
    | with_reducible apply ok_set | with_reducible apply ok_hluRefuse | split | dsimp only)

theorem ok_execSurgeCtlWrite (src : Src) (c : Nat) (v : Word) {s : State} (hOk : Ok T0 S0 s)
    (hT : Within 0x2000000000000000000000000000000000000000004000000000000000000000000000030 T0 := by first | with_reducible assumption | exact sub_trans hT rfl) : ∃ sNext, execSurgeCtlWrite src c v s = .next sNext ∧ Ok T0 S0 sNext := by
  unfold execSurgeCtlWrite
  refine ⟨_, rfl, ?_⟩
  repeat' (first
    | with_reducible assumption | (exact sub_trans hT rfl) | with_reducible apply ok_surgeWrite | split | dsimp only)

theorem ok_execStateInitDone (b : Nat) {s : State} (hOk : Ok T0 S0 s)
    (hT : Within 0x800 T0 := by first | with_reducible assumption | exact sub_trans hT rfl) : ∃ sNext, execStateInitDone b s = .next sNext ∧ Ok T0 S0 sNext := by
  unfold execStateInitDone
  refine ⟨_, rfl, ?_⟩
  repeat' (first
    | with_reducible assumption | (exact sub_trans hT rfl) | with_reducible apply ok_initPlaneState
    | (fail_if_no_progress (with_reducible refine ok_with ?_ ..))
    | (with_reducible apply ok_foldl; intro _ _ _; beta_reduce) | (intro _) | split | dsimp only)

/-! ### Hopper -/

theorem ok_setHop {s : State} (j : Nat) (x : Hopper) (hOk : Ok T0 S0 s)
    (hT : Within 0x10000000 T0 := by first | with_reducible assumption | exact sub_trans hT rfl) : Ok T0 S0 (State.setHop s j x) := by
  unfold State.setHop
  repeat' (first
    | with_reducible assumption | (exact sub_trans hT rfl)
    | (fail_if_no_progress (with_reducible refine ok_with ?_ ..)) | dsimp only)

theorem ok_hopEvt {s : State} (j : Nat) (f : Fld) (hf_f : f.calm = true) (hOk : Ok T0 S0 s)
    (hT : Within 0x8 T0 := by first | with_reducible assumption | exact sub_trans hT rfl)
    (hb_f : Within (regBit f.reg) T0 := by first | with_reducible assumption | exact sub_trans hT rfl) : Ok T0 S0 (State.hopEvt s j f) := by
  unfold State.hopEvt
  repeat' (first
    | with_reducible assumption | (exact rfl) | (exact sub_trans hT rfl) | with_reducible apply ok_set
    | with_reducible apply ok_raiseBench | split | dsimp only)

theorem ok_hopFence {s : State} (j : Nat) (hOk : Ok T0 S0 s)
    (hT : Within 0x80000000000000000010000008 T0 := by first | with_reducible assumption | exact sub_trans hT rfl) : Ok T0 S0 (State.hopFence s j) := by
  unfold State.hopFence
  repeat' (first
    | with_reducible assumption | (exact rfl) | (exact sub_trans hT rfl) | with_reducible apply ok_setHop
    | with_reducible apply ok_hopEvt | (fail_if_no_progress (with_reducible refine ok_with ?_ ..)) | split
    | dsimp only)

theorem ok_hopCut {s : State} (j : Nat) (x : Hopper) (n : Nat) (hOk : Ok T0 S0 s)
    (hT : Within 0xc0000000000000000010000008 T0 := by first | with_reducible assumption | exact sub_trans hT rfl) : Ok T0 S0 (State.hopCut s j x n) := by
  unfold State.hopCut
  repeat' (first
    | with_reducible assumption | (exact rfl) | (exact sub_trans hT rfl) | with_reducible apply ok_inc
    | with_reducible apply ok_setHop | with_reducible apply ok_hopEvt | dsimp only)

theorem ok_hopDrop {s : State} (j : Nat) (hOk : Ok T0 S0 s)
    (hT : Within 0xc0000000000000000000000008 T0 := by first | with_reducible assumption | exact sub_trans hT rfl) : Ok T0 S0 (State.hopDrop s j) := by
  unfold State.hopDrop
  repeat' (first
    | with_reducible assumption | (exact rfl) | (exact sub_trans hT rfl) | with_reducible apply ok_inc
    | with_reducible apply ok_hopEvt | dsimp only)

theorem ok_hopWritePlain {s : State} (j : Nat) (data : Nat) (hOk : Ok T0 S0 s)
    (hT : Within 0xc0000000000000000010000008 T0 := by first | with_reducible assumption | exact sub_trans hT rfl) : Ok T0 S0 (State.hopWritePlain s j data) := by
  unfold State.hopWritePlain
  repeat' (first
    | with_reducible assumption | (exact rfl) | (exact sub_trans hT rfl) | with_reducible apply ok_setHop
    | with_reducible apply ok_hopDrop | (fail_if_no_progress (with_reducible refine ok_with ?_ ..)) | split
    | dsimp only)

theorem ok_hopOpen {s : State} (j : Nat) (data : Nat) (eop : Bool) (hOk : Ok T0 S0 s)
    (hT : Within 0xc0000000000000000010000008 T0 := by first | with_reducible assumption | exact sub_trans hT rfl) : Ok T0 S0 (State.hopOpen s j data eop) := by
  unfold State.hopOpen
  repeat' (first
    | with_reducible assumption | (exact rfl) | (exact sub_trans hT rfl) | with_reducible apply ok_setHop
    | with_reducible apply ok_hopDrop | (fail_if_no_progress (with_reducible refine ok_with ?_ ..)) | split
    | dsimp only)

theorem ok_hopContinue {s : State} (j : Nat) (data : Nat) (n : Nat) (sop : Bool) (eop : Bool) (hOk : Ok T0 S0 s)
    (hT : Within 0xc0000000000000000010000008 T0 := by first | with_reducible assumption | exact sub_trans hT rfl) : Ok T0 S0 (State.hopContinue s j data n sop eop) := by
  unfold State.hopContinue
  repeat' (first
    | with_reducible assumption | (exact rfl) | (exact sub_trans hT rfl) | with_reducible apply ok_setHop
    | with_reducible apply ok_hopCut | with_reducible apply ok_hopDrop | with_reducible apply ok_hopOpen
    | (fail_if_no_progress (with_reducible refine ok_with ?_ ..)) | split | dsimp only)

theorem ok_hopWrite {s : State} (j : Nat) (data : Nat) (sop : Bool) (eop : Bool) (hOk : Ok T0 S0 s)
    (hT : Within 0xc0000000000000000010000008 T0 := by first | with_reducible assumption | exact sub_trans hT rfl) : Ok T0 S0 (State.hopWrite s j data sop eop) := by
  unfold State.hopWrite
  repeat' (first
    | with_reducible assumption | (exact rfl) | (exact sub_trans hT rfl) | with_reducible apply ok_setHop
    | with_reducible apply ok_hopWritePlain | with_reducible apply ok_hopOpen | with_reducible apply ok_hopContinue
    | (fail_if_no_progress (with_reducible refine ok_with ?_ ..)) | split | dsimp only)

theorem ok_execHopperWrite (b : Nat) (h : Nat) (data : Nat) (sop : Bool) (eop : Bool) {s : State} (hOk : Ok T0 S0 s)
    (hT : Within 0xc0000000000000000010000808 T0 := by first | with_reducible assumption | exact sub_trans hT rfl) : ∃ sNext, execHopperWrite b h data sop eop s = .next sNext ∧ Ok T0 S0 sNext := by
  unfold execHopperWrite
  refine ⟨_, rfl, ?_⟩
  repeat' (first
    | with_reducible assumption | (exact rfl) | (exact sub_trans hT rfl) | with_reducible apply ok_setBnd
    | with_reducible apply ok_hopFence | with_reducible apply ok_hopWrite
    | (fail_if_no_progress (with_reducible refine ok_with ?_ ..)) | split | dsimp only)

theorem ok_hopIdleShown {s : State} (j : Nat) (hOk : Ok T0 S0 s)
    (hT : Within 0x4 T0 := by first | with_reducible assumption | exact sub_trans hT rfl) : Ok T0 S0 (State.hopIdleShown s j) := by
  unfold State.hopIdleShown
  repeat' (first
    | with_reducible assumption | (exact rfl) | (exact sub_trans hT rfl) | with_reducible apply ok_emit | split
    | dsimp only)

theorem ok_hopRead {s : State} (j : Nat) (hOk : Ok T0 S0 s)
    (hT : Within 0x10000004 T0 := by first | with_reducible assumption | exact sub_trans hT rfl) : Ok T0 S0 (State.hopRead s j) := by
  unfold State.hopRead
  repeat' (first
    | with_reducible assumption | (exact rfl) | (exact sub_trans hT rfl) | with_reducible apply ok_emit
    | with_reducible apply ok_setHop | with_reducible apply ok_hopIdleShown
    | (fail_if_no_progress (with_reducible refine ok_with ?_ ..)) | split | dsimp only)

theorem ok_execHopperRead (b : Nat) (h : Nat) {s : State} (hOk : Ok T0 S0 s)
    (hT : Within 0x8000000000000000001000000c T0 := by first | with_reducible assumption | exact sub_trans hT rfl) : ∃ sNext, execHopperRead b h s = .next sNext ∧ Ok T0 S0 sNext := by
  unfold execHopperRead
  refine ⟨_, rfl, ?_⟩
  repeat' (first
    | with_reducible assumption | (exact rfl) | (exact sub_trans hT rfl) | with_reducible apply ok_hopFence
    | with_reducible apply ok_hopIdleShown | with_reducible apply ok_hopRead
    | (fail_if_no_progress (with_reducible refine ok_with ?_ ..)) | split | dsimp only)

theorem ok_execHopperFlush (src : Src) (b : Nat) (h : Nat) (v : Word) {s : State} (hOk : Ok T0 S0 s)
    (hT : Within 0x10000000 T0 := by first | with_reducible assumption | exact sub_trans hT rfl) : ∃ sNext, execHopperFlush src b h v s = .next sNext ∧ Ok T0 S0 sNext := by
  unfold execHopperFlush
  refine ⟨_, rfl, ?_⟩
  repeat' (first
    | with_reducible assumption | (exact rfl) | (exact sub_trans hT rfl) | with_reducible apply ok_setHop | split
    | dsimp only)

theorem ok_execHopperFlushApply (b : Nat) (h : Nat) (readSide : Bool) {s : State} (hOk : Ok T0 S0 s)
    (hT : Within 0x10000000 T0 := by first | with_reducible assumption | exact sub_trans hT rfl) : ∃ sNext, execHopperFlushApply b h readSide s = .next sNext ∧ Ok T0 S0 sNext := by
  unfold execHopperFlushApply
  refine ⟨_, rfl, ?_⟩
  repeat' (first
    | with_reducible assumption | (exact rfl) | (exact sub_trans hT rfl) | with_reducible apply ok_setHop | split
    | dsimp only)

theorem ok_tailCycles {s : State} (j : Nat) (n : Nat) (hOk : Ok T0 S0 s)
    (hT : Within 0x10000000 T0 := by first | with_reducible assumption | exact sub_trans hT rfl) : Ok T0 S0 (State.tailCycles s j n) := by
  unfold State.tailCycles
  repeat' (first
    | with_reducible assumption | (exact rfl) | (exact sub_trans hT rfl) | with_reducible apply ok_setHop
    | (fail_if_no_progress (with_reducible refine ok_with ?_ ..)) | split | dsimp only)

theorem ok_tailEdge {s : State} (b : Nat) (clk : Nat) (hOk : Ok T0 S0 s)
    (hT : Within 0x10000000 T0 := by first | with_reducible assumption | exact sub_trans hT rfl) : Ok T0 S0 (State.tailEdge s b clk) := by
  unfold State.tailEdge
  repeat' (first
    | with_reducible assumption | (exact rfl) | (exact sub_trans hT rfl) | with_reducible apply ok_tailCycles
    | (with_reducible apply ok_foldl; intro _ _ _; beta_reduce) | (intro _) | split | dsimp only)

theorem ok_tailTime {s : State} (ns : Nat) (hOk : Ok T0 S0 s)
    (hT : Within 0x10000000 T0 := by first | with_reducible assumption | exact sub_trans hT rfl) : Ok T0 S0 (State.tailTime s ns) := by
  unfold State.tailTime
  repeat' (first
    | with_reducible assumption | (exact rfl) | (exact sub_trans hT rfl) | with_reducible apply ok_tailCycles
    | (with_reducible apply ok_foldl; intro _ _ _; beta_reduce) | (intro _) | split | dsimp only)

theorem ok_execHopperTailTimeout (b : Nat) (h : Nat) {s : State} (hOk : Ok T0 S0 s)
    (hT : Within 0x80000000000000000010000008 T0 := by first | with_reducible assumption | exact sub_trans hT rfl) : ∃ sNext, execHopperTailTimeout b h s = .next sNext ∧ Ok T0 S0 sNext := by
  unfold execHopperTailTimeout
  refine ⟨_, rfl, ?_⟩
  repeat' (first
    | with_reducible assumption | (exact rfl) | (exact sub_trans hT rfl) | with_reducible apply ok_setHop
    | with_reducible apply ok_hopEvt | (fail_if_no_progress (with_reducible refine ok_with ?_ ..)) | split
    | dsimp only)

theorem ok_execFabricClockEdge (edges : List (Nat × Nat)) (late : List (Nat × Nat × Nat)) {s : State} (hOk : Ok T0 S0 s)
    (hT : Within 0x400000000000000000000014000802 T0 := by first | with_reducible assumption | exact sub_trans hT rfl) : ∃ sNext, execFabricClockEdge edges late s = .next sNext ∧ Ok T0 S0 sNext := by
  unfold execFabricClockEdge
  refine ⟨_, rfl, ?_⟩
  repeat' (first
    | with_reducible assumption | (exact sub_trans hT rfl) | with_reducible apply ok_countEdge
    | with_reducible apply ok_benchEdge | with_reducible apply ok_tailEdge
    | (fail_if_no_progress (with_reducible refine ok_with ?_ ..))
    | (with_reducible apply ok_foldl; intro _ _ _; beta_reduce) | (intro _) | split | dsimp only)

theorem ok_hopCfgWrite {s : State} (j : Nat) (v : Word) (hOk : Ok T0 S0 s)
    (hT : Within 0x500000000000000010000000 T0 := by first | with_reducible assumption | exact sub_trans hT rfl) : Ok T0 S0 (State.hopCfgWrite s j v) := by
  unfold State.hopCfgWrite
  repeat' (first
    | with_reducible assumption | (exact rfl) | (exact sub_trans hT rfl) | with_reducible apply ok_plainWrite
    | with_reducible apply ok_set | with_reducible apply ok_setHop | split | dsimp only)

theorem ok_execHopCfgWrite (src : Src) (b : Nat) (h : Nat) (v : Word) {s : State} (hOk : Ok T0 S0 s)
    (hT : Within 0x500000000000000010000000 T0 := by first | with_reducible assumption | exact sub_trans hT rfl) : ∃ sNext, execHopCfgWrite src b h v s = .next sNext ∧ Ok T0 S0 sNext := by
  unfold execHopCfgWrite
  refine ⟨_, rfl, ?_⟩
  repeat' (first
    | with_reducible assumption | (exact sub_trans hT rfl) | with_reducible apply ok_hopCfgWrite | split | dsimp only)

theorem ok_hopOwnerWrite {s : State} (j : Nat) (v : Word) (hOk : Ok T0 S0 s)
    (hT : Within 0x20000000000000000010000000 T0 := by first | with_reducible assumption | exact sub_trans hT rfl) : Ok T0 S0 (State.hopOwnerWrite s j v) := by
  unfold State.hopOwnerWrite
  repeat' (first
    | with_reducible assumption | (exact rfl) | (exact sub_trans hT rfl) | with_reducible apply ok_plainWrite
    | with_reducible apply ok_setHop | split | dsimp only)

theorem ok_execHopOwnerWrite (src : Src) (b : Nat) (h : Nat) (v : Word) {s : State} (hOk : Ok T0 S0 s)
    (hT : Within 0x20000000000000000010000000 T0 := by first | with_reducible assumption | exact sub_trans hT rfl) : ∃ sNext, execHopOwnerWrite src b h v s = .next sNext ∧ Ok T0 S0 sNext := by
  unfold execHopOwnerWrite
  refine ⟨_, rfl, ?_⟩
  repeat' (first
    | with_reducible assumption | (exact sub_trans hT rfl) | with_reducible apply ok_hopOwnerWrite | split
    | dsimp only)

/-! ### Memt -/

theorem ok_setBlk {s : State} (b : Nat) (n : Nat) (x : MemBlock) (hOk : Ok T0 S0 s)
    (hT : Within 0x4000 T0 := by first | with_reducible assumption | exact sub_trans hT rfl) : Ok T0 S0 (State.setBlk s b n x) := by
  unfold State.setBlk
  repeat' (first
    | with_reducible assumption | (exact sub_trans hT rfl)
    | (fail_if_no_progress (with_reducible refine ok_with ?_ ..)) | dsimp only)

theorem ok_putArrayWord {s : State} (key : Nat) (cw : Option Nat) (copies : Option Nat) (hOk : Ok T0 S0 s)
    (hT : Within 0x4000 T0 := by first | with_reducible assumption | exact sub_trans hT rfl) : Ok T0 S0 (State.putArrayWord s key cw copies) := by
  unfold State.putArrayWord
  repeat' (first
    | with_reducible assumption | (exact sub_trans hT rfl)
    | (fail_if_no_progress (with_reducible refine ok_with ?_ ..)) | dsimp only)

theorem ok_setArrayWord {s : State} (b : Nat) (n : Nat) (wd : Nat) (x : Option Nat) (hOk : Ok T0 S0 s)
    (hT : Within 0x4000 T0 := by first | with_reducible assumption | exact sub_trans hT rfl) : Ok T0 S0 (State.setArrayWord s b n wd x) := by
  unfold State.setArrayWord
  repeat' (first
    | with_reducible assumption | (exact sub_trans hT rfl) | with_reducible apply ok_putArrayWord | dsimp only)

theorem ok_setMemWord {s : State} (b : Nat) (n : Nat) (wd : Nat) (x : Option Nat) (hOk : Ok T0 S0 s)
    (hT : Within 0x4000 T0 := by first | with_reducible assumption | exact sub_trans hT rfl) : Ok T0 S0 (State.setMemWord s b n wd x) := by
  unfold State.setMemWord
  repeat' (first
    | with_reducible assumption | (exact rfl) | (exact sub_trans hT rfl) | with_reducible apply ok_setBlk
    | with_reducible apply ok_setArrayWord | (fail_if_no_progress (with_reducible refine ok_with ?_ ..)) | split
    | dsimp only)

theorem ok_upsetArray {s : State} (key : Nat) (m : Nat) (hOk : Ok T0 S0 s)
    (hT : Within 0x4000 T0 := by first | with_reducible assumption | exact sub_trans hT rfl) : Ok T0 S0 (State.upsetArray s key m) := by
  unfold State.upsetArray
  repeat' (first
    | with_reducible assumption | (exact sub_trans hT rfl) | with_reducible apply ok_putArrayWord
    | (fail_if_no_progress (with_reducible refine ok_with ?_ ..)) | split | dsimp only)

theorem ok_upsetWords {s : State} (b : Nat) (n : Nat) (ups : List (Nat × Nat)) (hOk : Ok T0 S0 s)
    (hT : Within 0x4000 T0 := by first | with_reducible assumption | exact sub_trans hT rfl) : Ok T0 S0 (State.upsetWords s b n ups) := by
  unfold State.upsetWords
  repeat' (first
    | with_reducible assumption | (exact rfl) | (exact sub_trans hT rfl) | with_reducible apply ok_setBlk
    | with_reducible apply ok_upsetArray | (fail_if_no_progress (with_reducible refine ok_with ?_ ..))
    | (with_reducible apply ok_foldl; intro _ _ _; beta_reduce) | (intro _) | split | dsimp only)

theorem ok_memEvt {s : State} (b bit sev block wd : Nat) (hOk : Ok T0 S0 s)
    (hT : Within 0x10000000000000000000018 T0 := by first | with_reducible assumption | exact sub_trans hT rfl) :
    Ok T0 S0 (s.memEvt b bit sev block wd) := by
  have hf : (⟨.MEMT_EVT, bit, if bit < 7 then 1 else 0⟩ : Fld).calm = true := by
    by_cases h : bit < 7
    · interval_cases bit <;> rfl
    · simp only [Fld.calm, calmReg, Fld.ok, if_neg h]
      simp
      exact .inl (.inl (by decide))
  have h1 : Ok T0 S0 (s.set ⟨.MEMT_EVT, bit, if bit < 7 then 1 else 0⟩ b 1) :=
    ok_set hf hOk (show Within (regBit .MEMT_EVT) T0 from sub_trans hT rfl)
  unfold State.memEvt
  generalize s.set ⟨.MEMT_EVT, bit, if bit < 7 then 1 else 0⟩ b 1 = s1 at h1
  dsimp only
  split
  · split
    · exact ok_raiseBench _ _ h1
    · exact h1
  · refine ok_wlog _ _ _ _ ?_
    split
    · exact ok_raiseBench _ _ h1
    · exact h1

theorem ok_memUe {s : State} (b : Nat) (n : Nat) (wd : Nat) (src : Nat) (o : EccOut) (hOk : Ok T0 S0 s)
    (hT : Within 0xd4000000000000000000018 T0 := by first | with_reducible assumption | exact sub_trans hT rfl) : Ok T0 S0 (State.memUe s b n wd src o) := by
  unfold State.memUe
  repeat' (first
    | with_reducible assumption | (exact rfl) | (exact sub_trans hT rfl) | with_reducible apply ok_set
    | with_reducible apply ok_inc | with_reducible apply ok_memEvt | split | dsimp only)

theorem ok_memCe {s : State} (b : Nat) (n : Nat) (wd : Nat) (hOk : Ok T0 S0 s)
    (hT : Within 0x14000000000000000000018 T0 := by first | with_reducible assumption | exact sub_trans hT rfl) : Ok T0 S0 (State.memCe s b n wd) := by
  unfold State.memCe
  repeat' (first
    | with_reducible assumption | (exact rfl) | (exact sub_trans hT rfl) | with_reducible apply ok_inc
    | with_reducible apply ok_memEvt | dsimp only)

theorem ok_hardFault {s : State} (b : Nat) (n : Nat) (wd : Nat) (o : EccOut) (hOk : Ok T0 S0 s)
    (hT : Within 0x1000000000000000000429c T0 := by first | with_reducible assumption | exact sub_trans hT rfl) : Ok T0 S0 (State.hardFault s b n wd o) := by
  unfold State.hardFault
  repeat' (first
    | with_reducible assumption | (exact rfl) | (exact sub_trans hT rfl) | with_reducible apply ok_spoilAdd
    | with_reducible apply ok_setBlk | with_reducible apply ok_memEvt
    | (fail_if_no_progress (with_reducible refine ok_with ?_ ..)) | split | dsimp only)

theorem ok_watchError {s : State} (b : Nat) (n : Nat) (wd : Nat) (o : EccOut) (hOk : Ok T0 S0 s)
    (hT : Within 0x1000000000000000000429c T0 := by first | with_reducible assumption | exact sub_trans hT rfl) : Ok T0 S0 (State.watchError s b n wd o) := by
  unfold State.watchError
  repeat' (first
    | with_reducible assumption | (exact rfl) | (exact sub_trans hT rfl) | with_reducible apply ok_setBlk
    | with_reducible apply ok_hardFault | (fail_if_no_progress (with_reducible refine ok_with ?_ ..)) | split
    | dsimp only)

theorem ok_checkedReadFrom {old : State} {s : State} (b : Nat) (n : Nat) (wd : Nat) (src : Nat) (hOk : Ok T0 S0 s)
    (hT : Within 0xd400000000000000000429c T0 := by first | with_reducible assumption | exact sub_trans hT rfl) : Ok T0 S0 (State.checkedReadFrom old s b n wd src).2.2.2.2 := by
  unfold State.checkedReadFrom
  repeat' (first
    | with_reducible assumption | (exact rfl) | (exact sub_trans hT rfl) | with_reducible apply ok_setMemWord
    | with_reducible apply ok_memUe | with_reducible apply ok_memCe | with_reducible apply ok_watchError
    | (fail_if_no_progress (with_reducible refine ok_with ?_ ..)) | split | dsimp only)

theorem ok_checkedRead {s : State} (b : Nat) (n : Nat) (wd : Nat) (src : Nat) (hOk : Ok T0 S0 s)
    (hT : Within 0xd400000000000000000429c T0 := by first | with_reducible assumption | exact sub_trans hT rfl) : Ok T0 S0 (State.checkedRead s b n wd src).2.2.2.2 := by
  unfold State.checkedRead
  repeat' (first
    | with_reducible assumption | (exact sub_trans hT rfl) | with_reducible apply ok_checkedReadFrom | dsimp only)

theorem ok_writeWord {s : State} (b : Nat) (ph : Nat) (wd : Nat) (be : Nat) (data : Nat) (poison : Bool) (mask : Bool) (hOk : Ok T0 S0 s)
    (hT : Within 0x4000 T0 := by first | with_reducible assumption | exact sub_trans hT rfl) : Ok T0 S0 (State.writeWord s b ph wd be data poison mask) := by
  unfold State.writeWord
  repeat' (first
    | with_reducible assumption | (exact rfl) | (exact sub_trans hT rfl) | with_reducible apply ok_setBlk
    | with_reducible apply ok_setMemWord | (fail_if_no_progress (with_reducible refine ok_with ?_ ..)) | split
    | dsimp only)

theorem ok_writeBack {s : State} (b : Nat) (ph : Nat) (i : WbItem) (hOk : Ok T0 S0 s)
    (hT : Within 0x4000 T0 := by first | with_reducible assumption | exact sub_trans hT rfl) : Ok T0 S0 (State.writeBack s b ph i) := by
  unfold State.writeBack
  repeat' (first
    | with_reducible assumption | (exact rfl) | (exact sub_trans hT rfl) | with_reducible apply ok_setMemWord
    | (with_reducible apply ok_foldl; intro _ _ _; beta_reduce) | (intro _) | dsimp only)

theorem ok_serveWb {s : State} (b : Nat) (ph : Nat) (port : Nat) (en : Bool) (hOk : Ok T0 S0 s)
    (hT : Within 0x4000 T0 := by first | with_reducible assumption | exact sub_trans hT rfl) : Ok T0 S0 (State.serveWb s b ph port en).2 := by
  unfold State.serveWb
  repeat' (first
    | with_reducible assumption | (exact rfl) | (exact sub_trans hT rfl) | with_reducible apply ok_setBlk
    | with_reducible apply ok_writeBack | (fail_if_no_progress (with_reducible refine ok_with ?_ ..)) | split
    | dsimp only)

theorem ok_portRead (old : State) {s : State} (b n port w u : Nat) (hOk : Ok T0 S0 s)
    (hT : Within 0xd400000000000000000429c T0 := by first | with_reducible assumption | exact sub_trans hT rfl) :
    Ok T0 S0 (old.portRead s b n port w u).2 := by
  have hr : ∀ (l : List (Nat × Nat × Nat × Nat)) (a : Nat × Bool × Bool × List (Nat × Nat) × State), Ok T0 S0 a.2.2.2.2 →
      Ok T0 S0 (l.foldl (fun (acc : Nat × Bool × Bool × List (Nat × Nat) × State) (l : Nat × Nat × Nat × Nat) =>
        let q := old.checkedReadFrom acc.2.2.2.2 b n l.1 port
        (acc.1 + bitsOf q.1 (8 * l.2.1) (8 * l.2.2.1) * 2 ^ (8 * l.2.2.2), acc.2.1 || q.2.1, acc.2.2.1 || q.2.2.1,
          if q.2.2.2.1 then acc.2.2.2.1 ++ [(l.1, q.1)] else acc.2.2.2.1, q.2.2.2.2)) a).2.2.2.2 := by
    intro l
    induction l with
    | nil => exact fun a h => h
    | cons x l ih => exact fun a h => ih _ (ok_checkedReadFrom _ _ _ _ h)
  unfold State.portRead
  dsimp only
  split
  · exact hr _ _ hOk
  · exact ok_setBlk _ _ _ (hr _ _ hOk)

theorem ok_portWritesRun {s : State} (b ph : Nat) (wa wb : List (Nat × Nat × Nat)) (hOk : Ok T0 S0 s)
    (hT : Within 0x4000 T0 := by first | with_reducible assumption | exact sub_trans hT rfl) :
    Ok T0 S0 (s.portWritesRun b ph wa wb) := by
  unfold State.portWritesRun
  refine ok_foldl_snd (fun a x h => ok_writeWord _ _ _ _ _ _ _ h) (ok_foldl_snd (fun a x h => ?_) hOk)
  split <;> exact ok_writeWord _ _ _ _ _ _ _ h

theorem ok_memFence {s : State} (b : Nat) (n : Nat) (wd : Nat) (hOk : Ok T0 S0 s)
    (hT : Within 0x18000000000000000004018 T0 := by first | with_reducible assumption | exact sub_trans hT rfl) : Ok T0 S0 (State.memFence s b n wd) := by
  unfold State.memFence
  repeat' (first
    | with_reducible assumption | (exact rfl) | (exact sub_trans hT rfl) | with_reducible apply ok_inc
    | with_reducible apply ok_memEvt | (fail_if_no_progress (with_reducible refine ok_with ?_ ..)) | split
    | dsimp only)

theorem ok_portGate {s : State} (b : Nat) (p : Nat) (n : Nat) (port : Nat) (i : PortIn) (hOk : Ok T0 S0 s)
    (hT : Within 0x18000000000000000004018 T0 := by first | with_reducible assumption | exact sub_trans hT rfl) : Ok T0 S0 (State.portGate s b p n port i).2 := by
  unfold State.portGate
  repeat' (first
    | with_reducible assumption | (exact rfl) | (exact sub_trans hT rfl) | with_reducible apply ok_setBlk
    | with_reducible apply ok_serveWb | with_reducible apply ok_memFence
    | (fail_if_no_progress (with_reducible refine ok_with ?_ ..)) | split | dsimp only)

theorem ok_portReadStep {old : State} {s : State} (b : Nat) (p : Nat) (n : Nat) (port : Nat) (g : Option (Nat × Bool)) (hOk : Ok T0 S0 s)
    (hT : Within 0xd400000000000000000429c T0 := by first | with_reducible assumption | exact sub_trans hT rfl) : Ok T0 S0 (State.portReadStep old s b p n port g) := by
  unfold State.portReadStep
  repeat' (first
    | with_reducible assumption | (exact rfl) | (exact sub_trans hT rfl) | with_reducible apply ok_setBlk
    | with_reducible apply ok_portRead | (fail_if_no_progress (with_reducible refine ok_with ?_ ..)) | split
    | dsimp only)

theorem ok_portAccess {s : State} (b : Nat) (n : Nat) (inA : PortIn) (inB : PortIn) (ups : List (Nat × Nat)) (hOk : Ok T0 S0 s)
    (hT : Within 0xdc00000000000000000429c T0 := by first | with_reducible assumption | exact sub_trans hT rfl) : Ok T0 S0 (State.portAccess s b n inA inB ups) := by
  unfold State.portAccess
  repeat' (first
    | with_reducible assumption | (exact rfl) | (exact sub_trans hT rfl) | with_reducible apply ok_upsetWords
    | with_reducible apply ok_portWritesRun | with_reducible apply ok_portGate | with_reducible apply ok_portReadStep
    | (fail_if_no_progress (with_reducible refine ok_with ?_ ..)) | split | dsimp only)

theorem ok_execPortAccess (b : Nat) (n : Nat) (inA : PortIn) (inB : PortIn) (ups : List (Nat × Nat)) {s : State} (hOk : Ok T0 S0 s)
    (hT : Within 0xdc00000000000000000429c T0 := by first | with_reducible assumption | exact sub_trans hT rfl) : ∃ sNext, execPortAccess b n inA inB ups s = .next sNext ∧ Ok T0 S0 sNext := by
  unfold execPortAccess
  refine ⟨_, rfl, ?_⟩
  repeat' (first
    | with_reducible assumption | (exact sub_trans hT rfl) | with_reducible apply ok_portAccess | dsimp only)

theorem ok_execCorrectionWriteBack (b : Nat) (n : Nat) (port : Nat) {s : State} (hOk : Ok T0 S0 s)
    (hT : Within 0x4000 T0 := by first | with_reducible assumption | exact sub_trans hT rfl) : ∃ sNext, execCorrectionWriteBack b n port s = .next sNext ∧ Ok T0 S0 sNext := by
  unfold execCorrectionWriteBack
  refine ⟨_, rfl, ?_⟩
  repeat' (first
    | with_reducible assumption | (exact rfl) | (exact sub_trans hT rfl) | with_reducible apply ok_setBlk
    | with_reducible apply ok_serveWb | split | dsimp only)

theorem ok_waitShares {s : State} (b : Nat) (l : List MemReq) (hOk : Ok T0 S0 s)
    (hT : Within 0x4000 T0 := by first | with_reducible assumption | exact sub_trans hT rfl) : Ok T0 S0 (State.waitShares s b l) := by
  unfold State.waitShares
  repeat' (first
    | with_reducible assumption | (exact sub_trans hT rfl)
    | (fail_if_no_progress (with_reducible refine ok_with ?_ ..)) | split | dsimp only)

theorem ok_setMemReqs {s : State} (b : Nat) (l : List MemReq) (hOk : Ok T0 S0 s)
    (hT : Within 0x4000 T0 := by first | with_reducible assumption | exact sub_trans hT rfl) : Ok T0 S0 (State.setMemReqs s b l) := by
  unfold State.setMemReqs
  repeat' (first
    | with_reducible assumption | (exact sub_trans hT rfl) | with_reducible apply ok_waitShares
    | (fail_if_no_progress (with_reducible refine ok_with ?_ ..)) | dsimp only)

theorem ok_memAnswer {s : State} (b : Nat) (hdr : Nat) (status : Nat) (data : List (Nat × Bool)) (hOk : Ok T0 S0 s)
    (hT : Within 0x404 T0 := by first | with_reducible assumption | exact sub_trans hT rfl) : Ok T0 S0 (State.memAnswer s b hdr status data) := by
  unfold State.memAnswer
  repeat' (first
    | with_reducible assumption | (exact sub_trans hT rfl) | with_reducible apply ok_inject | split | dsimp only)

theorem ok_loadAck {s : State} (n : Nat) (status : Nat) (hOk : Ok T0 S0 s)
    (hT : Within 0x2000 T0 := by first | with_reducible assumption | exact sub_trans hT rfl) : Ok T0 S0 (State.loadAck s n status) := by
  unfold State.loadAck
  repeat' (first
    | with_reducible assumption | (exact sub_trans hT rfl)
    | (fail_if_no_progress (with_reducible refine ok_with ?_ ..)) | split | dsimp only)

theorem ok_memEnd {s : State} (b : Nat) (r : MemReq) (hOk : Ok T0 S0 s)
    (hT : Within 0x2404 T0 := by first | with_reducible assumption | exact sub_trans hT rfl) : Ok T0 S0 (State.memEnd s b r) := by
  unfold State.memEnd
  repeat' (first
    | with_reducible assumption | (exact sub_trans hT rfl) | with_reducible apply ok_memAnswer
    | with_reducible apply ok_loadAck | (fail_if_no_progress (with_reducible refine ok_with ?_ ..)) | split
    | dsimp only)

theorem ok_memArrive {s : State} (b : Nat) (arr : Option (Nat × List (Nat × Bool))) (hOk : Ok T0 S0 s)
    (hT : Within 0x4404 T0 := by first | with_reducible assumption | exact sub_trans hT rfl) : Ok T0 S0 (State.memArrive s b arr) := by
  unfold State.memArrive
  repeat' (first
    | with_reducible assumption | (exact rfl) | (exact sub_trans hT rfl) | with_reducible apply ok_setMemReqs
    | with_reducible apply ok_memAnswer | (fail_if_no_progress (with_reducible refine ok_with ?_ ..)) | split
    | dsimp only)

theorem ok_memWordStep {s : State} (b : Nat) (n : Nat) (r : MemReq) (hOk : Ok T0 S0 s)
    (hT : Within 0xd400000000000000000429c T0 := by first | with_reducible assumption | exact sub_trans hT rfl) : Ok T0 S0 (State.memWordStep s b n r).2 := by
  unfold State.memWordStep
  repeat' (first
    | with_reducible assumption | (exact rfl) | (exact sub_trans hT rfl) | with_reducible apply ok_setBlk
    | with_reducible apply ok_checkedRead | with_reducible apply ok_writeWord
    | (fail_if_no_progress (with_reducible refine ok_with ?_ ..)) | split | dsimp only)

theorem ok_memServe {s : State} (b : Nat) (n : Nat) (r : MemReq) (hOk : Ok T0 S0 s)
    (hT : Within 0xd400000000000000000669c T0 := by first | with_reducible assumption | exact sub_trans hT rfl) : Ok T0 S0 (State.memServe s b n r) := by
  unfold State.memServe
  repeat' (first
    | with_reducible assumption | (exact rfl) | (exact sub_trans hT rfl) | with_reducible apply ok_setMemReqs
    | with_reducible apply ok_memEnd | with_reducible apply ok_memWordStep | split | dsimp only)

theorem ok_haulMemory {s : State} (b : Nat) (n : Nat) (fabEn : Bool) (ups : List (Nat × Nat)) (hOk : Ok T0 S0 s)
    (hT : Within 0xd400000000000000000669c T0 := by first | with_reducible assumption | exact sub_trans hT rfl) : Ok T0 S0 (State.haulMemory s b n fabEn ups) := by
  unfold State.haulMemory
  repeat' (first
    | with_reducible assumption | (exact rfl) | (exact sub_trans hT rfl) | with_reducible apply ok_setBlk
    | with_reducible apply ok_upsetWords | with_reducible apply ok_memServe
    | (fail_if_no_progress (with_reducible refine ok_with ?_ ..)) | split | dsimp only)

theorem ok_execHaulMemoryAccess (b : Nat) (n : Nat) (arr : Bool) (q0 : Nat) (q1 : Nat) (q2 : Nat) (flits : List (Nat × Bool)) (fabEn : Bool) (ups : List (Nat × Nat)) {s : State} (hOk : Ok T0 S0 s)
    (hT : Within 0xd400000000000000000669c T0 := by first | with_reducible assumption | exact sub_trans hT rfl) : ∃ sNext, execHaulMemoryAccess b n arr q0 q1 q2 flits fabEn ups s = .next sNext ∧ Ok T0 S0 sNext := by
  unfold execHaulMemoryAccess
  refine ⟨_, rfl, ?_⟩
  repeat' (first
    | with_reducible assumption | (exact rfl) | (exact sub_trans hT rfl) | with_reducible apply ok_memArrive
    | with_reducible apply ok_haulMemory | split | dsimp only)

theorem ok_memUnreachable {s : State} (b : Nat) (f : MemReq → Bool) (hOk : Ok T0 S0 s)
    (hT : Within 0x200000000000000000000000000000000000000000006404 T0 := by first | with_reducible assumption | exact sub_trans hT rfl) : Ok T0 S0 (State.memUnreachable s b f) := by
  unfold State.memUnreachable
  repeat' (first
    | with_reducible assumption | (exact rfl) | (exact sub_trans hT rfl) | with_reducible apply ok_inc
    | with_reducible apply ok_setMemReqs | with_reducible apply ok_memAnswer | with_reducible apply ok_loadAck
    | (fail_if_no_progress (with_reducible refine ok_with ?_ ..))
    | (with_reducible apply ok_foldl; intro _ _ _; beta_reduce) | (intro _) | split | dsimp only)

theorem ok_patrolRead {s : State} (b : Nat) (ups : List (Nat × Nat)) (hOk : Ok T0 S0 s)
    (hT : Within 0xd600000000000000000429c T0 := by first | with_reducible assumption | exact sub_trans hT rfl) : Ok T0 S0 (State.patrolRead s b ups) := by
  unfold State.patrolRead
  repeat' (first
    | with_reducible assumption | (exact rfl) | (exact sub_trans hT rfl) | with_reducible apply ok_incWrap
    | with_reducible apply ok_set | with_reducible apply ok_upsetWords | with_reducible apply ok_checkedRead
    | with_reducible apply ok_writeBack | (fail_if_no_progress (with_reducible refine ok_with ?_ ..)) | split
    | dsimp only)

theorem ok_patrolNext {s : State} (b : Nat) (hOk : Ok T0 S0 s)
    (hT : Within 0x20000000 T0 := by first | with_reducible assumption | exact sub_trans hT rfl) : Ok T0 S0 (State.patrolNext s b) := by
  unfold State.patrolNext
  repeat' (first
    | with_reducible assumption | (exact rfl) | (exact sub_trans hT rfl) | with_reducible apply ok_setTimer
    | with_reducible apply ok_startTimer | split | dsimp only)

theorem ok_execPatrolStep (b : Nat) (ups : List (Nat × Nat)) {s : State} (hOk : Ok T0 S0 s)
    (hT : Within 0xd600000000000002000429c T0 := by first | with_reducible assumption | exact sub_trans hT rfl) : ∃ sNext, execPatrolStep b ups s = .next sNext ∧ Ok T0 S0 sNext := by
  unfold execPatrolStep
  refine ⟨_, rfl, ?_⟩
  repeat' (first
    | with_reducible assumption | (exact rfl) | (exact sub_trans hT rfl) | with_reducible apply ok_patrolRead
    | with_reducible apply ok_patrolNext | split | dsimp only)

theorem ok_execPatrolForcedCycle (b : Nat) (ups : List (Nat × Nat)) {s : State} (hOk : Ok T0 S0 s)
    (hT : Within 0xd600000000000002000429c T0 := by first | with_reducible assumption | exact sub_trans hT rfl) : ∃ sNext, execPatrolForcedCycle b ups s = .next sNext ∧ Ok T0 S0 sNext := by
  unfold execPatrolForcedCycle
  refine ⟨_, rfl, ?_⟩
  repeat' (first
    | with_reducible assumption | (exact rfl) | (exact sub_trans hT rfl) | with_reducible apply ok_setBlk
    | with_reducible apply ok_patrolRead | with_reducible apply ok_patrolNext
    | (fail_if_no_progress (with_reducible refine ok_with ?_ ..)) | split | dsimp only)

theorem ok_copyWords {s : State} (b : Nat) (from_ : Nat) (to_ : Nat) (hOk : Ok T0 S0 s)
    (hT : Within 0x4000 T0 := by first | with_reducible assumption | exact sub_trans hT rfl) : Ok T0 S0 (State.copyWords s b from_ to_) := by
  unfold State.copyWords
  repeat' (first
    | with_reducible assumption | (exact rfl) | (exact sub_trans hT rfl) | with_reducible apply ok_setArrayWord
    | (fail_if_no_progress (with_reducible refine ok_with ?_ ..))
    | (with_reducible apply ok_foldl; intro _ _ _; beta_reduce) | (intro _) | dsimp only)

theorem ok_execBlockRetireDone (b : Nat) (n : Nat) {s : State} (hOk : Ok T0 S0 s)
    (hT : Within 0x1000000000000000000429c T0 := by first | with_reducible assumption | exact sub_trans hT rfl) : ∃ sNext, execBlockRetireDone b n s = .next sNext ∧ Ok T0 S0 sNext := by
  unfold execBlockRetireDone
  refine ⟨_, rfl, ?_⟩
  repeat' (first
    | with_reducible assumption | (exact rfl) | (exact sub_trans hT rfl) | with_reducible apply ok_spoilAdd
    | with_reducible apply ok_setBlk | with_reducible apply ok_memEvt | with_reducible apply ok_copyWords
    | (fail_if_no_progress (with_reducible refine ok_with ?_ ..)) | split | dsimp only)

theorem ok_invWrite {s : State} (b : Nat) (v : Word) (hOk : Ok T0 S0 s)
    (hT : Within 0x800000000000000004000 T0 := by first | with_reducible assumption | exact sub_trans hT rfl) : Ok T0 S0 (State.invWrite s b v) := by
  unfold State.invWrite
  repeat' (first
    | with_reducible assumption | (exact rfl) | (exact sub_trans hT rfl) | with_reducible apply ok_plainWrite
    | with_reducible apply ok_set | (fail_if_no_progress (with_reducible refine ok_with ?_ ..)) | split | dsimp only)

theorem ok_execMemtInvStart (src : Src) (v : Word) {s : State} (hOk : Ok T0 S0 s)
    (hT : Within 0x800000000000000004000 T0 := by first | with_reducible assumption | exact sub_trans hT rfl) : ∃ sNext, execMemtInvStart src v s = .next sNext ∧ Ok T0 S0 sNext := by
  unfold execMemtInvStart
  refine ⟨_, rfl, ?_⟩
  repeat' (first
    | with_reducible assumption | (exact sub_trans hT rfl) | with_reducible apply ok_invWrite | split | dsimp only)

theorem ok_execBulkInvalidateDone (b : Nat) {s : State} (hOk : Ok T0 S0 s)
    (hT : Within 0x10800000000000000004018 T0 := by first | with_reducible assumption | exact sub_trans hT rfl) : ∃ sNext, execBulkInvalidateDone b s = .next sNext ∧ Ok T0 S0 sNext := by
  unfold execBulkInvalidateDone
  refine ⟨_, rfl, ?_⟩
  repeat' (first
    | with_reducible assumption | (exact rfl) | (exact sub_trans hT rfl) | with_reducible apply ok_set
    | with_reducible apply ok_memEvt | (fail_if_no_progress (with_reducible refine ok_with ?_ ..)) | split
    | dsimp only)

theorem ok_flipWrite {s : State} (v : Word) (hOk : Ok T0 S0 s)
    (hT : Within 0x40000000000000004000 T0 := by first | with_reducible assumption | exact sub_trans hT rfl) : Ok T0 S0 (State.flipWrite s v) := by
  unfold State.flipWrite
  repeat' (first
    | with_reducible assumption | (exact rfl) | (exact sub_trans hT rfl) | with_reducible apply ok_plainWrite
    | with_reducible apply ok_setBlk | (fail_if_no_progress (with_reducible refine ok_with ?_ ..)) | split
    | dsimp only)

theorem ok_execMemtFlipArm (src : Src) (v : Word) {s : State} (hOk : Ok T0 S0 s)
    (hT : Within 0x40000000000000004000 T0 := by first | with_reducible assumption | exact sub_trans hT rfl) : ∃ sNext, execMemtFlipArm src v s = .next sNext ∧ Ok T0 S0 sNext := by
  unfold execMemtFlipArm
  refine ⟨_, rfl, ?_⟩
  repeat' (first
    | with_reducible assumption | (exact sub_trans hT rfl) | with_reducible apply ok_flipWrite | split | dsimp only)

theorem ok_memPowerUp {s : State} (c : Nat) (hOk : Ok T0 S0 s)
    (hT : Within 0x20004000 T0 := by first | with_reducible assumption | exact sub_trans hT rfl) : Ok T0 S0 (State.memPowerUp s c) := by
  unfold State.memPowerUp
  repeat' (first
    | with_reducible assumption | (exact rfl) | (exact sub_trans hT rfl) | with_reducible apply ok_startTimer
    | with_reducible apply ok_setBlk | (fail_if_no_progress (with_reducible refine ok_with ?_ ..))
    | (with_reducible apply ok_foldl; intro _ _ _; beta_reduce) | (intro _) | split | dsimp only)

/-! ### Ports -/

theorem ok_setPortTag {s : State} (b : Nat) (p : Nat) (i : Nat) (x : PortTag) (hOk : Ok T0 S0 s)
    (hT : Within 0x800000 T0 := by first | with_reducible assumption | exact sub_trans hT rfl) : Ok T0 S0 (State.setPortTag s b p i x) := by
  unfold State.setPortTag
  repeat' (first
    | with_reducible assumption | (exact rfl) | (exact sub_trans hT rfl) | with_reducible apply ok_setHport
    | (fail_if_no_progress (with_reducible refine ok_with ?_ ..)) | dsimp only)

theorem ok_setWaiting {s : State} (b : Nat) (p : Nat) (k : Nat) (l : List WbPacket) (hOk : Ok T0 S0 s)
    (hT : Within 0x800000 T0 := by first | with_reducible assumption | exact sub_trans hT rfl) : Ok T0 S0 (State.setWaiting s b p k l) := by
  unfold State.setWaiting
  repeat' (first
    | with_reducible assumption | (exact rfl) | (exact sub_trans hT rfl) | with_reducible apply ok_setHport
    | (fail_if_no_progress (with_reducible refine ok_with ?_ ..)) | dsimp only)

theorem ok_queuePacket {s : State} (b : Nat) (p : Nat) (k : Nat) (h : Nat) (w : WbPacket) (hOk : Ok T0 S0 s)
    (hT : Within 0x800000 T0 := by first | with_reducible assumption | exact sub_trans hT rfl) : Ok T0 S0 (State.queuePacket s b p k h w) := by
  unfold State.queuePacket
  repeat' (first
    | with_reducible assumption | (exact rfl) | (exact sub_trans hT rfl) | with_reducible apply ok_setHport
    | with_reducible apply ok_setWaiting | (fail_if_no_progress (with_reducible refine ok_with ?_ ..)) | dsimp only)

theorem ok_writeItems {s : State} (j : Nat) (l : List (Nat × Bool × Bool)) (hOk : Ok T0 S0 s)
    (hT : Within 0xc0000000000000000010000008 T0 := by first | with_reducible assumption | exact sub_trans hT rfl) :
    Ok T0 S0 (s.writeItems j l).2 := by
  induction l generalizing s with
  | nil => exact hOk
  | cons a l ih =>
    rw [State.writeItems]
    split
    · exact ih (ok_hopWrite _ _ _ _ hOk)
    · exact hOk

theorem ok_drainList {s : State} (b p j : Nat) (l : List HeldRsp) (hOk : Ok T0 S0 s)
    (hT : Within 0x800000000000000000000000000c0000000000000000010000008 T0 := by first | with_reducible assumption | exact sub_trans hT rfl) :
    Ok T0 S0 (s.drainList b p j l).2 := by
  induction l generalizing s with
  | nil => exact hOk
  | cons a l ih =>
    rw [State.drainList]
    split
    · exact ih hOk
    · split
      · exact ih (ok_inc rfl hOk)
      · dsimp only
        split
        · exact ih (ok_writeItems _ _ hOk)
        · exact ok_writeItems _ _ hOk

theorem ok_drainHopper {s : State} (b : Nat) (j : Nat) (hOk : Ok T0 S0 s)
    (hT : Within 0x800000000000000000000000000c0000000000000000010800008 T0 := by first | with_reducible assumption | exact sub_trans hT rfl) : Ok T0 S0 (State.drainHopper s b j) := by
  unfold State.drainHopper
  repeat' (first
    | with_reducible assumption | (exact rfl) | (exact sub_trans hT rfl) | with_reducible apply ok_setHport
    | with_reducible apply ok_drainList | (fail_if_no_progress (with_reducible refine ok_with ?_ ..)) | split
    | dsimp only)

theorem ok_execHopperPointerSync (b : Nat) (h : Nat) (toRead : Bool) {s : State} (hOk : Ok T0 S0 s)
    (hT : Within 0x800000000000000000000000000c0000000000000000010800008 T0 := by first | with_reducible assumption | exact sub_trans hT rfl) : ∃ sNext, execHopperPointerSync b h toRead s = .next sNext ∧ Ok T0 S0 sNext := by
  unfold execHopperPointerSync
  refine ⟨_, rfl, ?_⟩
  repeat' (first
    | with_reducible assumption | (exact rfl) | (exact sub_trans hT rfl) | with_reducible apply ok_setHop
    | with_reducible apply ok_drainHopper | split | dsimp only)

theorem ok_holdRsp {s : State} (b : Nat) (p : Nat) (h : HeldRsp) (hOk : Ok T0 S0 s)
    (hT : Within 0x800000000000000000000000000c0000000000000000010800008 T0 := by first | with_reducible assumption | exact sub_trans hT rfl) : Ok T0 S0 (State.holdRsp s b p h) := by
  unfold State.holdRsp
  repeat' (first
    | with_reducible assumption | (exact rfl) | (exact sub_trans hT rfl) | with_reducible apply ok_setHport
    | with_reducible apply ok_drainHopper | (fail_if_no_progress (with_reducible refine ok_with ?_ ..)) | dsimp only)

theorem ok_fillPort {s : State} (j : Nat) (hOk : Ok T0 S0 s)
    (hT : Within 0x10000000 T0 := by first | with_reducible assumption | exact sub_trans hT rfl) : Ok T0 S0 (State.fillPort s j) := by
  unfold State.fillPort
  repeat' (first
    | with_reducible assumption | (exact rfl) | (exact sub_trans hT rfl) | with_reducible apply ok_setHop | dsimp only)

theorem ok_dropAsm {s : State} (j : Nat) (hOk : Ok T0 S0 s)
    (hT : Within 0x10000000 T0 := by first | with_reducible assumption | exact sub_trans hT rfl) : Ok T0 S0 (State.dropAsm s j) := by
  unfold State.dropAsm
  repeat' (first
    | with_reducible assumption | (exact rfl) | (exact sub_trans hT rfl) | with_reducible apply ok_setHop
    | (fail_if_no_progress (with_reducible refine ok_with ?_ ..)) | dsimp only)

theorem ok_fenceHit {s : State} (b : Nat) (hOk : Ok T0 S0 s)
    (hT : Within 0x20000000000000000000000000000000000000008 T0 := by first | with_reducible assumption | exact sub_trans hT rfl) : Ok T0 S0 (State.fenceHit s b) := by
  unfold State.fenceHit
  repeat' (first
    | with_reducible assumption | (exact rfl) | (exact sub_trans hT rfl) | with_reducible apply ok_inc
    | with_reducible apply ok_raiseBench | dsimp only)

theorem ok_portPwrite {s : State} (b : Nat) (p : Nat) (h : Nat) (addr : Nat) (lenM1 : Nat) (data : List Nat) (hOk : Ok T0 S0 s)
    (hT : Within 0x80000000000020000000000000000000000000000000000800008 T0 := by first | with_reducible assumption | exact sub_trans hT rfl) : Ok T0 S0 (State.portPwrite s b p h addr lenM1 data) := by
  unfold State.portPwrite
  repeat' (first
    | with_reducible assumption | (exact rfl) | (exact sub_trans hT rfl) | with_reducible apply ok_inc
    | with_reducible apply ok_queuePacket | with_reducible apply ok_fenceHit
    | (fail_if_no_progress (with_reducible refine ok_with ?_ ..)) | split | dsimp only)

theorem ok_portRequest {s : State} (b : Nat) (p : Nat) (h : Nat) (i : Nat) (q : PortReq) (data : List Nat) (hOk : Ok T0 S0 s)
    (hT : Within 0x800000000000200000000000000c0000000000000000010800008 T0 := by first | with_reducible assumption | exact sub_trans hT rfl) : Ok T0 S0 (State.portRequest s b p h i q data) := by
  unfold State.portRequest
  repeat' (first
    | with_reducible assumption | (exact rfl) | (exact sub_trans hT rfl) | with_reducible apply ok_setPortTag
    | with_reducible apply ok_queuePacket | with_reducible apply ok_holdRsp | with_reducible apply ok_fenceHit
    | (fail_if_no_progress (with_reducible refine ok_with ?_ ..)) | split | dsimp only)

theorem ok_portMalformed {s : State} (b : Nat) (p : Nat) (j : Nat) (q : PortReq) (op : Nat) (hOk : Ok T0 S0 s)
    (hT : Within 0xc00000000000000000000000000c0000000000000000010800008 T0 := by first | with_reducible assumption | exact sub_trans hT rfl) : Ok T0 S0 (State.portMalformed s b p j q op) := by
  unfold State.portMalformed
  repeat' (first
    | with_reducible assumption | (exact rfl) | (exact sub_trans hT rfl) | with_reducible apply ok_inc
    | with_reducible apply ok_holdRsp | with_reducible apply ok_dropAsm | split | dsimp only)

theorem ok_portTake {s : State} (b : Nat) (p : Nat) (j : Nat) (i : Nat) (hOk : Ok T0 S0 s)
    (hT : Within 0xc00000000000200000000000000c0000000000000000010800008 T0 := by first | with_reducible assumption | exact sub_trans hT rfl) : Ok T0 S0 (State.portTake s b p j i) := by
  unfold State.portTake
  repeat' (first
    | with_reducible assumption | (exact rfl) | (exact sub_trans hT rfl) | with_reducible apply ok_dropAsm
    | with_reducible apply ok_portPwrite | with_reducible apply ok_portRequest | with_reducible apply ok_portMalformed
    | split | dsimp only)

theorem ok_execBenchPortRequest (b : Nat) (p : Nat) (h : Nat) (tag : Nat) {s : State} (hOk : Ok T0 S0 s)
    (hT : Within 0xc00000000000200000000000000c0000000000000000010800008 T0 := by first | with_reducible assumption | exact sub_trans hT rfl) : ∃ sNext, execBenchPortRequest b p h tag s = .next sNext ∧ Ok T0 S0 sNext := by
  unfold execBenchPortRequest
  refine ⟨_, rfl, ?_⟩
  repeat' (first
    | with_reducible assumption | (exact sub_trans hT rfl) | with_reducible apply ok_fillPort
    | with_reducible apply ok_portTake | split | dsimp only)

theorem ok_execWeighbridgeRefill (b : Nat) (p : Nat) {s : State} (hOk : Ok T0 S0 s)
    (hT : Within 0x200000000000000000000000000000000000000100 T0 := by first | with_reducible assumption | exact sub_trans hT rfl) : ∃ sNext, execWeighbridgeRefill b p s = .next sNext ∧ Ok T0 S0 sNext := by
  unfold execWeighbridgeRefill
  refine ⟨_, rfl, ?_⟩
  repeat' (first
    | with_reducible assumption | (exact rfl) | (exact sub_trans hT rfl) | with_reducible apply ok_incWrap
    | with_reducible apply ok_wbRefill | (with_reducible apply ok_foldl; intro _ _ _; beta_reduce) | (intro _) | split
    | dsimp only)

theorem ok_wbAdmit {s : State} (b : Nat) (p : Nat) (k : Nat) (w : WbPacket) (rest : List WbPacket) (hOk : Ok T0 S0 s)
    (hT : Within 0x800504 T0 := by first | with_reducible assumption | exact sub_trans hT rfl) : Ok T0 S0 (State.wbAdmit s b p k w rest) := by
  unfold State.wbAdmit
  repeat' (first
    | with_reducible assumption | (exact rfl) | (exact sub_trans hT rfl) | with_reducible apply ok_setWbTokens
    | with_reducible apply ok_inject | with_reducible apply ok_setPortTag | with_reducible apply ok_setWaiting
    | (fail_if_no_progress (with_reducible refine ok_with ?_ ..)) | split | dsimp only)

theorem ok_execWeighbridgeAdmit (b : Nat) (p : Nat) (k : Nat) {s : State} (hOk : Ok T0 S0 s)
    (hT : Within 0x800504 T0 := by first | with_reducible assumption | exact sub_trans hT rfl) : ∃ sNext, execWeighbridgeAdmit b p k s = .next sNext ∧ Ok T0 S0 sNext := by
  unfold execWeighbridgeAdmit
  refine ⟨_, rfl, ?_⟩
  repeat' (first
    | with_reducible assumption | (exact sub_trans hT rfl) | with_reducible apply ok_wbAdmit
    | (fail_if_no_progress (with_reducible refine ok_with ?_ ..)) | split | dsimp only)

theorem ok_lateRsp {s : State} (b : Nat) (p : Nat) (hOk : Ok T0 S0 s)
    (hT : Within 0x81000000000000000000000000000000000000000000000000000 T0 := by first | with_reducible assumption | exact sub_trans hT rfl) : Ok T0 S0 (State.lateRsp s b p) := by
  unfold State.lateRsp
  repeat' (first
    | with_reducible assumption | (exact rfl) | (exact sub_trans hT rfl) | with_reducible apply ok_inc | dsimp only)

theorem ok_portRsp {s : State} (b : Nat) (p : Nat) (i : Nat) (q : PortReq) (h : Nat) (flits : List (Nat × Bool)) (hOk : Ok T0 S0 s)
    (hT : Within 0x800000000000000000000000000c0000000000000000010800008 T0 := by first | with_reducible assumption | exact sub_trans hT rfl) : Ok T0 S0 (State.portRsp s b p i q h flits) := by
  unfold State.portRsp
  repeat' (first
    | with_reducible assumption | (exact rfl) | (exact sub_trans hT rfl) | with_reducible apply ok_inc
    | with_reducible apply ok_setPortTag | with_reducible apply ok_holdRsp
    | (fail_if_no_progress (with_reducible refine ok_with ?_ ..)) | split | dsimp only)

theorem ok_execBenchPortResponse (b : Nat) (p : Nat) (hdr : Nat) (flits : List (Nat × Bool)) {s : State} (hOk : Ok T0 S0 s)
    (hT : Within 0xc10000000000000000000000000c0000000000000000010800008 T0 := by first | with_reducible assumption | exact sub_trans hT rfl) : ∃ sNext, execBenchPortResponse b p hdr flits s = .next sNext ∧ Ok T0 S0 sNext := by
  unfold execBenchPortResponse
  refine ⟨_, rfl, ?_⟩
  repeat' (first
    | with_reducible assumption | (exact rfl) | (exact sub_trans hT rfl) | with_reducible apply ok_inc
    | with_reducible apply ok_setPortTag | with_reducible apply ok_lateRsp | with_reducible apply ok_portRsp
    | (fail_if_no_progress (with_reducible refine ok_with ?_ ..)) | split | dsimp only)

theorem ok_portRefuse {s : State} (b : Nat) (p : Nat) (hdr : Nat) (hOk : Ok T0 S0 s)
    (hT : Within 0xc0000000000000000000000000000000000000000000000000404 T0 := by first | with_reducible assumption | exact sub_trans hT rfl) : Ok T0 S0 (State.portRefuse s b p hdr) := by
  unfold State.portRefuse
  repeat' (first
    | with_reducible assumption | (exact rfl) | (exact sub_trans hT rfl) | with_reducible apply ok_inc
    | with_reducible apply ok_inject | split | dsimp only)

theorem ok_addPending {s : State} (b : Nat) (p : Nat) (hdr : Nat) (hOk : Ok T0 S0 s)
    (hT : Within 0x800000 T0 := by first | with_reducible assumption | exact sub_trans hT rfl) : Ok T0 S0 (State.addPending s b p hdr) := by
  unfold State.addPending
  repeat' (first
    | with_reducible assumption | (exact rfl) | (exact sub_trans hT rfl) | with_reducible apply ok_setHport
    | (fail_if_no_progress (with_reducible refine ok_with ?_ ..)) | split | dsimp only)

theorem ok_brokenRequest {s : State} (b : Nat) (p : Nat) (j : Nat) (hdr : Nat) (flits : List (Nat × Bool)) (hOk : Ok T0 S0 s)
    (hT : Within 0x400000000000000000000000000c0000000000000000010000008 T0 := by first | with_reducible assumption | exact sub_trans hT rfl) : Ok T0 S0 (State.brokenRequest s b p j hdr flits) := by
  unfold State.brokenRequest
  repeat' (first
    | with_reducible assumption | (exact rfl) | (exact sub_trans hT rfl) | with_reducible apply ok_inc
    | with_reducible apply ok_hopCut | with_reducible apply ok_writeItems
    | (fail_if_no_progress (with_reducible refine ok_with ?_ ..)) | split | dsimp only)

theorem ok_portIncoming {s : State} (b : Nat) (p : Nat) (hdr : Nat) (flits : List (Nat × Bool)) (hOk : Ok T0 S0 s)
    (hT : Within 0xc00000000000000000000000000c000000000000000001080040c T0 := by first | with_reducible assumption | exact sub_trans hT rfl) : Ok T0 S0 (State.portIncoming s b p hdr flits) := by
  unfold State.portIncoming
  repeat' (first
    | with_reducible assumption | (exact rfl) | (exact sub_trans hT rfl) | with_reducible apply ok_writeItems
    | with_reducible apply ok_portRefuse | with_reducible apply ok_addPending | with_reducible apply ok_brokenRequest
    | split | dsimp only)

theorem ok_execBenchPortIncomingRequest (b : Nat) (p : Nat) (hdr : Nat) (flits : List (Nat × Bool)) {s : State} (hOk : Ok T0 S0 s)
    (hT : Within 0xc00000000000000000000000000c000000000000000001080040c T0 := by first | with_reducible assumption | exact sub_trans hT rfl) : ∃ sNext, execBenchPortIncomingRequest b p hdr flits s = .next sNext ∧ Ok T0 S0 sNext := by
  unfold execBenchPortIncomingRequest
  refine ⟨_, rfl, ?_⟩
  repeat' (first
    | with_reducible assumption | (exact rfl) | (exact sub_trans hT rfl) | with_reducible apply ok_inc
    | with_reducible apply ok_portIncoming | split | dsimp only)

theorem ok_sendPendRsp {s : State} (b : Nat) (p : Nat) (e : PendEnt) (status : Nat) (data : List (Nat × Bool)) (hOk : Ok T0 S0 s)
    (hT : Within 0x800000 T0 := by first | with_reducible assumption | exact sub_trans hT rfl) : Ok T0 S0 (State.sendPendRsp s b p e status data) := by
  unfold State.sendPendRsp
  repeat' (first
    | with_reducible assumption | (exact rfl) | (exact sub_trans hT rfl) | with_reducible apply ok_setWaiting
    | dsimp only)

theorem ok_imageRsp {s : State} (b : Nat) (p : Nat) (j : Nat) (hOk : Ok T0 S0 s)
    (hT : Within 0xc0000000000000000000000000000000000000000000010800000 T0 := by first | with_reducible assumption | exact sub_trans hT rfl) : Ok T0 S0 (State.imageRsp s b p j) := by
  unfold State.imageRsp
  repeat' (first
    | with_reducible assumption | (exact rfl) | (exact sub_trans hT rfl) | with_reducible apply ok_inc
    | with_reducible apply ok_setHport | with_reducible apply ok_queuePacket | with_reducible apply ok_dropAsm
    | (fail_if_no_progress (with_reducible refine ok_with ?_ ..)) | split | dsimp only)

theorem ok_execBenchPortImageResponse (b : Nat) (p : Nat) (h : Nat) {s : State} (hOk : Ok T0 S0 s)
    (hT : Within 0xc0000000000000000000000000000000000000000000010800000 T0 := by first | with_reducible assumption | exact sub_trans hT rfl) : ∃ sNext, execBenchPortImageResponse b p h s = .next sNext ∧ Ok T0 S0 sNext := by
  unfold execBenchPortImageResponse
  refine ⟨_, rfl, ?_⟩
  repeat' (first
    | with_reducible assumption | (exact sub_trans hT rfl) | with_reducible apply ok_fillPort
    | with_reducible apply ok_imageRsp | split | dsimp only)

theorem ok_execPendingEntryExpiry (b : Nat) (p : Nat) {s : State} (hOk : Ok T0 S0 s)
    (hT : Within 0x40000000000000000000000000000000000000000000000800000 T0 := by first | with_reducible assumption | exact sub_trans hT rfl) : ∃ sNext, execPendingEntryExpiry b p s = .next sNext ∧ Ok T0 S0 sNext := by
  unfold execPendingEntryExpiry
  refine ⟨_, rfl, ?_⟩
  repeat' (first
    | with_reducible assumption | (exact rfl) | (exact sub_trans hT rfl) | with_reducible apply ok_incBy
    | with_reducible apply ok_setHport | (fail_if_no_progress (with_reducible refine ok_with ?_ ..)) | split
    | dsimp only)

theorem ok_portTimeout {s : State} (b : Nat) (p : Nat) (i : Nat) (hOk : Ok T0 S0 s)
    (hT : Within 0x2800000000000000000000000000c0000000000000000010800008 T0 := by first | with_reducible assumption | exact sub_trans hT rfl) : Ok T0 S0 (State.portTimeout s b p i) := by
  unfold State.portTimeout
  repeat' (first
    | with_reducible assumption | (exact rfl) | (exact sub_trans hT rfl) | with_reducible apply ok_inc
    | with_reducible apply ok_setPortTag | with_reducible apply ok_holdRsp
    | (fail_if_no_progress (with_reducible refine ok_with ?_ ..)) | split | dsimp only)

theorem ok_portTagReturn {s : State} (b : Nat) (p : Nat) (i : Nat) (hOk : Ok T0 S0 s)
    (hT : Within 0x800000 T0 := by first | with_reducible assumption | exact sub_trans hT rfl) : Ok T0 S0 (State.portTagReturn s b p i) := by
  unfold State.portTagReturn
  repeat' (first
    | with_reducible assumption | (exact rfl) | (exact sub_trans hT rfl) | with_reducible apply ok_setPortTag
    | (fail_if_no_progress (with_reducible refine ok_with ?_ ..)) | split | dsimp only)

theorem ok_hportCfgWrite {s : State} (i : Nat) (v : Word) (hOk : Ok T0 S0 s)
    (hT : Within 0x10000000000000000000000000000000000000000000000000000 T0 := by first | with_reducible assumption | exact sub_trans hT rfl) : Ok T0 S0 (State.hportCfgWrite s i v) := by
  unfold State.hportCfgWrite
  repeat' (first
    | with_reducible assumption | (exact rfl) | (exact sub_trans hT rfl) | with_reducible apply ok_w1cWrite
    | with_reducible apply ok_set | split | dsimp only)

theorem ok_execHportCfgWrite (src : Src) (b : Nat) (p : Nat) (v : Word) {s : State} (hOk : Ok T0 S0 s)
    (hT : Within 0x10000000000000000000000000000000000000000000000000000 T0 := by first | with_reducible assumption | exact sub_trans hT rfl) : ∃ sNext, execHportCfgWrite src b p v s = .next sNext ∧ Ok T0 S0 sNext := by
  unfold execHportCfgWrite
  refine ⟨_, rfl, ?_⟩
  repeat' (first
    | with_reducible assumption | (exact sub_trans hT rfl) | with_reducible apply ok_hportCfgWrite | split
    | dsimp only)

theorem ok_execHportCfgApply (b : Nat) (p : Nat) {s : State} (hOk : Ok T0 S0 s)
    (hT : Within 0x800000 T0 := by first | with_reducible assumption | exact sub_trans hT rfl) : ∃ sNext, execHportCfgApply b p s = .next sNext ∧ Ok T0 S0 sNext := by
  unfold execHportCfgApply
  refine ⟨_, rfl, ?_⟩
  repeat' (first
    | with_reducible assumption | (exact rfl) | (exact sub_trans hT rfl) | with_reducible apply ok_setHport
    | (fail_if_no_progress (with_reducible refine ok_with ?_ ..)) | split | dsimp only)

theorem ok_pendUnreachable {s : State} (b : Nat) (p : Nat) (f : PendEnt → Bool) (hOk : Ok T0 S0 s)
    (hT : Within 0x800000 T0 := by first | with_reducible assumption | exact sub_trans hT rfl) : Ok T0 S0 (State.pendUnreachable s b p f) := by
  unfold State.pendUnreachable
  repeat' (first
    | with_reducible assumption | (exact rfl) | (exact sub_trans hT rfl) | with_reducible apply ok_setHport
    | with_reducible apply ok_sendPendRsp | (fail_if_no_progress (with_reducible refine ok_with ?_ ..))
    | (with_reducible apply ok_foldl; intro _ _ _; beta_reduce) | (intro _) | dsimp only)

theorem ok_pendIsolate {s : State} (b : Nat) (p : Nat) (hOk : Ok T0 S0 s)
    (hT : Within 0xc0c0200000000000000000000000000000000000000000800404 T0 := by first | with_reducible assumption | exact sub_trans hT rfl) : Ok T0 S0 (State.pendIsolate s b p) := by
  unfold State.pendIsolate
  repeat' (first
    | with_reducible assumption | (exact rfl) | (exact sub_trans hT rfl) | with_reducible apply ok_setHport
    | with_reducible apply ok_synthSend | with_reducible apply ok_setWaiting
    | (fail_if_no_progress (with_reducible refine ok_with ?_ ..))
    | (with_reducible apply ok_foldl; intro _ _ _; beta_reduce) | (intro _) | split | dsimp only)

theorem ok_drainOver {s : State} (hOk : Ok T0 S0 s)
    (hT : Within 0x400200000000000000000000000000000000000000000806414 T0 := by first | with_reducible assumption | exact sub_trans hT rfl) : Ok T0 S0 (State.drainOver s) := by
  unfold State.drainOver
  repeat' (first
    | with_reducible assumption | (exact rfl) | (exact sub_trans hT rfl) | with_reducible apply ok_set
    | with_reducible apply ok_wlog | with_reducible apply ok_memUnreachable | with_reducible apply ok_pendUnreachable
    | (fail_if_no_progress (with_reducible refine ok_with ?_ ..))
    | (with_reducible apply ok_foldl; intro _ _ _; beta_reduce) | (intro _) | split | dsimp only)

theorem ok_fenceStepEnd {s : State} (d : Nat) (hOk : Ok T0 S0 s)
    (hT : Within 0x80000000000000000000000000000000000000000000000000000000000000000 T0 := by first | with_reducible assumption | exact sub_trans hT rfl) : Ok T0 S0 (State.fenceStepEnd s d) := by
  unfold State.fenceStepEnd
  repeat' (first
    | with_reducible assumption | (exact rfl) | with_reducible apply ok_domSt | (exact sub_trans hT rfl)
    | with_reducible apply ok_set | split | dsimp only)

theorem ok_fenceClosed {s : State} (k : Nat) (l : Nat) (hOk : Ok T0 S0 s)
    (hT : Within 0x80000000000000000100000000000000000000000000000000000000000000400 T0 := by first | with_reducible assumption | exact sub_trans hT rfl) : Ok T0 S0 (State.fenceClosed s k l) := by
  unfold State.fenceClosed
  repeat' (first
    | with_reducible assumption | (exact rfl) | (exact sub_trans hT rfl) | with_reducible apply ok_setFence
    | with_reducible apply ok_fenceStepEnd | (fail_if_no_progress (with_reducible refine ok_with ?_ ..)) | split
    | dsimp only)

theorem ok_execFenceClosingDone (k : Nat) (l : Nat) {s : State} (hOk : Ok T0 S0 s)
    (hT : Within 0x80000000000000000100000000000000000000000000000000000000000000400 T0 := by first | with_reducible assumption | exact sub_trans hT rfl) : ∃ sNext, execFenceClosingDone k l s = .next sNext ∧ Ok T0 S0 sNext := by
  unfold execFenceClosingDone
  refine ⟨_, rfl, ?_⟩
  repeat' (first
    | with_reducible assumption | (exact sub_trans hT rfl) | with_reducible apply ok_fenceClosed | split | dsimp only)

theorem ok_fenceTimeoutEvent {s : State} (k : Nat) (l : Nat) (hOk : Ok T0 S0 s)
    (hT : Within 0x80000000000000000000000000000000000000000000000000000000000000010 T0 := by first | with_reducible assumption | exact sub_trans hT rfl) : Ok T0 S0 (State.fenceTimeoutEvent s k l) := by
  unfold State.fenceTimeoutEvent
  repeat' (first
    | with_reducible assumption | (exact rfl) | (exact sub_trans hT rfl) | with_reducible apply ok_set
    | with_reducible apply ok_wlog | (fail_if_no_progress (with_reducible refine ok_with ?_ ..)) | split | dsimp only)

theorem ok_fenceOver {s : State} (k : Nat) (l : Nat) (hOk : Ok T0 S0 s)
    (hT : Within 0x8000000000000c0c0300000000000000000000000000000000000000000806414 T0 := by first | with_reducible assumption | exact sub_trans hT rfl) : Ok T0 S0 (State.fenceOver s k l) := by
  unfold State.fenceOver
  repeat' (first
    | with_reducible assumption | (exact sub_trans hT rfl) | with_reducible apply ok_memUnreachable
    | with_reducible apply ok_pendIsolate | with_reducible apply ok_fenceClosed
    | with_reducible apply ok_fenceTimeoutEvent | (fail_if_no_progress (with_reducible refine ok_with ?_ ..)) | split
    | dsimp only)

theorem ok_losePorts {s : State} (b : Nat) (hOk : Ok T0 S0 s)
    (hT : Within 0x10800100 T0 := by first | with_reducible assumption | exact sub_trans hT rfl) : Ok T0 S0 (State.losePorts s b) := by
  unfold State.losePorts
  repeat' (first
    | with_reducible assumption | (exact sub_trans hT rfl)
    | (fail_if_no_progress (with_reducible refine ok_with ?_ ..)) | dsimp only)

/-! ### Degrade -/

theorem ok_deviceCmd {s : State} (b : Nat) (cmd : ReqCmd) (plane : Nat) (fab : Bool) (host : Bool) (sched : Bool) (last : Bool) (hOk : Ok T0 S0 s)
    (hT : Within 0x420000100000000000000000017e00000000000000000014004848 T0 := by first | with_reducible assumption | exact sub_trans hT rfl) : Ok T0 S0 (State.deviceCmd s b cmd plane fab host sched last) := by
  unfold State.deviceCmd
  repeat' (first
    | with_reducible assumption | (exact rfl) | (exact sub_trans hT rfl) | with_reducible apply ok_setDevReq
    | with_reducible apply ok_presentEdge | dsimp only)

theorem ok_setShift {s : State} (b : Nat) (x : Option ShiftRun) (hOk : Ok T0 S0 s)
    (hT : Within 0x10000 T0 := by first | with_reducible assumption | exact sub_trans hT rfl) : Ok T0 S0 (State.setShift s b x) := by
  unfold State.setShift
  repeat' (first
    | with_reducible assumption | (exact sub_trans hT rfl)
    | (fail_if_no_progress (with_reducible refine ok_with ?_ ..)) | dsimp only)

theorem ok_refuseOnline {s : State} (b : Nat) (hOk : Ok T0 S0 s)
    (hT : Within 0x6400000000000000000000000808 T0 := by first | with_reducible assumption | exact sub_trans hT rfl) : Ok T0 S0 (State.refuseOnline s b) := by
  unfold State.refuseOnline
  repeat' (first
    | with_reducible assumption | (exact sub_trans hT rfl) | with_reducible apply ok_planeRefuse
    | with_reducible apply ok_dropDeferred | (fail_if_no_progress (with_reducible refine ok_with ?_ ..)) | split
    | dsimp only)

theorem ok_degrade {s : State} (b : Nat) (why : Nat) (hOk : Ok T0 S0 s)
    (hT : Within 0x420000100000000000000000017e00000000000000000014014adc T0 := by first | with_reducible assumption | exact sub_trans hT rfl) : Ok T0 S0 (State.degrade s b why) := by
  unfold State.degrade
  repeat' (first
    | with_reducible assumption | (exact rfl) | (exact sub_trans hT rfl) | with_reducible apply ok_set
    | with_reducible apply ok_repairEvent | with_reducible apply ok_spoilAdd | with_reducible apply ok_deviceCmd
    | with_reducible apply ok_setShift | with_reducible apply ok_refuseOnline | split | dsimp only)

theorem ok_columnFault {s : State} (b : Nat) (f : Nat) (hOk : Ok T0 S0 s)
    (hT : Within 0x420000100000000000000000017e00000000000000000014014adc T0 := by first | with_reducible assumption | exact sub_trans hT rfl) : Ok T0 S0 (State.columnFault s b f) := by
  unfold State.columnFault
  repeat' (first
    | with_reducible assumption | (exact rfl) | (exact sub_trans hT rfl) | with_reducible apply ok_set
    | with_reducible apply ok_wlog | with_reducible apply ok_spoilAdd | with_reducible apply ok_setShift
    | with_reducible apply ok_degrade | split | dsimp only)

theorem ok_setParSeen {s : State} (k : Nat) (l : List Nat) (hOk : Ok T0 S0 s)
    (hT : Within 0x800 T0 := by first | with_reducible assumption | exact sub_trans hT rfl) : Ok T0 S0 (State.setParSeen s k l) := by
  unfold State.setParSeen
  repeat' (first
    | with_reducible assumption | (exact sub_trans hT rfl)
    | (fail_if_no_progress (with_reducible refine ok_with ?_ ..)) | dsimp only)

theorem ok_parityNote {s : State} (b : Nat) (p : Nat) (grp : Nat) (px : Nat) (hOk : Ok T0 S0 s)
    (hT : Within 0x420000100000000000000000017e00000000000000000014014adc T0 := by first | with_reducible assumption | exact sub_trans hT rfl) : Ok T0 S0 (State.parityNote s b p grp px) := by
  unfold State.parityNote
  repeat' (first
    | with_reducible assumption | (exact rfl) | (exact sub_trans hT rfl) | with_reducible apply ok_columnFault
    | with_reducible apply ok_setParSeen | split | dsimp only)

theorem ok_parityNoteFrame {s : State} (b : Nat) (p : Nat) (j : Nat) (px : Nat) (hOk : Ok T0 S0 s)
    (hT : Within 0x420000100000000000000000017e00000000000000000014014adc T0 := by first | with_reducible assumption | exact sub_trans hT rfl) : Ok T0 S0 (State.parityNoteFrame s b p j px) := by
  unfold State.parityNoteFrame
  repeat' (first
    | with_reducible assumption | (exact sub_trans hT rfl) | with_reducible apply ok_parityNote
    | (with_reducible apply ok_foldl; intro _ _ _; beta_reduce) | (intro _) | dsimp only)

/-! ### Context -/

theorem ok_setSlotSt {s : State} (g : Nat) (st : Nat) (hOk : Ok T0 S0 s)
    (hT : Within 0x20000000000000000000000000000000000 T0 := by first | with_reducible assumption | exact sub_trans hT rfl) : Ok T0 S0 (State.setSlotSt s g st) := by
  unfold State.setSlotSt
  repeat' (first
    | with_reducible assumption | (exact rfl) | (exact sub_trans hT rfl) | with_reducible apply ok_set | dsimp only)

theorem ok_addReader {s : State} (g : Nat) (hOk : Ok T0 S0 s)
    (hT : Within 0x20000000000000000000000000000000000 T0 := by first | with_reducible assumption | exact sub_trans hT rfl) : Ok T0 S0 (State.addReader s g) := by
  unfold State.addReader
  repeat' (first
    | with_reducible assumption | (exact rfl) | (exact sub_trans hT rfl) | with_reducible apply ok_inc | dsimp only)

theorem ok_dropReader {s : State} (g : Nat) (hOk : Ok T0 S0 s)
    (hT : Within 0x20000000000000000000000000000000000 T0 := by first | with_reducible assumption | exact sub_trans hT rfl) : Ok T0 S0 (State.dropReader s g) := by
  unfold State.dropReader
  repeat' (first
    | with_reducible assumption | (exact rfl) | (exact sub_trans hT rfl) | with_reducible apply ok_set | dsimp only)

theorem ok_setSlotWord {s : State} (g : Nat) (f : Nat) (cw : Nat) (hOk : Ok T0 S0 s)
    (hT : Within 0x1000 T0 := by first | with_reducible assumption | exact sub_trans hT rfl) : Ok T0 S0 (State.setSlotWord s g f cw) := by
  unfold State.setSlotWord
  repeat' (first
    | with_reducible assumption | (exact sub_trans hT rfl)
    | (fail_if_no_progress (with_reducible refine ok_with ?_ ..)) | dsimp only)

theorem ok_setSlotData {s : State} (g : Nat) (f : Nat) (d : Nat) (hOk : Ok T0 S0 s)
    (hT : Within 0x1000 T0 := by first | with_reducible assumption | exact sub_trans hT rfl) : Ok T0 S0 (State.setSlotData s g f d) := by
  unfold State.setSlotData
  repeat' (first
    | with_reducible assumption | (exact rfl) | (exact sub_trans hT rfl) | with_reducible apply ok_setSlotWord
    | dsimp only)

theorem ok_setSlotGen {s : State} (g : Nat) (n : Nat) (hOk : Ok T0 S0 s)
    (hT : Within 0x20000000000000000000000000000001000 T0 := by first | with_reducible assumption | exact sub_trans hT rfl) : Ok T0 S0 (State.setSlotGen s g n) := by
  unfold State.setSlotGen
  repeat' (first
    | with_reducible assumption | (exact rfl) | (exact sub_trans hT rfl) | with_reducible apply ok_set
    | (fail_if_no_progress (with_reducible refine ok_with ?_ ..)) | dsimp only)

theorem ok_eraseSlot {s : State} (g : Nat) (hOk : Ok T0 S0 s)
    (hT : Within 0x1800 T0 := by first | with_reducible assumption | exact sub_trans hT rfl) : Ok T0 S0 (State.eraseSlot s g) := by
  unfold State.eraseSlot
  repeat' (first
    | with_reducible assumption | (exact sub_trans hT rfl) | with_reducible apply ok_dropStages
    | (fail_if_no_progress (with_reducible refine ok_with ?_ ..)) | dsimp only)

theorem ok_freeSlot {s : State} (g : Nat) (hOk : Ok T0 S0 s)
    (hT : Within 0x20000000000000000000000000000001800 T0 := by first | with_reducible assumption | exact sub_trans hT rfl) : Ok T0 S0 (State.freeSlot s g) := by
  unfold State.freeSlot
  repeat' (first
    | with_reducible assumption | (exact rfl) | (exact sub_trans hT rfl) | with_reducible apply ok_setSlotSt
    | with_reducible apply ok_eraseSlot | dsimp only)

theorem ok_slotFault {s : State} (g : Nat) (f : Nat) (hOk : Ok T0 S0 s)
    (hT : Within 0x20000000000000000000000000000000010 T0 := by first | with_reducible assumption | exact sub_trans hT rfl) : Ok T0 S0 (State.slotFault s g f) := by
  unfold State.slotFault
  repeat' (first
    | with_reducible assumption | (exact rfl) | (exact sub_trans hT rfl) | with_reducible apply ok_wlog
    | with_reducible apply ok_setSlotSt | dsimp only)

theorem ok_setCtxRun {s : State} (b : Nat) (r : Option CtxRun) (hOk : Ok T0 S0 s)
    (hT : Within 0x1000 T0 := by first | with_reducible assumption | exact sub_trans hT rfl) : Ok T0 S0 (State.setCtxRun s b r) := by
  unfold State.setCtxRun
  repeat' (first
    | with_reducible assumption | (exact sub_trans hT rfl)
    | (fail_if_no_progress (with_reducible refine ok_with ?_ ..)) | dsimp only)

theorem ok_ctxEvt {s : State} (b : Nat) (f : Fld) (hf_f : f.calm = true) (hOk : Ok T0 S0 s)
    (hT : Within 0x8 T0 := by first | with_reducible assumption | exact sub_trans hT rfl)
    (hb_f : Within (regBit f.reg) T0 := by first | with_reducible assumption | exact sub_trans hT rfl) : Ok T0 S0 (State.ctxEvt s b f) := by
  unfold State.ctxEvt
  repeat' (first
    | with_reducible assumption | (exact rfl) | (exact sub_trans hT rfl) | with_reducible apply ok_set
    | with_reducible apply ok_raiseBench | split | dsimp only)

theorem ok_ctxEnd {s : State} (b : Nat) (result : Nat) (hOk : Ok T0 S0 s)
    (hT : Within 0x50000000000000000000000000001008 T0 := by first | with_reducible assumption | exact sub_trans hT rfl) : Ok T0 S0 (State.ctxEnd s b result) := by
  unfold State.ctxEnd
  repeat' (first
    | with_reducible assumption | (exact rfl) | (exact sub_trans hT rfl) | with_reducible apply ok_set
    | with_reducible apply ok_setCtxRun | with_reducible apply ok_ctxEvt | split | dsimp only)

theorem ok_ctxStart {s : State} (b : Nat) (src : Src) (op : Nat) (plane : Nat) (slot : Nat) (hOk : Ok T0 S0 s)
    (hT : Within 0x10000000000000000000000000001000 T0 := by first | with_reducible assumption | exact sub_trans hT rfl) : Ok T0 S0 (State.ctxStart s b src op plane slot) := by
  unfold State.ctxStart
  repeat' (first
    | with_reducible assumption | (exact rfl) | (exact sub_trans hT rfl) | with_reducible apply ok_set
    | with_reducible apply ok_setCtxRun | (fail_if_no_progress (with_reducible refine ok_with ?_ ..)) | split
    | dsimp only)

theorem ok_ctxCmdWrite {s : State} (src : Src) (b : Nat) (v : Word) (hOk : Ok T0 S0 s)
    (hT : Within 0x18000000000000000000000000001000 T0 := by first | with_reducible assumption | exact sub_trans hT rfl) : Ok T0 S0 (State.ctxCmdWrite s src b v) := by
  unfold State.ctxCmdWrite
  repeat' (first
    | with_reducible assumption | (exact rfl) | (exact sub_trans hT rfl) | with_reducible apply ok_plainWrite
    | with_reducible apply ok_set | with_reducible apply ok_setCtxRun | with_reducible apply ok_ctxStart
    | (fail_if_no_progress (with_reducible refine ok_with ?_ ..)) | split | dsimp only)

theorem ok_execCtxStage (src : Src) (b : Nat) (v : Word) {s : State} (hOk : Ok T0 S0 s)
    (hT : Within 0x18000000000000000000000000001000 T0 := by first | with_reducible assumption | exact sub_trans hT rfl) : ∃ sNext, execCtxStage src b v s = .next sNext ∧ Ok T0 S0 sNext := by
  unfold execCtxStage
  refine ⟨_, rfl, ?_⟩
  repeat' (first
    | with_reducible assumption | (exact sub_trans hT rfl) | with_reducible apply ok_ctxCmdWrite | split | dsimp only)

theorem ok_execCtxPage (src : Src) (b : Nat) (v : Word) {s : State} (hOk : Ok T0 S0 s)
    (hT : Within 0x18000000000000000000000000001000 T0 := by first | with_reducible assumption | exact sub_trans hT rfl) : ∃ sNext, execCtxPage src b v s = .next sNext ∧ Ok T0 S0 sNext := by
  unfold execCtxPage
  refine ⟨_, rfl, ?_⟩
  repeat' (first
    | with_reducible assumption | (exact sub_trans hT rfl) | with_reducible apply ok_ctxCmdWrite | split | dsimp only)

theorem ok_execCtxPageFree (src : Src) (b : Nat) (v : Word) {s : State} (hOk : Ok T0 S0 s)
    (hT : Within 0x18000000000000000000000000001000 T0 := by first | with_reducible assumption | exact sub_trans hT rfl) : ∃ sNext, execCtxPageFree src b v s = .next sNext ∧ Ok T0 S0 sNext := by
  unfold execCtxPageFree
  refine ⟨_, rfl, ?_⟩
  repeat' (first
    | with_reducible assumption | (exact sub_trans hT rfl) | with_reducible apply ok_ctxCmdWrite | split | dsimp only)

theorem ok_execCtxAbort (src : Src) (b : Nat) (v : Word) {s : State} (hOk : Ok T0 S0 s)
    (hT : Within 0x18000000000000000000000000001000 T0 := by first | with_reducible assumption | exact sub_trans hT rfl) : ∃ sNext, execCtxAbort src b v s = .next sNext ∧ Ok T0 S0 sNext := by
  unfold execCtxAbort
  refine ⟨_, rfl, ?_⟩
  repeat' (first
    | with_reducible assumption | (exact sub_trans hT rfl) | with_reducible apply ok_ctxCmdWrite | split | dsimp only)

theorem ok_ctxClaim {s : State} (b : Nat) (r : CtxRun) (hOk : Ok T0 S0 s)
    (hT : Within 0x20110000800000000000000000000001000 T0 := by first | with_reducible assumption | exact sub_trans hT rfl) : Ok T0 S0 (State.ctxClaim s b r) := by
  unfold State.ctxClaim
  repeat' (first
    | with_reducible assumption | (exact rfl) | (exact sub_trans hT rfl) | with_reducible apply ok_set
    | with_reducible apply ok_setPlaneSt | with_reducible apply ok_setHome | with_reducible apply ok_setSlotSt
    | with_reducible apply ok_addReader | with_reducible apply ok_setSlotGen | with_reducible apply ok_setCtxRun
    | (fail_if_no_progress (with_reducible refine ok_with ?_ ..)) | split | dsimp only)

theorem ok_ctxCheck {s : State} (b : Nat) (r : CtxRun) (hOk : Ok T0 S0 s)
    (hT : Within 0x20150000800000000000000000000001008 T0 := by first | with_reducible assumption | exact sub_trans hT rfl) : Ok T0 S0 (State.ctxCheck s b r) := by
  unfold State.ctxCheck
  repeat' (first
    | with_reducible assumption | (exact sub_trans hT rfl) | with_reducible apply ok_ctxEnd
    | with_reducible apply ok_ctxClaim | split | dsimp only)

theorem ok_stageFail {s : State} (b : Nat) (r : CtxRun) (result : Nat) (hOk : Ok T0 S0 s)
    (hT : Within 0x20050000800000000000000000000001008 T0 := by first | with_reducible assumption | exact sub_trans hT rfl) : Ok T0 S0 (State.stageFail s b r result) := by
  unfold State.stageFail
  repeat' (first
    | with_reducible assumption | (exact rfl) | (exact sub_trans hT rfl) | with_reducible apply ok_setPlaneSt
    | with_reducible apply ok_dropReader | with_reducible apply ok_ctxEnd | split | dsimp only)

theorem ok_pageFail {s : State} (b : Nat) (r : CtxRun) (result : Nat) (hOk : Ok T0 S0 s)
    (hT : Within 0x20150000800000000000000000000001808 T0 := by first | with_reducible assumption | exact sub_trans hT rfl) : Ok T0 S0 (State.pageFail s b r result) := by
  unfold State.pageFail
  repeat' (first
    | with_reducible assumption | (exact rfl) | (exact sub_trans hT rfl) | with_reducible apply ok_setPlaneSt
    | with_reducible apply ok_setHome | with_reducible apply ok_freeSlot | with_reducible apply ok_ctxEnd | split
    | dsimp only)

theorem ok_ctxFail {s : State} (b : Nat) (r : CtxRun) (result : Nat) (hOk : Ok T0 S0 s)
    (hT : Within 0x20150000800000000000000000000001808 T0 := by first | with_reducible assumption | exact sub_trans hT rfl) : Ok T0 S0 (State.ctxFail s b r result) := by
  unfold State.ctxFail
  repeat' (first
    | with_reducible assumption | (exact sub_trans hT rfl) | with_reducible apply ok_stageFail
    | with_reducible apply ok_pageFail | split | dsimp only)

theorem ok_stageFrame {s : State} (b : Nat) (r : CtxRun) (f : Nat) (ups : List Nat) (hOk : Ok T0 S0 s)
    (hT : Within 0x20070000800000000000000000000001818 T0 := by first | with_reducible assumption | exact sub_trans hT rfl) : Ok T0 S0 (State.stageFrame s b r f ups) := by
  unfold State.stageFrame
  repeat' (first
    | with_reducible assumption | (exact rfl) | (exact sub_trans hT rfl) | with_reducible apply ok_inc
    | with_reducible apply ok_setPlaneFrame | with_reducible apply ok_setSlotWord | with_reducible apply ok_slotFault
    | with_reducible apply ok_stageFail | (fail_if_no_progress (with_reducible refine ok_with ?_ ..))
    | (with_reducible apply ok_foldl; intro _ _ _; beta_reduce) | (intro _) | split | dsimp only)

theorem ok_pageFrame {s : State} (b : Nat) (r : CtxRun) (f : Nat) (ups : List Nat) (hOk : Ok T0 S0 s)
    (hT : Within 0x420000100000000000020150017e00000000000000000014015adc T0 := by first | with_reducible assumption | exact sub_trans hT rfl) : Ok T0 S0 (State.pageFrame s b r f ups) := by
  unfold State.pageFrame
  repeat' (first
    | with_reducible assumption | (exact rfl) | (exact sub_trans hT rfl) | with_reducible apply ok_setPlaneFrame
    | with_reducible apply ok_parityNoteFrame | with_reducible apply ok_setSlotData | with_reducible apply ok_pageFail
    | (with_reducible apply ok_foldl; intro _ _ _; beta_reduce) | (intro _) | split | dsimp only)

theorem ok_ctxFrame {s : State} (b : Nat) (r : CtxRun) (f : Nat) (ups : List Nat) (hOk : Ok T0 S0 s)
    (hT : Within 0x420000100000000000020170017e00000000000000000014015adc T0 := by first | with_reducible assumption | exact sub_trans hT rfl) : Ok T0 S0 (State.ctxFrame s b r f ups) := by
  unfold State.ctxFrame
  repeat' (first
    | with_reducible assumption | (exact sub_trans hT rfl) | with_reducible apply ok_stageFrame
    | with_reducible apply ok_pageFrame | split | dsimp only)

theorem ok_ctxNext {s : State} (b : Nat) (r : CtxRun) (ups : List Nat) (hOk : Ok T0 S0 s)
    (hT : Within 0x420000100000000000020170017e00000000000000000014015adc T0 := by first | with_reducible assumption | exact sub_trans hT rfl) : Ok T0 S0 (State.ctxNext s b r ups) := by
  unfold State.ctxNext
  repeat' (first
    | with_reducible assumption | (exact rfl) | (exact sub_trans hT rfl) | with_reducible apply ok_set
    | with_reducible apply ok_ctxFail | with_reducible apply ok_ctxFrame | split | dsimp only)

theorem ok_execCtxCopyFrame (b : Nat) (ups : List Nat) {s : State} (hOk : Ok T0 S0 s)
    (hT : Within 0x420000100000000000020170017e00000000000000000014015adc T0 := by first | with_reducible assumption | exact sub_trans hT rfl) : ∃ sNext, execCtxCopyFrame b ups s = .next sNext ∧ Ok T0 S0 sNext := by
  unfold execCtxCopyFrame
  refine ⟨_, rfl, ?_⟩
  repeat' (first
    | with_reducible assumption | (exact rfl) | (exact sub_trans hT rfl) | with_reducible apply ok_ctxCheck
    | with_reducible apply ok_ctxNext | (fail_if_no_progress (with_reducible refine ok_with ?_ ..)) | split
    | dsimp only)

theorem ok_ctxMoveRest {s : State} (b : Nat) (l : List Nat) (hOk : Ok T0 S0 s)
    (hT : Within 0x420000100000000000020170017e00000000000000000014015adc T0 := by first | with_reducible assumption | exact sub_trans hT rfl) :
    Ok T0 S0 (s.ctxMoveRest b l) := by
  induction l generalizing s with
  | nil => exact hOk
  | cons a l ih =>
    rw [State.ctxMoveRest]
    split
    · exact hOk
    · exact ih (ok_ctxFrame _ _ _ _ (ok_set rfl hOk))

theorem ok_stageWords {s : State} (b : Nat) (p : Nat) (hdr : Nat) (hOk : Ok T0 S0 s)
    (hT : Within 0x800000000000000000000000000800 T0 := by first | with_reducible assumption | exact sub_trans hT rfl) : Ok T0 S0 (State.stageWords s b p hdr) := by
  unfold State.stageWords
  repeat' (first
    | with_reducible assumption | (exact rfl) | (exact sub_trans hT rfl)
    | (with_reducible show _ &&& ~~~(fieldMask _) = _; exact mask_full _ rfl) | with_reducible apply ok_set
    | with_reducible apply ok_setReg | (fail_if_no_progress (with_reducible refine ok_with ?_ ..))
    | (with_reducible apply ok_foldl; intro _ _ _; beta_reduce) | (intro _) | split | dsimp only)

theorem ok_stageCommit {s : State} (b : Nat) (r : CtxRun) (hOk : Ok T0 S0 s)
    (hT : Within 0x20150800800000000000000000000001808 T0 := by first | with_reducible assumption | exact sub_trans hT rfl) : Ok T0 S0 (State.stageCommit s b r) := by
  unfold State.stageCommit
  repeat' (first
    | with_reducible assumption | (exact rfl) | (exact sub_trans hT rfl) | with_reducible apply ok_setPlaneSt
    | with_reducible apply ok_setHome | with_reducible apply ok_copyStages | with_reducible apply ok_freezeState
    | with_reducible apply ok_dropReader | with_reducible apply ok_ctxEnd | with_reducible apply ok_stageWords
    | dsimp only)

theorem ok_pageCommit {s : State} (b : Nat) (r : CtxRun) (hOk : Ok T0 S0 s)
    (hT : Within 0x20150000800000000000000000000001808 T0 := by first | with_reducible assumption | exact sub_trans hT rfl) : Ok T0 S0 (State.pageCommit s b r) := by
  unfold State.pageCommit
  repeat' (first
    | with_reducible assumption | (exact rfl) | (exact sub_trans hT rfl) | with_reducible apply ok_setPlaneSt
    | with_reducible apply ok_setHome | with_reducible apply ok_copyStages | with_reducible apply ok_setSlotSt
    | with_reducible apply ok_setSlotData | with_reducible apply ok_setSlotGen | with_reducible apply ok_ctxEnd
    | (fail_if_no_progress (with_reducible refine ok_with ?_ ..)) | split | dsimp only)

theorem ok_ctxFinish {s : State} (b : Nat) (staging : Bool) (hOk : Ok T0 S0 s)
    (hT : Within 0x420000100000000000020170817e00000000000000000014015adc T0 := by first | with_reducible assumption | exact sub_trans hT rfl) : Ok T0 S0 (State.ctxFinish s b staging) := by
  unfold State.ctxFinish
  repeat' (first
    | with_reducible assumption | (exact rfl) | (exact sub_trans hT rfl) | with_reducible apply ok_set
    | with_reducible apply ok_ctxCheck | with_reducible apply ok_ctxFail | with_reducible apply ok_ctxMoveRest
    | with_reducible apply ok_stageCommit | with_reducible apply ok_pageCommit
    | (fail_if_no_progress (with_reducible refine ok_with ?_ ..)) | split | dsimp only)

theorem ok_execCtxStageCommit (b : Nat) {s : State} (hOk : Ok T0 S0 s)
    (hT : Within 0x420000100000000000020170817e00000000000000000014015adc T0 := by first | with_reducible assumption | exact sub_trans hT rfl) : ∃ sNext, execCtxStageCommit b s = .next sNext ∧ Ok T0 S0 sNext := by
  unfold execCtxStageCommit
  refine ⟨_, rfl, ?_⟩
  repeat' (first
    | with_reducible assumption | (exact sub_trans hT rfl) | with_reducible apply ok_ctxFinish | dsimp only)

theorem ok_execCtxPageCommit (b : Nat) {s : State} (hOk : Ok T0 S0 s)
    (hT : Within 0x420000100000000000020170817e00000000000000000014015adc T0 := by first | with_reducible assumption | exact sub_trans hT rfl) : ∃ sNext, execCtxPageCommit b s = .next sNext ∧ Ok T0 S0 sNext := by
  unfold execCtxPageCommit
  refine ⟨_, rfl, ?_⟩
  repeat' (first
    | with_reducible assumption | (exact sub_trans hT rfl) | with_reducible apply ok_ctxFinish | dsimp only)

theorem ok_slotRelease {s : State} (g : Nat) (hOk : Ok T0 S0 s)
    (hT : Within 0x20000000000000000000000000000001800 T0 := by first | with_reducible assumption | exact sub_trans hT rfl) : Ok T0 S0 (State.slotRelease s g) := by
  unfold State.slotRelease
  repeat' (first
    | with_reducible assumption | (exact rfl) | (exact sub_trans hT rfl) | with_reducible apply ok_set
    | with_reducible apply ok_freeSlot | split | dsimp only)

theorem ok_execCtxSlotRelease (src : Src) (c : Nat) (v : Word) {s : State} (hOk : Ok T0 S0 s)
    (hT : Within 0x20000000000000000000000000000001800 T0 := by first | with_reducible assumption | exact sub_trans hT rfl) : ∃ sNext, execCtxSlotRelease src c v s = .next sNext ∧ Ok T0 S0 sNext := by
  unfold execCtxSlotRelease
  refine ⟨_, rfl, ?_⟩
  repeat' (first
    | with_reducible assumption | (exact rfl) | (exact sub_trans hT rfl) | with_reducible apply ok_slotRelease | split
    | dsimp only)

theorem ok_slotOwnerWrite {s : State} (g : Nat) (v : Word) (hOk : Ok T0 S0 s)
    (hT : Within 0x60000000000000000000000000000001800 T0 := by first | with_reducible assumption | exact sub_trans hT rfl) : Ok T0 S0 (State.slotOwnerWrite s g v) := by
  unfold State.slotOwnerWrite
  repeat' (first
    | with_reducible assumption | (exact rfl) | (exact sub_trans hT rfl) | with_reducible apply ok_plainWrite
    | with_reducible apply ok_set | with_reducible apply ok_freeSlot | split | dsimp only)

theorem ok_execCtxSlotOwnerWrite (src : Src) (c : Nat) (v : Word) {s : State} (hOk : Ok T0 S0 s)
    (hT : Within 0x60000000000000000000000000000001800 T0 := by first | with_reducible assumption | exact sub_trans hT rfl) : ∃ sNext, execCtxSlotOwnerWrite src c v s = .next sNext ∧ Ok T0 S0 sNext := by
  unfold execCtxSlotOwnerWrite
  refine ⟨_, rfl, ?_⟩
  repeat' (first
    | with_reducible assumption | (exact sub_trans hT rfl) | with_reducible apply ok_slotOwnerWrite | split
    | dsimp only)

theorem ok_slotCopyStart {s : State} (a : Nat) (d : Nat) (hOk : Ok T0 S0 s)
    (hT : Within 0x20000000000000000000000000000001000 T0 := by first | with_reducible assumption | exact sub_trans hT rfl) : Ok T0 S0 (State.slotCopyStart s a d) := by
  unfold State.slotCopyStart
  repeat' (first
    | with_reducible assumption | (exact rfl) | (exact sub_trans hT rfl) | with_reducible apply ok_setSlotSt
    | with_reducible apply ok_addReader | with_reducible apply ok_setSlotGen
    | (fail_if_no_progress (with_reducible refine ok_with ?_ ..)) | split | dsimp only)

theorem ok_migEvent {s : State} (a : Nat) (d : Nat) (bit : Nat) (hOk : Ok T0 S0 s)
    (hT : Within 0x8 T0 := by first | with_reducible assumption | exact sub_trans hT rfl) : Ok T0 S0 (State.migEvent s a d bit) := by
  unfold State.migEvent
  repeat' (first
    | with_reducible assumption | (exact sub_trans hT rfl) | with_reducible apply ok_raise | split | dsimp only)

theorem ok_copyFrames {s : State} (a d : Nat) (l : List (Nat × Nat)) (hOk : Ok T0 S0 s)
    (hT : Within 0x1000 T0 := by first | with_reducible assumption | exact sub_trans hT rfl) :
    Ok T0 S0 (s.copyFrames a d l).1 := by
  induction l generalizing s with
  | nil => exact hOk
  | cons e l ih =>
    rw [State.copyFrames]
    split
    · exact hOk
    · exact ih (ok_setSlotData _ _ _ (ok_setSlotData _ _ _ hOk))

theorem ok_slotCopyDone {s : State} (a : Nat) (d : Nat) (ups : List (Nat × Nat)) (hOk : Ok T0 S0 s)
    (hT : Within 0x20000000000000000000000000000001818 T0 := by first | with_reducible assumption | exact sub_trans hT rfl) : Ok T0 S0 (State.slotCopyDone s a d ups) := by
  unfold State.slotCopyDone
  repeat' (first
    | with_reducible assumption | (exact rfl) | (exact sub_trans hT rfl) | with_reducible apply ok_copyStages
    | with_reducible apply ok_setSlotSt | with_reducible apply ok_dropReader | with_reducible apply ok_setSlotWord
    | with_reducible apply ok_setSlotData | with_reducible apply ok_setSlotGen | with_reducible apply ok_eraseSlot
    | with_reducible apply ok_freeSlot | with_reducible apply ok_slotFault | with_reducible apply ok_migEvent
    | with_reducible apply ok_copyFrames | (fail_if_no_progress (with_reducible refine ok_with ?_ ..))
    | (with_reducible apply ok_foldl; intro _ _ _; beta_reduce) | (intro _) | split | dsimp only)

theorem ok_execSlotCopyDone (a : Nat) (d : Nat) (ups : List (Nat × Nat)) {s : State} (hOk : Ok T0 S0 s)
    (hT : Within 0x20000000000000000000000000000001818 T0 := by first | with_reducible assumption | exact sub_trans hT rfl) : ∃ sNext, execSlotCopyDone a d ups s = .next sNext ∧ Ok T0 S0 sNext := by
  unfold execSlotCopyDone
  refine ⟨_, rfl, ?_⟩
  repeat' (first
    | with_reducible assumption | (exact sub_trans hT rfl) | with_reducible apply ok_slotCopyDone | dsimp only)

theorem ok_execBulkStoreRefresh (c : Nat) {s : State} (hOk : Ok T0 S0 s)
    (hT : Within 0x400000000000000000000000000000000 T0 := by first | with_reducible assumption | exact sub_trans hT rfl) : ∃ sNext, execBulkStoreRefresh c s = .next sNext ∧ Ok T0 S0 sNext := by
  unfold execBulkStoreRefresh
  refine ⟨_, rfl, ?_⟩
  repeat' (first
    | with_reducible assumption | (exact rfl) | (exact sub_trans hT rfl) | with_reducible apply ok_set | split
    | dsimp only)

theorem ok_slotRead {s : State} (g : Nat) (f : Nat) (ups : List Nat) (hOk : Ok T0 S0 s)
    (hT : Within 0x2000000000000000000000000000000109c T0 := by first | with_reducible assumption | exact sub_trans hT rfl) : Ok T0 S0 (State.slotRead s g f ups).2.2 := by
  unfold State.slotRead
  repeat' (first
    | with_reducible assumption | (exact rfl) | (exact sub_trans hT rfl) | with_reducible apply ok_raise
    | with_reducible apply ok_raiseVec | with_reducible apply ok_setSlotWord | with_reducible apply ok_slotFault
    | (fail_if_no_progress (with_reducible refine ok_with ?_ ..))
    | (with_reducible apply ok_foldl; intro _ _ _; beta_reduce) | (intro _) | split | dsimp only)

theorem ok_execSlotPatrolStep (c : Nat) (ups : List Nat) {s : State} (hOk : Ok T0 S0 s)
    (hT : Within 0x2000000000000000000000000000000109c T0 := by first | with_reducible assumption | exact sub_trans hT rfl) : ∃ sNext, execSlotPatrolStep c ups s = .next sNext ∧ Ok T0 S0 sNext := by
  unfold execSlotPatrolStep
  refine ⟨_, rfl, ?_⟩
  repeat' (first
    | with_reducible assumption | (exact rfl) | (exact sub_trans hT rfl) | with_reducible apply ok_slotRead
    | (fail_if_no_progress (with_reducible refine ok_with ?_ ..)) | split | dsimp only)

theorem ok_copiesLost {s : State} (c : Nat) (hOk : Ok T0 S0 s)
    (hT : Within 0x20000000000000000000000000000001808 T0 := by first | with_reducible assumption | exact sub_trans hT rfl) : Ok T0 S0 (State.copiesLost s c) := by
  unfold State.copiesLost
  repeat' (first
    | with_reducible assumption | (exact sub_trans hT rfl) | with_reducible apply ok_dropReader
    | with_reducible apply ok_freeSlot | with_reducible apply ok_migEvent
    | (with_reducible apply ok_foldl; intro _ _ _; beta_reduce) | (intro _) | split | dsimp only)

theorem ok_cfgLost {s0 : State} (c : Nat) (hOk : Ok T0 S0 s0)
    (hT : Within 0x20000000000000000000000000000001808 T0 := by first | with_reducible assumption | exact sub_trans hT rfl) : Ok T0 S0 (State.cfgLost s0 c) := by
  unfold State.cfgLost
  repeat' (first
    | with_reducible assumption | (exact sub_trans hT rfl) | with_reducible apply ok_copiesLost
    | (fail_if_no_progress (with_reducible refine ok_with ?_ ..)) | dsimp only)

/-! ### Ddr -/

theorem ok_setChan {s : State} (ch : Nat) (x : DdrCh) (hOk : Ok T0 S0 s)
    (hx : mapWf (fun _ => none) (s.chan ch).words → mapWf (fun _ => none) x.words := by
      first
      | (simp only [chan_set]; with_reducible exact fun h => h)
      | exact fun h => h | exact mapSet_wf _ _ _ _ | exact fun _ => mapWf_nil _ | with_unfolding_all exact fun h => h)
    (hT : Within 0x1000000 T0 := by first | with_reducible assumption | exact sub_trans hT rfl) : Ok T0 S0 (State.setChan s ch x) := by
  refine ok_ddr hOk (sub_trans hT rfl) fun h c => ?_
  by_cases hc : c = ch
  · subst hc
    have e : State.chan { s with ddr := { s.ddr with chans := mapSet (fun _ => {}) s.ddr.chans c x } } c = x :=
      mapGet_mapSet_same _ _ _ _
    rw [e]
    exact hx (h c)
  · have e : State.chan { s with ddr := { s.ddr with chans := mapSet (fun _ => {}) s.ddr.chans ch x } } c = s.chan c :=
      mapGet_mapSet_ne _ _ _ hc
    rw [e]
    exact h c

theorem ok_setDramWord {s : State} (ch : Nat) (w : Nat) (cw : Nat) (hOk : Ok T0 S0 s)
    (hT : Within 0x1000000 T0 := by first | with_reducible assumption | exact sub_trans hT rfl) : Ok T0 S0 (State.setDramWord s ch w cw) := by
  unfold State.setDramWord
  repeat' (first
    | with_reducible assumption | (exact rfl) | (exact sub_trans hT rfl)
    | (fail_if_no_progress (with_reducible refine ok_setChan _ _ ?_ ..))
    | (fail_if_no_progress (with_reducible refine ok_with ?_ ..)) | dsimp only)

theorem ok_dramLost {s : State} (ch : Nat) (hOk : Ok T0 S0 s)
    (hT : Within 0x1000000 T0 := by first | with_reducible assumption | exact sub_trans hT rfl) : Ok T0 S0 (State.dramLost s ch) := by
  unfold State.dramLost
  repeat' (first
    | with_reducible assumption | (exact rfl) | (exact sub_trans hT rfl)
    | (fail_if_no_progress (with_reducible refine ok_setChan _ _ ?_ ..))
    | (fail_if_no_progress (with_reducible refine ok_with ?_ ..)) | dsimp only)

theorem ok_ddrEvt {s : State} (ch : Nat) (bit : Nat) (detail : Nat) (hOk : Ok T0 S0 s)
    (hT : Within 0x9c T0 := by first | with_reducible assumption | exact sub_trans hT rfl) : Ok T0 S0 (State.ddrEvt s ch bit detail) := by
  unfold State.ddrEvt
  repeat' (first
    | with_reducible assumption | (exact sub_trans hT rfl) | with_reducible apply ok_raise
    | with_reducible apply ok_wlog | with_reducible apply ok_alertEvent | split | dsimp only)

theorem ok_ddrUe {s : State} (ch : Nat) (w : Nat) (hOk : Ok T0 S0 s)
    (hT : Within 0x800000000000000000000000000000000000000000000000000000000000000000001000018 T0 := by first | with_reducible assumption | exact sub_trans hT rfl) : Ok T0 S0 (State.ddrUe s ch w) := by
  unfold State.ddrUe
  repeat' (first
    | with_reducible assumption | (exact rfl) | (exact sub_trans hT rfl) | with_reducible apply ok_inc
    | with_reducible apply ok_raise | with_reducible apply ok_wlog
    | (fail_if_no_progress (with_reducible refine ok_setChan _ _ ?_ ..))
    | (fail_if_no_progress (with_reducible refine ok_with ?_ ..)) | split | dsimp only)

theorem ok_dramRead {s : State} (ch : Nat) (w : Nat) (hOk : Ok T0 S0 s)
    (hT : Within 0x800000000000000000000000000000000000000000000000000000000000000000001000018 T0 := by first | with_reducible assumption | exact sub_trans hT rfl) : Ok T0 S0 (State.dramRead s ch w).2.2 := by
  unfold State.dramRead
  repeat' (first
    | with_reducible assumption | (exact rfl) | (exact sub_trans hT rfl) | with_reducible apply ok_inc
    | with_reducible apply ok_setDramWord | with_reducible apply ok_ddrUe
    | (fail_if_no_progress (with_reducible refine ok_with ?_ ..)) | split | dsimp only)

theorem ok_dramWrite {s : State} (ch : Nat) (w : Nat) (be : Nat) (data : Nat) (poison : Bool) (hOk : Ok T0 S0 s)
    (hT : Within 0x800000000000000000000000000000000000000000000000000000000000000000001000018 T0 := by first | with_reducible assumption | exact sub_trans hT rfl) : Ok T0 S0 (State.dramWrite s ch w be data poison).2 := by
  unfold State.dramWrite
  repeat' (first
    | with_reducible assumption | (exact rfl) | (exact sub_trans hT rfl) | with_reducible apply ok_setDramWord
    | with_reducible apply ok_dramRead | split | dsimp only)

theorem ok_dramUpsets {s : State} (ch : Nat) (ups : List (Nat × Nat)) (hOk : Ok T0 S0 s)
    (hT : Within 0x1000000 T0 := by first | with_reducible assumption | exact sub_trans hT rfl) : Ok T0 S0 (State.dramUpsets s ch ups) := by
  unfold State.dramUpsets
  repeat' (first
    | with_reducible assumption | (exact rfl) | (exact sub_trans hT rfl) | with_reducible apply ok_setDramWord
    | (with_reducible apply ok_foldl; intro _ _ _; beta_reduce) | (intro _) | dsimp only)

theorem ok_ddrRead {s : State} (ch addr lenM1 : Nat) (hOk : Ok T0 S0 s)
    (hT : Within 0x800000000000000000000000000000000000000000000000000000000000000000001000018 T0 := by first | with_reducible assumption | exact sub_trans hT rfl) :
    Ok T0 S0 (s.ddrRead ch addr lenM1).2 := by
  unfold State.ddrRead
  exact ok_foldl_snd (fun a x h => by exact ok_dramRead _ _ h) hOk

theorem ok_ddrWrite {s : State} (ch addr lenM1 : Nat) (flits : List (Nat × Bool)) (hOk : Ok T0 S0 s)
    (hT : Within 0x800000000000000000000000000000000000000000000000000000000000000000001000018 T0 := by first | with_reducible assumption | exact sub_trans hT rfl) :
    Ok T0 S0 (s.ddrWrite ch addr lenM1 flits).2 := by
  unfold State.ddrWrite
  exact ok_foldl_snd (fun a x h => by exact ok_dramWrite _ _ _ _ _ h) hOk

theorem ok_ddrAnswer {s : State} (ch : Nat) (hdr : Nat) (status : Nat) (data : List (Nat × Bool)) (hOk : Ok T0 S0 s)
    (hT : Within 0x404 T0 := by first | with_reducible assumption | exact sub_trans hT rfl) : Ok T0 S0 (State.ddrAnswer s ch hdr status data) := by
  unfold State.ddrAnswer
  repeat' (first
    | with_reducible assumption | (exact sub_trans hT rfl) | with_reducible apply ok_inject | split | dsimp only)

theorem ok_ddrServe {s : State} (ch : Nat) (hdr : Nat) (flits : List (Nat × Bool)) (hOk : Ok T0 S0 s)
    (hT : Within 0x80000000000000000000000000000000000000000000000000000000000000000000100041c T0 := by first | with_reducible assumption | exact sub_trans hT rfl) : Ok T0 S0 (State.ddrServe s ch hdr flits) := by
  unfold State.ddrServe
  repeat' (first
    | with_reducible assumption | (exact rfl) | (exact sub_trans hT rfl) | with_reducible apply ok_ddrRead
    | with_reducible apply ok_ddrWrite | with_reducible apply ok_ddrAnswer | split | dsimp only)

theorem ok_execDdrRequest (ch : Nat) (hdr : Nat) (flits : List (Nat × Bool)) (ups : List (Nat × Nat)) {s : State} (hOk : Ok T0 S0 s)
    (hT : Within 0x80000000000000000000000000000000000000000000000000000000000000000000100041c T0 := by first | with_reducible assumption | exact sub_trans hT rfl) : ∃ sNext, execDdrRequest ch hdr flits ups s = .next sNext ∧ Ok T0 S0 sNext := by
  unfold execDdrRequest
  refine ⟨_, rfl, ?_⟩
  repeat' (first
    | with_reducible assumption | (exact rfl) | (exact sub_trans hT rfl) | with_reducible apply ok_dramUpsets
    | with_reducible apply ok_ddrAnswer | with_reducible apply ok_ddrServe | split | dsimp only)

theorem ok_execDdrRefresh (ch : Nat) {s : State} (hOk : Ok T0 S0 s)
    (hT : Within 0x1000000 T0 := by first | with_reducible assumption | exact sub_trans hT rfl) : ∃ sNext, execDdrRefresh ch s = .next sNext ∧ Ok T0 S0 sNext := by
  unfold execDdrRefresh
  refine ⟨_, rfl, ?_⟩
  repeat' (first
    | with_reducible assumption | (exact rfl) | (exact sub_trans hT rfl)
    | (fail_if_no_progress (with_reducible refine ok_setChan _ _ ?_ ..))
    | (fail_if_no_progress (with_reducible refine ok_with ?_ ..)) | split | dsimp only)

theorem ok_ddrTrainOne {s : State} (ch : Nat) (hOk : Ok T0 S0 s)
    (hT : Within 0x400000000000000000000000000000000000000000000000000000000000000000001000000 T0 := by first | with_reducible assumption | exact sub_trans hT rfl) : Ok T0 S0 (State.ddrTrainOne s ch) := by
  unfold State.ddrTrainOne
  repeat' (first
    | with_reducible assumption | (exact rfl) | (exact sub_trans hT rfl) | with_reducible apply ok_set
    | (fail_if_no_progress (with_reducible refine ok_setChan _ _ ?_ ..)) | with_reducible apply ok_dramLost
    | (fail_if_no_progress (with_reducible refine ok_with ?_ ..)) | dsimp only)

theorem ok_ddrTrainFull {s : State} (ch : Nat) (hOk : Ok T0 S0 s)
    (hT : Within 0x400000000000000000000000000000000000000000000000000000000000000000001000000 T0 := by first | with_reducible assumption | exact sub_trans hT rfl) : Ok T0 S0 (State.ddrTrainFull s ch) := by
  unfold State.ddrTrainFull
  repeat' (first
    | with_reducible assumption | (exact rfl) | (exact sub_trans hT rfl) | with_reducible apply ok_ddrTrainOne
    | (fail_if_no_progress (with_reducible refine ok_with ?_ ..)) | split | dsimp only)

theorem ok_ddrCheck {s : State} (ch : Nat) (hOk : Ok T0 S0 s)
    (hT : Within 0x400000000000000000000000000000000000000000000000000000000000000000001000000 T0 := by first | with_reducible assumption | exact sub_trans hT rfl) : Ok T0 S0 (State.ddrCheck s ch) := by
  unfold State.ddrCheck
  repeat' (first
    | with_reducible assumption | (exact rfl) | (exact sub_trans hT rfl) | with_reducible apply ok_set
    | (fail_if_no_progress (with_reducible refine ok_setChan _ _ ?_ ..))
    | (fail_if_no_progress (with_reducible refine ok_with ?_ ..)) | dsimp only)

theorem ok_ddrEnterSelf {s : State} (ch : Nat) (twin : Bool) (hOk : Ok T0 S0 s)
    (hT : Within 0x1000000 T0 := by first | with_reducible assumption | exact sub_trans hT rfl) : Ok T0 S0 (State.ddrEnterSelf s ch twin) := by
  unfold State.ddrEnterSelf
  repeat' (first
    | with_reducible assumption | (exact rfl) | (exact sub_trans hT rfl)
    | (fail_if_no_progress (with_reducible refine ok_setChan _ _ ?_ ..))
    | (fail_if_no_progress (with_reducible refine ok_with ?_ ..)) | split | dsimp only)

theorem ok_ddrEnterSelfCol {s : State} (c : Nat) (twin : Bool) (hOk : Ok T0 S0 s)
    (hT : Within 0x1000000 T0 := by first | with_reducible assumption | exact sub_trans hT rfl) : Ok T0 S0 (State.ddrEnterSelfCol s c twin) := by
  unfold State.ddrEnterSelfCol
  repeat' (first
    | with_reducible assumption | (exact sub_trans hT rfl) | with_reducible apply ok_ddrEnterSelf | dsimp only)

theorem ok_ddrClockLost {s : State} (c : Nat) (twin : Bool) (hOk : Ok T0 S0 s)
    (hT : Within 0x1000000 T0 := by first | with_reducible assumption | exact sub_trans hT rfl) : Ok T0 S0 (State.ddrClockLost s c twin) := by
  unfold State.ddrClockLost
  repeat' (first
    | with_reducible assumption | (exact rfl) | (exact sub_trans hT rfl)
    | (fail_if_no_progress (with_reducible refine ok_setChan _ _ ?_ ..))
    | (fail_if_no_progress (with_reducible refine ok_with ?_ ..))
    | (with_reducible apply ok_foldl; intro _ _ _; beta_reduce) | (intro _) | split | dsimp only)

theorem ok_execDdrSelfrefEntryDone (ch : Nat) {s : State} (hOk : Ok T0 S0 s)
    (hT : Within 0x400000000000000000000000000000000000000000000000000000000000000000001000000 T0 := by first | with_reducible assumption | exact sub_trans hT rfl) : ∃ sNext, execDdrSelfrefEntryDone ch s = .next sNext ∧ Ok T0 S0 sNext := by
  unfold execDdrSelfrefEntryDone
  refine ⟨_, rfl, ?_⟩
  repeat' (first
    | with_reducible assumption | (exact rfl) | (exact sub_trans hT rfl) | with_reducible apply ok_set
    | (fail_if_no_progress (with_reducible refine ok_setChan _ _ ?_ ..))
    | (fail_if_no_progress (with_reducible refine ok_with ?_ ..)) | split | dsimp only)

theorem ok_ddrReadyNow {s : State} (ch : Nat) (detail : Nat) (hOk : Ok T0 S0 s)
    (hT : Within 0x40000000000000000000000000000000000000000000000000000000000000000000100009c T0 := by first | with_reducible assumption | exact sub_trans hT rfl) : Ok T0 S0 (State.ddrReadyNow s ch detail) := by
  unfold State.ddrReadyNow
  repeat' (first
    | with_reducible assumption | (exact rfl) | (exact sub_trans hT rfl) | with_reducible apply ok_set
    | (fail_if_no_progress (with_reducible refine ok_setChan _ _ ?_ ..)) | with_reducible apply ok_ddrEvt
    | (fail_if_no_progress (with_reducible refine ok_with ?_ ..)) | dsimp only)

theorem ok_ddrDown {s : State} (ch : Nat) (hOk : Ok T0 S0 s)
    (hT : Within 0x400000000000000000000000000000000000000000000000000000000000000000001000000 T0 := by first | with_reducible assumption | exact sub_trans hT rfl) : Ok T0 S0 (State.ddrDown s ch) := by
  unfold State.ddrDown
  repeat' (first
    | with_reducible assumption | (exact rfl) | (exact sub_trans hT rfl) | with_reducible apply ok_set
    | (fail_if_no_progress (with_reducible refine ok_setChan _ _ ?_ ..)) | with_reducible apply ok_dramLost
    | (fail_if_no_progress (with_reducible refine ok_with ?_ ..)) | split | dsimp only)

theorem ok_ddrUp {s : State} (ch : Nat) (hOk : Ok T0 S0 s)
    (hT : Within 0x400000000000000000000000000000000000000000000000000000000000000000001000000 T0 := by first | with_reducible assumption | exact sub_trans hT rfl) : Ok T0 S0 (State.ddrUp s ch) := by
  unfold State.ddrUp
  repeat' (first
    | with_reducible assumption | (exact sub_trans hT rfl) | with_reducible apply ok_ddrTrainFull
    | with_reducible apply ok_ddrCheck | split | dsimp only)

theorem ok_ddrExitSelf {s : State} (ch : Nat) (hOk : Ok T0 S0 s)
    (hT : Within 0x40000000000000000000000000000000000000000000000000000000000000000000100009c T0 := by first | with_reducible assumption | exact sub_trans hT rfl) : Ok T0 S0 (State.ddrExitSelf s ch) := by
  unfold State.ddrExitSelf
  repeat' (first
    | with_reducible assumption | (exact rfl) | (exact sub_trans hT rfl)
    | (fail_if_no_progress (with_reducible refine ok_setChan _ _ ?_ ..)) | with_reducible apply ok_ddrReadyNow
    | (fail_if_no_progress (with_reducible refine ok_with ?_ ..)) | split | dsimp only)

theorem ok_ddrTrain {s : State} (ch : Nat) (hOk : Ok T0 S0 s)
    (hT : Within 0x400000000000000000000000000000000000000000000000000000000000000000001000000 T0 := by first | with_reducible assumption | exact sub_trans hT rfl) : Ok T0 S0 (State.ddrTrain s ch) := by
  unfold State.ddrTrain
  repeat' (first
    | with_reducible assumption | (exact sub_trans hT rfl) | with_reducible apply ok_ddrTrainFull | split | dsimp only)

theorem ok_ddrCfgWrite {s : State} (ch : Nat) (v : Word) (hOk : Ok T0 S0 s)
    (hT : Within 0x600000000000000000000000000000000000000000000000000000000000000000001000000 T0 := by first | with_reducible assumption | exact sub_trans hT rfl) : Ok T0 S0 (State.ddrCfgWrite s ch v) := by
  unfold State.ddrCfgWrite
  repeat' (first
    | with_reducible assumption | (exact rfl) | (exact sub_trans hT rfl) | with_reducible apply ok_set
    | with_reducible apply ok_ddrTrain | split | dsimp only)

theorem ok_execDdrTrain (src : Src) (ch : Nat) (v : Word) {s : State} (hOk : Ok T0 S0 s)
    (hT : Within 0x600000000000000000000000000000000000000000000000000000000000000000001000000 T0 := by first | with_reducible assumption | exact sub_trans hT rfl) : ∃ sNext, execDdrTrain src ch v s = .next sNext ∧ Ok T0 S0 sNext := by
  unfold execDdrTrain
  refine ⟨_, rfl, ?_⟩
  repeat' (first
    | with_reducible assumption | (exact sub_trans hT rfl) | with_reducible apply ok_ddrCfgWrite | split | dsimp only)

theorem ok_ddrTrainingDone {s : State} (ch : Nat) (spd : Option Nat) (ok : Bool) (ms : Nat) (hOk : Ok T0 S0 s)
    (hT : Within 0x40000000000000000000000000000000000000000000000000000000000000000000100009c T0 := by first | with_reducible assumption | exact sub_trans hT rfl) : Ok T0 S0 (State.ddrTrainingDone s ch spd ok ms) := by
  unfold State.ddrTrainingDone
  repeat' (first
    | with_reducible assumption | (exact rfl) | (exact sub_trans hT rfl) | with_reducible apply ok_set
    | (fail_if_no_progress (with_reducible refine ok_setChan _ _ ?_ ..)) | with_reducible apply ok_ddrEvt
    | with_reducible apply ok_ddrTrainFull | with_reducible apply ok_ddrReadyNow
    | (fail_if_no_progress (with_reducible refine ok_with ?_ ..)) | split | dsimp only)

theorem ok_execDdrTrainingDone (ch : Nat) (spd : Option Nat) (ok : Bool) (ms : Nat) {s : State} (hOk : Ok T0 S0 s)
    (hT : Within 0x40000000000000000000000000000000000000000000000000000000000000000000100009c T0 := by first | with_reducible assumption | exact sub_trans hT rfl) : ∃ sNext, execDdrTrainingDone ch spd ok ms s = .next sNext ∧ Ok T0 S0 sNext := by
  unfold execDdrTrainingDone
  refine ⟨_, rfl, ?_⟩
  repeat' (first
    | with_reducible assumption | (exact rfl) | with_reducible apply ok_domSt | (exact sub_trans hT rfl)
    | with_reducible apply ok_ddrTrainingDone | split | dsimp only)

/-! ### Load -/

theorem ok_setLoad {s : State} (n : Nat) (r : Option LoadRun) (hOk : Ok T0 S0 s)
    (hT : Within 0x2000 T0 := by first | with_reducible assumption | exact sub_trans hT rfl) : Ok T0 S0 (State.setLoad s n r) := by
  unfold State.setLoad
  repeat' (first
    | with_reducible assumption | (exact sub_trans hT rfl)
    | (fail_if_no_progress (with_reducible refine ok_with ?_ ..)) | dsimp only)

theorem ok_loadEvt {s : State} (n : Nat) (f : Fld) (hf_f : f.calm = true) (hOk : Ok T0 S0 s)
    (hT : Within 0x8 T0 := by first | with_reducible assumption | exact sub_trans hT rfl)
    (hb_f : Within (regBit f.reg) T0 := by first | with_reducible assumption | exact sub_trans hT rfl) : Ok T0 S0 (State.loadEvt s n f) := by
  unfold State.loadEvt
  repeat' (first
    | with_reducible assumption | (exact rfl) | (exact sub_trans hT rfl) | with_reducible apply ok_set
    | with_reducible apply ok_raise | split | dsimp only)

theorem ok_dropHolds {s : State} (n : Nat) (hOk : Ok T0 S0 s)
    (hT : Within 0x1000 T0 := by first | with_reducible assumption | exact sub_trans hT rfl) : Ok T0 S0 (State.dropHolds s n) := by
  unfold State.dropHolds
  repeat' (first
    | with_reducible assumption | (exact sub_trans hT rfl)
    | (fail_if_no_progress (with_reducible refine ok_with ?_ ..)) | dsimp only)

theorem ok_dropPreload {s : State} (n : Nat) (hOk : Ok T0 S0 s)
    (hT : Within 0x4000 T0 := by first | with_reducible assumption | exact sub_trans hT rfl) : Ok T0 S0 (State.dropPreload s n) := by
  unfold State.dropPreload
  repeat' (first
    | with_reducible assumption | (exact rfl) | (exact sub_trans hT rfl) | with_reducible apply ok_setMemReqs
    | (with_reducible apply ok_foldl; intro _ _ _; beta_reduce) | (intro _) | dsimp only)

theorem ok_loadFail {s : State} (n : Nat) (r : LoadRun) (result : Nat) (hOk : Ok T0 S0 s)
    (hT : Within 0x12020000000000000000000000000000007018 T0 := by first | with_reducible assumption | exact sub_trans hT rfl) : Ok T0 S0 (State.loadFail s n r result) := by
  unfold State.loadFail
  repeat' (first
    | with_reducible assumption | (exact rfl) | (exact sub_trans hT rfl) | with_reducible apply ok_set
    | with_reducible apply ok_wlog | with_reducible apply ok_setSlotSt | with_reducible apply ok_setLoad
    | with_reducible apply ok_loadEvt | with_reducible apply ok_dropHolds | with_reducible apply ok_dropPreload
    | (with_reducible apply ok_foldl; intro _ _ _; beta_reduce) | (intro _) | split | dsimp only)

theorem ok_loadFault {s : State} (n : Nat) (r : LoadRun) (hOk : Ok T0 S0 s)
    (hT : Within 0x8000000000000000000000000000000000000 T0 := by first | with_reducible assumption | exact sub_trans hT rfl) : Ok T0 S0 (State.loadFault s n r) := by
  unfold State.loadFault
  repeat' (first
    | with_reducible assumption | (exact rfl) | (exact sub_trans hT rfl) | with_reducible apply ok_set | dsimp only)

theorem ok_loadStart {s : State} (n : Nat) (v : Word) (hOk : Ok T0 S0 s)
    (hT : Within 0x1e020000000000000000000000000000007018 T0 := by first | with_reducible assumption | exact sub_trans hT rfl) : Ok T0 S0 (State.loadStart s n v) := by
  unfold State.loadStart
  repeat' (first
    | with_reducible assumption | (exact rfl) | (exact sub_trans hT rfl)
    | (with_reducible show _ &&& ~~~(fieldMask _) = _; exact mask_full _ rfl) | with_reducible apply ok_set
    | with_reducible apply ok_setReg | with_reducible apply ok_setLoad | with_reducible apply ok_loadFail | split
    | dsimp only)

theorem ok_loadCtlWrite {s : State} (n : Nat) (v : Word) (hOk : Ok T0 S0 s)
    (hT : Within 0x1e120000000000000000000000000000007018 T0 := by first | with_reducible assumption | exact sub_trans hT rfl) : Ok T0 S0 (State.loadCtlWrite s n v) := by
  unfold State.loadCtlWrite
  repeat' (first
    | with_reducible assumption | (exact rfl) | (exact sub_trans hT rfl) | with_reducible apply ok_plainWrite
    | with_reducible apply ok_set | with_reducible apply ok_loadFail | with_reducible apply ok_loadStart
    | (fail_if_no_progress (with_reducible refine ok_with ?_ ..)) | split | dsimp only)

theorem ok_execLoadGo (src : Src) (n : Nat) (v : Word) {s : State} (hOk : Ok T0 S0 s)
    (hT : Within 0x1e120000000000000000000000000000007018 T0 := by first | with_reducible assumption | exact sub_trans hT rfl) : ∃ sNext, execLoadGo src n v s = .next sNext ∧ Ok T0 S0 sNext := by
  unfold execLoadGo
  refine ⟨_, rfl, ?_⟩
  repeat' (first
    | with_reducible assumption | (exact sub_trans hT rfl) | with_reducible apply ok_loadCtlWrite | split | dsimp only)

theorem ok_execLoadAbort (src : Src) (n : Nat) (v : Word) {s : State} (hOk : Ok T0 S0 s)
    (hT : Within 0x1e120000000000000000000000000000007018 T0 := by first | with_reducible assumption | exact sub_trans hT rfl) : ∃ sNext, execLoadAbort src n v s = .next sNext ∧ Ok T0 S0 sNext := by
  unfold execLoadAbort
  refine ⟨_, rfl, ?_⟩
  repeat' (first
    | with_reducible assumption | (exact sub_trans hT rfl) | with_reducible apply ok_loadCtlWrite | split | dsimp only)

theorem ok_loadHeader {s : State} (n : Nat) (r : LoadRun) (hOk : Ok T0 S0 s)
    (hT : Within 0x12020000000000000000000000000000007018 T0 := by first | with_reducible assumption | exact sub_trans hT rfl) : Ok T0 S0 (State.loadHeader s n r) := by
  unfold State.loadHeader
  repeat' (first
    | with_reducible assumption | (exact rfl) | (exact sub_trans hT rfl) | with_reducible apply ok_set
    | with_reducible apply ok_setLoad | with_reducible apply ok_loadFail
    | (fail_if_no_progress (with_reducible refine ok_with ?_ ..)) | split | dsimp only)

theorem ok_loadTable {s : State} (n : Nat) (r : LoadRun) (hOk : Ok T0 S0 s)
    (hT : Within 0x12020000000000000000000000000000007018 T0 := by first | with_reducible assumption | exact sub_trans hT rfl) : Ok T0 S0 (State.loadTable s n r) := by
  unfold State.loadTable
  repeat' (first
    | with_reducible assumption | (exact rfl) | (exact sub_trans hT rfl) | with_reducible apply ok_set
    | with_reducible apply ok_setLoad | with_reducible apply ok_loadFail
    | (fail_if_no_progress (with_reducible refine ok_with ?_ ..))
    | (with_reducible apply ok_foldl; intro _ _ _; beta_reduce) | (intro _) | split | dsimp only)

theorem ok_loadDecls {s : State} (n : Nat) (r : LoadRun) (hOk : Ok T0 S0 s)
    (hT : Within 0x12020000000000000000000000000000007018 T0 := by first | with_reducible assumption | exact sub_trans hT rfl) : Ok T0 S0 (State.loadDecls s n r) := by
  unfold State.loadDecls
  repeat' (first
    | with_reducible assumption | (exact rfl) | (exact sub_trans hT rfl) | with_reducible apply ok_set
    | with_reducible apply ok_setLoad | with_reducible apply ok_loadFail
    | (fail_if_no_progress (with_reducible refine ok_with ?_ ..))
    | (with_reducible apply ok_foldl; intro _ _ _; beta_reduce) | (intro _) | split | dsimp only)

theorem ok_loadWrite {s : State} (r : LoadRun) (f : Nat) (d : Nat) (hOk : Ok T0 S0 s)
    (hT : Within 0x1000 T0 := by first | with_reducible assumption | exact sub_trans hT rfl) : Ok T0 S0 (State.loadWrite s r f d) := by
  unfold State.loadWrite
  repeat' (first
    | with_reducible assumption | (exact rfl) | (exact sub_trans hT rfl) | with_reducible apply ok_setSlotData
    | (with_reducible apply ok_foldl; intro _ _ _; beta_reduce) | (intro _) | dsimp only)

theorem ok_loadConfig {s : State} (n : Nat) (r : LoadRun) (fr : List Byte) (hOk : Ok T0 S0 s)
    (hT : Within 0x1a020000000000000000000000000000007018 T0 := by first | with_reducible assumption | exact sub_trans hT rfl) : Ok T0 S0 (State.loadConfig s n r fr) := by
  unfold State.loadConfig
  repeat' (first
    | with_reducible assumption | (exact sub_trans hT rfl) | with_reducible apply ok_loadFail
    | with_reducible apply ok_loadFault | with_reducible apply ok_loadWrite
    | (with_reducible apply ok_foldl; intro _ _ _; beta_reduce) | (intro _) | split | dsimp only)

theorem ok_loadState {s : State} (r : LoadRun) (fr : List Byte) (hOk : Ok T0 S0 s)
    (hT : Within 0x1000 T0 := by first | with_reducible assumption | exact sub_trans hT rfl) : Ok T0 S0 (State.loadState s r fr) := by
  unfold State.loadState
  repeat' (first
    | with_reducible assumption | (exact sub_trans hT rfl) | with_reducible apply ok_loadWrite
    | (with_reducible apply ok_foldl; intro _ _ _; beta_reduce) | (intro _) | dsimp only)

theorem ok_loadGenState {s : State} (r : LoadRun) (hOk : Ok T0 S0 s)
    (hT : Within 0x1000 T0 := by first | with_reducible assumption | exact sub_trans hT rfl) : Ok T0 S0 (State.loadGenState s r) := by
  unfold State.loadGenState
  repeat' (first
    | with_reducible assumption | (exact rfl) | (exact sub_trans hT rfl) | with_reducible apply ok_setSlotData
    | (with_reducible apply ok_foldl; intro _ _ _; beta_reduce) | (intro _) | split | dsimp only)

theorem ok_preloadWrite {s : State} (n : Nat) (b : Nat) (block : Nat) (first : Nat) (ws : List Nat) (hOk : Ok T0 S0 s)
    (hT : Within 0x4000 T0 := by first | with_reducible assumption | exact sub_trans hT rfl) : Ok T0 S0 (State.preloadWrite s n b block first ws) := by
  unfold State.preloadWrite
  repeat' (first
    | with_reducible assumption | (exact rfl) | (exact sub_trans hT rfl) | with_reducible apply ok_setMemReqs
    | dsimp only)

theorem ok_loadPreload {s : State} (n : Nat) (r : LoadRun) (fr : List Byte) (hOk : Ok T0 S0 s)
    (hT : Within 0x1a020000000000000000000000000000007018 T0 := by first | with_reducible assumption | exact sub_trans hT rfl) : Ok T0 S0 (State.loadPreload s n r fr) := by
  unfold State.loadPreload
  repeat' (first
    | with_reducible assumption | (exact rfl) | (exact sub_trans hT rfl) | with_reducible apply ok_setLoad
    | with_reducible apply ok_loadFail | with_reducible apply ok_loadFault | with_reducible apply ok_preloadWrite
    | (fail_if_no_progress (with_reducible refine ok_with ?_ ..)) | split | dsimp only)

theorem ok_loadSectionEnd {s : State} (n : Nat) (r : LoadRun) (type : Nat) (hOk : Ok T0 S0 s)
    (hT : Within 0x12020000000000000000000000000000007018 T0 := by first | with_reducible assumption | exact sub_trans hT rfl) : Ok T0 S0 (State.loadSectionEnd s n r type) := by
  unfold State.loadSectionEnd
  repeat' (first
    | with_reducible assumption | (exact rfl) | (exact sub_trans hT rfl) | with_reducible apply ok_set
    | with_reducible apply ok_setLoad | with_reducible apply ok_loadDecls | with_reducible apply ok_loadGenState
    | (fail_if_no_progress (with_reducible refine ok_with ?_ ..)) | split | dsimp only)

theorem ok_loadFrame {s : State} (n : Nat) (r : LoadRun) (e : LoadSection) (hOk : Ok T0 S0 s)
    (hT : Within 0x1e020000000000000000000000000000007018 T0 := by first | with_reducible assumption | exact sub_trans hT rfl) : Ok T0 S0 (State.loadFrame s n r e) := by
  unfold State.loadFrame
  repeat' (first
    | with_reducible assumption | (exact rfl) | (exact sub_trans hT rfl) | with_reducible apply ok_inc
    | with_reducible apply ok_setLoad | with_reducible apply ok_loadFail | with_reducible apply ok_loadFault
    | with_reducible apply ok_loadConfig | with_reducible apply ok_loadState | with_reducible apply ok_loadPreload
    | with_reducible apply ok_loadSectionEnd | (fail_if_no_progress (with_reducible refine ok_with ?_ ..)) | split
    | dsimp only)

theorem ok_loadTrailer {s : State} (n : Nat) (r : LoadRun) (hOk : Ok T0 S0 s)
    (hT : Within 0x12020000000000000000000000000000007018 T0 := by first | with_reducible assumption | exact sub_trans hT rfl) : Ok T0 S0 (State.loadTrailer s n r) := by
  unfold State.loadTrailer
  repeat' (first
    | with_reducible assumption | (exact rfl) | (exact sub_trans hT rfl) | with_reducible apply ok_setLoad
    | with_reducible apply ok_loadFail | (fail_if_no_progress (with_reducible refine ok_with ?_ ..)) | split
    | dsimp only)

theorem ok_loadUse {s : State} (n fuel : Nat) (hOk : Ok T0 S0 s)
    (hT : Within 0x1e020000000000000000000000000000007018 T0 := by first | with_reducible assumption | exact sub_trans hT rfl) : Ok T0 S0 (s.loadUse n fuel) := by
  induction fuel generalizing s with
  | zero => exact hOk
  | succ k ih =>
    rw [State.loadUse]
    repeat' (first
      | with_reducible assumption
      | exact rfl
      | (exact sub_trans hT rfl)
      | (with_reducible apply mask_full; rfl)
      | with_reducible apply ok_loadHeader
      | with_reducible apply ok_loadFail
      | with_reducible apply ok_loadTable
      | with_reducible apply ok_loadSectionEnd
      | with_reducible apply ok_loadFrame
      | with_reducible apply ok_loadTrailer
      | fail_if_no_progress (with_reducible refine ok_with ?_ ..)
      | (with_reducible apply ok_foldl; intro _ _ _; beta_reduce)
      | with_reducible apply ih
      | intro _
      | split
      | dsimp only)

theorem ok_loadFeed {s : State} (n fuel : Nat) (bs : List Byte) (hOk : Ok T0 S0 s)
    (hT : Within 0x1e020000000000000000000000000000007018 T0 := by first | with_reducible assumption | exact sub_trans hT rfl) : Ok T0 S0 (s.loadFeed n fuel bs).2 := by
  induction fuel generalizing s bs with
  | zero => exact hOk
  | succ fuel ih =>
    unfold State.loadFeed
    split
    · exact hOk
    · dsimp only
      split
      · exact hOk
      · exact ih _ (ok_loadUse _ _ (ok_setLoad _ _ hOk))

theorem ok_loadArrive {s : State} (n : Nat) (bytes : List Byte) (hOk : Ok T0 S0 s)
    (hT : Within 0x1e020000000000000000000000000000007018 T0 := by first | with_reducible assumption | exact sub_trans hT rfl) : Ok T0 S0 (State.loadArrive s n bytes) := by
  unfold State.loadArrive
  repeat' (first
    | with_reducible assumption | (exact sub_trans hT rfl) | with_reducible apply ok_loadFeed | dsimp only)

theorem ok_ddrBytes {s : State} (a k : Nat) (hOk : Ok T0 S0 s)
    (hT : Within 0x800000000000000000000000000000000000000000000000000000000000000000001000018 T0 := by first | with_reducible assumption | exact sub_trans hT rfl) :
    Ok T0 S0 (s.ddrBytes a k).2 := by
  unfold State.ddrBytes
  dsimp only
  generalize upTo ((a % 8 + k + 7) / 8) = l
  suffices h : ∀ acc : List Byte × Bool × State, Ok T0 S0 acc.2.2 → Ok T0 S0 (List.foldl _ acc l).2.2 from h ([], true, s) hOk
  induction l with
  | nil => exact fun _ h => h
  | cons i l ih =>
    intro acc h
    refine ih _ ?_
    beta_reduce
    split
    · exact ok_dramRead _ _ h
    · exact h

theorem ok_sourceBytes {s : State} (r : LoadRun) (bytes : List Byte) (hOk : Ok T0 S0 s)
    (hT : Within 0x800000000000000000000000000000000000000000000000000000000000000000001000018 T0 := by first | with_reducible assumption | exact sub_trans hT rfl) : Ok T0 S0 (State.sourceBytes s r bytes).2 := by
  unfold State.sourceBytes
  repeat' (first
    | with_reducible assumption | (exact sub_trans hT rfl) | with_reducible apply ok_ddrBytes
    | (fail_if_no_progress (with_reducible refine ok_with ?_ ..)) | split | dsimp only)

theorem ok_loadData {s : State} (n : Nat) (bytes : List Byte) (hOk : Ok T0 S0 s)
    (hT : Within 0x80000000000000000000000000000000000001e020000000000000000000000000001007018 T0 := by first | with_reducible assumption | exact sub_trans hT rfl) : Ok T0 S0 (s.loadData n bytes) := by
  unfold State.loadData
  split
  · exact hOk
  · rename_i r _
    have h := ok_sourceBytes r (bytes.take (loadRoom r bytes.length)) hOk
    generalize s.sourceBytes r (bytes.take (loadRoom r bytes.length)) = z at h
    obtain ⟨o, s1⟩ := z
    cases o with
    | none => exact ok_loadFail _ _ _ h
    | some bs => exact ok_loadArrive _ _ h

theorem ok_execLoadDataArrival (n : Nat) (bytes : List Byte) {s : State} (hOk : Ok T0 S0 s)
    (hT : Within 0x80000000000000000000000000000000000001e020000000000000000000000000001007018 T0 := by first | with_reducible assumption | exact sub_trans hT rfl) : ∃ sNext, execLoadDataArrival n bytes s = .next sNext ∧ Ok T0 S0 sNext := by
  unfold execLoadDataArrival
  refine ⟨_, rfl, ?_⟩
  repeat' (first
    | with_reducible assumption | (exact rfl) | (exact sub_trans hT rfl) | with_reducible apply ok_loadData
    | (fail_if_no_progress (with_reducible refine ok_with ?_ ..)) | split | dsimp only)

theorem ok_loadHold {s : State} (n : Nat) (hOk : Ok T0 S0 s)
    (hT : Within 0x1e020000000000000000000000000000007018 T0 := by first | with_reducible assumption | exact sub_trans hT rfl) : Ok T0 S0 (State.loadHold s n) := by
  unfold State.loadHold
  repeat' (first
    | with_reducible assumption | (exact rfl) | (exact sub_trans hT rfl) | with_reducible apply ok_set
    | with_reducible apply ok_setSlotSt | with_reducible apply ok_setSlotGen | with_reducible apply ok_setLoad
    | with_reducible apply ok_dropHolds | with_reducible apply ok_loadFail | with_reducible apply ok_loadUse
    | (fail_if_no_progress (with_reducible refine ok_with ?_ ..))
    | (with_reducible apply ok_foldl; intro _ _ _; beta_reduce) | (intro _) | split | dsimp only)

theorem ok_execLoadHoldDone (n : Nat) {s : State} (hOk : Ok T0 S0 s)
    (hT : Within 0x1e020000000000000000000000000000007018 T0 := by first | with_reducible assumption | exact sub_trans hT rfl) : ∃ sNext, execLoadHoldDone n s = .next sNext ∧ Ok T0 S0 sNext := by
  unfold execLoadHoldDone
  refine ⟨_, rfl, ?_⟩
  repeat' (first
    | with_reducible assumption | (exact rfl) | (exact sub_trans hT rfl) | with_reducible apply ok_loadHold | split
    | dsimp only)

theorem ok_loadCommit {s : State} (n : Nat) (hOk : Ok T0 S0 s)
    (hT : Within 0x12020000000000000000000000000000007818 T0 := by first | with_reducible assumption | exact sub_trans hT rfl) : Ok T0 S0 (State.loadCommit s n) := by
  unfold State.loadCommit
  repeat' (first
    | with_reducible assumption | (exact rfl) | (exact sub_trans hT rfl) | with_reducible apply ok_set
    | with_reducible apply ok_dropStages | with_reducible apply ok_setSlotSt | with_reducible apply ok_setSlotData
    | with_reducible apply ok_setSlotGen | with_reducible apply ok_setLoad | with_reducible apply ok_loadEvt
    | with_reducible apply ok_loadFail | (fail_if_no_progress (with_reducible refine ok_with ?_ ..))
    | (with_reducible apply ok_foldl; intro _ _ _; beta_reduce) | (intro _) | split | dsimp only)

theorem ok_execLoadCommit (n : Nat) {s : State} (hOk : Ok T0 S0 s)
    (hT : Within 0x12020000000000000000000000000000007818 T0 := by first | with_reducible assumption | exact sub_trans hT rfl) : ∃ sNext, execLoadCommit n s = .next sNext ∧ Ok T0 S0 sNext := by
  unfold execLoadCommit
  refine ⟨_, rfl, ?_⟩
  repeat' (first
    | with_reducible assumption | (exact rfl) | (exact sub_trans hT rfl) | with_reducible apply ok_loadCommit | split
    | dsimp only)

theorem ok_execLoadSourceTimeout (n : Nat) {s : State} (hOk : Ok T0 S0 s)
    (hT : Within 0x12020000000000000000000000000000007018 T0 := by first | with_reducible assumption | exact sub_trans hT rfl) : ∃ sNext, execLoadSourceTimeout n s = .next sNext ∧ Ok T0 S0 sNext := by
  unfold execLoadSourceTimeout
  refine ⟨_, rfl, ?_⟩
  repeat' (first
    | with_reducible assumption | (exact rfl) | (exact sub_trans hT rfl) | with_reducible apply ok_loadFail
    | (fail_if_no_progress (with_reducible refine ok_with ?_ ..)) | split | dsimp only)

theorem ok_execLoadSourceError (n : Nat) {s : State} (hOk : Ok T0 S0 s)
    (hT : Within 0x4000000000000000012020000000000000000000000000000007018 T0 := by first | with_reducible assumption | exact sub_trans hT rfl) : ∃ sNext, execLoadSourceError n s = .next sNext ∧ Ok T0 S0 sNext := by
  unfold execLoadSourceError
  refine ⟨_, rfl, ?_⟩
  repeat' (first
    | with_reducible assumption | (exact rfl) | (exact sub_trans hT rfl) | with_reducible apply ok_inc
    | with_reducible apply ok_loadFail | (fail_if_no_progress (with_reducible refine ok_with ?_ ..)) | split
    | dsimp only)

theorem ok_loadsRefused {s : State} (hOk : Ok T0 S0 s)
    (hT : Within 0x12020000000000000000000000000000007018 T0 := by first | with_reducible assumption | exact sub_trans hT rfl) : Ok T0 S0 (State.loadsRefused s) := by
  unfold State.loadsRefused
  repeat' (first
    | with_reducible assumption | (exact sub_trans hT rfl) | with_reducible apply ok_loadFail
    | (fail_if_no_progress (with_reducible refine ok_with ?_ ..))
    | (with_reducible apply ok_foldl; intro _ _ _; beta_reduce) | (intro _) | split | dsimp only)

theorem ok_execDrainTimeout {s : State} (hOk : Ok T0 S0 s)
    (hT : Within 0x40020000000001202000000000000000000000000000080741c T0 := by first | with_reducible assumption | exact sub_trans hT rfl) : ∃ sNext, execDrainTimeout s = .next sNext ∧ Ok T0 S0 sNext := by
  unfold execDrainTimeout
  refine ⟨_, rfl, ?_⟩
  repeat' (first
    | with_reducible assumption | (exact sub_trans hT rfl) | with_reducible apply ok_drainOver
    | with_reducible apply ok_loadsRefused | dsimp only)

theorem ok_execFenceClosingTimeout (k : Nat) (l : Nat) {s : State} (hOk : Ok T0 S0 s)
    (hT : Within 0x8000000000000c0c030000000001202000000000000000000000000000080741c T0 := by first | with_reducible assumption | exact sub_trans hT rfl) : ∃ sNext, execFenceClosingTimeout k l s = .next sNext ∧ Ok T0 S0 sNext := by
  unfold execFenceClosingTimeout
  refine ⟨_, rfl, ?_⟩
  repeat' (first
    | with_reducible assumption | (exact sub_trans hT rfl) | with_reducible apply ok_fenceOver
    | with_reducible apply ok_loadsRefused | dsimp only)

theorem ok_loadsLost {s : State} (c : Nat) (hOk : Ok T0 S0 s)
    (hT : Within 0x12020000000000000000000000000000007018 T0 := by first | with_reducible assumption | exact sub_trans hT rfl) : Ok T0 S0 (State.loadsLost s c) := by
  unfold State.loadsLost
  repeat' (first
    | with_reducible assumption | (exact sub_trans hT rfl) | with_reducible apply ok_loadFail
    | (fail_if_no_progress (with_reducible refine ok_with ?_ ..))
    | (with_reducible apply ok_foldl; intro _ _ _; beta_reduce) | (intro _) | split | dsimp only)

theorem ok_loadsAborted {s : State} (hOk : Ok T0 S0 s)
    (hT : Within 0x12020000000000000000000000000000007018 T0 := by first | with_reducible assumption | exact sub_trans hT rfl) : Ok T0 S0 (State.loadsAborted s) := by
  unfold State.loadsAborted
  repeat' (first
    | with_reducible assumption | (exact sub_trans hT rfl) | with_reducible apply ok_loadFail
    | (fail_if_no_progress (with_reducible refine ok_with ?_ ..))
    | (with_reducible apply ok_foldl; intro _ _ _; beta_reduce) | (intro _) | split | dsimp only)

end Sys2Proof.Machine
end

