-- ==== Sys2Proof/Laws/KeepPorts.lean ====
section
/-!
SUPPORT. The queue and the register file are kept (Laws/Keep.lean) by what ports, lanes, DDR, clocks, repair, scrubbing and power do: one lemma for each
operation and each command.
-/

set_option Elab.async false
set_option linter.unusedTactic false
set_option linter.unusedVariables false
set_option linter.unreachableTactic false

namespace Sys2Proof.Machine

variable {T0 : Nat} {S0 : State}

/-! ### Pcie -/

theorem ok_sendPort {s : State} (x : Nat) (hOk : Ok T0 S0 s)
    (hT : Within 0x84 T0 := by first | with_reducible assumption | exact sub_trans hT rfl) : Ok T0 S0 (State.sendPort s x) := by
  unfold State.sendPort
  repeat' (first
    | with_reducible assumption | (exact sub_trans hT rfl) | with_reducible apply ok_sendAllPending
    | (with_reducible apply ok_foldl; intro _ _ _; beta_reduce) | (intro _) | split | dsimp only)

theorem ok_setDmaEng {s : State} (x : Nat) (e : DmaEng) (hOk : Ok T0 S0 s)
    (hT : Within 0x20000000000000000000000000000000000000000000000000000080 T0 := by first | with_reducible assumption | exact sub_trans hT rfl) : Ok T0 S0 (State.setDmaEng s x e) := by
  unfold State.setDmaEng
  repeat' (first
    | with_reducible assumption | (exact rfl) | (exact sub_trans hT rfl) | with_reducible apply ok_set
    | (fail_if_no_progress (with_reducible refine ok_with ?_ ..)) | dsimp only)

theorem ok_setFtag {s : State} (x : Nat) (i : Nat) (t : FloorTag) (hOk : Ok T0 S0 s)
    (hT : Within 0x80 T0 := by first | with_reducible assumption | exact sub_trans hT rfl) : Ok T0 S0 (State.setFtag s x i t) := by
  unfold State.setFtag
  repeat' (first
    | with_reducible assumption | (exact sub_trans hT rfl)
    | (fail_if_no_progress (with_reducible refine ok_with ?_ ..)) | dsimp only)

theorem ok_dmaEvt {s : State} (x : Nat) (bit : Nat) (hOk : Ok T0 S0 s)
    (hT : Within 0x8 T0 := by first | with_reducible assumption | exact sub_trans hT rfl) : Ok T0 S0 (State.dmaEvt s x bit) := by
  unfold State.dmaEvt
  repeat' (first
    | with_reducible assumption | (exact sub_trans hT rfl) | with_reducible apply ok_raise | dsimp only)

theorem ok_freePieces {s : State} (x : Nat) (ps : List DmaPiece) (hOk : Ok T0 S0 s)
    (hT : Within 0x80 T0 := by first | with_reducible assumption | exact sub_trans hT rfl) : Ok T0 S0 (State.freePieces s x ps) := by
  unfold State.freePieces
  repeat' (first
    | with_reducible assumption | (exact rfl) | (exact sub_trans hT rfl) | with_reducible apply ok_setFtag
    | (fail_if_no_progress (with_reducible refine ok_with ?_ ..))
    | (with_reducible apply ok_foldl; intro _ _ _; beta_reduce) | (intro _) | dsimp only)

theorem ok_dmaEnd {s : State} (x : Nat) (hOk : Ok T0 S0 s)
    (hT : Within 0x20000000000000000012020000000000000000000000000000007098 T0 := by first | with_reducible assumption | exact sub_trans hT rfl) : Ok T0 S0 (State.dmaEnd s x) := by
  unfold State.dmaEnd
  repeat' (first
    | with_reducible assumption | (exact rfl) | (exact sub_trans hT rfl) | with_reducible apply ok_set
    | with_reducible apply ok_loadFail | with_reducible apply ok_setDmaEng | with_reducible apply ok_dmaEvt
    | with_reducible apply ok_freePieces | (fail_if_no_progress (with_reducible refine ok_with ?_ ..))
    | (with_reducible apply ok_foldl; intro _ _ _; beta_reduce) | (intro _) | split | dsimp only)

theorem ok_linkDown {s : State} (x : Nat) (hOk : Ok T0 S0 s)
    (hT : Within 0x22000000000000000012020000000000000000000000000000007098 T0 := by first | with_reducible assumption | exact sub_trans hT rfl) : Ok T0 S0 (State.linkDown s x) := by
  unfold State.linkDown
  repeat' (first
    | with_reducible assumption | (exact rfl) | (exact sub_trans hT rfl) | with_reducible apply ok_set
    | with_reducible apply ok_inc | with_reducible apply ok_dmaEvt | with_reducible apply ok_dmaEnd | split
    | dsimp only)

theorem ok_execPcieLinkUp (x : Nat) (speed : Nat) (width : Nat) (flit : Bool) {s : State} (hOk : Ok T0 S0 s)
    (hT : Within 0x200000000000000000000000000000000000000000000000000008c T0 := by first | with_reducible assumption | exact sub_trans hT rfl) : ∃ sNext, execPcieLinkUp x speed width flit s = .next sNext ∧ Ok T0 S0 sNext := by
  unfold execPcieLinkUp
  refine ⟨_, rfl, ?_⟩
  repeat' (first
    | with_reducible assumption | (exact rfl) | (exact sub_trans hT rfl) | with_reducible apply ok_set
    | with_reducible apply ok_sendPort | with_reducible apply ok_dmaEvt | split | dsimp only)

theorem ok_execPcieLinkDown (x : Nat) {s : State} (hOk : Ok T0 S0 s)
    (hT : Within 0x22000000000000000012020000000000000000000000000000007098 T0 := by first | with_reducible assumption | exact sub_trans hT rfl) : ∃ sNext, execPcieLinkDown x s = .next sNext ∧ Ok T0 S0 sNext := by
  unfold execPcieLinkDown
  refine ⟨_, rfl, ?_⟩
  repeat' (first
    | with_reducible assumption | (exact sub_trans hT rfl) | with_reducible apply ok_linkDown | split | dsimp only)

theorem ok_vfsOff {s : State} (x : Nat) (hOk : Ok T0 S0 s)
    (hT : Within 0x80 T0 := by first | with_reducible assumption | exact sub_trans hT rfl) : Ok T0 S0 (State.vfsOff s x) := by
  unfold State.vfsOff
  repeat' (first
    | with_reducible assumption | (exact rfl) | (exact sub_trans hT rfl) | with_reducible apply ok_resetCfg
    | (with_reducible apply ok_foldl; intro _ _ _; beta_reduce) | (intro _) | dsimp only)

theorem ok_cfgWrite {s : State} (x fn : Nat) (r : CfgReq) (hOk : Ok T0 S0 s)
    (hT : Within 0x84 T0 := by first | with_reducible assumption | exact sub_trans hT rfl) :
    Ok T0 S0 (s.cfgWrite x fn r) := by
  unfold State.cfgWrite
  repeat' (first
    | with_reducible assumption
    | exact rfl
    | (exact sub_trans hT rfl)
    | (with_reducible apply mask_full; rfl)
    | with_reducible apply ok_setCfg
    | with_reducible apply ok_vfsOff
    | with_reducible apply ok_sendAllPending
    | fail_if_no_progress (with_reducible refine ok_with ?_ ..)
    | (with_reducible apply ok_foldl; intro _ _ _; beta_reduce)
    | intro _
    | split
    | dsimp only)

theorem ok_execPcieConfigRequest (x : Nat) (fn : Nat) (tag : Nat) (q : CfgReq) {s : State} (hOk : Ok T0 S0 s)
    (hT : Within 0x84 T0 := by first | with_reducible assumption | exact sub_trans hT rfl) : ∃ sNext, execPcieConfigRequest x fn tag q s = .next sNext ∧ Ok T0 S0 sNext := by
  unfold execPcieConfigRequest
  refine ⟨_, rfl, ?_⟩
  repeat' (first
    | with_reducible assumption | (exact rfl) | (exact sub_trans hT rfl) | with_reducible apply ok_emit
    | with_reducible apply ok_cfgWrite | split | dsimp only)

theorem ok_vfCfgReset {s : State} (x : Nat) (n : Nat) (hOk : Ok T0 S0 s)
    (hT : Within 0x800000000000000000000000000000000000000000000000000000080 T0 := by first | with_reducible assumption | exact sub_trans hT rfl) : Ok T0 S0 (State.vfCfgReset s x n) := by
  unfold State.vfCfgReset
  repeat' (first
    | with_reducible assumption | (exact rfl) | (exact sub_trans hT rfl) | with_reducible apply ok_clearReg
    | with_reducible apply ok_setPendBits | with_reducible apply ok_resetCfg
    | (fail_if_no_progress (with_reducible refine ok_with ?_ ..)) | split | dsimp only)

theorem ok_execPfFlr (x : Nat) {s : State} (hOk : Ok T0 S0 s)
    (hT : Within 0x2000000000000000001202000000000000000000000000000000709c T0 := by first | with_reducible assumption | exact sub_trans hT rfl) : ∃ sNext, execPfFlr x s = .next sNext ∧ Ok T0 S0 sNext := by
  unfold execPfFlr
  refine ⟨_, rfl, ?_⟩
  repeat' (first
    | with_reducible assumption | (exact rfl) | (exact sub_trans hT rfl) | with_reducible apply ok_emit
    | with_reducible apply ok_resetCfg | with_reducible apply ok_dmaEnd | with_reducible apply ok_vfsOff | split
    | dsimp only)

theorem ok_msixWrite {s : State} (x : Nat) (fn : Nat) (w : Nat) (v : Nat) (hOk : Ok T0 S0 s)
    (hT : Within 0x84 T0 := by first | with_reducible assumption | exact sub_trans hT rfl) : Ok T0 S0 (State.msixWrite s x fn w v) := by
  unfold State.msixWrite
  repeat' (first
    | with_reducible assumption | (exact rfl) | (exact sub_trans hT rfl) | with_reducible apply ok_setMsixEntry
    | with_reducible apply ok_sendPending | (fail_if_no_progress (with_reducible refine ok_with ?_ ..)) | split
    | dsimp only)

theorem ok_msixBytes {s : State} (x : Nat) (fn : Nat) (o : Nat) (bs : List Byte) (hOk : Ok T0 S0 s)
    (hT : Within 0x84 T0 := by first | with_reducible assumption | exact sub_trans hT rfl) : Ok T0 S0 (State.msixBytes s x fn o bs) := by
  unfold State.msixBytes
  repeat' (first
    | with_reducible assumption | (exact sub_trans hT rfl) | with_reducible apply ok_msixWrite
    | (with_reducible apply ok_foldl; intro _ _ _; beta_reduce) | (intro _) | dsimp only)

theorem ok_execMsixUnmask (x : Nat) (fn : Nat) (vec : Nat) {s : State} (hOk : Ok T0 S0 s)
    (hT : Within 0x84 T0 := by first | with_reducible assumption | exact sub_trans hT rfl) : ∃ sNext, execMsixUnmask x fn vec s = .next sNext ∧ Ok T0 S0 sNext := by
  unfold execMsixUnmask
  refine ⟨_, rfl, ?_⟩
  repeat' (first
    | with_reducible assumption | (exact sub_trans hT rfl) | with_reducible apply ok_msixWrite | split | dsimp only)

theorem ok_barFail {s : State} (r : BarReq) (hOk : Ok T0 S0 s)
    (hT : Within 0x4000000000000000000000000000000000000000000000000000004 T0 := by first | with_reducible assumption | exact sub_trans hT rfl) : Ok T0 S0 (State.barFail s r) := by
  unfold State.barFail
  repeat' (first
    | with_reducible assumption | (exact rfl) | (exact sub_trans hT rfl) | with_reducible apply ok_inc
    | with_reducible apply ok_emit | split | dsimp only)

theorem ok_issueBars {s : State} (x : Nat) (hOk : Ok T0 S0 s)
    (hT : Within 0x484 T0 := by first | with_reducible assumption | exact sub_trans hT rfl) : Ok T0 S0 (s.issueBars x) := by
  unfold State.issueBars
  split
  · exact hOk
  · dsimp only
    refine ok_with ?_ ..
    refine ok_foldl_snd (fun a r h => ?_) hOk
    beta_reduce
    split
    · exact ok_inject _ _ _ h
    · exact h

theorem ok_barCarry {s : State} (r : BarReq) (check : Option Bool) (hOk : Ok T0 S0 s)
    (hT : Within 0x4000000000000000000000000000000000000000000000000000484 T0 := by first | with_reducible assumption | exact sub_trans hT rfl) : Ok T0 S0 (State.barCarry s r check) := by
  unfold State.barCarry
  repeat' (first
    | with_reducible assumption | (exact rfl) | (exact sub_trans hT rfl) | with_reducible apply ok_setFtag
    | with_reducible apply ok_barFail | with_reducible apply ok_issueBars
    | (fail_if_no_progress (with_reducible refine ok_with ?_ ..)) | split | dsimp only)

theorem ok_execPcieBarRead (x : Nat) (fn : Nat) (tag : Nat) (o : Nat) (len : Nat) (ht : Nat) {s : State} (hOk : Ok T0 S0 s)
    (hT : Within 0x4000000000000000000000000000000000000000000000000000484 T0 := by first | with_reducible assumption | exact sub_trans hT rfl) : ∃ sNext, execPcieBarRead x fn tag o len ht s = .next sNext ∧ Ok T0 S0 sNext := by
  unfold execPcieBarRead
  refine ⟨_, rfl, ?_⟩
  repeat' (first
    | with_reducible assumption | (exact rfl) | (exact sub_trans hT rfl) | with_reducible apply ok_emit
    | with_reducible apply ok_barFail | with_reducible apply ok_barCarry
    | (fail_if_no_progress (with_reducible refine ok_with ?_ ..)) | split | dsimp only)

theorem ok_execPcieBarWrite (x : Nat) (fn : Nat) (o : Nat) (data : List Byte) (ht : Nat) {s : State} (hOk : Ok T0 S0 s)
    (hT : Within 0x804000000000000000000000000000000000000000000000000000484 T0 := by first | with_reducible assumption | exact sub_trans hT rfl) : ∃ sNext, execPcieBarWrite x fn o data ht s = .next sNext ∧ Ok T0 S0 sNext := by
  unfold execPcieBarWrite
  refine ⟨_, rfl, ?_⟩
  repeat' (first
    | with_reducible assumption | (exact rfl) | (exact sub_trans hT rfl) | with_reducible apply ok_set
    | with_reducible apply ok_msixBytes | with_reducible apply ok_barFail | with_reducible apply ok_barCarry
    | (fail_if_no_progress (with_reducible refine ok_with ?_ ..)) | split | dsimp only)

theorem ok_barClose {s : State} (r : BarReq) (hOk : Ok T0 S0 s)
    (hT : Within 0x484 T0 := by first | with_reducible assumption | exact sub_trans hT rfl) : Ok T0 S0 (State.barClose s r) := by
  unfold State.barClose
  repeat' (first
    | with_reducible assumption | (exact rfl) | (exact sub_trans hT rfl) | with_reducible apply ok_setFtag
    | with_reducible apply ok_issueBars | (fail_if_no_progress (with_reducible refine ok_with ?_ ..)) | dsimp only)

theorem ok_floorLate {s : State} (x : Nat) (hOk : Ok T0 S0 s)
    (hT : Within 0x1000000000000000000000000000000000000000000000000000 T0 := by first | with_reducible assumption | exact sub_trans hT rfl) : Ok T0 S0 (State.floorLate s x) := by
  unfold State.floorLate
  repeat' (first
    | with_reducible assumption | (exact rfl) | (exact sub_trans hT rfl) | with_reducible apply ok_inc | dsimp only)

theorem ok_execDrainComplete {s : State} (hOk : Ok T0 S0 s)
    (hT : Within 0x400000000000000000000000000000000000000000000000484 T0 := by first | with_reducible assumption | exact sub_trans hT rfl) : ∃ sNext, execDrainComplete s = .next sNext ∧ Ok T0 S0 sNext := by
  unfold execDrainComplete
  refine ⟨_, rfl, ?_⟩
  repeat' (first
    | with_reducible assumption | (exact sub_trans hT rfl) | with_reducible apply ok_drainComplete
    | with_reducible apply ok_issueBars | dsimp only)

theorem ok_vfMapWrite {s : State} (half : Nat) (v : Word) (hOk : Ok T0 S0 s)
    (hT : Within 0x700000000000000000000000000000000000000000000000000000084 T0 := by first | with_reducible assumption | exact sub_trans hT rfl) : Ok T0 S0 (State.vfMapWrite s half v) := by
  unfold State.vfMapWrite
  repeat' (first
    | with_reducible assumption | (exact rfl) | (exact sub_trans hT rfl) | with_reducible apply ok_set
    | with_reducible apply ok_sendPort | split | dsimp only)

theorem ok_execVfMapWrite (src : Src) (half : Nat) (v : Word) {s : State} (hOk : Ok T0 S0 s)
    (hT : Within 0x700000000000000000000000000000000000000000000000000000084 T0 := by first | with_reducible assumption | exact sub_trans hT rfl) : ∃ sNext, execVfMapWrite src half v s = .next sNext ∧ Ok T0 S0 sNext := by
  unfold execVfMapWrite
  refine ⟨_, rfl, ?_⟩
  repeat' (first
    | with_reducible assumption | (exact sub_trans hT rfl) | with_reducible apply ok_vfMapWrite | split | dsimp only)

theorem ok_dmaCtlWrite {s : State} (x : Nat) (v : Word) (hOk : Ok T0 S0 s)
    (hT : Within 0xe0000000000000000000000000000000000000000000000000000080 T0 := by first | with_reducible assumption | exact sub_trans hT rfl) : Ok T0 S0 (State.dmaCtlWrite s x v) := by
  unfold State.dmaCtlWrite
  repeat' (first
    | with_reducible assumption | (exact rfl) | (exact sub_trans hT rfl) | with_reducible apply ok_w1cWrite
    | with_reducible apply ok_set | with_reducible apply ok_setDmaEng
    | (fail_if_no_progress (with_reducible refine ok_with ?_ ..)) | split | dsimp only)

theorem ok_execDmaRingEnable (src : Src) (x : Nat) (v : Word) {s : State} (hOk : Ok T0 S0 s)
    (hT : Within 0xe0000000000000000000000000000000000000000000000000000080 T0 := by first | with_reducible assumption | exact sub_trans hT rfl) : ∃ sNext, execDmaRingEnable src x v s = .next sNext ∧ Ok T0 S0 sNext := by
  unfold execDmaRingEnable
  refine ⟨_, rfl, ?_⟩
  repeat' (first
    | with_reducible assumption | (exact rfl) | (exact sub_trans hT rfl) | with_reducible apply ok_dmaCtlWrite | split
    | dsimp only)

theorem ok_execDmaRingDisable (src : Src) (x : Nat) (v : Word) {s : State} (hOk : Ok T0 S0 s)
    (hT : Within 0xe0000000000000000000000000000000000000000000000000000080 T0 := by first | with_reducible assumption | exact sub_trans hT rfl) : ∃ sNext, execDmaRingDisable src x v s = .next sNext ∧ Ok T0 S0 sNext := by
  unfold execDmaRingDisable
  refine ⟨_, rfl, ?_⟩
  repeat' (first
    | with_reducible assumption | (exact rfl) | (exact sub_trans hT rfl) | with_reducible apply ok_dmaCtlWrite | split
    | dsimp only)

theorem ok_dmaProdWrite {s : State} (x : Nat) (v : Word) (hOk : Ok T0 S0 s)
    (hT : Within 0x60000000000000000000000000000000000000000000000000000000 T0 := by first | with_reducible assumption | exact sub_trans hT rfl) : Ok T0 S0 (State.dmaProdWrite s x v) := by
  unfold State.dmaProdWrite
  repeat' (first
    | with_reducible assumption | (exact rfl) | (exact sub_trans hT rfl) | with_reducible apply ok_set | split
    | dsimp only)

theorem ok_execDmaProdWrite (src : Src) (x : Nat) (v : Word) {s : State} (hOk : Ok T0 S0 s)
    (hT : Within 0x60000000000000000000000000000000000000000000000000000000 T0 := by first | with_reducible assumption | exact sub_trans hT rfl) : ∃ sNext, execDmaProdWrite src x v s = .next sNext ∧ Ok T0 S0 sNext := by
  unfold execDmaProdWrite
  refine ⟨_, rfl, ?_⟩
  repeat' (first
    | with_reducible assumption | (exact sub_trans hT rfl) | with_reducible apply ok_dmaProdWrite | split | dsimp only)

theorem ok_dmaStart {s : State} (x : Nat) (w : Nat) (hOk : Ok T0 S0 s)
    (hT : Within 0x20000000000000000000000000000000000000000000000000000080 T0 := by first | with_reducible assumption | exact sub_trans hT rfl) : Ok T0 S0 (State.dmaStart s x w) := by
  unfold State.dmaStart
  repeat' (first
    | with_reducible assumption | (exact rfl) | (exact sub_trans hT rfl) | with_reducible apply ok_setDmaEng
    | (fail_if_no_progress (with_reducible refine ok_with ?_ ..)) | split | dsimp only)

theorem ok_execDmaDescFetch (x : Nat) (word : Option Nat) {s : State} (hOk : Ok T0 S0 s)
    (hT : Within 0x20000000000000000000000000000000000000000000000000000088 T0 := by first | with_reducible assumption | exact sub_trans hT rfl) : ∃ sNext, execDmaDescFetch x word s = .next sNext ∧ Ok T0 S0 sNext := by
  unfold execDmaDescFetch
  refine ⟨_, rfl, ?_⟩
  repeat' (first
    | with_reducible assumption | (exact rfl) | (exact sub_trans hT rfl) | with_reducible apply ok_set
    | with_reducible apply ok_dmaEvt | with_reducible apply ok_dmaStart
    | (fail_if_no_progress (with_reducible refine ok_with ?_ ..)) | split | dsimp only)

theorem ok_setDesc {s : State} (x : Nat) (j : Nat) (d : DmaDesc) (hOk : Ok T0 S0 s)
    (hT : Within 0x20000000000000000000000000000000000000000000000000000080 T0 := by first | with_reducible assumption | exact sub_trans hT rfl) : Ok T0 S0 (State.setDesc s x j d) := by
  unfold State.setDesc
  repeat' (first
    | with_reducible assumption | (exact rfl) | (exact sub_trans hT rfl) | with_reducible apply ok_setDmaEng
    | (fail_if_no_progress (with_reducible refine ok_with ?_ ..)) | dsimp only)

theorem ok_dmaIssue {s : State} (x : Nat) (j : Nat) (i : Nat) (d : DmaDesc) (host : Option (List Byte)) (a : Nat) (n : Nat) (rest : List (Nat × Nat)) (hOk : Ok T0 S0 s)
    (hT : Within 0x24000000000000000000000000000000000000000000000000000484 T0 := by first | with_reducible assumption | exact sub_trans hT rfl) : Ok T0 S0 (State.dmaIssue s x j i d host a n rest) := by
  unfold State.dmaIssue
  repeat' (first
    | with_reducible assumption | (exact rfl) | (exact sub_trans hT rfl) | with_reducible apply ok_inc
    | with_reducible apply ok_inject | with_reducible apply ok_setFtag | with_reducible apply ok_setDesc
    | (fail_if_no_progress (with_reducible refine ok_with ?_ ..)) | split | dsimp only)

theorem ok_dmaHostWrites {s : State} (x fuel a : Nat) (bs : List Byte) (hOk : Ok T0 S0 s)
    (hT : Within 0x4 T0 := by first | with_reducible assumption | exact sub_trans hT rfl) :
    Ok T0 S0 (s.dmaHostWrites x fuel a bs) := by
  induction fuel generalizing s a bs with
  | zero => exact hOk
  | succ k ih =>
    rw [State.dmaHostWrites]
    split
    · exact hOk
    · exact ih _ _ (ok_emit _ hOk)

theorem ok_dmaPieceEnd {s : State} (x : Nat) (j : Nat) (d : DmaDesc) (p : DmaPiece) (st : Nat) (flits : List (Nat × Bool)) (hOk : Ok T0 S0 s)
    (hT : Within 0x20000000000000000000000000000000000000000000000000000084 T0 := by first | with_reducible assumption | exact sub_trans hT rfl) : Ok T0 S0 (State.dmaPieceEnd s x j d p st flits) := by
  unfold State.dmaPieceEnd
  repeat' (first
    | with_reducible assumption | (exact rfl) | (exact sub_trans hT rfl) | with_reducible apply ok_setFtag
    | with_reducible apply ok_setDesc | with_reducible apply ok_dmaHostWrites
    | (fail_if_no_progress (with_reducible refine ok_with ?_ ..)) | split | dsimp only)

theorem ok_execDmaPieceComplete (x : Nat) (e : DmaEv) {s : State} (hOk : Ok T0 S0 s)
    (hT : Within 0x24001000000000000000000000000000000000000000000000000484 T0 := by first | with_reducible assumption | exact sub_trans hT rfl) : ∃ sNext, execDmaPieceComplete x e s = .next sNext ∧ Ok T0 S0 sNext := by
  unfold execDmaPieceComplete
  refine ⟨_, rfl, ?_⟩
  repeat' (first
    | with_reducible assumption | (exact rfl) | (exact sub_trans hT rfl) | with_reducible apply ok_floorLate
    | with_reducible apply ok_dmaIssue | with_reducible apply ok_dmaPieceEnd
    | (fail_if_no_progress (with_reducible refine ok_with ?_ ..)) | split | dsimp only)

theorem ok_execDmaWriteback (x : Nat) {s : State} (hOk : Ok T0 S0 s)
    (hT : Within 0xa000000000000000000000000000000000000000000000000000008c T0 := by first | with_reducible assumption | exact sub_trans hT rfl) : ∃ sNext, execDmaWriteback x s = .next sNext ∧ Ok T0 S0 sNext := by
  unfold execDmaWriteback
  refine ⟨_, rfl, ?_⟩
  repeat' (first
    | with_reducible assumption | (exact rfl) | (exact sub_trans hT rfl) | with_reducible apply ok_set
    | with_reducible apply ok_emit | with_reducible apply ok_setDmaEng | with_reducible apply ok_dmaEvt
    | (fail_if_no_progress (with_reducible refine ok_with ?_ ..)) | split | dsimp only)

theorem ok_tagExpired {s : State} (x : Nat) (q : Nat) (i : Nat) (hOk : Ok T0 S0 s)
    (hT : Within 0x2000000000000000000000000000000000000000000000000080 T0 := by first | with_reducible assumption | exact sub_trans hT rfl) : Ok T0 S0 (State.tagExpired s x q i) := by
  unfold State.tagExpired
  repeat' (first
    | with_reducible assumption | (exact rfl) | (exact sub_trans hT rfl) | with_reducible apply ok_inc
    | with_reducible apply ok_setFtag | (fail_if_no_progress (with_reducible refine ok_with ?_ ..)) | dsimp only)

theorem ok_barTimeout {s : State} (x : Nat) (i : Nat) (hOk : Ok T0 S0 s)
    (hT : Within 0x4002000000000000000000000000000000000000000000000000484 T0 := by first | with_reducible assumption | exact sub_trans hT rfl) : Ok T0 S0 (State.barTimeout s x i) := by
  unfold State.barTimeout
  repeat' (first
    | with_reducible assumption | (exact sub_trans hT rfl) | with_reducible apply ok_barFail
    | with_reducible apply ok_barClose | with_reducible apply ok_tagExpired
    | (fail_if_no_progress (with_reducible refine ok_with ?_ ..)) | split | dsimp only)

theorem ok_pieceTimeout {s : State} (x : Nat) (i : Nat) (hOk : Ok T0 S0 s)
    (hT : Within 0x20002000000000000000000000000000000000000000000000000084 T0 := by first | with_reducible assumption | exact sub_trans hT rfl) : Ok T0 S0 (State.pieceTimeout s x i) := by
  unfold State.pieceTimeout
  repeat' (first
    | with_reducible assumption | (exact sub_trans hT rfl) | with_reducible apply ok_dmaPieceEnd
    | with_reducible apply ok_tagExpired | (fail_if_no_progress (with_reducible refine ok_with ?_ ..)) | split
    | dsimp only)

theorem ok_execRequestTimeout (q : Requester) {s : State} (hOk : Ok T0 S0 s)
    (hT : Within 0x242820000000000000000000000000c000000000000000001080048c T0 := by first | with_reducible assumption | exact sub_trans hT rfl) : ∃ sNext, execRequestTimeout q s = .next sNext ∧ Ok T0 S0 sNext := by
  unfold execRequestTimeout
  refine ⟨_, rfl, ?_⟩
  repeat' (first
    | with_reducible assumption | (exact rfl) | (exact sub_trans hT rfl) | with_reducible apply ok_portTimeout
    | with_reducible apply ok_barTimeout | with_reducible apply ok_pieceTimeout
    | (fail_if_no_progress (with_reducible refine ok_with ?_ ..)) | split | dsimp only)

theorem ok_tagBack {s : State} (x : Nat) (q : Nat) (i : Nat) (hOk : Ok T0 S0 s)
    (hT : Within 0x80 T0 := by first | with_reducible assumption | exact sub_trans hT rfl) : Ok T0 S0 (State.tagBack s x q i) := by
  unfold State.tagBack
  repeat' (first
    | with_reducible assumption | (exact rfl) | (exact sub_trans hT rfl) | with_reducible apply ok_setFtag
    | (fail_if_no_progress (with_reducible refine ok_with ?_ ..)) | split | dsimp only)

theorem ok_execTagReturn (q : Requester) {s : State} (hOk : Ok T0 S0 s)
    (hT : Within 0x800080 T0 := by first | with_reducible assumption | exact sub_trans hT rfl) : ∃ sNext, execTagReturn q s = .next sNext ∧ Ok T0 S0 sNext := by
  unfold execTagReturn
  refine ⟨_, rfl, ?_⟩
  repeat' (first
    | with_reducible assumption | (exact sub_trans hT rfl) | with_reducible apply ok_portTagReturn
    | with_reducible apply ok_tagBack | (fail_if_no_progress (with_reducible refine ok_with ?_ ..)) | split
    | dsimp only)

theorem ok_pcieReset {s : State} (x : Nat) (hOk : Ok T0 S0 s)
    (hT : Within 0x22000000000000000012020000000000000000000000000000007098 T0 := by first | with_reducible assumption | exact sub_trans hT rfl) : Ok T0 S0 (State.pcieReset s x) := by
  unfold State.pcieReset
  repeat' (first
    | with_reducible assumption | (exact rfl) | (exact sub_trans hT rfl) | with_reducible apply ok_dmaEnd
    | with_reducible apply ok_linkDown | (fail_if_no_progress (with_reducible refine ok_with ?_ ..)) | split
    | dsimp only)

/-! ### Lanes -/

theorem ok_setLane {s : State} (n : Nat) (x : Lane) (hOk : Ok T0 S0 s)
    (hT : Within 0x2000000 T0 := by first | with_reducible assumption | exact sub_trans hT rfl) : Ok T0 S0 (State.setLane s n x) := by
  unfold State.setLane
  repeat' (first
    | with_reducible assumption | (exact sub_trans hT rfl)
    | (fail_if_no_progress (with_reducible refine ok_with ?_ ..)) | dsimp only)

theorem ok_laneEvt {s : State} (bit : Nat) (hOk : Ok T0 S0 s)
    (hT : Within 0x8 T0 := by first | with_reducible assumption | exact sub_trans hT rfl) : Ok T0 S0 (State.laneEvt s bit) := by
  unfold State.laneEvt
  repeat' (first
    | with_reducible assumption | (exact sub_trans hT rfl) | with_reducible apply ok_raise | dsimp only)

theorem ok_enterLane {s : State} (h : Nat) (st : Nat) (hOk : Ok T0 S0 s)
    (hT : Within 0x8402000000000000000000000000000000000000000000000000002000008 T0 := by first | with_reducible assumption | exact sub_trans hT rfl) : Ok T0 S0 (State.enterLane s h st) := by
  unfold State.enterLane
  repeat' (first
    | with_reducible assumption | (exact rfl) | (exact sub_trans hT rfl) | with_reducible apply ok_set
    | with_reducible apply ok_setLane | with_reducible apply ok_laneEvt
    | (fail_if_no_progress (with_reducible refine ok_with ?_ ..))
    | (with_reducible apply ok_foldl; intro _ _ _; beta_reduce) | (intro _) | split | dsimp only)

theorem ok_laneStart {s : State} (h : Nat) (hOk : Ok T0 S0 s)
    (hT : Within 0x8402000000000000000000000000000000000000000000000000002000008 T0 := by first | with_reducible assumption | exact sub_trans hT rfl) : Ok T0 S0 (State.laneStart s h) := by
  unfold State.laneStart
  repeat' (first
    | with_reducible assumption | (exact rfl) | (exact sub_trans hT rfl) | with_reducible apply ok_set
    | with_reducible apply ok_setLane | with_reducible apply ok_enterLane
    | (fail_if_no_progress (with_reducible refine ok_with ?_ ..))
    | (with_reducible apply ok_foldl; intro _ _ _; beta_reduce) | (intro _) | split | dsimp only)

theorem ok_laneFault {s : State} (h : Nat) (why : Nat) (hOk : Ok T0 S0 s)
    (hT : Within 0x840200000000000000000000000000000000000000000000000000200009c T0 := by first | with_reducible assumption | exact sub_trans hT rfl) : Ok T0 S0 (State.laneFault s h why) := by
  unfold State.laneFault
  repeat' (first
    | with_reducible assumption | (exact rfl) | (exact sub_trans hT rfl) | with_reducible apply ok_set
    | with_reducible apply ok_inc | with_reducible apply ok_wlog | with_reducible apply ok_raiseVec
    | with_reducible apply ok_laneEvt | with_reducible apply ok_enterLane | dsimp only)

theorem ok_octApply {s : State} (o : Nat) (v : Word) (hOk : Ok T0 S0 s)
    (hT : Within 0x9402000000000000000000000000000000000000000000000000002000008 T0 := by first | with_reducible assumption | exact sub_trans hT rfl) : Ok T0 S0 (State.octApply s o v) := by
  unfold State.octApply
  repeat' (first
    | with_reducible assumption | (exact rfl) | (exact sub_trans hT rfl)
    | (with_reducible show _ &&& ~~~(fieldMask _) = _; exact mask_full _ rfl) | with_reducible apply ok_setReg
    | with_reducible apply ok_enterLane | with_reducible apply ok_laneStart
    | (with_reducible apply ok_foldl; intro _ _ _; beta_reduce) | (intro _) | split | dsimp only)

theorem ok_octCfgWrite {s : State} (o : Nat) (src : Nat) (v : Word) (hOk : Ok T0 S0 s)
    (hT : Within 0x200000000000b402000000000000000000000000000000000000000000000000002000038 T0 := by first | with_reducible assumption | exact sub_trans hT rfl) : Ok T0 S0 (State.octCfgWrite s o src v) := by
  unfold State.octCfgWrite
  repeat' (first
    | with_reducible assumption | (exact rfl) | (exact sub_trans hT rfl) | with_reducible apply ok_set
    | with_reducible apply ok_hluRefuse | with_reducible apply ok_laneEvt | with_reducible apply ok_octApply | split
    | dsimp only)

theorem ok_execOctCfgWrite (src : Src) (o : Nat) (v : Word) {s : State} (hOk : Ok T0 S0 s)
    (hT : Within 0x200000000000b402000000000000000000000000000000000000000000000000002000038 T0 := by first | with_reducible assumption | exact sub_trans hT rfl) : ∃ sNext, execOctCfgWrite src o v s = .next sNext ∧ Ok T0 S0 sNext := by
  unfold execOctCfgWrite
  refine ⟨_, rfl, ?_⟩
  repeat' (first
    | with_reducible assumption | (exact sub_trans hT rfl) | with_reducible apply ok_octCfgWrite | split | dsimp only)

theorem ok_sendFrame {s : State} (n : Nat) (head : List Nat) (hOk : Ok T0 S0 s)
    (hT : Within 0x2000006 T0 := by first | with_reducible assumption | exact sub_trans hT rfl) : Ok T0 S0 (State.sendFrame s n head) := by
  unfold State.sendFrame
  repeat' (first
    | with_reducible assumption | (exact rfl) | (exact sub_trans hT rfl) | with_reducible apply ok_fresh
    | with_reducible apply ok_emit | with_reducible apply ok_setLane
    | (fail_if_no_progress (with_reducible refine ok_with ?_ ..)) | split | dsimp only)

theorem ok_laneRestart {s : State} (n : Nat) (hOk : Ok T0 S0 s)
    (hT : Within 0x840200000000000000000000000000000000000000000000000000200009c T0 := by first | with_reducible assumption | exact sub_trans hT rfl) : Ok T0 S0 (State.laneRestart s n) := by
  unfold State.laneRestart
  repeat' (first
    | with_reducible assumption | (exact sub_trans hT rfl) | with_reducible apply ok_laneStart
    | with_reducible apply ok_laneFault | split | dsimp only)

theorem ok_laneCtlWrite {s : State} (n : Nat) (v : Word) (hOk : Ok T0 S0 s)
    (hT : Within 0x840300000000000000000000000000000000000000000000000000200009c T0 := by first | with_reducible assumption | exact sub_trans hT rfl) : Ok T0 S0 (State.laneCtlWrite s n v) := by
  unfold State.laneCtlWrite
  repeat' (first
    | with_reducible assumption | (exact rfl) | (exact sub_trans hT rfl) | with_reducible apply ok_plainWrite
    | with_reducible apply ok_set | with_reducible apply ok_laneRestart | split | dsimp only)

theorem ok_execLaneRestart (src : Src) (n : Nat) (v : Word) {s : State} (hOk : Ok T0 S0 s)
    (hT : Within 0x840300000000000000000000000000000000000000000000000000200009c T0 := by first | with_reducible assumption | exact sub_trans hT rfl) : ∃ sNext, execLaneRestart src n v s = .next sNext ∧ Ok T0 S0 sNext := by
  unfold execLaneRestart
  refine ⟨_, rfl, ?_⟩
  repeat' (first
    | with_reducible assumption | (exact sub_trans hT rfl) | with_reducible apply ok_laneCtlWrite | split | dsimp only)

theorem ok_execDetectStep (n : Nat) (present : Bool) {s : State} (hOk : Ok T0 S0 s)
    (hT : Within 0x8402000000000000000000000000000000000000000000000000002000008 T0 := by first | with_reducible assumption | exact sub_trans hT rfl) : ∃ sNext, execDetectStep n present s = .next sNext ∧ Ok T0 S0 sNext := by
  unfold execDetectStep
  refine ⟨_, rfl, ?_⟩
  repeat' (first
    | with_reducible assumption | (exact rfl) | (exact sub_trans hT rfl) | with_reducible apply ok_setLane
    | with_reducible apply ok_enterLane | (fail_if_no_progress (with_reducible refine ok_with ?_ ..)) | split
    | dsimp only)

theorem ok_sendTraining {s : State} (n : Nat) (tap : Nat) (ready : Bool) (hOk : Ok T0 S0 s)
    (hT : Within 0x2000006 T0 := by first | with_reducible assumption | exact sub_trans hT rfl) : Ok T0 S0 (State.sendTraining s n tap ready) := by
  unfold State.sendTraining
  repeat' (first
    | with_reducible assumption | (exact rfl) | (exact sub_trans hT rfl) | with_reducible apply ok_fresh
    | with_reducible apply ok_sendFrame | dsimp only)

theorem ok_execTrainingFrame (n : Nat) (ctl : Nat) (crc : Nat) (tap : Nat) (ready : Bool) {s : State} (hOk : Ok T0 S0 s)
    (hT : Within 0x840200000000000000000000000000000000000000000000000000200000e T0 := by first | with_reducible assumption | exact sub_trans hT rfl) : ∃ sNext, execTrainingFrame n ctl crc tap ready s = .next sNext ∧ Ok T0 S0 sNext := by
  unfold execTrainingFrame
  refine ⟨_, rfl, ?_⟩
  repeat' (first
    | with_reducible assumption | (exact rfl) | (exact sub_trans hT rfl) | with_reducible apply ok_setLane
    | with_reducible apply ok_enterLane | with_reducible apply ok_sendTraining
    | (fail_if_no_progress (with_reducible refine ok_with ?_ ..)) | split | dsimp only)

theorem ok_execLinkTrainingFrame (n : Nat) (done : Bool) {s : State} (hOk : Ok T0 S0 s)
    (hT : Within 0x8402000000000000000000000000000000000000000000000000002000008 T0 := by first | with_reducible assumption | exact sub_trans hT rfl) : ∃ sNext, execLinkTrainingFrame n done s = .next sNext ∧ Ok T0 S0 sNext := by
  unfold execLinkTrainingFrame
  refine ⟨_, rfl, ?_⟩
  repeat' (first
    | with_reducible assumption | (exact sub_trans hT rfl) | with_reducible apply ok_enterLane | split | dsimp only)

theorem ok_execLockFrame (n : Nat) (marker : Bool) (chip : Bool) {s : State} (hOk : Ok T0 S0 s)
    (hT : Within 0x8402000000000000000000000000000000000000000000000000002000008 T0 := by first | with_reducible assumption | exact sub_trans hT rfl) : ∃ sNext, execLockFrame n marker chip s = .next sNext ∧ Ok T0 S0 sNext := by
  unfold execLockFrame
  refine ⟨_, rfl, ?_⟩
  repeat' (first
    | with_reducible assumption | (exact rfl) | (exact sub_trans hT rfl) | with_reducible apply ok_set
    | with_reducible apply ok_setLane | with_reducible apply ok_enterLane
    | (fail_if_no_progress (with_reducible refine ok_with ?_ ..))
    | (with_reducible apply ok_foldl; intro _ _ _; beta_reduce) | (intro _) | split | dsimp only)

theorem ok_execAutoNegotiationPage (n : Nat) (rf : Bool) (done : Bool) {s : State} (hOk : Ok T0 S0 s)
    (hT : Within 0x8402000000000000000000000000000000000000000000000000002000008 T0 := by first | with_reducible assumption | exact sub_trans hT rfl) : ∃ sNext, execAutoNegotiationPage n rf done s = .next sNext ∧ Ok T0 S0 sNext := by
  unfold execAutoNegotiationPage
  refine ⟨_, rfl, ?_⟩
  repeat' (first
    | with_reducible assumption | (exact rfl) | (exact sub_trans hT rfl) | with_reducible apply ok_set
    | with_reducible apply ok_enterLane | split | dsimp only)

theorem ok_sendCap {s : State} (n : Nat) (hOk : Ok T0 S0 s)
    (hT : Within 0x2000006 T0 := by first | with_reducible assumption | exact sub_trans hT rfl) : Ok T0 S0 (State.sendCap s n) := by
  unfold State.sendCap
  repeat' (first
    | with_reducible assumption | (exact rfl) | (exact sub_trans hT rfl) | with_reducible apply ok_setLane
    | with_reducible apply ok_sendFrame | (fail_if_no_progress (with_reducible refine ok_with ?_ ..)) | dsimp only)

theorem ok_capNext {s : State} (n : Nat) (x : Lane) (hOk : Ok T0 S0 s)
    (hT : Within 0x2000006 T0 := by first | with_reducible assumption | exact sub_trans hT rfl) : Ok T0 S0 (State.capNext s n x) := by
  unfold State.capNext
  repeat' (first
    | with_reducible assumption | (exact rfl) | (exact sub_trans hT rfl) | with_reducible apply ok_setLane
    | with_reducible apply ok_sendCap | (fail_if_no_progress (with_reducible refine ok_with ?_ ..)) | split
    | dsimp only)

theorem ok_capReceive {s : State} (n : Nat) (p : Nat) (hOk : Ok T0 S0 s)
    (hT : Within 0x843200000000000000000000000000000000000000000000000000200009e T0 := by first | with_reducible assumption | exact sub_trans hT rfl) : Ok T0 S0 (State.capReceive s n p) := by
  unfold State.capReceive
  repeat' (first
    | with_reducible assumption | (exact rfl) | (exact sub_trans hT rfl)
    | (with_reducible show _ &&& ~~~(fieldMask _) = _; exact mask_full _ rfl) | with_reducible apply ok_setReg
    | with_reducible apply ok_laneFault | with_reducible apply ok_capNext
    | (fail_if_no_progress (with_reducible refine ok_with ?_ ..)) | split | dsimp only)

theorem ok_execCapabilityFrame (n : Nat) (f : Option (Nat × Nat)) {s : State} (hOk : Ok T0 S0 s)
    (hT : Within 0x843200000000000000000000000000000000000000000000000000200009e T0 := by first | with_reducible assumption | exact sub_trans hT rfl) : ∃ sNext, execCapabilityFrame n f s = .next sNext ∧ Ok T0 S0 sNext := by
  unfold execCapabilityFrame
  refine ⟨_, rfl, ?_⟩
  repeat' (first
    | with_reducible assumption | (exact sub_trans hT rfl) | with_reducible apply ok_enterLane
    | with_reducible apply ok_capNext | with_reducible apply ok_capReceive
    | (fail_if_no_progress (with_reducible refine ok_with ?_ ..)) | split | dsimp only)

theorem ok_execLaneTimerExpiry (n : Nat) {s : State} (hOk : Ok T0 S0 s)
    (hT : Within 0x840200000000000000000000000000000000000000000000000000200009c T0 := by first | with_reducible assumption | exact sub_trans hT rfl) : ∃ sNext, execLaneTimerExpiry n s = .next sNext ∧ Ok T0 S0 sNext := by
  unfold execLaneTimerExpiry
  refine ⟨_, rfl, ?_⟩
  repeat' (first
    | with_reducible assumption | (exact sub_trans hT rfl) | with_reducible apply ok_laneFault
    | (fail_if_no_progress (with_reducible refine ok_with ?_ ..)) | split | dsimp only)

theorem ok_execFaultRestartTimer (n : Nat) {s : State} (hOk : Ok T0 S0 s)
    (hT : Within 0x8402000000000000000000000000000000000000000000000000002000008 T0 := by first | with_reducible assumption | exact sub_trans hT rfl) : ∃ sNext, execFaultRestartTimer n s = .next sNext ∧ Ok T0 S0 sNext := by
  unfold execFaultRestartTimer
  refine ⟨_, rfl, ?_⟩
  repeat' (first
    | with_reducible assumption | (exact rfl) | (exact sub_trans hT rfl) | with_reducible apply ok_laneStart | split
    | dsimp only)

theorem ok_execLosAssert (n : Nat) {s : State} (hOk : Ok T0 S0 s)
    (hT : Within 0x840200000000000000000000000000000000000000000000000000200009c T0 := by first | with_reducible assumption | exact sub_trans hT rfl) : ∃ sNext, execLosAssert n s = .next sNext ∧ Ok T0 S0 sNext := by
  unfold execLosAssert
  refine ⟨_, rfl, ?_⟩
  repeat' (first
    | with_reducible assumption | (exact rfl) | (exact sub_trans hT rfl) | with_reducible apply ok_set
    | with_reducible apply ok_laneFault | split | dsimp only)

theorem ok_execLosClear (n : Nat) {s : State} (hOk : Ok T0 S0 s)
    (hT : Within 0x2000000000000000000000000000000000000000000000000000000000 T0 := by first | with_reducible assumption | exact sub_trans hT rfl) : ∃ sNext, execLosClear n s = .next sNext ∧ Ok T0 S0 sNext := by
  unfold execLosClear
  refine ⟨_, rfl, ?_⟩
  repeat' (first
    | with_reducible assumption | (exact rfl) | (exact sub_trans hT rfl) | with_reducible apply ok_set | split
    | dsimp only)

theorem ok_laneLol {s : State} (n : Nat) (hOk : Ok T0 S0 s)
    (hT : Within 0x840200000000000000000000000000000000000000000000000000200009c T0 := by first | with_reducible assumption | exact sub_trans hT rfl) : Ok T0 S0 (State.laneLol s n) := by
  unfold State.laneLol
  repeat' (first
    | with_reducible assumption | (exact rfl) | (exact sub_trans hT rfl) | with_reducible apply ok_set
    | with_reducible apply ok_laneFault | split | dsimp only)

theorem ok_execLolAssert (n : Nat) {s : State} (hOk : Ok T0 S0 s)
    (hT : Within 0x840200000000000000000000000000000000000000000000000000200009c T0 := by first | with_reducible assumption | exact sub_trans hT rfl) : ∃ sNext, execLolAssert n s = .next sNext ∧ Ok T0 S0 sNext := by
  unfold execLolAssert
  refine ⟨_, rfl, ?_⟩
  repeat' (first
    | with_reducible assumption | (exact sub_trans hT rfl) | with_reducible apply ok_laneLol | split | dsimp only)

theorem ok_octetLol {s : State} (o : Nat) (hOk : Ok T0 S0 s)
    (hT : Within 0x840200000000000000000000000000000000000000000000000000200009c T0 := by first | with_reducible assumption | exact sub_trans hT rfl) : Ok T0 S0 (State.octetLol s o) := by
  unfold State.octetLol
  repeat' (first
    | with_reducible assumption | (exact rfl) | (exact sub_trans hT rfl) | with_reducible apply ok_set
    | with_reducible apply ok_laneFault | (with_reducible apply ok_foldl; intro _ _ _; beta_reduce) | (intro _)
    | split | dsimp only)

theorem ok_octetBlank {s : State} (o : Nat) (hOk : Ok T0 S0 s)
    (hT : Within 0x2000000 T0 := by first | with_reducible assumption | exact sub_trans hT rfl) : Ok T0 S0 (State.octetBlank s o) := by
  unfold State.octetBlank
  repeat' (first
    | with_reducible assumption | (exact sub_trans hT rfl)
    | (fail_if_no_progress (with_reducible refine ok_with ?_ ..)) | dsimp only)

theorem ok_execTwinBlankEnd (o : Nat) (lost : List Nat) {s : State} (hOk : Ok T0 S0 s)
    (hT : Within 0x840200000000000000000000000000000000000000000000000000200009c T0 := by first | with_reducible assumption | exact sub_trans hT rfl) : ∃ sNext, execTwinBlankEnd o lost s = .next sNext ∧ Ok T0 S0 sNext := by
  unfold execTwinBlankEnd
  refine ⟨_, rfl, ?_⟩
  repeat' (first
    | with_reducible assumption | (exact sub_trans hT rfl) | with_reducible apply ok_laneLol
    | (fail_if_no_progress (with_reducible refine ok_with ?_ ..))
    | (with_reducible apply ok_foldl; intro _ _ _; beta_reduce) | (intro _) | split | dsimp only)

theorem ok_chkBit {s : State} (n : Nat) (b : Nat) (hOk : Ok T0 S0 s)
    (hT : Within 0x380000000000000000000000000000000000000000000000000002000000 T0 := by first | with_reducible assumption | exact sub_trans hT rfl) : Ok T0 S0 (State.chkBit s n b) := by
  unfold State.chkBit
  repeat' (first
    | with_reducible assumption | (exact rfl) | (exact sub_trans hT rfl) | with_reducible apply ok_incWrap
    | with_reducible apply ok_set | with_reducible apply ok_inc | with_reducible apply ok_setLane
    | (fail_if_no_progress (with_reducible refine ok_with ?_ ..)) | split | dsimp only)

theorem ok_lanePrbsWrite {s : State} (n : Nat) (v : Word) (hOk : Ok T0 S0 s)
    (hT : Within 0x380000000000000000000000000000000000000000000000000002000002 T0 := by first | with_reducible assumption | exact sub_trans hT rfl) : Ok T0 S0 (State.lanePrbsWrite s n v) := by
  unfold State.lanePrbsWrite
  repeat' (first
    | with_reducible assumption | (exact rfl) | (exact sub_trans hT rfl) | with_reducible apply ok_plainWrite
    | with_reducible apply ok_set | with_reducible apply ok_fresh | with_reducible apply ok_setLane
    | (fail_if_no_progress (with_reducible refine ok_with ?_ ..)) | split | dsimp only)

theorem ok_execLanePrbsWrite (src : Src) (n : Nat) (v : Word) {s : State} (hOk : Ok T0 S0 s)
    (hT : Within 0x380000000000000000000000000000000000000000000000000002000002 T0 := by first | with_reducible assumption | exact sub_trans hT rfl) : ∃ sNext, execLanePrbsWrite src n v s = .next sNext ∧ Ok T0 S0 sNext := by
  unfold execLanePrbsWrite
  refine ⟨_, rfl, ?_⟩
  repeat' (first
    | with_reducible assumption | (exact sub_trans hT rfl) | with_reducible apply ok_lanePrbsWrite | split
    | dsimp only)

theorem ok_execPrbsInject (src : Src) (n : Nat) (v : Word) {s : State} (hOk : Ok T0 S0 s)
    (hT : Within 0x380000000000000000000000000000000000000000000000000002000002 T0 := by first | with_reducible assumption | exact sub_trans hT rfl) : ∃ sNext, execPrbsInject src n v s = .next sNext ∧ Ok T0 S0 sNext := by
  unfold execPrbsInject
  refine ⟨_, rfl, ?_⟩
  repeat' (first
    | with_reducible assumption | (exact rfl) | (exact sub_trans hT rfl) | with_reducible apply ok_lanePrbsWrite
    | split | dsimp only)

theorem ok_rawCut {s : State} (j : Nat) (hOk : Ok T0 S0 s)
    (hT : Within 0xc0000000000000000010000008 T0 := by first | with_reducible assumption | exact sub_trans hT rfl) : Ok T0 S0 (State.rawCut s j) := by
  unfold State.rawCut
  repeat' (first
    | with_reducible assumption | (exact rfl) | (exact sub_trans hT rfl) | with_reducible apply ok_setHop
    | with_reducible apply ok_hopCut | (fail_if_no_progress (with_reducible refine ok_with ?_ ..)) | split
    | dsimp only)

theorem ok_rawDeliver {s : State} (n : Nat) (j : Nat) (item : Nat) (hOk : Ok T0 S0 s)
    (hT : Within 0x8000000000000000000000000000000000c0000000000000000010000008 T0 := by first | with_reducible assumption | exact sub_trans hT rfl) : Ok T0 S0 (State.rawDeliver s n j item) := by
  unfold State.rawDeliver
  repeat' (first
    | with_reducible assumption | (exact rfl) | (exact sub_trans hT rfl) | with_reducible apply ok_inc
    | with_reducible apply ok_raiseBench | with_reducible apply ok_hopDrop | with_reducible apply ok_hopWrite
    | with_reducible apply ok_rawCut | split | dsimp only)

theorem ok_blockTrack {s : State} (n : Nat) (item : Nat) (hOk : Ok T0 S0 s)
    (hT : Within 0x840200000000000000000000000000000000000000000000000000200009c T0 := by first | with_reducible assumption | exact sub_trans hT rfl) : Ok T0 S0 (State.blockTrack s n item) := by
  unfold State.blockTrack
  repeat' (first
    | with_reducible assumption | (exact rfl) | (exact sub_trans hT rfl) | with_reducible apply ok_setLane
    | with_reducible apply ok_laneFault | (fail_if_no_progress (with_reducible refine ok_with ?_ ..)) | split
    | dsimp only)

theorem ok_rawSkip {s : State} (n : Nat) (hOk : Ok T0 S0 s)
    (hT : Within 0x2000000 T0 := by first | with_reducible assumption | exact sub_trans hT rfl) : Ok T0 S0 (State.rawSkip s n) := by
  unfold State.rawSkip
  repeat' (first
    | with_reducible assumption | (exact rfl) | (exact sub_trans hT rfl) | with_reducible apply ok_setLane
    | (fail_if_no_progress (with_reducible refine ok_with ?_ ..)) | dsimp only)

theorem ok_rawNext {s : State} (n : Nat) (item : Nat) (carried : Bool) (hOk : Ok T0 S0 s)
    (hT : Within 0x8000000000000000000000000000000000c0000000000000000012000008 T0 := by first | with_reducible assumption | exact sub_trans hT rfl) : Ok T0 S0 (State.rawNext s n item carried) := by
  unfold State.rawNext
  repeat' (first
    | with_reducible assumption | (exact rfl) | (exact sub_trans hT rfl) | with_reducible apply ok_inc
    | with_reducible apply ok_rawDeliver | with_reducible apply ok_rawSkip
    | (fail_if_no_progress (with_reducible refine ok_with ?_ ..)) | split | dsimp only)

theorem ok_rawTrack {s : State} (n : Nat) (item : Nat) (hOk : Ok T0 S0 s)
    (hT : Within 0x840200000000000000000000000000000000000000000000000000200009c T0 := by first | with_reducible assumption | exact sub_trans hT rfl) : Ok T0 S0 (State.rawTrack s n item).2 := by
  unfold State.rawTrack
  repeat' (first
    | with_reducible assumption | (exact sub_trans hT rfl) | with_reducible apply ok_blockTrack | split | dsimp only)

theorem ok_execRawRxItem (n : Nat) (item : Nat) (carried : Bool) {s : State} (hOk : Ok T0 S0 s)
    (hT : Within 0x8f820000000000000000000000000000000c000000000000000001200009c T0 := by first | with_reducible assumption | exact sub_trans hT rfl) : ∃ sNext, execRawRxItem n item carried s = .next sNext ∧ Ok T0 S0 sNext := by
  unfold execRawRxItem
  refine ⟨_, rfl, ?_⟩
  repeat' (first
    | with_reducible assumption | (exact rfl) | (exact sub_trans hT rfl) | with_reducible apply ok_inc
    | with_reducible apply ok_chkBit | with_reducible apply ok_rawSkip | with_reducible apply ok_rawNext
    | with_reducible apply ok_rawTrack | (with_reducible apply ok_foldl; intro _ _ _; beta_reduce) | (intro _) | split
    | dsimp only)

theorem ok_rawTake {s : State} (n : Nat) (j : Nat) (hOk : Ok T0 S0 s)
    (hT : Within 0x10000000 T0 := by first | with_reducible assumption | exact sub_trans hT rfl) : Ok T0 S0 (State.rawTake s n j).2 := by
  unfold State.rawTake
  repeat' (first
    | with_reducible assumption | (exact rfl) | (exact sub_trans hT rfl) | with_reducible apply ok_setHop
    | (fail_if_no_progress (with_reducible refine ok_with ?_ ..)) | split | dsimp only)

theorem ok_rawCarried {s : State} (n : Nat) (j : Nat) (hOk : Ok T0 S0 s)
    (hT : Within 0x800000000000000000000000000000000000000000000000000010000000 T0 := by first | with_reducible assumption | exact sub_trans hT rfl) : Ok T0 S0 (State.rawCarried s n j).2 := by
  unfold State.rawCarried
  repeat' (first
    | with_reducible assumption | (exact rfl) | (exact sub_trans hT rfl) | with_reducible apply ok_inc
    | with_reducible apply ok_rawTake | split | dsimp only)

theorem ok_rawTxNext {s : State} {n width : Nat} {order : List Nat} {z : Nat × State} (hOk : Ok T0 S0 s)
    (hT : Within 0x800000000000000000000000000000000000000000000000000012000000 T0 := by first | with_reducible assumption | exact sub_trans hT rfl)
    (h : s.rawTxNext n width order = some z) : Ok T0 S0 z.2 := by
  unfold State.rawTxNext at h
  dsimp only at h
  split at h
  · cases h; exact ok_setLane _ _ hOk
  · split at h
    · split at h
      · cases h; exact ok_setLane _ _ hOk
      · cases h; exact ok_rawCarried _ _ (ok_setLane _ _ hOk)
    · cases h

theorem ok_execRawTxItem {s : State} (n : Nat) (hOk : Ok T0 S0 s)
    (hT : Within 0x800000000000000000000000000000000000000000000000000012000004 T0 := by first | with_reducible assumption | exact sub_trans hT rfl) :
    ∃ sNext, execRawTxItem n s = .next sNext ∧ Ok T0 S0 sNext := by
  refine ⟨_, rfl, ?_⟩
  split
  · dsimp only
    split
    · exact hOk
    · rename_i h
      have h1 := ok_rawTxNext (h := h) hOk
      split
      · exact ok_setLane _ _ h1
      · exact ok_emit _ (ok_setLane _ _ h1)
  · exact hOk

theorem ok_frameDeliver {s : State} (n : Nat) (items : List Nat) (carried : Bool) (hOk : Ok T0 S0 s)
    (hT : Within 0x208000000000000000000000000000000000c0000000000000000012000008 T0 := by first | with_reducible assumption | exact sub_trans hT rfl) : Ok T0 S0 (State.frameDeliver s n items carried) := by
  unfold State.frameDeliver
  repeat' (first
    | with_reducible assumption | (exact rfl) | (exact sub_trans hT rfl) | with_reducible apply ok_inc
    | with_reducible apply ok_raiseBench | with_reducible apply ok_writeItems | with_reducible apply ok_setLane
    | (fail_if_no_progress (with_reducible refine ok_with ?_ ..)) | split | dsimp only)

theorem ok_frameReceive {s : State} (n : Nat) (fr : List Byte) (fecOk : Bool) (ts : Nat) (frac : Nat) (carried : Bool) (hOk : Ok T0 S0 s)
    (hT : Within 0x308000000000000000000000000000000000c0000000000000000012000008 T0 := by first | with_reducible assumption | exact sub_trans hT rfl) : Ok T0 S0 (State.frameReceive s n fr fecOk ts frac carried) := by
  unfold State.frameReceive
  repeat' (first
    | with_reducible assumption | (exact rfl) | (exact sub_trans hT rfl) | with_reducible apply ok_incWrap
    | with_reducible apply ok_inc | with_reducible apply ok_frameDeliver | split | dsimp only)

theorem ok_execEthRxFrame (n : Nat) (bs : List Byte) (fcsOk : Bool) (ns : Nat) (frac : Nat) (carried : Bool) (corr : Nat) (uncorr : Nat) {s : State} (hOk : Ok T0 S0 s)
    (hT : Within 0x3308000000000000000000000000000000000c0000000000000000012000008 T0 := by first | with_reducible assumption | exact sub_trans hT rfl) : ∃ sNext, execEthRxFrame n bs fcsOk ns frac carried corr uncorr s = .next sNext ∧ Ok T0 S0 sNext := by
  unfold execEthRxFrame
  refine ⟨_, rfl, ?_⟩
  repeat' (first
    | with_reducible assumption | (exact rfl) | (exact sub_trans hT rfl) | with_reducible apply ok_inc
    | with_reducible apply ok_incBy | with_reducible apply ok_frameReceive | split | dsimp only)

theorem ok_txStamp {s : State} (n : Nat) (id : Nat) (ts : Nat) (frac : Nat) (hOk : Ok T0 S0 s)
    (hT : Within 0x8000000000000000000000000000000000000000000000000000002000000 T0 := by first | with_reducible assumption | exact sub_trans hT rfl) : Ok T0 S0 (State.txStamp s n id ts frac) := by
  unfold State.txStamp
  repeat' (first
    | with_reducible assumption | (exact rfl) | (exact sub_trans hT rfl) | with_reducible apply ok_set
    | with_reducible apply ok_setLane | (fail_if_no_progress (with_reducible refine ok_with ?_ ..)) | split
    | dsimp only)

theorem ok_packetSend {s : State} (n : Nat) (j : Nat) (ts : Nat) (frac : Nat) (hOk : Ok T0 S0 s)
    (hT : Within 0xc8000000000000000000000000000000000000000000000000000012000004 T0 := by first | with_reducible assumption | exact sub_trans hT rfl) : Ok T0 S0 (State.packetSend s n j ts frac) := by
  unfold State.packetSend
  repeat' (first
    | with_reducible assumption | (exact rfl) | (exact sub_trans hT rfl) | with_reducible apply ok_incWrap
    | with_reducible apply ok_inc | with_reducible apply ok_emit | with_reducible apply ok_dropAsm
    | with_reducible apply ok_setLane | with_reducible apply ok_txStamp
    | (fail_if_no_progress (with_reducible refine ok_with ?_ ..)) | split | dsimp only)

theorem ok_ethTake {s : State} (n : Nat) (j : Nat) (ts : Nat) (frac : Nat) (hOk : Ok T0 S0 s)
    (hT : Within 0xc8800000000000000000000000000000000000000000000000000012000004 T0 := by first | with_reducible assumption | exact sub_trans hT rfl) : Ok T0 S0 (State.ethTake s n j ts frac) := by
  unfold State.ethTake
  repeat' (first
    | with_reducible assumption | (exact rfl) | (exact sub_trans hT rfl) | with_reducible apply ok_inc
    | with_reducible apply ok_incBy | with_reducible apply ok_fillPort | with_reducible apply ok_dropAsm
    | with_reducible apply ok_setLane | with_reducible apply ok_packetSend
    | (fail_if_no_progress (with_reducible refine ok_with ?_ ..)) | split | dsimp only)

theorem ok_execEthTxFrame (n : Nat) (ns : Nat) (frac : Nat) {s : State} (hOk : Ok T0 S0 s)
    (hT : Within 0xc8800000000000000000000000000000000000000000000000000012000004 T0 := by first | with_reducible assumption | exact sub_trans hT rfl) : ∃ sNext, execEthTxFrame n ns frac s = .next sNext ∧ Ok T0 S0 sNext := by
  unfold execEthTxFrame
  refine ⟨_, rfl, ?_⟩
  repeat' (first
    | with_reducible assumption | (exact rfl) | (exact sub_trans hT rfl) | with_reducible apply ok_ethTake
    | (fail_if_no_progress (with_reducible refine ok_with ?_ ..)) | split | dsimp only)

theorem ok_txtsRead {s : State} (n : Nat) (hOk : Ok T0 S0 s)
    (hT : Within 0x1c00000000000000000000000000000000000000000000000000000002000000 T0 := by first | with_reducible assumption | exact sub_trans hT rfl) : Ok T0 S0 (State.txtsRead s n) := by
  unfold State.txtsRead
  repeat' (first
    | with_reducible assumption | (exact rfl) | (exact sub_trans hT rfl)
    | (with_reducible show _ &&& ~~~(fieldMask _) = _; exact mask_full _ rfl) | with_reducible apply ok_set
    | with_reducible apply ok_setReg | with_reducible apply ok_setLane
    | (fail_if_no_progress (with_reducible refine ok_with ?_ ..)) | split | dsimp only)

theorem ok_execTxtsRead (n : Nat) {s : State} (hOk : Ok T0 S0 s)
    (hT : Within 0x1c00000000000000000000000000000000000000000000000000000002000000 T0 := by first | with_reducible assumption | exact sub_trans hT rfl) : ∃ sNext, execTxtsRead n s = .next sNext ∧ Ok T0 S0 sNext := by
  unfold execTxtsRead
  refine ⟨_, rfl, ?_⟩
  repeat' (first
    | with_reducible assumption | (exact sub_trans hT rfl) | with_reducible apply ok_txtsRead | split | dsimp only)

theorem ok_execElementRecalStart (n : Nat) (e : Nat) {s : State} (hOk : Ok T0 S0 s)
    (hT : Within 0x40000000000000000000000000000000000000000000000000000a000000 T0 := by first | with_reducible assumption | exact sub_trans hT rfl) : ∃ sNext, execElementRecalStart n e s = .next sNext ∧ Ok T0 S0 sNext := by
  unfold execElementRecalStart
  refine ⟨_, rfl, ?_⟩
  repeat' (first
    | with_reducible assumption | (exact rfl) | (exact sub_trans hT rfl) | with_reducible apply ok_set
    | with_reducible apply ok_calStart | with_reducible apply ok_setLane
    | (fail_if_no_progress (with_reducible refine ok_with ?_ ..)) | split | dsimp only)

theorem ok_elementFail {s : State} (n : Nat) (e : Nat) (hOk : Ok T0 S0 s)
    (hT : Within 0x2000000000000000000000000000000000000000000000000002000018 T0 := by first | with_reducible assumption | exact sub_trans hT rfl) : Ok T0 S0 (State.elementFail s n e) := by
  unfold State.elementFail
  repeat' (first
    | with_reducible assumption | (exact rfl) | (exact sub_trans hT rfl) | with_reducible apply ok_set
    | with_reducible apply ok_wlog | with_reducible apply ok_setLane | with_reducible apply ok_laneEvt
    | (fail_if_no_progress (with_reducible refine ok_with ?_ ..)) | split | dsimp only)

theorem ok_execElementRecalDone (n : Nat) (ok : Bool) (bg : Nat) (eye : Nat) (snr : Nat) {s : State} (hOk : Ok T0 S0 s)
    (hT : Within 0x40200000000000000000000000000000000000000000000000000a000018 T0 := by first | with_reducible assumption | exact sub_trans hT rfl) : ∃ sNext, execElementRecalDone n ok bg eye snr s = .next sNext ∧ Ok T0 S0 sNext := by
  unfold execElementRecalDone
  refine ⟨_, rfl, ?_⟩
  repeat' (first
    | with_reducible assumption | (exact rfl) | (exact sub_trans hT rfl) | with_reducible apply ok_set
    | with_reducible apply ok_calFound | with_reducible apply ok_setLane | with_reducible apply ok_elementFail
    | (fail_if_no_progress (with_reducible refine ok_with ?_ ..)) | split | dsimp only)

theorem ok_loseLanes {s : State} (o : Nat) (hOk : Ok T0 S0 s)
    (hT : Within 0x2000000 T0 := by first | with_reducible assumption | exact sub_trans hT rfl) : Ok T0 S0 (State.loseLanes s o) := by
  unfold State.loseLanes
  repeat' (first
    | with_reducible assumption | (exact sub_trans hT rfl)
    | (fail_if_no_progress (with_reducible refine ok_with ?_ ..)) | dsimp only)

/-! ### Clocks -/

theorem ok_setDom {s : State} (m : Nat) (x : ClkDom) (hOk : Ok T0 S0 s)
    (hT : Within 0x4000000 T0 := by first | with_reducible assumption | exact sub_trans hT rfl) : Ok T0 S0 (State.setDom s m x) := by
  unfold State.setDom
  repeat' (first
    | with_reducible assumption | (exact sub_trans hT rfl)
    | (fail_if_no_progress (with_reducible refine ok_with ?_ ..)) | dsimp only)

theorem fok_oscStableFld (o : Nat) : (oscStableFld o).calm = true := by
  first
  | exact fld_calm_full rfl
  | (unfold oscStableFld
     repeat' (first | assumption | rfl | split))

theorem fb_oscStableFld (o : Nat) (hT : Within 0x2000000000000000000000000000000000000000000000000000000000000000 T0) :
    Within (regBit (oscStableFld o).reg) T0 := by
  unfold oscStableFld
  repeat' (first | with_reducible assumption | split | (exact sub_trans hT rfl) | dsimp only)

theorem fok_oscFailFld (o : Nat) : (oscFailFld o).calm = true := by
  first
  | exact fld_calm_full rfl
  | (unfold oscFailFld
     repeat' (first | assumption | rfl | split))

theorem fb_oscFailFld (o : Nat) (hT : Within 0x2000000000000000000000000000000000000000000000000000000000000000 T0) :
    Within (regBit (oscFailFld o).reg) T0 := by
  unfold oscFailFld
  repeat' (first | with_reducible assumption | split | (exact sub_trans hT rfl) | dsimp only)

theorem ok_setTimeSource {s : State} (hOk : Ok T0 S0 s)
    (hT : Within 0x2000000000000000000000000000000000000000000000000000000000000000 T0 := by first | with_reducible assumption | exact sub_trans hT rfl) : Ok T0 S0 (State.setTimeSource s) := by
  unfold State.setTimeSource
  repeat' (first
    | with_reducible assumption | (exact rfl) | (exact sub_trans hT rfl) | with_reducible apply ok_set | split
    | dsimp only)

theorem ok_armMonitors {s : State} (hOk : Ok T0 S0 s)
    (hT : Within 0x8000000000000000000000000000000000000000000000000000000004000000 T0 := by first | with_reducible assumption | exact sub_trans hT rfl) : Ok T0 S0 (State.armMonitors s) := by
  unfold State.armMonitors
  repeat' (first
    | with_reducible assumption | (exact rfl) | (exact sub_trans hT rfl) | with_reducible apply ok_set
    | (fail_if_no_progress (with_reducible refine ok_with ?_ ..))
    | (with_reducible apply ok_foldl; intro _ _ _; beta_reduce) | (intro _) | split | dsimp only)

theorem ok_runOn {s : State} (m : Nat) (o : Nat) (hOk : Ok T0 S0 s)
    (hT : Within 0x8000000000000000000000000000000000000000000000000000000004000000 T0 := by first | with_reducible assumption | exact sub_trans hT rfl) : Ok T0 S0 (State.runOn s m o) := by
  unfold State.runOn
  repeat' (first
    | with_reducible assumption | (exact rfl) | (exact sub_trans hT rfl) | with_reducible apply ok_set
    | with_reducible apply ok_setDom | (fail_if_no_progress (with_reducible refine ok_with ?_ ..)) | dsimp only)

theorem ok_runOther {s : State} (m : Nat) (pref : Nat) (o : Nat) (hOk : Ok T0 S0 s)
    (hT : Within 0x8000000000000000000000000000000000000000000000000000000004000010 T0 := by first | with_reducible assumption | exact sub_trans hT rfl) : Ok T0 S0 (State.runOther s m pref o) := by
  unfold State.runOther
  repeat' (first
    | with_reducible assumption | (exact sub_trans hT rfl) | with_reducible apply ok_wlog
    | with_reducible apply ok_runOn | split | dsimp only)

theorem ok_toFallback {s : State} (m : Nat) (hOk : Ok T0 S0 s)
    (hT : Within 0x8000000000000000000000000000000000000000000000000000000004000010 T0 := by first | with_reducible assumption | exact sub_trans hT rfl) : Ok T0 S0 (State.toFallback s m) := by
  unfold State.toFallback
  repeat' (first
    | with_reducible assumption | (exact rfl) | (exact sub_trans hT rfl) | with_reducible apply ok_set
    | with_reducible apply ok_wlog | with_reducible apply ok_setDom | with_reducible apply ok_runOther
    | (fail_if_no_progress (with_reducible refine ok_with ?_ ..)) | split | dsimp only)

theorem ok_tripEvent {s : State} (m : Nat) (hOk : Ok T0 S0 s)
    (hT : Within 0x8000000000000000000000000000000000000000000000000000000000000094 T0 := by first | with_reducible assumption | exact sub_trans hT rfl) : Ok T0 S0 (State.tripEvent s m) := by
  unfold State.tripEvent
  repeat' (first
    | with_reducible assumption | (exact rfl) | (exact sub_trans hT rfl) | with_reducible apply ok_set
    | with_reducible apply ok_wlog | with_reducible apply ok_alertEvent | dsimp only)

theorem ok_phyLost {s : State} (m : Nat) (hOk : Ok T0 S0 s)
    (hT : Within 0x840202200000000000000001202000000000000000000000000000300709c T0 := by first | with_reducible assumption | exact sub_trans hT rfl) : Ok T0 S0 (State.phyLost s m) := by
  unfold State.phyLost
  repeat' (first
    | with_reducible assumption | (exact sub_trans hT rfl) | with_reducible apply ok_ddrClockLost
    | with_reducible apply ok_linkDown | with_reducible apply ok_octetLol | split | dsimp only)

theorem ok_twinMove {s : State} (m : Nat) (hOk : Ok T0 S0 s)
    (hT : Within 0x8000000000000000000000000000000000000000000000000000000007000094 T0 := by first | with_reducible assumption | exact sub_trans hT rfl) : Ok T0 S0 (State.twinMove s m) := by
  unfold State.twinMove
  repeat' (first
    | with_reducible assumption | (exact rfl) | (exact sub_trans hT rfl) | with_reducible apply ok_set
    | with_reducible apply ok_wlog | with_reducible apply ok_ddrClockLost | with_reducible apply ok_octetBlank
    | with_reducible apply ok_setDom | with_reducible apply ok_tripEvent
    | (fail_if_no_progress (with_reducible refine ok_with ?_ ..)) | split | dsimp only)

theorem ok_monTrip {s0 : State} (m : Nat) (hOk : Ok T0 S0 s0)
    (hT : Within 0x800840202200000000000000001202000000000000000000000000000700709c T0 := by first | with_reducible assumption | exact sub_trans hT rfl) : Ok T0 S0 (State.monTrip s0 m) := by
  unfold State.monTrip
  repeat' (first
    | with_reducible assumption | (exact rfl) | (exact sub_trans hT rfl) | with_reducible apply ok_setDom
    | with_reducible apply ok_toFallback | with_reducible apply ok_tripEvent | with_reducible apply ok_phyLost
    | with_reducible apply ok_twinMove | (fail_if_no_progress (with_reducible refine ok_with ?_ ..)) | split
    | dsimp only)

theorem ok_ungate {s : State} (o : Nat) (hOk : Ok T0 S0 s)
    (hT : Within 0x8000000000000000000000000000000000000000000000000000000004000010 T0 := by first | with_reducible assumption | exact sub_trans hT rfl) : Ok T0 S0 (State.ungate s o) := by
  unfold State.ungate
  repeat' (first
    | with_reducible assumption | (exact rfl) | (exact sub_trans hT rfl) | with_reducible apply ok_runOther
    | (with_reducible apply ok_foldl; intro _ _ _; beta_reduce) | (intro _) | split | dsimp only)

theorem ok_oscGood {s : State} (o : Nat) (hOk : Ok T0 S0 s)
    (hT : Within 0xa000000000000000000000000000000000000000000000000000000004000010 T0 := by first | with_reducible assumption | exact sub_trans hT rfl) : Ok T0 S0 (State.oscGood s o) := by
  unfold State.oscGood
  repeat' (first
    | with_reducible assumption | (exact rfl) | (with_reducible exact fb_oscStableFld _ (sub_trans hT rfl))
    | (exact sub_trans hT rfl) | (exact fok_oscStableFld _) | with_reducible apply ok_set
    | with_reducible apply ok_setTimeSource | with_reducible apply ok_armMonitors | with_reducible apply ok_ungate
    | split | dsimp only)

theorem ok_execOscStable (o : Nat) {s : State} (hOk : Ok T0 S0 s)
    (hT : Within 0xa000000000000000000000000000000000000000000000000000000004000010 T0 := by first | with_reducible assumption | exact sub_trans hT rfl) : ∃ sNext, execOscStable o s = .next sNext ∧ Ok T0 S0 sNext := by
  unfold execOscStable
  refine ⟨_, rfl, ?_⟩
  repeat' (first
    | with_reducible assumption | (exact rfl) | (with_reducible exact fb_oscFailFld _ (sub_trans hT rfl))
    | (exact sub_trans hT rfl) | (exact fok_oscFailFld _) | with_reducible apply ok_oscGood
    | (fail_if_no_progress (with_reducible refine ok_with ?_ ..)) | split | dsimp only)

theorem ok_execPllLock (m : Nat) (t : Nat) {s : State} (hOk : Ok T0 S0 s)
    (hT : Within 0x8000000000000000000000000000000000000000000000000000000004000000 T0 := by first | with_reducible assumption | exact sub_trans hT rfl) : ∃ sNext, execPllLock m t s = .next sNext ∧ Ok T0 S0 sNext := by
  unfold execPllLock
  refine ⟨_, rfl, ?_⟩
  repeat' (first
    | with_reducible assumption | (exact rfl) | (exact sub_trans hT rfl) | with_reducible apply ok_set
    | with_reducible apply ok_armMonitors | split | dsimp only)

theorem ok_lockDrop {s : State} (m : Nat) (t : Nat) (hOk : Ok T0 S0 s)
    (hT : Within 0x800840202200000000000000001202000000000000000000000000000700709c T0 := by first | with_reducible assumption | exact sub_trans hT rfl) : Ok T0 S0 (State.lockDrop s m t) := by
  unfold State.lockDrop
  repeat' (first
    | with_reducible assumption | (exact rfl) | (exact sub_trans hT rfl) | with_reducible apply ok_set
    | with_reducible apply ok_setDom | with_reducible apply ok_monTrip
    | (fail_if_no_progress (with_reducible refine ok_with ?_ ..)) | split | dsimp only)

theorem ok_execPllLockDrop (m : Nat) (t : Nat) {s : State} (hOk : Ok T0 S0 s)
    (hT : Within 0x800840202200000000000000001202000000000000000000000000000700709c T0 := by first | with_reducible assumption | exact sub_trans hT rfl) : ∃ sNext, execPllLockDrop m t s = .next sNext ∧ Ok T0 S0 sNext := by
  unfold execPllLockDrop
  refine ⟨_, rfl, ?_⟩
  repeat' (first
    | with_reducible assumption | (exact sub_trans hT rfl) | with_reducible apply ok_lockDrop | split | dsimp only)

theorem ok_leaveOsc {s : State} (o : Nat) (hOk : Ok T0 S0 s)
    (hT : Within 0x8000000000000000000000000000000000000000000000000000000004000010 T0 := by first | with_reducible assumption | exact sub_trans hT rfl) : Ok T0 S0 (State.leaveOsc s o) := by
  unfold State.leaveOsc
  repeat' (first
    | with_reducible assumption | (exact rfl) | (exact sub_trans hT rfl) | with_reducible apply ok_toFallback
    | (with_reducible apply ok_foldl; intro _ _ _; beta_reduce) | (intro _) | split | dsimp only)

theorem ok_oscFail {s : State} (o : Nat) (hOk : Ok T0 S0 s)
    (hT : Within 0xa00840202200000000000000001202000000000000000000000000000700709c T0 := by first | with_reducible assumption | exact sub_trans hT rfl) : Ok T0 S0 (s.oscFail o) := by
  have h1 : Ok T0 S0 ((s.set (oscFailFld o) 0 1).set (oscStableFld o) 0 0).setTimeSource :=
    ok_setTimeSource (ok_set (fok_oscStableFld o) (ok_set (fok_oscFailFld o) hOk (fb_oscFailFld o (sub_trans hT rfl)))
      (fb_oscStableFld o (sub_trans hT rfl)))
  unfold State.oscFail
  extract_lets s1
  split
  · exact ok_leaveOsc _ (ok_set rfl h1)
  · refine ok_foldl (fun s m h => ?_) h1
    split
    · exact ok_lockDrop _ _ (ok_set rfl h)
    · exact h

theorem ok_countClear {s : State} (bad : Option Nat) (hOk : Ok T0 S0 s)
    (hT : Within 0xa000000000000000000000000000000000000000000000000000000004000010 T0 := by first | with_reducible assumption | exact sub_trans hT rfl) :
    Ok T0 S0 (s.countClear bad) := by
  have hb : ∀ (s : State) (o n : Nat), Ok T0 S0 s →
      Ok T0 S0 (if n = 16 ∧ s.flag (oscFailFld o) 0 = true then (s.set (oscFailFld o) 0 0).oscGood o else s) := by
    intro s o n h
    split
    · exact ok_oscGood _ (ok_set (fok_oscFailFld o) h (fb_oscFailFld o (sub_trans hT rfl)))
    · exact h
  exact hb _ _ _ (hb _ _ _ (hb _ _ _ (ok_with hOk ..)))

theorem ok_oscVerdict {s : State} (out1 : Bool) (hOk : Ok T0 S0 s)
    (hT : Within 0xa00840202200000000000000001202000000000000000000000000000700709c T0 := by first | with_reducible assumption | exact sub_trans hT rfl) : Ok T0 S0 (State.oscVerdict s out1) := by
  unfold State.oscVerdict
  repeat' (first
    | with_reducible assumption | (exact rfl) | (exact sub_trans hT rfl) | with_reducible apply ok_set
    | with_reducible apply ok_tripEvent | with_reducible apply ok_oscFail | with_reducible apply ok_countClear
    | (fail_if_no_progress (with_reducible refine ok_with ?_ ..)) | split | dsimp only)

theorem ok_pllWindow {s : State} (m : Nat) (cnt : Nat) (hOk : Ok T0 S0 s)
    (hT : Within 0x800840202200000000000000001202000000000000000000000000000700709c T0 := by first | with_reducible assumption | exact sub_trans hT rfl) : Ok T0 S0 (State.pllWindow s m cnt) := by
  unfold State.pllWindow
  repeat' (first
    | with_reducible assumption | (exact rfl) | (exact sub_trans hT rfl) | with_reducible apply ok_setDom
    | with_reducible apply ok_monTrip | (fail_if_no_progress (with_reducible refine ok_with ?_ ..)) | split
    | dsimp only)

theorem ok_execMonitorWindowEnd (m : Nat) (cnt : Nat) {s : State} (hOk : Ok T0 S0 s)
    (hT : Within 0xa00840202200000000000000001202000000000000000000000000000700709c T0 := by first | with_reducible assumption | exact sub_trans hT rfl) : ∃ sNext, execMonitorWindowEnd m cnt s = .next sNext ∧ Ok T0 S0 sNext := by
  unfold execMonitorWindowEnd
  refine ⟨_, rfl, ?_⟩
  repeat' (first
    | with_reducible assumption | (exact rfl) | (exact sub_trans hT rfl) | with_reducible apply ok_set
    | with_reducible apply ok_oscVerdict | with_reducible apply ok_pllWindow
    | (fail_if_no_progress (with_reducible refine ok_with ?_ ..)) | split | dsimp only)

theorem ok_reachSource {s : State} (m : Nat) (r : ClkRamp) (hOk : Ok T0 S0 s)
    (hT : Within 0x400000000008000000000000000000000000000000000000000000000000000000005000000 T0 := by first | with_reducible assumption | exact sub_trans hT rfl) : Ok T0 S0 (State.reachSource s m r) := by
  unfold State.reachSource
  repeat' (first
    | with_reducible assumption | (exact rfl) | (exact sub_trans hT rfl) | with_reducible apply ok_set
    | with_reducible apply ok_ddrCheck | with_reducible apply ok_setDom
    | (fail_if_no_progress (with_reducible refine ok_with ?_ ..))
    | (with_reducible apply ok_foldl; intro _ _ _; beta_reduce) | (intro _) | split | dsimp only)

theorem ok_execRampDwellEnd (m : Nat) {s : State} (hOk : Ok T0 S0 s)
    (hT : Within 0x400000000008000000000000000000000000000000000000000000000000000000005000000 T0 := by first | with_reducible assumption | exact sub_trans hT rfl) : ∃ sNext, execRampDwellEnd m s = .next sNext ∧ Ok T0 S0 sNext := by
  unfold execRampDwellEnd
  refine ⟨_, rfl, ?_⟩
  repeat' (first
    | with_reducible assumption | (exact rfl) | (exact sub_trans hT rfl) | with_reducible apply ok_setDom
    | with_reducible apply ok_reachSource | (fail_if_no_progress (with_reducible refine ok_with ?_ ..)) | split
    | dsimp only)

theorem ok_startReturn {s : State} (m : Nat) (hOk : Ok T0 S0 s)
    (hT : Within 0x4000000 T0 := by first | with_reducible assumption | exact sub_trans hT rfl) : Ok T0 S0 (State.startReturn s m) := by
  unfold State.startReturn
  repeat' (first
    | with_reducible assumption | (exact rfl) | (exact sub_trans hT rfl) | with_reducible apply ok_setDom
    | (fail_if_no_progress (with_reducible refine ok_with ?_ ..)) | split | dsimp only)

theorem ok_returnWrite {s : State} (m : Nat) (hOk : Ok T0 S0 s)
    (hT : Within 0x4000000 T0 := by first | with_reducible assumption | exact sub_trans hT rfl) : Ok T0 S0 (State.returnWrite s m) := by
  unfold State.returnWrite
  repeat' (first
    | with_reducible assumption | (exact rfl) | (exact sub_trans hT rfl) | with_reducible apply ok_startReturn | split
    | dsimp only)

theorem ok_clkMonWrite {s : State} (m : Nat) (v : Word) (hOk : Ok T0 S0 s)
    (hT : Within 0x8000000000000000000000000000000000000000000000000000000004000004 T0 := by first | with_reducible assumption | exact sub_trans hT rfl) : Ok T0 S0 (State.clkMonWrite s m v) := by
  unfold State.clkMonWrite
  repeat' (first
    | with_reducible assumption | (exact rfl) | (exact sub_trans hT rfl) | with_reducible apply ok_plainWrite
    | with_reducible apply ok_w1cWrite | with_reducible apply ok_emit | with_reducible apply ok_returnWrite | split
    | dsimp only)

theorem ok_execClkReturn (m : Nat) (w : Option (Src × Word)) {s : State} (hOk : Ok T0 S0 s)
    (hT : Within 0x8000000000000000000000000000000000000000000000000000000004000004 T0 := by first | with_reducible assumption | exact sub_trans hT rfl) : ∃ sNext, execClkReturn m w s = .next sNext ∧ Ok T0 S0 sNext := by
  unfold execClkReturn
  refine ⟨_, rfl, ?_⟩
  repeat' (first
    | with_reducible assumption | (exact rfl) | (exact sub_trans hT rfl) | with_reducible apply ok_startReturn
    | with_reducible apply ok_clkMonWrite | (fail_if_no_progress (with_reducible refine ok_with ?_ ..)) | split
    | dsimp only)

theorem ok_setClkLag {s : State} (b : Nat) (j : Nat) (d : Nat) (hOk : Ok T0 S0 s)
    (hT : Within 0x4000000 T0 := by first | with_reducible assumption | exact sub_trans hT rfl) : Ok T0 S0 (State.setClkLag s b j d) := by
  unfold State.setClkLag
  repeat' (first
    | with_reducible assumption | (exact sub_trans hT rfl)
    | (fail_if_no_progress (with_reducible refine ok_with ?_ ..)) | dsimp only)

theorem ok_bandDividers {s : State} (c : Nat) (band : Nat) (hOk : Ok T0 S0 s)
    (hT : Within 0x20000000000000000000000000000000000000000000000000000000000004000000 T0 := by first | with_reducible assumption | exact sub_trans hT rfl) : Ok T0 S0 (State.bandDividers s c band) := by
  unfold State.bandDividers
  repeat' (first
    | with_reducible assumption | (exact rfl) | (exact sub_trans hT rfl) | with_reducible apply ok_set
    | with_reducible apply ok_setClkLag | (with_reducible apply ok_foldl; intro _ _ _; beta_reduce) | (intro _)
    | split | dsimp only)

theorem ok_execDividerStep (b : Nat) (j : Nat) {s : State} (hOk : Ok T0 S0 s)
    (hT : Within 0x4000000 T0 := by first | with_reducible assumption | exact sub_trans hT rfl) : ∃ sNext, execDividerStep b j s = .next sNext ∧ Ok T0 S0 sNext := by
  unfold execDividerStep
  refine ⟨_, rfl, ?_⟩
  repeat' (first
    | with_reducible assumption | (exact rfl) | (exact sub_trans hT rfl) | with_reducible apply ok_setClkLag | split
    | dsimp only)

theorem ok_clkFabWrite {s : State} (n : Nat) (v : Word) (hOk : Ok T0 S0 s)
    (hT : Within 0x18000000000000000000000000000000000000000000000000000000004000000 T0 := by first | with_reducible assumption | exact sub_trans hT rfl) : Ok T0 S0 (State.clkFabWrite s n v) := by
  unfold State.clkFabWrite
  repeat' (first
    | with_reducible assumption | (exact rfl) | (exact sub_trans hT rfl) | with_reducible apply ok_w1cWrite
    | with_reducible apply ok_set | with_reducible apply ok_setDom | with_reducible apply ok_runOn
    | (fail_if_no_progress (with_reducible refine ok_with ?_ ..)) | split | dsimp only)

theorem ok_execClkFabWrite (src : Src) (n : Nat) (v : Word) {s : State} (hOk : Ok T0 S0 s)
    (hT : Within 0x18000000000000000000000000000000000000000000000000000000004000000 T0 := by first | with_reducible assumption | exact sub_trans hT rfl) : ∃ sNext, execClkFabWrite src n v s = .next sNext ∧ Ok T0 S0 sNext := by
  unfold execClkFabWrite
  refine ⟨_, rfl, ?_⟩
  repeat' (first
    | with_reducible assumption | (exact sub_trans hT rfl) | with_reducible apply ok_clkFabWrite | split | dsimp only)

theorem ok_execDeviceTimeTick {s : State} (hOk : Ok T0 S0 s)
    (hT : Within 0xc0000000000000000000000000000000000000000014000401 T0 := by first | with_reducible assumption | exact sub_trans hT rfl) : ∃ sNext, execDeviceTimeTick s = .next sNext ∧ Ok T0 S0 sNext := by
  unfold execDeviceTimeTick
  refine ⟨_, rfl, ?_⟩
  repeat' (first
    | with_reducible assumption | (exact rfl) | (exact sub_trans hT rfl) | with_reducible apply ok_haulPass
    | with_reducible apply ok_traceDrain | with_reducible apply ok_probeCycles | with_reducible apply ok_tailTime
    | (fail_if_no_progress (with_reducible refine ok_with ?_ ..)) | split | dsimp only)

theorem ok_clkOutWrite {s : State} (i : Nat) (src : Nat) (v : Word) (hOk : Ok T0 S0 s)
    (hT : Within 0x2000000020000000000000000000000000000000000000000000000000000000000000030 T0 := by first | with_reducible assumption | exact sub_trans hT rfl) : Ok T0 S0 (State.clkOutWrite s i src v) := by
  unfold State.clkOutWrite
  repeat' (first
    | with_reducible assumption | (exact rfl) | (exact sub_trans hT rfl) | with_reducible apply ok_w1cWrite
    | with_reducible apply ok_set | with_reducible apply ok_hluRefuse
    | (fail_if_no_progress (with_reducible refine ok_with ?_ ..)) | split | dsimp only)

theorem ok_execClkoutWrite (src : Src) (i : Nat) (v : Word) {s : State} (hOk : Ok T0 S0 s)
    (hT : Within 0x2000000020000000000000000000000000000000000000000000000000000000000000030 T0 := by first | with_reducible assumption | exact sub_trans hT rfl) : ∃ sNext, execClkoutWrite src i v s = .next sNext ∧ Ok T0 S0 sNext := by
  unfold execClkoutWrite
  refine ⟨_, rfl, ?_⟩
  repeat' (first
    | with_reducible assumption | (exact sub_trans hT rfl) | with_reducible apply ok_clkOutWrite | split | dsimp only)

theorem ok_pllsOff {s : State} (d : Nat) (hOk : Ok T0 S0 s)
    (hT : Within 0x8000000000000000000000000000000000000000000000000000000004000000 T0 := by first | with_reducible assumption | exact sub_trans hT rfl) : Ok T0 S0 (s.pllsOff d) := by
  unfold State.pllsOff
  refine ok_foldl (fun s x h => ?_) hOk
  split
  · refine ok_setDom _ _ (ok_setReg_of (fun h0 => bit_and_not fun j hj hb => and_not_bit (v := s.reg .CLK_MON x) (reg_mask h0 _ _) hj ?_) h)
    simp only [BitVec.getLsbD_and, Bool.and_eq_true] at hb
    exact hb.1
  · exact h

/-! ### Repair -/

theorem ok_repairCount {s : State} (g : Nat) (f : Fld) (hf_f : f.calm = true) (hOk : Ok T0 S0 s)
    (hT : Within 0x0 T0 := by first | with_reducible assumption | exact sub_trans hT rfl)
    (hb_f : Within (regBit f.reg) T0 := by first | with_reducible assumption | exact sub_trans hT rfl) : Ok T0 S0 (State.repairCount s g f) := by
  unfold State.repairCount
  repeat' (first
    | with_reducible assumption | (exact sub_trans hT rfl) | with_reducible apply ok_inc | dsimp only)

theorem ok_livePause {s : State} (g : Nat) (hOk : Ok T0 S0 s)
    (hT : Within 0x420000100000000000000000017e00000000000000000014014848 T0 := by first | with_reducible assumption | exact sub_trans hT rfl) : Ok T0 S0 (State.livePause s g) := by
  unfold State.livePause
  repeat' (first
    | with_reducible assumption | (exact rfl) | (exact sub_trans hT rfl) | with_reducible apply ok_deviceCmd
    | (fail_if_no_progress (with_reducible refine ok_with ?_ ..)) | split | dsimp only)

theorem ok_spareSwap {s : State} (g : Nat) (i : Nat) (n : Nat) (hOk : Ok T0 S0 s)
    (hT : Within 0x420000100000000000000000017e00000000400000000014014adc T0 := by first | with_reducible assumption | exact sub_trans hT rfl) : Ok T0 S0 (State.spareSwap s g i n) := by
  unfold State.spareSwap
  repeat' (first
    | with_reducible assumption | (exact rfl) | (exact sub_trans hT rfl) | with_reducible apply ok_set
    | with_reducible apply ok_setGroup | with_reducible apply ok_repairEvent | with_reducible apply ok_spoilAdd
    | with_reducible apply ok_repairCount | with_reducible apply ok_livePause
    | (fail_if_no_progress (with_reducible refine ok_with ?_ ..)) | split | dsimp only)

theorem ok_lostAction {s : State} (g : Nat) (hOk : Ok T0 S0 s)
    (hT : Within 0x420000100000000000000000017e00000000000000000014014adc T0 := by first | with_reducible assumption | exact sub_trans hT rfl) : Ok T0 S0 (State.lostAction s g) := by
  unfold State.lostAction
  repeat' (first
    | with_reducible assumption | (exact sub_trans hT rfl) | with_reducible apply ok_degrade
    | with_reducible apply ok_columnFault | split | dsimp only)

theorem ok_groupLost {s : State} (g : Nat) (hOk : Ok T0 S0 s)
    (hT : Within 0x420000100000000000000000017e00000000400000000014014adc T0 := by first | with_reducible assumption | exact sub_trans hT rfl) : Ok T0 S0 (State.groupLost s g) := by
  unfold State.groupLost
  repeat' (first
    | with_reducible assumption | (exact rfl) | (exact sub_trans hT rfl) | with_reducible apply ok_setGroup
    | with_reducible apply ok_repairEvent | with_reducible apply ok_spoilAdd | with_reducible apply ok_repairCount
    | with_reducible apply ok_lostAction | (fail_if_no_progress (with_reducible refine ok_with ?_ ..)) | split
    | dsimp only)

theorem ok_foldGroup {s : State} (g : Nat) (hOk : Ok T0 S0 s)
    (hT : Within 0x420000100000000000000000017e00000000400000000014014adc T0 := by first | with_reducible assumption | exact sub_trans hT rfl) : Ok T0 S0 (State.foldGroup s g) := by
  unfold State.foldGroup
  repeat' (first
    | with_reducible assumption | (exact rfl) | (exact sub_trans hT rfl) | with_reducible apply ok_setGroup
    | with_reducible apply ok_repairEvent | with_reducible apply ok_spoilAdd | with_reducible apply ok_columnFault
    | with_reducible apply ok_repairCount | with_reducible apply ok_groupLost
    | (fail_if_no_progress (with_reducible refine ok_with ?_ ..)) | split | dsimp only)

theorem ok_hardBore {s : State} (g : Nat) (i : Nat) (hOk : Ok T0 S0 s)
    (hT : Within 0x420000100000000000000000017e00000000400000000014014adc T0 := by first | with_reducible assumption | exact sub_trans hT rfl) : Ok T0 S0 (State.hardBore s g i) := by
  unfold State.hardBore
  repeat' (first
    | with_reducible assumption | (exact sub_trans hT rfl) | with_reducible apply ok_spareSwap
    | with_reducible apply ok_foldGroup | (fail_if_no_progress (with_reducible refine ok_with ?_ ..)) | split
    | dsimp only)

theorem ok_execBoreTestRound (g : Nat) {s : State} (hOk : Ok T0 S0 s)
    (hT : Within 0x40 T0 := by first | with_reducible assumption | exact sub_trans hT rfl) : ∃ sNext, execBoreTestRound g s = .next sNext ∧ Ok T0 S0 sNext := by
  unfold execBoreTestRound
  refine ⟨_, rfl, ?_⟩
  repeat' (first
    | with_reducible assumption | (exact rfl) | (exact sub_trans hT rfl) | with_reducible apply ok_setGroup
    | (fail_if_no_progress (with_reducible refine ok_with ?_ ..)) | split | dsimp only)

theorem ok_boreTestEnd {s : State} (g : Nat) (mismatch : Bool) (hOk : Ok T0 S0 s)
    (hT : Within 0x420000100000000000000000017e00000000400000000014014adc T0 := by first | with_reducible assumption | exact sub_trans hT rfl) : Ok T0 S0 (State.boreTestEnd s g mismatch) := by
  unfold State.boreTestEnd
  repeat' (first
    | with_reducible assumption | (exact rfl) | (exact sub_trans hT rfl) | with_reducible apply ok_setGroup
    | with_reducible apply ok_repairCount | with_reducible apply ok_hardBore
    | (fail_if_no_progress (with_reducible refine ok_with ?_ ..)) | split | dsimp only)

theorem ok_execBoreTestEnd (g : Nat) (mismatch : Bool) {s : State} (hOk : Ok T0 S0 s)
    (hT : Within 0x420000100000000000000000017e00000000400000000014014adc T0 := by first | with_reducible assumption | exact sub_trans hT rfl) : ∃ sNext, execBoreTestEnd g mismatch s = .next sNext ∧ Ok T0 S0 sNext := by
  unfold execBoreTestEnd
  refine ⟨_, rfl, ?_⟩
  repeat' (first
    | with_reducible assumption | (exact sub_trans hT rfl) | with_reducible apply ok_boreTestEnd | split | dsimp only)

theorem ok_execIdleSpareMismatch (g : Nat) (n : Nat) {s : State} (hOk : Ok T0 S0 s)
    (hT : Within 0x2dc T0 := by first | with_reducible assumption | exact sub_trans hT rfl) : ∃ sNext, execIdleSpareMismatch g n s = .next sNext ∧ Ok T0 S0 sNext := by
  unfold execIdleSpareMismatch
  refine ⟨_, rfl, ?_⟩
  repeat' (first
    | with_reducible assumption | (exact rfl) | (exact sub_trans hT rfl) | with_reducible apply ok_set
    | with_reducible apply ok_setGroup | with_reducible apply ok_spoilAdd
    | (fail_if_no_progress (with_reducible refine ok_with ?_ ..)) | split | dsimp only)

theorem ok_liveReturn {s : State} (g : Nat) (hOk : Ok T0 S0 s)
    (hT : Within 0x420000100000000000000000017e00000000000000000014014848 T0 := by first | with_reducible assumption | exact sub_trans hT rfl) : Ok T0 S0 (State.liveReturn s g) := by
  unfold State.liveReturn
  repeat' (first
    | with_reducible assumption | (exact sub_trans hT rfl) | with_reducible apply ok_deviceCmd
    | (fail_if_no_progress (with_reducible refine ok_with ?_ ..)) | split | dsimp only)

theorem ok_groupResume {s : State} (g : Nat) (hOk : Ok T0 S0 s)
    (hT : Within 0x420000100000000000000000017e00000000000000000014014848 T0 := by first | with_reducible assumption | exact sub_trans hT rfl) : Ok T0 S0 (State.groupResume s g) := by
  unfold State.groupResume
  repeat' (first
    | with_reducible assumption | (exact rfl) | (exact sub_trans hT rfl) | with_reducible apply ok_unpauseGroup
    | with_reducible apply ok_liveReturn | split | dsimp only)

theorem ok_execGroupResume (g : Nat) {s : State} (hOk : Ok T0 S0 s)
    (hT : Within 0x420000100000000000000000017e00000000000000000014014848 T0 := by first | with_reducible assumption | exact sub_trans hT rfl) : ∃ sNext, execGroupResume g s = .next sNext ∧ Ok T0 S0 sNext := by
  unfold execGroupResume
  refine ⟨_, rfl, ?_⟩
  repeat' (first
    | with_reducible assumption | (exact sub_trans hT rfl) | with_reducible apply ok_groupResume | split | dsimp only)

theorem ok_forgetPlaces {s : State} (b : Nat) (p : Nat) (f : Nat) (hOk : Ok T0 S0 s)
    (hT : Within 0x800 T0 := by first | with_reducible assumption | exact sub_trans hT rfl) : Ok T0 S0 (State.forgetPlaces s b p f) := by
  unfold State.forgetPlaces
  repeat' (first
    | with_reducible assumption | (exact sub_trans hT rfl)
    | (fail_if_no_progress (with_reducible refine ok_with ?_ ..)) | dsimp only)

theorem ok_shiftMap {s : State} (b : Nat) (r : ShiftRun) (hOk : Ok T0 S0 s)
    (hT : Within 0xc00000000000000000000000000000000000000000000000010a9c T0 := by first | with_reducible assumption | exact sub_trans hT rfl) : Ok T0 S0 (State.shiftMap s b r) := by
  unfold State.shiftMap
  repeat' (first
    | with_reducible assumption | (exact rfl) | (exact sub_trans hT rfl)
    | (with_reducible show _ &&& ~~~(fieldMask _) = _; exact mask_full _ rfl) | with_reducible apply ok_set
    | with_reducible apply ok_setReg | with_reducible apply ok_spoilAdd | with_reducible apply ok_setShift
    | with_reducible apply ok_forgetPlaces | (fail_if_no_progress (with_reducible refine ok_with ?_ ..))
    | (with_reducible apply ok_foldl; intro _ _ _; beta_reduce) | (intro _) | split | dsimp only)

theorem ok_shiftStop {s : State} (b : Nat) (fab : Bool) (host : Bool) (sched : Bool) (last : Bool) (hOk : Ok T0 S0 s)
    (hT : Within 0xc20000100000000000000000017e00000000000000000014014adc T0 := by first | with_reducible assumption | exact sub_trans hT rfl) : Ok T0 S0 (State.shiftStop s b fab host sched last) := by
  unfold State.shiftStop
  repeat' (first
    | with_reducible assumption | (exact rfl) | (exact sub_trans hT rfl) | with_reducible apply ok_dropDeferred
    | with_reducible apply ok_deviceCmd | with_reducible apply ok_setShift | with_reducible apply ok_refuseOnline
    | with_reducible apply ok_shiftMap | (fail_if_no_progress (with_reducible refine ok_with ?_ ..)) | split
    | dsimp only)

theorem ok_execShiftStop (b : Nat) (fab : Bool) (host : Bool) (sched : Bool) (last : Bool) {s : State} (hOk : Ok T0 S0 s)
    (hT : Within 0xc20000100000000000000000017e00000000000000000014014adc T0 := by first | with_reducible assumption | exact sub_trans hT rfl) : ∃ sNext, execShiftStop b fab host sched last s = .next sNext ∧ Ok T0 S0 sNext := by
  unfold execShiftStop
  refine ⟨_, rfl, ?_⟩
  repeat' (first
    | with_reducible assumption | (exact sub_trans hT rfl) | with_reducible apply ok_shiftStop | dsimp only)

theorem ok_moveParityNote {s : State} (b : Nat) (p : Nat) (f : Nat) (hOk : Ok T0 S0 s)
    (hT : Within 0x420000100000000000000000017e00000000000000000014014adc T0 := by first | with_reducible assumption | exact sub_trans hT rfl) : Ok T0 S0 (State.moveParityNote s b p f) := by
  unfold State.moveParityNote
  repeat' (first
    | with_reducible assumption | (exact sub_trans hT rfl) | with_reducible apply ok_parityNoteFrame
    | (with_reducible apply ok_foldl; intro _ _ _; beta_reduce) | (intro _) | split | dsimp only)

theorem ok_copyHome {s : State} (b p g : Nat) (l : List Nat) (hOk : Ok T0 S0 s)
    (hT : Within 0x20000000000000000000000000001800 T0 := by first | with_reducible assumption | exact sub_trans hT rfl) : Ok T0 S0 (s.copyHome b p g l) := by
  induction l generalizing s with
  | nil => exact hOk
  | cons f fs ih =>
    unfold State.copyHome
    refine ih (ok_setPlaneFrame _ _ _ _ ?_)
    split
    · exact ok_inc rfl (ok_setSlotData _ _ _ hOk)
    · exact hOk

theorem ok_takeFrames {s : State} (b p g : Nat) (l : List Nat) (hOk : Ok T0 S0 s)
    (hT : Within 0x20020000000000000000000000000001810 T0 := by first | with_reducible assumption | exact sub_trans hT rfl) :
    Ok T0 S0 (s.takeFrames b p g l).2 := by
  unfold State.takeFrames
  split
  · exact ok_slotFault _ _ hOk
  · exact ok_copyHome _ _ _ _ hOk

theorem ok_moveState {s0 : State} (b : Nat) (p : Nat) (f : Nat) (hOk : Ok T0 S0 s0)
    (hT : Within 0xc20000100000000000020020017e00000000000000000014015adc T0 := by first | with_reducible assumption | exact sub_trans hT rfl) : Ok T0 S0 (State.moveState s0 b p f) := by
  unfold State.moveState
  repeat' (first
    | with_reducible assumption | (exact rfl) | (exact sub_trans hT rfl) | with_reducible apply ok_set
    | with_reducible apply ok_copyStages | with_reducible apply ok_freezeState
    | with_reducible apply ok_moveParityNote | with_reducible apply ok_takeFrames
    | (fail_if_no_progress (with_reducible refine ok_with ?_ ..)) | split | dsimp only)

theorem ok_moveConfig {s : State} (b : Nat) (p : Nat) (hOk : Ok T0 S0 s)
    (hT : Within 0x800000000000000000020020000000000000000000000000001810 T0 := by first | with_reducible assumption | exact sub_trans hT rfl) : Ok T0 S0 (State.moveConfig s b p) := by
  unfold State.moveConfig
  repeat' (first
    | with_reducible assumption | (exact rfl) | (exact sub_trans hT rfl) | with_reducible apply ok_set
    | with_reducible apply ok_takeFrames | (fail_if_no_progress (with_reducible refine ok_with ?_ ..)) | split
    | dsimp only)

theorem ok_leaveColumn {s : State} (b : Nat) (p : Nat) (f : Nat) (hOk : Ok T0 S0 s)
    (hT : Within 0x800 T0 := by first | with_reducible assumption | exact sub_trans hT rfl) : Ok T0 S0 (State.leaveColumn s b p f) := by
  unfold State.leaveColumn
  repeat' (first
    | with_reducible assumption | (exact sub_trans hT rfl)
    | (fail_if_no_progress (with_reducible refine ok_with ?_ ..))
    | (with_reducible apply ok_foldl; intro _ _ _; beta_reduce) | (intro _) | dsimp only)

theorem ok_execShiftMovePlane (b : Nat) (flips : List Nat) {s : State} (hOk : Ok T0 S0 s)
    (hT : Within 0xc20000100000000000020020017e00000000000000000014015adc T0 := by first | with_reducible assumption | exact sub_trans hT rfl) : ∃ sNext, execShiftMovePlane b flips s = .next sNext ∧ Ok T0 S0 sNext := by
  unfold execShiftMovePlane
  refine ⟨_, rfl, ?_⟩
  repeat' (first
    | with_reducible assumption | (exact rfl) | (exact sub_trans hT rfl) | with_reducible apply ok_flipState
    | with_reducible apply ok_setShift | with_reducible apply ok_forgetPlaces | with_reducible apply ok_moveState
    | with_reducible apply ok_moveConfig | with_reducible apply ok_leaveColumn
    | (fail_if_no_progress (with_reducible refine ok_with ?_ ..)) | split | dsimp only)

theorem ok_shiftResume {s : State} (b : Nat) (fab : Bool) (host : Bool) (sched : Bool) (last : Bool) (hOk : Ok T0 S0 s)
    (hT : Within 0x80000000000c20000100000000000000000017e000000000000000000140348dc T0 := by first | with_reducible assumption | exact sub_trans hT rfl) : Ok T0 S0 (State.shiftResume s b fab host sched last) := by
  unfold State.shiftResume
  repeat' (first
    | with_reducible assumption | (exact rfl) | with_reducible apply ok_domSt | (exact sub_trans hT rfl)
    | with_reducible apply ok_set | with_reducible apply ok_repairEvent | with_reducible apply ok_deviceCmd
    | with_reducible apply ok_setShift | (fail_if_no_progress (with_reducible refine ok_with ?_ ..)) | split
    | dsimp only)

theorem ok_execShiftResume (b : Nat) (fab : Bool) (host : Bool) (sched : Bool) (last : Bool) {s : State} (hOk : Ok T0 S0 s)
    (hT : Within 0x80000000000c20000100000000000000000017e000000000000000000140348dc T0 := by first | with_reducible assumption | exact sub_trans hT rfl) : ∃ sNext, execShiftResume b fab host sched last s = .next sNext ∧ Ok T0 S0 sNext := by
  unfold execShiftResume
  refine ⟨_, rfl, ?_⟩
  repeat' (first
    | with_reducible assumption | (exact sub_trans hT rfl) | with_reducible apply ok_shiftResume | dsimp only)

theorem ok_closeToward {s : State} (k : Nat) (p : Nat) (hOk : Ok T0 S0 s)
    (hT : Within 0x400 T0 := by first | with_reducible assumption | exact sub_trans hT rfl) : Ok T0 S0 (State.closeToward s k p) := by
  unfold State.closeToward
  repeat' (first
    | with_reducible assumption | (exact sub_trans hT rfl)
    | (fail_if_no_progress (with_reducible refine ok_with ?_ ..)) | dsimp only)

theorem ok_closeSender {s : State} (k : Nat) (port : Nat) (hOk : Ok T0 S0 s)
    (hT : Within 0x100000000000000000000000000000000000000000000400 T0 := by first | with_reducible assumption | exact sub_trans hT rfl) : Ok T0 S0 (State.closeSender s k port) := by
  unfold State.closeSender
  repeat' (first
    | with_reducible assumption | (exact sub_trans hT rfl) | with_reducible apply ok_portDead
    | with_reducible apply ok_closeToward | (fail_if_no_progress (with_reducible refine ok_with ?_ ..)) | split
    | dsimp only)

theorem ok_linkLost {s : State} (k : Nat) (port : Nat) (hOk : Ok T0 S0 s)
    (hT : Within 0x50000000000000000000000000000000000000000001069c T0 := by first | with_reducible assumption | exact sub_trans hT rfl) : Ok T0 S0 (State.linkLost s k port) := by
  unfold State.linkLost
  repeat' (first
    | with_reducible assumption | (exact rfl) | (with_reducible exact fb_spareFld _ (sub_trans hT rfl))
    | (exact sub_trans hT rfl) | (exact fok_spareFld _) | with_reducible apply ok_set
    | with_reducible apply ok_repairEvent | with_reducible apply ok_spoilAdd | with_reducible apply ok_closeSender
    | (fail_if_no_progress (with_reducible refine ok_with ?_ ..)) | dsimp only)

theorem ok_wireSpare {s : State} (k : Nat) (port : Nat) (wire : Nat) (hOk : Ok T0 S0 s)
    (hT : Within 0x50000000000000000000000000000000000000000001069c T0 := by first | with_reducible assumption | exact sub_trans hT rfl) : Ok T0 S0 (State.wireSpare s k port wire) := by
  unfold State.wireSpare
  repeat' (first
    | with_reducible assumption | (exact rfl) | (with_reducible exact fb_spareFld _ (sub_trans hT rfl))
    | (exact sub_trans hT rfl) | (exact fok_spareFld _) | with_reducible apply ok_set
    | with_reducible apply ok_repairEvent | with_reducible apply ok_spoilAdd | with_reducible apply ok_linkLost
    | split | dsimp only)

theorem ok_epWireSpare {s : State} (k : Nat) (port : Nat) (hOk : Ok T0 S0 s)
    (hT : Within 0x100000000000000000000000000000000000000000000400 T0 := by first | with_reducible assumption | exact sub_trans hT rfl) : Ok T0 S0 (State.epWireSpare s k port) := by
  unfold State.epWireSpare
  repeat' (first
    | with_reducible assumption | (exact sub_trans hT rfl) | with_reducible apply ok_portDead
    | (fail_if_no_progress (with_reducible refine ok_with ?_ ..)) | split | dsimp only)

theorem ok_execLinkRetrainDone (k : Nat) (port : Nat) {s : State} (hOk : Ok T0 S0 s)
    (hT : Within 0x50000000000000000000000000000000000000000001069c T0 := by first | with_reducible assumption | exact sub_trans hT rfl) : ∃ sNext, execLinkRetrainDone k port s = .next sNext ∧ Ok T0 S0 sNext := by
  unfold execLinkRetrainDone
  refine ⟨_, rfl, ?_⟩
  repeat' (first
    | with_reducible assumption | (exact sub_trans hT rfl) | with_reducible apply ok_injMove
    | with_reducible apply ok_wireSpare | with_reducible apply ok_epWireSpare
    | (fail_if_no_progress (with_reducible refine ok_with ?_ ..))
    | (with_reducible apply ok_foldl; intro _ _ _; beta_reduce) | (intro _) | split | dsimp only)

theorem ok_clearRouter {s : State} (k : Nat) (hOk : Ok T0 S0 s)
    (hT : Within 0x400 T0 := by first | with_reducible assumption | exact sub_trans hT rfl) : Ok T0 S0 (State.clearRouter s k) := by
  unfold State.clearRouter
  repeat' (first
    | with_reducible assumption | (exact sub_trans hT rfl)
    | (fail_if_no_progress (with_reducible refine ok_with ?_ ..)) | dsimp only)

theorem ok_retireRouter {s : State} (k : Nat) (hOk : Ok T0 S0 s)
    (hT : Within 0x2000000000000000000000000000000000000000001069c T0 := by first | with_reducible assumption | exact sub_trans hT rfl) : Ok T0 S0 (State.retireRouter s k) := by
  unfold State.retireRouter
  repeat' (first
    | with_reducible assumption | (exact rfl) | (exact sub_trans hT rfl) | with_reducible apply ok_set
    | with_reducible apply ok_repairEvent | with_reducible apply ok_spoilAdd | with_reducible apply ok_closeToward
    | with_reducible apply ok_clearRouter | (fail_if_no_progress (with_reducible refine ok_with ?_ ..))
    | (with_reducible apply ok_foldl; intro _ _ _; beta_reduce) | (intro _) | split | dsimp only)

theorem ok_edgeFailed {s : State} (k : Nat) (hOk : Ok T0 S0 s)
    (hT : Within 0x10000000000000000000000000000000000000000000049c T0 := by first | with_reducible assumption | exact sub_trans hT rfl) : Ok T0 S0 (State.edgeFailed s k) := by
  unfold State.edgeFailed
  repeat' (first
    | with_reducible assumption | (exact sub_trans hT rfl) | with_reducible apply ok_repairEvent
    | with_reducible apply ok_portDead | dsimp only)

theorem ok_calibratorTest {s : State} (k : Nat) (mainSound : Bool) (fallbackSound : Bool) (hOk : Ok T0 S0 s)
    (hT : Within 0x12000000000000000000000000000000000000000001069c T0 := by first | with_reducible assumption | exact sub_trans hT rfl) : Ok T0 S0 (State.calibratorTest s k mainSound fallbackSound) := by
  unfold State.calibratorTest
  repeat' (first
    | with_reducible assumption | (exact rfl) | (exact sub_trans hT rfl) | with_reducible apply ok_set
    | with_reducible apply ok_setSound | with_reducible apply ok_retireRouter | with_reducible apply ok_edgeFailed
    | (fail_if_no_progress (with_reducible refine ok_with ?_ ..)) | split | dsimp only)

theorem ok_execHaulCalibratorTest (k : Nat) (mainSound : Bool) (fallbackSound : Bool) {s : State} (hOk : Ok T0 S0 s)
    (hT : Within 0x12000000000000000000000000000000000000000001069c T0 := by first | with_reducible assumption | exact sub_trans hT rfl) : ∃ sNext, execHaulCalibratorTest k mainSound fallbackSound s = .next sNext ∧ Ok T0 S0 sNext := by
  unfold execHaulCalibratorTest
  refine ⟨_, rfl, ?_⟩
  repeat' (first
    | with_reducible assumption | (exact sub_trans hT rfl) | with_reducible apply ok_calibratorTest | dsimp only)

theorem ok_writeDetours {s : State} (bank : Nat) (hOk : Ok T0 S0 s)
    (hT : Within 0x400 T0 := by first | with_reducible assumption | exact sub_trans hT rfl) : Ok T0 S0 (State.writeDetours s bank) := by
  unfold State.writeDetours
  repeat' (first
    | with_reducible assumption | (exact rfl) | (exact sub_trans hT rfl) | with_reducible apply ok_setRouteEntry
    | (with_reducible apply ok_foldl; intro _ _ _; beta_reduce) | (intro _) | split | dsimp only)

theorem ok_execDetourTablesWritten {s : State} (hOk : Ok T0 S0 s)
    (hT : Within 0x400000000000000000000000000000000000000000000010400 T0 := by first | with_reducible assumption | exact sub_trans hT rfl) : ∃ sNext, execDetourTablesWritten s = .next sNext ∧ Ok T0 S0 sNext := by
  unfold execDetourTablesWritten
  refine ⟨_, rfl, ?_⟩
  repeat' (first
    | with_reducible assumption | (exact rfl) | (exact sub_trans hT rfl) | with_reducible apply ok_epochFlip
    | with_reducible apply ok_writeDetours | (fail_if_no_progress (with_reducible refine ok_with ?_ ..)) | split
    | dsimp only)

theorem ok_spoilBores {s : State} (hOk : Ok T0 S0 s)
    (hT : Within 0x40 T0 := by first | with_reducible assumption | exact sub_trans hT rfl) : Ok T0 S0 (State.spoilBores s) := by
  unfold State.spoilBores
  repeat' (first
    | with_reducible assumption | (exact rfl) | (exact sub_trans hT rfl) | with_reducible apply ok_set
    | with_reducible apply ok_setGroup | (fail_if_no_progress (with_reducible refine ok_with ?_ ..))
    | (with_reducible apply ok_foldl; intro _ _ _; beta_reduce) | (intro _) | split | dsimp only)

theorem ok_spoilColumns {s : State} (hOk : Ok T0 S0 s)
    (hT : Within 0x400000000000000000000000000000000000000000000000000000 T0 := by first | with_reducible assumption | exact sub_trans hT rfl) : Ok T0 S0 (State.spoilColumns s) := by
  unfold State.spoilColumns
  repeat' (first
    | with_reducible assumption | (exact rfl) | (exact sub_trans hT rfl) | with_reducible apply ok_set
    | (with_reducible apply ok_foldl; intro _ _ _; beta_reduce) | (intro _) | split | dsimp only)

theorem ok_bootDetours {s : State} (hOk : Ok T0 S0 s)
    (hT : Within 0x400 T0 := by first | with_reducible assumption | exact sub_trans hT rfl) : Ok T0 S0 (State.bootDetours s) := by
  unfold State.bootDetours
  repeat' (first
    | with_reducible assumption | (exact sub_trans hT rfl) | with_reducible apply ok_writeDetours | split | dsimp only)

theorem ok_spoilHaul {s : State} (f : Nat → Bool) (hOk : Ok T0 S0 s)
    (hT : Within 0x520000000000000000000000000000000000000000000400 T0 := by first | with_reducible assumption | exact sub_trans hT rfl) : Ok T0 S0 (State.spoilHaul s f) := by
  unfold State.spoilHaul
  repeat' (first
    | with_reducible assumption | (exact rfl) | (with_reducible exact fb_spareFld _ (sub_trans hT rfl))
    | (exact sub_trans hT rfl) | (exact fok_spareFld _) | with_reducible apply ok_set
    | with_reducible apply ok_closeToward | with_reducible apply ok_closeSender
    | (fail_if_no_progress (with_reducible refine ok_with ?_ ..))
    | (with_reducible apply ok_foldl; intro _ _ _; beta_reduce) | (intro _) | split | dsimp only)

theorem ok_setMonitor {s : State} (b : Nat) (sx : Nat) (x : Monitor) (hOk : Ok T0 S0 s)
    (hT : Within 0x10000 T0 := by first | with_reducible assumption | exact sub_trans hT rfl) : Ok T0 S0 (State.setMonitor s b sx x) := by
  unfold State.setMonitor
  repeat' (first
    | with_reducible assumption | (exact sub_trans hT rfl)
    | (fail_if_no_progress (with_reducible refine ok_with ?_ ..)) | dsimp only)

theorem ok_alarmCheck {s : State} (b : Nat) (hOk : Ok T0 S0 s)
    (hT : Within 0x4000000000000000018 T0 := by first | with_reducible assumption | exact sub_trans hT rfl) : Ok T0 S0 (State.alarmCheck s b) := by
  unfold State.alarmCheck
  repeat' (first
    | with_reducible assumption | (exact rfl) | (exact sub_trans hT rfl) | with_reducible apply ok_set
    | with_reducible apply ok_raiseBench | with_reducible apply ok_wlog
    | (fail_if_no_progress (with_reducible refine ok_with ?_ ..)) | split | dsimp only)

theorem ok_measureMonitor {s : State} (b : Nat) (sx : Nat) (ps : Nat) (hOk : Ok T0 S0 s)
    (hT : Within 0x10000 T0 := by first | with_reducible assumption | exact sub_trans hT rfl) : Ok T0 S0 (State.measureMonitor s b sx ps) := by
  unfold State.measureMonitor
  repeat' (first
    | with_reducible assumption | (exact rfl) | (exact sub_trans hT rfl) | with_reducible apply ok_setMonitor
    | (fail_if_no_progress (with_reducible refine ok_with ?_ ..)) | split | dsimp only)

theorem ok_execDlymonMeasure (b : Nat) (ps : List Nat) {s : State} (hOk : Ok T0 S0 s)
    (hT : Within 0x4000000000000010018 T0 := by first | with_reducible assumption | exact sub_trans hT rfl) : ∃ sNext, execDlymonMeasure b ps s = .next sNext ∧ Ok T0 S0 sNext := by
  unfold execDlymonMeasure
  refine ⟨_, rfl, ?_⟩
  repeat' (first
    | with_reducible assumption | (exact sub_trans hT rfl) | with_reducible apply ok_alarmCheck
    | with_reducible apply ok_measureMonitor | (fail_if_no_progress (with_reducible refine ok_with ?_ ..))
    | (with_reducible apply ok_foldl; intro _ _ _; beta_reduce) | (intro _) | split | dsimp only)

theorem ok_execDlymonConverterRotate (b : Nat) (sx : Nat) {s : State} (hOk : Ok T0 S0 s)
    (hT : Within 0x8010002 T0 := by first | with_reducible assumption | exact sub_trans hT rfl) : ∃ sNext, execDlymonConverterRotate b sx s = .next sNext ∧ Ok T0 S0 sNext := by
  unfold execDlymonConverterRotate
  refine ⟨_, rfl, ?_⟩
  repeat' (first
    | with_reducible assumption | (exact rfl) | (exact sub_trans hT rfl) | with_reducible apply ok_fresh
    | with_reducible apply ok_calStart | with_reducible apply ok_calFound | with_reducible apply ok_setMonitor
    | (fail_if_no_progress (with_reducible refine ok_with ?_ ..)) | split | dsimp only)

theorem ok_dlymonCtlWrite {s : State} (b : Nat) (v : Word) (hOk : Ok T0 S0 s)
    (hT : Within 0x4000000000000000018 T0 := by first | with_reducible assumption | exact sub_trans hT rfl) : Ok T0 S0 (State.dlymonCtlWrite s b v) := by
  unfold State.dlymonCtlWrite
  repeat' (first
    | with_reducible assumption | (exact sub_trans hT rfl) | with_reducible apply ok_plainWrite
    | with_reducible apply ok_alarmCheck | dsimp only)

/-! ### Scrub -/

theorem ok_setScrubber {s : State} (c : Nat) (i : Nat) (x : Scrubber) (hOk : Ok T0 S0 s)
    (hT : Within 0x400000 T0 := by first | with_reducible assumption | exact sub_trans hT rfl) : Ok T0 S0 (State.setScrubber s c i x) := by
  unfold State.setScrubber
  repeat' (first
    | with_reducible assumption | (exact sub_trans hT rfl)
    | (fail_if_no_progress (with_reducible refine ok_with ?_ ..)) | dsimp only)

theorem ok_scrubPowerUp {s : State} (c : Nat) (hOk : Ok T0 S0 s)
    (hT : Within 0x401000 T0 := by first | with_reducible assumption | exact sub_trans hT rfl) : Ok T0 S0 (State.scrubPowerUp s c) := by
  unfold State.scrubPowerUp
  repeat' (first
    | with_reducible assumption | (exact rfl) | (exact sub_trans hT rfl) | with_reducible apply ok_setScrubber
    | (fail_if_no_progress (with_reducible refine ok_with ?_ ..)) | dsimp only)

theorem ok_scrubRefresh {s : State} (c : Nat) (i : Nat) (nvsOk : Bool) (hOk : Ok T0 S0 s)
    (hT : Within 0x1000000000000000000000000000401018 T0 := by first | with_reducible assumption | exact sub_trans hT rfl) : Ok T0 S0 (State.scrubRefresh s c i nvsOk) := by
  unfold State.scrubRefresh
  repeat' (first
    | with_reducible assumption | (exact rfl) | (exact sub_trans hT rfl) | with_reducible apply ok_set
    | with_reducible apply ok_raise | with_reducible apply ok_wlog | with_reducible apply ok_setScrubber
    | (fail_if_no_progress (with_reducible refine ok_with ?_ ..)) | split | dsimp only)

theorem ok_twinTriplets {s : State} (c : Nat) (j : Nat) (nvsOk : Bool) (hOk : Ok T0 S0 s)
    (hT : Within 0x4000000000000000000000000000400010 T0 := by first | with_reducible assumption | exact sub_trans hT rfl) : Ok T0 S0 (State.twinTriplets s c j nvsOk).2 := by
  unfold State.twinTriplets
  repeat' (first
    | with_reducible assumption | (exact rfl) | (exact sub_trans hT rfl) | with_reducible apply ok_incBy
    | with_reducible apply ok_wlog | with_reducible apply ok_setScrubber
    | (fail_if_no_progress (with_reducible refine ok_with ?_ ..)) | split | dsimp only)

theorem fok_failFld (i : Nat) : (failFld i).calm = true := by
  first
  | exact fld_calm_full rfl
  | (unfold failFld
     repeat' (first | assumption | rfl | split))

theorem fb_failFld (i : Nat) (hT : Within 0x1000000000000000000000000000000000 T0) :
    Within (regBit (failFld i).reg) T0 := by
  unfold failFld
  repeat' (first | with_reducible assumption | split | (exact sub_trans hT rfl) | dsimp only)

theorem fok_passFld (i : Nat) : (passFld i).calm = true := by
  first
  | exact fld_calm_full rfl
  | (unfold passFld
     repeat' (first | assumption | rfl | split))

theorem fb_passFld (i : Nat) (hT : Within 0x1000000000000000000000000000000000 T0) :
    Within (regBit (passFld i).reg) T0 := by
  unfold passFld
  repeat' (first | with_reducible assumption | split | (exact sub_trans hT rfl) | dsimp only)

theorem ok_twinFail {s : State} (c : Nat) (j : Nat) (hOk : Ok T0 S0 s)
    (hT : Within 0x100000000000000000000000000040009c T0 := by first | with_reducible assumption | exact sub_trans hT rfl) : Ok T0 S0 (State.twinFail s c j) := by
  unfold State.twinFail
  repeat' (first
    | with_reducible assumption | (exact rfl) | (with_reducible exact fb_failFld _ (sub_trans hT rfl))
    | (exact sub_trans hT rfl) | (exact fok_failFld _) | with_reducible apply ok_set | with_reducible apply ok_raise
    | with_reducible apply ok_wlog | with_reducible apply ok_raiseVec | with_reducible apply ok_setScrubber
    | (fail_if_no_progress (with_reducible refine ok_with ?_ ..)) | dsimp only)

theorem ok_twinCheck {s : State} (c : Nat) (i : Nat) (nvsOk : Bool) (hOk : Ok T0 S0 s)
    (hT : Within 0x500000000000000000000000000040009c T0 := by first | with_reducible assumption | exact sub_trans hT rfl) : Ok T0 S0 (State.twinCheck s c i nvsOk).2 := by
  unfold State.twinCheck
  repeat' (first
    | with_reducible assumption | (exact rfl) | (with_reducible exact fb_failFld _ (sub_trans hT rfl))
    | (exact sub_trans hT rfl) | (exact fok_failFld _) | with_reducible apply ok_set
    | with_reducible apply ok_setScrubber | with_reducible apply ok_twinTriplets | with_reducible apply ok_twinFail
    | (fail_if_no_progress (with_reducible refine ok_with ?_ ..)) | split | dsimp only)

theorem ok_scrubUpsets {s : State} (c : Nat) (ups : List (Nat × Nat × Nat)) (hOk : Ok T0 S0 s)
    (hT : Within 0x400000 T0 := by first | with_reducible assumption | exact sub_trans hT rfl) : Ok T0 S0 (State.scrubUpsets s c ups) := by
  unfold State.scrubUpsets
  repeat' (first
    | with_reducible assumption | (exact rfl) | (exact sub_trans hT rfl) | with_reducible apply ok_set
    | with_reducible apply ok_setScrubber | (fail_if_no_progress (with_reducible refine ok_with ?_ ..))
    | (with_reducible apply ok_foldl; intro _ _ _; beta_reduce) | (intro _) | split | dsimp only)

theorem ok_passStart {s : State} (c : Nat) (i : Nat) (nvsOk : Bool) (hOk : Ok T0 S0 s)
    (hT : Within 0x500000000000000000000000000040109c T0 := by first | with_reducible assumption | exact sub_trans hT rfl) : Ok T0 S0 (State.passStart s c i nvsOk) := by
  unfold State.passStart
  repeat' (first
    | with_reducible assumption | (exact rfl) | (exact sub_trans hT rfl) | with_reducible apply ok_setScrubber
    | with_reducible apply ok_scrubRefresh | with_reducible apply ok_twinCheck
    | (fail_if_no_progress (with_reducible refine ok_with ?_ ..)) | dsimp only)

theorem ok_execScrubPassStart (c : Nat) (i : Nat) (nvsOk : Bool) (ups : List (Nat × Nat × Nat)) {s : State} (hOk : Ok T0 S0 s)
    (hT : Within 0x500000000000000000000000000040109c T0 := by first | with_reducible assumption | exact sub_trans hT rfl) : ∃ sNext, execScrubPassStart c i nvsOk ups s = .next sNext ∧ Ok T0 S0 sNext := by
  unfold execScrubPassStart
  refine ⟨_, rfl, ?_⟩
  repeat' (first
    | with_reducible assumption | (exact rfl) | (exact sub_trans hT rfl) | with_reducible apply ok_scrubUpsets
    | with_reducible apply ok_passStart | split | dsimp only)

theorem ok_scrubNext {s : State} (c : Nat) (i : Nat) (from_ : List (Nat × Nat)) (hOk : Ok T0 S0 s)
    (hT : Within 0x1000000000000000000000000000400000 T0 := by first | with_reducible assumption | exact sub_trans hT rfl) : Ok T0 S0 (State.scrubNext s c i from_) := by
  unfold State.scrubNext
  repeat' (first
    | with_reducible assumption | (exact rfl) | (with_reducible exact fb_passFld _ (sub_trans hT rfl))
    | (exact sub_trans hT rfl) | (exact fok_passFld _) | with_reducible apply ok_incWrap
    | with_reducible apply ok_setScrubber | (fail_if_no_progress (with_reducible refine ok_with ?_ ..)) | split
    | dsimp only)

theorem ok_scrubLog {s : State} (c : Nat) (w : WatchEnt) (hOk : Ok T0 S0 s)
    (hT : Within 0x18000000000000000000000000000000000 T0 := by first | with_reducible assumption | exact sub_trans hT rfl) : Ok T0 S0 (State.scrubLog s c w) := by
  unfold State.scrubLog
  repeat' (first
    | with_reducible assumption | (exact rfl) | (exact sub_trans hT rfl) | with_reducible apply ok_set | split
    | dsimp only)

theorem ok_scrubCount {s : State} (c : Nat) (b : Nat) (hOk : Ok T0 S0 s)
    (hT : Within 0x1000000000000000000004000000000000000000000000000000000 T0 := by first | with_reducible assumption | exact sub_trans hT rfl) : Ok T0 S0 (State.scrubCount s c b) := by
  unfold State.scrubCount
  repeat' (first
    | with_reducible assumption | (exact rfl) | (exact sub_trans hT rfl) | with_reducible apply ok_inc | split
    | dsimp only)

theorem ok_scrubCe {s : State} (b : Nat) (hOk : Ok T0 S0 s)
    (hT : Within 0x20000000000000000000000000000000 T0 := by first | with_reducible assumption | exact sub_trans hT rfl) : Ok T0 S0 (State.scrubCe s b) := by
  unfold State.scrubCe
  repeat' (first
    | with_reducible assumption | (exact rfl) | (exact sub_trans hT rfl) | with_reducible apply ok_inc | split
    | dsimp only)

theorem ok_scrubHard {s : State} (c : Nat) (w : WatchEnt) (hOk : Ok T0 S0 s)
    (hT : Within 0x420000100000000000004000017e00000000400000000014014ade T0 := by first | with_reducible assumption | exact sub_trans hT rfl) : Ok T0 S0 (State.scrubHard s c w) := by
  unfold State.scrubHard
  repeat' (first
    | with_reducible assumption | (exact rfl) | (exact sub_trans hT rfl) | with_reducible apply ok_inc
    | with_reducible apply ok_fresh | with_reducible apply ok_columnFault | with_reducible apply ok_groupLost | split
    | dsimp only)

theorem ok_mismatch {s : State} (c : Nat) (i : Nat) (b : Nat) (p : Nat) (f : Nat) (bit : Nat) (val : Nat) (deliv : Bool) (hOk : Ok T0 S0 s)
    (hT : Within 0x142000010000000000001c000017e00000000400000000014414ade T0 := by first | with_reducible assumption | exact sub_trans hT rfl) : Ok T0 S0 (State.mismatch s c i b p f bit val deliv) := by
  unfold State.mismatch
  repeat' (first
    | with_reducible assumption | (exact rfl) | (exact sub_trans hT rfl) | with_reducible apply ok_setScrubber
    | with_reducible apply ok_scrubLog | with_reducible apply ok_scrubCount | with_reducible apply ok_scrubHard
    | (fail_if_no_progress (with_reducible refine ok_with ?_ ..)) | split | dsimp only)

theorem ok_compareFrame {s : State} (c : Nat) (i : Nat) (b : Nat) (p : Nat) (f : Nat) (g : Nat) (slotUps : List Nat) (delivery : List Nat) (hOk : Ok T0 S0 s)
    (hT : Within 0x142000010000000000003c020017e00000000400000000014415ade T0 := by first | with_reducible assumption | exact sub_trans hT rfl) : Ok T0 S0 (State.compareFrame s c i b p f g slotUps delivery).2 := by
  unfold State.compareFrame
  repeat' (first
    | with_reducible assumption | (exact sub_trans hT rfl) | with_reducible apply ok_slotRead
    | with_reducible apply ok_scrubCe | with_reducible apply ok_mismatch
    | (fail_if_no_progress (with_reducible refine ok_with ?_ ..))
    | (with_reducible apply ok_foldl; intro _ _ _; beta_reduce) | (intro _) | split | dsimp only)

theorem ok_dropRestores {s : State} (c : Nat) (i : Nat) (h : Nat) (hOk : Ok T0 S0 s)
    (hT : Within 0x400000 T0 := by first | with_reducible assumption | exact sub_trans hT rfl) : Ok T0 S0 (State.dropRestores s c i h) := by
  unfold State.dropRestores
  repeat' (first
    | with_reducible assumption | (exact rfl) | (exact sub_trans hT rfl) | with_reducible apply ok_setScrubber
    | (fail_if_no_progress (with_reducible refine ok_with ?_ ..)) | dsimp only)

theorem ok_scrubsStop {s : State} (hOk : Ok T0 S0 s)
    (hT : Within 0x400000 T0 := by first | with_reducible assumption | exact sub_trans hT rfl) : Ok T0 S0 (State.scrubsStop s) := by
  unfold State.scrubsStop
  repeat' (first
    | with_reducible assumption | (exact rfl) | (exact sub_trans hT rfl) | with_reducible apply ok_setScrubber
    | (fail_if_no_progress (with_reducible refine ok_with ?_ ..))
    | (with_reducible apply ok_foldl; intro _ _ _; beta_reduce) | (intro _) | dsimp only)

theorem ok_scrubsResume {s : State} (hOk : Ok T0 S0 s)
    (hT : Within 0x400000 T0 := by first | with_reducible assumption | exact sub_trans hT rfl) : Ok T0 S0 (State.scrubsResume s) := by
  unfold State.scrubsResume
  repeat' (first
    | with_reducible assumption | (exact rfl) | (exact sub_trans hT rfl) | with_reducible apply ok_setScrubber
    | (fail_if_no_progress (with_reducible refine ok_with ?_ ..))
    | (with_reducible apply ok_foldl; intro _ _ _; beta_reduce) | (intro _) | split | dsimp only)

theorem ok_scrubHeader {s : State} (c : Nat) (i : Nat) (b : Nat) (p : Nat) (slotUps : List Nat) (after : List (Nat × Nat)) (hOk : Ok T0 S0 s)
    (hT : Within 0x2102000000000000000000000000040109c T0 := by first | with_reducible assumption | exact sub_trans hT rfl) : Ok T0 S0 (State.scrubHeader s c i b p slotUps after) := by
  unfold State.scrubHeader
  repeat' (first
    | with_reducible assumption | (exact rfl) | (exact sub_trans hT rfl) | with_reducible apply ok_slotRead
    | with_reducible apply ok_setScrubber | with_reducible apply ok_scrubNext | with_reducible apply ok_scrubCe
    | with_reducible apply ok_dropRestores | (fail_if_no_progress (with_reducible refine ok_with ?_ ..)) | split
    | dsimp only)

theorem ok_scrubCompare {s : State} (c : Nat) (i : Nat) (slotUps : List Nat) (latchUps : List Nat) (delivery : List Nat) (hOk : Ok T0 S0 s)
    (hT : Within 0x142000010000000000003d020017e00000000400000000014415ade T0 := by first | with_reducible assumption | exact sub_trans hT rfl) : Ok T0 S0 (State.scrubCompare s c i slotUps latchUps delivery) := by
  unfold State.scrubCompare
  repeat' (first
    | with_reducible assumption | (exact rfl) | (exact sub_trans hT rfl) | with_reducible apply ok_setPlaneFrame
    | with_reducible apply ok_setScrubber | with_reducible apply ok_scrubNext | with_reducible apply ok_compareFrame
    | with_reducible apply ok_dropRestores | with_reducible apply ok_scrubHeader
    | (fail_if_no_progress (with_reducible refine ok_with ?_ ..))
    | (with_reducible apply ok_foldl; intro _ _ _; beta_reduce) | (intro _) | split | dsimp only)

theorem ok_execScrubFrameCompare (c : Nat) (i : Nat) (slotUps : List Nat) (latchUps : List Nat) (delivery : List Nat) {s : State} (hOk : Ok T0 S0 s)
    (hT : Within 0x142000010000000000003d020017e00000000400000000014415ade T0 := by first | with_reducible assumption | exact sub_trans hT rfl) : ∃ sNext, execScrubFrameCompare c i slotUps latchUps delivery s = .next sNext ∧ Ok T0 S0 sNext := by
  unfold execScrubFrameCompare
  refine ⟨_, rfl, ?_⟩
  repeat' (first
    | with_reducible assumption | (exact rfl) | (exact sub_trans hT rfl) | with_reducible apply ok_scrubCompare
    | split | dsimp only)

theorem ok_scrubRestore {s : State} (c : Nat) (i : Nat) (hOk : Ok T0 S0 s)
    (hT : Within 0x1000000000000000000004000000000000000000000000000400800 T0 := by first | with_reducible assumption | exact sub_trans hT rfl) : Ok T0 S0 (State.scrubRestore s c i) := by
  unfold State.scrubRestore
  repeat' (first
    | with_reducible assumption | (exact rfl) | (exact sub_trans hT rfl) | with_reducible apply ok_setPlaneFrame
    | with_reducible apply ok_setScrubber | with_reducible apply ok_scrubCount
    | (fail_if_no_progress (with_reducible refine ok_with ?_ ..)) | split | dsimp only)

theorem ok_execScrubRestore (c : Nat) (i : Nat) {s : State} (hOk : Ok T0 S0 s)
    (hT : Within 0x1000000000000000000004000000000000000000000000000400800 T0 := by first | with_reducible assumption | exact sub_trans hT rfl) : ∃ sNext, execScrubRestore c i s = .next sNext ∧ Ok T0 S0 sNext := by
  unfold execScrubRestore
  refine ⟨_, rfl, ?_⟩
  repeat' (first
    | with_reducible assumption | (exact rfl) | (exact sub_trans hT rfl) | with_reducible apply ok_scrubRestore
    | split | dsimp only)

theorem ok_parityFail {s : State} (b : Nat) (p : Nat) (grp : Nat) (hOk : Ok T0 S0 s)
    (hT : Within 0x1420000100000000000000000017e00000000000000000014014adc T0 := by first | with_reducible assumption | exact sub_trans hT rfl) : Ok T0 S0 (State.parityFail s b p grp) := by
  unfold State.parityFail
  repeat' (first
    | with_reducible assumption | (exact rfl) | (exact sub_trans hT rfl) | with_reducible apply ok_set
    | with_reducible apply ok_raise | with_reducible apply ok_wlog | with_reducible apply ok_setParSeen
    | with_reducible apply ok_parityNote | split | dsimp only)

theorem ok_execScrubStateParityCheck (b : Nat) (p : Nat) (flips : List Nat) {s : State} (hOk : Ok T0 S0 s)
    (hT : Within 0x1420000100000000000000000017e00000000000000000014414adc T0 := by first | with_reducible assumption | exact sub_trans hT rfl) : ∃ sNext, execScrubStateParityCheck b p flips s = .next sNext ∧ Ok T0 S0 sNext := by
  unfold execScrubStateParityCheck
  refine ⟨_, rfl, ?_⟩
  repeat' (first
    | with_reducible assumption | (exact rfl) | (exact sub_trans hT rfl) | with_reducible apply ok_flipState
    | with_reducible apply ok_setScrubber | with_reducible apply ok_parityFail
    | (fail_if_no_progress (with_reducible refine ok_with ?_ ..))
    | (with_reducible apply ok_foldl; intro _ _ _; beta_reduce) | (intro _) | split | dsimp only)

/-! ### Power -/

theorem ok_benchLost {s : State} (b : Nat) (hOk : Ok T0 S0 s)
    (hT : Within 0x1c851900 T0 := by first | with_reducible assumption | exact sub_trans hT rfl) : Ok T0 S0 (State.benchLost s b) := by
  unfold State.benchLost
  repeat' (first
    | with_reducible assumption | (exact sub_trans hT rfl) | with_reducible apply ok_loseState
    | with_reducible apply ok_losePorts | (fail_if_no_progress (with_reducible refine ok_with ?_ ..)) | dsimp only)

theorem ok_haulLost {s : State} (c : Nat) (hOk : Ok T0 S0 s)
    (hT : Within 0x400 T0 := by first | with_reducible assumption | exact sub_trans hT rfl) : Ok T0 S0 (State.haulLost s c) := by
  unfold State.haulLost
  repeat' (first
    | with_reducible assumption | (exact sub_trans hT rfl)
    | (fail_if_no_progress (with_reducible refine ok_with ?_ ..)) | dsimp only)

theorem ok_mgtLost {s : State} (hOk : Ok T0 S0 s)
    (hT : Within 0x183588 T0 := by first | with_reducible assumption | exact sub_trans hT rfl) : Ok T0 S0 (State.mgtLost s) := by
  unfold State.mgtLost
  repeat' (first
    | with_reducible assumption | (exact sub_trans hT rfl)
    | (fail_if_no_progress (with_reducible refine ok_with ?_ ..)) | dsimp only)

theorem ok_telLost {s : State} (hOk : Ok T0 S0 s)
    (hT : Within 0x8040100 T0 := by first | with_reducible assumption | exact sub_trans hT rfl) : Ok T0 S0 (State.telLost s) := by
  unfold State.telLost
  repeat' (first
    | with_reducible assumption | (exact sub_trans hT rfl)
    | (fail_if_no_progress (with_reducible refine ok_with ?_ ..)) | dsimp only)

theorem ok_injectLost {s : State} (d : Nat) (hOk : Ok T0 S0 s)
    (hT : Within 0x400 T0 := by first | with_reducible assumption | exact sub_trans hT rfl) : Ok T0 S0 (State.injectLost s d) := by
  unfold State.injectLost
  repeat' (first
    | with_reducible assumption | (exact sub_trans hT rfl)
    | (fail_if_no_progress (with_reducible refine ok_with ?_ ..)) | dsimp only)

theorem ok_domainLost {s : State} (d : Nat) (hOk : Ok T0 S0 s)
    (hT : Within 0x1ffffffffffffffffffffffffffffffffffffffffffffffffffffffffffff000000001fbd7d98 T0 := by first | with_reducible assumption | exact sub_trans hT rfl) : Ok T0 S0 (s.domainLost d) := by
  have hI : Ok T0 S0 (s.injectLost d) := ok_injectLost _ hOk
  exact ok_resetDomainRegs
    (ok_ite (ok_mgtLost hI)
    (ok_ite (ok_pllsOff _ hI)
    (ok_ite (ok_telLost hI)
    (ok_ite (ok_with hI ..)
    (ok_ite hI
    (ok_ite (ok_haulLost _ hI)
    (ok_ite hI
    (ok_ite (ok_pllsOff _ (ok_pcieReset _ hI))
    (ok_ite (ok_with (ok_pllsOff _ (ok_loseLanes _ hI)) ..)
    (ok_ite (ok_ddrDown _ (ok_ddrDown _ hI))
    (ok_ite hI
    (ok_ite (ok_cfgLost _ (ok_loadsLost _ hI)) (ok_benchLost _ hI)))))))))))))

theorem ok_bridgeFences {s : State} (hOk : Ok T0 S0 s)
    (hT : Within 0x100000000000000000000000000000000000000000000000 T0 := by first | with_reducible assumption | exact sub_trans hT rfl) : Ok T0 S0 (State.bridgeFences s) := by
  unfold State.bridgeFences
  repeat' (first
    | with_reducible assumption | (exact rfl) | (exact sub_trans hT rfl) | with_reducible apply ok_setFence
    | (with_reducible apply ok_foldl; intro _ _ _; beta_reduce) | (intro _) | split | dsimp only)

theorem ok_reloadPlanes {s : State} (b : Nat) (hOk : Ok T0 S0 s)
    (hT : Within 0x800000000000000000000000000 T0 := by first | with_reducible assumption | exact sub_trans hT rfl) : Ok T0 S0 (State.reloadPlanes s b) := by
  unfold State.reloadPlanes
  repeat' (first
    | with_reducible assumption | (exact rfl) | (exact sub_trans hT rfl) | with_reducible apply ok_setPlaneSt
    | (with_reducible apply ok_foldl; intro _ _ _; beta_reduce) | (intro _) | split | dsimp only)

theorem ok_domainInit {s0 : State} (d : Nat) (hOk : Ok T0 S0 s0)
    (hT : Within 0x800000000000000000000040940 T0 := by first | with_reducible assumption | exact sub_trans hT rfl) : Ok T0 S0 (State.domainInit s0 d) := by
  unfold State.domainInit
  repeat' (first
    | with_reducible assumption | (exact sub_trans hT rfl) | with_reducible apply ok_refreshClass
    | with_reducible apply ok_reloadPlanes | (fail_if_no_progress (with_reducible refine ok_with ?_ ..))
    | (with_reducible apply ok_foldl; intro _ _ _; beta_reduce) | (intro _) | split | dsimp only)

theorem ok_columnFences {s : State} (c : Nat) (hOk : Ok T0 S0 s)
    (hT : Within 0x100000000000000000000000000000000000000000000000 T0 := by first | with_reducible assumption | exact sub_trans hT rfl) : Ok T0 S0 (State.columnFences s c) := by
  unfold State.columnFences
  repeat' (first
    | with_reducible assumption | (exact rfl) | (exact sub_trans hT rfl) | with_reducible apply ok_setFence
    | (fail_if_no_progress (with_reducible refine ok_with ?_ ..))
    | (with_reducible apply ok_foldl; intro _ _ _; beta_reduce) | (intro _) | split | dsimp only)

theorem ok_restoreTables {s : State} (c : Nat) (hOk : Ok T0 S0 s)
    (hT : Within 0x400 T0 := by first | with_reducible assumption | exact sub_trans hT rfl) : Ok T0 S0 (State.restoreTables s c) := by
  unfold State.restoreTables
  repeat' (first
    | with_reducible assumption | (exact rfl) | (exact sub_trans hT rfl) | with_reducible apply ok_setRouteEntry
    | (with_reducible apply ok_foldl; intro _ _ _; beta_reduce) | (intro _) | dsimp only)

theorem ok_holdField {s : State} (q : Nat) (f : Fld) (i : Nat) (hf_f : f.calm = true) (hOk : Ok T0 S0 s)
    (hT : Within 0x0 T0 := by first | with_reducible assumption | exact sub_trans hT rfl)
    (hb_f : Within (regBit f.reg) T0 := by first | with_reducible assumption | exact sub_trans hT rfl) : Ok T0 S0 (State.holdField s q f i) := by
  unfold State.holdField
  repeat' (first
    | with_reducible assumption | (exact rfl) | (exact sub_trans hT rfl) | with_reducible apply ok_set | split
    | dsimp only)

theorem ok_holdFields {s : State} (d : Nat) (hOk : Ok T0 S0 s)
    (hT : Within 0x2000000040000000000000000040000000004000000000000000000000000000000 T0 := by first | with_reducible assumption | exact sub_trans hT rfl) : Ok T0 S0 (State.holdFields s d) := by
  unfold State.holdFields
  repeat' (first
    | with_reducible assumption | (exact rfl) | (exact sub_trans hT rfl) | with_reducible apply ok_holdField
    | (with_reducible apply ok_foldl; intro _ _ _; beta_reduce) | (intro _) | split | dsimp only)

theorem ok_domainReady {s : State} (d : Nat) (hOk : Ok T0 S0 s)
    (hT : Within 0x400000002080000040002420000520000040000000004000000000000000000000021405442 T0 := by first | with_reducible assumption | exact sub_trans hT rfl) : Ok T0 S0 (State.domainReady s d) := by
  unfold State.domainReady
  repeat' (first
    | with_reducible assumption | (exact rfl) | with_reducible apply ok_domSt | (exact sub_trans hT rfl)
    | with_reducible apply ok_set | with_reducible apply ok_acquireClass | with_reducible apply ok_setDomainFences
    | with_reducible apply ok_setBenchFences | with_reducible apply ok_memPowerUp | with_reducible apply ok_ddrUp
    | with_reducible apply ok_spoilColumns | with_reducible apply ok_spoilHaul | with_reducible apply ok_scrubPowerUp
    | with_reducible apply ok_bridgeFences | with_reducible apply ok_columnFences
    | with_reducible apply ok_restoreTables | with_reducible apply ok_holdFields
    | (with_reducible apply ok_foldl; intro _ _ _; beta_reduce) | (intro _) | split | dsimp only)

theorem ok_pwrRefuse {s : State} (d : Nat) (why : Nat) (hOk : Ok T0 S0 s)
    (hT : Within 0x80000000000000000000000000000000000000000000000000000000000000018 T0 := by first | with_reducible assumption | exact sub_trans hT rfl) : Ok T0 S0 (State.pwrRefuse s d why) := by
  unfold State.pwrRefuse
  repeat' (first
    | with_reducible assumption | (exact rfl) | (exact sub_trans hT rfl) | with_reducible apply ok_set
    | with_reducible apply ok_raise | with_reducible apply ok_wlog | dsimp only)

theorem ok_startDown {s : State} (d : Nat) (hOk : Ok T0 S0 s)
    (hT : Within 0x80000000000000000000000000000000000000000000000000000000001020000 T0 := by first | with_reducible assumption | exact sub_trans hT rfl) : Ok T0 S0 (State.startDown s d) := by
  unfold State.startDown
  repeat' (first
    | with_reducible assumption | (exact rfl) | with_reducible apply ok_domSt | (exact sub_trans hT rfl)
    | with_reducible apply ok_set | with_reducible apply ok_ddrEnterSelfCol
    | (fail_if_no_progress (with_reducible refine ok_with ?_ ..)) | split | dsimp only)

theorem ok_rampNext {s : State} (hOk : Ok T0 S0 s)
    (hT : Within 0x80000000000000000000000000000000000000000000000000000000000020000 T0 := by first | with_reducible assumption | exact sub_trans hT rfl) : Ok T0 S0 s.rampNext := by
  unfold State.rampNext
  split
  · exact hOk
  · split
    · rename_i hl
      exact ok_with (ok_domRamp hl hOk) ..
    · exact hOk

theorem ok_startUp {s : State} (d : Nat) (hOk : Ok T0 S0 s)
    (hT : Within 0x80000000000000000000000000000000000000000000000000000000000020000 T0 := by first | with_reducible assumption | exact sub_trans hT rfl) : Ok T0 S0 (State.startUp s d) := by
  unfold State.startUp
  repeat' (first
    | with_reducible assumption | (exact rfl) | (exact sub_trans hT rfl) | with_reducible apply ok_set
    | with_reducible apply ok_rampNext | (fail_if_no_progress (with_reducible refine ok_with ?_ ..)) | dsimp only)

theorem ok_pwrRequest {s : State} (d : Nat) (on : Bool) (hOk : Ok T0 S0 s)
    (hT : Within 0x80000000000000000000000000000000000000000000000000000000001020018 T0 := by first | with_reducible assumption | exact sub_trans hT rfl) : Ok T0 S0 (State.pwrRequest s d on) := by
  unfold State.pwrRequest
  repeat' (first
    | with_reducible assumption | (exact rfl) | (exact sub_trans hT rfl) | with_reducible apply ok_pwrRefuse
    | with_reducible apply ok_startDown | with_reducible apply ok_startUp | split | dsimp only)

theorem ok_pwrDomWrite {s : State} (d : Nat) (v : Word) (hOk : Ok T0 S0 s)
    (hT : Within 0x80000000000000000000000000000000000000000000000000000000001020018 T0 := by first | with_reducible assumption | exact sub_trans hT rfl) : Ok T0 S0 (State.pwrDomWrite s d v) := by
  unfold State.pwrDomWrite
  repeat' (first
    | with_reducible assumption | (exact rfl) | (exact sub_trans hT rfl) | with_reducible apply ok_w1cWrite
    | with_reducible apply ok_set | with_reducible apply ok_pwrRefuse | with_reducible apply ok_pwrRequest | split
    | dsimp only)

theorem ok_execDomainPowerDown (src : Src) (d : Nat) (v : Word) {s : State} (hOk : Ok T0 S0 s)
    (hT : Within 0x80000000000000000000000000000000000000000000000000000000001020018 T0 := by first | with_reducible assumption | exact sub_trans hT rfl) : ∃ sNext, execDomainPowerDown src d v s = .next sNext ∧ Ok T0 S0 sNext := by
  unfold execDomainPowerDown
  refine ⟨_, rfl, ?_⟩
  repeat' (first
    | with_reducible assumption | (exact rfl) | (exact sub_trans hT rfl) | with_reducible apply ok_pwrDomWrite | split
    | dsimp only)

theorem ok_execDomainPowerUp (src : Src) (d : Nat) (v : Word) {s : State} (hOk : Ok T0 S0 s)
    (hT : Within 0x80000000000000000000000000000000000000000000000000000000001020018 T0 := by first | with_reducible assumption | exact sub_trans hT rfl) : ∃ sNext, execDomainPowerUp src d v s = .next sNext ∧ Ok T0 S0 sNext := by
  unfold execDomainPowerUp
  refine ⟨_, rfl, ?_⟩
  repeat' (first
    | with_reducible assumption | (exact rfl) | (exact sub_trans hT rfl) | with_reducible apply ok_pwrDomWrite | split
    | dsimp only)

theorem ok_forceDown {s : State} (d : Nat) (hOk : Ok T0 S0 s)
    (hT : Within 0x80000000000000000000000000000000000000000000000000000000001020000 T0 := by first | with_reducible assumption | exact sub_trans hT rfl) : Ok T0 S0 (State.forceDown s d) := by
  unfold State.forceDown
  repeat' (first
    | with_reducible assumption | (exact rfl) | with_reducible apply ok_domSt | (exact sub_trans hT rfl)
    | with_reducible apply ok_set | with_reducible apply ok_ddrEnterSelfCol
    | (fail_if_no_progress (with_reducible refine ok_with ?_ ..)) | split | dsimp only)

theorem ok_shutNext {s : State} (hOk : Ok T0 S0 s)
    (hT : Within 0x80000000000000000000000000000000000000000000000000000000001020010 T0 := by first | with_reducible assumption | exact sub_trans hT rfl) : Ok T0 S0 (State.shutNext s) := by
  unfold State.shutNext
  repeat' (first
    | with_reducible assumption | (exact sub_trans hT rfl) | with_reducible apply ok_wlog
    | with_reducible apply ok_forceDown | (fail_if_no_progress (with_reducible refine ok_with ?_ ..))
    | (with_reducible apply ok_foldl; intro _ _ _; beta_reduce) | (intro _) | split | dsimp only)

theorem ok_execRecordCopyDone (ok : Bool) {s : State} (hOk : Ok T0 S0 s)
    (hT : Within 0x14000000080000000000000000000000000000000000000000000000000000000001020010 T0 := by first | with_reducible assumption | exact sub_trans hT rfl) : ∃ sNext, execRecordCopyDone ok s = .next sNext ∧ Ok T0 S0 sNext := by
  unfold execRecordCopyDone
  refine ⟨_, rfl, ?_⟩
  repeat' (first
    | with_reducible assumption | (exact sub_trans hT rfl) | with_reducible apply ok_recordDone
    | with_reducible apply ok_shutNext | dsimp only)

theorem ok_shutEnd {s : State} (hOk : Ok T0 S0 s)
    (hT : Within 0x20000 T0 := by first | with_reducible assumption | exact sub_trans hT rfl) : Ok T0 S0 (State.shutEnd s) := by
  unfold State.shutEnd
  repeat' (first
    | with_reducible assumption | (exact sub_trans hT rfl)
    | (fail_if_no_progress (with_reducible refine ok_with ?_ ..)) | split | dsimp only)

theorem ok_execQuiesceDone (d : Nat) (fab : Bool) (host : Bool) (sched : Bool) (last : Bool) {s : State} (hOk : Ok T0 S0 s)
    (hT : Within 0x80000000000420000100000000000000000017e00000000000000000015024c58 T0 := by first | with_reducible assumption | exact sub_trans hT rfl) : ∃ sNext, execQuiesceDone d fab host sched last s = .next sNext ∧ Ok T0 S0 sNext := by
  unfold execQuiesceDone
  refine ⟨_, rfl, ?_⟩
  repeat' (first
    | with_reducible assumption | (exact rfl) | with_reducible apply ok_domSt | (exact sub_trans hT rfl)
    | with_reducible apply ok_set | with_reducible apply ok_closeDomainFences | with_reducible apply ok_fenceStepEnd
    | with_reducible apply ok_deviceCmd | with_reducible apply ok_shutNext | split | dsimp only)

theorem ok_execIsolateDone (d : Nat) {s : State} (hOk : Ok T0 S0 s)
    (hT : Within 0x8000000000000c0c0300000000000000000000000000000000000000000800404 T0 := by first | with_reducible assumption | exact sub_trans hT rfl) : ∃ sNext, execIsolateDone d s = .next sNext ∧ Ok T0 S0 sNext := by
  unfold execIsolateDone
  refine ⟨_, rfl, ?_⟩
  repeat' (first
    | with_reducible assumption | (exact rfl) | with_reducible apply ok_domSt | (exact sub_trans hT rfl)
    | with_reducible apply ok_set | with_reducible apply ok_pendIsolate | with_reducible apply ok_bridgeFences | split
    | dsimp only)

theorem ok_setLastT {s : State} (d : Nat) (hOk : Ok T0 S0 s)
    (hT : Within 0x80000000000000000000000000000000000000000000000000000000000000000 T0 := by first | with_reducible assumption | exact sub_trans hT rfl) : Ok T0 S0 (State.setLastT s d) := by
  unfold State.setLastT
  repeat' (first
    | with_reducible assumption | (exact rfl) | (exact sub_trans hT rfl) | with_reducible apply ok_set | dsimp only)

theorem ok_execGateDone (d : Nat) {s : State} (hOk : Ok T0 S0 s)
    (hT : Within 0x1ffffffffffffffffffffffffffffffffffffffffffffffffffffffffffff000000001fbf7d98 T0 := by first | with_reducible assumption | exact sub_trans hT rfl) : ∃ sNext, execGateDone d s = .next sNext ∧ Ok T0 S0 sNext := by
  unfold execGateDone
  refine ⟨_, rfl, ?_⟩
  repeat' (first
    | with_reducible assumption | (exact rfl) | with_reducible apply ok_domSt | (exact sub_trans hT rfl)
    | with_reducible apply ok_set | with_reducible apply ok_raise | with_reducible apply ok_domainLost
    | with_reducible apply ok_shutEnd | with_reducible apply ok_setLastT | split | dsimp only)

theorem ok_gateNow {s : State} (d : Nat) (hOk : Ok T0 S0 s)
    (hT : Within 0x1ffffffffffffffffffffffffffffffffffffffffffffffffffffffffffff000000001fbf7d9c T0 := by first | with_reducible assumption | exact sub_trans hT rfl) : Ok T0 S0 (State.gateNow s d) := by
  unfold State.gateNow
  repeat' (first
    | with_reducible assumption | (exact rfl) | with_reducible apply ok_domSt | (exact sub_trans hT rfl)
    | with_reducible apply ok_set | with_reducible apply ok_raise | with_reducible apply ok_setDomainFences
    | with_reducible apply ok_pendIsolate | with_reducible apply ok_domainLost | with_reducible apply ok_setLastT
    | (fail_if_no_progress (with_reducible refine ok_with ?_ ..)) | split | dsimp only)

theorem ok_execRampSlotFree {s : State} (hOk : Ok T0 S0 s)
    (hT : Within 0x80000000000000000000000000000000000000000000000000000000000020000 T0 := by first | with_reducible assumption | exact sub_trans hT rfl) : ∃ sNext, execRampSlotFree s = .next sNext ∧ Ok T0 S0 sNext := by
  unfold execRampSlotFree
  refine ⟨_, rfl, ?_⟩
  repeat' (first
    | with_reducible assumption | (exact rfl) | (exact sub_trans hT rfl) | with_reducible apply ok_rampNext | split
    | dsimp only)

theorem ok_execRampDone (d : Nat) {s : State} (hOk : Ok T0 S0 s)
    (hT : Within 0x80000000000000000000000000000000000000800000000000000000000040940 T0 := by first | with_reducible assumption | exact sub_trans hT rfl) : ∃ sNext, execRampDone d s = .next sNext ∧ Ok T0 S0 sNext := by
  unfold execRampDone
  refine ⟨_, rfl, ?_⟩
  repeat' (first
    | with_reducible assumption | (exact rfl) | with_reducible apply ok_domSt | (exact sub_trans hT rfl)
    | with_reducible apply ok_set | with_reducible apply ok_domainInit | split | dsimp only)

theorem ok_execInitDone (d : Nat) {s : State} (hOk : Ok T0 S0 s)
    (hT : Within 0x40000000208000004000242000052000004000000000400000000000000000000002140544a T0 := by first | with_reducible assumption | exact sub_trans hT rfl) : ∃ sNext, execInitDone d s = .next sNext ∧ Ok T0 S0 sNext := by
  unfold execInitDone
  refine ⟨_, rfl, ?_⟩
  repeat' (first
    | with_reducible assumption | (exact rfl) | (exact sub_trans hT rfl) | with_reducible apply ok_raise
    | with_reducible apply ok_domainReady | with_reducible apply ok_setLastT | split | dsimp only)

theorem ok_bootDomain {s : State} (d : Nat) (hOk : Ok T0 S0 s)
    (hT : Within 0x400000002080000040002420000520000040000000004000800000000000000000021465d4a T0 := by first | with_reducible assumption | exact sub_trans hT rfl) : Ok T0 S0 (State.bootDomain s d) := by
  unfold State.bootDomain
  repeat' (first
    | with_reducible assumption | (exact rfl) | with_reducible apply ok_domSt | (exact sub_trans hT rfl)
    | with_reducible apply ok_set | with_reducible apply ok_raise | with_reducible apply ok_domainInit
    | with_reducible apply ok_domainReady | with_reducible apply ok_setLastT
    | (fail_if_no_progress (with_reducible refine ok_with ?_ ..)) | split | dsimp only)

theorem ok_dropDomain {s : State} (d : Nat) (hOk : Ok T0 S0 s)
    (hT : Within 0x1ffffffffffffffffffffffffffffffffffffffffffffffffffffffffffff000000001fbf7d98 T0 := by first | with_reducible assumption | exact sub_trans hT rfl) : Ok T0 S0 (State.dropDomain s d) := by
  unfold State.dropDomain
  repeat' (first
    | with_reducible assumption | (exact rfl) | with_reducible apply ok_domSt | (exact sub_trans hT rfl)
    | with_reducible apply ok_set | with_reducible apply ok_domainLost
    | (fail_if_no_progress (with_reducible refine ok_with ?_ ..)) | split | dsimp only)

/-! ### Thermal -/

theorem ok_thmEvent {s : State} (bit : Nat) (sev : Nat) (detail : Nat) (hOk : Ok T0 S0 s)
    (hT : Within 0x9c T0 := by first | with_reducible assumption | exact sub_trans hT rfl) : Ok T0 S0 (State.thmEvent s bit sev detail) := by
  unfold State.thmEvent
  repeat' (first
    | with_reducible assumption | (exact sub_trans hT rfl) | with_reducible apply ok_raise
    | with_reducible apply ok_wlog | with_reducible apply ok_raiseVec | split | dsimp only)

theorem ok_siteClamp {s : State} (n : Nat) (hOk : Ok T0 S0 s)
    (hT : Within 0x800000000000000000000000000000000000000000000000000000000000000000 T0 := by first | with_reducible assumption | exact sub_trans hT rfl) : Ok T0 S0 (State.siteClamp s n) := by
  unfold State.siteClamp
  repeat' (first
    | with_reducible assumption | (exact rfl) | (exact sub_trans hT rfl) | with_reducible apply ok_set | dsimp only)

theorem ok_setChHold {s : State} (key : Nat) (x : Bool) (hOk : Ok T0 S0 s)
    (hT : Within 0x40000 T0 := by first | with_reducible assumption | exact sub_trans hT rfl) : Ok T0 S0 (State.setChHold s key x) := by
  unfold State.setChHold
  repeat' (first
    | with_reducible assumption | (exact sub_trans hT rfl)
    | (fail_if_no_progress (with_reducible refine ok_with ?_ ..)) | dsimp only)

theorem ok_sensorEvent {s : State} (n : Nat) (mis : Bool) (hOk : Ok T0 S0 s)
    (hT : Within 0x9c T0 := by first | with_reducible assumption | exact sub_trans hT rfl) : Ok T0 S0 (State.sensorEvent s n mis) := by
  unfold State.sensorEvent
  repeat' (first
    | with_reducible assumption | (exact rfl) | (exact sub_trans hT rfl) | with_reducible apply ok_thmEvent
    | dsimp only)

theorem ok_siteReading {s : State} (n : Nat) (raw : Int) (hOk : Ok T0 S0 s)
    (hT : Within 0x800000000000000000000000000000000000000000000000000000000000040000 T0 := by first | with_reducible assumption | exact sub_trans hT rfl) : Ok T0 S0 (State.siteReading s n raw) := by
  unfold State.siteReading
  repeat' (first
    | with_reducible assumption | (exact rfl) | (exact sub_trans hT rfl) | with_reducible apply ok_set
    | with_reducible apply ok_siteClamp | (fail_if_no_progress (with_reducible refine ok_with ?_ ..)) | dsimp only)

theorem ok_convertSite {s : State} (n : Nat) (a : Option Int) (b : Option Int) (hOk : Ok T0 S0 s)
    (hT : Within 0x80000000000000000000000000000000000000000000000000000000000004009c T0 := by first | with_reducible assumption | exact sub_trans hT rfl) : Ok T0 S0 (State.convertSite s n a b) := by
  unfold State.convertSite
  repeat' (first
    | with_reducible assumption | (exact rfl) | (exact sub_trans hT rfl) | with_reducible apply ok_set
    | with_reducible apply ok_sensorEvent | with_reducible apply ok_siteReading
    | (fail_if_no_progress (with_reducible refine ok_with ?_ ..)) | split | dsimp only)

theorem ok_fastUpdate {s : State} (c : Nat) (hOk : Ok T0 S0 s)
    (hT : Within 0x20000000000000000000000000000000000000000000000000000000000000040000 T0 := by first | with_reducible assumption | exact sub_trans hT rfl) : Ok T0 S0 (State.fastUpdate s c) := by
  unfold State.fastUpdate
  repeat' (first
    | with_reducible assumption | (exact rfl) | (exact sub_trans hT rfl) | with_reducible apply ok_set
    | (fail_if_no_progress (with_reducible refine ok_with ?_ ..)) | split | dsimp only)

theorem ok_enterBand {s : State} (c : Nat) (band : Nat) (hOk : Ok T0 S0 s)
    (hT : Within 0x200000000000000000000000000000000004000000000000000000000000040000dc T0 := by first | with_reducible assumption | exact sub_trans hT rfl) : Ok T0 S0 (State.enterBand s c band) := by
  unfold State.enterBand
  repeat' (first
    | with_reducible assumption | (exact rfl) | (exact sub_trans hT rfl) | with_reducible apply ok_set
    | with_reducible apply ok_bandChangeTrims | with_reducible apply ok_bandDividers
    | with_reducible apply ok_thmEvent | split | dsimp only)

theorem ok_bandUpdate {s : State} (c : Nat) (hOk : Ok T0 S0 s)
    (hT : Within 0x200000000000000000000000000000000004000000000000000000000000040400dc T0 := by first | with_reducible assumption | exact sub_trans hT rfl) : Ok T0 S0 (State.bandUpdate s c) := by
  unfold State.bandUpdate
  repeat' (first
    | with_reducible assumption | (exact rfl) | (exact sub_trans hT rfl) | with_reducible apply ok_set
    | with_reducible apply ok_enterBand | (fail_if_no_progress (with_reducible refine ok_with ?_ ..)) | split
    | dsimp only)

theorem ok_setBenchLevel {s : State} (b : Nat) (hOk : Ok T0 S0 s)
    (hT : Within 0x40000000000000000000000000000000000000000000000000000000000000000000 T0 := by first | with_reducible assumption | exact sub_trans hT rfl) : Ok T0 S0 (State.setBenchLevel s b) := by
  unfold State.setBenchLevel
  repeat' (first
    | with_reducible assumption | (exact rfl) | (exact sub_trans hT rfl) | with_reducible apply ok_set | dsimp only)

theorem ok_latchRef {s : State} (b : Nat) (hOk : Ok T0 S0 s)
    (hT : Within 0x80000000000000000000000000000000000000000000000000000000000000000000 T0 := by first | with_reducible assumption | exact sub_trans hT rfl) : Ok T0 S0 (State.latchRef s b) := by
  unfold State.latchRef
  repeat' (first
    | with_reducible assumption | (exact rfl) | (exact sub_trans hT rfl) | with_reducible apply ok_set | dsimp only)

theorem ok_throttleStart {s : State} (b : Nat) (hOk : Ok T0 S0 s)
    (hT : Within 0xc000000000000000000000000000000000000000000000000000000000002004009c T0 := by first | with_reducible assumption | exact sub_trans hT rfl) : Ok T0 S0 (State.throttleStart s b) := by
  unfold State.throttleStart
  repeat' (first
    | with_reducible assumption | (exact rfl) | (exact sub_trans hT rfl) | with_reducible apply ok_set
    | with_reducible apply ok_startTimer | with_reducible apply ok_thmEvent | with_reducible apply ok_latchRef
    | (fail_if_no_progress (with_reducible refine ok_with ?_ ..)) | split | dsimp only)

theorem ok_throttleEnd {s : State} (b : Nat) (hOk : Ok T0 S0 s)
    (hT : Within 0x40000000000000000000000000000000000000000000000000000000000000040000 T0 := by first | with_reducible assumption | exact sub_trans hT rfl) : Ok T0 S0 (State.throttleEnd s b) := by
  unfold State.throttleEnd
  repeat' (first
    | with_reducible assumption | (exact rfl) | (exact sub_trans hT rfl) | with_reducible apply ok_set
    | (fail_if_no_progress (with_reducible refine ok_with ?_ ..)) | dsimp only)

theorem ok_throttleTo {s : State} (c : Nat) (l : Nat) (hOk : Ok T0 S0 s)
    (hT : Within 0xe000000000000000000000000000000000000000000000000000000000002004009c T0 := by first | with_reducible assumption | exact sub_trans hT rfl) : Ok T0 S0 (State.throttleTo s c l) := by
  unfold State.throttleTo
  repeat' (first
    | with_reducible assumption | (exact rfl) | (exact sub_trans hT rfl) | with_reducible apply ok_set
    | with_reducible apply ok_thmEvent | with_reducible apply ok_setBenchLevel | with_reducible apply ok_throttleStart
    | with_reducible apply ok_throttleEnd | (with_reducible apply ok_foldl; intro _ _ _; beta_reduce) | (intro _)
    | split | dsimp only)

theorem ok_throttleEval {s : State} (c : Nat) (hOk : Ok T0 S0 s)
    (hT : Within 0xe200000000000000000000000000000000000000000000000000000000002004009c T0 := by first | with_reducible assumption | exact sub_trans hT rfl) : Ok T0 S0 (State.throttleEval s c) := by
  unfold State.throttleEval
  repeat' (first
    | with_reducible assumption | (exact rfl) | (exact sub_trans hT rfl) | with_reducible apply ok_set
    | with_reducible apply ok_startTimer | with_reducible apply ok_throttleTo
    | (fail_if_no_progress (with_reducible refine ok_with ?_ ..)) | split | dsimp only)

theorem ok_execThrottleRiseTimer (c : Nat) {s : State} (hOk : Ok T0 S0 s)
    (hT : Within 0xe000000000000000000000000000000000000000000000000000000000002004009c T0 := by first | with_reducible assumption | exact sub_trans hT rfl) : ∃ sNext, execThrottleRiseTimer c s = .next sNext ∧ Ok T0 S0 sNext := by
  unfold execThrottleRiseTimer
  refine ⟨_, rfl, ?_⟩
  repeat' (first
    | with_reducible assumption | (exact sub_trans hT rfl) | with_reducible apply ok_startTimer
    | with_reducible apply ok_throttleTo | split | dsimp only)

theorem ok_execThrottleRecoveryTimer (c : Nat) {s : State} (hOk : Ok T0 S0 s)
    (hT : Within 0xe000000000000000000000000000000000000000000000000000000000002004009c T0 := by first | with_reducible assumption | exact sub_trans hT rfl) : ∃ sNext, execThrottleRecoveryTimer c s = .next sNext ∧ Ok T0 S0 sNext := by
  unfold execThrottleRecoveryTimer
  refine ⟨_, rfl, ?_⟩
  repeat' (first
    | with_reducible assumption | (exact sub_trans hT rfl) | with_reducible apply ok_startTimer
    | with_reducible apply ok_throttleTo | split | dsimp only)

theorem ok_privCompare {s : State} (b : Nat) (hOk : Ok T0 S0 s)
    (hT : Within 0x4000000000000000000000000000000000000000000000000000000000002000009c T0 := by first | with_reducible assumption | exact sub_trans hT rfl) : Ok T0 S0 (State.privCompare s b) := by
  unfold State.privCompare
  repeat' (first
    | with_reducible assumption | (exact rfl) | (exact sub_trans hT rfl) | with_reducible apply ok_set
    | with_reducible apply ok_startTimer | with_reducible apply ok_thmEvent | with_reducible apply ok_setBenchLevel
    | split | dsimp only)

theorem ok_execGraceEnd (b : Nat) {s : State} (hOk : Ok T0 S0 s)
    (hT : Within 0x4000000000000000000000000000000000000000000000000000000000002000009c T0 := by first | with_reducible assumption | exact sub_trans hT rfl) : ∃ sNext, execGraceEnd b s = .next sNext ∧ Ok T0 S0 sNext := by
  unfold execGraceEnd
  refine ⟨_, rfl, ?_⟩
  repeat' (first
    | with_reducible assumption | (exact rfl) | (exact sub_trans hT rfl) | with_reducible apply ok_privCompare | split
    | dsimp only)

theorem ok_execExemptCheck (b : Nat) {s : State} (hOk : Ok T0 S0 s)
    (hT : Within 0x4000000000000000000000000000000000000000000000000000000000002000009c T0 := by first | with_reducible assumption | exact sub_trans hT rfl) : ∃ sNext, execExemptCheck b s = .next sNext ∧ Ok T0 S0 sNext := by
  unfold execExemptCheck
  refine ⟨_, rfl, ?_⟩
  repeat' (first
    | with_reducible assumption | (exact rfl) | (exact sub_trans hT rfl) | with_reducible apply ok_privCompare | split
    | dsimp only)

theorem ok_execThermalLevelUpdate (b : Nat) {s : State} (hOk : Ok T0 S0 s)
    (hT : Within 0x40000 T0 := by first | with_reducible assumption | exact sub_trans hT rfl) : ∃ sNext, execThermalLevelUpdate b s = .next sNext ∧ Ok T0 S0 sNext := by
  unfold execThermalLevelUpdate
  refine ⟨_, rfl, ?_⟩
  repeat' (first
    | with_reducible assumption | (exact rfl) | (exact sub_trans hT rfl)
    | (fail_if_no_progress (with_reducible refine ok_with ?_ ..)) | split | dsimp only)

theorem ok_hotUpdate {s : State} (hOk : Ok T0 S0 s)
    (hT : Within 0x10000000000000000000000000000000000000000000000000000000000000000002 T0 := by first | with_reducible assumption | exact sub_trans hT rfl) : Ok T0 S0 (State.hotUpdate s) := by
  unfold State.hotUpdate
  repeat' (first
    | with_reducible assumption | (exact rfl) | (exact sub_trans hT rfl) | with_reducible apply ok_set
    | with_reducible apply ok_fresh | (fail_if_no_progress (with_reducible refine ok_with ?_ ..)) | split | dsimp only)

theorem ok_warnEval {s : State} (hOk : Ok T0 S0 s)
    (hT : Within 0x1200000000000000000000000000000000000000000000000000000000000000009c T0 := by first | with_reducible assumption | exact sub_trans hT rfl) : Ok T0 S0 (State.warnEval s) := by
  unfold State.warnEval
  repeat' (first
    | with_reducible assumption | (exact rfl) | (exact sub_trans hT rfl) | with_reducible apply ok_set
    | with_reducible apply ok_thmEvent | (fail_if_no_progress (with_reducible refine ok_with ?_ ..)) | split
    | dsimp only)

theorem ok_takeDown {s : State} (imm : Bool) (detail : Option Nat) (hOk : Ok T0 S0 s)
    (hT : Within 0x1ffffffffffffffffffffffffffffffffffffffffffffffffffffffffffff000000001fbf7ddc T0 := by first | with_reducible assumption | exact sub_trans hT rfl) : Ok T0 S0 (State.takeDown s imm detail) := by
  unfold State.takeDown
  repeat' (first
    | with_reducible assumption | (exact sub_trans hT rfl) | with_reducible apply ok_deviceCmd
    | with_reducible apply ok_forceDown | with_reducible apply ok_shutNext | with_reducible apply ok_gateNow
    | (fail_if_no_progress (with_reducible refine ok_with ?_ ..))
    | (with_reducible apply ok_foldl; intro _ _ _; beta_reduce) | (intro _) | split | dsimp only)

theorem ok_shutStart {s : State} (hOk : Ok T0 S0 s)
    (hT : Within 0x1ffffffffffffffffffffffffffffffffffffffffffffffffffffffffffff000000001fbf7ddc T0 := by first | with_reducible assumption | exact sub_trans hT rfl) : Ok T0 S0 (State.shutStart s) := by
  unfold State.shutStart
  repeat' (first
    | with_reducible assumption | (exact rfl) | (exact sub_trans hT rfl) | with_reducible apply ok_set
    | with_reducible apply ok_raise | with_reducible apply ok_wlog | with_reducible apply ok_raiseVec
    | with_reducible apply ok_alertEvent | with_reducible apply ok_takeDown | split | dsimp only)

theorem ok_shutEval {s : State} (hOk : Ok T0 S0 s)
    (hT : Within 0x1ffffffffffffffffffffffffffffffffffffffffffffffffffffffffffff000000001fbf7ddc T0 := by first | with_reducible assumption | exact sub_trans hT rfl) : Ok T0 S0 (State.shutEval s) := by
  unfold State.shutEval
  repeat' (first
    | with_reducible assumption | (exact rfl) | (exact sub_trans hT rfl) | with_reducible apply ok_takeDown
    | with_reducible apply ok_shutStart | (fail_if_no_progress (with_reducible refine ok_with ?_ ..)) | split
    | dsimp only)

theorem ok_measure {s : State} (c : Nat) (rd : List (Option Int × Option Int)) (hOk : Ok T0 S0 s)
    (hT : Within 0x1ffffffffffffffffffffffffffffffffffffffffffffffffffffffffffff000000003fbf7dde T0 := by first | with_reducible assumption | exact sub_trans hT rfl) : Ok T0 S0 (State.measure s c rd) := by
  unfold State.measure
  repeat' (first
    | with_reducible assumption | (exact rfl) | (exact sub_trans hT rfl) | with_reducible apply ok_shutNext
    | with_reducible apply ok_setChHold | with_reducible apply ok_convertSite | with_reducible apply ok_fastUpdate
    | with_reducible apply ok_bandUpdate | with_reducible apply ok_throttleEval | with_reducible apply ok_hotUpdate
    | with_reducible apply ok_warnEval | with_reducible apply ok_shutEval
    | (fail_if_no_progress (with_reducible refine ok_with ?_ ..))
    | (with_reducible apply ok_foldl; intro _ _ _; beta_reduce) | (intro _) | split | dsimp only)

theorem ok_execMeasurementInterval (c : Nat) (rd : List (Option Int × Option Int)) {s : State} (hOk : Ok T0 S0 s)
    (hT : Within 0x1ffffffffffffffffffffffffffffffffffffffffffffffffffffffffffff000000003fbf7dde T0 := by first | with_reducible assumption | exact sub_trans hT rfl) : ∃ sNext, execMeasurementInterval c rd s = .next sNext ∧ Ok T0 S0 sNext := by
  unfold execMeasurementInterval
  refine ⟨_, rfl, ?_⟩
  repeat' (first
    | with_reducible assumption | (exact sub_trans hT rfl) | with_reducible apply ok_measure | split | dsimp only)

theorem ok_execHardwareTrip (n : Nat) {s : State} (hOk : Ok T0 S0 s)
    (hT : Within 0x1ffffffffffffffffffffffffffffffffffffffffffffffffffffffffffff000000001fbf7d9c T0 := by first | with_reducible assumption | exact sub_trans hT rfl) : ∃ sNext, execHardwareTrip n s = .next sNext ∧ Ok T0 S0 sNext := by
  unfold execHardwareTrip
  refine ⟨_, rfl, ?_⟩
  repeat' (first
    | with_reducible assumption | (exact sub_trans hT rfl) | with_reducible apply ok_emit
    | with_reducible apply ok_wlog | with_reducible apply ok_gateNow
    | (fail_if_no_progress (with_reducible refine ok_with ?_ ..))
    | (with_reducible apply ok_foldl; intro _ _ _; beta_reduce) | (intro _) | split | dsimp only)

theorem ok_siteFound {s : State} (n : Nat) (v : Nat) (hOk : Ok T0 S0 s)
    (hT : Within 0x1800000000000000000000000000000000000000000000000000000000008000000 T0 := by first | with_reducible assumption | exact sub_trans hT rfl) : Ok T0 S0 (State.siteFound s n v) := by
  unfold State.siteFound
  repeat' (first
    | with_reducible assumption | (exact rfl) | (exact sub_trans hT rfl) | with_reducible apply ok_set
    | with_reducible apply ok_calFound | with_reducible apply ok_siteClamp | split | dsimp only)

theorem ok_execConverterRotate (bank : Nat) (ch : Nat) (bgs : List Nat) {s : State} (hOk : Ok T0 S0 s)
    (hT : Within 0x101800000000000000000000000000000000000000000000000000000000008040000 T0 := by first | with_reducible assumption | exact sub_trans hT rfl) : ∃ sNext, execConverterRotate bank ch bgs s = .next sNext ∧ Ok T0 S0 sNext := by
  unfold execConverterRotate
  refine ⟨_, rfl, ?_⟩
  repeat' (first
    | with_reducible assumption | (exact rfl) | (exact sub_trans hT rfl) | with_reducible apply ok_set
    | with_reducible apply ok_calStart | with_reducible apply ok_calFound | with_reducible apply ok_setChHold
    | with_reducible apply ok_siteFound | (fail_if_no_progress (with_reducible refine ok_with ?_ ..))
    | (with_reducible apply ok_foldl; intro _ _ _; beta_reduce) | (intro _) | split | dsimp only)

theorem ok_setExcess {s : State} (n : Nat) (x : Nat) (hOk : Ok T0 S0 s)
    (hT : Within 0x40000 T0 := by first | with_reducible assumption | exact sub_trans hT rfl) : Ok T0 S0 (State.setExcess s n x) := by
  unfold State.setExcess
  repeat' (first
    | with_reducible assumption | (exact sub_trans hT rfl)
    | (fail_if_no_progress (with_reducible refine ok_with ?_ ..)) | dsimp only)

theorem ok_setH {s : State} (x : Nat) (hOk : Ok T0 S0 s)
    (hT : Within 0xc0000000000000000000000000000000000000000000000000000000000000040000 T0 := by first | with_reducible assumption | exact sub_trans hT rfl) : Ok T0 S0 (State.setH s x) := by
  unfold State.setH
  repeat' (first
    | with_reducible assumption | (exact rfl) | (exact sub_trans hT rfl) | with_reducible apply ok_setBenchLevel
    | with_reducible apply ok_latchRef | (fail_if_no_progress (with_reducible refine ok_with ?_ ..))
    | (with_reducible apply ok_foldl; intro _ _ _; beta_reduce) | (intro _) | split | dsimp only)

theorem ok_limitCheck {s : State} (n : Nat) (hOk : Ok T0 S0 s)
    (hT : Within 0xc000000000000000000000000000000000000000000000000000000000002004009c T0 := by first | with_reducible assumption | exact sub_trans hT rfl) : Ok T0 S0 (State.limitCheck s n) := by
  unfold State.limitCheck
  repeat' (first
    | with_reducible assumption | (exact rfl) | (exact sub_trans hT rfl) | with_reducible apply ok_startTimer
    | with_reducible apply ok_emit | with_reducible apply ok_raise | with_reducible apply ok_wlog
    | with_reducible apply ok_alertEvent | with_reducible apply ok_setExcess | with_reducible apply ok_setH | split
    | dsimp only)

theorem ok_railReading {s : State} (n : Nat) (mv : Nat) (ca : Nat) (hOk : Ok T0 S0 s)
    (hT : Within 0x100000000000000000000000000000000000000000000000000000000000000040000 T0 := by first | with_reducible assumption | exact sub_trans hT rfl) : Ok T0 S0 (State.railReading s n mv ca) := by
  unfold State.railReading
  repeat' (first
    | with_reducible assumption | (exact rfl) | (exact sub_trans hT rfl) | with_reducible apply ok_set
    | with_reducible apply ok_setChHold | split | dsimp only)

theorem ok_setPower {s : State} (hOk : Ok T0 S0 s)
    (hT : Within 0x200000000000000000000000000000000000000000000000000000000000000000002 T0 := by first | with_reducible assumption | exact sub_trans hT rfl) : Ok T0 S0 (State.setPower s) := by
  unfold State.setPower
  repeat' (first
    | with_reducible assumption | (exact rfl) | (exact sub_trans hT rfl) | with_reducible apply ok_set
    | with_reducible apply ok_fresh | split | dsimp only)

theorem ok_tierEnergy {s : State} (k : Nat) (uj : Nat) (hOk : Ok T0 S0 s)
    (hT : Within 0x40000 T0 := by first | with_reducible assumption | exact sub_trans hT rfl) : Ok T0 S0 (State.tierEnergy s k uj) := by
  unfold State.tierEnergy
  repeat' (first
    | with_reducible assumption | (exact sub_trans hT rfl)
    | (fail_if_no_progress (with_reducible refine ok_with ?_ ..)) | dsimp only)

theorem ok_execRailMeasure (rails : List (Nat × Nat)) (tiers : List Nat) {s : State} (hOk : Ok T0 S0 s)
    (hT : Within 0x3c000000000000000000000000000000000000000000000000000000000002004009e T0 := by first | with_reducible assumption | exact sub_trans hT rfl) : ∃ sNext, execRailMeasure rails tiers s = .next sNext ∧ Ok T0 S0 sNext := by
  unfold execRailMeasure
  refine ⟨_, rfl, ?_⟩
  repeat' (first
    | with_reducible assumption | (exact rfl) | (exact sub_trans hT rfl) | with_reducible apply ok_startTimer
    | with_reducible apply ok_limitCheck | with_reducible apply ok_railReading | with_reducible apply ok_setPower
    | with_reducible apply ok_tierEnergy | (fail_if_no_progress (with_reducible refine ok_with ?_ ..))
    | (with_reducible apply ok_foldl; intro _ _ _; beta_reduce) | (intro _) | split | dsimp only)

theorem ok_execHluLevelTimer {s : State} (hOk : Ok T0 S0 s)
    (hT : Within 0xc0000000000000000000000000000000000000000000000000000000000020040000 T0 := by first | with_reducible assumption | exact sub_trans hT rfl) : ∃ sNext, execHluLevelTimer s = .next sNext ∧ Ok T0 S0 sNext := by
  unfold execHluLevelTimer
  refine ⟨_, rfl, ?_⟩
  repeat' (first
    | with_reducible assumption | (exact rfl) | (exact sub_trans hT rfl) | with_reducible apply ok_startTimer
    | with_reducible apply ok_setH | split | dsimp only)

/-! ### Hlu -/

theorem ok_hluLog {s : State} (q : Nat) (hOk : Ok T0 S0 s)
    (hT : Within 0x10 T0 := by first | with_reducible assumption | exact sub_trans hT rfl) : Ok T0 S0 (State.hluLog s q) := by
  unfold State.hluLog
  repeat' (first
    | with_reducible assumption | (exact sub_trans hT rfl) | with_reducible apply ok_wlog | dsimp only)

theorem ok_hluLower {s : State} (q : Nat) (f : Fld) (i : Nat) (hf_f : f.calm = true) (hOk : Ok T0 S0 s)
    (hT : Within 0x10 T0 := by first | with_reducible assumption | exact sub_trans hT rfl)
    (hb_f : Within (regBit f.reg) T0 := by first | with_reducible assumption | exact sub_trans hT rfl) : Ok T0 S0 (State.hluLower s q f i) := by
  unfold State.hluLower
  repeat' (first
    | with_reducible assumption | (exact rfl) | (exact sub_trans hT rfl) | with_reducible apply ok_set
    | with_reducible apply ok_hluLog | split | dsimp only)

theorem ok_laneOff {s : State} (q : Nat) (n : Nat) (hOk : Ok T0 S0 s)
    (hT : Within 0x9402000000000000000000000000000000000000000000000000002000018 T0 := by first | with_reducible assumption | exact sub_trans hT rfl) : Ok T0 S0 (State.laneOff s q n) := by
  unfold State.laneOff
  repeat' (first
    | with_reducible assumption | (exact sub_trans hT rfl) | with_reducible apply ok_octApply
    | with_reducible apply ok_hluLog | (with_reducible apply ok_foldl; intro _ _ _; beta_reduce) | (intro _) | split
    | dsimp only)

theorem ok_hluApply {s : State} (q : Nat) (hOk : Ok T0 S0 s)
    (hT : Within 0x18000000002820009442000000000000000040000000004000000000000000000000002000058 T0 := by first | with_reducible assumption | exact sub_trans hT rfl) : Ok T0 S0 (State.hluApply s q) := by
  unfold State.hluApply
  repeat' (first
    | with_reducible assumption | (exact rfl) | (exact sub_trans hT rfl) | with_reducible apply ok_set
    | with_reducible apply ok_reclampTrims | with_reducible apply ok_siteClamp | with_reducible apply ok_hluLog
    | with_reducible apply ok_hluLower | with_reducible apply ok_laneOff
    | (with_reducible apply ok_foldl; intro _ _ _; beta_reduce) | (intro _) | split | dsimp only)

theorem ok_boardWrite {s : State} (src : Src) (q : Nat) (v : Word) (hOk : Ok T0 S0 s)
    (hT : Within 0x18002200002820009442000000000000000040000000004000000000000000000000002000078 T0 := by first | with_reducible assumption | exact sub_trans hT rfl) : Ok T0 S0 (State.boardWrite s src q v) := by
  unfold State.boardWrite
  repeat' (first
    | with_reducible assumption | (exact rfl) | (exact sub_trans hT rfl)
    | (with_reducible show _ &&& ~~~(fieldMask _) = _; exact mask_full _ rfl) | with_reducible apply ok_setReg
    | with_reducible apply ok_hluRefuse | with_reducible apply ok_hluApply
    | (fail_if_no_progress (with_reducible refine ok_with ?_ ..)) | split | dsimp only)

theorem ok_execHluBoardWrite (src : Src) (q : Nat) (v : Word) {s : State} (hOk : Ok T0 S0 s)
    (hT : Within 0x18002200002820009442000000000000000040000000004000000000000000000000002000078 T0 := by first | with_reducible assumption | exact sub_trans hT rfl) : ∃ sNext, execHluBoardWrite src q v s = .next sNext ∧ Ok T0 S0 sNext := by
  unfold execHluBoardWrite
  refine ⟨_, rfl, ?_⟩
  repeat' (first
    | with_reducible assumption | (exact sub_trans hT rfl) | with_reducible apply ok_boardWrite | split | dsimp only)

theorem ok_fwLayerWrite {s : State} (q : Nat) (v : Nat) (hOk : Ok T0 S0 s)
    (hT : Within 0x18002400002820009442000000000000000040000000004000000000000000000000002000078 T0 := by first | with_reducible assumption | exact sub_trans hT rfl) : Ok T0 S0 (State.fwLayerWrite s q v).1 := by
  unfold State.fwLayerWrite
  repeat' (first
    | with_reducible assumption | (exact rfl) | (exact sub_trans hT rfl)
    | (with_reducible show _ &&& ~~~(fieldMask _) = _; exact mask_full _ rfl) | with_reducible apply ok_setReg
    | with_reducible apply ok_hluRefuse | with_reducible apply ok_hluApply | split | dsimp only)

theorem ok_hluCtlWrite {s : State} (v : Word) (hOk : Ok T0 S0 s)
    (hT : Within 0x1000000000000000000000000000000000000000000000000000000000000000000040000 T0 := by first | with_reducible assumption | exact sub_trans hT rfl) : Ok T0 S0 (State.hluCtlWrite s v) := by
  unfold State.hluCtlWrite
  repeat' (first
    | with_reducible assumption | (exact rfl) | (exact sub_trans hT rfl) | with_reducible apply ok_set
    | (fail_if_no_progress (with_reducible refine ok_with ?_ ..)) | split | dsimp only)

theorem ok_execHluLock (src : Src) (v : Word) {s : State} (hOk : Ok T0 S0 s)
    (hT : Within 0x1000000000000000000000000000000000000000000000000000000000000000000040000 T0 := by first | with_reducible assumption | exact sub_trans hT rfl) : ∃ sNext, execHluLock src v s = .next sNext ∧ Ok T0 S0 sNext := by
  unfold execHluLock
  refine ⟨_, rfl, ?_⟩
  repeat' (first
    | with_reducible assumption | (exact sub_trans hT rfl) | with_reducible apply ok_hluCtlWrite | split | dsimp only)

theorem ok_limitsWrite {s : State} (src : Nat) (v : Word) (hOk : Ok T0 S0 s)
    (hT : Within 0x2000012000000000000000000000000000000000000000000000000000000000000000030 T0 := by first | with_reducible assumption | exact sub_trans hT rfl) : Ok T0 S0 (State.limitsWrite s src v) := by
  unfold State.limitsWrite
  repeat' (first
    | with_reducible assumption | (exact rfl) | (exact sub_trans hT rfl)
    | (with_reducible show _ &&& ~~~(fieldMask _) = _; exact mask_full _ rfl) | with_reducible apply ok_set
    | with_reducible apply ok_setReg | with_reducible apply ok_hluRefuse | split | dsimp only)

theorem ok_execThmLimitsWrite (src : Src) (v : Word) {s : State} (hOk : Ok T0 S0 s)
    (hT : Within 0x2000012000000000000000000000000000000000000000000000000000000000000000030 T0 := by first | with_reducible assumption | exact sub_trans hT rfl) : ∃ sNext, execThmLimitsWrite src v s = .next sNext ∧ Ok T0 S0 sNext := by
  unfold execThmLimitsWrite
  refine ⟨_, rfl, ?_⟩
  repeat' (first
    | with_reducible assumption | (exact sub_trans hT rfl) | with_reducible apply ok_limitsWrite | split | dsimp only)

theorem ok_privCtlWrite {s : State} (v : Word) (hOk : Ok T0 S0 s)
    (hT : Within 0x8000000000000000000000000000000000000000000000000000000000000000000 T0 := by first | with_reducible assumption | exact sub_trans hT rfl) : Ok T0 S0 (State.privCtlWrite s v) := by
  unfold State.privCtlWrite
  repeat' (first
    | with_reducible assumption | (exact rfl) | (exact sub_trans hT rfl) | with_reducible apply ok_set | dsimp only)

/-! ### RegRead -/

theorem ok_readOut {s : State} (r : Reg) (i : Nat) (hOk : Ok T0 S0 s)
    (hT : Within 0x2 T0 := by first | with_reducible assumption | exact sub_trans hT rfl) : Ok T0 S0 (State.readOut s r i).2 := by
  unfold State.readOut
  repeat' (first
    | with_reducible assumption | (exact sub_trans hT rfl) | with_reducible apply ok_fresh | split | dsimp only)

theorem ok_readOuts {s : State} (l : List (Reg × Nat)) (hOk : Ok T0 S0 s)
    (hT : Within 0x2 T0 := by first | with_reducible assumption | exact sub_trans hT rfl) : Ok T0 S0 (s.readOuts l).2 := by
  induction l generalizing s with
  | nil => exact hOk
  | cons x l ih => exact ih (ok_readOut _ _ hOk)

theorem ok_latchHi {s : State} (r : Reg) (i : Nat) (hOk : Ok T0 S0 s)
    (hT : Within 0x280000000000000000000000000a800000000002000000000000000000000000000000 T0 := by first | with_reducible assumption | exact sub_trans hT rfl) : Ok T0 S0 (s.latchHi r i) := by
  unfold State.latchHi State.wideCount
  cases r <;> first | exact hOk | exact ok_setReg (mask_full _ rfl) hOk (by dsimp only; exact sub_trans hT rfl)

theorem ok_execReadingLoLatchesHi (src : Src) (r : Reg) (i : Nat) {s : State} (hOk : Ok T0 S0 s)
    (hT : Within 0x280000000000000000000000000a800000000002000000000000000000000000000000 T0 := by first | with_reducible assumption | exact sub_trans hT rfl) : ∃ sNext, execReadingLoLatchesHi src r i s = .next sNext ∧ Ok T0 S0 sNext := by
  unfold execReadingLoLatchesHi
  refine ⟨_, rfl, ?_⟩
  repeat' (first
    | with_reducible assumption | (exact sub_trans hT rfl) | with_reducible apply ok_latchHi | split | dsimp only)

end Sys2Proof.Machine
end

