-- ==== Sys2Proof/Laws/KeepDevice.lean ====
section
/-!
SUPPORT. The queue and the register file are kept (Laws/Keep.lean) by what catalogue commands, the boot, the floor-die reset, the TAP and register writes do: one lemma for each
operation and each command.
-/

set_option Elab.async false
set_option linter.unusedTactic false
set_option linter.unusedVariables false
set_option linter.unreachableTactic false

namespace Sys2Proof.Machine

variable {T0 : Nat} {S0 : State}

/-! ### Catalogue -/

theorem ok_badArg {s : State} (e : MbCmd) (hOk : Ok T0 S0 s)
    (hT : Within 0x10000000000000000000000000000000000000000000000000000000000000020080084 T0 := by first | with_reducible assumption | exact sub_trans hT rfl) : Ok T0 S0 (State.badArg s e) := by
  unfold State.badArg
  repeat' (first
    | with_reducible assumption | (exact sub_trans hT rfl) | with_reducible apply ok_err | dsimp only)

theorem ok_execDevInfo (mb : Nat) {s : State} (hOk : Ok T0 S0 s)
    (hT : Within 0x10000000000000000000000000000000000000000000000000000000000000020080084 T0 := by first | with_reducible assumption | exact sub_trans hT rfl) : ∃ sNext, execDevInfo mb s = .next sNext ∧ Ok T0 S0 sNext := by
  unfold execDevInfo
  refine ⟨_, rfl, ?_⟩
  repeat' (first
    | with_reducible assumption | (exact sub_trans hT rfl) | with_reducible apply ok_ok
    | with_reducible apply ok_command | (with_reducible apply ok_foldl; intro _ _ _; beta_reduce) | (intro _)
    | dsimp only)

theorem ok_execDevTime (mb : Nat) {s : State} (hOk : Ok T0 S0 s)
    (hT : Within 0x10000000000000000000000000000000000000000000000000000000000000020080084 T0 := by first | with_reducible assumption | exact sub_trans hT rfl) : ∃ sNext, execDevTime mb s = .next sNext ∧ Ok T0 S0 sNext := by
  unfold execDevTime
  refine ⟨_, rfl, ?_⟩
  repeat' (first
    | with_reducible assumption | (exact rfl) | (exact sub_trans hT rfl) | with_reducible apply ok_ok
    | with_reducible apply ok_command | (with_reducible apply ok_foldl; intro _ _ _; beta_reduce) | (intro _)
    | dsimp only)

theorem ok_otpStep {s : State} (e : MbCmd) (vpp : Bool) (hOk : Ok T0 S0 s)
    (hT : Within 0x10000000000000000000000000000000000000000000000000000000000000020180084 T0 := by first | with_reducible assumption | exact sub_trans hT rfl) : Ok T0 S0 (State.otpStep s e vpp) := by
  unfold State.otpStep
  repeat' (first
    | with_reducible assumption | (exact sub_trans hT rfl) | with_reducible apply ok_startTimer
    | with_reducible apply ok_ok | with_reducible apply ok_badArg
    | (fail_if_no_progress (with_reducible refine ok_with ?_ ..)) | split | dsimp only)

theorem ok_execOtpStep (mb : Nat) (vpp : Bool) {s : State} (hOk : Ok T0 S0 s)
    (hT : Within 0x10000000000000000000000000000000000000000000000000000000000000020180084 T0 := by first | with_reducible assumption | exact sub_trans hT rfl) : ∃ sNext, execOtpStep mb vpp s = .next sNext ∧ Ok T0 S0 sNext := by
  unfold execOtpStep
  refine ⟨_, rfl, ?_⟩
  repeat' (first
    | with_reducible assumption | (exact sub_trans hT rfl) | with_reducible apply ok_command
    | with_reducible apply ok_otpStep | (with_reducible apply ok_foldl; intro _ _ _; beta_reduce) | (intro _)
    | dsimp only)

theorem ok_execOtpStepTimeout {s : State} (hOk : Ok T0 S0 s)
    (hT : Within 0x100000 T0 := by first | with_reducible assumption | exact sub_trans hT rfl) : ∃ sNext, execOtpStepTimeout s = .next sNext ∧ Ok T0 S0 sNext := by
  unfold execOtpStepTimeout
  refine ⟨_, rfl, ?_⟩
  repeat' (first
    | with_reducible assumption | (exact sub_trans hT rfl)
    | (fail_if_no_progress (with_reducible refine ok_with ?_ ..)) | split | dsimp only)

theorem ok_otpBoard {s : State} (e : MbCmd) (vpp : Bool) (hOk : Ok T0 S0 s)
    (hT : Within 0x10000000000000000000000000000000000000000000000000000000000000020080284 T0 := by first | with_reducible assumption | exact sub_trans hT rfl) : Ok T0 S0 (State.otpBoard s e vpp) := by
  unfold State.otpBoard
  repeat' (first
    | with_reducible assumption | (exact sub_trans hT rfl) | with_reducible apply ok_ok | with_reducible apply ok_err
    | (fail_if_no_progress (with_reducible refine ok_with ?_ ..)) | split | dsimp only)

theorem ok_execOtpBoard (mb : Nat) (vpp : Bool) {s : State} (hOk : Ok T0 S0 s)
    (hT : Within 0x10000000000000000000000000000000000000000000000000000000000000020080284 T0 := by first | with_reducible assumption | exact sub_trans hT rfl) : ∃ sNext, execOtpBoard mb vpp s = .next sNext ∧ Ok T0 S0 sNext := by
  unfold execOtpBoard
  refine ⟨_, rfl, ?_⟩
  repeat' (first
    | with_reducible assumption | (exact sub_trans hT rfl) | with_reducible apply ok_command
    | with_reducible apply ok_otpBoard | (with_reducible apply ok_foldl; intro _ _ _; beta_reduce) | (intro _)
    | dsimp only)

theorem ok_benchAssign {s : State} (e : MbCmd) (hOk : Ok T0 S0 s)
    (hT : Within 0x1000000000000000000000000000000008000000000000000000000000000002008008c T0 := by first | with_reducible assumption | exact sub_trans hT rfl) : Ok T0 S0 (State.benchAssign s e) := by
  unfold State.benchAssign
  repeat' (first
    | with_reducible assumption | (exact sub_trans hT rfl) | with_reducible apply ok_ok | with_reducible apply ok_err
    | with_reducible apply ok_assignWrite | with_reducible apply ok_badArg | split | dsimp only)

theorem ok_execBenchAssign (mb : Nat) {s : State} (hOk : Ok T0 S0 s)
    (hT : Within 0x1000000000000000000000000000000008000000000000000000000000000002008008c T0 := by first | with_reducible assumption | exact sub_trans hT rfl) : ∃ sNext, execBenchAssign mb s = .next sNext ∧ Ok T0 S0 sNext := by
  unfold execBenchAssign
  refine ⟨_, rfl, ?_⟩
  repeat' (first
    | with_reducible assumption | (exact sub_trans hT rfl) | with_reducible apply ok_command
    | with_reducible apply ok_benchAssign | (with_reducible apply ok_foldl; intro _ _ _; beta_reduce) | (intro _)
    | dsimp only)

theorem ok_gangFormCmd {s : State} (e : MbCmd) (hOk : Ok T0 S0 s)
    (hT : Within 0x10000000000000000000000000000000300000000000000000000000000000020080184 T0 := by first | with_reducible assumption | exact sub_trans hT rfl) : Ok T0 S0 (State.gangFormCmd s e) := by
  unfold State.gangFormCmd
  repeat' (first
    | with_reducible assumption | (exact sub_trans hT rfl) | with_reducible apply ok_ok | with_reducible apply ok_err
    | with_reducible apply ok_gangCmdWrite | with_reducible apply ok_badArg | split | dsimp only)

theorem ok_execGangFormCmd (mb : Nat) {s : State} (hOk : Ok T0 S0 s)
    (hT : Within 0x10000000000000000000000000000000300000000000000000000000000000020080184 T0 := by first | with_reducible assumption | exact sub_trans hT rfl) : ∃ sNext, execGangFormCmd mb s = .next sNext ∧ Ok T0 S0 sNext := by
  unfold execGangFormCmd
  refine ⟨_, rfl, ?_⟩
  repeat' (first
    | with_reducible assumption | (exact sub_trans hT rfl) | with_reducible apply ok_command
    | with_reducible apply ok_gangFormCmd | (with_reducible apply ok_foldl; intro _ _ _; beta_reduce) | (intro _)
    | dsimp only)

theorem ok_gangDissolveCmd {s : State} (e : MbCmd) (hOk : Ok T0 S0 s)
    (hT : Within 0x10000000000000000000000000000000300000000000000000000000000000020080184 T0 := by first | with_reducible assumption | exact sub_trans hT rfl) : Ok T0 S0 (State.gangDissolveCmd s e) := by
  unfold State.gangDissolveCmd
  repeat' (first
    | with_reducible assumption | (exact sub_trans hT rfl) | with_reducible apply ok_ok | with_reducible apply ok_err
    | with_reducible apply ok_gangCmdWrite | with_reducible apply ok_badArg | split | dsimp only)

theorem ok_execGangDissolveCmd (mb : Nat) {s : State} (hOk : Ok T0 S0 s)
    (hT : Within 0x10000000000000000000000000000000300000000000000000000000000000020080184 T0 := by first | with_reducible assumption | exact sub_trans hT rfl) : ∃ sNext, execGangDissolveCmd mb s = .next sNext ∧ Ok T0 S0 sNext := by
  unfold execGangDissolveCmd
  refine ⟨_, rfl, ?_⟩
  repeat' (first
    | with_reducible assumption | (exact sub_trans hT rfl) | with_reducible apply ok_command
    | with_reducible apply ok_gangDissolveCmd | (with_reducible apply ok_foldl; intro _ _ _; beta_reduce) | (intro _)
    | dsimp only)

theorem ok_mfenceSet {s : State} (e : MbCmd) (hOk : Ok T0 S0 s)
    (hT : Within 0x10000000000000000000000000000020400000000000000000000000000000020080084 T0 := by first | with_reducible assumption | exact sub_trans hT rfl) : Ok T0 S0 (State.mfenceSet s e) := by
  unfold State.mfenceSet
  repeat' (first
    | with_reducible assumption | (exact rfl) | (exact sub_trans hT rfl) | with_reducible apply ok_set
    | with_reducible apply ok_ok | with_reducible apply ok_err | with_reducible apply ok_mfenceWrite
    | with_reducible apply ok_badArg | (fail_if_no_progress (with_reducible refine ok_with ?_ ..))
    | (with_reducible apply ok_foldl; intro _ _ _; beta_reduce) | (intro _) | split | dsimp only)

theorem ok_execMfenceSet (mb : Nat) {s : State} (hOk : Ok T0 S0 s)
    (hT : Within 0x10000000000000000000000000000020400000000000000000000000000000020080084 T0 := by first | with_reducible assumption | exact sub_trans hT rfl) : ∃ sNext, execMfenceSet mb s = .next sNext ∧ Ok T0 S0 sNext := by
  unfold execMfenceSet
  refine ⟨_, rfl, ?_⟩
  repeat' (first
    | with_reducible assumption | (exact sub_trans hT rfl) | with_reducible apply ok_command
    | with_reducible apply ok_mfenceSet | (with_reducible apply ok_foldl; intro _ _ _; beta_reduce) | (intro _)
    | dsimp only)

theorem ok_hwinSet {s : State} (e : MbCmd) (hOk : Ok T0 S0 s)
    (hT : Within 0x10000000000000000000000000000021800000000000000000000000000000020080184 T0 := by first | with_reducible assumption | exact sub_trans hT rfl) : Ok T0 S0 (State.hwinSet s e) := by
  unfold State.hwinSet
  repeat' (first
    | with_reducible assumption | (exact rfl) | (exact sub_trans hT rfl) | with_reducible apply ok_plainWrite
    | with_reducible apply ok_set | with_reducible apply ok_ok | with_reducible apply ok_err
    | with_reducible apply ok_hwinWrite | with_reducible apply ok_badArg | split | dsimp only)

theorem ok_execHwinSet (mb : Nat) {s : State} (hOk : Ok T0 S0 s)
    (hT : Within 0x10000000000000000000000000000021800000000000000000000000000000020080184 T0 := by first | with_reducible assumption | exact sub_trans hT rfl) : ∃ sNext, execHwinSet mb s = .next sNext ∧ Ok T0 S0 sNext := by
  unfold execHwinSet
  refine ⟨_, rfl, ?_⟩
  repeat' (first
    | with_reducible assumption | (exact sub_trans hT rfl) | with_reducible apply ok_command
    | with_reducible apply ok_hwinSet | (with_reducible apply ok_foldl; intro _ _ _; beta_reduce) | (intro _)
    | dsimp only)

theorem ok_laneFenceSet {s : State} (e : MbCmd) (hOk : Ok T0 S0 s)
    (hT : Within 0x1000000000000000000000000000003e000000000000000000000000000000020080084 T0 := by first | with_reducible assumption | exact sub_trans hT rfl) : Ok T0 S0 (State.laneFenceSet s e) := by
  unfold State.laneFenceSet
  repeat' (first
    | with_reducible assumption | (exact rfl) | (exact sub_trans hT rfl) | with_reducible apply ok_set
    | with_reducible apply ok_ok | with_reducible apply ok_err | with_reducible apply ok_laneMaskWrite
    | with_reducible apply ok_badArg | (fail_if_no_progress (with_reducible refine ok_with ?_ ..)) | split
    | dsimp only)

theorem ok_execLaneFence (mb : Nat) {s : State} (hOk : Ok T0 S0 s)
    (hT : Within 0x1000000000000000000000000000003e000000000000000000000000000000020080084 T0 := by first | with_reducible assumption | exact sub_trans hT rfl) : ∃ sNext, execLaneFence mb s = .next sNext ∧ Ok T0 S0 sNext := by
  unfold execLaneFence
  refine ⟨_, rfl, ?_⟩
  repeat' (first
    | with_reducible assumption | (exact sub_trans hT rfl) | with_reducible apply ok_command
    | with_reducible apply ok_laneFenceSet | (with_reducible apply ok_foldl; intro _ _ _; beta_reduce) | (intro _)
    | dsimp only)

theorem ok_wbSet {s : State} (e : MbCmd) (hOk : Ok T0 S0 s)
    (hT : Within 0x10000000000000000000000000000100000000000000000000000000000000020080184 T0 := by first | with_reducible assumption | exact sub_trans hT rfl) : Ok T0 S0 (State.wbSet s e) := by
  unfold State.wbSet
  repeat' (first
    | with_reducible assumption | (exact sub_trans hT rfl) | with_reducible apply ok_ok
    | with_reducible apply ok_wbCtlWrite | with_reducible apply ok_badArg | split | dsimp only)

theorem ok_execWbSet (mb : Nat) {s : State} (hOk : Ok T0 S0 s)
    (hT : Within 0x10000000000000000000000000000100000000000000000000000000000000020080184 T0 := by first | with_reducible assumption | exact sub_trans hT rfl) : ∃ sNext, execWbSet mb s = .next sNext ∧ Ok T0 S0 sNext := by
  unfold execWbSet
  refine ⟨_, rfl, ?_⟩
  repeat' (first
    | with_reducible assumption | (exact sub_trans hT rfl) | with_reducible apply ok_command
    | with_reducible apply ok_wbSet | (with_reducible apply ok_foldl; intro _ _ _; beta_reduce) | (intro _)
    | dsimp only)

theorem ok_pcapSet {s : State} (e : MbCmd) (hOk : Ok T0 S0 s)
    (hT : Within 0x20100000000000000000000000000000400000000000000000000000000000000200800b4 T0 := by first | with_reducible assumption | exact sub_trans hT rfl) : Ok T0 S0 (State.pcapSet s e) := by
  unfold State.pcapSet
  repeat' (first
    | with_reducible assumption | (exact rfl) | (exact sub_trans hT rfl) | with_reducible apply ok_hluRefuse
    | with_reducible apply ok_ok | with_reducible apply ok_err | with_reducible apply ok_pcapWrite
    | with_reducible apply ok_badArg | split | dsimp only)

theorem ok_execPcapSet (mb : Nat) {s : State} (hOk : Ok T0 S0 s)
    (hT : Within 0x20100000000000000000000000000000400000000000000000000000000000000200800b4 T0 := by first | with_reducible assumption | exact sub_trans hT rfl) : ∃ sNext, execPcapSet mb s = .next sNext ∧ Ok T0 S0 sNext := by
  unfold execPcapSet
  refine ⟨_, rfl, ?_⟩
  repeat' (first
    | with_reducible assumption | (exact sub_trans hT rfl) | with_reducible apply ok_command
    | with_reducible apply ok_pcapSet | (with_reducible apply ok_foldl; intro _ _ _; beta_reduce) | (intro _)
    | dsimp only)

theorem ok_hopperSet {s : State} (e : MbCmd) (hOk : Ok T0 S0 s)
    (hT : Within 0x10000000000000000000000000000000000000000000020500000000000000030080084 T0 := by first | with_reducible assumption | exact sub_trans hT rfl) : Ok T0 S0 (State.hopperSet s e) := by
  unfold State.hopperSet
  repeat' (first
    | with_reducible assumption | (exact sub_trans hT rfl) | with_reducible apply ok_ok | with_reducible apply ok_err
    | with_reducible apply ok_hopCfgWrite | with_reducible apply ok_hopOwnerWrite | with_reducible apply ok_badArg
    | split | dsimp only)

theorem ok_execHopperSet (mb : Nat) {s : State} (hOk : Ok T0 S0 s)
    (hT : Within 0x10000000000000000000000000000000000000000000020500000000000000030080084 T0 := by first | with_reducible assumption | exact sub_trans hT rfl) : ∃ sNext, execHopperSet mb s = .next sNext ∧ Ok T0 S0 sNext := by
  unfold execHopperSet
  refine ⟨_, rfl, ?_⟩
  repeat' (first
    | with_reducible assumption | (exact sub_trans hT rfl) | with_reducible apply ok_command
    | with_reducible apply ok_hopperSet | (with_reducible apply ok_foldl; intro _ _ _; beta_reduce) | (intro _)
    | dsimp only)

theorem ok_declWindow {s : State} (b j : Nat) (w : List Nat) (hOk : Ok T0 S0 s)
    (hT : Within 0x21800000000000000000000000000000000000100 T0 := by first | with_reducible assumption | exact sub_trans hT rfl) :
    Ok T0 S0 (s.declWindow b j w).1 := by
  unfold State.declWindow
  extract_lets a base hi s1
  split
  · exact ok_set rfl hOk
  · exact ok_hwinWrite _ _ (ok_plainWrite hOk)

theorem ok_declPort {s : State} (b : Nat) (w : List Nat) (hOk : Ok T0 S0 s)
    (hT : Within 0x100000000000000000000000000000000000000100 T0 := by first | with_reducible assumption | exact sub_trans hT rfl) : Ok T0 S0 (State.declPort s b w) := by
  unfold State.declPort
  repeat' (first
    | with_reducible assumption | (exact rfl) | (exact sub_trans hT rfl) | with_reducible apply ok_wbCtlWrite
    | (with_reducible apply ok_foldl; intro _ _ _; beta_reduce) | (intro _) | split | dsimp only)

theorem ok_declLane {s : State} (b : Nat) (w : List Nat) (hOk : Ok T0 S0 s)
    (hT : Within 0x3e000000000000000000000000000000000000000 T0 := by first | with_reducible assumption | exact sub_trans hT rfl) : Ok T0 S0 (State.declLane s b w).1 := by
  unfold State.declLane
  repeat' (first
    | with_reducible assumption | (exact rfl) | (with_reducible exact fb_laneMaskReg _ _ (sub_trans hT rfl))
    | (exact sub_trans hT rfl) | with_reducible apply ok_set | with_reducible apply ok_laneMaskWrite | split
    | dsimp only)

theorem ok_declHopper {s : State} (b : Nat) (p : Nat) (w : List Nat) (hOk : Ok T0 S0 s)
    (hT : Within 0x20500000000000000010000000 T0 := by first | with_reducible assumption | exact sub_trans hT rfl) : Ok T0 S0 (State.declHopper s b p w).1 := by
  unfold State.declHopper
  repeat' (first
    | with_reducible assumption | (exact sub_trans hT rfl) | with_reducible apply ok_hopCfgWrite
    | with_reducible apply ok_hopOwnerWrite | split | dsimp only)

theorem ok_declClock {s : State} (b : Nat) (p : Nat) (w : List Nat) (hOk : Ok T0 S0 s)
    (hT : Within 0x800400000000000000000000000000 T0 := by first | with_reducible assumption | exact sub_trans hT rfl) : Ok T0 S0 (State.declClock s b p w).1 := by
  unfold State.declClock
  repeat' (first
    | with_reducible assumption | (exact sub_trans hT rfl) | with_reducible apply ok_clkSrcWrite | split | dsimp only)

theorem ok_declApplyOne (b p : Nat) (clock haul lane : Bool) {r : DeclRun} (x : Nat × List Nat)
    (hOk : Ok T0 S0 r.st)
    (hT : Within 0x13fc00000000800420500000000000000010000100 T0 := by first | with_reducible assumption | exact sub_trans hT rfl) : Ok T0 S0 (declApplyOne b p clock haul lane r x).st := by
  unfold declApplyOne
  split
  · exact hOk
  · dsimp only
    split
    · exact ok_mfenceWrite _ _ hOk
    · exact ok_declHopper _ _ _ hOk
    · split
      · exact ok_declPort _ _ hOk
      · exact hOk
    · split
      · exact ok_declWindow _ _ _ hOk
      · exact hOk
    · split
      · exact ok_declLane _ _ hOk
      · exact hOk
    · split
      · exact ok_declClock _ _ _ hOk
      · exact hOk
    · exact hOk

theorem ok_declApply {s : State} (b p : Nat) (clock haul lane : Bool) (bs : List Byte) (hOk : Ok T0 S0 s)
    (hT : Within 0x13fc00000000800420500000000000000010000100 T0 := by first | with_reducible assumption | exact sub_trans hT rfl) :
    Ok T0 S0 (s.declApply b p clock haul lane bs).1 := by
  have hr : ∀ (l : List (Nat × List Nat)) (r : DeclRun), Ok T0 S0 r.st →
      Ok T0 S0 (l.foldl (declApplyOne b p clock haul lane) r).st := by
    intro l
    induction l with
    | nil => exact fun r h => h
    | cons x l ih => exact fun r h => ih _ (ok_declApplyOne _ _ _ _ _ _ h)
  unfold State.declApply
  split
  · exact hOk
  · dsimp only
    split
    · exact hr _ _ hOk
    · refine ok_foldl (fun s x h => ?_) (ok_foldl (fun s x h => ?_) (hr _ _ hOk))
      · split
        · exact h
        · exact ok_set rfl h
      · split
        · exact h
        · exact ok_set rfl h

theorem ok_declApplyCmd {s : State} (e : MbCmd) (hOk : Ok T0 S0 s)
    (hT : Within 0x1000000000000000000000000000013fc00000000800420500000000000000030080184 T0 := by first | with_reducible assumption | exact sub_trans hT rfl) : Ok T0 S0 (State.declApplyCmd s e) := by
  unfold State.declApplyCmd
  repeat' (first
    | with_reducible assumption | (exact sub_trans hT rfl) | with_reducible apply ok_ok | with_reducible apply ok_err
    | with_reducible apply ok_badArg | with_reducible apply ok_declApply | split | dsimp only)

theorem ok_execDeclApply (mb : Nat) {s : State} (hOk : Ok T0 S0 s)
    (hT : Within 0x1000000000000000000000000000013fc00000000800420500000000000000030080184 T0 := by first | with_reducible assumption | exact sub_trans hT rfl) : ∃ sNext, execDeclApply mb s = .next sNext ∧ Ok T0 S0 sNext := by
  unfold execDeclApply
  refine ⟨_, rfl, ?_⟩
  repeat' (first
    | with_reducible assumption | (exact sub_trans hT rfl) | with_reducible apply ok_command
    | with_reducible apply ok_declApplyCmd | (with_reducible apply ok_foldl; intro _ _ _; beta_reduce) | (intro _)
    | dsimp only)

theorem ok_benchStatus {s : State} (e : MbCmd) (hOk : Ok T0 S0 s)
    (hT : Within 0x10000000000000000000000000000000000000000000000000000000000000020080086 T0 := by first | with_reducible assumption | exact sub_trans hT rfl) : Ok T0 S0 (State.benchStatus s e) := by
  unfold State.benchStatus
  repeat' (first
    | with_reducible assumption | (exact sub_trans hT rfl) | with_reducible apply ok_ok | with_reducible apply ok_err
    | with_reducible apply ok_readOuts | with_reducible apply ok_badArg | split | dsimp only)

theorem ok_execBenchStatus (mb : Nat) {s : State} (hOk : Ok T0 S0 s)
    (hT : Within 0x10000000000000000000000000000000000000000000000000000000000000020080086 T0 := by first | with_reducible assumption | exact sub_trans hT rfl) : ∃ sNext, execBenchStatus mb s = .next sNext ∧ Ok T0 S0 sNext := by
  unfold execBenchStatus
  refine ⟨_, rfl, ?_⟩
  repeat' (first
    | with_reducible assumption | (exact sub_trans hT rfl) | with_reducible apply ok_command
    | with_reducible apply ok_benchStatus | (with_reducible apply ok_foldl; intro _ _ _; beta_reduce) | (intro _)
    | dsimp only)

/-! ### Commands -/

theorem ok_slotCopyCmd {s : State} (e : MbCmd) (hOk : Ok T0 S0 s)
    (hT : Within 0x10000000000000000000000000000000000020000000000000000000000000020081084 T0 := by first | with_reducible assumption | exact sub_trans hT rfl) : Ok T0 S0 (State.slotCopyCmd s e) := by
  unfold State.slotCopyCmd
  repeat' (first
    | with_reducible assumption | (exact sub_trans hT rfl) | with_reducible apply ok_ok | with_reducible apply ok_err
    | with_reducible apply ok_await | with_reducible apply ok_slotCopyStart
    | (fail_if_no_progress (with_reducible refine ok_with ?_ ..)) | split | dsimp only)

theorem ok_execSlotCopy (mb : Nat) {s : State} (hOk : Ok T0 S0 s)
    (hT : Within 0x10000000000000000000000000000000000020000000000000000000000000020081084 T0 := by first | with_reducible assumption | exact sub_trans hT rfl) : ∃ sNext, execSlotCopy mb s = .next sNext ∧ Ok T0 S0 sNext := by
  unfold execSlotCopy
  refine ⟨_, rfl, ?_⟩
  repeat' (first
    | with_reducible assumption | (exact sub_trans hT rfl) | with_reducible apply ok_command
    | with_reducible apply ok_slotCopyCmd | (with_reducible apply ok_foldl; intro _ _ _; beta_reduce) | (intro _)
    | dsimp only)

theorem ok_slotOwnerCmd {s : State} (e : MbCmd) (hOk : Ok T0 S0 s)
    (hT : Within 0x10000000000000000000000000000000000060000000000000000000000000020081884 T0 := by first | with_reducible assumption | exact sub_trans hT rfl) : Ok T0 S0 (State.slotOwnerCmd s e) := by
  unfold State.slotOwnerCmd
  repeat' (first
    | with_reducible assumption | (exact sub_trans hT rfl) | with_reducible apply ok_ok | with_reducible apply ok_err
    | with_reducible apply ok_slotOwnerWrite | with_reducible apply ok_badArg | split | dsimp only)

theorem ok_execSlotOwner (mb : Nat) {s : State} (hOk : Ok T0 S0 s)
    (hT : Within 0x10000000000000000000000000000000000060000000000000000000000000020081884 T0 := by first | with_reducible assumption | exact sub_trans hT rfl) : ∃ sNext, execSlotOwner mb s = .next sNext ∧ Ok T0 S0 sNext := by
  unfold execSlotOwner
  refine ⟨_, rfl, ?_⟩
  repeat' (first
    | with_reducible assumption | (exact sub_trans hT rfl) | with_reducible apply ok_command
    | with_reducible apply ok_slotOwnerCmd | (with_reducible apply ok_foldl; intro _ _ _; beta_reduce) | (intro _)
    | dsimp only)

theorem ok_slotReleaseCmd {s : State} (e : MbCmd) (hOk : Ok T0 S0 s)
    (hT : Within 0x10000000000000000000000000000000000020000000000000000000000000020081884 T0 := by first | with_reducible assumption | exact sub_trans hT rfl) : Ok T0 S0 (State.slotReleaseCmd s e) := by
  unfold State.slotReleaseCmd
  repeat' (first
    | with_reducible assumption | (exact sub_trans hT rfl) | with_reducible apply ok_ok | with_reducible apply ok_err
    | with_reducible apply ok_slotRelease | with_reducible apply ok_badArg
    | (fail_if_no_progress (with_reducible refine ok_with ?_ ..)) | split | dsimp only)

theorem ok_execSlotRelease (mb : Nat) {s : State} (hOk : Ok T0 S0 s)
    (hT : Within 0x10000000000000000000000000000000000020000000000000000000000000020081884 T0 := by first | with_reducible assumption | exact sub_trans hT rfl) : ∃ sNext, execSlotRelease mb s = .next sNext ∧ Ok T0 S0 sNext := by
  unfold execSlotRelease
  refine ⟨_, rfl, ?_⟩
  repeat' (first
    | with_reducible assumption | (exact sub_trans hT rfl) | with_reducible apply ok_command
    | with_reducible apply ok_slotReleaseCmd | (with_reducible apply ok_foldl; intro _ _ _; beta_reduce) | (intro _)
    | dsimp only)

theorem ok_slotListCmd {s : State} (e : MbCmd) (hOk : Ok T0 S0 s)
    (hT : Within 0x10000000000000000000000000000000000000000000000000000000000000020080084 T0 := by first | with_reducible assumption | exact sub_trans hT rfl) : Ok T0 S0 (State.slotListCmd s e) := by
  unfold State.slotListCmd
  repeat' (first
    | with_reducible assumption | (exact sub_trans hT rfl) | with_reducible apply ok_ok
    | with_reducible apply ok_badArg | (fail_if_no_progress (with_reducible refine ok_with ?_ ..)) | split
    | dsimp only)

theorem ok_execSlotList (mb : Nat) {s : State} (hOk : Ok T0 S0 s)
    (hT : Within 0x10000000000000000000000000000000000000000000000000000000000000020080084 T0 := by first | with_reducible assumption | exact sub_trans hT rfl) : ∃ sNext, execSlotList mb s = .next sNext ∧ Ok T0 S0 sNext := by
  unfold execSlotList
  refine ⟨_, rfl, ?_⟩
  repeat' (first
    | with_reducible assumption | (exact sub_trans hT rfl) | with_reducible apply ok_command
    | with_reducible apply ok_slotListCmd | (with_reducible apply ok_foldl; intro _ _ _; beta_reduce) | (intro _)
    | dsimp only)

theorem ok_scrubSet {s : State} (e : MbCmd) (ok : Bool) (hOk : Ok T0 S0 s)
    (hT : Within 0x10000000000000000000000000000000000000000000000000000000000000020480284 T0 := by first | with_reducible assumption | exact sub_trans hT rfl) : Ok T0 S0 (State.scrubSet s e ok) := by
  unfold State.scrubSet
  repeat' (first
    | with_reducible assumption | (exact sub_trans hT rfl) | with_reducible apply ok_ok | with_reducible apply ok_err
    | with_reducible apply ok_badArg | (fail_if_no_progress (with_reducible refine ok_with ?_ ..)) | split
    | dsimp only)

theorem ok_execScrubSet (mb : Nat) (ok : Bool) {s : State} (hOk : Ok T0 S0 s)
    (hT : Within 0x10000000000000000000000000000000000000000000000000000000000000020480284 T0 := by first | with_reducible assumption | exact sub_trans hT rfl) : ∃ sNext, execScrubSet mb ok s = .next sNext ∧ Ok T0 S0 sNext := by
  unfold execScrubSet
  refine ⟨_, rfl, ?_⟩
  repeat' (first
    | with_reducible assumption | (exact sub_trans hT rfl) | with_reducible apply ok_command
    | with_reducible apply ok_scrubSet | (with_reducible apply ok_foldl; intro _ _ _; beta_reduce) | (intro _)
    | dsimp only)

theorem ok_octetCfgCmd {s : State} (e : MbCmd) (hOk : Ok T0 S0 s)
    (hT : Within 0x201000000000b4020000000000000000000000000000000000000000000000000220800bc T0 := by first | with_reducible assumption | exact sub_trans hT rfl) : Ok T0 S0 (State.octetCfgCmd s e) := by
  unfold State.octetCfgCmd
  repeat' (first
    | with_reducible assumption | (exact sub_trans hT rfl) | with_reducible apply ok_ok | with_reducible apply ok_err
    | with_reducible apply ok_octCfgWrite | with_reducible apply ok_badArg
    | (fail_if_no_progress (with_reducible refine ok_with ?_ ..)) | split | dsimp only)

theorem ok_execOctetCfg (mb : Nat) {s : State} (hOk : Ok T0 S0 s)
    (hT : Within 0x201000000000b4020000000000000000000000000000000000000000000000000220800bc T0 := by first | with_reducible assumption | exact sub_trans hT rfl) : ∃ sNext, execOctetCfg mb s = .next sNext ∧ Ok T0 S0 sNext := by
  unfold execOctetCfg
  refine ⟨_, rfl, ?_⟩
  repeat' (first
    | with_reducible assumption | (exact sub_trans hT rfl) | with_reducible apply ok_command
    | with_reducible apply ok_octetCfgCmd | (with_reducible apply ok_foldl; intro _ _ _; beta_reduce) | (intro _)
    | dsimp only)

theorem ok_laneStatusCmd {s : State} (e : MbCmd) (hOk : Ok T0 S0 s)
    (hT : Within 0x10000000000c12000000000000000000000000000000000000000000000000020080086 T0 := by first | with_reducible assumption | exact sub_trans hT rfl) : Ok T0 S0 (State.laneStatusCmd s e) := by
  unfold State.laneStatusCmd
  repeat' (first
    | with_reducible assumption | (exact sub_trans hT rfl) | with_reducible apply ok_ok | with_reducible apply ok_err
    | with_reducible apply ok_readOuts | with_reducible apply ok_badArg | split | dsimp only)

theorem ok_execLaneStatus (mb : Nat) {s : State} (hOk : Ok T0 S0 s)
    (hT : Within 0x10000000000c12000000000000000000000000000000000000000000000000020080086 T0 := by first | with_reducible assumption | exact sub_trans hT rfl) : ∃ sNext, execLaneStatus mb s = .next sNext ∧ Ok T0 S0 sNext := by
  unfold execLaneStatus
  refine ⟨_, rfl, ?_⟩
  repeat' (first
    | with_reducible assumption | (exact sub_trans hT rfl) | with_reducible apply ok_command
    | with_reducible apply ok_laneStatusCmd | (with_reducible apply ok_foldl; intro _ _ _; beta_reduce) | (intro _)
    | dsimp only)

theorem ok_laneRestartCmd {s : State} (e : MbCmd) (hOk : Ok T0 S0 s)
    (hT : Within 0x1000000000840300000000000000000000000000000000000000000000000002208009c T0 := by first | with_reducible assumption | exact sub_trans hT rfl) : Ok T0 S0 (State.laneRestartCmd s e) := by
  unfold State.laneRestartCmd
  repeat' (first
    | with_reducible assumption | (exact sub_trans hT rfl) | with_reducible apply ok_ok
    | with_reducible apply ok_laneCtlWrite | with_reducible apply ok_badArg | split | dsimp only)

theorem ok_execLaneRestartCmd (mb : Nat) {s : State} (hOk : Ok T0 S0 s)
    (hT : Within 0x1000000000840300000000000000000000000000000000000000000000000002208009c T0 := by first | with_reducible assumption | exact sub_trans hT rfl) : ∃ sNext, execLaneRestartCmd mb s = .next sNext ∧ Ok T0 S0 sNext := by
  unfold execLaneRestartCmd
  refine ⟨_, rfl, ?_⟩
  repeat' (first
    | with_reducible assumption | (exact sub_trans hT rfl) | with_reducible apply ok_command
    | with_reducible apply ok_laneRestartCmd | (with_reducible apply ok_foldl; intro _ _ _; beta_reduce) | (intro _)
    | dsimp only)

theorem ok_domainSet {s : State} (e : MbCmd) (hOk : Ok T0 S0 s)
    (hT : Within 0x100000800000000000000000000000000000000000000000000000000000000210a009c T0 := by first | with_reducible assumption | exact sub_trans hT rfl) : Ok T0 S0 (State.domainSet s e) := by
  unfold State.domainSet
  repeat' (first
    | with_reducible assumption | (exact rfl) | (exact sub_trans hT rfl) | with_reducible apply ok_ok
    | with_reducible apply ok_err | with_reducible apply ok_await | with_reducible apply ok_pwrRequest
    | with_reducible apply ok_badArg | split | dsimp only)

theorem ok_execDomainSet (mb : Nat) {s : State} (hOk : Ok T0 S0 s)
    (hT : Within 0x100000800000000000000000000000000000000000000000000000000000000210a009c T0 := by first | with_reducible assumption | exact sub_trans hT rfl) : ∃ sNext, execDomainSet mb s = .next sNext ∧ Ok T0 S0 sNext := by
  unfold execDomainSet
  refine ⟨_, rfl, ?_⟩
  repeat' (first
    | with_reducible assumption | (exact sub_trans hT rfl) | with_reducible apply ok_command
    | with_reducible apply ok_domainSet | (with_reducible apply ok_foldl; intro _ _ _; beta_reduce) | (intro _)
    | dsimp only)

theorem ok_execDomainList (mb : Nat) {s : State} (hOk : Ok T0 S0 s)
    (hT : Within 0x10000080000000000000000000000000000000000000000000000000000000020080086 T0 := by first | with_reducible assumption | exact sub_trans hT rfl) : ∃ sNext, execDomainList mb s = .next sNext ∧ Ok T0 S0 sNext := by
  unfold execDomainList
  refine ⟨_, rfl, ?_⟩
  repeat' (first
    | with_reducible assumption | (exact sub_trans hT rfl) | with_reducible apply ok_ok
    | with_reducible apply ok_command | with_reducible apply ok_readOuts
    | (with_reducible apply ok_foldl; intro _ _ _; beta_reduce) | (intro _) | dsimp only)

theorem ok_thmSet {s : State} (e : MbCmd) (hOk : Ok T0 S0 s)
    (hT : Within 0x201001e0000000000000000000000000000000000000000000000000000000000200800b4 T0 := by first | with_reducible assumption | exact sub_trans hT rfl) : Ok T0 S0 (State.thmSet s e) := by
  unfold State.thmSet
  repeat' (first
    | with_reducible assumption | (exact rfl) | (exact sub_trans hT rfl) | with_reducible apply ok_plainWrite
    | with_reducible apply ok_ok | with_reducible apply ok_err | with_reducible apply ok_limitsWrite
    | with_reducible apply ok_privCtlWrite | split | dsimp only)

theorem ok_execThmSet (mb : Nat) {s : State} (hOk : Ok T0 S0 s)
    (hT : Within 0x201001e0000000000000000000000000000000000000000000000000000000000200800b4 T0 := by first | with_reducible assumption | exact sub_trans hT rfl) : ∃ sNext, execThmSet mb s = .next sNext ∧ Ok T0 S0 sNext := by
  unfold execThmSet
  refine ⟨_, rfl, ?_⟩
  repeat' (first
    | with_reducible assumption | (exact sub_trans hT rfl) | with_reducible apply ok_command
    | with_reducible apply ok_thmSet | (with_reducible apply ok_foldl; intro _ _ _; beta_reduce) | (intro _)
    | dsimp only)

theorem ok_telemetry {s : State} (hOk : Ok T0 S0 s)
    (hT : Within 0x330000000000000000000000000000000000000000000000000000000000000000002 T0 := by first | with_reducible assumption | exact sub_trans hT rfl) : Ok T0 S0 (State.telemetry s).2 := by
  unfold State.telemetry
  repeat' (first
    | with_reducible assumption | (exact rfl) | (exact sub_trans hT rfl) | with_reducible apply ok_readOuts | split
    | dsimp only)

theorem ok_execTelemetry (mb : Nat) {s : State} (hOk : Ok T0 S0 s)
    (hT : Within 0x10330000000000000000000000000000000000000000000000000000000000020080086 T0 := by first | with_reducible assumption | exact sub_trans hT rfl) : ∃ sNext, execTelemetry mb s = .next sNext ∧ Ok T0 S0 sNext := by
  unfold execTelemetry
  refine ⟨_, rfl, ?_⟩
  repeat' (first
    | with_reducible assumption | (exact sub_trans hT rfl) | with_reducible apply ok_ok
    | with_reducible apply ok_command | with_reducible apply ok_telemetry
    | (with_reducible apply ok_foldl; intro _ _ _; beta_reduce) | (intro _) | dsimp only)

theorem ok_hluFwSet {s : State} (e : MbCmd) (hOk : Ok T0 S0 s)
    (hT : Within 0x180024100028200094420000000000000000400000000040000000000000000000000220800fc T0 := by first | with_reducible assumption | exact sub_trans hT rfl) : Ok T0 S0 (State.hluFwSet s e) := by
  unfold State.hluFwSet
  repeat' (first
    | with_reducible assumption | (exact sub_trans hT rfl) | with_reducible apply ok_ok | with_reducible apply ok_err
    | with_reducible apply ok_fwLayerWrite | with_reducible apply ok_badArg | split | dsimp only)

theorem ok_execHluFwSet (mb : Nat) {s : State} (hOk : Ok T0 S0 s)
    (hT : Within 0x180024100028200094420000000000000000400000000040000000000000000000000220800fc T0 := by first | with_reducible assumption | exact sub_trans hT rfl) : ∃ sNext, execHluFwSet mb s = .next sNext ∧ Ok T0 S0 sNext := by
  unfold execHluFwSet
  refine ⟨_, rfl, ?_⟩
  repeat' (first
    | with_reducible assumption | (exact sub_trans hT rfl) | with_reducible apply ok_command
    | with_reducible apply ok_hluFwSet | (with_reducible apply ok_foldl; intro _ _ _; beta_reduce) | (intro _)
    | dsimp only)

/-! ### Upkeep -/

theorem ok_calPut {s : State} (cls : Nat) (layer : Nat) (c : Nat) (i : Nat) (v : Nat) (hOk : Ok T0 S0 s)
    (hT : Within 0x1800000000000000000000000000000000000000000000000000000000008000040 T0 := by first | with_reducible assumption | exact sub_trans hT rfl) : Ok T0 S0 (State.calPut s cls layer c i v).1 := by
  unfold State.calPut
  repeat' (first
    | with_reducible assumption | (exact rfl) | (exact sub_trans hT rfl) | with_reducible apply ok_set
    | with_reducible apply ok_setCal | with_reducible apply ok_calWritten | with_reducible apply ok_setBackground
    | with_reducible apply ok_setUserOfs | with_reducible apply ok_siteClamp
    | (fail_if_no_progress (with_reducible refine ok_with ?_ ..)) | split | dsimp only)

theorem ok_calReadCmd {s : State} (e : MbCmd) (hOk : Ok T0 S0 s)
    (hT : Within 0x10000000000000000000000000000000000000000000000000000000000000020080084 T0 := by first | with_reducible assumption | exact sub_trans hT rfl) : Ok T0 S0 (State.calReadCmd s e) := by
  unfold State.calReadCmd
  repeat' (first
    | with_reducible assumption | (exact sub_trans hT rfl) | with_reducible apply ok_ok | with_reducible apply ok_err
    | (fail_if_no_progress (with_reducible refine ok_with ?_ ..)) | split | dsimp only)

theorem ok_execCalRead (mb : Nat) {s : State} (hOk : Ok T0 S0 s)
    (hT : Within 0x10000000000000000000000000000000000000000000000000000000000000020080084 T0 := by first | with_reducible assumption | exact sub_trans hT rfl) : ∃ sNext, execCalRead mb s = .next sNext ∧ Ok T0 S0 sNext := by
  unfold execCalRead
  refine ⟨_, rfl, ?_⟩
  repeat' (first
    | with_reducible assumption | (exact sub_trans hT rfl) | with_reducible apply ok_command
    | with_reducible apply ok_calReadCmd | (with_reducible apply ok_foldl; intro _ _ _; beta_reduce) | (intro _)
    | dsimp only)

theorem ok_calPutAll {s : State} (cls layer c i n : Nat) (l : List Byte) (hOk : Ok T0 S0 s)
    (hT : Within 0x1800000000000000000000000000000000000000000000000000000000008000040 T0 := by first | with_reducible assumption | exact sub_trans hT rfl) :
    Ok T0 S0 (s.calPutAll cls layer c i n l).1 := by
  induction l generalizing s i n with
  | nil => exact hOk
  | cons x l ih => exact ih _ _ (ok_calPut _ _ _ _ _ hOk)

theorem ok_calWriteCmd {s : State} (e : MbCmd) (hOk : Ok T0 S0 s)
    (hT : Within 0x100018000000000000000000000000000000000000000000000000000000000280800c4 T0 := by first | with_reducible assumption | exact sub_trans hT rfl) : Ok T0 S0 (State.calWriteCmd s e) := by
  unfold State.calWriteCmd
  repeat' (first
    | with_reducible assumption | (exact sub_trans hT rfl) | with_reducible apply ok_ok | with_reducible apply ok_err
    | with_reducible apply ok_calPutAll | (fail_if_no_progress (with_reducible refine ok_with ?_ ..)) | split
    | dsimp only)

theorem ok_execCalWrite (mb : Nat) {s : State} (hOk : Ok T0 S0 s)
    (hT : Within 0x100018000000000000000000000000000000000000000000000000000000000280800c4 T0 := by first | with_reducible assumption | exact sub_trans hT rfl) : ∃ sNext, execCalWrite mb s = .next sNext ∧ Ok T0 S0 sNext := by
  unfold execCalWrite
  refine ⟨_, rfl, ?_⟩
  repeat' (first
    | with_reducible assumption | (exact sub_trans hT rfl) | with_reducible apply ok_command
    | with_reducible apply ok_calWriteCmd | (with_reducible apply ok_foldl; intro _ _ _; beta_reduce) | (intro _)
    | dsimp only)

theorem ok_spoilRead {s : State} (e : MbCmd) (hOk : Ok T0 S0 s)
    (hT : Within 0x10000000000000000000000000000000000000000000000000000000000000020080084 T0 := by first | with_reducible assumption | exact sub_trans hT rfl) : Ok T0 S0 (State.spoilRead s e) := by
  unfold State.spoilRead
  repeat' (first
    | with_reducible assumption | (exact sub_trans hT rfl) | with_reducible apply ok_ok
    | with_reducible apply ok_badArg | split | dsimp only)

theorem ok_execSpoilRead (mb : Nat) {s : State} (hOk : Ok T0 S0 s)
    (hT : Within 0x10000000000000000000000000000000000000000000000000000000000000020080084 T0 := by first | with_reducible assumption | exact sub_trans hT rfl) : ∃ sNext, execSpoilRead mb s = .next sNext ∧ Ok T0 S0 sNext := by
  unfold execSpoilRead
  refine ⟨_, rfl, ?_⟩
  repeat' (first
    | with_reducible assumption | (exact sub_trans hT rfl) | with_reducible apply ok_command
    | with_reducible apply ok_spoilRead | (with_reducible apply ok_foldl; intro _ _ _; beta_reduce) | (intro _)
    | dsimp only)

theorem ok_spoilClear {s : State} (e : MbCmd) (ok : Bool) (hOk : Ok T0 S0 s)
    (hT : Within 0x10000000000000000000000000000000000000000000000000000000000000020080284 T0 := by first | with_reducible assumption | exact sub_trans hT rfl) : Ok T0 S0 (State.spoilClear s e ok) := by
  unfold State.spoilClear
  repeat' (first
    | with_reducible assumption | (exact sub_trans hT rfl) | with_reducible apply ok_ok | with_reducible apply ok_err
    | (fail_if_no_progress (with_reducible refine ok_with ?_ ..)) | split | dsimp only)

theorem ok_execSpoilClear (mb : Nat) (ok : Bool) {s : State} (hOk : Ok T0 S0 s)
    (hT : Within 0x10000000000000000000000000000000000000000000000000000000000000020080284 T0 := by first | with_reducible assumption | exact sub_trans hT rfl) : ∃ sNext, execSpoilClear mb ok s = .next sNext ∧ Ok T0 S0 sNext := by
  unfold execSpoilClear
  refine ⟨_, rfl, ?_⟩
  repeat' (first
    | with_reducible assumption | (exact sub_trans hT rfl) | with_reducible apply ok_command
    | with_reducible apply ok_spoilClear | (with_reducible apply ok_foldl; intro _ _ _; beta_reduce) | (intro _)
    | dsimp only)

theorem ok_routerRetire {s : State} (e : MbCmd) (hOk : Ok T0 S0 s)
    (hT : Within 0x1000000000000000000000002000000000000000000000000000000000000002009069c T0 := by first | with_reducible assumption | exact sub_trans hT rfl) : Ok T0 S0 (State.routerRetire s e) := by
  unfold State.routerRetire
  repeat' (first
    | with_reducible assumption | (exact rfl) | (exact sub_trans hT rfl) | with_reducible apply ok_ok
    | with_reducible apply ok_err | with_reducible apply ok_await | with_reducible apply ok_retireRouter
    | with_reducible apply ok_badArg | split | dsimp only)

theorem ok_execRouterRetire (mb : Nat) {s : State} (hOk : Ok T0 S0 s)
    (hT : Within 0x1000000000000000000000002000000000000000000000000000000000000002009069c T0 := by first | with_reducible assumption | exact sub_trans hT rfl) : ∃ sNext, execRouterRetire mb s = .next sNext ∧ Ok T0 S0 sNext := by
  unfold execRouterRetire
  refine ⟨_, rfl, ?_⟩
  repeat' (first
    | with_reducible assumption | (exact sub_trans hT rfl) | with_reducible apply ok_command
    | with_reducible apply ok_routerRetire | (with_reducible apply ok_foldl; intro _ _ _; beta_reduce) | (intro _)
    | dsimp only)

theorem ok_columnShift {s : State} (e : MbCmd) (hOk : Ok T0 S0 s)
    (hT : Within 0x10000000000000000420000100000000000000000017e00000000000000000034094ade T0 := by first | with_reducible assumption | exact sub_trans hT rfl) : Ok T0 S0 (State.columnShift s e) := by
  unfold State.columnShift
  repeat' (first
    | with_reducible assumption | (exact rfl) | (exact sub_trans hT rfl) | with_reducible apply ok_ok
    | with_reducible apply ok_err | with_reducible apply ok_await | with_reducible apply ok_columnFault
    | with_reducible apply ok_readOut | with_reducible apply ok_badArg | split | dsimp only)

theorem ok_execColumnShift (mb : Nat) {s : State} (hOk : Ok T0 S0 s)
    (hT : Within 0x10000000000000000420000100000000000000000017e00000000000000000034094ade T0 := by first | with_reducible assumption | exact sub_trans hT rfl) : ∃ sNext, execColumnShift mb s = .next sNext ∧ Ok T0 S0 sNext := by
  unfold execColumnShift
  refine ⟨_, rfl, ?_⟩
  repeat' (first
    | with_reducible assumption | (exact sub_trans hT rfl) | with_reducible apply ok_command
    | with_reducible apply ok_columnShift | (with_reducible apply ok_foldl; intro _ _ _; beta_reduce) | (intro _)
    | dsimp only)

theorem ok_wplCommand {s : State} (e : MbCmd) (hOk : Ok T0 S0 s)
    (hT : Within 0x10000000000000000000000000000000000000000000000000000000000000020080084 T0 := by first | with_reducible assumption | exact sub_trans hT rfl) : Ok T0 S0 (State.wplCommand s e) := by
  unfold State.wplCommand
  repeat' (first
    | with_reducible assumption | (exact sub_trans hT rfl) | with_reducible apply ok_finish | dsimp only)

theorem ok_execWplRingRead (mb : Nat) {s : State} (hOk : Ok T0 S0 s)
    (hT : Within 0x10000000000000000000000000000000000000000000000000000000000000020080084 T0 := by first | with_reducible assumption | exact sub_trans hT rfl) : ∃ sNext, execWplRingRead mb s = .next sNext ∧ Ok T0 S0 sNext := by
  unfold execWplRingRead
  refine ⟨_, rfl, ?_⟩
  repeat' (first
    | with_reducible assumption | (exact sub_trans hT rfl) | with_reducible apply ok_command
    | with_reducible apply ok_wplCommand | (with_reducible apply ok_foldl; intro _ _ _; beta_reduce) | (intro _)
    | dsimp only)

theorem ok_wplFreeze {s : State} (e : MbCmd) (hOk : Ok T0 S0 s)
    (hT : Within 0x10000000000000000000000000000000000000000000000000000000000000020080094 T0 := by first | with_reducible assumption | exact sub_trans hT rfl) : Ok T0 S0 (State.wplFreeze s e) := by
  unfold State.wplFreeze
  repeat' (first
    | with_reducible assumption | (exact sub_trans hT rfl) | with_reducible apply ok_hostFreeze
    | with_reducible apply ok_ok | with_reducible apply ok_err | with_reducible apply ok_await
    | (fail_if_no_progress (with_reducible refine ok_with ?_ ..)) | split | dsimp only)

theorem ok_execWplFreeze (mb : Nat) {s : State} (hOk : Ok T0 S0 s)
    (hT : Within 0x10000000000000000000000000000000000000000000000000000000000000020080094 T0 := by first | with_reducible assumption | exact sub_trans hT rfl) : ∃ sNext, execWplFreeze mb s = .next sNext ∧ Ok T0 S0 sNext := by
  unfold execWplFreeze
  refine ⟨_, rfl, ?_⟩
  repeat' (first
    | with_reducible assumption | (exact sub_trans hT rfl) | with_reducible apply ok_command
    | with_reducible apply ok_wplFreeze | (with_reducible apply ok_foldl; intro _ _ _; beta_reduce) | (intro _)
    | dsimp only)

theorem ok_execWplResume (mb : Nat) {s : State} (hOk : Ok T0 S0 s)
    (hT : Within 0x4010000000000000000000000000000000000000000000000000000000000000020080094 T0 := by first | with_reducible assumption | exact sub_trans hT rfl) : ∃ sNext, execWplResume mb s = .next sNext ∧ Ok T0 S0 sNext := by
  unfold execWplResume
  refine ⟨_, rfl, ?_⟩
  repeat' (first
    | with_reducible assumption | (exact sub_trans hT rfl) | with_reducible apply ok_wplResume
    | with_reducible apply ok_ok | with_reducible apply ok_command
    | (with_reducible apply ok_foldl; intro _ _ _; beta_reduce) | (intro _) | dsimp only)

theorem ok_execWplRecordList (mb : Nat) {s : State} (hOk : Ok T0 S0 s)
    (hT : Within 0x10000000000000000000000000000000000000000000000000000000000000020080084 T0 := by first | with_reducible assumption | exact sub_trans hT rfl) : ∃ sNext, execWplRecordList mb s = .next sNext ∧ Ok T0 S0 sNext := by
  unfold execWplRecordList
  refine ⟨_, rfl, ?_⟩
  repeat' (first
    | with_reducible assumption | (exact sub_trans hT rfl) | with_reducible apply ok_command
    | with_reducible apply ok_wplCommand | (with_reducible apply ok_foldl; intro _ _ _; beta_reduce) | (intro _)
    | dsimp only)

theorem ok_execWplRecordRead (mb : Nat) {s : State} (hOk : Ok T0 S0 s)
    (hT : Within 0x10000000000000000000000000000000000000000000000000000000000000020080084 T0 := by first | with_reducible assumption | exact sub_trans hT rfl) : ∃ sNext, execWplRecordRead mb s = .next sNext ∧ Ok T0 S0 sNext := by
  unfold execWplRecordRead
  refine ⟨_, rfl, ?_⟩
  repeat' (first
    | with_reducible assumption | (exact sub_trans hT rfl) | with_reducible apply ok_command
    | with_reducible apply ok_wplCommand | (with_reducible apply ok_foldl; intro _ _ _; beta_reduce) | (intro _)
    | dsimp only)

theorem ok_flashPut {s : State} (a : Nat) (l : List Byte) (hOk : Ok T0 S0 s)
    (hT : Within 0x200 T0 := by first | with_reducible assumption | exact sub_trans hT rfl) : Ok T0 S0 (s.flashPut a l) := by
  induction l generalizing s a with
  | nil => exact hOk
  | cons x l ih => exact ih _ (ok_setFlashByte _ _ hOk)

theorem ok_setFwNext {s : State} (k : Nat) (n : Nat) (hOk : Ok T0 S0 s)
    (hT : Within 0x100000 T0 := by first | with_reducible assumption | exact sub_trans hT rfl) : Ok T0 S0 (State.setFwNext s k n) := by
  unfold State.setFwNext
  repeat' (first
    | with_reducible assumption | (exact sub_trans hT rfl)
    | (fail_if_no_progress (with_reducible refine ok_with ?_ ..)) | dsimp only)

theorem ok_fwWrite {s : State} (e : MbCmd) (back : List Byte) (hOk : Ok T0 S0 s)
    (hT : Within 0x10000000000000000000000000000000000000000000000000000000000000020180284 T0 := by first | with_reducible assumption | exact sub_trans hT rfl) : Ok T0 S0 (State.fwWrite s e back) := by
  unfold State.fwWrite
  repeat' (first
    | with_reducible assumption | (exact rfl) | (exact sub_trans hT rfl) | with_reducible apply ok_ok
    | with_reducible apply ok_err | with_reducible apply ok_eraseFlash | with_reducible apply ok_badArg
    | with_reducible apply ok_flashPut | with_reducible apply ok_setFwNext | split | dsimp only)

theorem ok_execFwWrite (mb : Nat) (back : List Byte) {s : State} (hOk : Ok T0 S0 s)
    (hT : Within 0x10000000000000000000000000000000000000000000000000000000000000020180284 T0 := by first | with_reducible assumption | exact sub_trans hT rfl) : ∃ sNext, execFwWrite mb back s = .next sNext ∧ Ok T0 S0 sNext := by
  unfold execFwWrite
  refine ⟨_, rfl, ?_⟩
  repeat' (first
    | with_reducible assumption | (exact sub_trans hT rfl) | with_reducible apply ok_command
    | with_reducible apply ok_fwWrite | (with_reducible apply ok_foldl; intro _ _ _; beta_reduce) | (intro _)
    | dsimp only)

theorem ok_fwVerify {s : State} (e : MbCmd) (hOk : Ok T0 S0 s)
    (hT : Within 0x10000000000000000000000000000000000000000000000000000000000000020080084 T0 := by first | with_reducible assumption | exact sub_trans hT rfl) : Ok T0 S0 (State.fwVerify s e) := by
  unfold State.fwVerify
  repeat' (first
    | with_reducible assumption | (exact sub_trans hT rfl) | with_reducible apply ok_ok
    | with_reducible apply ok_badArg | split | dsimp only)

theorem ok_execFwVerify (mb : Nat) {s : State} (hOk : Ok T0 S0 s)
    (hT : Within 0x10000000000000000000000000000000000000000000000000000000000000020080084 T0 := by first | with_reducible assumption | exact sub_trans hT rfl) : ∃ sNext, execFwVerify mb s = .next sNext ∧ Ok T0 S0 sNext := by
  unfold execFwVerify
  refine ⟨_, rfl, ?_⟩
  repeat' (first
    | with_reducible assumption | (exact sub_trans hT rfl) | with_reducible apply ok_command
    | with_reducible apply ok_fwVerify | (with_reducible apply ok_foldl; intro _ _ _; beta_reduce) | (intro _)
    | dsimp only)

theorem ok_fwActivate {s : State} (e : MbCmd) (hOk : Ok T0 S0 s)
    (hT : Within 0x10000050000000000000000000000000000000000000000000000000000000000000020180294 T0 := by first | with_reducible assumption | exact sub_trans hT rfl) : Ok T0 S0 (State.fwActivate s e) := by
  unfold State.fwActivate
  repeat' (first
    | with_reducible assumption | (exact sub_trans hT rfl) | with_reducible apply ok_ok
    | with_reducible apply ok_fwHalt | with_reducible apply ok_badArg
    | (fail_if_no_progress (with_reducible refine ok_with ?_ ..)) | split | dsimp only)

theorem ok_execFwActivate (mb : Nat) {s : State} (hOk : Ok T0 S0 s)
    (hT : Within 0x10000050000000000000000000000000000000000000000000000000000000000000020180294 T0 := by first | with_reducible assumption | exact sub_trans hT rfl) : ∃ sNext, execFwActivate mb s = .next sNext ∧ Ok T0 S0 sNext := by
  unfold execFwActivate
  refine ⟨_, rfl, ?_⟩
  repeat' (first
    | with_reducible assumption | (exact sub_trans hT rfl) | with_reducible apply ok_command
    | with_reducible apply ok_fwActivate | (with_reducible apply ok_foldl; intro _ _ _; beta_reduce) | (intro _)
    | dsimp only)

theorem ok_fwMinSvn {s : State} (e : MbCmd) (vpp : Bool) (hOk : Ok T0 S0 s)
    (hT : Within 0x10000000000000000000000000000000000000000000000000000000000000020080284 T0 := by first | with_reducible assumption | exact sub_trans hT rfl) : Ok T0 S0 (State.fwMinSvn s e vpp) := by
  unfold State.fwMinSvn
  repeat' (first
    | with_reducible assumption | (exact rfl) | (exact sub_trans hT rfl) | with_reducible apply ok_ok
    | with_reducible apply ok_err | (fail_if_no_progress (with_reducible refine ok_with ?_ ..)) | split | dsimp only)

theorem ok_execFwMinSvn (mb : Nat) (vpp : Bool) {s : State} (hOk : Ok T0 S0 s)
    (hT : Within 0x10000000000000000000000000000000000000000000000000000000000000020080284 T0 := by first | with_reducible assumption | exact sub_trans hT rfl) : ∃ sNext, execFwMinSvn mb vpp s = .next sNext ∧ Ok T0 S0 sNext := by
  unfold execFwMinSvn
  refine ⟨_, rfl, ?_⟩
  repeat' (first
    | with_reducible assumption | (exact sub_trans hT rfl) | with_reducible apply ok_command
    | with_reducible apply ok_fwMinSvn | (with_reducible apply ok_foldl; intro _ _ _; beta_reduce) | (intro _)
    | dsimp only)

theorem ok_tmuxUnlock {s : State} (e : MbCmd) (hOk : Ok T0 S0 s)
    (hT : Within 0x10000010000000000000000000000000000000000000000000000000000000000000020080084 T0 := by first | with_reducible assumption | exact sub_trans hT rfl) : Ok T0 S0 (State.tmuxUnlock s e) := by
  unfold State.tmuxUnlock
  repeat' (first
    | with_reducible assumption | (exact rfl) | (exact sub_trans hT rfl) | with_reducible apply ok_set
    | with_reducible apply ok_ok | with_reducible apply ok_err | split | dsimp only)

theorem ok_execTmuxUnlock (mb : Nat) {s : State} (hOk : Ok T0 S0 s)
    (hT : Within 0x10000010000000000000000000000000000000000000000000000000000000000000020080084 T0 := by first | with_reducible assumption | exact sub_trans hT rfl) : ∃ sNext, execTmuxUnlock mb s = .next sNext ∧ Ok T0 S0 sNext := by
  unfold execTmuxUnlock
  refine ⟨_, rfl, ?_⟩
  repeat' (first
    | with_reducible assumption | (exact sub_trans hT rfl) | with_reducible apply ok_command
    | with_reducible apply ok_tmuxUnlock | (with_reducible apply ok_foldl; intro _ _ _; beta_reduce) | (intro _)
    | dsimp only)

theorem ok_tmuxSelect {s : State} (e : MbCmd) (hOk : Ok T0 S0 s)
    (hT : Within 0x10000000000000000000000000000000000000000000000000000000000000020280084 T0 := by first | with_reducible assumption | exact sub_trans hT rfl) : Ok T0 S0 (State.tmuxSelect s e) := by
  unfold State.tmuxSelect
  repeat' (first
    | with_reducible assumption | (exact sub_trans hT rfl) | with_reducible apply ok_ok | with_reducible apply ok_err
    | with_reducible apply ok_badArg | (fail_if_no_progress (with_reducible refine ok_with ?_ ..)) | split
    | dsimp only)

theorem ok_execTmuxSelect (mb : Nat) {s : State} (hOk : Ok T0 S0 s)
    (hT : Within 0x10000000000000000000000000000000000000000000000000000000000000020280084 T0 := by first | with_reducible assumption | exact sub_trans hT rfl) : ∃ sNext, execTmuxSelect mb s = .next sNext ∧ Ok T0 S0 sNext := by
  unfold execTmuxSelect
  refine ⟨_, rfl, ?_⟩
  repeat' (first
    | with_reducible assumption | (exact sub_trans hT rfl) | with_reducible apply ok_command
    | with_reducible apply ok_tmuxSelect | (with_reducible apply ok_foldl; intro _ _ _; beta_reduce) | (intro _)
    | dsimp only)

/-! ### Boot -/

theorem ok_fixedUp {s : State} (d : Nat) (hOk : Ok T0 S0 s)
    (hT : Within 0x2080000040000000000000000040000000004000000000000000000000000000000 T0 := by first | with_reducible assumption | exact sub_trans hT rfl) : Ok T0 S0 (State.fixedUp s d) := by
  unfold State.fixedUp
  repeat' (first
    | with_reducible assumption | (exact rfl) | with_reducible apply ok_domSt | (exact sub_trans hT rfl)
    | with_reducible apply ok_set | with_reducible apply ok_holdFields | dsimp only)

theorem ok_mgtStart {s : State} (hOk : Ok T0 S0 s)
    (hT : Within 0x40000000000000000000000000000000000000000000000000000000000000000000010 T0 := by first | with_reducible assumption | exact sub_trans hT rfl) : Ok T0 S0 (State.mgtStart s) := by
  unfold State.mgtStart
  repeat' (first
    | with_reducible assumption | (exact rfl) | (exact sub_trans hT rfl) | with_reducible apply ok_wlog
    | with_reducible apply ok_restartLog | split | dsimp only)

theorem ok_fixedUpAll {s : State} (hOk : Ok T0 S0 s)
    (hT : Within 0x40002080000040000000000000000040000000004000000000000000000000000000010 T0 := by first | with_reducible assumption | exact sub_trans hT rfl) : Ok T0 S0 (State.fixedUpAll s) := by
  unfold State.fixedUpAll
  repeat' (first
    | with_reducible assumption | (exact sub_trans hT rfl) | with_reducible apply ok_fixedUp
    | with_reducible apply ok_mgtStart | (with_reducible apply ok_foldl; intro _ _ _; beta_reduce) | (intro _) | split
    | dsimp only)

theorem ok_volatileLost {s : State} (hOk : Ok T0 S0 s)
    (hT : Within 0x1ffffffffffffffffffffffffffffffffffffffffffffffffffffffffffff000000003ffffdf9 T0 := by first | with_reducible assumption | exact sub_trans hT rfl) : Ok T0 S0 s.volatileLost :=
  ok_with (ok_regs hOk (m := []) (fun _ => ⟨mapWf_nil _, by simp⟩) fun d hd => absurd hd (domSt_reset_nil _ d)) (m24 := fun _ ch => chans_lost_wf _ ch) ..

theorem ok_aonLost {s : State} (hOk : Ok T0 S0 s)
    (hT : Within 0x1ffffffffffffffffffffffffffffffffffffffffffffffffffffffffffff000000003ffffdf9 T0 := by first | with_reducible assumption | exact sub_trans hT rfl) : Ok T0 S0 (State.aonLost s) := by
  unfold State.aonLost
  repeat' (first
    | with_reducible assumption | (exact rfl) | with_reducible apply ok_domSt | (exact sub_trans hT rfl)
    | with_reducible apply ok_set | with_reducible apply ok_volatileLost | dsimp only)

theorem ok_loadBoard {s : State} (hOk : Ok T0 S0 s)
    (hT : Within 0x1200000000000000000000000000000000000000000000000000000000000000000000000 T0 := by first | with_reducible assumption | exact sub_trans hT rfl) : Ok T0 S0 (State.loadBoard s) := by
  unfold State.loadBoard
  repeat' (first
    | with_reducible assumption | (exact rfl) | (exact sub_trans hT rfl)
    | (with_reducible show _ &&& ~~~(fieldMask _) = _; exact mask_full _ rfl) | with_reducible apply ok_set
    | with_reducible apply ok_setReg | with_reducible apply ok_otpBoard
    | (fail_if_no_progress (with_reducible refine ok_with ?_ ..))
    | (with_reducible apply ok_foldl; intro _ _ _; beta_reduce) | (intro _) | split | dsimp only)

theorem ok_powerOn {s : State} (hOk : Ok T0 S0 s)
    (hT : Within 0x1ffffffffffffffffffffffffffffffffffffffffffffffffffffffffffff000000003ffffdf9 T0 := by first | with_reducible assumption | exact sub_trans hT rfl) : Ok T0 S0 (State.powerOn s) := by
  unfold State.powerOn
  repeat' (first
    | with_reducible assumption | (exact rfl) | (exact sub_trans hT rfl) | with_reducible apply ok_set
    | with_reducible apply ok_fixedUpAll | with_reducible apply ok_volatileLost | with_reducible apply ok_loadBoard
    | (fail_if_no_progress (with_reducible refine ok_with ?_ ..))
    | (with_reducible apply ok_foldl; intro _ _ _; beta_reduce) | (intro _) | split | dsimp only)

theorem ok_execPowerOnReset {s : State} (hOk : Ok T0 S0 s)
    (hT : Within 0x1ffffffffffffffffffffffffffffffffffffffffffffffffffffffffffff000000003ffffdf9 T0 := by first | with_reducible assumption | exact sub_trans hT rfl) : ∃ sNext, execPowerOnReset s = .next sNext ∧ Ok T0 S0 sNext := by
  unfold execPowerOnReset
  refine ⟨_, rfl, ?_⟩
  repeat' (first
    | with_reducible assumption | (exact sub_trans hT rfl) | with_reducible apply ok_powerOn | dsimp only)

theorem ok_railRise {s : State} (n : Nat) (hOk : Ok T0 S0 s)
    (hT : Within 0x1ffffffffffffffffffffffffffffffffffffffffffffffffffffffffffff000000003ffffdf9 T0 := by first | with_reducible assumption | exact sub_trans hT rfl) : Ok T0 S0 (State.railRise s n) := by
  unfold State.railRise
  repeat' (first
    | with_reducible assumption | (exact rfl) | (exact sub_trans hT rfl) | with_reducible apply ok_set
    | with_reducible apply ok_wlog | with_reducible apply ok_fixedUpAll | with_reducible apply ok_powerOn
    | (fail_if_no_progress (with_reducible refine ok_with ?_ ..)) | split | dsimp only)

theorem ok_execRailUp (n : Nat) {s : State} (hOk : Ok T0 S0 s)
    (hT : Within 0x1ffffffffffffffffffffffffffffffffffffffffffffffffffffffffffff000000003ffffdf9 T0 := by first | with_reducible assumption | exact sub_trans hT rfl) : ∃ sNext, execRailUp n s = .next sNext ∧ Ok T0 S0 sNext := by
  unfold execRailUp
  refine ⟨_, rfl, ?_⟩
  repeat' (first
    | with_reducible assumption | (exact sub_trans hT rfl) | with_reducible apply ok_railRise | dsimp only)

theorem ok_dropOrphans {s : State} (hOk : Ok T0 S0 s)
    (hT : Within 0x1ffffffffffffffffffffffffffffffffffffffffffffffffffffffffffff000000001fbf7d98 T0 := by first | with_reducible assumption | exact sub_trans hT rfl) : Ok T0 S0 (State.dropOrphans s) := by
  unfold State.dropOrphans
  repeat' (first
    | with_reducible assumption | (exact sub_trans hT rfl) | with_reducible apply ok_dropDomain
    | (with_reducible apply ok_foldl; intro _ _ _; beta_reduce) | (intro _) | split | dsimp only)

theorem ok_dramGone {s : State} (ch : Nat) (hOk : Ok T0 S0 s)
    (hT : Within 0x1000000 T0 := by first | with_reducible assumption | exact sub_trans hT rfl) : Ok T0 S0 (State.dramGone s ch) := by
  unfold State.dramGone
  repeat' (first
    | with_reducible assumption | (exact rfl) | (exact sub_trans hT rfl)
    | (fail_if_no_progress (with_reducible refine ok_setChan _ _ ?_ ..)) | with_reducible apply ok_dramLost
    | (fail_if_no_progress (with_reducible refine ok_with ?_ ..)) | dsimp only)

theorem ok_railFall {s : State} (n : Nat) (hOk : Ok T0 S0 s)
    (hT : Within 0x1ffffffffffffffffffffffffffffffffffffffffffffffffffffffffffff000000003ffffdf9 T0 := by first | with_reducible assumption | exact sub_trans hT rfl) : Ok T0 S0 (State.railFall s n) := by
  unfold State.railFall
  repeat' (first
    | with_reducible assumption | (exact sub_trans hT rfl) | with_reducible apply ok_dropDomain
    | with_reducible apply ok_aonLost | with_reducible apply ok_dropOrphans | with_reducible apply ok_dramGone
    | (fail_if_no_progress (with_reducible refine ok_with ?_ ..))
    | (with_reducible apply ok_foldl; intro _ _ _; beta_reduce) | (intro _) | split | dsimp only)

theorem ok_execRailDown (n : Nat) {s : State} (hOk : Ok T0 S0 s)
    (hT : Within 0x1ffffffffffffffffffffffffffffffffffffffffffffffffffffffffffff000000003ffffdf9 T0 := by first | with_reducible assumption | exact sub_trans hT rfl) : ∃ sNext, execRailDown n s = .next sNext ∧ Ok T0 S0 sNext := by
  unfold execRailDown
  refine ⟨_, rfl, ?_⟩
  repeat' (first
    | with_reducible assumption | (exact sub_trans hT rfl) | with_reducible apply ok_railFall | dsimp only)

theorem ok_coldLost {s : State} (hOk : Ok T0 S0 s)
    (hT : Within 0x1ffffffffffffffffffffffffffffffffffffffffffffffffffffffffffff000000001fdffdc8 T0 := by first | with_reducible assumption | exact sub_trans hT rfl) : Ok T0 S0 s.coldLost := by
  have h1 : Ok T0 S0 ((3 :: (upTo 10).map (11 + ·)).foldl State.pllsOff s) := ok_foldl (fun _ _ h => ok_pllsOff _ h) hOk
  refine ok_set rfl (ok_set rfl (ok_foldl (fun s x h => ?_) ?_))
  · split
    · exact h
    · refine ok_domSt rfl ?_
      split
      · exact h
      · exact ok_set rfl h
  · exact ok_with (ok_keepRegs h1 fun k => coldKept (regDomain (allRegs.getD (k % 512) .CAL_BORE_SEL) (k / 512)))
      (m24 := fun _ ch => chans_lost_wf _ ch) ..

theorem ok_execPwrgoodFall {s : State} (hOk : Ok T0 S0 s)
    (hT : Within 0x1ffffffffffffffffffffffffffffffffffffffffffffffffffffffffffff000000001fdffdd8 T0 := by first | with_reducible assumption | exact sub_trans hT rfl) : ∃ sNext, execPwrgoodFall s = .next sNext ∧ Ok T0 S0 sNext := by
  unfold execPwrgoodFall
  refine ⟨_, rfl, ?_⟩
  repeat' (first
    | with_reducible assumption | (exact sub_trans hT rfl) | with_reducible apply ok_wlog
    | with_reducible apply ok_coldLost | split | dsimp only)

theorem ok_goodRise {s : State} (sbSel : Bool) (sbAddr : Nat) (flashOct : Bool) (hOk : Ok T0 S0 s)
    (hT : Within 0x1000040002480000040000000000000000040000000004000000000000000000000000020010 T0 := by first | with_reducible assumption | exact sub_trans hT rfl) :
    Ok T0 S0 (s.goodRise sbSel sbAddr flashOct) := by
  have hv : BitVec.ofNat 32 (b2n flashOct * 8 + sbAddr % 4 * 2 + b2n sbSel) &&& ~~~(fieldMask .DBG_STRAP) = 0 := by
    have h4 : sbAddr % 4 < 4 := Nat.mod_lt _ (by norm_num)
    generalize sbAddr % 4 = k at h4
    interval_cases k <;> cases flashOct <;> cases sbSel <;> decide
  have h1 : Ok T0 S0 { s.setReg .PWR_BOOT_STAT 0 0 with power := { s.power with good := true, riseAt := s.time, boot := 1 } } :=
    ok_with (ok_setReg (by decide) hOk) ..
  unfold State.goodRise
  refine ok_fixedUpAll ?_
  split
  · exact ok_setReg hv h1
  · exact h1

theorem ok_execPwrgoodRise (sbSel : Bool) (sbAddr : Nat) (flashOct : Bool) {s : State} (hOk : Ok T0 S0 s)
    (hT : Within 0x1000040002480000040000000000000000040000000004000000000000000000000000020010 T0 := by first | with_reducible assumption | exact sub_trans hT rfl) : ∃ sNext, execPwrgoodRise sbSel sbAddr flashOct s = .next sNext ∧ Ok T0 S0 sNext := by
  unfold execPwrgoodRise
  refine ⟨_, rfl, ?_⟩
  repeat' (first
    | with_reducible assumption | (exact sub_trans hT rfl) | with_reducible apply ok_goodRise | split | dsimp only)

theorem ok_bootTo {s : State} (k : Nat) (hOk : Ok T0 S0 s)
    (hT : Within 0x20000 T0 := by first | with_reducible assumption | exact sub_trans hT rfl) : Ok T0 S0 (State.bootTo s k) := by
  unfold State.bootTo
  repeat' (first
    | with_reducible assumption | (exact sub_trans hT rfl)
    | (fail_if_no_progress (with_reducible refine ok_with ?_ ..)) | dsimp only)

theorem ok_execBootRom {s : State} (hOk : Ok T0 S0 s)
    (hT : Within 0x1000040000000000000000000000000000000000000000000000000000000000000000120210 T0 := by first | with_reducible assumption | exact sub_trans hT rfl) : ∃ sNext, execBootRom s = .next sNext ∧ Ok T0 S0 sNext := by
  unfold execBootRom
  refine ⟨_, rfl, ?_⟩
  repeat' (first
    | with_reducible assumption | (exact rfl) | (exact sub_trans hT rfl) | with_reducible apply ok_set
    | with_reducible apply ok_bootSlot | with_reducible apply ok_recoveryMode | with_reducible apply ok_bootTo
    | (fail_if_no_progress (with_reducible refine ok_with ?_ ..)) | split | dsimp only)

theorem ok_bootDomains {s : State} (l : List Nat) (hOk : Ok T0 S0 s)
    (hT : Within 0x400000002080000040002420000520000040000000004000800000000000000000021465d4a T0 := by first | with_reducible assumption | exact sub_trans hT rfl) : Ok T0 S0 (State.bootDomains s l) := by
  unfold State.bootDomains
  repeat' (first
    | with_reducible assumption | (exact sub_trans hT rfl) | with_reducible apply ok_bootDomain
    | (with_reducible apply ok_foldl; intro _ _ _; beta_reduce) | (intro _) | split | dsimp only)

theorem ok_execBootNet {s : State} (hOk : Ok T0 S0 s)
    (hT : Within 0x400000002080000040002420000520000040000000004000800000000000000000021465d4a T0 := by first | with_reducible assumption | exact sub_trans hT rfl) : ∃ sNext, execBootNet s = .next sNext ∧ Ok T0 S0 sNext := by
  unfold execBootNet
  refine ⟨_, rfl, ?_⟩
  repeat' (first
    | with_reducible assumption | (exact sub_trans hT rfl) | with_reducible apply ok_spoilBores
    | with_reducible apply ok_bootDetours | with_reducible apply ok_bootTo | with_reducible apply ok_bootDomains
    | split | dsimp only)

theorem ok_execBootPorts {s : State} (hOk : Ok T0 S0 s)
    (hT : Within 0x400000002080000040002420000520000040000000004000800000000000000000021465d4a T0 := by first | with_reducible assumption | exact sub_trans hT rfl) : ∃ sNext, execBootPorts s = .next sNext ∧ Ok T0 S0 sNext := by
  unfold execBootPorts
  refine ⟨_, rfl, ?_⟩
  repeat' (first
    | with_reducible assumption | (exact sub_trans hT rfl) | with_reducible apply ok_bootTo
    | with_reducible apply ok_bootDomains | split | dsimp only)

theorem ok_execBootTiers {s : State} (hOk : Ok T0 S0 s)
    (hT : Within 0x400000002080000040002420000520000040000000004000800000000000000000021465d4a T0 := by first | with_reducible assumption | exact sub_trans hT rfl) : ∃ sNext, execBootTiers s = .next sNext ∧ Ok T0 S0 sNext := by
  unfold execBootTiers
  refine ⟨_, rfl, ?_⟩
  repeat' (first
    | with_reducible assumption | (exact sub_trans hT rfl) | with_reducible apply ok_bootTo
    | with_reducible apply ok_bootDomains | split | dsimp only)

theorem ok_execBootBenches {s : State} (hOk : Ok T0 S0 s)
    (hT : Within 0x400000002080000040002420000520000040000000004000800000000000000000021465d4a T0 := by first | with_reducible assumption | exact sub_trans hT rfl) : ∃ sNext, execBootBenches s = .next sNext ∧ Ok T0 S0 sNext := by
  unfold execBootBenches
  refine ⟨_, rfl, ?_⟩
  repeat' (first
    | with_reducible assumption | (exact sub_trans hT rfl) | with_reducible apply ok_bootTo
    | with_reducible apply ok_bootDomains | split | dsimp only)

theorem ok_shellFail {s : State} (result : Nat) (logged : Bool) (hOk : Ok T0 S0 s)
    (hT : Within 0x400000000000000000000000000000000000000000000000000000000000000010 T0 := by first | with_reducible assumption | exact sub_trans hT rfl) : Ok T0 S0 (State.shellFail s result logged) := by
  unfold State.shellFail
  repeat' (first
    | with_reducible assumption | (exact rfl) | (exact sub_trans hT rfl) | with_reducible apply ok_set
    | with_reducible apply ok_wlog | split | dsimp only)

theorem ok_shellLoad {s : State} (a : Nat) (slots : List Nat) (hOk : Ok T0 S0 s)
    (hT : Within 0x5ef20000000000000000000000000000007818 T0 := by first | with_reducible assumption | exact sub_trans hT rfl) : Ok T0 S0 (State.shellLoad s a slots) := by
  unfold State.shellLoad
  repeat' (first
    | with_reducible assumption | (exact rfl) | (exact sub_trans hT rfl)
    | (with_reducible show _ &&& ~~~(fieldMask _) = _; exact mask_full _ rfl) | with_reducible apply ok_set
    | with_reducible apply ok_setReg | with_reducible apply ok_loadCtlWrite | with_reducible apply ok_loadFeed
    | with_reducible apply ok_loadHold | with_reducible apply ok_loadCommit
    | (with_reducible apply ok_foldl; intro _ _ _; beta_reduce) | (intro _) | dsimp only)

theorem ok_shellStage {s : State} (e : ShellEntry) (hOk : Ok T0 S0 s)
    (hT : Within 0x420000100000000000020178817e00000000000000000014015adc T0 := by first | with_reducible assumption | exact sub_trans hT rfl) : Ok T0 S0 (State.shellStage s e).1 := by
  unfold State.shellStage
  repeat' (first
    | with_reducible assumption | (exact rfl) | (exact sub_trans hT rfl) | with_reducible apply ok_ctxCmdWrite
    | with_reducible apply ok_ctxFinish | split | dsimp only)

theorem ok_shellDeclare {s : State} (decl : List Byte) (e : ShellEntry) (hOk : Ok T0 S0 s)
    (hT : Within 0x13fc00000000800420500000000000000010000100 T0 := by first | with_reducible assumption | exact sub_trans hT rfl) : Ok T0 S0 (State.shellDeclare s decl e).1 := by
  unfold State.shellDeclare
  repeat' (first
    | with_reducible assumption | (exact sub_trans hT rfl) | with_reducible apply ok_declApply | dsimp only)

theorem ok_shellPriv {s : State} (e : ShellEntry) (hOk : Ok T0 S0 s)
    (hT : Within 0x80000000000000000000000000000000000008 T0 := by first | with_reducible assumption | exact sub_trans hT rfl) : Ok T0 S0 (State.shellPriv s e).1 := by
  unfold State.shellPriv
  repeat' (first
    | with_reducible assumption | (exact rfl) | (exact sub_trans hT rfl) | with_reducible apply ok_assignWrite
    | dsimp only)

theorem ok_shellOnline {s : State} (e : ShellEntry) (hOk : Ok T0 S0 s)
    (hT : Within 0x420000100000000000000000017e00000000000000000014004848 T0 := by first | with_reducible assumption | exact sub_trans hT rfl) : Ok T0 S0 (State.shellOnline s e).1 := by
  unfold State.shellOnline
  repeat' (first
    | with_reducible assumption | (exact rfl) | (exact sub_trans hT rfl) | with_reducible apply ok_presentEdge
    | with_reducible apply ok_planeSelWrite | split | dsimp only)

theorem ok_chain {f : State → State × Bool}
    (hf : ∀ s, Ok T0 S0 s → Ok T0 S0 (f s).1) {a : State × Bool} (ha : Ok T0 S0 a.1) :
    Ok T0 S0 (if a.2 then f a.1 else a).1 := by
  split
  · exact hf _ ha
  · exact ha

theorem ok_shellBring {s : State} (decl : List Byte) (l : List ShellEntry) (hOk : Ok T0 S0 s)
    (hT : Within 0x42000010000013fc80020178817e20500000000000000014015bdc T0 := by first | with_reducible assumption | exact sub_trans hT rfl) :
    Ok T0 S0 (s.shellBring decl l).1 := by
  induction l generalizing s with
  | nil => exact hOk
  | cons e l ih =>
    have hd := ok_chain (f := fun x => x.shellOnline e) (fun x h => ok_shellOnline _ h)
      (ok_chain (f := fun x => x.shellPriv e) (fun x h => ok_shellPriv _ h)
        (ok_chain (f := fun x => x.shellDeclare decl e) (fun x h => ok_shellDeclare _ _ h)
          (ok_shellStage e hOk)))
    exact ok_chain (f := fun x => x.shellBring decl l) (fun x h => ih h) hd

theorem ok_shell {s : State} (hOk : Ok T0 S0 s)
    (hT : Within 0x40000000000042000010000013fcdef20178817e20500000000000000014017bdc T0 := by first | with_reducible assumption | exact sub_trans hT rfl) : Ok T0 S0 (State.shell s) := by
  unfold State.shell
  repeat' (first
    | with_reducible assumption | (exact rfl) | (exact sub_trans hT rfl) | with_reducible apply ok_set
    | with_reducible apply ok_loadFail | with_reducible apply ok_shellFail | with_reducible apply ok_shellLoad
    | with_reducible apply ok_shellBring | (fail_if_no_progress (with_reducible refine ok_with ?_ ..)) | split
    | dsimp only)

theorem ok_execBootShell {s : State} (hOk : Ok T0 S0 s)
    (hT : Within 0x40000000000042000010000013fcdef20178817e20500000000000000014037bdc T0 := by first | with_reducible assumption | exact sub_trans hT rfl) : ∃ sNext, execBootShell s = .next sNext ∧ Ok T0 S0 sNext := by
  unfold execBootShell
  refine ⟨_, rfl, ?_⟩
  repeat' (first
    | with_reducible assumption | (exact rfl) | (exact sub_trans hT rfl) | with_reducible apply ok_bootTo
    | with_reducible apply ok_shell | split | dsimp only)

theorem ok_execBootOpen {s : State} (hOk : Ok T0 S0 s)
    (hT : Within 0x500004000000000000000000000000000000000000000000000000000000000201a0084 T0 := by first | with_reducible assumption | exact sub_trans hT rfl) : ∃ sNext, execBootOpen s = .next sNext ∧ Ok T0 S0 sNext := by
  unfold execBootOpen
  refine ⟨_, rfl, ?_⟩
  repeat' (first
    | with_reducible assumption | (exact rfl) | (exact sub_trans hT rfl) | with_reducible apply ok_set
    | with_reducible apply ok_fwOpen | with_reducible apply ok_bootTo | split | dsimp only)

theorem ok_perstDown {s : State} (x : Nat) (hOk : Ok T0 S0 s)
    (hT : Within 0x100000000000000220000000000000000120200000000000000000000000000000a7098 T0 := by first | with_reducible assumption | exact sub_trans hT rfl) : Ok T0 S0 (State.perstDown s x) := by
  unfold State.perstDown
  repeat' (first
    | with_reducible assumption | (exact rfl) | (exact sub_trans hT rfl) | with_reducible apply ok_set
    | with_reducible apply ok_mbxAbort | with_reducible apply ok_pcieReset
    | (fail_if_no_progress (with_reducible refine ok_with ?_ ..))
    | (with_reducible apply ok_foldl; intro _ _ _; beta_reduce) | (intro _) | split | dsimp only)

theorem ok_execPerstAssert (x : Nat) {s : State} (hOk : Ok T0 S0 s)
    (hT : Within 0x100000000000000220000000000000000120200000000000000000000000000000a7098 T0 := by first | with_reducible assumption | exact sub_trans hT rfl) : ∃ sNext, execPerstAssert x s = .next sNext ∧ Ok T0 S0 sNext := by
  unfold execPerstAssert
  refine ⟨_, rfl, ?_⟩
  repeat' (first
    | with_reducible assumption | (exact sub_trans hT rfl) | with_reducible apply ok_perstDown
    | (fail_if_no_progress (with_reducible refine ok_with ?_ ..)) | split | dsimp only)

theorem ok_execPerstDeassert (x : Nat) {s : State} (hOk : Ok T0 S0 s)
    (hT : Within 0x2000000000000000000000000000000000000000000000000020000 T0 := by first | with_reducible assumption | exact sub_trans hT rfl) : ∃ sNext, execPerstDeassert x s = .next sNext ∧ Ok T0 S0 sNext := by
  unfold execPerstDeassert
  refine ⟨_, rfl, ?_⟩
  repeat' (first
    | with_reducible assumption | (exact rfl) | (exact sub_trans hT rfl) | with_reducible apply ok_set
    | (fail_if_no_progress (with_reducible refine ok_with ?_ ..)) | split | dsimp only)

theorem ok_vfReset {s : State} (x : Nat) (n : Nat) (hOk : Ok T0 S0 s)
    (hT : Within 0x30000000000000800000000000100000000000000000000000000000000000000080080 T0 := by first | with_reducible assumption | exact sub_trans hT rfl) : Ok T0 S0 (State.vfReset s x n) := by
  unfold State.vfReset
  repeat' (first
    | with_reducible assumption | (exact rfl) | (exact sub_trans hT rfl) | with_reducible apply ok_set
    | with_reducible apply ok_mbxReset | with_reducible apply ok_vfCfgReset | split | dsimp only)

theorem ok_execVfFlr (x : Nat) (n : Nat) {s : State} (hOk : Ok T0 S0 s)
    (hT : Within 0x30000000000000800000000000100000000000000000000000000000000000000080084 T0 := by first | with_reducible assumption | exact sub_trans hT rfl) : ∃ sNext, execVfFlr x n s = .next sNext ∧ Ok T0 S0 sNext := by
  unfold execVfFlr
  refine ⟨_, rfl, ?_⟩
  repeat' (first
    | with_reducible assumption | (exact rfl) | (exact sub_trans hT rfl) | with_reducible apply ok_emit
    | with_reducible apply ok_vfReset | split | dsimp only)

/-! ### FloorReset -/

theorem ok_floorStart {s : State} (hOk : Ok T0 S0 s)
    (hT : Within 0x40000000000000000000000000000000000000000000000000000000000000001488000 T0 := by first | with_reducible assumption | exact sub_trans hT rfl) : Ok T0 S0 (State.floorStart s) := by
  unfold State.floorStart
  repeat' (first
    | with_reducible assumption | (exact rfl) | (exact sub_trans hT rfl) | with_reducible apply ok_set
    | with_reducible apply ok_ddrEnterSelfCol | with_reducible apply ok_scrubsStop
    | (fail_if_no_progress (with_reducible refine ok_with ?_ ..))
    | (with_reducible apply ok_foldl; intro _ _ _; beta_reduce) | (intro _) | dsimp only)

theorem ok_rstCtlWrite {s : State} (v : Word) (hOk : Ok T0 S0 s)
    (hT : Within 0x40000300000000000000000000000000000000000000000000000000000000001488000 T0 := by first | with_reducible assumption | exact sub_trans hT rfl) : Ok T0 S0 (State.rstCtlWrite s v) := by
  unfold State.rstCtlWrite
  repeat' (first
    | with_reducible assumption | (exact rfl) | (exact sub_trans hT rfl) | with_reducible apply ok_set
    | with_reducible apply ok_floorStart | split | dsimp only)

theorem ok_execFloorReset (src : Src) (v : Word) {s : State} (hOk : Ok T0 S0 s)
    (hT : Within 0x40000300000000000000000000000000000000000000000000000000000000001488000 T0 := by first | with_reducible assumption | exact sub_trans hT rfl) : ∃ sNext, execFloorReset src v s = .next sNext ∧ Ok T0 S0 sNext := by
  unfold execFloorReset
  refine ⟨_, rfl, ?_⟩
  repeat' (first
    | with_reducible assumption | (exact sub_trans hT rfl) | with_reducible apply ok_rstCtlWrite
    | (fail_if_no_progress (with_reducible refine ok_with ?_ ..)) | split | dsimp only)

theorem ok_execFloorResetEnterDone {s : State} (hOk : Ok T0 S0 s)
    (hT : Within 0x400000000000000000000000000000000000000000000000000000000000000000021008000 T0 := by first | with_reducible assumption | exact sub_trans hT rfl) : ∃ sNext, execFloorResetEnterDone s = .next sNext ∧ Ok T0 S0 sNext := by
  unfold execFloorResetEnterDone
  refine ⟨_, rfl, ?_⟩
  repeat' (first
    | with_reducible assumption | (exact rfl) | (exact sub_trans hT rfl) | with_reducible apply ok_set
    | with_reducible apply ok_startTimer | (fail_if_no_progress (with_reducible refine ok_setChan _ _ ?_ ..))
    | (fail_if_no_progress (with_reducible refine ok_with ?_ ..))
    | (with_reducible apply ok_foldl; intro _ _ _; beta_reduce) | (intro _) | split | dsimp only)

theorem ok_floorRouters {s : State} (hOk : Ok T0 S0 s)
    (hT : Within 0x4400 T0 := by first | with_reducible assumption | exact sub_trans hT rfl) : Ok T0 S0 (State.floorRouters s) := by
  unfold State.floorRouters
  repeat' (first
    | with_reducible assumption | (exact rfl) | (exact sub_trans hT rfl) | with_reducible apply ok_setMemReqs
    | (fail_if_no_progress (with_reducible refine ok_with ?_ ..))
    | (with_reducible apply ok_foldl; intro _ _ _; beta_reduce) | (intro _) | dsimp only)

theorem ok_cutTransfer {s : State} (b : Nat) (p : Nat) (h : HeldRsp) (hOk : Ok T0 S0 s)
    (hT : Within 0x400000000000000000000000000c0000000000000000010000008 T0 := by first | with_reducible assumption | exact sub_trans hT rfl) : Ok T0 S0 (State.cutTransfer s b p h) := by
  unfold State.cutTransfer
  repeat' (first
    | with_reducible assumption | (exact rfl) | (exact sub_trans hT rfl) | with_reducible apply ok_inc
    | with_reducible apply ok_hopCut | (fail_if_no_progress (with_reducible refine ok_with ?_ ..)) | split
    | dsimp only)

theorem ok_floorPort {s : State} (b : Nat) (p : Nat) (hOk : Ok T0 S0 s)
    (hT : Within 0xc00000000000000000000000000c0000000000000000010800008 T0 := by first | with_reducible assumption | exact sub_trans hT rfl) : Ok T0 S0 (State.floorPort s b p) := by
  unfold State.floorPort
  repeat' (first
    | with_reducible assumption | (exact rfl) | (exact sub_trans hT rfl) | with_reducible apply ok_incBy
    | with_reducible apply ok_setHport | with_reducible apply ok_cutTransfer
    | (fail_if_no_progress (with_reducible refine ok_with ?_ ..))
    | (with_reducible apply ok_foldl; intro _ _ _; beta_reduce) | (intro _) | dsimp only)

theorem ok_floorBars {s : State} (hOk : Ok T0 S0 s)
    (hT : Within 0x4000000000000000000000000000000000000000000000000000084 T0 := by first | with_reducible assumption | exact sub_trans hT rfl) : Ok T0 S0 (State.floorBars s) := by
  unfold State.floorBars
  repeat' (first
    | with_reducible assumption | (exact rfl) | (exact sub_trans hT rfl) | with_reducible apply ok_setFtag
    | with_reducible apply ok_barFail | (fail_if_no_progress (with_reducible refine ok_with ?_ ..))
    | (with_reducible apply ok_foldl; intro _ _ _; beta_reduce) | (intro _) | dsimp only)

theorem ok_execFloorResetHoldEnd {s : State} (hOk : Ok T0 S0 s)
    (hT : Within 0x40c00000000000000000000000000c000000000000000001080c48c T0 := by first | with_reducible assumption | exact sub_trans hT rfl) : ∃ sNext, execFloorResetHoldEnd s = .next sNext ∧ Ok T0 S0 sNext := by
  unfold execFloorResetHoldEnd
  refine ⟨_, rfl, ?_⟩
  repeat' (first
    | with_reducible assumption | (exact rfl) | (exact sub_trans hT rfl) | with_reducible apply ok_floorRouters
    | with_reducible apply ok_floorPort | with_reducible apply ok_floorBars
    | (fail_if_no_progress (with_reducible refine ok_with ?_ ..))
    | (with_reducible apply ok_foldl; intro _ _ _; beta_reduce) | (intro _) | split | dsimp only)

theorem ok_floorGroup {s : State} (g : Nat) (bins : List Nat) (hOk : Ok T0 S0 s)
    (hT : Within 0x52 T0 := by first | with_reducible assumption | exact sub_trans hT rfl) :
    Ok T0 S0 (s.floorGroup g bins) := by
  have h2 := ok_centre2 (s := s) bins hOk
  unfold State.floorGroup
  generalize s.centre2 bins = z at h2
  obtain ⟨d, s1⟩ := z
  dsimp only at h2 ⊢
  have h3 := ok_fresh (s := s1) 8 h2
  generalize s1.fresh 8 = y at h3
  obtain ⟨code, s2⟩ := y
  repeat' (first
    | with_reducible assumption
    | exact rfl
    | (exact sub_trans hT rfl)
    | (with_reducible apply mask_full; rfl)
    | with_reducible apply ok_setGroup
    | with_reducible apply ok_wlog
    | fail_if_no_progress (with_reducible refine ok_with ?_ ..)
    | (with_reducible apply ok_foldl; intro _ _ _; beta_reduce)
    | intro _
    | split
    | dsimp only)

theorem ok_floorAnswer {s : State} (b : Nat) (p : Nat) (hOk : Ok T0 S0 s)
    (hT : Within 0x800000000000000000000000000c0000000000000000010800008 T0 := by first | with_reducible assumption | exact sub_trans hT rfl) : Ok T0 S0 (State.floorAnswer s b p) := by
  unfold State.floorAnswer
  repeat' (first
    | with_reducible assumption | (exact rfl) | (exact sub_trans hT rfl) | with_reducible apply ok_inc
    | with_reducible apply ok_setPortTag | with_reducible apply ok_holdRsp
    | (fail_if_no_progress (with_reducible refine ok_with ?_ ..))
    | (with_reducible apply ok_foldl; intro _ _ _; beta_reduce) | (intro _) | split | dsimp only)

theorem ok_floorDeliver {s : State} (b : Nat) (p : Nat) (hOk : Ok T0 S0 s)
    (hT : Within 0x800000000000000000000000000c0000000000000000010800008 T0 := by first | with_reducible assumption | exact sub_trans hT rfl) : Ok T0 S0 (State.floorDeliver s b p) := by
  unfold State.floorDeliver
  repeat' (first
    | with_reducible assumption | (exact sub_trans hT rfl) | with_reducible apply ok_drainHopper
    | (with_reducible apply ok_foldl; intro _ _ _; beta_reduce) | (intro _) | dsimp only)

theorem ok_floorDdr {s : State} (hOk : Ok T0 S0 s)
    (hT : Within 0x40000000000000000000000000000000000000000000000000000000000000000000100009c T0 := by first | with_reducible assumption | exact sub_trans hT rfl) : Ok T0 S0 (State.floorDdr s) := by
  unfold State.floorDdr
  repeat' (first
    | with_reducible assumption | (exact sub_trans hT rfl) | with_reducible apply ok_ddrExitSelf
    | (with_reducible apply ok_foldl; intro _ _ _; beta_reduce) | (intro _) | split | dsimp only)

theorem ok_floorDma {s : State} (x : Nat) (hOk : Ok T0 S0 s)
    (hT : Within 0x20000000000000000012020000000000000000000000000000007098 T0 := by first | with_reducible assumption | exact sub_trans hT rfl) : Ok T0 S0 (State.floorDma s x) := by
  unfold State.floorDma
  repeat' (first
    | with_reducible assumption | (exact sub_trans hT rfl) | with_reducible apply ok_dmaEnd | split | dsimp only)

theorem ok_floorFw {s : State} (hOk : Ok T0 S0 s)
    (hT : Within 0x50000000000000000000000000000000000000000000000000000000000000020080084 T0 := by first | with_reducible assumption | exact sub_trans hT rfl) : Ok T0 S0 (State.floorFw s) := by
  unfold State.floorFw
  repeat' (first
    | with_reducible assumption | (exact rfl) | (exact sub_trans hT rfl) | with_reducible apply ok_set
    | with_reducible apply ok_settle | (fail_if_no_progress (with_reducible refine ok_with ?_ ..)) | split
    | dsimp only)

theorem ok_floorEvals {s : State} (hOk : Ok T0 S0 s)
    (hT : Within 0x40 T0 := by first | with_reducible assumption | exact sub_trans hT rfl) : Ok T0 S0 (State.floorEvals s) := by
  unfold State.floorEvals
  repeat' (first
    | with_reducible assumption | (exact sub_trans hT rfl) | with_reducible apply ok_waitEvals | dsimp only)

theorem ok_floorResume {s : State} (hOk : Ok T0 S0 s)
    (hT : Within 0x4000500002800000000200800000000000000120200000000c0000000000000000031c8f0dc T0 := by first | with_reducible assumption | exact sub_trans hT rfl) : Ok T0 S0 (State.floorResume s) := by
  unfold State.floorResume
  repeat' (first
    | with_reducible assumption | (exact rfl) | (exact sub_trans hT rfl) | with_reducible apply ok_set
    | with_reducible apply ok_inc | with_reducible apply ok_fenceStepEnd | with_reducible apply ok_loadsAborted
    | with_reducible apply ok_sendPort | with_reducible apply ok_scrubsResume | with_reducible apply ok_floorAnswer
    | with_reducible apply ok_floorDeliver | with_reducible apply ok_floorDdr | with_reducible apply ok_floorDma
    | with_reducible apply ok_floorFw | with_reducible apply ok_floorEvals
    | (fail_if_no_progress (with_reducible refine ok_with ?_ ..))
    | (with_reducible apply ok_foldl; intro _ _ _; beta_reduce) | (intro _) | dsimp only)

theorem ok_execFloorResetReleaseDone (evals : List (Nat × List Nat)) {s : State} (hOk : Ok T0 S0 s)
    (hT : Within 0x4000500002800000000200800000000000000120200000000c0000000000000000031c8f0de T0 := by first | with_reducible assumption | exact sub_trans hT rfl) : ∃ sNext, execFloorResetReleaseDone evals s = .next sNext ∧ Ok T0 S0 sNext := by
  unfold execFloorResetReleaseDone
  refine ⟨_, rfl, ?_⟩
  repeat' (first
    | with_reducible assumption | (exact rfl) | (exact sub_trans hT rfl) | with_reducible apply ok_floorGroup
    | with_reducible apply ok_floorResume | (with_reducible apply ok_foldl; intro _ _ _; beta_reduce) | (intro _)
    | split | dsimp only)

/-! ### Debug -/

theorem ok_tapTake {s : State} (hOk : Ok T0 S0 s)
    (hT : Within 0x840202200000000000000001202000000000000000000000000000220709c T0 := by first | with_reducible assumption | exact sub_trans hT rfl) : Ok T0 S0 (State.tapTake s) := by
  unfold State.tapTake
  repeat' (first
    | with_reducible assumption | (exact sub_trans hT rfl) | with_reducible apply ok_emit
    | with_reducible apply ok_linkDown | with_reducible apply ok_octetLol
    | (fail_if_no_progress (with_reducible refine ok_with ?_ ..))
    | (with_reducible apply ok_foldl; intro _ _ _; beta_reduce) | (intro _) | split | dsimp only)

theorem ok_tapReturn {s : State} (hOk : Ok T0 S0 s)
    (hT : Within 0x400000000000000000000000000000000000000000000000000000000000000000001200004 T0 := by first | with_reducible assumption | exact sub_trans hT rfl) : Ok T0 S0 (State.tapReturn s) := by
  unfold State.tapReturn
  repeat' (first
    | with_reducible assumption | (exact sub_trans hT rfl) | with_reducible apply ok_emit
    | with_reducible apply ok_ddrTrainFull | (fail_if_no_progress (with_reducible refine ok_with ?_ ..))
    | (with_reducible apply ok_foldl; intro _ _ _; beta_reduce) | (intro _) | split | dsimp only)

theorem ok_tapPinsFollow {s : State} (entry : Bool) (hOk : Ok T0 S0 s)
    (hT : Within 0x40000000000000840202200000000000000001202000000000000000000000000000320709c T0 := by first | with_reducible assumption | exact sub_trans hT rfl) : Ok T0 S0 (State.tapPinsFollow s entry) := by
  unfold State.tapPinsFollow
  repeat' (first
    | with_reducible assumption | (exact sub_trans hT rfl) | with_reducible apply ok_tapTake
    | with_reducible apply ok_tapReturn | split | dsimp only)

theorem ok_tapTo {s : State} (ir : Nat) (hOk : Ok T0 S0 s)
    (hT : Within 0x40000000000000840202200000000000000001202000000000000000000000000000320709c T0 := by first | with_reducible assumption | exact sub_trans hT rfl) : Ok T0 S0 (State.tapTo s ir) := by
  unfold State.tapTo
  repeat' (first
    | with_reducible assumption | (exact sub_trans hT rfl) | with_reducible apply ok_tapPinsFollow
    | (fail_if_no_progress (with_reducible refine ok_with ?_ ..)) | split | dsimp only)

theorem ok_execTapReset {s : State} (hOk : Ok T0 S0 s)
    (hT : Within 0x40000000000000840202200000000000000001202000000000000000000000000000320709c T0 := by first | with_reducible assumption | exact sub_trans hT rfl) : ∃ sNext, execTapReset s = .next sNext ∧ Ok T0 S0 sNext := by
  unfold execTapReset
  refine ⟨_, rfl, ?_⟩
  repeat' (first
    | with_reducible assumption | (exact sub_trans hT rfl) | with_reducible apply ok_tapTo | dsimp only)

theorem ok_execTapBypass {s : State} (hOk : Ok T0 S0 s)
    (hT : Within 0x40000000000000840202200000000000000001202000000000000000000000000000320709c T0 := by first | with_reducible assumption | exact sub_trans hT rfl) : ∃ sNext, execTapBypass s = .next sNext ∧ Ok T0 S0 sNext := by
  unfold execTapBypass
  refine ⟨_, rfl, ?_⟩
  repeat' (first
    | with_reducible assumption | (exact sub_trans hT rfl) | with_reducible apply ok_tapTo | dsimp only)

theorem ok_execTapIdcode {s : State} (hOk : Ok T0 S0 s)
    (hT : Within 0x40000000000000840202200000000000000001202000000000000000000000000000320709c T0 := by first | with_reducible assumption | exact sub_trans hT rfl) : ∃ sNext, execTapIdcode s = .next sNext ∧ Ok T0 S0 sNext := by
  unfold execTapIdcode
  refine ⟨_, rfl, ?_⟩
  repeat' (first
    | with_reducible assumption | (exact sub_trans hT rfl) | with_reducible apply ok_tapTo | dsimp only)

theorem ok_execTapSamplePreload {s : State} (hOk : Ok T0 S0 s)
    (hT : Within 0x40000000000000840202200000000000000001202000000000000000000000000000320709c T0 := by first | with_reducible assumption | exact sub_trans hT rfl) : ∃ sNext, execTapSamplePreload s = .next sNext ∧ Ok T0 S0 sNext := by
  unfold execTapSamplePreload
  refine ⟨_, rfl, ?_⟩
  repeat' (first
    | with_reducible assumption | (exact sub_trans hT rfl) | with_reducible apply ok_tapTo | dsimp only)

theorem ok_execTapExtest {s : State} (hOk : Ok T0 S0 s)
    (hT : Within 0x40000000000000840202200000000000000001202000000000000000000000000000320709c T0 := by first | with_reducible assumption | exact sub_trans hT rfl) : ∃ sNext, execTapExtest s = .next sNext ∧ Ok T0 S0 sNext := by
  unfold execTapExtest
  refine ⟨_, rfl, ?_⟩
  repeat' (first
    | with_reducible assumption | (exact sub_trans hT rfl) | with_reducible apply ok_tapTo | dsimp only)

theorem ok_execTapClamp {s : State} (hOk : Ok T0 S0 s)
    (hT : Within 0x40000000000000840202200000000000000001202000000000000000000000000000320709c T0 := by first | with_reducible assumption | exact sub_trans hT rfl) : ∃ sNext, execTapClamp s = .next sNext ∧ Ok T0 S0 sNext := by
  unfold execTapClamp
  refine ⟨_, rfl, ?_⟩
  repeat' (first
    | with_reducible assumption | (exact sub_trans hT rfl) | with_reducible apply ok_tapTo | dsimp only)

theorem ok_execTapHighz {s : State} (hOk : Ok T0 S0 s)
    (hT : Within 0x40000000000000840202200000000000000001202000000000000000000000000000320709c T0 := by first | with_reducible assumption | exact sub_trans hT rfl) : ∃ sNext, execTapHighz s = .next sNext ∧ Ok T0 S0 sNext := by
  unfold execTapHighz
  refine ⟨_, rfl, ?_⟩
  repeat' (first
    | with_reducible assumption | (exact sub_trans hT rfl) | with_reducible apply ok_tapTo | dsimp only)

theorem ok_execTapExtestPulse {s : State} (hOk : Ok T0 S0 s)
    (hT : Within 0x40000000000000840202200000000000000001202000000000000000000000000000320709c T0 := by first | with_reducible assumption | exact sub_trans hT rfl) : ∃ sNext, execTapExtestPulse s = .next sNext ∧ Ok T0 S0 sNext := by
  unfold execTapExtestPulse
  refine ⟨_, rfl, ?_⟩
  repeat' (first
    | with_reducible assumption | (exact sub_trans hT rfl) | with_reducible apply ok_tapTo | dsimp only)

theorem ok_execTapExtestTrain {s : State} (hOk : Ok T0 S0 s)
    (hT : Within 0x40000000000000840202200000000000000001202000000000000000000000000000320709c T0 := by first | with_reducible assumption | exact sub_trans hT rfl) : ∃ sNext, execTapExtestTrain s = .next sNext ∧ Ok T0 S0 sNext := by
  unfold execTapExtestTrain
  refine ⟨_, rfl, ?_⟩
  repeat' (first
    | with_reducible assumption | (exact sub_trans hT rfl) | with_reducible apply ok_tapTo | dsimp only)

theorem ok_dbgChange {s : State} (on : Bool) (hOk : Ok T0 S0 s)
    (hT : Within 0x1040000000000000840202200000000000000001202000000000000000000000000000320709c T0 := by first | with_reducible assumption | exact sub_trans hT rfl) : Ok T0 S0 (State.dbgChange s on) := by
  unfold State.dbgChange
  repeat' (first
    | with_reducible assumption | (exact rfl) | (exact sub_trans hT rfl) | with_reducible apply ok_set
    | with_reducible apply ok_tapPinsFollow | (fail_if_no_progress (with_reducible refine ok_with ?_ ..)) | split
    | dsimp only)

theorem ok_execDbgEnChange (on : Bool) {s : State} (hOk : Ok T0 S0 s)
    (hT : Within 0x1040000000000000840202200000000000000001202000000000000000000000000000320709c T0 := by first | with_reducible assumption | exact sub_trans hT rfl) : ∃ sNext, execDbgEnChange on s = .next sNext ∧ Ok T0 S0 sNext := by
  unfold execDbgEnChange
  refine ⟨_, rfl, ?_⟩
  repeat' (first
    | with_reducible assumption | (exact sub_trans hT rfl) | with_reducible apply ok_dbgChange | dsimp only)

/-! ### RegWrite -/

theorem ok_clampFld {s : State} (f : Fld) (i : Nat) (lo : Nat) (hi : Nat) (hf_f : f.calm = true) (hOk : Ok T0 S0 s)
    (hT : Within 0x0 T0 := by first | with_reducible assumption | exact sub_trans hT rfl)
    (hb_f : Within (regBit f.reg) T0 := by first | with_reducible assumption | exact sub_trans hT rfl) : Ok T0 S0 (State.clampFld s f i lo hi) := by
  unfold State.clampFld
  repeat' (first
    | with_reducible assumption | (exact rfl) | (exact sub_trans hT rfl) | with_reducible apply ok_set | dsimp only)

theorem ok_rangedWrite {s : State} (r : Reg) (i : Nat) (v : Word) (hOk : Ok T0 S0 s)
    (hT : Within 0x4004000000100900000000000001000000040002000000100000000000000000 T0 := by first | with_reducible assumption | exact sub_trans hT rfl)
    (hb_r : Within (regBit r) T0 := by first | with_reducible assumption | exact sub_trans hT rfl) : Ok T0 S0 (State.rangedWrite s r i v) := by
  unfold State.rangedWrite
  repeat' (first
    | with_reducible assumption | (exact rfl) | (exact sub_trans hT rfl) | with_reducible apply ok_plainWrite
    | with_reducible apply ok_clampFld | (fail_if_no_progress (with_reducible refine ok_with ?_ ..)) | split
    | dsimp only)

theorem ok_gpioOeWrite {s : State} (src : Src) (v : Word) (hOk : Ok T0 S0 s)
    (hT : Within 0x8002000000000000000000000000000000000000000000000000000000000000000000000030 T0 := by first | with_reducible assumption | exact sub_trans hT rfl) : Ok T0 S0 (State.gpioOeWrite s src v) := by
  unfold State.gpioOeWrite
  repeat' (first
    | with_reducible assumption | (exact rfl) | (exact sub_trans hT rfl) | with_reducible apply ok_set
    | with_reducible apply ok_hluRefuse | split | dsimp only)

theorem ok_laneTxWrite {s : State} (src : Src) (n : Nat) (v : Word) (hOk : Ok T0 S0 s)
    (hT : Within 0x2000000000000040000000000000000000000000000000000000000000000000000000030 T0 := by first | with_reducible assumption | exact sub_trans hT rfl) : Ok T0 S0 (State.laneTxWrite s src n v) := by
  unfold State.laneTxWrite
  repeat' (first
    | with_reducible assumption | (exact rfl) | (exact sub_trans hT rfl) | with_reducible apply ok_plainWrite
    | with_reducible apply ok_set | with_reducible apply ok_hluRefuse | split | dsimp only)

theorem ok_devCtlWrite {s : State} (v : Word) (hOk : Ok T0 S0 s)
    (hT : Within 0x400000000000000000000000000000000000000000000000000000084 T0 := by first | with_reducible assumption | exact sub_trans hT rfl) : Ok T0 S0 (State.devCtlWrite s v) := by
  unfold State.devCtlWrite
  repeat' (first
    | with_reducible assumption | (exact sub_trans hT rfl) | with_reducible apply ok_plainWrite
    | with_reducible apply ok_sendPort | dsimp only)

theorem ok_wplCtlWrite {s : State} (v : Word) (hOk : Ok T0 S0 s)
    (hT : Within 0x4000000000000000000000000000000000000000000000000000000000000000000000010 T0 := by first | with_reducible assumption | exact sub_trans hT rfl) : Ok T0 S0 (State.wplCtlWrite s v) := by
  unfold State.wplCtlWrite
  repeat' (first
    | with_reducible assumption | (exact sub_trans hT rfl) | with_reducible apply ok_hostFreeze
    | with_reducible apply ok_wplResume | split | dsimp only)

theorem ok_writeBench {s : State} (src : Src) (r : Reg) (i : Nat) (v : Word) (hOk : Ok T0 S0 s)
    (hT : Within 0x2000000004004000000110900003f0017f79f16001c856622500844100000000010007938 T0 := by first | with_reducible assumption | exact sub_trans hT rfl)
    (hb_r : Within (regBit r) T0 := by first | with_reducible assumption | exact sub_trans hT rfl) : Ok T0 S0 (State.writeBench s src r i v) := by
  unfold State.writeBench
  repeat' (first
    | with_reducible assumption | (exact rfl) | (exact sub_trans hT rfl) | with_reducible apply ok_plainWrite
    | with_reducible apply ok_ringCtlWrite | with_reducible apply ok_assignWrite
    | with_reducible apply ok_gangCmdWrite | with_reducible apply ok_mfenceWrite | with_reducible apply ok_hwinWrite
    | with_reducible apply ok_laneMaskWrite | with_reducible apply ok_wbCtlWrite | with_reducible apply ok_pcapWrite
    | with_reducible apply ok_planeSelWrite | with_reducible apply ok_schedCtlWrite
    | with_reducible apply ok_clkSrcWrite | with_reducible apply ok_surgeWrite | with_reducible apply ok_setHop
    | with_reducible apply ok_hopCfgWrite | with_reducible apply ok_hopOwnerWrite | with_reducible apply ok_invWrite
    | with_reducible apply ok_flipWrite | with_reducible apply ok_hportCfgWrite | with_reducible apply ok_ctxCmdWrite
    | with_reducible apply ok_slotRelease | with_reducible apply ok_slotOwnerWrite
    | with_reducible apply ok_loadCtlWrite | with_reducible apply ok_dlymonCtlWrite
    | with_reducible apply ok_rangedWrite | (fail_if_no_progress (with_reducible refine ok_with ?_ ..)) | split
    | dsimp only)

theorem ok_writeReg {s : State} (src : Src) (r : Reg) (i : Nat) (v : Word) (hOk : Ok T0 S0 s)
    (hT : Within 0x1860767001abbc00f7c37e0118d00033f0017f79f16001c85662250084410000000003f5efdfe T0 := by first | with_reducible assumption | exact sub_trans hT rfl)
    (hb_r : Within (regBit r) T0 := by first | with_reducible assumption | exact sub_trans hT rfl) : Ok T0 S0 (State.writeReg s src r i v) := by
  unfold State.writeReg
  repeat' (first
    | with_reducible assumption | (exact rfl) | (exact sub_trans hT rfl) | with_reducible apply ok_plainWrite
    | with_reducible apply ok_calWritten | with_reducible apply ok_ring | with_reducible apply ok_ack
    | with_reducible apply ok_mbxCtlWrite | with_reducible apply ok_fwCtlWrite | with_reducible apply ok_trimWrite
    | with_reducible apply ok_rtrCtlWrite | with_reducible apply ok_rtEntWrite | with_reducible apply ok_epochFlip
    | with_reducible apply ok_traceClear | with_reducible apply ok_ddrCfgWrite | with_reducible apply ok_vfMapWrite
    | with_reducible apply ok_dmaCtlWrite | with_reducible apply ok_dmaProdWrite | with_reducible apply ok_octCfgWrite
    | with_reducible apply ok_laneCtlWrite | with_reducible apply ok_lanePrbsWrite
    | with_reducible apply ok_clkMonWrite | with_reducible apply ok_clkFabWrite | with_reducible apply ok_clkOutWrite
    | with_reducible apply ok_pwrDomWrite | with_reducible apply ok_siteClamp | with_reducible apply ok_boardWrite
    | with_reducible apply ok_fwLayerWrite | with_reducible apply ok_hluCtlWrite | with_reducible apply ok_limitsWrite
    | with_reducible apply ok_privCtlWrite | with_reducible apply ok_rstCtlWrite | with_reducible apply ok_gpioOeWrite
    | with_reducible apply ok_laneTxWrite | with_reducible apply ok_devCtlWrite | with_reducible apply ok_wplCtlWrite
    | with_reducible apply ok_writeBench | (fail_if_no_progress (with_reducible refine ok_with ?_ ..)) | split
    | dsimp only)

theorem ok_execRegisterWrite (src : Src) (r : Reg) (i : Nat) (v : Word) {s : State} (hOk : Ok T0 S0 s)
    (hT : Within 0x1860767001abbc00f7c37e0118d00033f0017f79f16001c85662250084410000000003f5efdfe T0 := by first | with_reducible assumption | exact sub_trans hT rfl)
    (hb_r : Within (regBit r) T0 := by first | with_reducible assumption | exact sub_trans hT rfl) : ∃ sNext, execRegisterWrite src r i v s = .next sNext ∧ Ok T0 S0 sNext := by
  unfold execRegisterWrite
  refine ⟨_, rfl, ?_⟩
  repeat' (first
    | with_reducible assumption | (exact sub_trans hT rfl) | with_reducible apply ok_writeReg | split | dsimp only)

theorem ok_execWplCtlFreeze (src : Src) (v : Word) {s : State} (hOk : Ok T0 S0 s)
    (hT : Within 0x4000000000000000000000000000000000000000000000000000000000000000000000010 T0 := by first | with_reducible assumption | exact sub_trans hT rfl) : ∃ sNext, execWplCtlFreeze src v s = .next sNext ∧ Ok T0 S0 sNext := by
  unfold execWplCtlFreeze
  refine ⟨_, rfl, ?_⟩
  repeat' (first
    | with_reducible assumption | (exact sub_trans hT rfl) | with_reducible apply ok_wplCtlWrite | split | dsimp only)

theorem ok_execWplCtlResume (src : Src) (v : Word) {s : State} (hOk : Ok T0 S0 s)
    (hT : Within 0x4000000000000000000000000000000000000000000000000000000000000000000000010 T0 := by first | with_reducible assumption | exact sub_trans hT rfl) : ∃ sNext, execWplCtlResume src v s = .next sNext ∧ Ok T0 S0 sNext := by
  unfold execWplCtlResume
  refine ⟨_, rfl, ?_⟩
  repeat' (first
    | with_reducible assumption | (exact sub_trans hT rfl) | with_reducible apply ok_wplCtlWrite | split | dsimp only)

/-! ### BarAnswer -/

theorem ok_readSide {s : State} (r : Reg) (i : Nat) (hOk : Ok T0 S0 s)
    (hT : Within 0x2800001c0000000000000000000a800000000002000000000000000000000002000000 T0 := by first | with_reducible assumption | exact sub_trans hT rfl) : Ok T0 S0 (State.readSide s r i) := by
  unfold State.readSide
  repeat' (first
    | with_reducible assumption | (exact sub_trans hT rfl) | with_reducible apply ok_txtsRead
    | with_reducible apply ok_latchHi | (fail_if_no_progress (with_reducible refine ok_with ?_ ..)) | split
    | dsimp only)

theorem within_regs (r : Reg) : Within (regBit r) allRegBits := by cases r <;> rfl

theorem ok_carriedWrite {s : State} (src : Src) (r : Reg) (i : Nat) (be : Nat) (v : Nat) (hOk : Ok T0 S0 s)
    (hT : Within 0x1ffffffffffffffffffffffffffffffffffffffffffffffffffffffffffff000000003f5efdfe T0 := by first | with_reducible assumption | exact sub_trans hT rfl) :
    Ok T0 S0 (State.carriedWrite s src r i be v) := by
  unfold State.carriedWrite
  have hr := sub_trans (sub_trans hT rfl) (within_regs r)
  split
  · exact ok_writeReg _ _ _ _ hOk (sub_trans hT rfl) hr
  · exact hOk

theorem ok_bufWrite {s : State} (m : Nat) (o : Nat) (be : Nat) (v : Nat) (hOk : Ok T0 S0 s)
    (hT : Within 0x80000 T0 := by first | with_reducible assumption | exact sub_trans hT rfl) : Ok T0 S0 (State.bufWrite s m o be v) := by
  unfold State.bufWrite
  repeat' (first
    | with_reducible assumption | (exact rfl) | (exact sub_trans hT rfl) | with_reducible apply ok_setBox
    | (fail_if_no_progress (with_reducible refine ok_with ?_ ..)) | split | dsimp only)

theorem ok_windowPut {s : State} (src : Src) (o : Nat) (be : Nat) (v : Nat) (hOk : Ok T0 S0 s)
    (hT : Within 0x1ffffffffffffffffffffffffffffffffffffffffffffffffffffffffffff000000003f5efdfe T0 := by first | with_reducible assumption | exact sub_trans hT rfl) : Ok T0 S0 (State.windowPut s src o be v) := by
  unfold State.windowPut
  repeat' (first
    | with_reducible assumption | (exact sub_trans hT rfl) | with_reducible apply ok_carriedWrite
    | with_reducible apply ok_bufWrite | (fail_if_no_progress (with_reducible refine ok_with ?_ ..)) | split
    | dsimp only)

theorem ok_windowSide {s : State} (src : Src) (o : Nat) (hOk : Ok T0 S0 s)
    (hT : Within 0x2800001c0000000000000000000a800000000002000000000000000000000002000000 T0 := by first | with_reducible assumption | exact sub_trans hT rfl) : Ok T0 S0 (State.windowSide s src o) := by
  unfold State.windowSide
  repeat' (first
    | with_reducible assumption | (exact sub_trans hT rfl) | with_reducible apply ok_readSide
    | (fail_if_no_progress (with_reducible refine ok_with ?_ ..)) | split | dsimp only)

theorem ok_vfMailPut {s : State} (n : Nat) (o : Nat) (be : Nat) (v : Nat) (hOk : Ok T0 S0 s)
    (hT : Within 0x1ffffffffffffffffffffffffffffffffffffffffffffffffffffffffffff000000003f5efdfe T0 := by first | with_reducible assumption | exact sub_trans hT rfl) : Ok T0 S0 (State.vfMailPut s n o be v) := by
  unfold State.vfMailPut
  repeat' (first
    | with_reducible assumption | (exact sub_trans hT rfl) | with_reducible apply ok_carriedWrite
    | with_reducible apply ok_bufWrite | (fail_if_no_progress (with_reducible refine ok_with ?_ ..)) | split
    | dsimp only)

theorem ok_barStore {s : State} (r : BarReq) (hOk : Ok T0 S0 s)
    (hT : Within 0x1ffffffffffffffffffffffffffffffffffffffffffffffffffffffffffff000000003f5efdfe T0 := by first | with_reducible assumption | exact sub_trans hT rfl) : Ok T0 S0 (State.barStore s r) := by
  unfold State.barStore
  repeat' (first
    | with_reducible assumption | (exact sub_trans hT rfl) | with_reducible apply ok_windowPut
    | with_reducible apply ok_vfMailPut | (with_reducible apply ok_foldl; intro _ _ _; beta_reduce) | (intro _)
    | split | dsimp only)

theorem ok_barSide {s : State} (r : BarReq) (hOk : Ok T0 S0 s)
    (hT : Within 0x2800001c0000000000000000000a800000000002000000000000000000000002000000 T0 := by first | with_reducible assumption | exact sub_trans hT rfl) : Ok T0 S0 (State.barSide s r) := by
  unfold State.barSide
  repeat' (first
    | with_reducible assumption | (exact sub_trans hT rfl) | with_reducible apply ok_windowSide
    | (with_reducible apply ok_foldl; intro _ _ _; beta_reduce) | (intro _) | split | dsimp only)

theorem ok_barAnswer {s : State} (r : BarReq) (st : Nat) (flits : List (Nat × Bool)) (hOk : Ok T0 S0 s)
    (hT : Within 0x1ffffffffffffffffffffffffffffffffffffffffffffffffffffffffffff000000003f5efdfe T0 := by first | with_reducible assumption | exact sub_trans hT rfl) : Ok T0 S0 (State.barAnswer s r st flits) := by
  unfold State.barAnswer
  repeat' (first
    | with_reducible assumption | (exact rfl) | (exact sub_trans hT rfl) | with_reducible apply ok_inc
    | with_reducible apply ok_emit | with_reducible apply ok_barFail | with_reducible apply ok_barStore
    | with_reducible apply ok_barSide | split | dsimp only)

theorem ok_execBarHaulResponse (x : Nat) (hdr : Nat) (flits : List (Nat × Bool)) {s : State} (hOk : Ok T0 S0 s)
    (hT : Within 0x1ffffffffffffffffffffffffffffffffffffffffffffffffffffffffffff000000003f5efdfe T0 := by first | with_reducible assumption | exact sub_trans hT rfl) : ∃ sNext, execBarHaulResponse x hdr flits s = .next sNext ∧ Ok T0 S0 sNext := by
  unfold execBarHaulResponse
  refine ⟨_, rfl, ?_⟩
  repeat' (first
    | with_reducible assumption | (exact rfl) | (exact sub_trans hT rfl) | with_reducible apply ok_barClose
    | with_reducible apply ok_floorLate | with_reducible apply ok_barAnswer
    | (fail_if_no_progress (with_reducible refine ok_with ?_ ..)) | split | dsimp only)

end Sys2Proof.Machine
end

