-- ==== Sys2Proof/Laws/Frame.lean ====
section
/-!
SUPPORT. From a footprint written as lists to one written as a number, and what a command leaves alone.
-/

set_option Elab.async false

namespace Sys2Proof.Machine

/-- The number of a footprint. -/
def maskOf (f : List Part × List Reg) : Nat :=
  f.1.foldr (fun p m => Nat.lor (2 ^ p.ctorIdx) m) (f.2.foldr (fun r m => Nat.lor (regBit r) m) 0)

theorem part_ctorIdx_lt (p : Part) : p.ctorIdx < 64 := by cases p <;> decide

theorem part_ctorIdx_inj {p q : Part} (h : p.ctorIdx = q.ctorIdx) : p = q := by
  cases p <;> cases q <;> first | rfl | exact absurd h (by decide)

theorem reg_ctorIdx_inj {r q : Reg} (h : r.ctorIdx = q.ctorIdx) : r = q := by
  rw [← keyReg_regKey r 0, ← keyReg_regKey q 0, regKey, regKey, h]

theorem regBit_testBit (r : Reg) (j : Nat) : (regBit r).testBit j = (decide (64 ≤ j) && decide (r.ctorIdx = j - 64)) := by
  rw [regBit, Nat.testBit_mul_two_pow, Nat.testBit_two_pow]

theorem foldr_lor_bit {α : Type} (g : α → Nat) (l : List α) {z j : Nat} (hz : z.testBit j = false)
    (h : ∀ x ∈ l, (g x).testBit j = false) : (l.foldr (fun x m => Nat.lor (g x) m) z).testBit j = false := by
  induction l with
  | nil => exact hz
  | cons x l ih =>
    rw [List.foldr_cons]
    refine (Nat.testBit_or _ _ _).trans ?_
    rw [h x (by simp), ih fun y hy => h y (List.mem_cons_of_mem _ hy)]
    rfl

theorem maskOf_part {f : List Part × List Reg} {p : Part} (h : p ∉ f.1) : (maskOf f).testBit p.ctorIdx = false := by
  have hp := part_ctorIdx_lt p
  refine foldr_lor_bit _ _ (foldr_lor_bit _ _ (Nat.zero_testBit _) fun r _ => ?_) fun q hq => ?_
  · rw [regBit_testBit, decide_eq_false (by omega)]
    rfl
  · rw [Nat.testBit_two_pow]
    exact decide_eq_false fun e => h (part_ctorIdx_inj e ▸ hq)

theorem maskOf_reg {f : List Part × List Reg} {r : Reg} (h : r ∉ f.2) :
    (maskOf f).testBit (64 + r.ctorIdx) = false := by
  refine foldr_lor_bit _ _ (foldr_lor_bit _ _ (Nat.zero_testBit _) fun q hq => ?_) fun p _ => ?_
  · rw [regBit_testBit, Nat.add_sub_cancel_left, decide_eq_false (p := q.ctorIdx = r.ctorIdx) fun e => h (reg_ctorIdx_inj e ▸ hq),
      Bool.and_false]
  · have := part_ctorIdx_lt p
    rw [Nat.testBit_two_pow]
    exact decide_eq_false (by omega)

theorem allRegs_mask : allRegs.foldr (fun r m => Nat.lor (regBit r) m) 0 = allRegBits := by decide +kernel

/-- The number of a footprint with every register. -/
theorem maskOf_allRegs (l : List Part) :
    maskOf (l, allRegs) = l.foldr (fun p m => Nat.lor (2 ^ p.ctorIdx) m) allRegBits := by
  rw [maskOf, allRegs_mask]

theorem within_of_bit {k t : Nat} (h : ∀ j, k.testBit j = true → t.testBit j = true) : Within k t := by
  refine Nat.eq_of_testBit_eq fun j => (Nat.testBit_or _ _ _).trans ?_
  cases hk : k.testBit j
  · rfl
  · rw [h j hk]; rfl

theorem foldr_lor_mem {α : Type} (g : α → Nat) {l : List α} {x : α} (hx : x ∈ l) (z : Nat) :
    Within (g x) (l.foldr (fun x m => Nat.lor (g x) m) z) := by
  refine within_of_bit fun j hj => ?_
  induction l with
  | nil => exact absurd hx (by simp)
  | cons y l ih =>
    rw [List.foldr_cons]
    refine (Nat.testBit_or _ _ _).trans ?_
    rcases List.mem_cons.1 hx with rfl | hx
    · rw [hj, Bool.true_or]
    · rw [ih hx, Bool.or_true]

theorem foldr_lor_mono {α : Type} (g : α → Nat) (l : List α) {k z : Nat} (h : Within k z) :
    Within k (l.foldr (fun x m => Nat.lor (g x) m) z) := by
  induction l with
  | nil => exact h
  | cons y l ih =>
    refine within_of_bit fun j hj => ?_
    rw [List.foldr_cons]
    refine (Nat.testBit_or _ _ _).trans ?_
    rw [within_bit ih hj, Bool.or_true]

/-- A register of a footprint lies within it. -/
theorem within_maskOf_reg {f : List Part × List Reg} {r : Reg} (h : r ∈ f.2) : Within (regBit r) (maskOf f) :=
  foldr_lor_mono _ _ (foldr_lor_mem _ h 0)

/-- A footprint with one more register is no smaller. -/
theorem within_maskOf_cons {l : List Part} {r : Reg} {rs : List Reg} {k : Nat} (h : Within k (maskOf (l, rs))) :
    Within k (maskOf (l, r :: rs)) := by
  refine within_of_bit fun j hj => ?_
  have h1 : Within (rs.foldr (fun r m => Nat.lor (regBit r) m) 0)
      (l.foldr (fun p m => Nat.lor (2 ^ p.ctorIdx) m) ((r :: rs).foldr (fun r m => Nat.lor (regBit r) m) 0)) :=
    foldr_lor_mono _ _ (within_of_bit fun i hi => by
      rw [List.foldr_cons]
      refine (Nat.testBit_or _ _ _).trans ?_
      rw [hi, Bool.or_true])
  by_cases hp : ∃ p ∈ l, (2 ^ p.ctorIdx).testBit j = true
  · obtain ⟨p, hp, hb⟩ := hp
    exact within_bit (foldr_lor_mem (fun p : Part => 2 ^ p.ctorIdx) hp _) hb
  · push Not at hp
    by_cases hz : (rs.foldr (fun r m => Nat.lor (regBit r) m) 0).testBit j = true
    · exact within_bit h1 hz
    · have h3 := within_bit h hj
      have h4 : (maskOf (l, rs)).testBit j = false :=
        foldr_lor_bit _ _ (by simpa using hz) fun p hpl => by simpa using hp p hpl
      rw [h4] at h3
      exact absurd h3 (by decide)

/-- What a footprint leaves alone. -/
theorem frame_of {f : List Part × List Reg} {s t : State} (h : Ok (maskOf f) s t) :
    t.pending = s.pending ∧ (∀ p, p ∉ f.1 → p.same s t) ∧ ∀ r, r ∉ f.2 → ∀ i, t.reg r i = s.reg r i :=
  ⟨h.queue, fun p hp => h.part p (maskOf_part hp), fun r hr i => h.reg r i (maskOf_reg hr)⟩

end Sys2Proof.Machine
end

