-- ==== Sys2Proof/Laws/PerInstr.lean ====
section
/-!
SUPPORT. A statement about every command, one lemma for each: a well-formed command has a well-formed sender.
-/

namespace Sys2Proof.Laws.Wf

/-- The sender of a well-formed command is well formed. -/
def Statement (i : Instr) : Prop := i.wf = true → ∀ src, i.sender = some src → src.wf = true

theorem none_of {i : Instr} (h : i.sender = none) : Statement i := fun _ src hs => by rw [h] at hs; cases hs

theorem some_of {i : Instr} {src : Src} (h : i.sender = some src) (hw : i.wf = true → src.wf = true) : Statement i :=
  fun hi s hs => by rw [h] at hs; cases hs; exact hw hi

theorem and_l {a b : Bool} (h : (a && b) = true) : a = true := (Bool.and_eq_true_iff.mp h).1

theorem and_r {a b : Bool} (h : (a && b) = true) : b = true := (Bool.and_eq_true_iff.mp h).2

theorem registerWrite (a0 : Src) (a1 : Reg) (a2 : Nat) (a3 : Word) : Statement (.registerWrite a0 a1 a2 a3) :=
  some_of rfl and_l
theorem powerOnReset : Statement (.powerOnReset) := none_of rfl
theorem railUp (a0 : Nat) : Statement (.railUp a0) := none_of rfl
theorem pwrgoodRise (a0 : Bool) (a1 : Nat) (a2 : Bool) : Statement (.pwrgoodRise a0 a1 a2) := none_of rfl
theorem pwrgoodFall : Statement (.pwrgoodFall) := none_of rfl
theorem bootRom : Statement (.bootRom) := none_of rfl
theorem bootNet : Statement (.bootNet) := none_of rfl
theorem bootPorts : Statement (.bootPorts) := none_of rfl
theorem bootTiers : Statement (.bootTiers) := none_of rfl
theorem bootBenches : Statement (.bootBenches) := none_of rfl
theorem bootShell : Statement (.bootShell) := none_of rfl
theorem bootOpen : Statement (.bootOpen) := none_of rfl
theorem perstAssert (a0 : Nat) : Statement (.perstAssert a0) := none_of rfl
theorem perstDeassert (a0 : Nat) : Statement (.perstDeassert a0) := none_of rfl
theorem pcieLinkUp (a0 : Nat) (a1 : Nat) (a2 : Nat) (a3 : Bool) : Statement (.pcieLinkUp a0 a1 a2 a3) := none_of rfl
theorem pcieLinkDown (a0 : Nat) : Statement (.pcieLinkDown a0) := none_of rfl
theorem pcieConfigRequest (a0 : Nat) (a1 : Nat) (a2 : Nat) (a3 : CfgReq) : Statement (.pcieConfigRequest a0 a1 a2 a3) := none_of rfl
theorem pcieBarRead (a0 : Nat) (a1 : Nat) (a2 : Nat) (a3 : Nat) (a4 : Nat) (a5 : Nat) : Statement (.pcieBarRead a0 a1 a2 a3 a4 a5) := none_of rfl
theorem pcieBarWrite (a0 : Nat) (a1 : Nat) (a2 : Nat) (a3 : List Byte) (a4 : Nat) : Statement (.pcieBarWrite a0 a1 a2 a3 a4) := none_of rfl
theorem barHaulResponse (a0 : Nat) (a1 : Nat) (a2 : List (Nat × Bool)) : Statement (.barHaulResponse a0 a1 a2) := none_of rfl
theorem vfFlr (a0 : Nat) (a1 : Nat) : Statement (.vfFlr a0 a1) := none_of rfl
theorem pfFlr (a0 : Nat) : Statement (.pfFlr a0) := none_of rfl
theorem vfMapWrite (a0 : Src) (a1 : Nat) (a2 : Word) : Statement (.vfMapWrite a0 a1 a2) :=
  some_of rfl and_r
theorem msixUnmask (a0 : Nat) (a1 : Nat) (a2 : Nat) : Statement (.msixUnmask a0 a1 a2) := none_of rfl
theorem dmaRingEnable (a0 : Src) (a1 : Nat) (a2 : Word) : Statement (.dmaRingEnable a0 a1 a2) :=
  some_of rfl and_r
theorem dmaRingDisable (a0 : Src) (a1 : Nat) (a2 : Word) : Statement (.dmaRingDisable a0 a1 a2) :=
  some_of rfl and_r
theorem dmaProdWrite (a0 : Src) (a1 : Nat) (a2 : Word) : Statement (.dmaProdWrite a0 a1 a2) :=
  some_of rfl and_r
theorem dmaDescFetch (a0 : Nat) (a1 : Option Nat) : Statement (.dmaDescFetch a0 a1) := none_of rfl
theorem dmaPieceComplete (a0 : Nat) (a1 : DmaEv) : Statement (.dmaPieceComplete a0 a1) := none_of rfl
theorem dmaWriteback (a0 : Nat) : Statement (.dmaWriteback a0) := none_of rfl
theorem fabricClockEdge (a0 : List (Nat × Nat)) (a1 : List (Nat × Nat × Nat)) : Statement (.fabricClockEdge a0 a1) := none_of rfl
theorem asyncResetAssert (a0 : Nat) (a1 : Nat) (a2 : Nat) (a3 : Nat) : Statement (.asyncResetAssert a0 a1 a2 a3) := none_of rfl
theorem dlymonMeasure (a0 : Nat) (a1 : List Nat) : Statement (.dlymonMeasure a0 a1) := none_of rfl
theorem dlymonConverterRotate (a0 : Nat) (a1 : Nat) : Statement (.dlymonConverterRotate a0 a1) := none_of rfl
theorem idleSpareMismatch (a0 : Nat) (a1 : Nat) : Statement (.idleSpareMismatch a0 a1) := none_of rfl
theorem calEvaluationEnd (a0 : Nat) (a1 : List Nat) : Statement (.calEvaluationEnd a0 a1) := none_of rfl
theorem trimChangeover (a0 : Nat) : Statement (.trimChangeover a0) := none_of rfl
theorem trimAcqStep (a0 : Nat) (a1 : Nat) : Statement (.trimAcqStep a0 a1) := none_of rfl
theorem evalRestartAfterPause (a0 : Nat) : Statement (.evalRestartAfterPause a0) := none_of rfl
theorem calBoreTrimWrite (a0 : Src) (a1 : Word) : Statement (.calBoreTrimWrite a0 a1) :=
  some_of rfl id
theorem portAccess (a0 : Nat) (a1 : Nat) (a2 : PortIn) (a3 : PortIn) (a4 : List (Nat × Nat)) : Statement (.portAccess a0 a1 a2 a3 a4) := none_of rfl
theorem blockRetireDone (a0 : Nat) (a1 : Nat) : Statement (.blockRetireDone a0 a1) := none_of rfl
theorem correctionWriteBack (a0 : Nat) (a1 : Nat) (a2 : Nat) : Statement (.correctionWriteBack a0 a1 a2) := none_of rfl
theorem haulMemoryAccess (a0 : Nat) (a1 : Nat) (a2 : Bool) (a3 a4 a5 : Nat) (a6 : List (Nat × Bool)) (a7 : Bool)
    (a8 : List (Nat × Nat)) : Statement (.haulMemoryAccess a0 a1 a2 a3 a4 a5 a6 a7 a8) := none_of rfl
theorem patrolStep (a0 : Nat) (a1 : List (Nat × Nat)) : Statement (.patrolStep a0 a1) := none_of rfl
theorem patrolForcedCycle (a0 : Nat) (a1 : List (Nat × Nat)) : Statement (.patrolForcedCycle a0 a1) := none_of rfl
theorem memtInvStart (a0 : Src) (a1 : Word) : Statement (.memtInvStart a0 a1) :=
  some_of rfl id
theorem bulkInvalidateDone (a0 : Nat) : Statement (.bulkInvalidateDone a0) := none_of rfl
theorem memtFlipArm (a0 : Src) (a1 : Word) : Statement (.memtFlipArm a0 a1) :=
  some_of rfl id
theorem hopperWrite (a0 : Nat) (a1 : Nat) (a2 : Nat) (a3 : Bool) (a4 : Bool) : Statement (.hopperWrite a0 a1 a2 a3 a4) := none_of rfl
theorem hopperRead (a0 : Nat) (a1 : Nat) : Statement (.hopperRead a0 a1) := none_of rfl
theorem hopperPointerSync (a0 : Nat) (a1 : Nat) (a2 : Bool) : Statement (.hopperPointerSync a0 a1 a2) := none_of rfl
theorem hopCfgWrite (a0 : Src) (a1 : Nat) (a2 : Nat) (a3 : Word) : Statement (.hopCfgWrite a0 a1 a2 a3) :=
  some_of rfl and_r
theorem hopperFlush (a0 : Src) (a1 : Nat) (a2 : Nat) (a3 : Word) : Statement (.hopperFlush a0 a1 a2 a3) :=
  some_of rfl and_r
theorem hopperFlushApply (a0 : Nat) (a1 : Nat) (a2 : Bool) : Statement (.hopperFlushApply a0 a1 a2) := none_of rfl
theorem hopperTailTimeout (a0 : Nat) (a1 : Nat) : Statement (.hopperTailTimeout a0 a1) := none_of rfl
theorem hopOwnerWrite (a0 : Src) (a1 : Nat) (a2 : Nat) (a3 : Word) : Statement (.hopOwnerWrite a0 a1 a2 a3) :=
  some_of rfl and_r
theorem switchCellRequest (a0 : Nat) (a1 : Bool) : Statement (.switchCellRequest a0 a1) := none_of rfl
theorem planeSelSwitch (a0 : Src) (a1 : Nat) (a2 : Word) : Statement (.planeSelSwitch a0 a1 a2) :=
  some_of rfl and_r
theorem planeSelOnline (a0 : Src) (a1 : Nat) (a2 : Word) : Statement (.planeSelOnline a0 a1 a2) :=
  some_of rfl and_r
theorem planeSelOffline (a0 : Src) (a1 : Nat) (a2 : Word) : Statement (.planeSelOffline a0 a1 a2) :=
  some_of rfl and_r
theorem hostRequestPresented (a0 : Nat) (a1 : Bool) (a2 : Bool) : Statement (.hostRequestPresented a0 a1 a2) := none_of rfl
theorem deferredCandidateRetry (a0 : Nat) (a1 : Bool) : Statement (.deferredCandidateRetry a0 a1) := none_of rfl
theorem scheduleEnable (a0 : Src) (a1 : Nat) (a2 : Word) : Statement (.scheduleEnable a0 a1 a2) :=
  some_of rfl and_r
theorem schedQuantWrite (a0 : Src) (a1 : Nat) (a2 : Word) : Statement (.schedQuantWrite a0 a1 a2) :=
  some_of rfl and_r
theorem scheduleExpiry (a0 : Nat) : Statement (.scheduleExpiry a0) := none_of rfl
theorem scheduleRequestPresented (a0 : Nat) (a1 : Bool) (a2 : Bool) (a3 : Bool) : Statement (.scheduleRequestPresented a0 a1 a2 a3) := none_of rfl
theorem benchClksrcWrite (a0 : Src) (a1 : Nat) (a2 : Nat) (a3 : Word) : Statement (.benchClksrcWrite a0 a1 a2 a3) :=
  some_of rfl and_r
theorem surgeCtlWrite (a0 : Src) (a1 : Nat) (a2 : Word) : Statement (.surgeCtlWrite a0 a1 a2) :=
  some_of rfl and_r
theorem imageEvent (a0 : Nat) : Statement (.imageEvent a0) := none_of rfl
theorem stateInitDone (a0 : Nat) : Statement (.stateInitDone a0) := none_of rfl
theorem ctxStage (a0 : Src) (a1 : Nat) (a2 : Word) : Statement (.ctxStage a0 a1 a2) :=
  some_of rfl and_r
theorem ctxPage (a0 : Src) (a1 : Nat) (a2 : Word) : Statement (.ctxPage a0 a1 a2) :=
  some_of rfl and_r
theorem ctxPageFree (a0 : Src) (a1 : Nat) (a2 : Word) : Statement (.ctxPageFree a0 a1 a2) :=
  some_of rfl and_r
theorem ctxAbort (a0 : Src) (a1 : Nat) (a2 : Word) : Statement (.ctxAbort a0 a1 a2) :=
  some_of rfl and_r
theorem ctxCopyFrame (a0 : Nat) (a1 : List Nat) : Statement (.ctxCopyFrame a0 a1) := none_of rfl
theorem ctxStageCommit (a0 : Nat) : Statement (.ctxStageCommit a0) := none_of rfl
theorem ctxPageCommit (a0 : Nat) : Statement (.ctxPageCommit a0) := none_of rfl
theorem ctxSlotRelease (a0 : Src) (a1 : Nat) (a2 : Word) : Statement (.ctxSlotRelease a0 a1 a2) :=
  some_of rfl and_r
theorem ctxSlotOwnerWrite (a0 : Src) (a1 : Nat) (a2 : Word) : Statement (.ctxSlotOwnerWrite a0 a1 a2) :=
  some_of rfl and_r
theorem bulkStoreRefresh (a0 : Nat) : Statement (.bulkStoreRefresh a0) := none_of rfl
theorem slotPatrolStep (a0 : Nat) (a1 : List Nat) : Statement (.slotPatrolStep a0 a1) := none_of rfl
theorem slotCopyDone (a0 : Nat) (a1 : Nat) (a2 : List (Nat × Nat)) : Statement (.slotCopyDone a0 a1 a2) := none_of rfl
theorem loadGo (a0 : Src) (a1 : Nat) (a2 : Word) : Statement (.loadGo a0 a1 a2) :=
  some_of rfl and_r
theorem loadAbort (a0 : Src) (a1 : Nat) (a2 : Word) : Statement (.loadAbort a0 a1 a2) :=
  some_of rfl and_r
theorem loadDataArrival (a0 : Nat) (a1 : List Byte) : Statement (.loadDataArrival a0 a1) := none_of rfl
theorem loadHoldDone (a0 : Nat) : Statement (.loadHoldDone a0) := none_of rfl
theorem loadCommit (a0 : Nat) : Statement (.loadCommit a0) := none_of rfl
theorem loadSourceTimeout (a0 : Nat) : Statement (.loadSourceTimeout a0) := none_of rfl
theorem loadSourceError (a0 : Nat) : Statement (.loadSourceError a0) := none_of rfl
theorem benchAssignWrite (a0 : Src) (a1 : Nat) (a2 : Word) : Statement (.benchAssignWrite a0 a1 a2) :=
  some_of rfl and_r
theorem fnChangeEffect (a0 : Nat) : Statement (.fnChangeEffect a0) := none_of rfl
theorem gangForm (a0 : Src) (a1 : Nat) (a2 : Word) : Statement (.gangForm a0 a1 a2) :=
  some_of rfl and_r
theorem gangFormDone (a0 : Nat) : Statement (.gangFormDone a0) := none_of rfl
theorem gangDissolve (a0 : Src) (a1 : Nat) (a2 : Word) : Statement (.gangDissolve a0 a1 a2) :=
  some_of rfl and_r
theorem mfenceWrite (a0 : Src) (a1 : Nat) (a2 : Nat) (a3 : Nat) (a4 : Word) : Statement (.mfenceWrite a0 a1 a2 a3 a4) :=
  some_of rfl and_r
theorem hwinWrite (a0 : Src) (a1 : Nat) (a2 : Nat) (a3 : Word) : Statement (.hwinWrite a0 a1 a2 a3) :=
  some_of rfl and_r
theorem laneFenceWrite (a0 : Src) (a1 : Nat) (a2 : Bool) (a3 : Bool) (a4 : Word) : Statement (.laneFenceWrite a0 a1 a2 a3 a4) :=
  some_of rfl and_r
theorem wbCtlWrite (a0 : Src) (a1 : Nat) (a2 : Nat) (a3 : Nat) (a4 : Word) : Statement (.wbCtlWrite a0 a1 a2 a3 a4) :=
  some_of rfl and_r
theorem weighbridgeRefill (a0 : Nat) (a1 : Nat) : Statement (.weighbridgeRefill a0 a1) := none_of rfl
theorem weighbridgeAdmit (a0 : Nat) (a1 : Nat) (a2 : Nat) : Statement (.weighbridgeAdmit a0 a1 a2) := none_of rfl
theorem tallySample (a0 : Nat) (a1 : Nat) : Statement (.tallySample a0 a1) := none_of rfl
theorem pcapUpdate (a0 : Nat) : Statement (.pcapUpdate a0) := none_of rfl
theorem collectorEvent (a0 : Nat) : Statement (.collectorEvent a0) := none_of rfl
theorem collectorRecordWrite (a0 : Bool) : Statement (.collectorRecordWrite a0) := none_of rfl
theorem msixModerationExpiry (a0 : Nat) (a1 : Nat) : Statement (.msixModerationExpiry a0 a1) := none_of rfl
theorem ringEnable (a0 : Src) (a1 : Nat) (a2 : Word) : Statement (.ringEnable a0 a1 a2) :=
  some_of rfl and_r
theorem benchPortRequest (a0 : Nat) (a1 : Nat) (a2 : Nat) (a3 : Nat) : Statement (.benchPortRequest a0 a1 a2 a3) := none_of rfl
theorem flitArrival (a0 : Nat) (a1 : Nat) (a2 : Nat) : Statement (.flitArrival a0 a1 a2) := none_of rfl
theorem flitFallbackDepart (a0 : Nat) (a1 : Nat) : Statement (.flitFallbackDepart a0 a1) := none_of rfl
theorem haulCalibratorTest (a0 : Nat) (a1 : Bool) (a2 : Bool) : Statement (.haulCalibratorTest a0 a1 a2) := none_of rfl
theorem benchPortResponse (a0 : Nat) (a1 : Nat) (a2 : Nat) (a3 : List (Nat × Bool)) : Statement (.benchPortResponse a0 a1 a2 a3) := none_of rfl
theorem benchPortIncomingRequest (a0 : Nat) (a1 : Nat) (a2 : Nat) (a3 : List (Nat × Bool)) : Statement (.benchPortIncomingRequest a0 a1 a2 a3) := none_of rfl
theorem benchPortImageResponse (a0 : Nat) (a1 : Nat) (a2 : Nat) : Statement (.benchPortImageResponse a0 a1 a2) := none_of rfl
theorem pendingEntryExpiry (a0 : Nat) (a1 : Nat) : Statement (.pendingEntryExpiry a0 a1) := none_of rfl
theorem hportCfgWrite (a0 : Src) (a1 : Nat) (a2 : Nat) (a3 : Word) : Statement (.hportCfgWrite a0 a1 a2 a3) :=
  some_of rfl and_r
theorem hportCfgApply (a0 : Nat) (a1 : Nat) : Statement (.hportCfgApply a0 a1) := none_of rfl
theorem ddrRequest (a0 : Nat) (a1 : Nat) (a2 : List (Nat × Bool)) (a3 : List (Nat × Nat)) : Statement (.ddrRequest a0 a1 a2 a3) := none_of rfl
theorem ddrRefresh (a0 : Nat) : Statement (.ddrRefresh a0) := none_of rfl
theorem rtEntWrite (a0 : Src) (a1 : Nat) (a2 : Word) : Statement (.rtEntWrite a0 a1 a2) :=
  some_of rfl and_r
theorem epochFlip (a0 : Src) (a1 : Word) : Statement (.epochFlip a0 a1) :=
  some_of rfl id
theorem drainComplete : Statement (.drainComplete) := none_of rfl
theorem drainTimeout : Statement (.drainTimeout) := none_of rfl
theorem fenceClosingDone (a0 : Nat) (a1 : Nat) : Statement (.fenceClosingDone a0 a1) := none_of rfl
theorem fenceClosingTimeout (a0 : Nat) (a1 : Nat) : Statement (.fenceClosingTimeout a0 a1) := none_of rfl
theorem requestTimeout (a0 : Requester) : Statement (.requestTimeout a0) := none_of rfl
theorem tagReturn (a0 : Requester) : Statement (.tagReturn a0) := none_of rfl
theorem traceClear (a0 : Src) (a1 : Nat) (a2 : Word) : Statement (.traceClear a0 a1 a2) :=
  some_of rfl and_r
theorem boreTestRound (a0 : Nat) : Statement (.boreTestRound a0) := none_of rfl
theorem boreTestEnd (a0 : Nat) (a1 : Bool) : Statement (.boreTestEnd a0 a1) := none_of rfl
theorem groupResume (a0 : Nat) : Statement (.groupResume a0) := none_of rfl
theorem shiftStop (a0 : Nat) (a1 : Bool) (a2 : Bool) (a3 : Bool) (a4 : Bool) : Statement (.shiftStop a0 a1 a2 a3 a4) := none_of rfl
theorem shiftMovePlane (a0 : Nat) (a1 : List Nat) : Statement (.shiftMovePlane a0 a1) := none_of rfl
theorem shiftResume (a0 : Nat) (a1 : Bool) (a2 : Bool) (a3 : Bool) (a4 : Bool) : Statement (.shiftResume a0 a1 a2 a3 a4) := none_of rfl
theorem linkRetrainDone (a0 : Nat) (a1 : Nat) : Statement (.linkRetrainDone a0 a1) := none_of rfl
theorem detourTablesWritten : Statement (.detourTablesWritten) := none_of rfl
theorem scrubPassStart (a0 : Nat) (a1 : Nat) (a2 : Bool) (a3 : List (Nat × Nat × Nat)) : Statement (.scrubPassStart a0 a1 a2 a3) := none_of rfl
theorem scrubFrameCompare (a0 : Nat) (a1 : Nat) (a2 : List Nat) (a3 : List Nat) (a4 : List Nat) : Statement (.scrubFrameCompare a0 a1 a2 a3 a4) := none_of rfl
theorem scrubRestore (a0 : Nat) (a1 : Nat) : Statement (.scrubRestore a0 a1) := none_of rfl
theorem scrubStateParityCheck (a0 : Nat) (a1 : Nat) (a2 : List Nat) : Statement (.scrubStateParityCheck a0 a1 a2) := none_of rfl
theorem octCfgWrite (a0 : Src) (a1 : Nat) (a2 : Word) : Statement (.octCfgWrite a0 a1 a2) :=
  some_of rfl and_r
theorem ethRxFrame (a0 : Nat) (a1 : List Byte) (a2 : Bool) (a3 : Nat) (a4 : Nat) (a5 : Bool) (a6 : Nat) (a7 : Nat) : Statement (.ethRxFrame a0 a1 a2 a3 a4 a5 a6 a7) := none_of rfl
theorem ethTxFrame (a0 : Nat) (a1 : Nat) (a2 : Nat) : Statement (.ethTxFrame a0 a1 a2) := none_of rfl
theorem txtsRead (a0 : Nat) : Statement (.txtsRead a0) := none_of rfl
theorem rawRxItem (a0 : Nat) (a1 : Nat) (a2 : Bool) : Statement (.rawRxItem a0 a1 a2) := none_of rfl
theorem rawTxItem (a0 : Nat) : Statement (.rawTxItem a0) := none_of rfl
theorem laneRestart (a0 : Src) (a1 : Nat) (a2 : Word) : Statement (.laneRestart a0 a1 a2) :=
  some_of rfl and_r
theorem detectStep (a0 : Nat) (a1 : Bool) : Statement (.detectStep a0 a1) := none_of rfl
theorem trainingFrame (a0 : Nat) (a1 : Nat) (a2 : Nat) (a3 : Nat) (a4 : Bool) : Statement (.trainingFrame a0 a1 a2 a3 a4) := none_of rfl
theorem lockFrame (a0 : Nat) (a1 : Bool) (a2 : Bool) : Statement (.lockFrame a0 a1 a2) := none_of rfl
theorem capabilityFrame (a0 : Nat) (a1 : Option (Nat × Nat)) : Statement (.capabilityFrame a0 a1) := none_of rfl
theorem laneTimerExpiry (a0 : Nat) : Statement (.laneTimerExpiry a0) := none_of rfl
theorem losAssert (a0 : Nat) : Statement (.losAssert a0) := none_of rfl
theorem lolAssert (a0 : Nat) : Statement (.lolAssert a0) := none_of rfl
theorem faultRestartTimer (a0 : Nat) : Statement (.faultRestartTimer a0) := none_of rfl
theorem prbsInject (a0 : Src) (a1 : Nat) (a2 : Word) : Statement (.prbsInject a0 a1 a2) :=
  some_of rfl and_r
theorem lanePrbsWrite (a0 : Src) (a1 : Nat) (a2 : Word) : Statement (.lanePrbsWrite a0 a1 a2) :=
  some_of rfl and_r
theorem elementRecalStart (a0 : Nat) (a1 : Nat) : Statement (.elementRecalStart a0 a1) := none_of rfl
theorem elementRecalDone (a0 : Nat) (a1 : Bool) (a2 : Nat) (a3 : Nat) (a4 : Nat) : Statement (.elementRecalDone a0 a1 a2 a3 a4) := none_of rfl
theorem oscStable (a0 : Nat) : Statement (.oscStable a0) := none_of rfl
theorem pllLock (a0 : Nat) (a1 : Nat) : Statement (.pllLock a0 a1) := none_of rfl
theorem pllLockDrop (a0 : Nat) (a1 : Nat) : Statement (.pllLockDrop a0 a1) := none_of rfl
theorem clkFabWrite (a0 : Src) (a1 : Nat) (a2 : Word) : Statement (.clkFabWrite a0 a1 a2) :=
  some_of rfl and_r
theorem monitorWindowEnd (a0 : Nat) (a1 : Nat) : Statement (.monitorWindowEnd a0 a1) := none_of rfl
theorem twinBlankEnd (a0 : Nat) (a1 : List Nat) : Statement (.twinBlankEnd a0 a1) := none_of rfl
theorem rampDwellEnd (a0 : Nat) : Statement (.rampDwellEnd a0) := none_of rfl
theorem dividerStep (a0 : Nat) (a1 : Nat) : Statement (.dividerStep a0 a1) := none_of rfl
theorem clkReturn (m : Nat) (w : Option (Src × Word)) : Statement (.clkReturn m w) := by
  intro hi s hs
  cases w with
  | none => cases hs
  | some x =>
    cases hs
    simp only [Instr.wf, Option.all_some, Bool.and_eq_true] at hi
    exact hi.2
theorem deviceTimeTick : Statement (.deviceTimeTick) := none_of rfl
theorem clkoutWrite (a0 : Src) (a1 : Nat) (a2 : Word) : Statement (.clkoutWrite a0 a1 a2) :=
  some_of rfl and_r
theorem domainPowerDown (a0 : Src) (a1 : Nat) (a2 : Word) : Statement (.domainPowerDown a0 a1 a2) :=
  some_of rfl and_r
theorem domainPowerUp (a0 : Src) (a1 : Nat) (a2 : Word) : Statement (.domainPowerUp a0 a1 a2) :=
  some_of rfl and_r
theorem quiesceDone (a0 : Nat) (a1 : Bool) (a2 : Bool) (a3 : Bool) (a4 : Bool) : Statement (.quiesceDone a0 a1 a2 a3 a4) := none_of rfl
theorem isolateDone (a0 : Nat) : Statement (.isolateDone a0) := none_of rfl
theorem gateDone (a0 : Nat) : Statement (.gateDone a0) := none_of rfl
theorem rampSlotFree : Statement (.rampSlotFree) := none_of rfl
theorem rampDone (a0 : Nat) : Statement (.rampDone a0) := none_of rfl
theorem initDone (a0 : Nat) : Statement (.initDone a0) := none_of rfl
theorem measurementInterval (a0 : Nat) (a1 : List (Option Int × Option Int)) : Statement (.measurementInterval a0 a1) := none_of rfl
theorem throttleRiseTimer (a0 : Nat) : Statement (.throttleRiseTimer a0) := none_of rfl
theorem throttleRecoveryTimer (a0 : Nat) : Statement (.throttleRecoveryTimer a0) := none_of rfl
theorem thermalLevelUpdate (a0 : Nat) : Statement (.thermalLevelUpdate a0) := none_of rfl
theorem graceEnd (a0 : Nat) : Statement (.graceEnd a0) := none_of rfl
theorem exemptCheck (a0 : Nat) : Statement (.exemptCheck a0) := none_of rfl
theorem hardwareTrip (a0 : Nat) : Statement (.hardwareTrip a0) := none_of rfl
theorem converterRotate (a0 : Nat) (a1 : Nat) (a2 : List Nat) : Statement (.converterRotate a0 a1 a2) := none_of rfl
theorem railMeasure (a0 : List (Nat × Nat)) (a1 : List Nat) : Statement (.railMeasure a0 a1) := none_of rfl
theorem hluLevelTimer : Statement (.hluLevelTimer) := none_of rfl
theorem thmLimitsWrite (a0 : Src) (a1 : Word) : Statement (.thmLimitsWrite a0 a1) :=
  some_of rfl id
theorem hluBoardWrite (a0 : Src) (a1 : Nat) (a2 : Word) : Statement (.hluBoardWrite a0 a1 a2) :=
  some_of rfl and_r
theorem hluLock (a0 : Src) (a1 : Word) : Statement (.hluLock a0 a1) :=
  some_of rfl id
theorem lockstepMismatch : Statement (.lockstepMismatch) := none_of rfl
theorem watchdogExpiry : Statement (.watchdogExpiry) := none_of rfl
theorem fwRestart (a0 : Src) (a1 : Word) : Statement (.fwRestart a0 a1) :=
  some_of rfl id
theorem controllerOpen : Statement (.controllerOpen) := none_of rfl
theorem mbxRing (a0 : Src) (a1 : Nat) (a2 : Word) (a3 : List Byte) : Statement (.mbxRing a0 a1 a2 a3) :=
  some_of rfl and_r
theorem mbxAck (a0 : Src) (a1 : Nat) (a2 : Word) : Statement (.mbxAck a0 a1 a2) :=
  some_of rfl and_r
theorem mbxAbort (a0 : Src) (a1 : Nat) (a2 : Word) : Statement (.mbxAbort a0 a1 a2) :=
  some_of rfl and_r
theorem pageTimerExpiry (a0 : Nat) : Statement (.pageTimerExpiry a0) := none_of rfl
theorem mctpMessage (a0 : Nat) (a1 : List Byte) : Statement (.mctpMessage a0 a1) := none_of rfl
theorem setEndpointId (a0 : Nat) : Statement (.setEndpointId a0) := none_of rfl
theorem getEndpointId : Statement (.getEndpointId) := none_of rfl
theorem getMctpVersionSupport (a0 : Nat) : Statement (.getMctpVersionSupport a0) := none_of rfl
theorem getMessageTypeSupport : Statement (.getMessageTypeSupport) := none_of rfl
theorem getVendorDefinedMsgSupport (a0 : Nat) : Statement (.getVendorDefinedMsgSupport a0) := none_of rfl
theorem devInfo (a0 : Nat) : Statement (.devInfo a0) := none_of rfl
theorem devTime (a0 : Nat) : Statement (.devTime a0) := none_of rfl
theorem otpStep (a0 : Nat) (a1 : Bool) : Statement (.otpStep a0 a1) := none_of rfl
theorem otpStepTimeout : Statement (.otpStepTimeout) := none_of rfl
theorem otpBoard (a0 : Nat) (a1 : Bool) : Statement (.otpBoard a0 a1) := none_of rfl
theorem benchAssign (a0 : Nat) : Statement (.benchAssign a0) := none_of rfl
theorem gangFormCmd (a0 : Nat) : Statement (.gangFormCmd a0) := none_of rfl
theorem gangDissolveCmd (a0 : Nat) : Statement (.gangDissolveCmd a0) := none_of rfl
theorem mfenceSet (a0 : Nat) : Statement (.mfenceSet a0) := none_of rfl
theorem hwinSet (a0 : Nat) : Statement (.hwinSet a0) := none_of rfl
theorem laneFence (a0 : Nat) : Statement (.laneFence a0) := none_of rfl
theorem wbSet (a0 : Nat) : Statement (.wbSet a0) := none_of rfl
theorem pcapSet (a0 : Nat) : Statement (.pcapSet a0) := none_of rfl
theorem hopperSet (a0 : Nat) : Statement (.hopperSet a0) := none_of rfl
theorem declApply (a0 : Nat) : Statement (.declApply a0) := none_of rfl
theorem benchStatus (a0 : Nat) : Statement (.benchStatus a0) := none_of rfl
theorem slotCopy (a0 : Nat) : Statement (.slotCopy a0) := none_of rfl
theorem slotOwner (a0 : Nat) : Statement (.slotOwner a0) := none_of rfl
theorem slotRelease (a0 : Nat) : Statement (.slotRelease a0) := none_of rfl
theorem slotList (a0 : Nat) : Statement (.slotList a0) := none_of rfl
theorem scrubSet (a0 : Nat) (a1 : Bool) : Statement (.scrubSet a0 a1) := none_of rfl
theorem octetCfg (a0 : Nat) : Statement (.octetCfg a0) := none_of rfl
theorem laneStatus (a0 : Nat) : Statement (.laneStatus a0) := none_of rfl
theorem laneRestartCmd (a0 : Nat) : Statement (.laneRestartCmd a0) := none_of rfl
theorem domainSet (a0 : Nat) : Statement (.domainSet a0) := none_of rfl
theorem domainList (a0 : Nat) : Statement (.domainList a0) := none_of rfl
theorem thmSet (a0 : Nat) : Statement (.thmSet a0) := none_of rfl
theorem telemetry (a0 : Nat) : Statement (.telemetry a0) := none_of rfl
theorem hluFwSet (a0 : Nat) : Statement (.hluFwSet a0) := none_of rfl
theorem calRead (a0 : Nat) : Statement (.calRead a0) := none_of rfl
theorem calWrite (a0 : Nat) : Statement (.calWrite a0) := none_of rfl
theorem spoilRead (a0 : Nat) : Statement (.spoilRead a0) := none_of rfl
theorem spoilClear (a0 : Nat) (a1 : Bool) : Statement (.spoilClear a0 a1) := none_of rfl
theorem routerRetire (a0 : Nat) : Statement (.routerRetire a0) := none_of rfl
theorem columnShift (a0 : Nat) : Statement (.columnShift a0) := none_of rfl
theorem wplRingRead (a0 : Nat) : Statement (.wplRingRead a0) := none_of rfl
theorem wplFreeze (a0 : Nat) : Statement (.wplFreeze a0) := none_of rfl
theorem wplResume (a0 : Nat) : Statement (.wplResume a0) := none_of rfl
theorem wplRecordList (a0 : Nat) : Statement (.wplRecordList a0) := none_of rfl
theorem wplRecordRead (a0 : Nat) : Statement (.wplRecordRead a0) := none_of rfl
theorem fwWrite (a0 : Nat) (a1 : List Byte) : Statement (.fwWrite a0 a1) := none_of rfl
theorem fwVerify (a0 : Nat) : Statement (.fwVerify a0) := none_of rfl
theorem fwActivate (a0 : Nat) : Statement (.fwActivate a0) := none_of rfl
theorem fwMinSvn (a0 : Nat) (a1 : Bool) : Statement (.fwMinSvn a0 a1) := none_of rfl
theorem tmuxUnlock (a0 : Nat) : Statement (.tmuxUnlock a0) := none_of rfl
theorem tmuxSelect (a0 : Nat) : Statement (.tmuxSelect a0) := none_of rfl
theorem dbgEnChange (a0 : Bool) : Statement (.dbgEnChange a0) := none_of rfl
theorem weapelEntry : Statement (.weapelEntry) := none_of rfl
theorem recordCopyDone (a0 : Bool) : Statement (.recordCopyDone a0) := none_of rfl
theorem wplCtlFreeze (a0 : Src) (a1 : Word) : Statement (.wplCtlFreeze a0 a1) :=
  some_of rfl id
theorem wplCtlResume (a0 : Src) (a1 : Word) : Statement (.wplCtlResume a0 a1) :=
  some_of rfl id
theorem floorReset (a0 : Src) (a1 : Word) : Statement (.floorReset a0 a1) :=
  some_of rfl id
theorem floorResetEnterDone : Statement (.floorResetEnterDone) := none_of rfl
theorem floorResetHoldEnd : Statement (.floorResetHoldEnd) := none_of rfl
theorem floorResetReleaseDone (a0 : List (Nat × List Nat)) : Statement (.floorResetReleaseDone a0) := none_of rfl
theorem ddrTrain (a0 : Src) (a1 : Nat) (a2 : Word) : Statement (.ddrTrain a0 a1 a2) :=
  some_of rfl and_r
theorem ddrTrainingDone (a0 : Nat) (a1 : Option Nat) (a2 : Bool) (a3 : Nat) : Statement (.ddrTrainingDone a0 a1 a2 a3) := none_of rfl
theorem ddrSelfrefEntryDone (a0 : Nat) : Statement (.ddrSelfrefEntryDone a0) := none_of rfl
theorem tapReset : Statement (.tapReset) := none_of rfl
theorem tapBypass : Statement (.tapBypass) := none_of rfl
theorem tapIdcode : Statement (.tapIdcode) := none_of rfl
theorem tapSamplePreload : Statement (.tapSamplePreload) := none_of rfl
theorem tapExtest : Statement (.tapExtest) := none_of rfl
theorem tapClamp : Statement (.tapClamp) := none_of rfl
theorem tapHighz : Statement (.tapHighz) := none_of rfl
theorem tapExtestPulse : Statement (.tapExtestPulse) := none_of rfl
theorem tapExtestTrain : Statement (.tapExtestTrain) := none_of rfl
theorem railDown (a0 : Nat) : Statement (.railDown a0) := none_of rfl
theorem losClear (a0 : Nat) : Statement (.losClear a0) := none_of rfl
theorem readingLoLatchesHi (a0 : Src) (a1 : Reg) (a2 : Nat) : Statement (.readingLoLatchesHi a0 a1 a2) :=
  some_of rfl and_l
theorem cataloguedTimeExceeded (a0 : Nat) : Statement (.cataloguedTimeExceeded a0) := none_of rfl
theorem autoNegotiationPage (a0 : Nat) (a1 : Bool) (a2 : Bool) : Statement (.autoNegotiationPage a0 a1 a2) := none_of rfl
theorem linkTrainingFrame (a0 : Nat) (a1 : Bool) : Statement (.linkTrainingFrame a0 a1) := none_of rfl
theorem dynamicAddressAssignment (a0 : Nat) : Statement (.dynamicAddressAssignment a0) := none_of rfl

end Sys2Proof.Laws.Wf
end

