-- ==== Sys2Proof/Laws/State.lean ====
section
/-!
SUPPORT. One lemma for each part of the state and each plain update: what the update leaves alone.
-/

namespace Sys2Proof.Machine

@[simp] theorem State.setReg_pending (s : State) (r : Reg) (i : Nat) (v : Word) : (s.setReg r i v).pending = s.pending := rfl
@[simp] theorem State.setReg_time (s : State) (r : Reg) (i : Nat) (v : Word) : (s.setReg r i v).time = s.time := rfl
@[simp] theorem State.setReg_freeCtr (s : State) (r : Reg) (i : Nat) (v : Word) : (s.setReg r i v).freeCtr = s.freeCtr := rfl
@[simp] theorem State.setReg_out (s : State) (r : Reg) (i : Nat) (v : Word) : (s.setReg r i v).out = s.out := rfl
@[simp] theorem State.setReg_collector (s : State) (r : Reg) (i : Nat) (v : Word) : (s.setReg r i v).collector = s.collector := rfl
@[simp] theorem State.setReg_wpl (s : State) (r : Reg) (i : Nat) (v : Word) : (s.setReg r i v).wpl = s.wpl := rfl
@[simp] theorem State.setReg_hluLogged (s : State) (r : Reg) (i : Nat) (v : Word) : (s.setReg r i v).hluLogged = s.hluLogged := rfl
@[simp] theorem State.setReg_bores (s : State) (r : Reg) (i : Nat) (v : Word) : (s.setReg r i v).bores = s.bores := rfl
@[simp] theorem State.setReg_pcie (s : State) (r : Reg) (i : Nat) (v : Word) : (s.setReg r i v).pcie = s.pcie := rfl
@[simp] theorem State.setReg_tenancy (s : State) (r : Reg) (i : Nat) (v : Word) : (s.setReg r i v).tenancy = s.tenancy := rfl
@[simp] theorem State.setReg_nvs (s : State) (r : Reg) (i : Nat) (v : Word) : (s.setReg r i v).nvs = s.nvs := rfl
@[simp] theorem State.setReg_haul (s : State) (r : Reg) (i : Nat) (v : Word) : (s.setReg r i v).haul = s.haul := rfl
@[simp] theorem State.setReg_planes (s : State) (r : Reg) (i : Nat) (v : Word) : (s.setReg r i v).planes = s.planes := rfl
@[simp] theorem State.setReg_slots (s : State) (r : Reg) (i : Nat) (v : Word) : (s.setReg r i v).slots = s.slots := rfl
@[simp] theorem State.setReg_loads (s : State) (r : Reg) (i : Nat) (v : Word) : (s.setReg r i v).loads = s.loads := rfl
@[simp] theorem State.setReg_memt (s : State) (r : Reg) (i : Nat) (v : Word) : (s.setReg r i v).memt = s.memt := rfl
@[simp] theorem State.setReg_floorReset (s : State) (r : Reg) (i : Nat) (v : Word) : (s.setReg r i v).floorReset = s.floorReset := rfl
@[simp] theorem State.setReg_repair (s : State) (r : Reg) (i : Nat) (v : Word) : (s.setReg r i v).repair = s.repair := rfl
@[simp] theorem State.setReg_power (s : State) (r : Reg) (i : Nat) (v : Word) : (s.setReg r i v).power = s.power := rfl
@[simp] theorem State.setReg_thermal (s : State) (r : Reg) (i : Nat) (v : Word) : (s.setReg r i v).thermal = s.thermal := rfl
@[simp] theorem State.setReg_mbx (s : State) (r : Reg) (i : Nat) (v : Word) : (s.setReg r i v).mbx = s.mbx := rfl
@[simp] theorem State.setReg_fw (s : State) (r : Reg) (i : Nat) (v : Word) : (s.setReg r i v).fw = s.fw := rfl
@[simp] theorem State.setReg_side (s : State) (r : Reg) (i : Nat) (v : Word) : (s.setReg r i v).side = s.side := rfl
@[simp] theorem State.setReg_scrub (s : State) (r : Reg) (i : Nat) (v : Word) : (s.setReg r i v).scrub = s.scrub := rfl
@[simp] theorem State.setReg_hports (s : State) (r : Reg) (i : Nat) (v : Word) : (s.setReg r i v).hports = s.hports := rfl
@[simp] theorem State.setReg_ddr (s : State) (r : Reg) (i : Nat) (v : Word) : (s.setReg r i v).ddr = s.ddr := rfl
@[simp] theorem State.setReg_lanes (s : State) (r : Reg) (i : Nat) (v : Word) : (s.setReg r i v).lanes = s.lanes := rfl
@[simp] theorem State.setReg_clocks (s : State) (r : Reg) (i : Nat) (v : Word) : (s.setReg r i v).clocks = s.clocks := rfl
@[simp] theorem State.setReg_cal (s : State) (r : Reg) (i : Nat) (v : Word) : (s.setReg r i v).cal = s.cal := rfl
@[simp] theorem State.setReg_hoppers (s : State) (r : Reg) (i : Nat) (v : Word) : (s.setReg r i v).hoppers = s.hoppers := rfl
@[simp] theorem State.setReg_timers (s : State) (r : Reg) (i : Nat) (v : Word) : (s.setReg r i v).timers = s.timers := rfl

@[simp] theorem State.set_pending (s : State) (f : Fld) (i : Nat) (x : Nat) : (s.set f i x).pending = s.pending := rfl
@[simp] theorem State.set_time (s : State) (f : Fld) (i : Nat) (x : Nat) : (s.set f i x).time = s.time := rfl
@[simp] theorem State.set_freeCtr (s : State) (f : Fld) (i : Nat) (x : Nat) : (s.set f i x).freeCtr = s.freeCtr := rfl
@[simp] theorem State.set_out (s : State) (f : Fld) (i : Nat) (x : Nat) : (s.set f i x).out = s.out := rfl
@[simp] theorem State.set_collector (s : State) (f : Fld) (i : Nat) (x : Nat) : (s.set f i x).collector = s.collector := rfl
@[simp] theorem State.set_wpl (s : State) (f : Fld) (i : Nat) (x : Nat) : (s.set f i x).wpl = s.wpl := rfl
@[simp] theorem State.set_hluLogged (s : State) (f : Fld) (i : Nat) (x : Nat) : (s.set f i x).hluLogged = s.hluLogged := rfl
@[simp] theorem State.set_bores (s : State) (f : Fld) (i : Nat) (x : Nat) : (s.set f i x).bores = s.bores := rfl
@[simp] theorem State.set_pcie (s : State) (f : Fld) (i : Nat) (x : Nat) : (s.set f i x).pcie = s.pcie := rfl
@[simp] theorem State.set_tenancy (s : State) (f : Fld) (i : Nat) (x : Nat) : (s.set f i x).tenancy = s.tenancy := rfl
@[simp] theorem State.set_nvs (s : State) (f : Fld) (i : Nat) (x : Nat) : (s.set f i x).nvs = s.nvs := rfl
@[simp] theorem State.set_haul (s : State) (f : Fld) (i : Nat) (x : Nat) : (s.set f i x).haul = s.haul := rfl
@[simp] theorem State.set_planes (s : State) (f : Fld) (i : Nat) (x : Nat) : (s.set f i x).planes = s.planes := rfl
@[simp] theorem State.set_slots (s : State) (f : Fld) (i : Nat) (x : Nat) : (s.set f i x).slots = s.slots := rfl
@[simp] theorem State.set_loads (s : State) (f : Fld) (i : Nat) (x : Nat) : (s.set f i x).loads = s.loads := rfl
@[simp] theorem State.set_memt (s : State) (f : Fld) (i : Nat) (x : Nat) : (s.set f i x).memt = s.memt := rfl
@[simp] theorem State.set_floorReset (s : State) (f : Fld) (i : Nat) (x : Nat) : (s.set f i x).floorReset = s.floorReset := rfl
@[simp] theorem State.set_repair (s : State) (f : Fld) (i : Nat) (x : Nat) : (s.set f i x).repair = s.repair := rfl
@[simp] theorem State.set_power (s : State) (f : Fld) (i : Nat) (x : Nat) : (s.set f i x).power = s.power := rfl
@[simp] theorem State.set_thermal (s : State) (f : Fld) (i : Nat) (x : Nat) : (s.set f i x).thermal = s.thermal := rfl
@[simp] theorem State.set_mbx (s : State) (f : Fld) (i : Nat) (x : Nat) : (s.set f i x).mbx = s.mbx := rfl
@[simp] theorem State.set_fw (s : State) (f : Fld) (i : Nat) (x : Nat) : (s.set f i x).fw = s.fw := rfl
@[simp] theorem State.set_side (s : State) (f : Fld) (i : Nat) (x : Nat) : (s.set f i x).side = s.side := rfl
@[simp] theorem State.set_scrub (s : State) (f : Fld) (i : Nat) (x : Nat) : (s.set f i x).scrub = s.scrub := rfl
@[simp] theorem State.set_hports (s : State) (f : Fld) (i : Nat) (x : Nat) : (s.set f i x).hports = s.hports := rfl
@[simp] theorem State.set_ddr (s : State) (f : Fld) (i : Nat) (x : Nat) : (s.set f i x).ddr = s.ddr := rfl
@[simp] theorem State.set_lanes (s : State) (f : Fld) (i : Nat) (x : Nat) : (s.set f i x).lanes = s.lanes := rfl
@[simp] theorem State.set_clocks (s : State) (f : Fld) (i : Nat) (x : Nat) : (s.set f i x).clocks = s.clocks := rfl
@[simp] theorem State.set_cal (s : State) (f : Fld) (i : Nat) (x : Nat) : (s.set f i x).cal = s.cal := rfl
@[simp] theorem State.set_hoppers (s : State) (f : Fld) (i : Nat) (x : Nat) : (s.set f i x).hoppers = s.hoppers := rfl
@[simp] theorem State.set_timers (s : State) (f : Fld) (i : Nat) (x : Nat) : (s.set f i x).timers = s.timers := rfl

@[simp] theorem State.incBy_pending (s : State) (f : Fld) (i : Nat) (n : Nat) : (s.incBy f i n).pending = s.pending := rfl
@[simp] theorem State.incBy_time (s : State) (f : Fld) (i : Nat) (n : Nat) : (s.incBy f i n).time = s.time := rfl
@[simp] theorem State.incBy_freeCtr (s : State) (f : Fld) (i : Nat) (n : Nat) : (s.incBy f i n).freeCtr = s.freeCtr := rfl
@[simp] theorem State.incBy_out (s : State) (f : Fld) (i : Nat) (n : Nat) : (s.incBy f i n).out = s.out := rfl
@[simp] theorem State.incBy_collector (s : State) (f : Fld) (i : Nat) (n : Nat) : (s.incBy f i n).collector = s.collector := rfl
@[simp] theorem State.incBy_wpl (s : State) (f : Fld) (i : Nat) (n : Nat) : (s.incBy f i n).wpl = s.wpl := rfl
@[simp] theorem State.incBy_hluLogged (s : State) (f : Fld) (i : Nat) (n : Nat) : (s.incBy f i n).hluLogged = s.hluLogged := rfl
@[simp] theorem State.incBy_bores (s : State) (f : Fld) (i : Nat) (n : Nat) : (s.incBy f i n).bores = s.bores := rfl
@[simp] theorem State.incBy_pcie (s : State) (f : Fld) (i : Nat) (n : Nat) : (s.incBy f i n).pcie = s.pcie := rfl
@[simp] theorem State.incBy_tenancy (s : State) (f : Fld) (i : Nat) (n : Nat) : (s.incBy f i n).tenancy = s.tenancy := rfl
@[simp] theorem State.incBy_nvs (s : State) (f : Fld) (i : Nat) (n : Nat) : (s.incBy f i n).nvs = s.nvs := rfl
@[simp] theorem State.incBy_haul (s : State) (f : Fld) (i : Nat) (n : Nat) : (s.incBy f i n).haul = s.haul := rfl
@[simp] theorem State.incBy_planes (s : State) (f : Fld) (i : Nat) (n : Nat) : (s.incBy f i n).planes = s.planes := rfl
@[simp] theorem State.incBy_slots (s : State) (f : Fld) (i : Nat) (n : Nat) : (s.incBy f i n).slots = s.slots := rfl
@[simp] theorem State.incBy_loads (s : State) (f : Fld) (i : Nat) (n : Nat) : (s.incBy f i n).loads = s.loads := rfl
@[simp] theorem State.incBy_memt (s : State) (f : Fld) (i : Nat) (n : Nat) : (s.incBy f i n).memt = s.memt := rfl
@[simp] theorem State.incBy_floorReset (s : State) (f : Fld) (i : Nat) (n : Nat) : (s.incBy f i n).floorReset = s.floorReset := rfl
@[simp] theorem State.incBy_repair (s : State) (f : Fld) (i : Nat) (n : Nat) : (s.incBy f i n).repair = s.repair := rfl
@[simp] theorem State.incBy_power (s : State) (f : Fld) (i : Nat) (n : Nat) : (s.incBy f i n).power = s.power := rfl
@[simp] theorem State.incBy_thermal (s : State) (f : Fld) (i : Nat) (n : Nat) : (s.incBy f i n).thermal = s.thermal := rfl
@[simp] theorem State.incBy_mbx (s : State) (f : Fld) (i : Nat) (n : Nat) : (s.incBy f i n).mbx = s.mbx := rfl
@[simp] theorem State.incBy_fw (s : State) (f : Fld) (i : Nat) (n : Nat) : (s.incBy f i n).fw = s.fw := rfl
@[simp] theorem State.incBy_side (s : State) (f : Fld) (i : Nat) (n : Nat) : (s.incBy f i n).side = s.side := rfl
@[simp] theorem State.incBy_scrub (s : State) (f : Fld) (i : Nat) (n : Nat) : (s.incBy f i n).scrub = s.scrub := rfl
@[simp] theorem State.incBy_hports (s : State) (f : Fld) (i : Nat) (n : Nat) : (s.incBy f i n).hports = s.hports := rfl
@[simp] theorem State.incBy_ddr (s : State) (f : Fld) (i : Nat) (n : Nat) : (s.incBy f i n).ddr = s.ddr := rfl
@[simp] theorem State.incBy_lanes (s : State) (f : Fld) (i : Nat) (n : Nat) : (s.incBy f i n).lanes = s.lanes := rfl
@[simp] theorem State.incBy_clocks (s : State) (f : Fld) (i : Nat) (n : Nat) : (s.incBy f i n).clocks = s.clocks := rfl
@[simp] theorem State.incBy_cal (s : State) (f : Fld) (i : Nat) (n : Nat) : (s.incBy f i n).cal = s.cal := rfl
@[simp] theorem State.incBy_hoppers (s : State) (f : Fld) (i : Nat) (n : Nat) : (s.incBy f i n).hoppers = s.hoppers := rfl
@[simp] theorem State.incBy_timers (s : State) (f : Fld) (i : Nat) (n : Nat) : (s.incBy f i n).timers = s.timers := rfl

@[simp] theorem State.inc_pending (s : State) (f : Fld) (i : Nat) : (s.inc f i).pending = s.pending := rfl
@[simp] theorem State.inc_time (s : State) (f : Fld) (i : Nat) : (s.inc f i).time = s.time := rfl
@[simp] theorem State.inc_freeCtr (s : State) (f : Fld) (i : Nat) : (s.inc f i).freeCtr = s.freeCtr := rfl
@[simp] theorem State.inc_out (s : State) (f : Fld) (i : Nat) : (s.inc f i).out = s.out := rfl
@[simp] theorem State.inc_collector (s : State) (f : Fld) (i : Nat) : (s.inc f i).collector = s.collector := rfl
@[simp] theorem State.inc_wpl (s : State) (f : Fld) (i : Nat) : (s.inc f i).wpl = s.wpl := rfl
@[simp] theorem State.inc_hluLogged (s : State) (f : Fld) (i : Nat) : (s.inc f i).hluLogged = s.hluLogged := rfl
@[simp] theorem State.inc_bores (s : State) (f : Fld) (i : Nat) : (s.inc f i).bores = s.bores := rfl
@[simp] theorem State.inc_pcie (s : State) (f : Fld) (i : Nat) : (s.inc f i).pcie = s.pcie := rfl
@[simp] theorem State.inc_tenancy (s : State) (f : Fld) (i : Nat) : (s.inc f i).tenancy = s.tenancy := rfl
@[simp] theorem State.inc_nvs (s : State) (f : Fld) (i : Nat) : (s.inc f i).nvs = s.nvs := rfl
@[simp] theorem State.inc_haul (s : State) (f : Fld) (i : Nat) : (s.inc f i).haul = s.haul := rfl
@[simp] theorem State.inc_planes (s : State) (f : Fld) (i : Nat) : (s.inc f i).planes = s.planes := rfl
@[simp] theorem State.inc_slots (s : State) (f : Fld) (i : Nat) : (s.inc f i).slots = s.slots := rfl
@[simp] theorem State.inc_loads (s : State) (f : Fld) (i : Nat) : (s.inc f i).loads = s.loads := rfl
@[simp] theorem State.inc_memt (s : State) (f : Fld) (i : Nat) : (s.inc f i).memt = s.memt := rfl
@[simp] theorem State.inc_floorReset (s : State) (f : Fld) (i : Nat) : (s.inc f i).floorReset = s.floorReset := rfl
@[simp] theorem State.inc_repair (s : State) (f : Fld) (i : Nat) : (s.inc f i).repair = s.repair := rfl
@[simp] theorem State.inc_power (s : State) (f : Fld) (i : Nat) : (s.inc f i).power = s.power := rfl
@[simp] theorem State.inc_thermal (s : State) (f : Fld) (i : Nat) : (s.inc f i).thermal = s.thermal := rfl
@[simp] theorem State.inc_mbx (s : State) (f : Fld) (i : Nat) : (s.inc f i).mbx = s.mbx := rfl
@[simp] theorem State.inc_fw (s : State) (f : Fld) (i : Nat) : (s.inc f i).fw = s.fw := rfl
@[simp] theorem State.inc_side (s : State) (f : Fld) (i : Nat) : (s.inc f i).side = s.side := rfl
@[simp] theorem State.inc_scrub (s : State) (f : Fld) (i : Nat) : (s.inc f i).scrub = s.scrub := rfl
@[simp] theorem State.inc_hports (s : State) (f : Fld) (i : Nat) : (s.inc f i).hports = s.hports := rfl
@[simp] theorem State.inc_ddr (s : State) (f : Fld) (i : Nat) : (s.inc f i).ddr = s.ddr := rfl
@[simp] theorem State.inc_lanes (s : State) (f : Fld) (i : Nat) : (s.inc f i).lanes = s.lanes := rfl
@[simp] theorem State.inc_clocks (s : State) (f : Fld) (i : Nat) : (s.inc f i).clocks = s.clocks := rfl
@[simp] theorem State.inc_cal (s : State) (f : Fld) (i : Nat) : (s.inc f i).cal = s.cal := rfl
@[simp] theorem State.inc_hoppers (s : State) (f : Fld) (i : Nat) : (s.inc f i).hoppers = s.hoppers := rfl
@[simp] theorem State.inc_timers (s : State) (f : Fld) (i : Nat) : (s.inc f i).timers = s.timers := rfl

@[simp] theorem State.incWrap_pending (s : State) (f : Fld) (i : Nat) (n : Nat) : (s.incWrap f i n).pending = s.pending := rfl
@[simp] theorem State.incWrap_time (s : State) (f : Fld) (i : Nat) (n : Nat) : (s.incWrap f i n).time = s.time := rfl
@[simp] theorem State.incWrap_freeCtr (s : State) (f : Fld) (i : Nat) (n : Nat) : (s.incWrap f i n).freeCtr = s.freeCtr := rfl
@[simp] theorem State.incWrap_out (s : State) (f : Fld) (i : Nat) (n : Nat) : (s.incWrap f i n).out = s.out := rfl
@[simp] theorem State.incWrap_collector (s : State) (f : Fld) (i : Nat) (n : Nat) : (s.incWrap f i n).collector = s.collector := rfl
@[simp] theorem State.incWrap_wpl (s : State) (f : Fld) (i : Nat) (n : Nat) : (s.incWrap f i n).wpl = s.wpl := rfl
@[simp] theorem State.incWrap_hluLogged (s : State) (f : Fld) (i : Nat) (n : Nat) : (s.incWrap f i n).hluLogged = s.hluLogged := rfl
@[simp] theorem State.incWrap_bores (s : State) (f : Fld) (i : Nat) (n : Nat) : (s.incWrap f i n).bores = s.bores := rfl
@[simp] theorem State.incWrap_pcie (s : State) (f : Fld) (i : Nat) (n : Nat) : (s.incWrap f i n).pcie = s.pcie := rfl
@[simp] theorem State.incWrap_tenancy (s : State) (f : Fld) (i : Nat) (n : Nat) : (s.incWrap f i n).tenancy = s.tenancy := rfl
@[simp] theorem State.incWrap_nvs (s : State) (f : Fld) (i : Nat) (n : Nat) : (s.incWrap f i n).nvs = s.nvs := rfl
@[simp] theorem State.incWrap_haul (s : State) (f : Fld) (i : Nat) (n : Nat) : (s.incWrap f i n).haul = s.haul := rfl
@[simp] theorem State.incWrap_planes (s : State) (f : Fld) (i : Nat) (n : Nat) : (s.incWrap f i n).planes = s.planes := rfl
@[simp] theorem State.incWrap_slots (s : State) (f : Fld) (i : Nat) (n : Nat) : (s.incWrap f i n).slots = s.slots := rfl
@[simp] theorem State.incWrap_loads (s : State) (f : Fld) (i : Nat) (n : Nat) : (s.incWrap f i n).loads = s.loads := rfl
@[simp] theorem State.incWrap_memt (s : State) (f : Fld) (i : Nat) (n : Nat) : (s.incWrap f i n).memt = s.memt := rfl
@[simp] theorem State.incWrap_floorReset (s : State) (f : Fld) (i : Nat) (n : Nat) : (s.incWrap f i n).floorReset = s.floorReset := rfl
@[simp] theorem State.incWrap_repair (s : State) (f : Fld) (i : Nat) (n : Nat) : (s.incWrap f i n).repair = s.repair := rfl
@[simp] theorem State.incWrap_power (s : State) (f : Fld) (i : Nat) (n : Nat) : (s.incWrap f i n).power = s.power := rfl
@[simp] theorem State.incWrap_thermal (s : State) (f : Fld) (i : Nat) (n : Nat) : (s.incWrap f i n).thermal = s.thermal := rfl
@[simp] theorem State.incWrap_mbx (s : State) (f : Fld) (i : Nat) (n : Nat) : (s.incWrap f i n).mbx = s.mbx := rfl
@[simp] theorem State.incWrap_fw (s : State) (f : Fld) (i : Nat) (n : Nat) : (s.incWrap f i n).fw = s.fw := rfl
@[simp] theorem State.incWrap_side (s : State) (f : Fld) (i : Nat) (n : Nat) : (s.incWrap f i n).side = s.side := rfl
@[simp] theorem State.incWrap_scrub (s : State) (f : Fld) (i : Nat) (n : Nat) : (s.incWrap f i n).scrub = s.scrub := rfl
@[simp] theorem State.incWrap_hports (s : State) (f : Fld) (i : Nat) (n : Nat) : (s.incWrap f i n).hports = s.hports := rfl
@[simp] theorem State.incWrap_ddr (s : State) (f : Fld) (i : Nat) (n : Nat) : (s.incWrap f i n).ddr = s.ddr := rfl
@[simp] theorem State.incWrap_lanes (s : State) (f : Fld) (i : Nat) (n : Nat) : (s.incWrap f i n).lanes = s.lanes := rfl
@[simp] theorem State.incWrap_clocks (s : State) (f : Fld) (i : Nat) (n : Nat) : (s.incWrap f i n).clocks = s.clocks := rfl
@[simp] theorem State.incWrap_cal (s : State) (f : Fld) (i : Nat) (n : Nat) : (s.incWrap f i n).cal = s.cal := rfl
@[simp] theorem State.incWrap_hoppers (s : State) (f : Fld) (i : Nat) (n : Nat) : (s.incWrap f i n).hoppers = s.hoppers := rfl
@[simp] theorem State.incWrap_timers (s : State) (f : Fld) (i : Nat) (n : Nat) : (s.incWrap f i n).timers = s.timers := rfl

@[simp] theorem State.clearReg_pending (s : State) (r : Reg) (i : Nat) : (s.clearReg r i).pending = s.pending := rfl
@[simp] theorem State.clearReg_time (s : State) (r : Reg) (i : Nat) : (s.clearReg r i).time = s.time := rfl
@[simp] theorem State.clearReg_freeCtr (s : State) (r : Reg) (i : Nat) : (s.clearReg r i).freeCtr = s.freeCtr := rfl
@[simp] theorem State.clearReg_out (s : State) (r : Reg) (i : Nat) : (s.clearReg r i).out = s.out := rfl
@[simp] theorem State.clearReg_collector (s : State) (r : Reg) (i : Nat) : (s.clearReg r i).collector = s.collector := rfl
@[simp] theorem State.clearReg_wpl (s : State) (r : Reg) (i : Nat) : (s.clearReg r i).wpl = s.wpl := rfl
@[simp] theorem State.clearReg_hluLogged (s : State) (r : Reg) (i : Nat) : (s.clearReg r i).hluLogged = s.hluLogged := rfl
@[simp] theorem State.clearReg_bores (s : State) (r : Reg) (i : Nat) : (s.clearReg r i).bores = s.bores := rfl
@[simp] theorem State.clearReg_pcie (s : State) (r : Reg) (i : Nat) : (s.clearReg r i).pcie = s.pcie := rfl
@[simp] theorem State.clearReg_tenancy (s : State) (r : Reg) (i : Nat) : (s.clearReg r i).tenancy = s.tenancy := rfl
@[simp] theorem State.clearReg_nvs (s : State) (r : Reg) (i : Nat) : (s.clearReg r i).nvs = s.nvs := rfl
@[simp] theorem State.clearReg_haul (s : State) (r : Reg) (i : Nat) : (s.clearReg r i).haul = s.haul := rfl
@[simp] theorem State.clearReg_planes (s : State) (r : Reg) (i : Nat) : (s.clearReg r i).planes = s.planes := rfl
@[simp] theorem State.clearReg_slots (s : State) (r : Reg) (i : Nat) : (s.clearReg r i).slots = s.slots := rfl
@[simp] theorem State.clearReg_loads (s : State) (r : Reg) (i : Nat) : (s.clearReg r i).loads = s.loads := rfl
@[simp] theorem State.clearReg_memt (s : State) (r : Reg) (i : Nat) : (s.clearReg r i).memt = s.memt := rfl
@[simp] theorem State.clearReg_floorReset (s : State) (r : Reg) (i : Nat) : (s.clearReg r i).floorReset = s.floorReset := rfl
@[simp] theorem State.clearReg_repair (s : State) (r : Reg) (i : Nat) : (s.clearReg r i).repair = s.repair := rfl
@[simp] theorem State.clearReg_power (s : State) (r : Reg) (i : Nat) : (s.clearReg r i).power = s.power := rfl
@[simp] theorem State.clearReg_thermal (s : State) (r : Reg) (i : Nat) : (s.clearReg r i).thermal = s.thermal := rfl
@[simp] theorem State.clearReg_mbx (s : State) (r : Reg) (i : Nat) : (s.clearReg r i).mbx = s.mbx := rfl
@[simp] theorem State.clearReg_fw (s : State) (r : Reg) (i : Nat) : (s.clearReg r i).fw = s.fw := rfl
@[simp] theorem State.clearReg_side (s : State) (r : Reg) (i : Nat) : (s.clearReg r i).side = s.side := rfl
@[simp] theorem State.clearReg_scrub (s : State) (r : Reg) (i : Nat) : (s.clearReg r i).scrub = s.scrub := rfl
@[simp] theorem State.clearReg_hports (s : State) (r : Reg) (i : Nat) : (s.clearReg r i).hports = s.hports := rfl
@[simp] theorem State.clearReg_ddr (s : State) (r : Reg) (i : Nat) : (s.clearReg r i).ddr = s.ddr := rfl
@[simp] theorem State.clearReg_lanes (s : State) (r : Reg) (i : Nat) : (s.clearReg r i).lanes = s.lanes := rfl
@[simp] theorem State.clearReg_clocks (s : State) (r : Reg) (i : Nat) : (s.clearReg r i).clocks = s.clocks := rfl
@[simp] theorem State.clearReg_cal (s : State) (r : Reg) (i : Nat) : (s.clearReg r i).cal = s.cal := rfl
@[simp] theorem State.clearReg_hoppers (s : State) (r : Reg) (i : Nat) : (s.clearReg r i).hoppers = s.hoppers := rfl
@[simp] theorem State.clearReg_timers (s : State) (r : Reg) (i : Nat) : (s.clearReg r i).timers = s.timers := rfl

@[simp] theorem State.startTimer_pending (s : State) (k : Nat) : (s.startTimer k).pending = s.pending := rfl
@[simp] theorem State.startTimer_time (s : State) (k : Nat) : (s.startTimer k).time = s.time := rfl
@[simp] theorem State.startTimer_freeCtr (s : State) (k : Nat) : (s.startTimer k).freeCtr = s.freeCtr := rfl
@[simp] theorem State.startTimer_out (s : State) (k : Nat) : (s.startTimer k).out = s.out := rfl
@[simp] theorem State.startTimer_collector (s : State) (k : Nat) : (s.startTimer k).collector = s.collector := rfl
@[simp] theorem State.startTimer_wpl (s : State) (k : Nat) : (s.startTimer k).wpl = s.wpl := rfl
@[simp] theorem State.startTimer_hluLogged (s : State) (k : Nat) : (s.startTimer k).hluLogged = s.hluLogged := rfl
@[simp] theorem State.startTimer_bores (s : State) (k : Nat) : (s.startTimer k).bores = s.bores := rfl
@[simp] theorem State.startTimer_pcie (s : State) (k : Nat) : (s.startTimer k).pcie = s.pcie := rfl
@[simp] theorem State.startTimer_tenancy (s : State) (k : Nat) : (s.startTimer k).tenancy = s.tenancy := rfl
@[simp] theorem State.startTimer_nvs (s : State) (k : Nat) : (s.startTimer k).nvs = s.nvs := rfl
@[simp] theorem State.startTimer_haul (s : State) (k : Nat) : (s.startTimer k).haul = s.haul := rfl
@[simp] theorem State.startTimer_planes (s : State) (k : Nat) : (s.startTimer k).planes = s.planes := rfl
@[simp] theorem State.startTimer_slots (s : State) (k : Nat) : (s.startTimer k).slots = s.slots := rfl
@[simp] theorem State.startTimer_loads (s : State) (k : Nat) : (s.startTimer k).loads = s.loads := rfl
@[simp] theorem State.startTimer_memt (s : State) (k : Nat) : (s.startTimer k).memt = s.memt := rfl
@[simp] theorem State.startTimer_floorReset (s : State) (k : Nat) : (s.startTimer k).floorReset = s.floorReset := rfl
@[simp] theorem State.startTimer_repair (s : State) (k : Nat) : (s.startTimer k).repair = s.repair := rfl
@[simp] theorem State.startTimer_power (s : State) (k : Nat) : (s.startTimer k).power = s.power := rfl
@[simp] theorem State.startTimer_thermal (s : State) (k : Nat) : (s.startTimer k).thermal = s.thermal := rfl
@[simp] theorem State.startTimer_mbx (s : State) (k : Nat) : (s.startTimer k).mbx = s.mbx := rfl
@[simp] theorem State.startTimer_fw (s : State) (k : Nat) : (s.startTimer k).fw = s.fw := rfl
@[simp] theorem State.startTimer_side (s : State) (k : Nat) : (s.startTimer k).side = s.side := rfl
@[simp] theorem State.startTimer_scrub (s : State) (k : Nat) : (s.startTimer k).scrub = s.scrub := rfl
@[simp] theorem State.startTimer_hports (s : State) (k : Nat) : (s.startTimer k).hports = s.hports := rfl
@[simp] theorem State.startTimer_ddr (s : State) (k : Nat) : (s.startTimer k).ddr = s.ddr := rfl
@[simp] theorem State.startTimer_lanes (s : State) (k : Nat) : (s.startTimer k).lanes = s.lanes := rfl
@[simp] theorem State.startTimer_clocks (s : State) (k : Nat) : (s.startTimer k).clocks = s.clocks := rfl
@[simp] theorem State.startTimer_cal (s : State) (k : Nat) : (s.startTimer k).cal = s.cal := rfl
@[simp] theorem State.startTimer_hoppers (s : State) (k : Nat) : (s.startTimer k).hoppers = s.hoppers := rfl
@[simp] theorem State.startTimer_regs (s : State) (k : Nat) : (s.startTimer k).regs = s.regs := rfl
@[simp] theorem State.startTimer_reg (s : State) (k : Nat) (r0 : Reg) (i0 : Nat) : (s.startTimer k).reg r0 i0 = s.reg r0 i0 := rfl
@[simp] theorem State.startTimer_get (s : State) (k : Nat) (f0 : Fld) (i0 : Nat) : (s.startTimer k).get f0 i0 = s.get f0 i0 := rfl
@[simp] theorem State.startTimer_flag (s : State) (k : Nat) (f0 : Fld) (i0 : Nat) : (s.startTimer k).flag f0 i0 = s.flag f0 i0 := rfl

@[simp] theorem State.emit_pending (s : State) (o : Output) : (s.emit o).pending = s.pending := rfl
@[simp] theorem State.emit_time (s : State) (o : Output) : (s.emit o).time = s.time := rfl
@[simp] theorem State.emit_freeCtr (s : State) (o : Output) : (s.emit o).freeCtr = s.freeCtr := rfl
@[simp] theorem State.emit_collector (s : State) (o : Output) : (s.emit o).collector = s.collector := rfl
@[simp] theorem State.emit_wpl (s : State) (o : Output) : (s.emit o).wpl = s.wpl := rfl
@[simp] theorem State.emit_hluLogged (s : State) (o : Output) : (s.emit o).hluLogged = s.hluLogged := rfl
@[simp] theorem State.emit_bores (s : State) (o : Output) : (s.emit o).bores = s.bores := rfl
@[simp] theorem State.emit_pcie (s : State) (o : Output) : (s.emit o).pcie = s.pcie := rfl
@[simp] theorem State.emit_tenancy (s : State) (o : Output) : (s.emit o).tenancy = s.tenancy := rfl
@[simp] theorem State.emit_nvs (s : State) (o : Output) : (s.emit o).nvs = s.nvs := rfl
@[simp] theorem State.emit_haul (s : State) (o : Output) : (s.emit o).haul = s.haul := rfl
@[simp] theorem State.emit_planes (s : State) (o : Output) : (s.emit o).planes = s.planes := rfl
@[simp] theorem State.emit_slots (s : State) (o : Output) : (s.emit o).slots = s.slots := rfl
@[simp] theorem State.emit_loads (s : State) (o : Output) : (s.emit o).loads = s.loads := rfl
@[simp] theorem State.emit_memt (s : State) (o : Output) : (s.emit o).memt = s.memt := rfl
@[simp] theorem State.emit_floorReset (s : State) (o : Output) : (s.emit o).floorReset = s.floorReset := rfl
@[simp] theorem State.emit_repair (s : State) (o : Output) : (s.emit o).repair = s.repair := rfl
@[simp] theorem State.emit_power (s : State) (o : Output) : (s.emit o).power = s.power := rfl
@[simp] theorem State.emit_thermal (s : State) (o : Output) : (s.emit o).thermal = s.thermal := rfl
@[simp] theorem State.emit_mbx (s : State) (o : Output) : (s.emit o).mbx = s.mbx := rfl
@[simp] theorem State.emit_fw (s : State) (o : Output) : (s.emit o).fw = s.fw := rfl
@[simp] theorem State.emit_side (s : State) (o : Output) : (s.emit o).side = s.side := rfl
@[simp] theorem State.emit_scrub (s : State) (o : Output) : (s.emit o).scrub = s.scrub := rfl
@[simp] theorem State.emit_hports (s : State) (o : Output) : (s.emit o).hports = s.hports := rfl
@[simp] theorem State.emit_ddr (s : State) (o : Output) : (s.emit o).ddr = s.ddr := rfl
@[simp] theorem State.emit_lanes (s : State) (o : Output) : (s.emit o).lanes = s.lanes := rfl
@[simp] theorem State.emit_clocks (s : State) (o : Output) : (s.emit o).clocks = s.clocks := rfl
@[simp] theorem State.emit_cal (s : State) (o : Output) : (s.emit o).cal = s.cal := rfl
@[simp] theorem State.emit_hoppers (s : State) (o : Output) : (s.emit o).hoppers = s.hoppers := rfl
@[simp] theorem State.emit_timers (s : State) (o : Output) : (s.emit o).timers = s.timers := rfl
@[simp] theorem State.emit_regs (s : State) (o : Output) : (s.emit o).regs = s.regs := rfl
@[simp] theorem State.emit_reg (s : State) (o : Output) (r0 : Reg) (i0 : Nat) : (s.emit o).reg r0 i0 = s.reg r0 i0 := rfl
@[simp] theorem State.emit_get (s : State) (o : Output) (f0 : Fld) (i0 : Nat) : (s.emit o).get f0 i0 = s.get f0 i0 := rfl
@[simp] theorem State.emit_flag (s : State) (o : Output) (f0 : Fld) (i0 : Nat) : (s.emit o).flag f0 i0 = s.flag f0 i0 := rfl

@[simp] theorem State.raiseWith_pending (s : State) (source : Nat) (bit : Nat) (plane : Nat) (online : Bool) : (s.raiseWith source bit plane online).pending = s.pending := rfl
@[simp] theorem State.raiseWith_time (s : State) (source : Nat) (bit : Nat) (plane : Nat) (online : Bool) : (s.raiseWith source bit plane online).time = s.time := rfl
@[simp] theorem State.raiseWith_freeCtr (s : State) (source : Nat) (bit : Nat) (plane : Nat) (online : Bool) : (s.raiseWith source bit plane online).freeCtr = s.freeCtr := rfl
@[simp] theorem State.raiseWith_out (s : State) (source : Nat) (bit : Nat) (plane : Nat) (online : Bool) : (s.raiseWith source bit plane online).out = s.out := rfl
@[simp] theorem State.raiseWith_wpl (s : State) (source : Nat) (bit : Nat) (plane : Nat) (online : Bool) : (s.raiseWith source bit plane online).wpl = s.wpl := rfl
@[simp] theorem State.raiseWith_hluLogged (s : State) (source : Nat) (bit : Nat) (plane : Nat) (online : Bool) : (s.raiseWith source bit plane online).hluLogged = s.hluLogged := rfl
@[simp] theorem State.raiseWith_bores (s : State) (source : Nat) (bit : Nat) (plane : Nat) (online : Bool) : (s.raiseWith source bit plane online).bores = s.bores := rfl
@[simp] theorem State.raiseWith_pcie (s : State) (source : Nat) (bit : Nat) (plane : Nat) (online : Bool) : (s.raiseWith source bit plane online).pcie = s.pcie := rfl
@[simp] theorem State.raiseWith_tenancy (s : State) (source : Nat) (bit : Nat) (plane : Nat) (online : Bool) : (s.raiseWith source bit plane online).tenancy = s.tenancy := rfl
@[simp] theorem State.raiseWith_nvs (s : State) (source : Nat) (bit : Nat) (plane : Nat) (online : Bool) : (s.raiseWith source bit plane online).nvs = s.nvs := rfl
@[simp] theorem State.raiseWith_haul (s : State) (source : Nat) (bit : Nat) (plane : Nat) (online : Bool) : (s.raiseWith source bit plane online).haul = s.haul := rfl
@[simp] theorem State.raiseWith_planes (s : State) (source : Nat) (bit : Nat) (plane : Nat) (online : Bool) : (s.raiseWith source bit plane online).planes = s.planes := rfl
@[simp] theorem State.raiseWith_slots (s : State) (source : Nat) (bit : Nat) (plane : Nat) (online : Bool) : (s.raiseWith source bit plane online).slots = s.slots := rfl
@[simp] theorem State.raiseWith_loads (s : State) (source : Nat) (bit : Nat) (plane : Nat) (online : Bool) : (s.raiseWith source bit plane online).loads = s.loads := rfl
@[simp] theorem State.raiseWith_memt (s : State) (source : Nat) (bit : Nat) (plane : Nat) (online : Bool) : (s.raiseWith source bit plane online).memt = s.memt := rfl
@[simp] theorem State.raiseWith_floorReset (s : State) (source : Nat) (bit : Nat) (plane : Nat) (online : Bool) : (s.raiseWith source bit plane online).floorReset = s.floorReset := rfl
@[simp] theorem State.raiseWith_repair (s : State) (source : Nat) (bit : Nat) (plane : Nat) (online : Bool) : (s.raiseWith source bit plane online).repair = s.repair := rfl
@[simp] theorem State.raiseWith_power (s : State) (source : Nat) (bit : Nat) (plane : Nat) (online : Bool) : (s.raiseWith source bit plane online).power = s.power := rfl
@[simp] theorem State.raiseWith_thermal (s : State) (source : Nat) (bit : Nat) (plane : Nat) (online : Bool) : (s.raiseWith source bit plane online).thermal = s.thermal := rfl
@[simp] theorem State.raiseWith_mbx (s : State) (source : Nat) (bit : Nat) (plane : Nat) (online : Bool) : (s.raiseWith source bit plane online).mbx = s.mbx := rfl
@[simp] theorem State.raiseWith_fw (s : State) (source : Nat) (bit : Nat) (plane : Nat) (online : Bool) : (s.raiseWith source bit plane online).fw = s.fw := rfl
@[simp] theorem State.raiseWith_side (s : State) (source : Nat) (bit : Nat) (plane : Nat) (online : Bool) : (s.raiseWith source bit plane online).side = s.side := rfl
@[simp] theorem State.raiseWith_scrub (s : State) (source : Nat) (bit : Nat) (plane : Nat) (online : Bool) : (s.raiseWith source bit plane online).scrub = s.scrub := rfl
@[simp] theorem State.raiseWith_hports (s : State) (source : Nat) (bit : Nat) (plane : Nat) (online : Bool) : (s.raiseWith source bit plane online).hports = s.hports := rfl
@[simp] theorem State.raiseWith_ddr (s : State) (source : Nat) (bit : Nat) (plane : Nat) (online : Bool) : (s.raiseWith source bit plane online).ddr = s.ddr := rfl
@[simp] theorem State.raiseWith_lanes (s : State) (source : Nat) (bit : Nat) (plane : Nat) (online : Bool) : (s.raiseWith source bit plane online).lanes = s.lanes := rfl
@[simp] theorem State.raiseWith_clocks (s : State) (source : Nat) (bit : Nat) (plane : Nat) (online : Bool) : (s.raiseWith source bit plane online).clocks = s.clocks := rfl
@[simp] theorem State.raiseWith_cal (s : State) (source : Nat) (bit : Nat) (plane : Nat) (online : Bool) : (s.raiseWith source bit plane online).cal = s.cal := rfl
@[simp] theorem State.raiseWith_hoppers (s : State) (source : Nat) (bit : Nat) (plane : Nat) (online : Bool) : (s.raiseWith source bit plane online).hoppers = s.hoppers := rfl
@[simp] theorem State.raiseWith_timers (s : State) (source : Nat) (bit : Nat) (plane : Nat) (online : Bool) : (s.raiseWith source bit plane online).timers = s.timers := rfl
@[simp] theorem State.raiseWith_regs (s : State) (source : Nat) (bit : Nat) (plane : Nat) (online : Bool) : (s.raiseWith source bit plane online).regs = s.regs := rfl
@[simp] theorem State.raiseWith_reg (s : State) (source : Nat) (bit : Nat) (plane : Nat) (online : Bool) (r0 : Reg) (i0 : Nat) : (s.raiseWith source bit plane online).reg r0 i0 = s.reg r0 i0 := rfl
@[simp] theorem State.raiseWith_get (s : State) (source : Nat) (bit : Nat) (plane : Nat) (online : Bool) (f0 : Fld) (i0 : Nat) : (s.raiseWith source bit plane online).get f0 i0 = s.get f0 i0 := rfl
@[simp] theorem State.raiseWith_flag (s : State) (source : Nat) (bit : Nat) (plane : Nat) (online : Bool) (f0 : Fld) (i0 : Nat) : (s.raiseWith source bit plane online).flag f0 i0 = s.flag f0 i0 := rfl

@[simp] theorem State.raiseBench_pending (s : State) (b : Nat) (bit : Nat) : (s.raiseBench b bit).pending = s.pending := rfl
@[simp] theorem State.raiseBench_time (s : State) (b : Nat) (bit : Nat) : (s.raiseBench b bit).time = s.time := rfl
@[simp] theorem State.raiseBench_freeCtr (s : State) (b : Nat) (bit : Nat) : (s.raiseBench b bit).freeCtr = s.freeCtr := rfl
@[simp] theorem State.raiseBench_out (s : State) (b : Nat) (bit : Nat) : (s.raiseBench b bit).out = s.out := rfl
@[simp] theorem State.raiseBench_wpl (s : State) (b : Nat) (bit : Nat) : (s.raiseBench b bit).wpl = s.wpl := rfl
@[simp] theorem State.raiseBench_hluLogged (s : State) (b : Nat) (bit : Nat) : (s.raiseBench b bit).hluLogged = s.hluLogged := rfl
@[simp] theorem State.raiseBench_bores (s : State) (b : Nat) (bit : Nat) : (s.raiseBench b bit).bores = s.bores := rfl
@[simp] theorem State.raiseBench_pcie (s : State) (b : Nat) (bit : Nat) : (s.raiseBench b bit).pcie = s.pcie := rfl
@[simp] theorem State.raiseBench_tenancy (s : State) (b : Nat) (bit : Nat) : (s.raiseBench b bit).tenancy = s.tenancy := rfl
@[simp] theorem State.raiseBench_nvs (s : State) (b : Nat) (bit : Nat) : (s.raiseBench b bit).nvs = s.nvs := rfl
@[simp] theorem State.raiseBench_haul (s : State) (b : Nat) (bit : Nat) : (s.raiseBench b bit).haul = s.haul := rfl
@[simp] theorem State.raiseBench_planes (s : State) (b : Nat) (bit : Nat) : (s.raiseBench b bit).planes = s.planes := rfl
@[simp] theorem State.raiseBench_slots (s : State) (b : Nat) (bit : Nat) : (s.raiseBench b bit).slots = s.slots := rfl
@[simp] theorem State.raiseBench_loads (s : State) (b : Nat) (bit : Nat) : (s.raiseBench b bit).loads = s.loads := rfl
@[simp] theorem State.raiseBench_memt (s : State) (b : Nat) (bit : Nat) : (s.raiseBench b bit).memt = s.memt := rfl
@[simp] theorem State.raiseBench_floorReset (s : State) (b : Nat) (bit : Nat) : (s.raiseBench b bit).floorReset = s.floorReset := rfl
@[simp] theorem State.raiseBench_repair (s : State) (b : Nat) (bit : Nat) : (s.raiseBench b bit).repair = s.repair := rfl
@[simp] theorem State.raiseBench_power (s : State) (b : Nat) (bit : Nat) : (s.raiseBench b bit).power = s.power := rfl
@[simp] theorem State.raiseBench_thermal (s : State) (b : Nat) (bit : Nat) : (s.raiseBench b bit).thermal = s.thermal := rfl
@[simp] theorem State.raiseBench_mbx (s : State) (b : Nat) (bit : Nat) : (s.raiseBench b bit).mbx = s.mbx := rfl
@[simp] theorem State.raiseBench_fw (s : State) (b : Nat) (bit : Nat) : (s.raiseBench b bit).fw = s.fw := rfl
@[simp] theorem State.raiseBench_side (s : State) (b : Nat) (bit : Nat) : (s.raiseBench b bit).side = s.side := rfl
@[simp] theorem State.raiseBench_scrub (s : State) (b : Nat) (bit : Nat) : (s.raiseBench b bit).scrub = s.scrub := rfl
@[simp] theorem State.raiseBench_hports (s : State) (b : Nat) (bit : Nat) : (s.raiseBench b bit).hports = s.hports := rfl
@[simp] theorem State.raiseBench_ddr (s : State) (b : Nat) (bit : Nat) : (s.raiseBench b bit).ddr = s.ddr := rfl
@[simp] theorem State.raiseBench_lanes (s : State) (b : Nat) (bit : Nat) : (s.raiseBench b bit).lanes = s.lanes := rfl
@[simp] theorem State.raiseBench_clocks (s : State) (b : Nat) (bit : Nat) : (s.raiseBench b bit).clocks = s.clocks := rfl
@[simp] theorem State.raiseBench_cal (s : State) (b : Nat) (bit : Nat) : (s.raiseBench b bit).cal = s.cal := rfl
@[simp] theorem State.raiseBench_hoppers (s : State) (b : Nat) (bit : Nat) : (s.raiseBench b bit).hoppers = s.hoppers := rfl
@[simp] theorem State.raiseBench_timers (s : State) (b : Nat) (bit : Nat) : (s.raiseBench b bit).timers = s.timers := rfl
@[simp] theorem State.raiseBench_regs (s : State) (b : Nat) (bit : Nat) : (s.raiseBench b bit).regs = s.regs := rfl
@[simp] theorem State.raiseBench_reg (s : State) (b : Nat) (bit : Nat) (r0 : Reg) (i0 : Nat) : (s.raiseBench b bit).reg r0 i0 = s.reg r0 i0 := rfl
@[simp] theorem State.raiseBench_get (s : State) (b : Nat) (bit : Nat) (f0 : Fld) (i0 : Nat) : (s.raiseBench b bit).get f0 i0 = s.get f0 i0 := rfl
@[simp] theorem State.raiseBench_flag (s : State) (b : Nat) (bit : Nat) (f0 : Fld) (i0 : Nat) : (s.raiseBench b bit).flag f0 i0 = s.flag f0 i0 := rfl

@[simp] theorem State.raise_pending (s : State) (source : Nat) (bit : Nat) : (s.raise source bit).pending = s.pending := rfl
@[simp] theorem State.raise_time (s : State) (source : Nat) (bit : Nat) : (s.raise source bit).time = s.time := rfl
@[simp] theorem State.raise_freeCtr (s : State) (source : Nat) (bit : Nat) : (s.raise source bit).freeCtr = s.freeCtr := rfl
@[simp] theorem State.raise_out (s : State) (source : Nat) (bit : Nat) : (s.raise source bit).out = s.out := rfl
@[simp] theorem State.raise_wpl (s : State) (source : Nat) (bit : Nat) : (s.raise source bit).wpl = s.wpl := rfl
@[simp] theorem State.raise_hluLogged (s : State) (source : Nat) (bit : Nat) : (s.raise source bit).hluLogged = s.hluLogged := rfl
@[simp] theorem State.raise_bores (s : State) (source : Nat) (bit : Nat) : (s.raise source bit).bores = s.bores := rfl
@[simp] theorem State.raise_pcie (s : State) (source : Nat) (bit : Nat) : (s.raise source bit).pcie = s.pcie := rfl
@[simp] theorem State.raise_tenancy (s : State) (source : Nat) (bit : Nat) : (s.raise source bit).tenancy = s.tenancy := rfl
@[simp] theorem State.raise_nvs (s : State) (source : Nat) (bit : Nat) : (s.raise source bit).nvs = s.nvs := rfl
@[simp] theorem State.raise_haul (s : State) (source : Nat) (bit : Nat) : (s.raise source bit).haul = s.haul := rfl
@[simp] theorem State.raise_planes (s : State) (source : Nat) (bit : Nat) : (s.raise source bit).planes = s.planes := rfl
@[simp] theorem State.raise_slots (s : State) (source : Nat) (bit : Nat) : (s.raise source bit).slots = s.slots := rfl
@[simp] theorem State.raise_loads (s : State) (source : Nat) (bit : Nat) : (s.raise source bit).loads = s.loads := rfl
@[simp] theorem State.raise_memt (s : State) (source : Nat) (bit : Nat) : (s.raise source bit).memt = s.memt := rfl
@[simp] theorem State.raise_floorReset (s : State) (source : Nat) (bit : Nat) : (s.raise source bit).floorReset = s.floorReset := rfl
@[simp] theorem State.raise_repair (s : State) (source : Nat) (bit : Nat) : (s.raise source bit).repair = s.repair := rfl
@[simp] theorem State.raise_power (s : State) (source : Nat) (bit : Nat) : (s.raise source bit).power = s.power := rfl
@[simp] theorem State.raise_thermal (s : State) (source : Nat) (bit : Nat) : (s.raise source bit).thermal = s.thermal := rfl
@[simp] theorem State.raise_mbx (s : State) (source : Nat) (bit : Nat) : (s.raise source bit).mbx = s.mbx := rfl
@[simp] theorem State.raise_fw (s : State) (source : Nat) (bit : Nat) : (s.raise source bit).fw = s.fw := rfl
@[simp] theorem State.raise_side (s : State) (source : Nat) (bit : Nat) : (s.raise source bit).side = s.side := rfl
@[simp] theorem State.raise_scrub (s : State) (source : Nat) (bit : Nat) : (s.raise source bit).scrub = s.scrub := rfl
@[simp] theorem State.raise_hports (s : State) (source : Nat) (bit : Nat) : (s.raise source bit).hports = s.hports := rfl
@[simp] theorem State.raise_ddr (s : State) (source : Nat) (bit : Nat) : (s.raise source bit).ddr = s.ddr := rfl
@[simp] theorem State.raise_lanes (s : State) (source : Nat) (bit : Nat) : (s.raise source bit).lanes = s.lanes := rfl
@[simp] theorem State.raise_clocks (s : State) (source : Nat) (bit : Nat) : (s.raise source bit).clocks = s.clocks := rfl
@[simp] theorem State.raise_cal (s : State) (source : Nat) (bit : Nat) : (s.raise source bit).cal = s.cal := rfl
@[simp] theorem State.raise_hoppers (s : State) (source : Nat) (bit : Nat) : (s.raise source bit).hoppers = s.hoppers := rfl
@[simp] theorem State.raise_timers (s : State) (source : Nat) (bit : Nat) : (s.raise source bit).timers = s.timers := rfl
@[simp] theorem State.raise_regs (s : State) (source : Nat) (bit : Nat) : (s.raise source bit).regs = s.regs := rfl
@[simp] theorem State.raise_reg (s : State) (source : Nat) (bit : Nat) (r0 : Reg) (i0 : Nat) : (s.raise source bit).reg r0 i0 = s.reg r0 i0 := rfl
@[simp] theorem State.raise_get (s : State) (source : Nat) (bit : Nat) (f0 : Fld) (i0 : Nat) : (s.raise source bit).get f0 i0 = s.get f0 i0 := rfl
@[simp] theorem State.raise_flag (s : State) (source : Nat) (bit : Nat) (f0 : Fld) (i0 : Nat) : (s.raise source bit).flag f0 i0 = s.flag f0 i0 := rfl

@[simp] theorem State.wlog_pending (s : State) (code : Nat) (source : Nat) (severity : Nat) (detail : Nat) : (s.wlog code source severity detail).pending = s.pending := rfl
@[simp] theorem State.wlog_time (s : State) (code : Nat) (source : Nat) (severity : Nat) (detail : Nat) : (s.wlog code source severity detail).time = s.time := rfl
@[simp] theorem State.wlog_freeCtr (s : State) (code : Nat) (source : Nat) (severity : Nat) (detail : Nat) : (s.wlog code source severity detail).freeCtr = s.freeCtr := rfl
@[simp] theorem State.wlog_out (s : State) (code : Nat) (source : Nat) (severity : Nat) (detail : Nat) : (s.wlog code source severity detail).out = s.out := rfl
@[simp] theorem State.wlog_collector (s : State) (code : Nat) (source : Nat) (severity : Nat) (detail : Nat) : (s.wlog code source severity detail).collector = s.collector := rfl
@[simp] theorem State.wlog_hluLogged (s : State) (code : Nat) (source : Nat) (severity : Nat) (detail : Nat) : (s.wlog code source severity detail).hluLogged = s.hluLogged := rfl
@[simp] theorem State.wlog_bores (s : State) (code : Nat) (source : Nat) (severity : Nat) (detail : Nat) : (s.wlog code source severity detail).bores = s.bores := rfl
@[simp] theorem State.wlog_pcie (s : State) (code : Nat) (source : Nat) (severity : Nat) (detail : Nat) : (s.wlog code source severity detail).pcie = s.pcie := rfl
@[simp] theorem State.wlog_tenancy (s : State) (code : Nat) (source : Nat) (severity : Nat) (detail : Nat) : (s.wlog code source severity detail).tenancy = s.tenancy := rfl
@[simp] theorem State.wlog_nvs (s : State) (code : Nat) (source : Nat) (severity : Nat) (detail : Nat) : (s.wlog code source severity detail).nvs = s.nvs := rfl
@[simp] theorem State.wlog_haul (s : State) (code : Nat) (source : Nat) (severity : Nat) (detail : Nat) : (s.wlog code source severity detail).haul = s.haul := rfl
@[simp] theorem State.wlog_planes (s : State) (code : Nat) (source : Nat) (severity : Nat) (detail : Nat) : (s.wlog code source severity detail).planes = s.planes := rfl
@[simp] theorem State.wlog_slots (s : State) (code : Nat) (source : Nat) (severity : Nat) (detail : Nat) : (s.wlog code source severity detail).slots = s.slots := rfl
@[simp] theorem State.wlog_loads (s : State) (code : Nat) (source : Nat) (severity : Nat) (detail : Nat) : (s.wlog code source severity detail).loads = s.loads := rfl
@[simp] theorem State.wlog_memt (s : State) (code : Nat) (source : Nat) (severity : Nat) (detail : Nat) : (s.wlog code source severity detail).memt = s.memt := rfl
@[simp] theorem State.wlog_floorReset (s : State) (code : Nat) (source : Nat) (severity : Nat) (detail : Nat) : (s.wlog code source severity detail).floorReset = s.floorReset := rfl
@[simp] theorem State.wlog_repair (s : State) (code : Nat) (source : Nat) (severity : Nat) (detail : Nat) : (s.wlog code source severity detail).repair = s.repair := rfl
@[simp] theorem State.wlog_power (s : State) (code : Nat) (source : Nat) (severity : Nat) (detail : Nat) : (s.wlog code source severity detail).power = s.power := rfl
@[simp] theorem State.wlog_thermal (s : State) (code : Nat) (source : Nat) (severity : Nat) (detail : Nat) : (s.wlog code source severity detail).thermal = s.thermal := rfl
@[simp] theorem State.wlog_mbx (s : State) (code : Nat) (source : Nat) (severity : Nat) (detail : Nat) : (s.wlog code source severity detail).mbx = s.mbx := rfl
@[simp] theorem State.wlog_fw (s : State) (code : Nat) (source : Nat) (severity : Nat) (detail : Nat) : (s.wlog code source severity detail).fw = s.fw := rfl
@[simp] theorem State.wlog_side (s : State) (code : Nat) (source : Nat) (severity : Nat) (detail : Nat) : (s.wlog code source severity detail).side = s.side := rfl
@[simp] theorem State.wlog_scrub (s : State) (code : Nat) (source : Nat) (severity : Nat) (detail : Nat) : (s.wlog code source severity detail).scrub = s.scrub := rfl
@[simp] theorem State.wlog_hports (s : State) (code : Nat) (source : Nat) (severity : Nat) (detail : Nat) : (s.wlog code source severity detail).hports = s.hports := rfl
@[simp] theorem State.wlog_ddr (s : State) (code : Nat) (source : Nat) (severity : Nat) (detail : Nat) : (s.wlog code source severity detail).ddr = s.ddr := rfl
@[simp] theorem State.wlog_lanes (s : State) (code : Nat) (source : Nat) (severity : Nat) (detail : Nat) : (s.wlog code source severity detail).lanes = s.lanes := rfl
@[simp] theorem State.wlog_clocks (s : State) (code : Nat) (source : Nat) (severity : Nat) (detail : Nat) : (s.wlog code source severity detail).clocks = s.clocks := rfl
@[simp] theorem State.wlog_cal (s : State) (code : Nat) (source : Nat) (severity : Nat) (detail : Nat) : (s.wlog code source severity detail).cal = s.cal := rfl
@[simp] theorem State.wlog_hoppers (s : State) (code : Nat) (source : Nat) (severity : Nat) (detail : Nat) : (s.wlog code source severity detail).hoppers = s.hoppers := rfl
@[simp] theorem State.wlog_timers (s : State) (code : Nat) (source : Nat) (severity : Nat) (detail : Nat) : (s.wlog code source severity detail).timers = s.timers := rfl
@[simp] theorem State.wlog_regs (s : State) (code : Nat) (source : Nat) (severity : Nat) (detail : Nat) : (s.wlog code source severity detail).regs = s.regs := rfl
@[simp] theorem State.wlog_reg (s : State) (code : Nat) (source : Nat) (severity : Nat) (detail : Nat) (r0 : Reg) (i0 : Nat) : (s.wlog code source severity detail).reg r0 i0 = s.reg r0 i0 := rfl
@[simp] theorem State.wlog_get (s : State) (code : Nat) (source : Nat) (severity : Nat) (detail : Nat) (f0 : Fld) (i0 : Nat) : (s.wlog code source severity detail).get f0 i0 = s.get f0 i0 := rfl
@[simp] theorem State.wlog_flag (s : State) (code : Nat) (source : Nat) (severity : Nat) (detail : Nat) (f0 : Fld) (i0 : Nat) : (s.wlog code source severity detail).flag f0 i0 = s.flag f0 i0 := rfl

@[simp] theorem State.setCfg_pending (s : State) (port : Nat) (fn : Nat) (c : CfgSpace) : (s.setCfg port fn c).pending = s.pending := rfl
@[simp] theorem State.setCfg_time (s : State) (port : Nat) (fn : Nat) (c : CfgSpace) : (s.setCfg port fn c).time = s.time := rfl
@[simp] theorem State.setCfg_freeCtr (s : State) (port : Nat) (fn : Nat) (c : CfgSpace) : (s.setCfg port fn c).freeCtr = s.freeCtr := rfl
@[simp] theorem State.setCfg_out (s : State) (port : Nat) (fn : Nat) (c : CfgSpace) : (s.setCfg port fn c).out = s.out := rfl
@[simp] theorem State.setCfg_collector (s : State) (port : Nat) (fn : Nat) (c : CfgSpace) : (s.setCfg port fn c).collector = s.collector := rfl
@[simp] theorem State.setCfg_wpl (s : State) (port : Nat) (fn : Nat) (c : CfgSpace) : (s.setCfg port fn c).wpl = s.wpl := rfl
@[simp] theorem State.setCfg_hluLogged (s : State) (port : Nat) (fn : Nat) (c : CfgSpace) : (s.setCfg port fn c).hluLogged = s.hluLogged := rfl
@[simp] theorem State.setCfg_bores (s : State) (port : Nat) (fn : Nat) (c : CfgSpace) : (s.setCfg port fn c).bores = s.bores := rfl
@[simp] theorem State.setCfg_tenancy (s : State) (port : Nat) (fn : Nat) (c : CfgSpace) : (s.setCfg port fn c).tenancy = s.tenancy := rfl
@[simp] theorem State.setCfg_nvs (s : State) (port : Nat) (fn : Nat) (c : CfgSpace) : (s.setCfg port fn c).nvs = s.nvs := rfl
@[simp] theorem State.setCfg_haul (s : State) (port : Nat) (fn : Nat) (c : CfgSpace) : (s.setCfg port fn c).haul = s.haul := rfl
@[simp] theorem State.setCfg_planes (s : State) (port : Nat) (fn : Nat) (c : CfgSpace) : (s.setCfg port fn c).planes = s.planes := rfl
@[simp] theorem State.setCfg_slots (s : State) (port : Nat) (fn : Nat) (c : CfgSpace) : (s.setCfg port fn c).slots = s.slots := rfl
@[simp] theorem State.setCfg_loads (s : State) (port : Nat) (fn : Nat) (c : CfgSpace) : (s.setCfg port fn c).loads = s.loads := rfl
@[simp] theorem State.setCfg_memt (s : State) (port : Nat) (fn : Nat) (c : CfgSpace) : (s.setCfg port fn c).memt = s.memt := rfl
@[simp] theorem State.setCfg_floorReset (s : State) (port : Nat) (fn : Nat) (c : CfgSpace) : (s.setCfg port fn c).floorReset = s.floorReset := rfl
@[simp] theorem State.setCfg_repair (s : State) (port : Nat) (fn : Nat) (c : CfgSpace) : (s.setCfg port fn c).repair = s.repair := rfl
@[simp] theorem State.setCfg_power (s : State) (port : Nat) (fn : Nat) (c : CfgSpace) : (s.setCfg port fn c).power = s.power := rfl
@[simp] theorem State.setCfg_thermal (s : State) (port : Nat) (fn : Nat) (c : CfgSpace) : (s.setCfg port fn c).thermal = s.thermal := rfl
@[simp] theorem State.setCfg_mbx (s : State) (port : Nat) (fn : Nat) (c : CfgSpace) : (s.setCfg port fn c).mbx = s.mbx := rfl
@[simp] theorem State.setCfg_fw (s : State) (port : Nat) (fn : Nat) (c : CfgSpace) : (s.setCfg port fn c).fw = s.fw := rfl
@[simp] theorem State.setCfg_side (s : State) (port : Nat) (fn : Nat) (c : CfgSpace) : (s.setCfg port fn c).side = s.side := rfl
@[simp] theorem State.setCfg_scrub (s : State) (port : Nat) (fn : Nat) (c : CfgSpace) : (s.setCfg port fn c).scrub = s.scrub := rfl
@[simp] theorem State.setCfg_hports (s : State) (port : Nat) (fn : Nat) (c : CfgSpace) : (s.setCfg port fn c).hports = s.hports := rfl
@[simp] theorem State.setCfg_ddr (s : State) (port : Nat) (fn : Nat) (c : CfgSpace) : (s.setCfg port fn c).ddr = s.ddr := rfl
@[simp] theorem State.setCfg_lanes (s : State) (port : Nat) (fn : Nat) (c : CfgSpace) : (s.setCfg port fn c).lanes = s.lanes := rfl
@[simp] theorem State.setCfg_clocks (s : State) (port : Nat) (fn : Nat) (c : CfgSpace) : (s.setCfg port fn c).clocks = s.clocks := rfl
@[simp] theorem State.setCfg_cal (s : State) (port : Nat) (fn : Nat) (c : CfgSpace) : (s.setCfg port fn c).cal = s.cal := rfl
@[simp] theorem State.setCfg_hoppers (s : State) (port : Nat) (fn : Nat) (c : CfgSpace) : (s.setCfg port fn c).hoppers = s.hoppers := rfl
@[simp] theorem State.setCfg_timers (s : State) (port : Nat) (fn : Nat) (c : CfgSpace) : (s.setCfg port fn c).timers = s.timers := rfl
@[simp] theorem State.setCfg_regs (s : State) (port : Nat) (fn : Nat) (c : CfgSpace) : (s.setCfg port fn c).regs = s.regs := rfl
@[simp] theorem State.setCfg_reg (s : State) (port : Nat) (fn : Nat) (c : CfgSpace) (r0 : Reg) (i0 : Nat) : (s.setCfg port fn c).reg r0 i0 = s.reg r0 i0 := rfl
@[simp] theorem State.setCfg_get (s : State) (port : Nat) (fn : Nat) (c : CfgSpace) (f0 : Fld) (i0 : Nat) : (s.setCfg port fn c).get f0 i0 = s.get f0 i0 := rfl
@[simp] theorem State.setCfg_flag (s : State) (port : Nat) (fn : Nat) (c : CfgSpace) (f0 : Fld) (i0 : Nat) : (s.setCfg port fn c).flag f0 i0 = s.flag f0 i0 := rfl

@[simp] theorem State.plainWrite_pending (s : State) (r : Reg) (i : Nat) (v : Word) : (s.plainWrite r i v).pending = s.pending := rfl
@[simp] theorem State.plainWrite_time (s : State) (r : Reg) (i : Nat) (v : Word) : (s.plainWrite r i v).time = s.time := rfl
@[simp] theorem State.plainWrite_freeCtr (s : State) (r : Reg) (i : Nat) (v : Word) : (s.plainWrite r i v).freeCtr = s.freeCtr := rfl
@[simp] theorem State.plainWrite_out (s : State) (r : Reg) (i : Nat) (v : Word) : (s.plainWrite r i v).out = s.out := rfl
@[simp] theorem State.plainWrite_collector (s : State) (r : Reg) (i : Nat) (v : Word) : (s.plainWrite r i v).collector = s.collector := rfl
@[simp] theorem State.plainWrite_wpl (s : State) (r : Reg) (i : Nat) (v : Word) : (s.plainWrite r i v).wpl = s.wpl := rfl
@[simp] theorem State.plainWrite_hluLogged (s : State) (r : Reg) (i : Nat) (v : Word) : (s.plainWrite r i v).hluLogged = s.hluLogged := rfl
@[simp] theorem State.plainWrite_bores (s : State) (r : Reg) (i : Nat) (v : Word) : (s.plainWrite r i v).bores = s.bores := rfl
@[simp] theorem State.plainWrite_pcie (s : State) (r : Reg) (i : Nat) (v : Word) : (s.plainWrite r i v).pcie = s.pcie := rfl
@[simp] theorem State.plainWrite_tenancy (s : State) (r : Reg) (i : Nat) (v : Word) : (s.plainWrite r i v).tenancy = s.tenancy := rfl
@[simp] theorem State.plainWrite_nvs (s : State) (r : Reg) (i : Nat) (v : Word) : (s.plainWrite r i v).nvs = s.nvs := rfl
@[simp] theorem State.plainWrite_haul (s : State) (r : Reg) (i : Nat) (v : Word) : (s.plainWrite r i v).haul = s.haul := rfl
@[simp] theorem State.plainWrite_planes (s : State) (r : Reg) (i : Nat) (v : Word) : (s.plainWrite r i v).planes = s.planes := rfl
@[simp] theorem State.plainWrite_slots (s : State) (r : Reg) (i : Nat) (v : Word) : (s.plainWrite r i v).slots = s.slots := rfl
@[simp] theorem State.plainWrite_loads (s : State) (r : Reg) (i : Nat) (v : Word) : (s.plainWrite r i v).loads = s.loads := rfl
@[simp] theorem State.plainWrite_memt (s : State) (r : Reg) (i : Nat) (v : Word) : (s.plainWrite r i v).memt = s.memt := rfl
@[simp] theorem State.plainWrite_floorReset (s : State) (r : Reg) (i : Nat) (v : Word) : (s.plainWrite r i v).floorReset = s.floorReset := rfl
@[simp] theorem State.plainWrite_repair (s : State) (r : Reg) (i : Nat) (v : Word) : (s.plainWrite r i v).repair = s.repair := rfl
@[simp] theorem State.plainWrite_power (s : State) (r : Reg) (i : Nat) (v : Word) : (s.plainWrite r i v).power = s.power := rfl
@[simp] theorem State.plainWrite_thermal (s : State) (r : Reg) (i : Nat) (v : Word) : (s.plainWrite r i v).thermal = s.thermal := rfl
@[simp] theorem State.plainWrite_mbx (s : State) (r : Reg) (i : Nat) (v : Word) : (s.plainWrite r i v).mbx = s.mbx := rfl
@[simp] theorem State.plainWrite_fw (s : State) (r : Reg) (i : Nat) (v : Word) : (s.plainWrite r i v).fw = s.fw := rfl
@[simp] theorem State.plainWrite_side (s : State) (r : Reg) (i : Nat) (v : Word) : (s.plainWrite r i v).side = s.side := rfl
@[simp] theorem State.plainWrite_scrub (s : State) (r : Reg) (i : Nat) (v : Word) : (s.plainWrite r i v).scrub = s.scrub := rfl
@[simp] theorem State.plainWrite_hports (s : State) (r : Reg) (i : Nat) (v : Word) : (s.plainWrite r i v).hports = s.hports := rfl
@[simp] theorem State.plainWrite_ddr (s : State) (r : Reg) (i : Nat) (v : Word) : (s.plainWrite r i v).ddr = s.ddr := rfl
@[simp] theorem State.plainWrite_lanes (s : State) (r : Reg) (i : Nat) (v : Word) : (s.plainWrite r i v).lanes = s.lanes := rfl
@[simp] theorem State.plainWrite_clocks (s : State) (r : Reg) (i : Nat) (v : Word) : (s.plainWrite r i v).clocks = s.clocks := rfl
@[simp] theorem State.plainWrite_cal (s : State) (r : Reg) (i : Nat) (v : Word) : (s.plainWrite r i v).cal = s.cal := rfl
@[simp] theorem State.plainWrite_hoppers (s : State) (r : Reg) (i : Nat) (v : Word) : (s.plainWrite r i v).hoppers = s.hoppers := rfl
@[simp] theorem State.plainWrite_timers (s : State) (r : Reg) (i : Nat) (v : Word) : (s.plainWrite r i v).timers = s.timers := rfl

@[simp] theorem State.w1cWrite_pending (s : State) (r : Reg) (i : Nat) (v : Word) : (s.w1cWrite r i v).pending = s.pending := rfl
@[simp] theorem State.w1cWrite_time (s : State) (r : Reg) (i : Nat) (v : Word) : (s.w1cWrite r i v).time = s.time := rfl
@[simp] theorem State.w1cWrite_freeCtr (s : State) (r : Reg) (i : Nat) (v : Word) : (s.w1cWrite r i v).freeCtr = s.freeCtr := rfl
@[simp] theorem State.w1cWrite_out (s : State) (r : Reg) (i : Nat) (v : Word) : (s.w1cWrite r i v).out = s.out := rfl
@[simp] theorem State.w1cWrite_collector (s : State) (r : Reg) (i : Nat) (v : Word) : (s.w1cWrite r i v).collector = s.collector := rfl
@[simp] theorem State.w1cWrite_wpl (s : State) (r : Reg) (i : Nat) (v : Word) : (s.w1cWrite r i v).wpl = s.wpl := rfl
@[simp] theorem State.w1cWrite_hluLogged (s : State) (r : Reg) (i : Nat) (v : Word) : (s.w1cWrite r i v).hluLogged = s.hluLogged := rfl
@[simp] theorem State.w1cWrite_bores (s : State) (r : Reg) (i : Nat) (v : Word) : (s.w1cWrite r i v).bores = s.bores := rfl
@[simp] theorem State.w1cWrite_pcie (s : State) (r : Reg) (i : Nat) (v : Word) : (s.w1cWrite r i v).pcie = s.pcie := rfl
@[simp] theorem State.w1cWrite_tenancy (s : State) (r : Reg) (i : Nat) (v : Word) : (s.w1cWrite r i v).tenancy = s.tenancy := rfl
@[simp] theorem State.w1cWrite_nvs (s : State) (r : Reg) (i : Nat) (v : Word) : (s.w1cWrite r i v).nvs = s.nvs := rfl
@[simp] theorem State.w1cWrite_haul (s : State) (r : Reg) (i : Nat) (v : Word) : (s.w1cWrite r i v).haul = s.haul := rfl
@[simp] theorem State.w1cWrite_planes (s : State) (r : Reg) (i : Nat) (v : Word) : (s.w1cWrite r i v).planes = s.planes := rfl
@[simp] theorem State.w1cWrite_slots (s : State) (r : Reg) (i : Nat) (v : Word) : (s.w1cWrite r i v).slots = s.slots := rfl
@[simp] theorem State.w1cWrite_loads (s : State) (r : Reg) (i : Nat) (v : Word) : (s.w1cWrite r i v).loads = s.loads := rfl
@[simp] theorem State.w1cWrite_memt (s : State) (r : Reg) (i : Nat) (v : Word) : (s.w1cWrite r i v).memt = s.memt := rfl
@[simp] theorem State.w1cWrite_floorReset (s : State) (r : Reg) (i : Nat) (v : Word) : (s.w1cWrite r i v).floorReset = s.floorReset := rfl
@[simp] theorem State.w1cWrite_repair (s : State) (r : Reg) (i : Nat) (v : Word) : (s.w1cWrite r i v).repair = s.repair := rfl
@[simp] theorem State.w1cWrite_power (s : State) (r : Reg) (i : Nat) (v : Word) : (s.w1cWrite r i v).power = s.power := rfl
@[simp] theorem State.w1cWrite_thermal (s : State) (r : Reg) (i : Nat) (v : Word) : (s.w1cWrite r i v).thermal = s.thermal := rfl
@[simp] theorem State.w1cWrite_mbx (s : State) (r : Reg) (i : Nat) (v : Word) : (s.w1cWrite r i v).mbx = s.mbx := rfl
@[simp] theorem State.w1cWrite_fw (s : State) (r : Reg) (i : Nat) (v : Word) : (s.w1cWrite r i v).fw = s.fw := rfl
@[simp] theorem State.w1cWrite_side (s : State) (r : Reg) (i : Nat) (v : Word) : (s.w1cWrite r i v).side = s.side := rfl
@[simp] theorem State.w1cWrite_scrub (s : State) (r : Reg) (i : Nat) (v : Word) : (s.w1cWrite r i v).scrub = s.scrub := rfl
@[simp] theorem State.w1cWrite_hports (s : State) (r : Reg) (i : Nat) (v : Word) : (s.w1cWrite r i v).hports = s.hports := rfl
@[simp] theorem State.w1cWrite_ddr (s : State) (r : Reg) (i : Nat) (v : Word) : (s.w1cWrite r i v).ddr = s.ddr := rfl
@[simp] theorem State.w1cWrite_lanes (s : State) (r : Reg) (i : Nat) (v : Word) : (s.w1cWrite r i v).lanes = s.lanes := rfl
@[simp] theorem State.w1cWrite_clocks (s : State) (r : Reg) (i : Nat) (v : Word) : (s.w1cWrite r i v).clocks = s.clocks := rfl
@[simp] theorem State.w1cWrite_cal (s : State) (r : Reg) (i : Nat) (v : Word) : (s.w1cWrite r i v).cal = s.cal := rfl
@[simp] theorem State.w1cWrite_hoppers (s : State) (r : Reg) (i : Nat) (v : Word) : (s.w1cWrite r i v).hoppers = s.hoppers := rfl
@[simp] theorem State.w1cWrite_timers (s : State) (r : Reg) (i : Nat) (v : Word) : (s.w1cWrite r i v).timers = s.timers := rfl

@[simp] theorem State.setBox_pending (s : State) (m : Nat) (x : Mbx) : (s.setBox m x).pending = s.pending := rfl
@[simp] theorem State.setBox_time (s : State) (m : Nat) (x : Mbx) : (s.setBox m x).time = s.time := rfl
@[simp] theorem State.setBox_freeCtr (s : State) (m : Nat) (x : Mbx) : (s.setBox m x).freeCtr = s.freeCtr := rfl
@[simp] theorem State.setBox_out (s : State) (m : Nat) (x : Mbx) : (s.setBox m x).out = s.out := rfl
@[simp] theorem State.setBox_collector (s : State) (m : Nat) (x : Mbx) : (s.setBox m x).collector = s.collector := rfl
@[simp] theorem State.setBox_wpl (s : State) (m : Nat) (x : Mbx) : (s.setBox m x).wpl = s.wpl := rfl
@[simp] theorem State.setBox_hluLogged (s : State) (m : Nat) (x : Mbx) : (s.setBox m x).hluLogged = s.hluLogged := rfl
@[simp] theorem State.setBox_bores (s : State) (m : Nat) (x : Mbx) : (s.setBox m x).bores = s.bores := rfl
@[simp] theorem State.setBox_pcie (s : State) (m : Nat) (x : Mbx) : (s.setBox m x).pcie = s.pcie := rfl
@[simp] theorem State.setBox_tenancy (s : State) (m : Nat) (x : Mbx) : (s.setBox m x).tenancy = s.tenancy := rfl
@[simp] theorem State.setBox_nvs (s : State) (m : Nat) (x : Mbx) : (s.setBox m x).nvs = s.nvs := rfl
@[simp] theorem State.setBox_haul (s : State) (m : Nat) (x : Mbx) : (s.setBox m x).haul = s.haul := rfl
@[simp] theorem State.setBox_planes (s : State) (m : Nat) (x : Mbx) : (s.setBox m x).planes = s.planes := rfl
@[simp] theorem State.setBox_slots (s : State) (m : Nat) (x : Mbx) : (s.setBox m x).slots = s.slots := rfl
@[simp] theorem State.setBox_loads (s : State) (m : Nat) (x : Mbx) : (s.setBox m x).loads = s.loads := rfl
@[simp] theorem State.setBox_memt (s : State) (m : Nat) (x : Mbx) : (s.setBox m x).memt = s.memt := rfl
@[simp] theorem State.setBox_floorReset (s : State) (m : Nat) (x : Mbx) : (s.setBox m x).floorReset = s.floorReset := rfl
@[simp] theorem State.setBox_repair (s : State) (m : Nat) (x : Mbx) : (s.setBox m x).repair = s.repair := rfl
@[simp] theorem State.setBox_power (s : State) (m : Nat) (x : Mbx) : (s.setBox m x).power = s.power := rfl
@[simp] theorem State.setBox_thermal (s : State) (m : Nat) (x : Mbx) : (s.setBox m x).thermal = s.thermal := rfl
@[simp] theorem State.setBox_fw (s : State) (m : Nat) (x : Mbx) : (s.setBox m x).fw = s.fw := rfl
@[simp] theorem State.setBox_side (s : State) (m : Nat) (x : Mbx) : (s.setBox m x).side = s.side := rfl
@[simp] theorem State.setBox_scrub (s : State) (m : Nat) (x : Mbx) : (s.setBox m x).scrub = s.scrub := rfl
@[simp] theorem State.setBox_hports (s : State) (m : Nat) (x : Mbx) : (s.setBox m x).hports = s.hports := rfl
@[simp] theorem State.setBox_ddr (s : State) (m : Nat) (x : Mbx) : (s.setBox m x).ddr = s.ddr := rfl
@[simp] theorem State.setBox_lanes (s : State) (m : Nat) (x : Mbx) : (s.setBox m x).lanes = s.lanes := rfl
@[simp] theorem State.setBox_clocks (s : State) (m : Nat) (x : Mbx) : (s.setBox m x).clocks = s.clocks := rfl
@[simp] theorem State.setBox_cal (s : State) (m : Nat) (x : Mbx) : (s.setBox m x).cal = s.cal := rfl
@[simp] theorem State.setBox_hoppers (s : State) (m : Nat) (x : Mbx) : (s.setBox m x).hoppers = s.hoppers := rfl
@[simp] theorem State.setBox_timers (s : State) (m : Nat) (x : Mbx) : (s.setBox m x).timers = s.timers := rfl
@[simp] theorem State.setBox_regs (s : State) (m : Nat) (x : Mbx) : (s.setBox m x).regs = s.regs := rfl
@[simp] theorem State.setBox_reg (s : State) (m : Nat) (x : Mbx) (r0 : Reg) (i0 : Nat) : (s.setBox m x).reg r0 i0 = s.reg r0 i0 := rfl
@[simp] theorem State.setBox_get (s : State) (m : Nat) (x : Mbx) (f0 : Fld) (i0 : Nat) : (s.setBox m x).get f0 i0 = s.get f0 i0 := rfl
@[simp] theorem State.setBox_flag (s : State) (m : Nat) (x : Mbx) (f0 : Fld) (i0 : Nat) : (s.setBox m x).flag f0 i0 = s.flag f0 i0 := rfl

@[simp] theorem State.setStaged_pending (s : State) (source : Nat) (e : Staged) : (s.setStaged source e).pending = s.pending := rfl
@[simp] theorem State.setStaged_time (s : State) (source : Nat) (e : Staged) : (s.setStaged source e).time = s.time := rfl
@[simp] theorem State.setStaged_freeCtr (s : State) (source : Nat) (e : Staged) : (s.setStaged source e).freeCtr = s.freeCtr := rfl
@[simp] theorem State.setStaged_out (s : State) (source : Nat) (e : Staged) : (s.setStaged source e).out = s.out := rfl
@[simp] theorem State.setStaged_wpl (s : State) (source : Nat) (e : Staged) : (s.setStaged source e).wpl = s.wpl := rfl
@[simp] theorem State.setStaged_hluLogged (s : State) (source : Nat) (e : Staged) : (s.setStaged source e).hluLogged = s.hluLogged := rfl
@[simp] theorem State.setStaged_bores (s : State) (source : Nat) (e : Staged) : (s.setStaged source e).bores = s.bores := rfl
@[simp] theorem State.setStaged_pcie (s : State) (source : Nat) (e : Staged) : (s.setStaged source e).pcie = s.pcie := rfl
@[simp] theorem State.setStaged_tenancy (s : State) (source : Nat) (e : Staged) : (s.setStaged source e).tenancy = s.tenancy := rfl
@[simp] theorem State.setStaged_nvs (s : State) (source : Nat) (e : Staged) : (s.setStaged source e).nvs = s.nvs := rfl
@[simp] theorem State.setStaged_haul (s : State) (source : Nat) (e : Staged) : (s.setStaged source e).haul = s.haul := rfl
@[simp] theorem State.setStaged_planes (s : State) (source : Nat) (e : Staged) : (s.setStaged source e).planes = s.planes := rfl
@[simp] theorem State.setStaged_slots (s : State) (source : Nat) (e : Staged) : (s.setStaged source e).slots = s.slots := rfl
@[simp] theorem State.setStaged_loads (s : State) (source : Nat) (e : Staged) : (s.setStaged source e).loads = s.loads := rfl
@[simp] theorem State.setStaged_memt (s : State) (source : Nat) (e : Staged) : (s.setStaged source e).memt = s.memt := rfl
@[simp] theorem State.setStaged_floorReset (s : State) (source : Nat) (e : Staged) : (s.setStaged source e).floorReset = s.floorReset := rfl
@[simp] theorem State.setStaged_repair (s : State) (source : Nat) (e : Staged) : (s.setStaged source e).repair = s.repair := rfl
@[simp] theorem State.setStaged_power (s : State) (source : Nat) (e : Staged) : (s.setStaged source e).power = s.power := rfl
@[simp] theorem State.setStaged_thermal (s : State) (source : Nat) (e : Staged) : (s.setStaged source e).thermal = s.thermal := rfl
@[simp] theorem State.setStaged_mbx (s : State) (source : Nat) (e : Staged) : (s.setStaged source e).mbx = s.mbx := rfl
@[simp] theorem State.setStaged_fw (s : State) (source : Nat) (e : Staged) : (s.setStaged source e).fw = s.fw := rfl
@[simp] theorem State.setStaged_side (s : State) (source : Nat) (e : Staged) : (s.setStaged source e).side = s.side := rfl
@[simp] theorem State.setStaged_scrub (s : State) (source : Nat) (e : Staged) : (s.setStaged source e).scrub = s.scrub := rfl
@[simp] theorem State.setStaged_hports (s : State) (source : Nat) (e : Staged) : (s.setStaged source e).hports = s.hports := rfl
@[simp] theorem State.setStaged_ddr (s : State) (source : Nat) (e : Staged) : (s.setStaged source e).ddr = s.ddr := rfl
@[simp] theorem State.setStaged_lanes (s : State) (source : Nat) (e : Staged) : (s.setStaged source e).lanes = s.lanes := rfl
@[simp] theorem State.setStaged_clocks (s : State) (source : Nat) (e : Staged) : (s.setStaged source e).clocks = s.clocks := rfl
@[simp] theorem State.setStaged_cal (s : State) (source : Nat) (e : Staged) : (s.setStaged source e).cal = s.cal := rfl
@[simp] theorem State.setStaged_hoppers (s : State) (source : Nat) (e : Staged) : (s.setStaged source e).hoppers = s.hoppers := rfl
@[simp] theorem State.setStaged_timers (s : State) (source : Nat) (e : Staged) : (s.setStaged source e).timers = s.timers := rfl
@[simp] theorem State.setStaged_regs (s : State) (source : Nat) (e : Staged) : (s.setStaged source e).regs = s.regs := rfl
@[simp] theorem State.setStaged_reg (s : State) (source : Nat) (e : Staged) (r0 : Reg) (i0 : Nat) : (s.setStaged source e).reg r0 i0 = s.reg r0 i0 := rfl
@[simp] theorem State.setStaged_get (s : State) (source : Nat) (e : Staged) (f0 : Fld) (i0 : Nat) : (s.setStaged source e).get f0 i0 = s.get f0 i0 := rfl
@[simp] theorem State.setStaged_flag (s : State) (source : Nat) (e : Staged) (f0 : Fld) (i0 : Nat) : (s.setStaged source e).flag f0 i0 = s.flag f0 i0 := rfl

@[simp] theorem State.setRingSt_pending (s : State) (r : Nat) (x : RingSt) : (s.setRingSt r x).pending = s.pending := rfl
@[simp] theorem State.setRingSt_time (s : State) (r : Nat) (x : RingSt) : (s.setRingSt r x).time = s.time := rfl
@[simp] theorem State.setRingSt_freeCtr (s : State) (r : Nat) (x : RingSt) : (s.setRingSt r x).freeCtr = s.freeCtr := rfl
@[simp] theorem State.setRingSt_out (s : State) (r : Nat) (x : RingSt) : (s.setRingSt r x).out = s.out := rfl
@[simp] theorem State.setRingSt_wpl (s : State) (r : Nat) (x : RingSt) : (s.setRingSt r x).wpl = s.wpl := rfl
@[simp] theorem State.setRingSt_hluLogged (s : State) (r : Nat) (x : RingSt) : (s.setRingSt r x).hluLogged = s.hluLogged := rfl
@[simp] theorem State.setRingSt_bores (s : State) (r : Nat) (x : RingSt) : (s.setRingSt r x).bores = s.bores := rfl
@[simp] theorem State.setRingSt_pcie (s : State) (r : Nat) (x : RingSt) : (s.setRingSt r x).pcie = s.pcie := rfl
@[simp] theorem State.setRingSt_tenancy (s : State) (r : Nat) (x : RingSt) : (s.setRingSt r x).tenancy = s.tenancy := rfl
@[simp] theorem State.setRingSt_nvs (s : State) (r : Nat) (x : RingSt) : (s.setRingSt r x).nvs = s.nvs := rfl
@[simp] theorem State.setRingSt_haul (s : State) (r : Nat) (x : RingSt) : (s.setRingSt r x).haul = s.haul := rfl
@[simp] theorem State.setRingSt_planes (s : State) (r : Nat) (x : RingSt) : (s.setRingSt r x).planes = s.planes := rfl
@[simp] theorem State.setRingSt_slots (s : State) (r : Nat) (x : RingSt) : (s.setRingSt r x).slots = s.slots := rfl
@[simp] theorem State.setRingSt_loads (s : State) (r : Nat) (x : RingSt) : (s.setRingSt r x).loads = s.loads := rfl
@[simp] theorem State.setRingSt_memt (s : State) (r : Nat) (x : RingSt) : (s.setRingSt r x).memt = s.memt := rfl
@[simp] theorem State.setRingSt_floorReset (s : State) (r : Nat) (x : RingSt) : (s.setRingSt r x).floorReset = s.floorReset := rfl
@[simp] theorem State.setRingSt_repair (s : State) (r : Nat) (x : RingSt) : (s.setRingSt r x).repair = s.repair := rfl
@[simp] theorem State.setRingSt_power (s : State) (r : Nat) (x : RingSt) : (s.setRingSt r x).power = s.power := rfl
@[simp] theorem State.setRingSt_thermal (s : State) (r : Nat) (x : RingSt) : (s.setRingSt r x).thermal = s.thermal := rfl
@[simp] theorem State.setRingSt_mbx (s : State) (r : Nat) (x : RingSt) : (s.setRingSt r x).mbx = s.mbx := rfl
@[simp] theorem State.setRingSt_fw (s : State) (r : Nat) (x : RingSt) : (s.setRingSt r x).fw = s.fw := rfl
@[simp] theorem State.setRingSt_side (s : State) (r : Nat) (x : RingSt) : (s.setRingSt r x).side = s.side := rfl
@[simp] theorem State.setRingSt_scrub (s : State) (r : Nat) (x : RingSt) : (s.setRingSt r x).scrub = s.scrub := rfl
@[simp] theorem State.setRingSt_hports (s : State) (r : Nat) (x : RingSt) : (s.setRingSt r x).hports = s.hports := rfl
@[simp] theorem State.setRingSt_ddr (s : State) (r : Nat) (x : RingSt) : (s.setRingSt r x).ddr = s.ddr := rfl
@[simp] theorem State.setRingSt_lanes (s : State) (r : Nat) (x : RingSt) : (s.setRingSt r x).lanes = s.lanes := rfl
@[simp] theorem State.setRingSt_clocks (s : State) (r : Nat) (x : RingSt) : (s.setRingSt r x).clocks = s.clocks := rfl
@[simp] theorem State.setRingSt_cal (s : State) (r : Nat) (x : RingSt) : (s.setRingSt r x).cal = s.cal := rfl
@[simp] theorem State.setRingSt_hoppers (s : State) (r : Nat) (x : RingSt) : (s.setRingSt r x).hoppers = s.hoppers := rfl
@[simp] theorem State.setRingSt_timers (s : State) (r : Nat) (x : RingSt) : (s.setRingSt r x).timers = s.timers := rfl
@[simp] theorem State.setRingSt_regs (s : State) (r : Nat) (x : RingSt) : (s.setRingSt r x).regs = s.regs := rfl
@[simp] theorem State.setRingSt_reg (s : State) (r : Nat) (x : RingSt) (r0 : Reg) (i0 : Nat) : (s.setRingSt r x).reg r0 i0 = s.reg r0 i0 := rfl
@[simp] theorem State.setRingSt_get (s : State) (r : Nat) (x : RingSt) (f0 : Fld) (i0 : Nat) : (s.setRingSt r x).get f0 i0 = s.get f0 i0 := rfl
@[simp] theorem State.setRingSt_flag (s : State) (r : Nat) (x : RingSt) (f0 : Fld) (i0 : Nat) : (s.setRingSt r x).flag f0 i0 = s.flag f0 i0 := rfl

@[simp] theorem State.setGroup_pending (s : State) (g : Nat) (x : Group) : (s.setGroup g x).pending = s.pending := rfl
@[simp] theorem State.setGroup_time (s : State) (g : Nat) (x : Group) : (s.setGroup g x).time = s.time := rfl
@[simp] theorem State.setGroup_freeCtr (s : State) (g : Nat) (x : Group) : (s.setGroup g x).freeCtr = s.freeCtr := rfl
@[simp] theorem State.setGroup_out (s : State) (g : Nat) (x : Group) : (s.setGroup g x).out = s.out := rfl
@[simp] theorem State.setGroup_collector (s : State) (g : Nat) (x : Group) : (s.setGroup g x).collector = s.collector := rfl
@[simp] theorem State.setGroup_wpl (s : State) (g : Nat) (x : Group) : (s.setGroup g x).wpl = s.wpl := rfl
@[simp] theorem State.setGroup_hluLogged (s : State) (g : Nat) (x : Group) : (s.setGroup g x).hluLogged = s.hluLogged := rfl
@[simp] theorem State.setGroup_pcie (s : State) (g : Nat) (x : Group) : (s.setGroup g x).pcie = s.pcie := rfl
@[simp] theorem State.setGroup_tenancy (s : State) (g : Nat) (x : Group) : (s.setGroup g x).tenancy = s.tenancy := rfl
@[simp] theorem State.setGroup_nvs (s : State) (g : Nat) (x : Group) : (s.setGroup g x).nvs = s.nvs := rfl
@[simp] theorem State.setGroup_haul (s : State) (g : Nat) (x : Group) : (s.setGroup g x).haul = s.haul := rfl
@[simp] theorem State.setGroup_planes (s : State) (g : Nat) (x : Group) : (s.setGroup g x).planes = s.planes := rfl
@[simp] theorem State.setGroup_slots (s : State) (g : Nat) (x : Group) : (s.setGroup g x).slots = s.slots := rfl
@[simp] theorem State.setGroup_loads (s : State) (g : Nat) (x : Group) : (s.setGroup g x).loads = s.loads := rfl
@[simp] theorem State.setGroup_memt (s : State) (g : Nat) (x : Group) : (s.setGroup g x).memt = s.memt := rfl
@[simp] theorem State.setGroup_floorReset (s : State) (g : Nat) (x : Group) : (s.setGroup g x).floorReset = s.floorReset := rfl
@[simp] theorem State.setGroup_repair (s : State) (g : Nat) (x : Group) : (s.setGroup g x).repair = s.repair := rfl
@[simp] theorem State.setGroup_power (s : State) (g : Nat) (x : Group) : (s.setGroup g x).power = s.power := rfl
@[simp] theorem State.setGroup_thermal (s : State) (g : Nat) (x : Group) : (s.setGroup g x).thermal = s.thermal := rfl
@[simp] theorem State.setGroup_mbx (s : State) (g : Nat) (x : Group) : (s.setGroup g x).mbx = s.mbx := rfl
@[simp] theorem State.setGroup_fw (s : State) (g : Nat) (x : Group) : (s.setGroup g x).fw = s.fw := rfl
@[simp] theorem State.setGroup_side (s : State) (g : Nat) (x : Group) : (s.setGroup g x).side = s.side := rfl
@[simp] theorem State.setGroup_scrub (s : State) (g : Nat) (x : Group) : (s.setGroup g x).scrub = s.scrub := rfl
@[simp] theorem State.setGroup_hports (s : State) (g : Nat) (x : Group) : (s.setGroup g x).hports = s.hports := rfl
@[simp] theorem State.setGroup_ddr (s : State) (g : Nat) (x : Group) : (s.setGroup g x).ddr = s.ddr := rfl
@[simp] theorem State.setGroup_lanes (s : State) (g : Nat) (x : Group) : (s.setGroup g x).lanes = s.lanes := rfl
@[simp] theorem State.setGroup_clocks (s : State) (g : Nat) (x : Group) : (s.setGroup g x).clocks = s.clocks := rfl
@[simp] theorem State.setGroup_cal (s : State) (g : Nat) (x : Group) : (s.setGroup g x).cal = s.cal := rfl
@[simp] theorem State.setGroup_hoppers (s : State) (g : Nat) (x : Group) : (s.setGroup g x).hoppers = s.hoppers := rfl
@[simp] theorem State.setGroup_timers (s : State) (g : Nat) (x : Group) : (s.setGroup g x).timers = s.timers := rfl
@[simp] theorem State.setGroup_regs (s : State) (g : Nat) (x : Group) : (s.setGroup g x).regs = s.regs := rfl
@[simp] theorem State.setGroup_reg (s : State) (g : Nat) (x : Group) (r0 : Reg) (i0 : Nat) : (s.setGroup g x).reg r0 i0 = s.reg r0 i0 := rfl
@[simp] theorem State.setGroup_get (s : State) (g : Nat) (x : Group) (f0 : Fld) (i0 : Nat) : (s.setGroup g x).get f0 i0 = s.get f0 i0 := rfl
@[simp] theorem State.setGroup_flag (s : State) (g : Nat) (x : Group) (f0 : Fld) (i0 : Nat) : (s.setGroup g x).flag f0 i0 = s.flag f0 i0 := rfl

@[simp] theorem State.setWbTokens_pending (s : State) (j : Nat) (x : Int) : (s.setWbTokens j x).pending = s.pending := rfl
@[simp] theorem State.setWbTokens_time (s : State) (j : Nat) (x : Int) : (s.setWbTokens j x).time = s.time := rfl
@[simp] theorem State.setWbTokens_freeCtr (s : State) (j : Nat) (x : Int) : (s.setWbTokens j x).freeCtr = s.freeCtr := rfl
@[simp] theorem State.setWbTokens_out (s : State) (j : Nat) (x : Int) : (s.setWbTokens j x).out = s.out := rfl
@[simp] theorem State.setWbTokens_collector (s : State) (j : Nat) (x : Int) : (s.setWbTokens j x).collector = s.collector := rfl
@[simp] theorem State.setWbTokens_wpl (s : State) (j : Nat) (x : Int) : (s.setWbTokens j x).wpl = s.wpl := rfl
@[simp] theorem State.setWbTokens_hluLogged (s : State) (j : Nat) (x : Int) : (s.setWbTokens j x).hluLogged = s.hluLogged := rfl
@[simp] theorem State.setWbTokens_bores (s : State) (j : Nat) (x : Int) : (s.setWbTokens j x).bores = s.bores := rfl
@[simp] theorem State.setWbTokens_pcie (s : State) (j : Nat) (x : Int) : (s.setWbTokens j x).pcie = s.pcie := rfl
@[simp] theorem State.setWbTokens_nvs (s : State) (j : Nat) (x : Int) : (s.setWbTokens j x).nvs = s.nvs := rfl
@[simp] theorem State.setWbTokens_haul (s : State) (j : Nat) (x : Int) : (s.setWbTokens j x).haul = s.haul := rfl
@[simp] theorem State.setWbTokens_planes (s : State) (j : Nat) (x : Int) : (s.setWbTokens j x).planes = s.planes := rfl
@[simp] theorem State.setWbTokens_slots (s : State) (j : Nat) (x : Int) : (s.setWbTokens j x).slots = s.slots := rfl
@[simp] theorem State.setWbTokens_loads (s : State) (j : Nat) (x : Int) : (s.setWbTokens j x).loads = s.loads := rfl
@[simp] theorem State.setWbTokens_memt (s : State) (j : Nat) (x : Int) : (s.setWbTokens j x).memt = s.memt := rfl
@[simp] theorem State.setWbTokens_floorReset (s : State) (j : Nat) (x : Int) : (s.setWbTokens j x).floorReset = s.floorReset := rfl
@[simp] theorem State.setWbTokens_repair (s : State) (j : Nat) (x : Int) : (s.setWbTokens j x).repair = s.repair := rfl
@[simp] theorem State.setWbTokens_power (s : State) (j : Nat) (x : Int) : (s.setWbTokens j x).power = s.power := rfl
@[simp] theorem State.setWbTokens_thermal (s : State) (j : Nat) (x : Int) : (s.setWbTokens j x).thermal = s.thermal := rfl
@[simp] theorem State.setWbTokens_mbx (s : State) (j : Nat) (x : Int) : (s.setWbTokens j x).mbx = s.mbx := rfl
@[simp] theorem State.setWbTokens_fw (s : State) (j : Nat) (x : Int) : (s.setWbTokens j x).fw = s.fw := rfl
@[simp] theorem State.setWbTokens_side (s : State) (j : Nat) (x : Int) : (s.setWbTokens j x).side = s.side := rfl
@[simp] theorem State.setWbTokens_scrub (s : State) (j : Nat) (x : Int) : (s.setWbTokens j x).scrub = s.scrub := rfl
@[simp] theorem State.setWbTokens_hports (s : State) (j : Nat) (x : Int) : (s.setWbTokens j x).hports = s.hports := rfl
@[simp] theorem State.setWbTokens_ddr (s : State) (j : Nat) (x : Int) : (s.setWbTokens j x).ddr = s.ddr := rfl
@[simp] theorem State.setWbTokens_lanes (s : State) (j : Nat) (x : Int) : (s.setWbTokens j x).lanes = s.lanes := rfl
@[simp] theorem State.setWbTokens_clocks (s : State) (j : Nat) (x : Int) : (s.setWbTokens j x).clocks = s.clocks := rfl
@[simp] theorem State.setWbTokens_cal (s : State) (j : Nat) (x : Int) : (s.setWbTokens j x).cal = s.cal := rfl
@[simp] theorem State.setWbTokens_hoppers (s : State) (j : Nat) (x : Int) : (s.setWbTokens j x).hoppers = s.hoppers := rfl
@[simp] theorem State.setWbTokens_timers (s : State) (j : Nat) (x : Int) : (s.setWbTokens j x).timers = s.timers := rfl
@[simp] theorem State.setWbTokens_regs (s : State) (j : Nat) (x : Int) : (s.setWbTokens j x).regs = s.regs := rfl
@[simp] theorem State.setWbTokens_reg (s : State) (j : Nat) (x : Int) (r0 : Reg) (i0 : Nat) : (s.setWbTokens j x).reg r0 i0 = s.reg r0 i0 := rfl
@[simp] theorem State.setWbTokens_get (s : State) (j : Nat) (x : Int) (f0 : Fld) (i0 : Nat) : (s.setWbTokens j x).get f0 i0 = s.get f0 i0 := rfl
@[simp] theorem State.setWbTokens_flag (s : State) (j : Nat) (x : Int) (f0 : Fld) (i0 : Nat) : (s.setWbTokens j x).flag f0 i0 = s.flag f0 i0 := rfl

@[simp] theorem State.setQueue_pending (s : State) (key : Nat) (q : List QFlit) : (s.setQueue key q).pending = s.pending := rfl
@[simp] theorem State.setQueue_time (s : State) (key : Nat) (q : List QFlit) : (s.setQueue key q).time = s.time := rfl
@[simp] theorem State.setQueue_freeCtr (s : State) (key : Nat) (q : List QFlit) : (s.setQueue key q).freeCtr = s.freeCtr := rfl
@[simp] theorem State.setQueue_out (s : State) (key : Nat) (q : List QFlit) : (s.setQueue key q).out = s.out := rfl
@[simp] theorem State.setQueue_collector (s : State) (key : Nat) (q : List QFlit) : (s.setQueue key q).collector = s.collector := rfl
@[simp] theorem State.setQueue_wpl (s : State) (key : Nat) (q : List QFlit) : (s.setQueue key q).wpl = s.wpl := rfl
@[simp] theorem State.setQueue_hluLogged (s : State) (key : Nat) (q : List QFlit) : (s.setQueue key q).hluLogged = s.hluLogged := rfl
@[simp] theorem State.setQueue_bores (s : State) (key : Nat) (q : List QFlit) : (s.setQueue key q).bores = s.bores := rfl
@[simp] theorem State.setQueue_pcie (s : State) (key : Nat) (q : List QFlit) : (s.setQueue key q).pcie = s.pcie := rfl
@[simp] theorem State.setQueue_tenancy (s : State) (key : Nat) (q : List QFlit) : (s.setQueue key q).tenancy = s.tenancy := rfl
@[simp] theorem State.setQueue_nvs (s : State) (key : Nat) (q : List QFlit) : (s.setQueue key q).nvs = s.nvs := rfl
@[simp] theorem State.setQueue_planes (s : State) (key : Nat) (q : List QFlit) : (s.setQueue key q).planes = s.planes := rfl
@[simp] theorem State.setQueue_slots (s : State) (key : Nat) (q : List QFlit) : (s.setQueue key q).slots = s.slots := rfl
@[simp] theorem State.setQueue_loads (s : State) (key : Nat) (q : List QFlit) : (s.setQueue key q).loads = s.loads := rfl
@[simp] theorem State.setQueue_memt (s : State) (key : Nat) (q : List QFlit) : (s.setQueue key q).memt = s.memt := rfl
@[simp] theorem State.setQueue_floorReset (s : State) (key : Nat) (q : List QFlit) : (s.setQueue key q).floorReset = s.floorReset := rfl
@[simp] theorem State.setQueue_repair (s : State) (key : Nat) (q : List QFlit) : (s.setQueue key q).repair = s.repair := rfl
@[simp] theorem State.setQueue_power (s : State) (key : Nat) (q : List QFlit) : (s.setQueue key q).power = s.power := rfl
@[simp] theorem State.setQueue_thermal (s : State) (key : Nat) (q : List QFlit) : (s.setQueue key q).thermal = s.thermal := rfl
@[simp] theorem State.setQueue_mbx (s : State) (key : Nat) (q : List QFlit) : (s.setQueue key q).mbx = s.mbx := rfl
@[simp] theorem State.setQueue_fw (s : State) (key : Nat) (q : List QFlit) : (s.setQueue key q).fw = s.fw := rfl
@[simp] theorem State.setQueue_side (s : State) (key : Nat) (q : List QFlit) : (s.setQueue key q).side = s.side := rfl
@[simp] theorem State.setQueue_scrub (s : State) (key : Nat) (q : List QFlit) : (s.setQueue key q).scrub = s.scrub := rfl
@[simp] theorem State.setQueue_hports (s : State) (key : Nat) (q : List QFlit) : (s.setQueue key q).hports = s.hports := rfl
@[simp] theorem State.setQueue_ddr (s : State) (key : Nat) (q : List QFlit) : (s.setQueue key q).ddr = s.ddr := rfl
@[simp] theorem State.setQueue_lanes (s : State) (key : Nat) (q : List QFlit) : (s.setQueue key q).lanes = s.lanes := rfl
@[simp] theorem State.setQueue_clocks (s : State) (key : Nat) (q : List QFlit) : (s.setQueue key q).clocks = s.clocks := rfl
@[simp] theorem State.setQueue_cal (s : State) (key : Nat) (q : List QFlit) : (s.setQueue key q).cal = s.cal := rfl
@[simp] theorem State.setQueue_hoppers (s : State) (key : Nat) (q : List QFlit) : (s.setQueue key q).hoppers = s.hoppers := rfl
@[simp] theorem State.setQueue_timers (s : State) (key : Nat) (q : List QFlit) : (s.setQueue key q).timers = s.timers := rfl
@[simp] theorem State.setQueue_regs (s : State) (key : Nat) (q : List QFlit) : (s.setQueue key q).regs = s.regs := rfl
@[simp] theorem State.setQueue_reg (s : State) (key : Nat) (q : List QFlit) (r0 : Reg) (i0 : Nat) : (s.setQueue key q).reg r0 i0 = s.reg r0 i0 := rfl
@[simp] theorem State.setQueue_get (s : State) (key : Nat) (q : List QFlit) (f0 : Fld) (i0 : Nat) : (s.setQueue key q).get f0 i0 = s.get f0 i0 := rfl
@[simp] theorem State.setQueue_flag (s : State) (key : Nat) (q : List QFlit) (f0 : Fld) (i0 : Nat) : (s.setQueue key q).flag f0 i0 = s.flag f0 i0 := rfl

@[simp] theorem State.setHeld_pending (s : State) (key : Nat) (x : Option Nat) : (s.setHeld key x).pending = s.pending := rfl
@[simp] theorem State.setHeld_time (s : State) (key : Nat) (x : Option Nat) : (s.setHeld key x).time = s.time := rfl
@[simp] theorem State.setHeld_freeCtr (s : State) (key : Nat) (x : Option Nat) : (s.setHeld key x).freeCtr = s.freeCtr := rfl
@[simp] theorem State.setHeld_out (s : State) (key : Nat) (x : Option Nat) : (s.setHeld key x).out = s.out := rfl
@[simp] theorem State.setHeld_collector (s : State) (key : Nat) (x : Option Nat) : (s.setHeld key x).collector = s.collector := rfl
@[simp] theorem State.setHeld_wpl (s : State) (key : Nat) (x : Option Nat) : (s.setHeld key x).wpl = s.wpl := rfl
@[simp] theorem State.setHeld_hluLogged (s : State) (key : Nat) (x : Option Nat) : (s.setHeld key x).hluLogged = s.hluLogged := rfl
@[simp] theorem State.setHeld_bores (s : State) (key : Nat) (x : Option Nat) : (s.setHeld key x).bores = s.bores := rfl
@[simp] theorem State.setHeld_pcie (s : State) (key : Nat) (x : Option Nat) : (s.setHeld key x).pcie = s.pcie := rfl
@[simp] theorem State.setHeld_tenancy (s : State) (key : Nat) (x : Option Nat) : (s.setHeld key x).tenancy = s.tenancy := rfl
@[simp] theorem State.setHeld_nvs (s : State) (key : Nat) (x : Option Nat) : (s.setHeld key x).nvs = s.nvs := rfl
@[simp] theorem State.setHeld_planes (s : State) (key : Nat) (x : Option Nat) : (s.setHeld key x).planes = s.planes := rfl
@[simp] theorem State.setHeld_slots (s : State) (key : Nat) (x : Option Nat) : (s.setHeld key x).slots = s.slots := rfl
@[simp] theorem State.setHeld_loads (s : State) (key : Nat) (x : Option Nat) : (s.setHeld key x).loads = s.loads := rfl
@[simp] theorem State.setHeld_memt (s : State) (key : Nat) (x : Option Nat) : (s.setHeld key x).memt = s.memt := rfl
@[simp] theorem State.setHeld_floorReset (s : State) (key : Nat) (x : Option Nat) : (s.setHeld key x).floorReset = s.floorReset := rfl
@[simp] theorem State.setHeld_repair (s : State) (key : Nat) (x : Option Nat) : (s.setHeld key x).repair = s.repair := rfl
@[simp] theorem State.setHeld_power (s : State) (key : Nat) (x : Option Nat) : (s.setHeld key x).power = s.power := rfl
@[simp] theorem State.setHeld_thermal (s : State) (key : Nat) (x : Option Nat) : (s.setHeld key x).thermal = s.thermal := rfl
@[simp] theorem State.setHeld_mbx (s : State) (key : Nat) (x : Option Nat) : (s.setHeld key x).mbx = s.mbx := rfl
@[simp] theorem State.setHeld_fw (s : State) (key : Nat) (x : Option Nat) : (s.setHeld key x).fw = s.fw := rfl
@[simp] theorem State.setHeld_side (s : State) (key : Nat) (x : Option Nat) : (s.setHeld key x).side = s.side := rfl
@[simp] theorem State.setHeld_scrub (s : State) (key : Nat) (x : Option Nat) : (s.setHeld key x).scrub = s.scrub := rfl
@[simp] theorem State.setHeld_hports (s : State) (key : Nat) (x : Option Nat) : (s.setHeld key x).hports = s.hports := rfl
@[simp] theorem State.setHeld_ddr (s : State) (key : Nat) (x : Option Nat) : (s.setHeld key x).ddr = s.ddr := rfl
@[simp] theorem State.setHeld_lanes (s : State) (key : Nat) (x : Option Nat) : (s.setHeld key x).lanes = s.lanes := rfl
@[simp] theorem State.setHeld_clocks (s : State) (key : Nat) (x : Option Nat) : (s.setHeld key x).clocks = s.clocks := rfl
@[simp] theorem State.setHeld_cal (s : State) (key : Nat) (x : Option Nat) : (s.setHeld key x).cal = s.cal := rfl
@[simp] theorem State.setHeld_hoppers (s : State) (key : Nat) (x : Option Nat) : (s.setHeld key x).hoppers = s.hoppers := rfl
@[simp] theorem State.setHeld_timers (s : State) (key : Nat) (x : Option Nat) : (s.setHeld key x).timers = s.timers := rfl
@[simp] theorem State.setHeld_regs (s : State) (key : Nat) (x : Option Nat) : (s.setHeld key x).regs = s.regs := rfl
@[simp] theorem State.setHeld_reg (s : State) (key : Nat) (x : Option Nat) (r0 : Reg) (i0 : Nat) : (s.setHeld key x).reg r0 i0 = s.reg r0 i0 := rfl
@[simp] theorem State.setHeld_get (s : State) (key : Nat) (x : Option Nat) (f0 : Fld) (i0 : Nat) : (s.setHeld key x).get f0 i0 = s.get f0 i0 := rfl
@[simp] theorem State.setHeld_flag (s : State) (key : Nat) (x : Option Nat) (f0 : Fld) (i0 : Nat) : (s.setHeld key x).flag f0 i0 = s.flag f0 i0 := rfl

@[simp] theorem State.setSpent_pending (s : State) (key : Nat) (x : Nat) : (s.setSpent key x).pending = s.pending := rfl
@[simp] theorem State.setSpent_time (s : State) (key : Nat) (x : Nat) : (s.setSpent key x).time = s.time := rfl
@[simp] theorem State.setSpent_freeCtr (s : State) (key : Nat) (x : Nat) : (s.setSpent key x).freeCtr = s.freeCtr := rfl
@[simp] theorem State.setSpent_out (s : State) (key : Nat) (x : Nat) : (s.setSpent key x).out = s.out := rfl
@[simp] theorem State.setSpent_collector (s : State) (key : Nat) (x : Nat) : (s.setSpent key x).collector = s.collector := rfl
@[simp] theorem State.setSpent_wpl (s : State) (key : Nat) (x : Nat) : (s.setSpent key x).wpl = s.wpl := rfl
@[simp] theorem State.setSpent_hluLogged (s : State) (key : Nat) (x : Nat) : (s.setSpent key x).hluLogged = s.hluLogged := rfl
@[simp] theorem State.setSpent_bores (s : State) (key : Nat) (x : Nat) : (s.setSpent key x).bores = s.bores := rfl
@[simp] theorem State.setSpent_pcie (s : State) (key : Nat) (x : Nat) : (s.setSpent key x).pcie = s.pcie := rfl
@[simp] theorem State.setSpent_tenancy (s : State) (key : Nat) (x : Nat) : (s.setSpent key x).tenancy = s.tenancy := rfl
@[simp] theorem State.setSpent_nvs (s : State) (key : Nat) (x : Nat) : (s.setSpent key x).nvs = s.nvs := rfl
@[simp] theorem State.setSpent_planes (s : State) (key : Nat) (x : Nat) : (s.setSpent key x).planes = s.planes := rfl
@[simp] theorem State.setSpent_slots (s : State) (key : Nat) (x : Nat) : (s.setSpent key x).slots = s.slots := rfl
@[simp] theorem State.setSpent_loads (s : State) (key : Nat) (x : Nat) : (s.setSpent key x).loads = s.loads := rfl
@[simp] theorem State.setSpent_memt (s : State) (key : Nat) (x : Nat) : (s.setSpent key x).memt = s.memt := rfl
@[simp] theorem State.setSpent_floorReset (s : State) (key : Nat) (x : Nat) : (s.setSpent key x).floorReset = s.floorReset := rfl
@[simp] theorem State.setSpent_repair (s : State) (key : Nat) (x : Nat) : (s.setSpent key x).repair = s.repair := rfl
@[simp] theorem State.setSpent_power (s : State) (key : Nat) (x : Nat) : (s.setSpent key x).power = s.power := rfl
@[simp] theorem State.setSpent_thermal (s : State) (key : Nat) (x : Nat) : (s.setSpent key x).thermal = s.thermal := rfl
@[simp] theorem State.setSpent_mbx (s : State) (key : Nat) (x : Nat) : (s.setSpent key x).mbx = s.mbx := rfl
@[simp] theorem State.setSpent_fw (s : State) (key : Nat) (x : Nat) : (s.setSpent key x).fw = s.fw := rfl
@[simp] theorem State.setSpent_side (s : State) (key : Nat) (x : Nat) : (s.setSpent key x).side = s.side := rfl
@[simp] theorem State.setSpent_scrub (s : State) (key : Nat) (x : Nat) : (s.setSpent key x).scrub = s.scrub := rfl
@[simp] theorem State.setSpent_hports (s : State) (key : Nat) (x : Nat) : (s.setSpent key x).hports = s.hports := rfl
@[simp] theorem State.setSpent_ddr (s : State) (key : Nat) (x : Nat) : (s.setSpent key x).ddr = s.ddr := rfl
@[simp] theorem State.setSpent_lanes (s : State) (key : Nat) (x : Nat) : (s.setSpent key x).lanes = s.lanes := rfl
@[simp] theorem State.setSpent_clocks (s : State) (key : Nat) (x : Nat) : (s.setSpent key x).clocks = s.clocks := rfl
@[simp] theorem State.setSpent_cal (s : State) (key : Nat) (x : Nat) : (s.setSpent key x).cal = s.cal := rfl
@[simp] theorem State.setSpent_hoppers (s : State) (key : Nat) (x : Nat) : (s.setSpent key x).hoppers = s.hoppers := rfl
@[simp] theorem State.setSpent_timers (s : State) (key : Nat) (x : Nat) : (s.setSpent key x).timers = s.timers := rfl
@[simp] theorem State.setSpent_regs (s : State) (key : Nat) (x : Nat) : (s.setSpent key x).regs = s.regs := rfl
@[simp] theorem State.setSpent_reg (s : State) (key : Nat) (x : Nat) (r0 : Reg) (i0 : Nat) : (s.setSpent key x).reg r0 i0 = s.reg r0 i0 := rfl
@[simp] theorem State.setSpent_get (s : State) (key : Nat) (x : Nat) (f0 : Fld) (i0 : Nat) : (s.setSpent key x).get f0 i0 = s.get f0 i0 := rfl
@[simp] theorem State.setSpent_flag (s : State) (key : Nat) (x : Nat) (f0 : Fld) (i0 : Nat) : (s.setSpent key x).flag f0 i0 = s.flag f0 i0 := rfl

@[simp] theorem State.setHport_pending (s : State) (b : Nat) (p : Nat) (x : Hport) : (s.setHport b p x).pending = s.pending := rfl
@[simp] theorem State.setHport_time (s : State) (b : Nat) (p : Nat) (x : Hport) : (s.setHport b p x).time = s.time := rfl
@[simp] theorem State.setHport_freeCtr (s : State) (b : Nat) (p : Nat) (x : Hport) : (s.setHport b p x).freeCtr = s.freeCtr := rfl
@[simp] theorem State.setHport_out (s : State) (b : Nat) (p : Nat) (x : Hport) : (s.setHport b p x).out = s.out := rfl
@[simp] theorem State.setHport_collector (s : State) (b : Nat) (p : Nat) (x : Hport) : (s.setHport b p x).collector = s.collector := rfl
@[simp] theorem State.setHport_wpl (s : State) (b : Nat) (p : Nat) (x : Hport) : (s.setHport b p x).wpl = s.wpl := rfl
@[simp] theorem State.setHport_hluLogged (s : State) (b : Nat) (p : Nat) (x : Hport) : (s.setHport b p x).hluLogged = s.hluLogged := rfl
@[simp] theorem State.setHport_bores (s : State) (b : Nat) (p : Nat) (x : Hport) : (s.setHport b p x).bores = s.bores := rfl
@[simp] theorem State.setHport_pcie (s : State) (b : Nat) (p : Nat) (x : Hport) : (s.setHport b p x).pcie = s.pcie := rfl
@[simp] theorem State.setHport_tenancy (s : State) (b : Nat) (p : Nat) (x : Hport) : (s.setHport b p x).tenancy = s.tenancy := rfl
@[simp] theorem State.setHport_nvs (s : State) (b : Nat) (p : Nat) (x : Hport) : (s.setHport b p x).nvs = s.nvs := rfl
@[simp] theorem State.setHport_haul (s : State) (b : Nat) (p : Nat) (x : Hport) : (s.setHport b p x).haul = s.haul := rfl
@[simp] theorem State.setHport_planes (s : State) (b : Nat) (p : Nat) (x : Hport) : (s.setHport b p x).planes = s.planes := rfl
@[simp] theorem State.setHport_slots (s : State) (b : Nat) (p : Nat) (x : Hport) : (s.setHport b p x).slots = s.slots := rfl
@[simp] theorem State.setHport_loads (s : State) (b : Nat) (p : Nat) (x : Hport) : (s.setHport b p x).loads = s.loads := rfl
@[simp] theorem State.setHport_memt (s : State) (b : Nat) (p : Nat) (x : Hport) : (s.setHport b p x).memt = s.memt := rfl
@[simp] theorem State.setHport_floorReset (s : State) (b : Nat) (p : Nat) (x : Hport) : (s.setHport b p x).floorReset = s.floorReset := rfl
@[simp] theorem State.setHport_repair (s : State) (b : Nat) (p : Nat) (x : Hport) : (s.setHport b p x).repair = s.repair := rfl
@[simp] theorem State.setHport_power (s : State) (b : Nat) (p : Nat) (x : Hport) : (s.setHport b p x).power = s.power := rfl
@[simp] theorem State.setHport_thermal (s : State) (b : Nat) (p : Nat) (x : Hport) : (s.setHport b p x).thermal = s.thermal := rfl
@[simp] theorem State.setHport_mbx (s : State) (b : Nat) (p : Nat) (x : Hport) : (s.setHport b p x).mbx = s.mbx := rfl
@[simp] theorem State.setHport_fw (s : State) (b : Nat) (p : Nat) (x : Hport) : (s.setHport b p x).fw = s.fw := rfl
@[simp] theorem State.setHport_side (s : State) (b : Nat) (p : Nat) (x : Hport) : (s.setHport b p x).side = s.side := rfl
@[simp] theorem State.setHport_scrub (s : State) (b : Nat) (p : Nat) (x : Hport) : (s.setHport b p x).scrub = s.scrub := rfl
@[simp] theorem State.setHport_ddr (s : State) (b : Nat) (p : Nat) (x : Hport) : (s.setHport b p x).ddr = s.ddr := rfl
@[simp] theorem State.setHport_lanes (s : State) (b : Nat) (p : Nat) (x : Hport) : (s.setHport b p x).lanes = s.lanes := rfl
@[simp] theorem State.setHport_clocks (s : State) (b : Nat) (p : Nat) (x : Hport) : (s.setHport b p x).clocks = s.clocks := rfl
@[simp] theorem State.setHport_cal (s : State) (b : Nat) (p : Nat) (x : Hport) : (s.setHport b p x).cal = s.cal := rfl
@[simp] theorem State.setHport_hoppers (s : State) (b : Nat) (p : Nat) (x : Hport) : (s.setHport b p x).hoppers = s.hoppers := rfl
@[simp] theorem State.setHport_timers (s : State) (b : Nat) (p : Nat) (x : Hport) : (s.setHport b p x).timers = s.timers := rfl
@[simp] theorem State.setHport_regs (s : State) (b : Nat) (p : Nat) (x : Hport) : (s.setHport b p x).regs = s.regs := rfl
@[simp] theorem State.setHport_reg (s : State) (b : Nat) (p : Nat) (x : Hport) (r0 : Reg) (i0 : Nat) : (s.setHport b p x).reg r0 i0 = s.reg r0 i0 := rfl
@[simp] theorem State.setHport_get (s : State) (b : Nat) (p : Nat) (x : Hport) (f0 : Fld) (i0 : Nat) : (s.setHport b p x).get f0 i0 = s.get f0 i0 := rfl
@[simp] theorem State.setHport_flag (s : State) (b : Nat) (p : Nat) (x : Hport) (f0 : Fld) (i0 : Nat) : (s.setHport b p x).flag f0 i0 = s.flag f0 i0 := rfl

@[simp] theorem State.setBridge_pending (s : State) (key : Nat) (l : List Nat) : (s.setBridge key l).pending = s.pending := rfl
@[simp] theorem State.setBridge_time (s : State) (key : Nat) (l : List Nat) : (s.setBridge key l).time = s.time := rfl
@[simp] theorem State.setBridge_freeCtr (s : State) (key : Nat) (l : List Nat) : (s.setBridge key l).freeCtr = s.freeCtr := rfl
@[simp] theorem State.setBridge_out (s : State) (key : Nat) (l : List Nat) : (s.setBridge key l).out = s.out := rfl
@[simp] theorem State.setBridge_collector (s : State) (key : Nat) (l : List Nat) : (s.setBridge key l).collector = s.collector := rfl
@[simp] theorem State.setBridge_wpl (s : State) (key : Nat) (l : List Nat) : (s.setBridge key l).wpl = s.wpl := rfl
@[simp] theorem State.setBridge_hluLogged (s : State) (key : Nat) (l : List Nat) : (s.setBridge key l).hluLogged = s.hluLogged := rfl
@[simp] theorem State.setBridge_bores (s : State) (key : Nat) (l : List Nat) : (s.setBridge key l).bores = s.bores := rfl
@[simp] theorem State.setBridge_pcie (s : State) (key : Nat) (l : List Nat) : (s.setBridge key l).pcie = s.pcie := rfl
@[simp] theorem State.setBridge_tenancy (s : State) (key : Nat) (l : List Nat) : (s.setBridge key l).tenancy = s.tenancy := rfl
@[simp] theorem State.setBridge_nvs (s : State) (key : Nat) (l : List Nat) : (s.setBridge key l).nvs = s.nvs := rfl
@[simp] theorem State.setBridge_planes (s : State) (key : Nat) (l : List Nat) : (s.setBridge key l).planes = s.planes := rfl
@[simp] theorem State.setBridge_slots (s : State) (key : Nat) (l : List Nat) : (s.setBridge key l).slots = s.slots := rfl
@[simp] theorem State.setBridge_loads (s : State) (key : Nat) (l : List Nat) : (s.setBridge key l).loads = s.loads := rfl
@[simp] theorem State.setBridge_memt (s : State) (key : Nat) (l : List Nat) : (s.setBridge key l).memt = s.memt := rfl
@[simp] theorem State.setBridge_floorReset (s : State) (key : Nat) (l : List Nat) : (s.setBridge key l).floorReset = s.floorReset := rfl
@[simp] theorem State.setBridge_repair (s : State) (key : Nat) (l : List Nat) : (s.setBridge key l).repair = s.repair := rfl
@[simp] theorem State.setBridge_power (s : State) (key : Nat) (l : List Nat) : (s.setBridge key l).power = s.power := rfl
@[simp] theorem State.setBridge_thermal (s : State) (key : Nat) (l : List Nat) : (s.setBridge key l).thermal = s.thermal := rfl
@[simp] theorem State.setBridge_mbx (s : State) (key : Nat) (l : List Nat) : (s.setBridge key l).mbx = s.mbx := rfl
@[simp] theorem State.setBridge_fw (s : State) (key : Nat) (l : List Nat) : (s.setBridge key l).fw = s.fw := rfl
@[simp] theorem State.setBridge_side (s : State) (key : Nat) (l : List Nat) : (s.setBridge key l).side = s.side := rfl
@[simp] theorem State.setBridge_scrub (s : State) (key : Nat) (l : List Nat) : (s.setBridge key l).scrub = s.scrub := rfl
@[simp] theorem State.setBridge_hports (s : State) (key : Nat) (l : List Nat) : (s.setBridge key l).hports = s.hports := rfl
@[simp] theorem State.setBridge_ddr (s : State) (key : Nat) (l : List Nat) : (s.setBridge key l).ddr = s.ddr := rfl
@[simp] theorem State.setBridge_lanes (s : State) (key : Nat) (l : List Nat) : (s.setBridge key l).lanes = s.lanes := rfl
@[simp] theorem State.setBridge_clocks (s : State) (key : Nat) (l : List Nat) : (s.setBridge key l).clocks = s.clocks := rfl
@[simp] theorem State.setBridge_cal (s : State) (key : Nat) (l : List Nat) : (s.setBridge key l).cal = s.cal := rfl
@[simp] theorem State.setBridge_hoppers (s : State) (key : Nat) (l : List Nat) : (s.setBridge key l).hoppers = s.hoppers := rfl
@[simp] theorem State.setBridge_timers (s : State) (key : Nat) (l : List Nat) : (s.setBridge key l).timers = s.timers := rfl
@[simp] theorem State.setBridge_regs (s : State) (key : Nat) (l : List Nat) : (s.setBridge key l).regs = s.regs := rfl
@[simp] theorem State.setBridge_reg (s : State) (key : Nat) (l : List Nat) (r0 : Reg) (i0 : Nat) : (s.setBridge key l).reg r0 i0 = s.reg r0 i0 := rfl
@[simp] theorem State.setBridge_get (s : State) (key : Nat) (l : List Nat) (f0 : Fld) (i0 : Nat) : (s.setBridge key l).get f0 i0 = s.get f0 i0 := rfl
@[simp] theorem State.setBridge_flag (s : State) (key : Nat) (l : List Nat) (f0 : Fld) (i0 : Nat) : (s.setBridge key l).flag f0 i0 = s.flag f0 i0 := rfl

@[simp] theorem State.setInj_pending (s : State) (e : Nat) (l : List InjPkt) : (s.setInj e l).pending = s.pending := rfl
@[simp] theorem State.setInj_time (s : State) (e : Nat) (l : List InjPkt) : (s.setInj e l).time = s.time := rfl
@[simp] theorem State.setInj_freeCtr (s : State) (e : Nat) (l : List InjPkt) : (s.setInj e l).freeCtr = s.freeCtr := rfl
@[simp] theorem State.setInj_out (s : State) (e : Nat) (l : List InjPkt) : (s.setInj e l).out = s.out := rfl
@[simp] theorem State.setInj_collector (s : State) (e : Nat) (l : List InjPkt) : (s.setInj e l).collector = s.collector := rfl
@[simp] theorem State.setInj_wpl (s : State) (e : Nat) (l : List InjPkt) : (s.setInj e l).wpl = s.wpl := rfl
@[simp] theorem State.setInj_hluLogged (s : State) (e : Nat) (l : List InjPkt) : (s.setInj e l).hluLogged = s.hluLogged := rfl
@[simp] theorem State.setInj_bores (s : State) (e : Nat) (l : List InjPkt) : (s.setInj e l).bores = s.bores := rfl
@[simp] theorem State.setInj_pcie (s : State) (e : Nat) (l : List InjPkt) : (s.setInj e l).pcie = s.pcie := rfl
@[simp] theorem State.setInj_tenancy (s : State) (e : Nat) (l : List InjPkt) : (s.setInj e l).tenancy = s.tenancy := rfl
@[simp] theorem State.setInj_nvs (s : State) (e : Nat) (l : List InjPkt) : (s.setInj e l).nvs = s.nvs := rfl
@[simp] theorem State.setInj_planes (s : State) (e : Nat) (l : List InjPkt) : (s.setInj e l).planes = s.planes := rfl
@[simp] theorem State.setInj_slots (s : State) (e : Nat) (l : List InjPkt) : (s.setInj e l).slots = s.slots := rfl
@[simp] theorem State.setInj_loads (s : State) (e : Nat) (l : List InjPkt) : (s.setInj e l).loads = s.loads := rfl
@[simp] theorem State.setInj_memt (s : State) (e : Nat) (l : List InjPkt) : (s.setInj e l).memt = s.memt := rfl
@[simp] theorem State.setInj_floorReset (s : State) (e : Nat) (l : List InjPkt) : (s.setInj e l).floorReset = s.floorReset := rfl
@[simp] theorem State.setInj_repair (s : State) (e : Nat) (l : List InjPkt) : (s.setInj e l).repair = s.repair := rfl
@[simp] theorem State.setInj_power (s : State) (e : Nat) (l : List InjPkt) : (s.setInj e l).power = s.power := rfl
@[simp] theorem State.setInj_thermal (s : State) (e : Nat) (l : List InjPkt) : (s.setInj e l).thermal = s.thermal := rfl
@[simp] theorem State.setInj_mbx (s : State) (e : Nat) (l : List InjPkt) : (s.setInj e l).mbx = s.mbx := rfl
@[simp] theorem State.setInj_fw (s : State) (e : Nat) (l : List InjPkt) : (s.setInj e l).fw = s.fw := rfl
@[simp] theorem State.setInj_side (s : State) (e : Nat) (l : List InjPkt) : (s.setInj e l).side = s.side := rfl
@[simp] theorem State.setInj_scrub (s : State) (e : Nat) (l : List InjPkt) : (s.setInj e l).scrub = s.scrub := rfl
@[simp] theorem State.setInj_hports (s : State) (e : Nat) (l : List InjPkt) : (s.setInj e l).hports = s.hports := rfl
@[simp] theorem State.setInj_ddr (s : State) (e : Nat) (l : List InjPkt) : (s.setInj e l).ddr = s.ddr := rfl
@[simp] theorem State.setInj_lanes (s : State) (e : Nat) (l : List InjPkt) : (s.setInj e l).lanes = s.lanes := rfl
@[simp] theorem State.setInj_clocks (s : State) (e : Nat) (l : List InjPkt) : (s.setInj e l).clocks = s.clocks := rfl
@[simp] theorem State.setInj_cal (s : State) (e : Nat) (l : List InjPkt) : (s.setInj e l).cal = s.cal := rfl
@[simp] theorem State.setInj_hoppers (s : State) (e : Nat) (l : List InjPkt) : (s.setInj e l).hoppers = s.hoppers := rfl
@[simp] theorem State.setInj_timers (s : State) (e : Nat) (l : List InjPkt) : (s.setInj e l).timers = s.timers := rfl
@[simp] theorem State.setInj_regs (s : State) (e : Nat) (l : List InjPkt) : (s.setInj e l).regs = s.regs := rfl
@[simp] theorem State.setInj_reg (s : State) (e : Nat) (l : List InjPkt) (r0 : Reg) (i0 : Nat) : (s.setInj e l).reg r0 i0 = s.reg r0 i0 := rfl
@[simp] theorem State.setInj_get (s : State) (e : Nat) (l : List InjPkt) (f0 : Fld) (i0 : Nat) : (s.setInj e l).get f0 i0 = s.get f0 i0 := rfl
@[simp] theorem State.setInj_flag (s : State) (e : Nat) (l : List InjPkt) (f0 : Fld) (i0 : Nat) : (s.setInj e l).flag f0 i0 = s.flag f0 i0 := rfl

@[simp] theorem State.setEpSpent_pending (s : State) (key : Nat) (x : Nat) : (s.setEpSpent key x).pending = s.pending := rfl
@[simp] theorem State.setEpSpent_time (s : State) (key : Nat) (x : Nat) : (s.setEpSpent key x).time = s.time := rfl
@[simp] theorem State.setEpSpent_freeCtr (s : State) (key : Nat) (x : Nat) : (s.setEpSpent key x).freeCtr = s.freeCtr := rfl
@[simp] theorem State.setEpSpent_out (s : State) (key : Nat) (x : Nat) : (s.setEpSpent key x).out = s.out := rfl
@[simp] theorem State.setEpSpent_collector (s : State) (key : Nat) (x : Nat) : (s.setEpSpent key x).collector = s.collector := rfl
@[simp] theorem State.setEpSpent_wpl (s : State) (key : Nat) (x : Nat) : (s.setEpSpent key x).wpl = s.wpl := rfl
@[simp] theorem State.setEpSpent_hluLogged (s : State) (key : Nat) (x : Nat) : (s.setEpSpent key x).hluLogged = s.hluLogged := rfl
@[simp] theorem State.setEpSpent_bores (s : State) (key : Nat) (x : Nat) : (s.setEpSpent key x).bores = s.bores := rfl
@[simp] theorem State.setEpSpent_pcie (s : State) (key : Nat) (x : Nat) : (s.setEpSpent key x).pcie = s.pcie := rfl
@[simp] theorem State.setEpSpent_tenancy (s : State) (key : Nat) (x : Nat) : (s.setEpSpent key x).tenancy = s.tenancy := rfl
@[simp] theorem State.setEpSpent_nvs (s : State) (key : Nat) (x : Nat) : (s.setEpSpent key x).nvs = s.nvs := rfl
@[simp] theorem State.setEpSpent_planes (s : State) (key : Nat) (x : Nat) : (s.setEpSpent key x).planes = s.planes := rfl
@[simp] theorem State.setEpSpent_slots (s : State) (key : Nat) (x : Nat) : (s.setEpSpent key x).slots = s.slots := rfl
@[simp] theorem State.setEpSpent_loads (s : State) (key : Nat) (x : Nat) : (s.setEpSpent key x).loads = s.loads := rfl
@[simp] theorem State.setEpSpent_memt (s : State) (key : Nat) (x : Nat) : (s.setEpSpent key x).memt = s.memt := rfl
@[simp] theorem State.setEpSpent_floorReset (s : State) (key : Nat) (x : Nat) : (s.setEpSpent key x).floorReset = s.floorReset := rfl
@[simp] theorem State.setEpSpent_repair (s : State) (key : Nat) (x : Nat) : (s.setEpSpent key x).repair = s.repair := rfl
@[simp] theorem State.setEpSpent_power (s : State) (key : Nat) (x : Nat) : (s.setEpSpent key x).power = s.power := rfl
@[simp] theorem State.setEpSpent_thermal (s : State) (key : Nat) (x : Nat) : (s.setEpSpent key x).thermal = s.thermal := rfl
@[simp] theorem State.setEpSpent_mbx (s : State) (key : Nat) (x : Nat) : (s.setEpSpent key x).mbx = s.mbx := rfl
@[simp] theorem State.setEpSpent_fw (s : State) (key : Nat) (x : Nat) : (s.setEpSpent key x).fw = s.fw := rfl
@[simp] theorem State.setEpSpent_side (s : State) (key : Nat) (x : Nat) : (s.setEpSpent key x).side = s.side := rfl
@[simp] theorem State.setEpSpent_scrub (s : State) (key : Nat) (x : Nat) : (s.setEpSpent key x).scrub = s.scrub := rfl
@[simp] theorem State.setEpSpent_hports (s : State) (key : Nat) (x : Nat) : (s.setEpSpent key x).hports = s.hports := rfl
@[simp] theorem State.setEpSpent_ddr (s : State) (key : Nat) (x : Nat) : (s.setEpSpent key x).ddr = s.ddr := rfl
@[simp] theorem State.setEpSpent_lanes (s : State) (key : Nat) (x : Nat) : (s.setEpSpent key x).lanes = s.lanes := rfl
@[simp] theorem State.setEpSpent_clocks (s : State) (key : Nat) (x : Nat) : (s.setEpSpent key x).clocks = s.clocks := rfl
@[simp] theorem State.setEpSpent_cal (s : State) (key : Nat) (x : Nat) : (s.setEpSpent key x).cal = s.cal := rfl
@[simp] theorem State.setEpSpent_hoppers (s : State) (key : Nat) (x : Nat) : (s.setEpSpent key x).hoppers = s.hoppers := rfl
@[simp] theorem State.setEpSpent_timers (s : State) (key : Nat) (x : Nat) : (s.setEpSpent key x).timers = s.timers := rfl
@[simp] theorem State.setEpSpent_regs (s : State) (key : Nat) (x : Nat) : (s.setEpSpent key x).regs = s.regs := rfl
@[simp] theorem State.setEpSpent_reg (s : State) (key : Nat) (x : Nat) (r0 : Reg) (i0 : Nat) : (s.setEpSpent key x).reg r0 i0 = s.reg r0 i0 := rfl
@[simp] theorem State.setEpSpent_get (s : State) (key : Nat) (x : Nat) (f0 : Fld) (i0 : Nat) : (s.setEpSpent key x).get f0 i0 = s.get f0 i0 := rfl
@[simp] theorem State.setEpSpent_flag (s : State) (key : Nat) (x : Nat) (f0 : Fld) (i0 : Nat) : (s.setEpSpent key x).flag f0 i0 = s.flag f0 i0 := rfl

@[simp] theorem State.setPlaneFrame_pending (s : State) (b : Nat) (p : Nat) (f : Nat) (x : Nat) : (s.setPlaneFrame b p f x).pending = s.pending := rfl
@[simp] theorem State.setPlaneFrame_time (s : State) (b : Nat) (p : Nat) (f : Nat) (x : Nat) : (s.setPlaneFrame b p f x).time = s.time := rfl
@[simp] theorem State.setPlaneFrame_freeCtr (s : State) (b : Nat) (p : Nat) (f : Nat) (x : Nat) : (s.setPlaneFrame b p f x).freeCtr = s.freeCtr := rfl
@[simp] theorem State.setPlaneFrame_out (s : State) (b : Nat) (p : Nat) (f : Nat) (x : Nat) : (s.setPlaneFrame b p f x).out = s.out := rfl
@[simp] theorem State.setPlaneFrame_collector (s : State) (b : Nat) (p : Nat) (f : Nat) (x : Nat) : (s.setPlaneFrame b p f x).collector = s.collector := rfl
@[simp] theorem State.setPlaneFrame_wpl (s : State) (b : Nat) (p : Nat) (f : Nat) (x : Nat) : (s.setPlaneFrame b p f x).wpl = s.wpl := rfl
@[simp] theorem State.setPlaneFrame_hluLogged (s : State) (b : Nat) (p : Nat) (f : Nat) (x : Nat) : (s.setPlaneFrame b p f x).hluLogged = s.hluLogged := rfl
@[simp] theorem State.setPlaneFrame_bores (s : State) (b : Nat) (p : Nat) (f : Nat) (x : Nat) : (s.setPlaneFrame b p f x).bores = s.bores := rfl
@[simp] theorem State.setPlaneFrame_pcie (s : State) (b : Nat) (p : Nat) (f : Nat) (x : Nat) : (s.setPlaneFrame b p f x).pcie = s.pcie := rfl
@[simp] theorem State.setPlaneFrame_tenancy (s : State) (b : Nat) (p : Nat) (f : Nat) (x : Nat) : (s.setPlaneFrame b p f x).tenancy = s.tenancy := rfl
@[simp] theorem State.setPlaneFrame_nvs (s : State) (b : Nat) (p : Nat) (f : Nat) (x : Nat) : (s.setPlaneFrame b p f x).nvs = s.nvs := rfl
@[simp] theorem State.setPlaneFrame_haul (s : State) (b : Nat) (p : Nat) (f : Nat) (x : Nat) : (s.setPlaneFrame b p f x).haul = s.haul := rfl
@[simp] theorem State.setPlaneFrame_slots (s : State) (b : Nat) (p : Nat) (f : Nat) (x : Nat) : (s.setPlaneFrame b p f x).slots = s.slots := rfl
@[simp] theorem State.setPlaneFrame_loads (s : State) (b : Nat) (p : Nat) (f : Nat) (x : Nat) : (s.setPlaneFrame b p f x).loads = s.loads := rfl
@[simp] theorem State.setPlaneFrame_memt (s : State) (b : Nat) (p : Nat) (f : Nat) (x : Nat) : (s.setPlaneFrame b p f x).memt = s.memt := rfl
@[simp] theorem State.setPlaneFrame_floorReset (s : State) (b : Nat) (p : Nat) (f : Nat) (x : Nat) : (s.setPlaneFrame b p f x).floorReset = s.floorReset := rfl
@[simp] theorem State.setPlaneFrame_repair (s : State) (b : Nat) (p : Nat) (f : Nat) (x : Nat) : (s.setPlaneFrame b p f x).repair = s.repair := rfl
@[simp] theorem State.setPlaneFrame_power (s : State) (b : Nat) (p : Nat) (f : Nat) (x : Nat) : (s.setPlaneFrame b p f x).power = s.power := rfl
@[simp] theorem State.setPlaneFrame_thermal (s : State) (b : Nat) (p : Nat) (f : Nat) (x : Nat) : (s.setPlaneFrame b p f x).thermal = s.thermal := rfl
@[simp] theorem State.setPlaneFrame_mbx (s : State) (b : Nat) (p : Nat) (f : Nat) (x : Nat) : (s.setPlaneFrame b p f x).mbx = s.mbx := rfl
@[simp] theorem State.setPlaneFrame_fw (s : State) (b : Nat) (p : Nat) (f : Nat) (x : Nat) : (s.setPlaneFrame b p f x).fw = s.fw := rfl
@[simp] theorem State.setPlaneFrame_side (s : State) (b : Nat) (p : Nat) (f : Nat) (x : Nat) : (s.setPlaneFrame b p f x).side = s.side := rfl
@[simp] theorem State.setPlaneFrame_scrub (s : State) (b : Nat) (p : Nat) (f : Nat) (x : Nat) : (s.setPlaneFrame b p f x).scrub = s.scrub := rfl
@[simp] theorem State.setPlaneFrame_hports (s : State) (b : Nat) (p : Nat) (f : Nat) (x : Nat) : (s.setPlaneFrame b p f x).hports = s.hports := rfl
@[simp] theorem State.setPlaneFrame_ddr (s : State) (b : Nat) (p : Nat) (f : Nat) (x : Nat) : (s.setPlaneFrame b p f x).ddr = s.ddr := rfl
@[simp] theorem State.setPlaneFrame_lanes (s : State) (b : Nat) (p : Nat) (f : Nat) (x : Nat) : (s.setPlaneFrame b p f x).lanes = s.lanes := rfl
@[simp] theorem State.setPlaneFrame_clocks (s : State) (b : Nat) (p : Nat) (f : Nat) (x : Nat) : (s.setPlaneFrame b p f x).clocks = s.clocks := rfl
@[simp] theorem State.setPlaneFrame_cal (s : State) (b : Nat) (p : Nat) (f : Nat) (x : Nat) : (s.setPlaneFrame b p f x).cal = s.cal := rfl
@[simp] theorem State.setPlaneFrame_hoppers (s : State) (b : Nat) (p : Nat) (f : Nat) (x : Nat) : (s.setPlaneFrame b p f x).hoppers = s.hoppers := rfl
@[simp] theorem State.setPlaneFrame_timers (s : State) (b : Nat) (p : Nat) (f : Nat) (x : Nat) : (s.setPlaneFrame b p f x).timers = s.timers := rfl
@[simp] theorem State.setPlaneFrame_regs (s : State) (b : Nat) (p : Nat) (f : Nat) (x : Nat) : (s.setPlaneFrame b p f x).regs = s.regs := rfl
@[simp] theorem State.setPlaneFrame_reg (s : State) (b : Nat) (p : Nat) (f : Nat) (x : Nat) (r0 : Reg) (i0 : Nat) : (s.setPlaneFrame b p f x).reg r0 i0 = s.reg r0 i0 := rfl
@[simp] theorem State.setPlaneFrame_get (s : State) (b : Nat) (p : Nat) (f : Nat) (x : Nat) (f0 : Fld) (i0 : Nat) : (s.setPlaneFrame b p f x).get f0 i0 = s.get f0 i0 := rfl
@[simp] theorem State.setPlaneFrame_flag (s : State) (b : Nat) (p : Nat) (f : Nat) (x : Nat) (f0 : Fld) (i0 : Nat) : (s.setPlaneFrame b p f x).flag f0 i0 = s.flag f0 i0 := rfl

@[simp] theorem State.setBnd_pending (s : State) (j : Nat) (v : Nat) : (s.setBnd j v).pending = s.pending := rfl
@[simp] theorem State.setBnd_time (s : State) (j : Nat) (v : Nat) : (s.setBnd j v).time = s.time := rfl
@[simp] theorem State.setBnd_freeCtr (s : State) (j : Nat) (v : Nat) : (s.setBnd j v).freeCtr = s.freeCtr := rfl
@[simp] theorem State.setBnd_out (s : State) (j : Nat) (v : Nat) : (s.setBnd j v).out = s.out := rfl
@[simp] theorem State.setBnd_collector (s : State) (j : Nat) (v : Nat) : (s.setBnd j v).collector = s.collector := rfl
@[simp] theorem State.setBnd_wpl (s : State) (j : Nat) (v : Nat) : (s.setBnd j v).wpl = s.wpl := rfl
@[simp] theorem State.setBnd_hluLogged (s : State) (j : Nat) (v : Nat) : (s.setBnd j v).hluLogged = s.hluLogged := rfl
@[simp] theorem State.setBnd_bores (s : State) (j : Nat) (v : Nat) : (s.setBnd j v).bores = s.bores := rfl
@[simp] theorem State.setBnd_pcie (s : State) (j : Nat) (v : Nat) : (s.setBnd j v).pcie = s.pcie := rfl
@[simp] theorem State.setBnd_tenancy (s : State) (j : Nat) (v : Nat) : (s.setBnd j v).tenancy = s.tenancy := rfl
@[simp] theorem State.setBnd_nvs (s : State) (j : Nat) (v : Nat) : (s.setBnd j v).nvs = s.nvs := rfl
@[simp] theorem State.setBnd_haul (s : State) (j : Nat) (v : Nat) : (s.setBnd j v).haul = s.haul := rfl
@[simp] theorem State.setBnd_slots (s : State) (j : Nat) (v : Nat) : (s.setBnd j v).slots = s.slots := rfl
@[simp] theorem State.setBnd_loads (s : State) (j : Nat) (v : Nat) : (s.setBnd j v).loads = s.loads := rfl
@[simp] theorem State.setBnd_memt (s : State) (j : Nat) (v : Nat) : (s.setBnd j v).memt = s.memt := rfl
@[simp] theorem State.setBnd_floorReset (s : State) (j : Nat) (v : Nat) : (s.setBnd j v).floorReset = s.floorReset := rfl
@[simp] theorem State.setBnd_repair (s : State) (j : Nat) (v : Nat) : (s.setBnd j v).repair = s.repair := rfl
@[simp] theorem State.setBnd_power (s : State) (j : Nat) (v : Nat) : (s.setBnd j v).power = s.power := rfl
@[simp] theorem State.setBnd_thermal (s : State) (j : Nat) (v : Nat) : (s.setBnd j v).thermal = s.thermal := rfl
@[simp] theorem State.setBnd_mbx (s : State) (j : Nat) (v : Nat) : (s.setBnd j v).mbx = s.mbx := rfl
@[simp] theorem State.setBnd_fw (s : State) (j : Nat) (v : Nat) : (s.setBnd j v).fw = s.fw := rfl
@[simp] theorem State.setBnd_side (s : State) (j : Nat) (v : Nat) : (s.setBnd j v).side = s.side := rfl
@[simp] theorem State.setBnd_scrub (s : State) (j : Nat) (v : Nat) : (s.setBnd j v).scrub = s.scrub := rfl
@[simp] theorem State.setBnd_hports (s : State) (j : Nat) (v : Nat) : (s.setBnd j v).hports = s.hports := rfl
@[simp] theorem State.setBnd_ddr (s : State) (j : Nat) (v : Nat) : (s.setBnd j v).ddr = s.ddr := rfl
@[simp] theorem State.setBnd_lanes (s : State) (j : Nat) (v : Nat) : (s.setBnd j v).lanes = s.lanes := rfl
@[simp] theorem State.setBnd_clocks (s : State) (j : Nat) (v : Nat) : (s.setBnd j v).clocks = s.clocks := rfl
@[simp] theorem State.setBnd_cal (s : State) (j : Nat) (v : Nat) : (s.setBnd j v).cal = s.cal := rfl
@[simp] theorem State.setBnd_hoppers (s : State) (j : Nat) (v : Nat) : (s.setBnd j v).hoppers = s.hoppers := rfl
@[simp] theorem State.setBnd_timers (s : State) (j : Nat) (v : Nat) : (s.setBnd j v).timers = s.timers := rfl
@[simp] theorem State.setBnd_regs (s : State) (j : Nat) (v : Nat) : (s.setBnd j v).regs = s.regs := rfl
@[simp] theorem State.setBnd_reg (s : State) (j : Nat) (v : Nat) (r0 : Reg) (i0 : Nat) : (s.setBnd j v).reg r0 i0 = s.reg r0 i0 := rfl
@[simp] theorem State.setBnd_get (s : State) (j : Nat) (v : Nat) (f0 : Fld) (i0 : Nat) : (s.setBnd j v).get f0 i0 = s.get f0 i0 := rfl
@[simp] theorem State.setBnd_flag (s : State) (j : Nat) (v : Nat) (f0 : Fld) (i0 : Nat) : (s.setBnd j v).flag f0 i0 = s.flag f0 i0 := rfl

@[simp] theorem State.setExpiry_pending (s : State) (b : Nat) (t : Option Nat) (held : Option Nat) : (s.setExpiry b t held).pending = s.pending := rfl
@[simp] theorem State.setExpiry_time (s : State) (b : Nat) (t : Option Nat) (held : Option Nat) : (s.setExpiry b t held).time = s.time := rfl
@[simp] theorem State.setExpiry_freeCtr (s : State) (b : Nat) (t : Option Nat) (held : Option Nat) : (s.setExpiry b t held).freeCtr = s.freeCtr := rfl
@[simp] theorem State.setExpiry_out (s : State) (b : Nat) (t : Option Nat) (held : Option Nat) : (s.setExpiry b t held).out = s.out := rfl
@[simp] theorem State.setExpiry_collector (s : State) (b : Nat) (t : Option Nat) (held : Option Nat) : (s.setExpiry b t held).collector = s.collector := rfl
@[simp] theorem State.setExpiry_wpl (s : State) (b : Nat) (t : Option Nat) (held : Option Nat) : (s.setExpiry b t held).wpl = s.wpl := rfl
@[simp] theorem State.setExpiry_hluLogged (s : State) (b : Nat) (t : Option Nat) (held : Option Nat) : (s.setExpiry b t held).hluLogged = s.hluLogged := rfl
@[simp] theorem State.setExpiry_bores (s : State) (b : Nat) (t : Option Nat) (held : Option Nat) : (s.setExpiry b t held).bores = s.bores := rfl
@[simp] theorem State.setExpiry_pcie (s : State) (b : Nat) (t : Option Nat) (held : Option Nat) : (s.setExpiry b t held).pcie = s.pcie := rfl
@[simp] theorem State.setExpiry_tenancy (s : State) (b : Nat) (t : Option Nat) (held : Option Nat) : (s.setExpiry b t held).tenancy = s.tenancy := rfl
@[simp] theorem State.setExpiry_nvs (s : State) (b : Nat) (t : Option Nat) (held : Option Nat) : (s.setExpiry b t held).nvs = s.nvs := rfl
@[simp] theorem State.setExpiry_haul (s : State) (b : Nat) (t : Option Nat) (held : Option Nat) : (s.setExpiry b t held).haul = s.haul := rfl
@[simp] theorem State.setExpiry_slots (s : State) (b : Nat) (t : Option Nat) (held : Option Nat) : (s.setExpiry b t held).slots = s.slots := rfl
@[simp] theorem State.setExpiry_loads (s : State) (b : Nat) (t : Option Nat) (held : Option Nat) : (s.setExpiry b t held).loads = s.loads := rfl
@[simp] theorem State.setExpiry_memt (s : State) (b : Nat) (t : Option Nat) (held : Option Nat) : (s.setExpiry b t held).memt = s.memt := rfl
@[simp] theorem State.setExpiry_floorReset (s : State) (b : Nat) (t : Option Nat) (held : Option Nat) : (s.setExpiry b t held).floorReset = s.floorReset := rfl
@[simp] theorem State.setExpiry_repair (s : State) (b : Nat) (t : Option Nat) (held : Option Nat) : (s.setExpiry b t held).repair = s.repair := rfl
@[simp] theorem State.setExpiry_power (s : State) (b : Nat) (t : Option Nat) (held : Option Nat) : (s.setExpiry b t held).power = s.power := rfl
@[simp] theorem State.setExpiry_thermal (s : State) (b : Nat) (t : Option Nat) (held : Option Nat) : (s.setExpiry b t held).thermal = s.thermal := rfl
@[simp] theorem State.setExpiry_mbx (s : State) (b : Nat) (t : Option Nat) (held : Option Nat) : (s.setExpiry b t held).mbx = s.mbx := rfl
@[simp] theorem State.setExpiry_fw (s : State) (b : Nat) (t : Option Nat) (held : Option Nat) : (s.setExpiry b t held).fw = s.fw := rfl
@[simp] theorem State.setExpiry_side (s : State) (b : Nat) (t : Option Nat) (held : Option Nat) : (s.setExpiry b t held).side = s.side := rfl
@[simp] theorem State.setExpiry_scrub (s : State) (b : Nat) (t : Option Nat) (held : Option Nat) : (s.setExpiry b t held).scrub = s.scrub := rfl
@[simp] theorem State.setExpiry_hports (s : State) (b : Nat) (t : Option Nat) (held : Option Nat) : (s.setExpiry b t held).hports = s.hports := rfl
@[simp] theorem State.setExpiry_ddr (s : State) (b : Nat) (t : Option Nat) (held : Option Nat) : (s.setExpiry b t held).ddr = s.ddr := rfl
@[simp] theorem State.setExpiry_lanes (s : State) (b : Nat) (t : Option Nat) (held : Option Nat) : (s.setExpiry b t held).lanes = s.lanes := rfl
@[simp] theorem State.setExpiry_clocks (s : State) (b : Nat) (t : Option Nat) (held : Option Nat) : (s.setExpiry b t held).clocks = s.clocks := rfl
@[simp] theorem State.setExpiry_cal (s : State) (b : Nat) (t : Option Nat) (held : Option Nat) : (s.setExpiry b t held).cal = s.cal := rfl
@[simp] theorem State.setExpiry_hoppers (s : State) (b : Nat) (t : Option Nat) (held : Option Nat) : (s.setExpiry b t held).hoppers = s.hoppers := rfl
@[simp] theorem State.setExpiry_timers (s : State) (b : Nat) (t : Option Nat) (held : Option Nat) : (s.setExpiry b t held).timers = s.timers := rfl
@[simp] theorem State.setExpiry_regs (s : State) (b : Nat) (t : Option Nat) (held : Option Nat) : (s.setExpiry b t held).regs = s.regs := rfl
@[simp] theorem State.setExpiry_reg (s : State) (b : Nat) (t : Option Nat) (held : Option Nat) (r0 : Reg) (i0 : Nat) : (s.setExpiry b t held).reg r0 i0 = s.reg r0 i0 := rfl
@[simp] theorem State.setExpiry_get (s : State) (b : Nat) (t : Option Nat) (held : Option Nat) (f0 : Fld) (i0 : Nat) : (s.setExpiry b t held).get f0 i0 = s.get f0 i0 := rfl
@[simp] theorem State.setExpiry_flag (s : State) (b : Nat) (t : Option Nat) (held : Option Nat) (f0 : Fld) (i0 : Nat) : (s.setExpiry b t held).flag f0 i0 = s.flag f0 i0 := rfl

@[simp] theorem State.setHop_pending (s : State) (j : Nat) (x : Hopper) : (s.setHop j x).pending = s.pending := rfl
@[simp] theorem State.setHop_time (s : State) (j : Nat) (x : Hopper) : (s.setHop j x).time = s.time := rfl
@[simp] theorem State.setHop_freeCtr (s : State) (j : Nat) (x : Hopper) : (s.setHop j x).freeCtr = s.freeCtr := rfl
@[simp] theorem State.setHop_out (s : State) (j : Nat) (x : Hopper) : (s.setHop j x).out = s.out := rfl
@[simp] theorem State.setHop_collector (s : State) (j : Nat) (x : Hopper) : (s.setHop j x).collector = s.collector := rfl
@[simp] theorem State.setHop_wpl (s : State) (j : Nat) (x : Hopper) : (s.setHop j x).wpl = s.wpl := rfl
@[simp] theorem State.setHop_hluLogged (s : State) (j : Nat) (x : Hopper) : (s.setHop j x).hluLogged = s.hluLogged := rfl
@[simp] theorem State.setHop_bores (s : State) (j : Nat) (x : Hopper) : (s.setHop j x).bores = s.bores := rfl
@[simp] theorem State.setHop_pcie (s : State) (j : Nat) (x : Hopper) : (s.setHop j x).pcie = s.pcie := rfl
@[simp] theorem State.setHop_tenancy (s : State) (j : Nat) (x : Hopper) : (s.setHop j x).tenancy = s.tenancy := rfl
@[simp] theorem State.setHop_nvs (s : State) (j : Nat) (x : Hopper) : (s.setHop j x).nvs = s.nvs := rfl
@[simp] theorem State.setHop_haul (s : State) (j : Nat) (x : Hopper) : (s.setHop j x).haul = s.haul := rfl
@[simp] theorem State.setHop_planes (s : State) (j : Nat) (x : Hopper) : (s.setHop j x).planes = s.planes := rfl
@[simp] theorem State.setHop_slots (s : State) (j : Nat) (x : Hopper) : (s.setHop j x).slots = s.slots := rfl
@[simp] theorem State.setHop_loads (s : State) (j : Nat) (x : Hopper) : (s.setHop j x).loads = s.loads := rfl
@[simp] theorem State.setHop_memt (s : State) (j : Nat) (x : Hopper) : (s.setHop j x).memt = s.memt := rfl
@[simp] theorem State.setHop_floorReset (s : State) (j : Nat) (x : Hopper) : (s.setHop j x).floorReset = s.floorReset := rfl
@[simp] theorem State.setHop_repair (s : State) (j : Nat) (x : Hopper) : (s.setHop j x).repair = s.repair := rfl
@[simp] theorem State.setHop_power (s : State) (j : Nat) (x : Hopper) : (s.setHop j x).power = s.power := rfl
@[simp] theorem State.setHop_thermal (s : State) (j : Nat) (x : Hopper) : (s.setHop j x).thermal = s.thermal := rfl
@[simp] theorem State.setHop_mbx (s : State) (j : Nat) (x : Hopper) : (s.setHop j x).mbx = s.mbx := rfl
@[simp] theorem State.setHop_fw (s : State) (j : Nat) (x : Hopper) : (s.setHop j x).fw = s.fw := rfl
@[simp] theorem State.setHop_side (s : State) (j : Nat) (x : Hopper) : (s.setHop j x).side = s.side := rfl
@[simp] theorem State.setHop_scrub (s : State) (j : Nat) (x : Hopper) : (s.setHop j x).scrub = s.scrub := rfl
@[simp] theorem State.setHop_hports (s : State) (j : Nat) (x : Hopper) : (s.setHop j x).hports = s.hports := rfl
@[simp] theorem State.setHop_ddr (s : State) (j : Nat) (x : Hopper) : (s.setHop j x).ddr = s.ddr := rfl
@[simp] theorem State.setHop_lanes (s : State) (j : Nat) (x : Hopper) : (s.setHop j x).lanes = s.lanes := rfl
@[simp] theorem State.setHop_clocks (s : State) (j : Nat) (x : Hopper) : (s.setHop j x).clocks = s.clocks := rfl
@[simp] theorem State.setHop_cal (s : State) (j : Nat) (x : Hopper) : (s.setHop j x).cal = s.cal := rfl
@[simp] theorem State.setHop_timers (s : State) (j : Nat) (x : Hopper) : (s.setHop j x).timers = s.timers := rfl
@[simp] theorem State.setHop_regs (s : State) (j : Nat) (x : Hopper) : (s.setHop j x).regs = s.regs := rfl
@[simp] theorem State.setHop_reg (s : State) (j : Nat) (x : Hopper) (r0 : Reg) (i0 : Nat) : (s.setHop j x).reg r0 i0 = s.reg r0 i0 := rfl
@[simp] theorem State.setHop_get (s : State) (j : Nat) (x : Hopper) (f0 : Fld) (i0 : Nat) : (s.setHop j x).get f0 i0 = s.get f0 i0 := rfl
@[simp] theorem State.setHop_flag (s : State) (j : Nat) (x : Hopper) (f0 : Fld) (i0 : Nat) : (s.setHop j x).flag f0 i0 = s.flag f0 i0 := rfl

@[simp] theorem State.setBlk_pending (s : State) (b : Nat) (n : Nat) (x : MemBlock) : (s.setBlk b n x).pending = s.pending := rfl
@[simp] theorem State.setBlk_time (s : State) (b : Nat) (n : Nat) (x : MemBlock) : (s.setBlk b n x).time = s.time := rfl
@[simp] theorem State.setBlk_freeCtr (s : State) (b : Nat) (n : Nat) (x : MemBlock) : (s.setBlk b n x).freeCtr = s.freeCtr := rfl
@[simp] theorem State.setBlk_out (s : State) (b : Nat) (n : Nat) (x : MemBlock) : (s.setBlk b n x).out = s.out := rfl
@[simp] theorem State.setBlk_collector (s : State) (b : Nat) (n : Nat) (x : MemBlock) : (s.setBlk b n x).collector = s.collector := rfl
@[simp] theorem State.setBlk_wpl (s : State) (b : Nat) (n : Nat) (x : MemBlock) : (s.setBlk b n x).wpl = s.wpl := rfl
@[simp] theorem State.setBlk_hluLogged (s : State) (b : Nat) (n : Nat) (x : MemBlock) : (s.setBlk b n x).hluLogged = s.hluLogged := rfl
@[simp] theorem State.setBlk_bores (s : State) (b : Nat) (n : Nat) (x : MemBlock) : (s.setBlk b n x).bores = s.bores := rfl
@[simp] theorem State.setBlk_pcie (s : State) (b : Nat) (n : Nat) (x : MemBlock) : (s.setBlk b n x).pcie = s.pcie := rfl
@[simp] theorem State.setBlk_tenancy (s : State) (b : Nat) (n : Nat) (x : MemBlock) : (s.setBlk b n x).tenancy = s.tenancy := rfl
@[simp] theorem State.setBlk_nvs (s : State) (b : Nat) (n : Nat) (x : MemBlock) : (s.setBlk b n x).nvs = s.nvs := rfl
@[simp] theorem State.setBlk_haul (s : State) (b : Nat) (n : Nat) (x : MemBlock) : (s.setBlk b n x).haul = s.haul := rfl
@[simp] theorem State.setBlk_planes (s : State) (b : Nat) (n : Nat) (x : MemBlock) : (s.setBlk b n x).planes = s.planes := rfl
@[simp] theorem State.setBlk_slots (s : State) (b : Nat) (n : Nat) (x : MemBlock) : (s.setBlk b n x).slots = s.slots := rfl
@[simp] theorem State.setBlk_loads (s : State) (b : Nat) (n : Nat) (x : MemBlock) : (s.setBlk b n x).loads = s.loads := rfl
@[simp] theorem State.setBlk_floorReset (s : State) (b : Nat) (n : Nat) (x : MemBlock) : (s.setBlk b n x).floorReset = s.floorReset := rfl
@[simp] theorem State.setBlk_repair (s : State) (b : Nat) (n : Nat) (x : MemBlock) : (s.setBlk b n x).repair = s.repair := rfl
@[simp] theorem State.setBlk_power (s : State) (b : Nat) (n : Nat) (x : MemBlock) : (s.setBlk b n x).power = s.power := rfl
@[simp] theorem State.setBlk_thermal (s : State) (b : Nat) (n : Nat) (x : MemBlock) : (s.setBlk b n x).thermal = s.thermal := rfl
@[simp] theorem State.setBlk_mbx (s : State) (b : Nat) (n : Nat) (x : MemBlock) : (s.setBlk b n x).mbx = s.mbx := rfl
@[simp] theorem State.setBlk_fw (s : State) (b : Nat) (n : Nat) (x : MemBlock) : (s.setBlk b n x).fw = s.fw := rfl
@[simp] theorem State.setBlk_side (s : State) (b : Nat) (n : Nat) (x : MemBlock) : (s.setBlk b n x).side = s.side := rfl
@[simp] theorem State.setBlk_scrub (s : State) (b : Nat) (n : Nat) (x : MemBlock) : (s.setBlk b n x).scrub = s.scrub := rfl
@[simp] theorem State.setBlk_hports (s : State) (b : Nat) (n : Nat) (x : MemBlock) : (s.setBlk b n x).hports = s.hports := rfl
@[simp] theorem State.setBlk_ddr (s : State) (b : Nat) (n : Nat) (x : MemBlock) : (s.setBlk b n x).ddr = s.ddr := rfl
@[simp] theorem State.setBlk_lanes (s : State) (b : Nat) (n : Nat) (x : MemBlock) : (s.setBlk b n x).lanes = s.lanes := rfl
@[simp] theorem State.setBlk_clocks (s : State) (b : Nat) (n : Nat) (x : MemBlock) : (s.setBlk b n x).clocks = s.clocks := rfl
@[simp] theorem State.setBlk_cal (s : State) (b : Nat) (n : Nat) (x : MemBlock) : (s.setBlk b n x).cal = s.cal := rfl
@[simp] theorem State.setBlk_hoppers (s : State) (b : Nat) (n : Nat) (x : MemBlock) : (s.setBlk b n x).hoppers = s.hoppers := rfl
@[simp] theorem State.setBlk_timers (s : State) (b : Nat) (n : Nat) (x : MemBlock) : (s.setBlk b n x).timers = s.timers := rfl
@[simp] theorem State.setBlk_regs (s : State) (b : Nat) (n : Nat) (x : MemBlock) : (s.setBlk b n x).regs = s.regs := rfl
@[simp] theorem State.setBlk_reg (s : State) (b : Nat) (n : Nat) (x : MemBlock) (r0 : Reg) (i0 : Nat) : (s.setBlk b n x).reg r0 i0 = s.reg r0 i0 := rfl
@[simp] theorem State.setBlk_get (s : State) (b : Nat) (n : Nat) (x : MemBlock) (f0 : Fld) (i0 : Nat) : (s.setBlk b n x).get f0 i0 = s.get f0 i0 := rfl
@[simp] theorem State.setBlk_flag (s : State) (b : Nat) (n : Nat) (x : MemBlock) (f0 : Fld) (i0 : Nat) : (s.setBlk b n x).flag f0 i0 = s.flag f0 i0 := rfl

@[simp] theorem State.setMemReqs_pending (s : State) (b : Nat) (l : List MemReq) : (s.setMemReqs b l).pending = s.pending := rfl
@[simp] theorem State.setMemReqs_time (s : State) (b : Nat) (l : List MemReq) : (s.setMemReqs b l).time = s.time := rfl
@[simp] theorem State.setMemReqs_freeCtr (s : State) (b : Nat) (l : List MemReq) : (s.setMemReqs b l).freeCtr = s.freeCtr := rfl
@[simp] theorem State.setMemReqs_out (s : State) (b : Nat) (l : List MemReq) : (s.setMemReqs b l).out = s.out := rfl
@[simp] theorem State.setMemReqs_collector (s : State) (b : Nat) (l : List MemReq) : (s.setMemReqs b l).collector = s.collector := rfl
@[simp] theorem State.setMemReqs_wpl (s : State) (b : Nat) (l : List MemReq) : (s.setMemReqs b l).wpl = s.wpl := rfl
@[simp] theorem State.setMemReqs_hluLogged (s : State) (b : Nat) (l : List MemReq) : (s.setMemReqs b l).hluLogged = s.hluLogged := rfl
@[simp] theorem State.setMemReqs_bores (s : State) (b : Nat) (l : List MemReq) : (s.setMemReqs b l).bores = s.bores := rfl
@[simp] theorem State.setMemReqs_pcie (s : State) (b : Nat) (l : List MemReq) : (s.setMemReqs b l).pcie = s.pcie := rfl
@[simp] theorem State.setMemReqs_tenancy (s : State) (b : Nat) (l : List MemReq) : (s.setMemReqs b l).tenancy = s.tenancy := rfl
@[simp] theorem State.setMemReqs_nvs (s : State) (b : Nat) (l : List MemReq) : (s.setMemReqs b l).nvs = s.nvs := rfl
@[simp] theorem State.setMemReqs_haul (s : State) (b : Nat) (l : List MemReq) : (s.setMemReqs b l).haul = s.haul := rfl
@[simp] theorem State.setMemReqs_planes (s : State) (b : Nat) (l : List MemReq) : (s.setMemReqs b l).planes = s.planes := rfl
@[simp] theorem State.setMemReqs_slots (s : State) (b : Nat) (l : List MemReq) : (s.setMemReqs b l).slots = s.slots := rfl
@[simp] theorem State.setMemReqs_loads (s : State) (b : Nat) (l : List MemReq) : (s.setMemReqs b l).loads = s.loads := rfl
@[simp] theorem State.setMemReqs_floorReset (s : State) (b : Nat) (l : List MemReq) : (s.setMemReqs b l).floorReset = s.floorReset := rfl
@[simp] theorem State.setMemReqs_repair (s : State) (b : Nat) (l : List MemReq) : (s.setMemReqs b l).repair = s.repair := rfl
@[simp] theorem State.setMemReqs_power (s : State) (b : Nat) (l : List MemReq) : (s.setMemReqs b l).power = s.power := rfl
@[simp] theorem State.setMemReqs_thermal (s : State) (b : Nat) (l : List MemReq) : (s.setMemReqs b l).thermal = s.thermal := rfl
@[simp] theorem State.setMemReqs_mbx (s : State) (b : Nat) (l : List MemReq) : (s.setMemReqs b l).mbx = s.mbx := rfl
@[simp] theorem State.setMemReqs_fw (s : State) (b : Nat) (l : List MemReq) : (s.setMemReqs b l).fw = s.fw := rfl
@[simp] theorem State.setMemReqs_side (s : State) (b : Nat) (l : List MemReq) : (s.setMemReqs b l).side = s.side := rfl
@[simp] theorem State.setMemReqs_scrub (s : State) (b : Nat) (l : List MemReq) : (s.setMemReqs b l).scrub = s.scrub := rfl
@[simp] theorem State.setMemReqs_hports (s : State) (b : Nat) (l : List MemReq) : (s.setMemReqs b l).hports = s.hports := rfl
@[simp] theorem State.setMemReqs_ddr (s : State) (b : Nat) (l : List MemReq) : (s.setMemReqs b l).ddr = s.ddr := rfl
@[simp] theorem State.setMemReqs_lanes (s : State) (b : Nat) (l : List MemReq) : (s.setMemReqs b l).lanes = s.lanes := rfl
@[simp] theorem State.setMemReqs_clocks (s : State) (b : Nat) (l : List MemReq) : (s.setMemReqs b l).clocks = s.clocks := rfl
@[simp] theorem State.setMemReqs_cal (s : State) (b : Nat) (l : List MemReq) : (s.setMemReqs b l).cal = s.cal := rfl
@[simp] theorem State.setMemReqs_hoppers (s : State) (b : Nat) (l : List MemReq) : (s.setMemReqs b l).hoppers = s.hoppers := rfl
@[simp] theorem State.setMemReqs_timers (s : State) (b : Nat) (l : List MemReq) : (s.setMemReqs b l).timers = s.timers := rfl
@[simp] theorem State.setMemReqs_regs (s : State) (b : Nat) (l : List MemReq) : (s.setMemReqs b l).regs = s.regs := rfl
@[simp] theorem State.setMemReqs_reg (s : State) (b : Nat) (l : List MemReq) (r0 : Reg) (i0 : Nat) : (s.setMemReqs b l).reg r0 i0 = s.reg r0 i0 := rfl
@[simp] theorem State.setMemReqs_get (s : State) (b : Nat) (l : List MemReq) (f0 : Fld) (i0 : Nat) : (s.setMemReqs b l).get f0 i0 = s.get f0 i0 := rfl
@[simp] theorem State.setMemReqs_flag (s : State) (b : Nat) (l : List MemReq) (f0 : Fld) (i0 : Nat) : (s.setMemReqs b l).flag f0 i0 = s.flag f0 i0 := rfl

@[simp] theorem State.setShift_pending (s : State) (b : Nat) (x : Option ShiftRun) : (s.setShift b x).pending = s.pending := rfl
@[simp] theorem State.setShift_time (s : State) (b : Nat) (x : Option ShiftRun) : (s.setShift b x).time = s.time := rfl
@[simp] theorem State.setShift_freeCtr (s : State) (b : Nat) (x : Option ShiftRun) : (s.setShift b x).freeCtr = s.freeCtr := rfl
@[simp] theorem State.setShift_out (s : State) (b : Nat) (x : Option ShiftRun) : (s.setShift b x).out = s.out := rfl
@[simp] theorem State.setShift_collector (s : State) (b : Nat) (x : Option ShiftRun) : (s.setShift b x).collector = s.collector := rfl
@[simp] theorem State.setShift_wpl (s : State) (b : Nat) (x : Option ShiftRun) : (s.setShift b x).wpl = s.wpl := rfl
@[simp] theorem State.setShift_hluLogged (s : State) (b : Nat) (x : Option ShiftRun) : (s.setShift b x).hluLogged = s.hluLogged := rfl
@[simp] theorem State.setShift_bores (s : State) (b : Nat) (x : Option ShiftRun) : (s.setShift b x).bores = s.bores := rfl
@[simp] theorem State.setShift_pcie (s : State) (b : Nat) (x : Option ShiftRun) : (s.setShift b x).pcie = s.pcie := rfl
@[simp] theorem State.setShift_tenancy (s : State) (b : Nat) (x : Option ShiftRun) : (s.setShift b x).tenancy = s.tenancy := rfl
@[simp] theorem State.setShift_nvs (s : State) (b : Nat) (x : Option ShiftRun) : (s.setShift b x).nvs = s.nvs := rfl
@[simp] theorem State.setShift_haul (s : State) (b : Nat) (x : Option ShiftRun) : (s.setShift b x).haul = s.haul := rfl
@[simp] theorem State.setShift_planes (s : State) (b : Nat) (x : Option ShiftRun) : (s.setShift b x).planes = s.planes := rfl
@[simp] theorem State.setShift_slots (s : State) (b : Nat) (x : Option ShiftRun) : (s.setShift b x).slots = s.slots := rfl
@[simp] theorem State.setShift_loads (s : State) (b : Nat) (x : Option ShiftRun) : (s.setShift b x).loads = s.loads := rfl
@[simp] theorem State.setShift_memt (s : State) (b : Nat) (x : Option ShiftRun) : (s.setShift b x).memt = s.memt := rfl
@[simp] theorem State.setShift_floorReset (s : State) (b : Nat) (x : Option ShiftRun) : (s.setShift b x).floorReset = s.floorReset := rfl
@[simp] theorem State.setShift_power (s : State) (b : Nat) (x : Option ShiftRun) : (s.setShift b x).power = s.power := rfl
@[simp] theorem State.setShift_thermal (s : State) (b : Nat) (x : Option ShiftRun) : (s.setShift b x).thermal = s.thermal := rfl
@[simp] theorem State.setShift_mbx (s : State) (b : Nat) (x : Option ShiftRun) : (s.setShift b x).mbx = s.mbx := rfl
@[simp] theorem State.setShift_fw (s : State) (b : Nat) (x : Option ShiftRun) : (s.setShift b x).fw = s.fw := rfl
@[simp] theorem State.setShift_side (s : State) (b : Nat) (x : Option ShiftRun) : (s.setShift b x).side = s.side := rfl
@[simp] theorem State.setShift_scrub (s : State) (b : Nat) (x : Option ShiftRun) : (s.setShift b x).scrub = s.scrub := rfl
@[simp] theorem State.setShift_hports (s : State) (b : Nat) (x : Option ShiftRun) : (s.setShift b x).hports = s.hports := rfl
@[simp] theorem State.setShift_ddr (s : State) (b : Nat) (x : Option ShiftRun) : (s.setShift b x).ddr = s.ddr := rfl
@[simp] theorem State.setShift_lanes (s : State) (b : Nat) (x : Option ShiftRun) : (s.setShift b x).lanes = s.lanes := rfl
@[simp] theorem State.setShift_clocks (s : State) (b : Nat) (x : Option ShiftRun) : (s.setShift b x).clocks = s.clocks := rfl
@[simp] theorem State.setShift_cal (s : State) (b : Nat) (x : Option ShiftRun) : (s.setShift b x).cal = s.cal := rfl
@[simp] theorem State.setShift_hoppers (s : State) (b : Nat) (x : Option ShiftRun) : (s.setShift b x).hoppers = s.hoppers := rfl
@[simp] theorem State.setShift_timers (s : State) (b : Nat) (x : Option ShiftRun) : (s.setShift b x).timers = s.timers := rfl
@[simp] theorem State.setShift_regs (s : State) (b : Nat) (x : Option ShiftRun) : (s.setShift b x).regs = s.regs := rfl
@[simp] theorem State.setShift_reg (s : State) (b : Nat) (x : Option ShiftRun) (r0 : Reg) (i0 : Nat) : (s.setShift b x).reg r0 i0 = s.reg r0 i0 := rfl
@[simp] theorem State.setShift_get (s : State) (b : Nat) (x : Option ShiftRun) (f0 : Fld) (i0 : Nat) : (s.setShift b x).get f0 i0 = s.get f0 i0 := rfl
@[simp] theorem State.setShift_flag (s : State) (b : Nat) (x : Option ShiftRun) (f0 : Fld) (i0 : Nat) : (s.setShift b x).flag f0 i0 = s.flag f0 i0 := rfl

@[simp] theorem State.setCtxRun_pending (s : State) (b : Nat) (r : Option CtxRun) : (s.setCtxRun b r).pending = s.pending := rfl
@[simp] theorem State.setCtxRun_time (s : State) (b : Nat) (r : Option CtxRun) : (s.setCtxRun b r).time = s.time := rfl
@[simp] theorem State.setCtxRun_freeCtr (s : State) (b : Nat) (r : Option CtxRun) : (s.setCtxRun b r).freeCtr = s.freeCtr := rfl
@[simp] theorem State.setCtxRun_out (s : State) (b : Nat) (r : Option CtxRun) : (s.setCtxRun b r).out = s.out := rfl
@[simp] theorem State.setCtxRun_collector (s : State) (b : Nat) (r : Option CtxRun) : (s.setCtxRun b r).collector = s.collector := rfl
@[simp] theorem State.setCtxRun_wpl (s : State) (b : Nat) (r : Option CtxRun) : (s.setCtxRun b r).wpl = s.wpl := rfl
@[simp] theorem State.setCtxRun_hluLogged (s : State) (b : Nat) (r : Option CtxRun) : (s.setCtxRun b r).hluLogged = s.hluLogged := rfl
@[simp] theorem State.setCtxRun_bores (s : State) (b : Nat) (r : Option CtxRun) : (s.setCtxRun b r).bores = s.bores := rfl
@[simp] theorem State.setCtxRun_pcie (s : State) (b : Nat) (r : Option CtxRun) : (s.setCtxRun b r).pcie = s.pcie := rfl
@[simp] theorem State.setCtxRun_tenancy (s : State) (b : Nat) (r : Option CtxRun) : (s.setCtxRun b r).tenancy = s.tenancy := rfl
@[simp] theorem State.setCtxRun_nvs (s : State) (b : Nat) (r : Option CtxRun) : (s.setCtxRun b r).nvs = s.nvs := rfl
@[simp] theorem State.setCtxRun_haul (s : State) (b : Nat) (r : Option CtxRun) : (s.setCtxRun b r).haul = s.haul := rfl
@[simp] theorem State.setCtxRun_planes (s : State) (b : Nat) (r : Option CtxRun) : (s.setCtxRun b r).planes = s.planes := rfl
@[simp] theorem State.setCtxRun_loads (s : State) (b : Nat) (r : Option CtxRun) : (s.setCtxRun b r).loads = s.loads := rfl
@[simp] theorem State.setCtxRun_memt (s : State) (b : Nat) (r : Option CtxRun) : (s.setCtxRun b r).memt = s.memt := rfl
@[simp] theorem State.setCtxRun_floorReset (s : State) (b : Nat) (r : Option CtxRun) : (s.setCtxRun b r).floorReset = s.floorReset := rfl
@[simp] theorem State.setCtxRun_repair (s : State) (b : Nat) (r : Option CtxRun) : (s.setCtxRun b r).repair = s.repair := rfl
@[simp] theorem State.setCtxRun_power (s : State) (b : Nat) (r : Option CtxRun) : (s.setCtxRun b r).power = s.power := rfl
@[simp] theorem State.setCtxRun_thermal (s : State) (b : Nat) (r : Option CtxRun) : (s.setCtxRun b r).thermal = s.thermal := rfl
@[simp] theorem State.setCtxRun_mbx (s : State) (b : Nat) (r : Option CtxRun) : (s.setCtxRun b r).mbx = s.mbx := rfl
@[simp] theorem State.setCtxRun_fw (s : State) (b : Nat) (r : Option CtxRun) : (s.setCtxRun b r).fw = s.fw := rfl
@[simp] theorem State.setCtxRun_side (s : State) (b : Nat) (r : Option CtxRun) : (s.setCtxRun b r).side = s.side := rfl
@[simp] theorem State.setCtxRun_scrub (s : State) (b : Nat) (r : Option CtxRun) : (s.setCtxRun b r).scrub = s.scrub := rfl
@[simp] theorem State.setCtxRun_hports (s : State) (b : Nat) (r : Option CtxRun) : (s.setCtxRun b r).hports = s.hports := rfl
@[simp] theorem State.setCtxRun_ddr (s : State) (b : Nat) (r : Option CtxRun) : (s.setCtxRun b r).ddr = s.ddr := rfl
@[simp] theorem State.setCtxRun_lanes (s : State) (b : Nat) (r : Option CtxRun) : (s.setCtxRun b r).lanes = s.lanes := rfl
@[simp] theorem State.setCtxRun_clocks (s : State) (b : Nat) (r : Option CtxRun) : (s.setCtxRun b r).clocks = s.clocks := rfl
@[simp] theorem State.setCtxRun_cal (s : State) (b : Nat) (r : Option CtxRun) : (s.setCtxRun b r).cal = s.cal := rfl
@[simp] theorem State.setCtxRun_hoppers (s : State) (b : Nat) (r : Option CtxRun) : (s.setCtxRun b r).hoppers = s.hoppers := rfl
@[simp] theorem State.setCtxRun_timers (s : State) (b : Nat) (r : Option CtxRun) : (s.setCtxRun b r).timers = s.timers := rfl
@[simp] theorem State.setCtxRun_regs (s : State) (b : Nat) (r : Option CtxRun) : (s.setCtxRun b r).regs = s.regs := rfl
@[simp] theorem State.setCtxRun_reg (s : State) (b : Nat) (r : Option CtxRun) (r0 : Reg) (i0 : Nat) : (s.setCtxRun b r).reg r0 i0 = s.reg r0 i0 := rfl
@[simp] theorem State.setCtxRun_get (s : State) (b : Nat) (r : Option CtxRun) (f0 : Fld) (i0 : Nat) : (s.setCtxRun b r).get f0 i0 = s.get f0 i0 := rfl
@[simp] theorem State.setCtxRun_flag (s : State) (b : Nat) (r : Option CtxRun) (f0 : Fld) (i0 : Nat) : (s.setCtxRun b r).flag f0 i0 = s.flag f0 i0 := rfl

@[simp] theorem State.setChan_pending (s : State) (ch : Nat) (x : DdrCh) : (s.setChan ch x).pending = s.pending := rfl
@[simp] theorem State.setChan_time (s : State) (ch : Nat) (x : DdrCh) : (s.setChan ch x).time = s.time := rfl
@[simp] theorem State.setChan_freeCtr (s : State) (ch : Nat) (x : DdrCh) : (s.setChan ch x).freeCtr = s.freeCtr := rfl
@[simp] theorem State.setChan_out (s : State) (ch : Nat) (x : DdrCh) : (s.setChan ch x).out = s.out := rfl
@[simp] theorem State.setChan_collector (s : State) (ch : Nat) (x : DdrCh) : (s.setChan ch x).collector = s.collector := rfl
@[simp] theorem State.setChan_wpl (s : State) (ch : Nat) (x : DdrCh) : (s.setChan ch x).wpl = s.wpl := rfl
@[simp] theorem State.setChan_hluLogged (s : State) (ch : Nat) (x : DdrCh) : (s.setChan ch x).hluLogged = s.hluLogged := rfl
@[simp] theorem State.setChan_bores (s : State) (ch : Nat) (x : DdrCh) : (s.setChan ch x).bores = s.bores := rfl
@[simp] theorem State.setChan_pcie (s : State) (ch : Nat) (x : DdrCh) : (s.setChan ch x).pcie = s.pcie := rfl
@[simp] theorem State.setChan_tenancy (s : State) (ch : Nat) (x : DdrCh) : (s.setChan ch x).tenancy = s.tenancy := rfl
@[simp] theorem State.setChan_nvs (s : State) (ch : Nat) (x : DdrCh) : (s.setChan ch x).nvs = s.nvs := rfl
@[simp] theorem State.setChan_haul (s : State) (ch : Nat) (x : DdrCh) : (s.setChan ch x).haul = s.haul := rfl
@[simp] theorem State.setChan_planes (s : State) (ch : Nat) (x : DdrCh) : (s.setChan ch x).planes = s.planes := rfl
@[simp] theorem State.setChan_slots (s : State) (ch : Nat) (x : DdrCh) : (s.setChan ch x).slots = s.slots := rfl
@[simp] theorem State.setChan_loads (s : State) (ch : Nat) (x : DdrCh) : (s.setChan ch x).loads = s.loads := rfl
@[simp] theorem State.setChan_memt (s : State) (ch : Nat) (x : DdrCh) : (s.setChan ch x).memt = s.memt := rfl
@[simp] theorem State.setChan_floorReset (s : State) (ch : Nat) (x : DdrCh) : (s.setChan ch x).floorReset = s.floorReset := rfl
@[simp] theorem State.setChan_repair (s : State) (ch : Nat) (x : DdrCh) : (s.setChan ch x).repair = s.repair := rfl
@[simp] theorem State.setChan_power (s : State) (ch : Nat) (x : DdrCh) : (s.setChan ch x).power = s.power := rfl
@[simp] theorem State.setChan_thermal (s : State) (ch : Nat) (x : DdrCh) : (s.setChan ch x).thermal = s.thermal := rfl
@[simp] theorem State.setChan_mbx (s : State) (ch : Nat) (x : DdrCh) : (s.setChan ch x).mbx = s.mbx := rfl
@[simp] theorem State.setChan_fw (s : State) (ch : Nat) (x : DdrCh) : (s.setChan ch x).fw = s.fw := rfl
@[simp] theorem State.setChan_side (s : State) (ch : Nat) (x : DdrCh) : (s.setChan ch x).side = s.side := rfl
@[simp] theorem State.setChan_scrub (s : State) (ch : Nat) (x : DdrCh) : (s.setChan ch x).scrub = s.scrub := rfl
@[simp] theorem State.setChan_hports (s : State) (ch : Nat) (x : DdrCh) : (s.setChan ch x).hports = s.hports := rfl
@[simp] theorem State.setChan_lanes (s : State) (ch : Nat) (x : DdrCh) : (s.setChan ch x).lanes = s.lanes := rfl
@[simp] theorem State.setChan_clocks (s : State) (ch : Nat) (x : DdrCh) : (s.setChan ch x).clocks = s.clocks := rfl
@[simp] theorem State.setChan_cal (s : State) (ch : Nat) (x : DdrCh) : (s.setChan ch x).cal = s.cal := rfl
@[simp] theorem State.setChan_hoppers (s : State) (ch : Nat) (x : DdrCh) : (s.setChan ch x).hoppers = s.hoppers := rfl
@[simp] theorem State.setChan_timers (s : State) (ch : Nat) (x : DdrCh) : (s.setChan ch x).timers = s.timers := rfl
@[simp] theorem State.setChan_regs (s : State) (ch : Nat) (x : DdrCh) : (s.setChan ch x).regs = s.regs := rfl
@[simp] theorem State.setChan_reg (s : State) (ch : Nat) (x : DdrCh) (r0 : Reg) (i0 : Nat) : (s.setChan ch x).reg r0 i0 = s.reg r0 i0 := rfl
@[simp] theorem State.setChan_get (s : State) (ch : Nat) (x : DdrCh) (f0 : Fld) (i0 : Nat) : (s.setChan ch x).get f0 i0 = s.get f0 i0 := rfl
@[simp] theorem State.setChan_flag (s : State) (ch : Nat) (x : DdrCh) (f0 : Fld) (i0 : Nat) : (s.setChan ch x).flag f0 i0 = s.flag f0 i0 := rfl

@[simp] theorem State.setLoad_pending (s : State) (n : Nat) (r : Option LoadRun) : (s.setLoad n r).pending = s.pending := rfl
@[simp] theorem State.setLoad_time (s : State) (n : Nat) (r : Option LoadRun) : (s.setLoad n r).time = s.time := rfl
@[simp] theorem State.setLoad_freeCtr (s : State) (n : Nat) (r : Option LoadRun) : (s.setLoad n r).freeCtr = s.freeCtr := rfl
@[simp] theorem State.setLoad_out (s : State) (n : Nat) (r : Option LoadRun) : (s.setLoad n r).out = s.out := rfl
@[simp] theorem State.setLoad_collector (s : State) (n : Nat) (r : Option LoadRun) : (s.setLoad n r).collector = s.collector := rfl
@[simp] theorem State.setLoad_wpl (s : State) (n : Nat) (r : Option LoadRun) : (s.setLoad n r).wpl = s.wpl := rfl
@[simp] theorem State.setLoad_hluLogged (s : State) (n : Nat) (r : Option LoadRun) : (s.setLoad n r).hluLogged = s.hluLogged := rfl
@[simp] theorem State.setLoad_bores (s : State) (n : Nat) (r : Option LoadRun) : (s.setLoad n r).bores = s.bores := rfl
@[simp] theorem State.setLoad_pcie (s : State) (n : Nat) (r : Option LoadRun) : (s.setLoad n r).pcie = s.pcie := rfl
@[simp] theorem State.setLoad_tenancy (s : State) (n : Nat) (r : Option LoadRun) : (s.setLoad n r).tenancy = s.tenancy := rfl
@[simp] theorem State.setLoad_nvs (s : State) (n : Nat) (r : Option LoadRun) : (s.setLoad n r).nvs = s.nvs := rfl
@[simp] theorem State.setLoad_haul (s : State) (n : Nat) (r : Option LoadRun) : (s.setLoad n r).haul = s.haul := rfl
@[simp] theorem State.setLoad_planes (s : State) (n : Nat) (r : Option LoadRun) : (s.setLoad n r).planes = s.planes := rfl
@[simp] theorem State.setLoad_slots (s : State) (n : Nat) (r : Option LoadRun) : (s.setLoad n r).slots = s.slots := rfl
@[simp] theorem State.setLoad_memt (s : State) (n : Nat) (r : Option LoadRun) : (s.setLoad n r).memt = s.memt := rfl
@[simp] theorem State.setLoad_floorReset (s : State) (n : Nat) (r : Option LoadRun) : (s.setLoad n r).floorReset = s.floorReset := rfl
@[simp] theorem State.setLoad_repair (s : State) (n : Nat) (r : Option LoadRun) : (s.setLoad n r).repair = s.repair := rfl
@[simp] theorem State.setLoad_power (s : State) (n : Nat) (r : Option LoadRun) : (s.setLoad n r).power = s.power := rfl
@[simp] theorem State.setLoad_thermal (s : State) (n : Nat) (r : Option LoadRun) : (s.setLoad n r).thermal = s.thermal := rfl
@[simp] theorem State.setLoad_mbx (s : State) (n : Nat) (r : Option LoadRun) : (s.setLoad n r).mbx = s.mbx := rfl
@[simp] theorem State.setLoad_fw (s : State) (n : Nat) (r : Option LoadRun) : (s.setLoad n r).fw = s.fw := rfl
@[simp] theorem State.setLoad_side (s : State) (n : Nat) (r : Option LoadRun) : (s.setLoad n r).side = s.side := rfl
@[simp] theorem State.setLoad_scrub (s : State) (n : Nat) (r : Option LoadRun) : (s.setLoad n r).scrub = s.scrub := rfl
@[simp] theorem State.setLoad_hports (s : State) (n : Nat) (r : Option LoadRun) : (s.setLoad n r).hports = s.hports := rfl
@[simp] theorem State.setLoad_ddr (s : State) (n : Nat) (r : Option LoadRun) : (s.setLoad n r).ddr = s.ddr := rfl
@[simp] theorem State.setLoad_lanes (s : State) (n : Nat) (r : Option LoadRun) : (s.setLoad n r).lanes = s.lanes := rfl
@[simp] theorem State.setLoad_clocks (s : State) (n : Nat) (r : Option LoadRun) : (s.setLoad n r).clocks = s.clocks := rfl
@[simp] theorem State.setLoad_cal (s : State) (n : Nat) (r : Option LoadRun) : (s.setLoad n r).cal = s.cal := rfl
@[simp] theorem State.setLoad_hoppers (s : State) (n : Nat) (r : Option LoadRun) : (s.setLoad n r).hoppers = s.hoppers := rfl
@[simp] theorem State.setLoad_timers (s : State) (n : Nat) (r : Option LoadRun) : (s.setLoad n r).timers = s.timers := rfl
@[simp] theorem State.setLoad_regs (s : State) (n : Nat) (r : Option LoadRun) : (s.setLoad n r).regs = s.regs := rfl
@[simp] theorem State.setLoad_reg (s : State) (n : Nat) (r : Option LoadRun) (r0 : Reg) (i0 : Nat) : (s.setLoad n r).reg r0 i0 = s.reg r0 i0 := rfl
@[simp] theorem State.setLoad_get (s : State) (n : Nat) (r : Option LoadRun) (f0 : Fld) (i0 : Nat) : (s.setLoad n r).get f0 i0 = s.get f0 i0 := rfl
@[simp] theorem State.setLoad_flag (s : State) (n : Nat) (r : Option LoadRun) (f0 : Fld) (i0 : Nat) : (s.setLoad n r).flag f0 i0 = s.flag f0 i0 := rfl

@[simp] theorem State.setFtag_pending (s : State) (x : Nat) (i : Nat) (t : FloorTag) : (s.setFtag x i t).pending = s.pending := rfl
@[simp] theorem State.setFtag_time (s : State) (x : Nat) (i : Nat) (t : FloorTag) : (s.setFtag x i t).time = s.time := rfl
@[simp] theorem State.setFtag_freeCtr (s : State) (x : Nat) (i : Nat) (t : FloorTag) : (s.setFtag x i t).freeCtr = s.freeCtr := rfl
@[simp] theorem State.setFtag_out (s : State) (x : Nat) (i : Nat) (t : FloorTag) : (s.setFtag x i t).out = s.out := rfl
@[simp] theorem State.setFtag_collector (s : State) (x : Nat) (i : Nat) (t : FloorTag) : (s.setFtag x i t).collector = s.collector := rfl
@[simp] theorem State.setFtag_wpl (s : State) (x : Nat) (i : Nat) (t : FloorTag) : (s.setFtag x i t).wpl = s.wpl := rfl
@[simp] theorem State.setFtag_hluLogged (s : State) (x : Nat) (i : Nat) (t : FloorTag) : (s.setFtag x i t).hluLogged = s.hluLogged := rfl
@[simp] theorem State.setFtag_bores (s : State) (x : Nat) (i : Nat) (t : FloorTag) : (s.setFtag x i t).bores = s.bores := rfl
@[simp] theorem State.setFtag_tenancy (s : State) (x : Nat) (i : Nat) (t : FloorTag) : (s.setFtag x i t).tenancy = s.tenancy := rfl
@[simp] theorem State.setFtag_nvs (s : State) (x : Nat) (i : Nat) (t : FloorTag) : (s.setFtag x i t).nvs = s.nvs := rfl
@[simp] theorem State.setFtag_haul (s : State) (x : Nat) (i : Nat) (t : FloorTag) : (s.setFtag x i t).haul = s.haul := rfl
@[simp] theorem State.setFtag_planes (s : State) (x : Nat) (i : Nat) (t : FloorTag) : (s.setFtag x i t).planes = s.planes := rfl
@[simp] theorem State.setFtag_slots (s : State) (x : Nat) (i : Nat) (t : FloorTag) : (s.setFtag x i t).slots = s.slots := rfl
@[simp] theorem State.setFtag_loads (s : State) (x : Nat) (i : Nat) (t : FloorTag) : (s.setFtag x i t).loads = s.loads := rfl
@[simp] theorem State.setFtag_memt (s : State) (x : Nat) (i : Nat) (t : FloorTag) : (s.setFtag x i t).memt = s.memt := rfl
@[simp] theorem State.setFtag_floorReset (s : State) (x : Nat) (i : Nat) (t : FloorTag) : (s.setFtag x i t).floorReset = s.floorReset := rfl
@[simp] theorem State.setFtag_repair (s : State) (x : Nat) (i : Nat) (t : FloorTag) : (s.setFtag x i t).repair = s.repair := rfl
@[simp] theorem State.setFtag_power (s : State) (x : Nat) (i : Nat) (t : FloorTag) : (s.setFtag x i t).power = s.power := rfl
@[simp] theorem State.setFtag_thermal (s : State) (x : Nat) (i : Nat) (t : FloorTag) : (s.setFtag x i t).thermal = s.thermal := rfl
@[simp] theorem State.setFtag_mbx (s : State) (x : Nat) (i : Nat) (t : FloorTag) : (s.setFtag x i t).mbx = s.mbx := rfl
@[simp] theorem State.setFtag_fw (s : State) (x : Nat) (i : Nat) (t : FloorTag) : (s.setFtag x i t).fw = s.fw := rfl
@[simp] theorem State.setFtag_side (s : State) (x : Nat) (i : Nat) (t : FloorTag) : (s.setFtag x i t).side = s.side := rfl
@[simp] theorem State.setFtag_scrub (s : State) (x : Nat) (i : Nat) (t : FloorTag) : (s.setFtag x i t).scrub = s.scrub := rfl
@[simp] theorem State.setFtag_hports (s : State) (x : Nat) (i : Nat) (t : FloorTag) : (s.setFtag x i t).hports = s.hports := rfl
@[simp] theorem State.setFtag_ddr (s : State) (x : Nat) (i : Nat) (t : FloorTag) : (s.setFtag x i t).ddr = s.ddr := rfl
@[simp] theorem State.setFtag_lanes (s : State) (x : Nat) (i : Nat) (t : FloorTag) : (s.setFtag x i t).lanes = s.lanes := rfl
@[simp] theorem State.setFtag_clocks (s : State) (x : Nat) (i : Nat) (t : FloorTag) : (s.setFtag x i t).clocks = s.clocks := rfl
@[simp] theorem State.setFtag_cal (s : State) (x : Nat) (i : Nat) (t : FloorTag) : (s.setFtag x i t).cal = s.cal := rfl
@[simp] theorem State.setFtag_hoppers (s : State) (x : Nat) (i : Nat) (t : FloorTag) : (s.setFtag x i t).hoppers = s.hoppers := rfl
@[simp] theorem State.setFtag_timers (s : State) (x : Nat) (i : Nat) (t : FloorTag) : (s.setFtag x i t).timers = s.timers := rfl
@[simp] theorem State.setFtag_regs (s : State) (x : Nat) (i : Nat) (t : FloorTag) : (s.setFtag x i t).regs = s.regs := rfl
@[simp] theorem State.setFtag_reg (s : State) (x : Nat) (i : Nat) (t : FloorTag) (r0 : Reg) (i0 : Nat) : (s.setFtag x i t).reg r0 i0 = s.reg r0 i0 := rfl
@[simp] theorem State.setFtag_get (s : State) (x : Nat) (i : Nat) (t : FloorTag) (f0 : Fld) (i0 : Nat) : (s.setFtag x i t).get f0 i0 = s.get f0 i0 := rfl
@[simp] theorem State.setFtag_flag (s : State) (x : Nat) (i : Nat) (t : FloorTag) (f0 : Fld) (i0 : Nat) : (s.setFtag x i t).flag f0 i0 = s.flag f0 i0 := rfl

@[simp] theorem State.setLane_pending (s : State) (n : Nat) (x : Lane) : (s.setLane n x).pending = s.pending := rfl
@[simp] theorem State.setLane_time (s : State) (n : Nat) (x : Lane) : (s.setLane n x).time = s.time := rfl
@[simp] theorem State.setLane_freeCtr (s : State) (n : Nat) (x : Lane) : (s.setLane n x).freeCtr = s.freeCtr := rfl
@[simp] theorem State.setLane_out (s : State) (n : Nat) (x : Lane) : (s.setLane n x).out = s.out := rfl
@[simp] theorem State.setLane_collector (s : State) (n : Nat) (x : Lane) : (s.setLane n x).collector = s.collector := rfl
@[simp] theorem State.setLane_wpl (s : State) (n : Nat) (x : Lane) : (s.setLane n x).wpl = s.wpl := rfl
@[simp] theorem State.setLane_hluLogged (s : State) (n : Nat) (x : Lane) : (s.setLane n x).hluLogged = s.hluLogged := rfl
@[simp] theorem State.setLane_bores (s : State) (n : Nat) (x : Lane) : (s.setLane n x).bores = s.bores := rfl
@[simp] theorem State.setLane_pcie (s : State) (n : Nat) (x : Lane) : (s.setLane n x).pcie = s.pcie := rfl
@[simp] theorem State.setLane_tenancy (s : State) (n : Nat) (x : Lane) : (s.setLane n x).tenancy = s.tenancy := rfl
@[simp] theorem State.setLane_nvs (s : State) (n : Nat) (x : Lane) : (s.setLane n x).nvs = s.nvs := rfl
@[simp] theorem State.setLane_haul (s : State) (n : Nat) (x : Lane) : (s.setLane n x).haul = s.haul := rfl
@[simp] theorem State.setLane_planes (s : State) (n : Nat) (x : Lane) : (s.setLane n x).planes = s.planes := rfl
@[simp] theorem State.setLane_slots (s : State) (n : Nat) (x : Lane) : (s.setLane n x).slots = s.slots := rfl
@[simp] theorem State.setLane_loads (s : State) (n : Nat) (x : Lane) : (s.setLane n x).loads = s.loads := rfl
@[simp] theorem State.setLane_memt (s : State) (n : Nat) (x : Lane) : (s.setLane n x).memt = s.memt := rfl
@[simp] theorem State.setLane_floorReset (s : State) (n : Nat) (x : Lane) : (s.setLane n x).floorReset = s.floorReset := rfl
@[simp] theorem State.setLane_repair (s : State) (n : Nat) (x : Lane) : (s.setLane n x).repair = s.repair := rfl
@[simp] theorem State.setLane_power (s : State) (n : Nat) (x : Lane) : (s.setLane n x).power = s.power := rfl
@[simp] theorem State.setLane_thermal (s : State) (n : Nat) (x : Lane) : (s.setLane n x).thermal = s.thermal := rfl
@[simp] theorem State.setLane_mbx (s : State) (n : Nat) (x : Lane) : (s.setLane n x).mbx = s.mbx := rfl
@[simp] theorem State.setLane_fw (s : State) (n : Nat) (x : Lane) : (s.setLane n x).fw = s.fw := rfl
@[simp] theorem State.setLane_side (s : State) (n : Nat) (x : Lane) : (s.setLane n x).side = s.side := rfl
@[simp] theorem State.setLane_scrub (s : State) (n : Nat) (x : Lane) : (s.setLane n x).scrub = s.scrub := rfl
@[simp] theorem State.setLane_hports (s : State) (n : Nat) (x : Lane) : (s.setLane n x).hports = s.hports := rfl
@[simp] theorem State.setLane_ddr (s : State) (n : Nat) (x : Lane) : (s.setLane n x).ddr = s.ddr := rfl
@[simp] theorem State.setLane_clocks (s : State) (n : Nat) (x : Lane) : (s.setLane n x).clocks = s.clocks := rfl
@[simp] theorem State.setLane_cal (s : State) (n : Nat) (x : Lane) : (s.setLane n x).cal = s.cal := rfl
@[simp] theorem State.setLane_hoppers (s : State) (n : Nat) (x : Lane) : (s.setLane n x).hoppers = s.hoppers := rfl
@[simp] theorem State.setLane_timers (s : State) (n : Nat) (x : Lane) : (s.setLane n x).timers = s.timers := rfl
@[simp] theorem State.setLane_regs (s : State) (n : Nat) (x : Lane) : (s.setLane n x).regs = s.regs := rfl
@[simp] theorem State.setLane_reg (s : State) (n : Nat) (x : Lane) (r0 : Reg) (i0 : Nat) : (s.setLane n x).reg r0 i0 = s.reg r0 i0 := rfl
@[simp] theorem State.setLane_get (s : State) (n : Nat) (x : Lane) (f0 : Fld) (i0 : Nat) : (s.setLane n x).get f0 i0 = s.get f0 i0 := rfl
@[simp] theorem State.setLane_flag (s : State) (n : Nat) (x : Lane) (f0 : Fld) (i0 : Nat) : (s.setLane n x).flag f0 i0 = s.flag f0 i0 := rfl

@[simp] theorem State.setDom_pending (s : State) (m : Nat) (x : ClkDom) : (s.setDom m x).pending = s.pending := rfl
@[simp] theorem State.setDom_time (s : State) (m : Nat) (x : ClkDom) : (s.setDom m x).time = s.time := rfl
@[simp] theorem State.setDom_freeCtr (s : State) (m : Nat) (x : ClkDom) : (s.setDom m x).freeCtr = s.freeCtr := rfl
@[simp] theorem State.setDom_out (s : State) (m : Nat) (x : ClkDom) : (s.setDom m x).out = s.out := rfl
@[simp] theorem State.setDom_collector (s : State) (m : Nat) (x : ClkDom) : (s.setDom m x).collector = s.collector := rfl
@[simp] theorem State.setDom_wpl (s : State) (m : Nat) (x : ClkDom) : (s.setDom m x).wpl = s.wpl := rfl
@[simp] theorem State.setDom_hluLogged (s : State) (m : Nat) (x : ClkDom) : (s.setDom m x).hluLogged = s.hluLogged := rfl
@[simp] theorem State.setDom_bores (s : State) (m : Nat) (x : ClkDom) : (s.setDom m x).bores = s.bores := rfl
@[simp] theorem State.setDom_pcie (s : State) (m : Nat) (x : ClkDom) : (s.setDom m x).pcie = s.pcie := rfl
@[simp] theorem State.setDom_tenancy (s : State) (m : Nat) (x : ClkDom) : (s.setDom m x).tenancy = s.tenancy := rfl
@[simp] theorem State.setDom_nvs (s : State) (m : Nat) (x : ClkDom) : (s.setDom m x).nvs = s.nvs := rfl
@[simp] theorem State.setDom_haul (s : State) (m : Nat) (x : ClkDom) : (s.setDom m x).haul = s.haul := rfl
@[simp] theorem State.setDom_planes (s : State) (m : Nat) (x : ClkDom) : (s.setDom m x).planes = s.planes := rfl
@[simp] theorem State.setDom_slots (s : State) (m : Nat) (x : ClkDom) : (s.setDom m x).slots = s.slots := rfl
@[simp] theorem State.setDom_loads (s : State) (m : Nat) (x : ClkDom) : (s.setDom m x).loads = s.loads := rfl
@[simp] theorem State.setDom_memt (s : State) (m : Nat) (x : ClkDom) : (s.setDom m x).memt = s.memt := rfl
@[simp] theorem State.setDom_floorReset (s : State) (m : Nat) (x : ClkDom) : (s.setDom m x).floorReset = s.floorReset := rfl
@[simp] theorem State.setDom_repair (s : State) (m : Nat) (x : ClkDom) : (s.setDom m x).repair = s.repair := rfl
@[simp] theorem State.setDom_power (s : State) (m : Nat) (x : ClkDom) : (s.setDom m x).power = s.power := rfl
@[simp] theorem State.setDom_thermal (s : State) (m : Nat) (x : ClkDom) : (s.setDom m x).thermal = s.thermal := rfl
@[simp] theorem State.setDom_mbx (s : State) (m : Nat) (x : ClkDom) : (s.setDom m x).mbx = s.mbx := rfl
@[simp] theorem State.setDom_fw (s : State) (m : Nat) (x : ClkDom) : (s.setDom m x).fw = s.fw := rfl
@[simp] theorem State.setDom_side (s : State) (m : Nat) (x : ClkDom) : (s.setDom m x).side = s.side := rfl
@[simp] theorem State.setDom_scrub (s : State) (m : Nat) (x : ClkDom) : (s.setDom m x).scrub = s.scrub := rfl
@[simp] theorem State.setDom_hports (s : State) (m : Nat) (x : ClkDom) : (s.setDom m x).hports = s.hports := rfl
@[simp] theorem State.setDom_ddr (s : State) (m : Nat) (x : ClkDom) : (s.setDom m x).ddr = s.ddr := rfl
@[simp] theorem State.setDom_lanes (s : State) (m : Nat) (x : ClkDom) : (s.setDom m x).lanes = s.lanes := rfl
@[simp] theorem State.setDom_cal (s : State) (m : Nat) (x : ClkDom) : (s.setDom m x).cal = s.cal := rfl
@[simp] theorem State.setDom_hoppers (s : State) (m : Nat) (x : ClkDom) : (s.setDom m x).hoppers = s.hoppers := rfl
@[simp] theorem State.setDom_timers (s : State) (m : Nat) (x : ClkDom) : (s.setDom m x).timers = s.timers := rfl
@[simp] theorem State.setDom_regs (s : State) (m : Nat) (x : ClkDom) : (s.setDom m x).regs = s.regs := rfl
@[simp] theorem State.setDom_reg (s : State) (m : Nat) (x : ClkDom) (r0 : Reg) (i0 : Nat) : (s.setDom m x).reg r0 i0 = s.reg r0 i0 := rfl
@[simp] theorem State.setDom_get (s : State) (m : Nat) (x : ClkDom) (f0 : Fld) (i0 : Nat) : (s.setDom m x).get f0 i0 = s.get f0 i0 := rfl
@[simp] theorem State.setDom_flag (s : State) (m : Nat) (x : ClkDom) (f0 : Fld) (i0 : Nat) : (s.setDom m x).flag f0 i0 = s.flag f0 i0 := rfl

@[simp] theorem State.setMonitor_pending (s : State) (b : Nat) (sx : Nat) (x : Monitor) : (s.setMonitor b sx x).pending = s.pending := rfl
@[simp] theorem State.setMonitor_time (s : State) (b : Nat) (sx : Nat) (x : Monitor) : (s.setMonitor b sx x).time = s.time := rfl
@[simp] theorem State.setMonitor_freeCtr (s : State) (b : Nat) (sx : Nat) (x : Monitor) : (s.setMonitor b sx x).freeCtr = s.freeCtr := rfl
@[simp] theorem State.setMonitor_out (s : State) (b : Nat) (sx : Nat) (x : Monitor) : (s.setMonitor b sx x).out = s.out := rfl
@[simp] theorem State.setMonitor_collector (s : State) (b : Nat) (sx : Nat) (x : Monitor) : (s.setMonitor b sx x).collector = s.collector := rfl
@[simp] theorem State.setMonitor_wpl (s : State) (b : Nat) (sx : Nat) (x : Monitor) : (s.setMonitor b sx x).wpl = s.wpl := rfl
@[simp] theorem State.setMonitor_hluLogged (s : State) (b : Nat) (sx : Nat) (x : Monitor) : (s.setMonitor b sx x).hluLogged = s.hluLogged := rfl
@[simp] theorem State.setMonitor_bores (s : State) (b : Nat) (sx : Nat) (x : Monitor) : (s.setMonitor b sx x).bores = s.bores := rfl
@[simp] theorem State.setMonitor_pcie (s : State) (b : Nat) (sx : Nat) (x : Monitor) : (s.setMonitor b sx x).pcie = s.pcie := rfl
@[simp] theorem State.setMonitor_tenancy (s : State) (b : Nat) (sx : Nat) (x : Monitor) : (s.setMonitor b sx x).tenancy = s.tenancy := rfl
@[simp] theorem State.setMonitor_nvs (s : State) (b : Nat) (sx : Nat) (x : Monitor) : (s.setMonitor b sx x).nvs = s.nvs := rfl
@[simp] theorem State.setMonitor_haul (s : State) (b : Nat) (sx : Nat) (x : Monitor) : (s.setMonitor b sx x).haul = s.haul := rfl
@[simp] theorem State.setMonitor_planes (s : State) (b : Nat) (sx : Nat) (x : Monitor) : (s.setMonitor b sx x).planes = s.planes := rfl
@[simp] theorem State.setMonitor_slots (s : State) (b : Nat) (sx : Nat) (x : Monitor) : (s.setMonitor b sx x).slots = s.slots := rfl
@[simp] theorem State.setMonitor_loads (s : State) (b : Nat) (sx : Nat) (x : Monitor) : (s.setMonitor b sx x).loads = s.loads := rfl
@[simp] theorem State.setMonitor_memt (s : State) (b : Nat) (sx : Nat) (x : Monitor) : (s.setMonitor b sx x).memt = s.memt := rfl
@[simp] theorem State.setMonitor_floorReset (s : State) (b : Nat) (sx : Nat) (x : Monitor) : (s.setMonitor b sx x).floorReset = s.floorReset := rfl
@[simp] theorem State.setMonitor_power (s : State) (b : Nat) (sx : Nat) (x : Monitor) : (s.setMonitor b sx x).power = s.power := rfl
@[simp] theorem State.setMonitor_thermal (s : State) (b : Nat) (sx : Nat) (x : Monitor) : (s.setMonitor b sx x).thermal = s.thermal := rfl
@[simp] theorem State.setMonitor_mbx (s : State) (b : Nat) (sx : Nat) (x : Monitor) : (s.setMonitor b sx x).mbx = s.mbx := rfl
@[simp] theorem State.setMonitor_fw (s : State) (b : Nat) (sx : Nat) (x : Monitor) : (s.setMonitor b sx x).fw = s.fw := rfl
@[simp] theorem State.setMonitor_side (s : State) (b : Nat) (sx : Nat) (x : Monitor) : (s.setMonitor b sx x).side = s.side := rfl
@[simp] theorem State.setMonitor_scrub (s : State) (b : Nat) (sx : Nat) (x : Monitor) : (s.setMonitor b sx x).scrub = s.scrub := rfl
@[simp] theorem State.setMonitor_hports (s : State) (b : Nat) (sx : Nat) (x : Monitor) : (s.setMonitor b sx x).hports = s.hports := rfl
@[simp] theorem State.setMonitor_ddr (s : State) (b : Nat) (sx : Nat) (x : Monitor) : (s.setMonitor b sx x).ddr = s.ddr := rfl
@[simp] theorem State.setMonitor_lanes (s : State) (b : Nat) (sx : Nat) (x : Monitor) : (s.setMonitor b sx x).lanes = s.lanes := rfl
@[simp] theorem State.setMonitor_clocks (s : State) (b : Nat) (sx : Nat) (x : Monitor) : (s.setMonitor b sx x).clocks = s.clocks := rfl
@[simp] theorem State.setMonitor_cal (s : State) (b : Nat) (sx : Nat) (x : Monitor) : (s.setMonitor b sx x).cal = s.cal := rfl
@[simp] theorem State.setMonitor_hoppers (s : State) (b : Nat) (sx : Nat) (x : Monitor) : (s.setMonitor b sx x).hoppers = s.hoppers := rfl
@[simp] theorem State.setMonitor_timers (s : State) (b : Nat) (sx : Nat) (x : Monitor) : (s.setMonitor b sx x).timers = s.timers := rfl
@[simp] theorem State.setMonitor_regs (s : State) (b : Nat) (sx : Nat) (x : Monitor) : (s.setMonitor b sx x).regs = s.regs := rfl
@[simp] theorem State.setMonitor_reg (s : State) (b : Nat) (sx : Nat) (x : Monitor) (r0 : Reg) (i0 : Nat) : (s.setMonitor b sx x).reg r0 i0 = s.reg r0 i0 := rfl
@[simp] theorem State.setMonitor_get (s : State) (b : Nat) (sx : Nat) (x : Monitor) (f0 : Fld) (i0 : Nat) : (s.setMonitor b sx x).get f0 i0 = s.get f0 i0 := rfl
@[simp] theorem State.setMonitor_flag (s : State) (b : Nat) (sx : Nat) (x : Monitor) (f0 : Fld) (i0 : Nat) : (s.setMonitor b sx x).flag f0 i0 = s.flag f0 i0 := rfl

@[simp] theorem State.setScrubber_pending (s : State) (c : Nat) (i : Nat) (x : Scrubber) : (s.setScrubber c i x).pending = s.pending := rfl
@[simp] theorem State.setScrubber_time (s : State) (c : Nat) (i : Nat) (x : Scrubber) : (s.setScrubber c i x).time = s.time := rfl
@[simp] theorem State.setScrubber_freeCtr (s : State) (c : Nat) (i : Nat) (x : Scrubber) : (s.setScrubber c i x).freeCtr = s.freeCtr := rfl
@[simp] theorem State.setScrubber_out (s : State) (c : Nat) (i : Nat) (x : Scrubber) : (s.setScrubber c i x).out = s.out := rfl
@[simp] theorem State.setScrubber_collector (s : State) (c : Nat) (i : Nat) (x : Scrubber) : (s.setScrubber c i x).collector = s.collector := rfl
@[simp] theorem State.setScrubber_wpl (s : State) (c : Nat) (i : Nat) (x : Scrubber) : (s.setScrubber c i x).wpl = s.wpl := rfl
@[simp] theorem State.setScrubber_hluLogged (s : State) (c : Nat) (i : Nat) (x : Scrubber) : (s.setScrubber c i x).hluLogged = s.hluLogged := rfl
@[simp] theorem State.setScrubber_bores (s : State) (c : Nat) (i : Nat) (x : Scrubber) : (s.setScrubber c i x).bores = s.bores := rfl
@[simp] theorem State.setScrubber_pcie (s : State) (c : Nat) (i : Nat) (x : Scrubber) : (s.setScrubber c i x).pcie = s.pcie := rfl
@[simp] theorem State.setScrubber_tenancy (s : State) (c : Nat) (i : Nat) (x : Scrubber) : (s.setScrubber c i x).tenancy = s.tenancy := rfl
@[simp] theorem State.setScrubber_nvs (s : State) (c : Nat) (i : Nat) (x : Scrubber) : (s.setScrubber c i x).nvs = s.nvs := rfl
@[simp] theorem State.setScrubber_haul (s : State) (c : Nat) (i : Nat) (x : Scrubber) : (s.setScrubber c i x).haul = s.haul := rfl
@[simp] theorem State.setScrubber_planes (s : State) (c : Nat) (i : Nat) (x : Scrubber) : (s.setScrubber c i x).planes = s.planes := rfl
@[simp] theorem State.setScrubber_slots (s : State) (c : Nat) (i : Nat) (x : Scrubber) : (s.setScrubber c i x).slots = s.slots := rfl
@[simp] theorem State.setScrubber_loads (s : State) (c : Nat) (i : Nat) (x : Scrubber) : (s.setScrubber c i x).loads = s.loads := rfl
@[simp] theorem State.setScrubber_memt (s : State) (c : Nat) (i : Nat) (x : Scrubber) : (s.setScrubber c i x).memt = s.memt := rfl
@[simp] theorem State.setScrubber_floorReset (s : State) (c : Nat) (i : Nat) (x : Scrubber) : (s.setScrubber c i x).floorReset = s.floorReset := rfl
@[simp] theorem State.setScrubber_repair (s : State) (c : Nat) (i : Nat) (x : Scrubber) : (s.setScrubber c i x).repair = s.repair := rfl
@[simp] theorem State.setScrubber_power (s : State) (c : Nat) (i : Nat) (x : Scrubber) : (s.setScrubber c i x).power = s.power := rfl
@[simp] theorem State.setScrubber_thermal (s : State) (c : Nat) (i : Nat) (x : Scrubber) : (s.setScrubber c i x).thermal = s.thermal := rfl
@[simp] theorem State.setScrubber_mbx (s : State) (c : Nat) (i : Nat) (x : Scrubber) : (s.setScrubber c i x).mbx = s.mbx := rfl
@[simp] theorem State.setScrubber_fw (s : State) (c : Nat) (i : Nat) (x : Scrubber) : (s.setScrubber c i x).fw = s.fw := rfl
@[simp] theorem State.setScrubber_side (s : State) (c : Nat) (i : Nat) (x : Scrubber) : (s.setScrubber c i x).side = s.side := rfl
@[simp] theorem State.setScrubber_hports (s : State) (c : Nat) (i : Nat) (x : Scrubber) : (s.setScrubber c i x).hports = s.hports := rfl
@[simp] theorem State.setScrubber_ddr (s : State) (c : Nat) (i : Nat) (x : Scrubber) : (s.setScrubber c i x).ddr = s.ddr := rfl
@[simp] theorem State.setScrubber_lanes (s : State) (c : Nat) (i : Nat) (x : Scrubber) : (s.setScrubber c i x).lanes = s.lanes := rfl
@[simp] theorem State.setScrubber_clocks (s : State) (c : Nat) (i : Nat) (x : Scrubber) : (s.setScrubber c i x).clocks = s.clocks := rfl
@[simp] theorem State.setScrubber_cal (s : State) (c : Nat) (i : Nat) (x : Scrubber) : (s.setScrubber c i x).cal = s.cal := rfl
@[simp] theorem State.setScrubber_hoppers (s : State) (c : Nat) (i : Nat) (x : Scrubber) : (s.setScrubber c i x).hoppers = s.hoppers := rfl
@[simp] theorem State.setScrubber_timers (s : State) (c : Nat) (i : Nat) (x : Scrubber) : (s.setScrubber c i x).timers = s.timers := rfl
@[simp] theorem State.setScrubber_regs (s : State) (c : Nat) (i : Nat) (x : Scrubber) : (s.setScrubber c i x).regs = s.regs := rfl
@[simp] theorem State.setScrubber_reg (s : State) (c : Nat) (i : Nat) (x : Scrubber) (r0 : Reg) (i0 : Nat) : (s.setScrubber c i x).reg r0 i0 = s.reg r0 i0 := rfl
@[simp] theorem State.setScrubber_get (s : State) (c : Nat) (i : Nat) (x : Scrubber) (f0 : Fld) (i0 : Nat) : (s.setScrubber c i x).get f0 i0 = s.get f0 i0 := rfl
@[simp] theorem State.setScrubber_flag (s : State) (c : Nat) (i : Nat) (x : Scrubber) (f0 : Fld) (i0 : Nat) : (s.setScrubber c i x).flag f0 i0 = s.flag f0 i0 := rfl

end Sys2Proof.Machine
end

