-- ==== Sys2Proof/Tests/Slice0.lean ====
section
/-!
SUPPORT. Tests: what WellFormed refuses, and for every statement states and operands that meet its hypotheses, one
witness for each clause.
-/

open Sys2Proof Sys2Proof.Machine

namespace Sys2Proof.Tests

set_option Elab.async false

/-- The entry of PWR_DOM_d with STATE ON, which after reset PD_AON and PD_NVS read anyway; a fixed domain's ON reads 1. -/
def onEntry (d : Nat) : Nat × Word := (512 * d + 195, if d < 6 then 0x83000000#32 else 0x03000000#32)

/-- The state after reset with these domains powered and released. -/
def up (ds : List Nat) : State :=
  { State.reset with regs := (ds.filter fun d => d != 0 && d != 2).map onEntry }

/-- Every domain on, the boot complete, the controller serving, both links up, the PLLs locked: PCIE_LINK_STAT_0,
PWR_BOOT_STAT, MBX_FW_STAT, PCIE_LINK_STAT_1, the monitors' LOCKED, and the domains. -/
def host : State :=
  { State.reset with
    regs := [(153, 0x80000000#32), (198, 0x80000000#32), (218, 0x80000000#32), (665, 0x80000000#32), onEntry 1]
      ++ ((upTo 51).flatMap fun d => [(512 * d + 1727, 0x06800000#32), onEntry (d + 3)])
      ++ (upTo 43).map fun d => onEntry (d + 54) }

/-- It is the state in which the named fields are set one by one. -/
theorem test_host : (host.flag F.PWR_BOOT_STAT_DONE 0 && host.flag F.MBX_FW_STAT_FW_UP 0 && host.flag F.PCIE_LINK_STAT_UP 1
    && !host.flag F.PCIE_LINK_STAT_PERST 0 && (upTo 97).all host.powered && (upTo 32).all host.nodeRuns) = true := by decide +kernel

/-- The boot at phase k. -/
def bootState (ds : List Nat) (k : Nat) : State := { up ds with power := { railsUp := 0x1FF, good := true, boot := k } }

/-- A group of the fabric-to-latch interface of bench 0 that has acquired its trim, with changes. -/
def grp (f : Group → Group) : State := host.setGroup 0 (f { acqDone := true, acqStep := 8 })


/-- Bench b online with plane p active. -/
def onl (b p : Nat) (s : State) : State := (s.set F.BENCH_PLANE_STAT_ONLINE b 1).set F.BENCH_PLANE_STAT_ACTIVE b p

/-- Bench 0 online on plane 0, whose port A of block 5 is 64 bits wide and bound at row 0, inside an open memory fence. -/
def ported : State :=
  ((((onl 0 0 host).setRunBits 0 0 31789 100 10 0x300).set F.BENCH_MFENCE_EN 0 1).set F.BENCH_MFENCE_FIRST 0 0).set
    F.BENCH_MFENCE_COUNT_M1 0 1023

/-- Bench 63 online on plane 0, which owns its hopper 30, with this hopper. -/
def hopped (x : Hopper) : State :=
  ((onl 63 0 host).set F.HOP_OWNER_OWN_VALID 2046 1).setHop 2046 x

/-- Bench 5 online on plane 1 with plane 6 ready, and a host request for it where asked. -/
def swit (r : Option PlaneReq) : State :=
  let s := ((onl 5 1 host).setPlaneSt 5 1 psActive).setPlaneSt 5 6 psReady
  { s with planes := { s.planes with hostReq := mapSet (fun _ => none) s.planes.hostReq 5 r } }

/-- These benches' bore groups have all acquired their trims. -/
def acq (bs : List Nat) (s : State) : State :=
  let x : Group := { acqDone := true, acqStep := 8 }
  let l := bs.flatMap (fun b => [(benchClass b 0, x), (benchClass b 1, x), (benchClass b 2, x)])
  { s with bores := { s.bores with classes := l } }

/-- A command that mailbox m has rung, of this opcode and payload. -/
def cmd (m op : Nat) (p : List Byte) : MbCmd := ⟨m, op, 0x1234, p, false, false, 0, false, 0⟩

/-- The controller serves this command. -/
def serve (c : MbCmd) (s : State) : State := { s with mbx := { cmds := [c] } }

/-- A requester of a port has room for a response whatever else its reserve is. -/
theorem floorRoom_of_le {s : State} {q : Nat} {w : Bool} {a n : Nat} (h : s.floorUsed q + rspRoom w a (n - 1) ≤ 65) :
    s.floorRoom q w a n = true := by
  unfold State.floorRoom
  exact decide_eq_true (by omega)

/-! ### WellFormed: for each check a term that only it refuses -/

theorem test_ill_formed_1 :
  ([(.registerWrite (.pf 2) .LANE_USER 0 0#32 : Instr), .railUp 9, .pwrgoodRise false 4 false, .perstAssert 2,
    .perstDeassert 2, .pcieLinkUp 2 0 0 false, .pcieLinkUp 0 8 0 false, .pcieLinkUp 0 0 32 false, .pcieLinkDown 2,
    .pcieConfigRequest 2 0 0 .readId, .pcieConfigRequest 0 65 0 .readId, .pcieBarRead 2 0 0 0 1 0,
    .pcieBarRead 0 65 0 0 1 0, .pcieBarRead 0 0 0 0 0 0, .pcieBarRead 0 0 0 0 1 512, .pcieBarWrite 2 0 0 [0#8] 0,
    .pcieBarWrite 0 65 0 [0#8] 0, .pcieBarWrite 0 0 0 [] 0, .pcieBarWrite 0 0 0 [0#8] 512,
    .barHaulResponse 2 0 [], .barHaulResponse 0 (2 ^ 192) [], .vfFlr 2 0, .vfFlr 0 64, .pfFlr 2].all fun c => !c.wf) = true := by decide +kernel
theorem test_ill_formed_2 :
  ([(.vfMapWrite .fw 2 0#32 : Instr), .vfMapWrite (.pf 2) 0 0#32, .msixUnmask 2 0 0, .msixUnmask 0 65 0,
    .msixUnmask 0 0 8, .dmaRingEnable .fw 2 0#32, .dmaRingEnable (.pf 2) 0 0#32, .dmaRingDisable .fw 2 0#32,
    .dmaRingDisable (.pf 2) 0 0#32, .dmaProdWrite .fw 2 0#32, .dmaProdWrite (.pf 2) 0 0#32,
    .dmaPieceComplete 2 (.answer 0 []), .dmaWriteback 2, .asyncResetAssert 64 0 0 0, .asyncResetAssert 0 33 0 0,
    .asyncResetAssert 0 0 32 0, .asyncResetAssert 0 0 0 8, .dlymonMeasure 64 (List.replicate 33 0),
    .dlymonMeasure 0 [], .dlymonConverterRotate 64 0, .dlymonConverterRotate 0 33, .idleSpareMismatch 0 4,
    .idleSpareMismatch 0xFFFFFF 0, .calEvaluationEnd 0 []].all fun c => !c.wf) = true := by decide +kernel
theorem test_ill_formed_3 :
  ([(.calEvaluationEnd 0xFFFFFF (List.replicate 16 0) : Instr), .trimChangeover 0xFFFFFF, .trimAcqStep 0 2,
    .trimAcqStep 0xFFFFFF 0, .evalRestartAfterPause 0xFFFFFF, .calBoreTrimWrite (.pf 2) 0#32,
    .portAccess 64 0 .noEdge .noEdge [], .portAccess 0 1024 .noEdge .noEdge [], .blockRetireDone 64 0,
    .blockRetireDone 0 1024, .correctionWriteBack 64 0 0, .correctionWriteBack 0 1024 0,
    .correctionWriteBack 0 0 2, .haulMemoryAccess 64 0 false 0 0 0 [] false [],
    .haulMemoryAccess 0 1024 false 0 0 0 [] false [], .haulMemoryAccess 0 0 true (2 ^ 64) 0 0 [] false [],
    .haulMemoryAccess 0 0 true 0 (2 ^ 64) 0 [] false [], .haulMemoryAccess 0 0 true 0 0 (2 ^ 64) [] false [], .patrolStep 64 [], .patrolForcedCycle 64 [],
    .memtInvStart (.pf 2) 0#32, .bulkInvalidateDone 64, .memtFlipArm (.pf 2) 0#32,
    .hopperWrite 64 0 0 false false].all fun c => !c.wf) = true := by decide +kernel
theorem test_ill_formed_4 :
  ([(.hopperWrite 0 32 0 false false : Instr), .hopperWrite 0 0 (2 ^ 144) false false, .hopperRead 64 0,
    .hopperRead 0 32, .hopperPointerSync 64 0 false, .hopperPointerSync 0 32 false, .hopCfgWrite .fw 64 0 0#32,
    .hopCfgWrite .fw 0 32 0#32, .hopCfgWrite (.pf 2) 0 0 0#32, .hopperFlush .fw 64 0 0#32,
    .hopperFlush .fw 0 32 0#32, .hopperFlush (.pf 2) 0 0 0#32, .hopperFlushApply 64 0 false,
    .hopperFlushApply 0 32 false, .hopperTailTimeout 64 0, .hopperTailTimeout 0 32, .hopOwnerWrite .fw 64 0 0#32,
    .hopOwnerWrite .fw 0 32 0#32, .hopOwnerWrite (.pf 2) 0 0 0#32, .switchCellRequest 64 false,
    .planeSelSwitch .fw 64 0#32, .planeSelSwitch (.pf 2) 0 0#32, .planeSelOnline .fw 64 0#32,
    .planeSelOnline (.pf 2) 0 0#32].all fun c => !c.wf) = true := by decide +kernel
theorem test_ill_formed_5 :
  ([(.planeSelOffline .fw 64 0#32 : Instr), .planeSelOffline (.pf 2) 0 0#32, .hostRequestPresented 64 false false,
    .deferredCandidateRetry 64 false, .scheduleEnable .fw 64 0#32, .scheduleEnable (.pf 2) 0 0#32,
    .schedQuantWrite .fw 64 0#32, .schedQuantWrite (.pf 2) 0 0#32, .scheduleExpiry 64,
    .scheduleRequestPresented 64 false false false, .benchClksrcWrite .fw 64 0 0#32,
    .benchClksrcWrite .fw 0 8 0#32, .benchClksrcWrite (.pf 2) 0 0 0#32, .surgeCtlWrite .fw 4 0#32,
    .surgeCtlWrite (.pf 2) 0 0#32, .imageEvent 64, .stateInitDone 64, .ctxStage .fw 64 0#32,
    .ctxStage (.pf 2) 0 0#32, .ctxPage .fw 64 0#32, .ctxPage (.pf 2) 0 0#32, .ctxPageFree .fw 64 0#32,
    .ctxPageFree (.pf 2) 0 0#32, .ctxAbort .fw 64 0#32].all fun c => !c.wf) = true := by decide +kernel
theorem test_ill_formed_6 :
  ([(.ctxAbort (.pf 2) 0 0#32 : Instr), .ctxCopyFrame 64 [], .ctxStageCommit 64, .ctxPageCommit 64,
    .ctxSlotRelease .fw 4 0#32, .ctxSlotRelease (.pf 2) 0 0#32, .ctxSlotOwnerWrite .fw 4 0#32,
    .ctxSlotOwnerWrite (.pf 2) 0 0#32, .bulkStoreRefresh 4, .slotPatrolStep 4 [], .slotCopyDone 4096 0 [],
    .slotCopyDone 0 4096 [], .loadGo .fw 4 0#32, .loadGo (.pf 2) 0 0#32, .loadAbort .fw 4 0#32,
    .loadAbort (.pf 2) 0 0#32, .loadDataArrival 4 [], .loadHoldDone 4, .loadCommit 4, .loadSourceTimeout 4,
    .loadSourceError 4, .benchAssignWrite .fw 64 0#32, .benchAssignWrite (.pf 2) 0 0#32, .fnChangeEffect 64].all fun c => !c.wf) = true := by decide +kernel
theorem test_ill_formed_7 :
  ([(.gangForm .fw 4 0#32 : Instr), .gangForm (.pf 2) 0 0#32, .gangFormDone 64, .gangDissolve .fw 4 0#32,
    .gangDissolve (.pf 2) 0 0#32, .mfenceWrite .fw 64 0 0 0#32, .mfenceWrite .fw 0 8 0 0#32,
    .mfenceWrite .fw 0 0 4 0#32, .mfenceWrite (.pf 2) 0 0 0 0#32, .hwinWrite .fw 64 0 0#32,
    .hwinWrite .fw 0 16 0#32, .hwinWrite (.pf 2) 0 0 0#32, .laneFenceWrite .fw 64 false false 0#32,
    .laneFenceWrite (.pf 2) 0 false false 0#32, .wbCtlWrite .fw 64 0 0 0#32, .wbCtlWrite .fw 0 2 0 0#32,
    .wbCtlWrite .fw 0 0 3 0#32, .wbCtlWrite (.pf 2) 0 0 0 0#32, .weighbridgeRefill 64 0, .weighbridgeRefill 0 2,
    .weighbridgeAdmit 64 0 0, .weighbridgeAdmit 0 2 0, .weighbridgeAdmit 0 0 3, .tallySample 64 0].all fun c => !c.wf) = true := by decide +kernel
theorem test_ill_formed_8 :
  ([(.pcapUpdate 64 : Instr), .collectorEvent 96, .msixModerationExpiry 65 0, .msixModerationExpiry 0 8,
    .ringEnable .fw 65 0#32, .ringEnable (.pf 2) 0 0#32, .benchPortRequest 64 0 0 0, .benchPortRequest 0 2 0 0,
    .benchPortRequest 0 0 32 0, .benchPortRequest 0 0 0 512, .flitArrival 80 0 0, .flitArrival 0 7 0,
    .flitArrival 0 0 (2 ^ 580), .flitFallbackDepart 80 0, .flitFallbackDepart 0 7,
    .haulCalibratorTest 80 false false, .benchPortResponse 64 0 0 [], .benchPortResponse 0 2 0 [],
    .benchPortResponse 0 0 (2 ^ 192) [], .benchPortIncomingRequest 64 0 0 [], .benchPortIncomingRequest 0 2 0 [],
    .benchPortIncomingRequest 0 0 (2 ^ 192) [], .benchPortImageResponse 64 0 0, .benchPortImageResponse 0 2 0].all fun c => !c.wf) = true := by decide +kernel
theorem test_ill_formed_9 :
  ([(.benchPortImageResponse 0 0 32 : Instr), .pendingEntryExpiry 64 0, .pendingEntryExpiry 0 2,
    .hportCfgWrite .fw 64 0 0#32, .hportCfgWrite .fw 0 2 0#32, .hportCfgWrite (.pf 2) 0 0 0#32,
    .hportCfgApply 64 0, .hportCfgApply 0 2, .ddrRequest 8 0 [] [], .ddrRequest 0 (2 ^ 192) [] [], .ddrRefresh 8,
    .rtEntWrite .fw 80 0#32, .rtEntWrite (.pf 2) 0 0#32, .epochFlip (.pf 2) 0#32, .fenceClosingDone 80 0,
    .fenceClosingDone 0 3, .fenceClosingTimeout 80 0, .fenceClosingTimeout 0 3, .traceClear .fw 4 0#32,
    .traceClear (.pf 2) 0 0#32, .boreTestRound 0xFFFFFF, .boreTestEnd 0xFFFFFF false, .groupResume 0xFFFFFF,
    .shiftStop 64 false false false false].all fun c => !c.wf) = true := by decide +kernel
theorem test_ill_formed_10 :
  ([(.shiftMovePlane 64 [] : Instr), .shiftResume 64 false false false false, .linkRetrainDone 80 0,
    .linkRetrainDone 0 7, .scrubPassStart 4 0 false [], .scrubPassStart 0 2 false [],
    .scrubFrameCompare 4 0 [] [] [], .scrubFrameCompare 0 2 [] [] [], .scrubRestore 4 0, .scrubRestore 0 2,
    .scrubStateParityCheck 64 0 [], .scrubStateParityCheck 0 8 [], .octCfgWrite .fw 8 0#32,
    .octCfgWrite (.pf 2) 0 0#32, .ethRxFrame 64 [] false 0 0 false 0 0,
    .ethRxFrame 0 [] false 40 0 false 0 0, .ethRxFrame 0 [] false 0 (2 ^ 8) false 0 0, .ethTxFrame 64 0 0,
    .ethTxFrame 0 40 0, .ethTxFrame 0 0 (2 ^ 8), .txtsRead 64, .rawRxItem 64 0 false,
    .rawRxItem 0 (2 ^ 66) false, .rawTxItem 64].all fun c => !c.wf) = true := by decide +kernel
theorem test_ill_formed_11 :
  ([(.laneRestart .fw 64 0#32 : Instr), .laneRestart (.pf 2) 0 0#32, .detectStep 64 false,
    .trainingFrame 64 0 0 0 false, .trainingFrame 0 (2 ^ 16) 0 0 false, .trainingFrame 0 0 (2 ^ 16) 0 false,
    .trainingFrame 0 0 0 (2 ^ 8) false, .lockFrame 64 false false, .laneTimerExpiry 64, .losAssert 64,
    .lolAssert 64, .faultRestartTimer 64, .prbsInject .fw 64 0#32, .prbsInject (.pf 2) 0 0#32,
    .lanePrbsWrite .fw 64 0#32, .lanePrbsWrite (.pf 2) 0 0#32, .elementRecalStart 64 0, .elementRecalStart 0 72,
    .elementRecalDone 64 false 0 0 0, .elementRecalDone 0 false 256 0 0, .oscStable 13, .pllLock 2 0,
    .pllLock 54 0, .pllLock 3 2].all fun c => !c.wf) = true := by decide +kernel
theorem test_ill_formed_12 :
  ([(.pllLockDrop 2 0 : Instr), .pllLockDrop 54 0, .pllLockDrop 3 2, .clkFabWrite .fw 32 0#32,
    .clkFabWrite (.pf 2) 0 0#32, .monitorWindowEnd 54 0, .rampDwellEnd 2, .rampDwellEnd 54, .dividerStep 64 0,
    .dividerStep 0 4, .clkoutWrite .fw 2 0#32, .clkoutWrite (.pf 2) 0 0#32, .domainPowerDown .fw 97 0#32,
    .domainPowerDown (.pf 2) 0 0#32, .domainPowerUp .fw 97 0#32, .domainPowerUp (.pf 2) 0 0#32,
    .quiesceDone 97 false false false false, .isolateDone 97, .gateDone 97, .rampDone 97, .initDone 97,
    .measurementInterval 4 (List.replicate 24 (none, none)), .measurementInterval 0 [], .throttleRiseTimer 4].all fun c => !c.wf) = true := by decide +kernel
theorem test_ill_formed_13 :
  ([(.throttleRecoveryTimer 4 : Instr), .thermalLevelUpdate 64, .graceEnd 64, .exemptCheck 64, .hardwareTrip 96,
    .converterRotate 5 0 [], .railMeasure [] (List.replicate 8 0), .railMeasure (List.replicate 9 (0, 0)) [],
    .thmLimitsWrite (.pf 2) 0#32, .hluBoardWrite .fw 20 0#32, .hluBoardWrite (.pf 2) 0 0#32,
    .hluLock (.pf 2) 0#32, .fwRestart (.pf 2) 0#32, .mbxRing .fw 65 0#32 [], .mbxRing (.pf 2) 0 0#32 [],
    .mbxAck .fw 65 0#32, .mbxAck (.pf 2) 0 0#32, .mbxAbort .fw 65 0#32, .mbxAbort (.pf 2) 0 0#32,
    .pageTimerExpiry 66, .setEndpointId 256, .devInfo 66, .devTime 66, .otpStep 66 false].all fun c => !c.wf) = true := by decide +kernel
theorem test_ill_formed_14 :
  ([(.otpBoard 66 false : Instr), .benchAssign 66, .gangFormCmd 66, .gangDissolveCmd 66, .mfenceSet 66,
    .hwinSet 66, .laneFence 66, .wbSet 66, .pcapSet 66, .hopperSet 66, .declApply 66, .benchStatus 66,
    .slotCopy 66, .slotOwner 66, .slotRelease 66, .slotList 66, .scrubSet 66 false, .octetCfg 66, .laneStatus 66,
    .laneRestartCmd 66, .domainSet 66, .domainList 66, .thmSet 66, .telemetry 66].all fun c => !c.wf) = true := by decide +kernel
theorem test_ill_formed_15 :
  ([(.hluFwSet 66 : Instr), .calRead 66, .calWrite 66, .spoilRead 66, .spoilClear 66 false, .routerRetire 66,
    .columnShift 66, .wplRingRead 66, .wplFreeze 66, .wplResume 66, .wplRecordList 66, .wplRecordRead 66,
    .fwWrite 66 [], .fwVerify 66, .fwActivate 66, .fwMinSvn 66 false, .tmuxUnlock 66, .tmuxSelect 66,
    .wplCtlFreeze (.pf 2) 0#32, .wplCtlResume (.pf 2) 0#32, .floorReset (.pf 2) 0#32, .ddrTrain .fw 8 0#32,
    .ddrTrain (.pf 2) 0 0#32, .ddrTrainingDone 8 none false 0].all fun c => !c.wf) = true := by decide +kernel
theorem test_ill_formed_16 :
  ([(.ddrSelfrefEntryDone 8 : Instr), .railDown 9, .losClear 64, .readingLoLatchesHi (.pf 2) .LANE_USER 0,
    .cataloguedTimeExceeded 66, .autoNegotiationPage 64 false false, .linkTrainingFrame 64 false,
    .dynamicAddressAssignment 128, .registerWrite .fw .LANE_USER 64 0#32, .readingLoLatchesHi .fw .LANE_USER 64,
    .dmaDescFetch 2 none, .dmaDescFetch 0 (some (2 ^ 256)), .dmaPieceComplete 0 (.issue 8 0 none),
    .dmaPieceComplete 0 (.issue 0 512 none), .dmaPieceComplete 0 (.answer (2 ^ 192) []),
    .requestTimeout (.bench 64 0 0), .requestTimeout (.bench 0 2 0), .requestTimeout (.bench 0 0 512),
    .requestTimeout (.pcie 2 0), .requestTimeout (.pcie 0 512), .tagReturn (.bench 64 0 0),
    .tagReturn (.pcie 0 512), .capabilityFrame 64 none, .capabilityFrame 0 (some (2 ^ 256, 0))].all fun c => !c.wf) = true := by decide +kernel
theorem test_ill_formed_17 :
  ([(.capabilityFrame 0 (some (0, 2 ^ 32)) : Instr), .twinBlankEnd 8 [], .twinBlankEnd 0 [8], .clkReturn 2 none,
    .clkReturn 54 none, .clkReturn 3 (some (.vf 64, 0#32)), .hardwareTrip 16, .hardwareTrip 43,
    .converterRotate 0 8 [], .converterRotate 4 18 [], .loadGo (.vf 64) 0 0#32].all fun c => !c.wf) = true := by decide +kernel

/-! ### Worked examples of the spec -/

/-- The group of configuration bits of bench 45, sett (5, 17), k = 100, its partner, and its parts (R22, R23). -/
theorem test_group_identifier : (gidOf 45 1 (248 * (32 * 5 + 17) + 100) = 0x9680ABDC ∧ gidPartner 0x9680ABDC = 0x9680ABDD
    ∧ gidValid 0x9680ABDC = true ∧ gidBench 0x9680ABDC = 45 ∧ gidValid 0xB680ABDC = false) := by decide +kernel

/-- The word that bench 45 writes in block 177, at haul address 0x0102_34B1_48D4 (R90, R300). -/
theorem test_memory_address : State.reset.haulTarget 0x010234B148D4 = .mem 45 (177 * 0x10000 + 8 * 2330 + 4) := by
  decide +kernel

/-- Mode 1 with G = 12 and 32 GiB channels: contiguous up to 256 GiB, UNMAPPED above (R302, R640). -/
theorem test_ddr_interleave :
    ((host.set F.HN_DDR_ILV_MODE 0 1).ddrPlace 0x3FFFFFFFFF).2 < 2 ^ 35
      ∧ 2 ^ 35 ≤ ((host.set F.HN_DDR_ILV_MODE 0 1).ddrPlace 0x4000000000).2 := by decide +kernel

/-- The SHIFT event of bench 45, column 5, as the ring stores it (R611). -/
theorem test_weapel_entry : entriesBytes [⟨1000000000, 0x0503, 74, 2, 0x2D05⟩]
    = [0x00, 0xCA, 0x9A, 0x3B, 0, 0, 0, 0, 0x03, 0x05, 0x4A, 0x02, 0x05, 0x2D, 0, 0] := by decide +kernel

/-- Item 16 of a packet in a hopper of capacity 16: discarded, the packet published with CUT = 1 and LENGTH = 15 (R133). -/
def fullPacket : State :=
  (hopped { slots := .length false 0 :: List.replicate 15 (.data 7), wr := 16, wopen := some 15 }).set F.HOP_CFG_PKT 2046 1
theorem test_packet_cut : (fullPacket.hopWrite 2046 9 false false).hop 2046
    = { slots := .length true 15 :: List.replicate 15 (.data 7), wr := 16, pub := 16, pubFly := [16], discard := true } := by
  decide +kernel

/-- A hysteresis of 0 reads back as 1, and SHDN_C cannot be raised (R517). -/
theorem test_limits : (host.limitsWrite 0 0x90780000#32).get F.THM_LIMITS_WARN_HYST 0 = 1
    ∧ ((host.limitsWrite 0 0x90780000#32).limitsWrite 0 0x91780000#32).get F.THM_LIMITS_SHDN_C 0 = 0x90 := by decide +kernel

/-! ### StepRunsFront -/

theorem wit_StepRunsFront : ({ State.reset with pending := [.deviceTimeTick] } : State).pending = .deviceTimeTick :: [] := rfl

/-! ### StepIdle -/

theorem wit_StepIdle : State.reset.pending = [] := rfl

/-! ### StepKeepsInv -/

theorem wit_StepKeepsInv : State.reset.Inv :=
  ⟨(by intro c hc; cases hc), ⟨⟨List.Pairwise.nil, (by intro e he; cases he)⟩, (by intro e he; cases he)⟩,
   ⟨List.Pairwise.nil, (by intro e he; cases he)⟩, ⟨List.Pairwise.nil, (by intro e he; cases he)⟩,
   ⟨List.Pairwise.nil, (by intro e he; cases he)⟩, fun _ => ⟨List.Pairwise.nil, (by intro e he; cases he)⟩,
   ⟨List.Pairwise.nil, (by intro e he; cases he)⟩⟩

/-! ### FootprintKept -/

theorem wit_FootprintKept_part : Part.memt ∉ (touches .deviceTimeTick).1 := by decide
theorem wit_FootprintKept_reg : Reg.PWR_DOM ∉ (touches (.getEndpointId)).2 := by decide

/-! ### ReservedReadsZero -/

theorem wit_ReservedReadsZero :
    RegsOk State.reset.regs ∧ exec .getEndpointId State.reset = .next State.reset :=
  ⟨⟨⟨List.Pairwise.nil, (by intro e he; cases he)⟩, (by intro e he; cases he)⟩, rfl⟩

/-! ### PowerOnAndRails -/

/-- A state for powerOnReset. -/
def s_PowerOnAndRails_1 : State := State.reset
/-- A state for railUp. -/
def s_PowerOnAndRails_2 : State := State.reset
theorem wit_PowerOnAndRails_2 : 0 < 5 ∧ 5 ≤ 8 ∧ s_PowerOnAndRails_2.railUp 5 = false := by decide +kernel
/-- A state for railUp. -/
def s_PowerOnAndRails_2b : State := State.reset
theorem wit_PowerOnAndRails_2b : 0 < 8 ∧ 8 ≤ 8 ∧ s_PowerOnAndRails_2b.railUp 8 = false := by decide +kernel
/-- A state for railUp. -/
def s_PowerOnAndRails_3 : State := ({ State.reset with power := { railsUp := 0 } })
theorem wit_PowerOnAndRails_3 : s_PowerOnAndRails_3.railUp 0 = false := by decide +kernel
/-- A state for railDown. -/
def s_PowerOnAndRails_4 : State := ({ State.reset with power := { railsUp := 0x1FF } })
theorem wit_PowerOnAndRails_4 : 0 < 8 ∧ 8 ≤ 8 ∧ s_PowerOnAndRails_4.railUp 8 = true := by decide +kernel
/-- A state for railDown. -/
def s_PowerOnAndRails_4b : State := ({ State.reset with power := { railsUp := 0x1FF } })
theorem wit_PowerOnAndRails_4b : 0 < 1 ∧ 1 ≤ 8 ∧ s_PowerOnAndRails_4b.railUp 1 = true := by decide +kernel
/-- A state for pwrgoodRise. -/
def s_PowerOnAndRails_5 : State := (up [0, 5])
theorem wit_PowerOnAndRails_5 : s_PowerOnAndRails_5.power.good = false ∧ s_PowerOnAndRails_5.powered 0 = true := by decide +kernel
/-- A state for pwrgoodFall. -/
def s_PowerOnAndRails_6 : State := ({ State.reset with power := { good := true } })
theorem wit_PowerOnAndRails_6 : s_PowerOnAndRails_6.power.good = true := by decide +kernel

/-! ### BootPhases -/

/-- A state for bootRom. -/
def s_BootPhases_1 : State := ((upTo 41).foldl (fun s i => s.set F.CLK_MON_LOCKED (3 + i) 1) ((bootState [1] 1).set F.CLK_OSC_STAT_REF_FAIL 0 1))
theorem wit_BootPhases_1 : s_BootPhases_1.bootAt 1 = true ∧ s_BootPhases_1.clocksReady = true := by decide +kernel
/-- A state for bootNet. -/
def s_BootPhases_2 : State := (bootState [1] 2)
theorem wit_BootPhases_2 : s_BootPhases_2.bootAt 2 = true := by decide +kernel
/-- A state for bootPorts. -/
def s_BootPhases_3 : State := (bootState [1, 6, 7, 8, 9, 10] 3)
theorem wit_BootPhases_3 : s_BootPhases_3.bootAt 3 = true := by decide +kernel
/-- A state for bootTiers. -/
def s_BootPhases_4 : State := (bootState [1, 6, 7, 8, 9, 10] 4)
theorem wit_BootPhases_4 : s_BootPhases_4.bootAt 4 = true := by decide +kernel
/-- A state for bootBenches. -/
def s_BootPhases_5 : State := (bootState [1, 6, 9, 10, 25, 28, 29, 32] 5)
theorem wit_BootPhases_5 : s_BootPhases_5.bootAt 5 = true := by decide +kernel
/-- A state for bootShell. -/
def s_BootPhases_6 : State := (bootState [1] 6)
theorem wit_BootPhases_6 : s_BootPhases_6.bootAt 6 = true := by decide +kernel
/-- A state for bootOpen. -/
def s_BootPhases_7 : State := (bootState [1] 7)
theorem wit_BootPhases_7 : s_BootPhases_7.bootAt 7 = true := by decide +kernel

/-! ### PortResets -/

/-- A state for perstAssert. -/
def s_PortResets_1 : State := ({ host with power := { perst := 0 } })
theorem wit_PortResets_1 : 1 < 2 ∧ bitOf s_PortResets_1.power.perst 1 = 0 := by decide +kernel
/-- A state for perstAssert. -/
def s_PortResets_1b : State := ({ State.reset with power := { perst := 2 } })
theorem wit_PortResets_1b : 0 < 2 ∧ bitOf s_PortResets_1b.power.perst 0 = 0 := by decide +kernel
/-- A state for perstDeassert. -/
def s_PortResets_2 : State := host
theorem wit_PortResets_2 : 1 < 2 ∧ bitOf s_PortResets_2.power.perst 1 = 1 := by decide +kernel
/-- A state for perstDeassert. -/
def s_PortResets_2b : State := State.reset
theorem wit_PortResets_2b : 0 < 2 ∧ bitOf s_PortResets_2b.power.perst 0 = 1 := by decide +kernel
/-- A state for pcieLinkUp. -/
def s_PortResets_3 : State := ((up [11, 12]).set F.PCIE_LINK_STAT_PERST 1 0)
theorem wit_PortResets_3 : 1 < 2 ∧ s_PortResets_3.powered (dPcie 1) = true ∧ s_PortResets_3.side.tapPins = false
    ∧ s_PortResets_3.floorReset = 0 ∧ linkMode 6 16 true = true
    ∧ s_PortResets_3.flag F.PCIE_LINK_STAT_PERST 1 = false ∧ s_PortResets_3.flag F.PCIE_LINK_STAT_UP 1 = false := by decide +kernel
/-- A state for pcieLinkUp. -/
def s_PortResets_3b : State := ((up [11, 12]).set F.PCIE_LINK_STAT_PERST 0 0)
theorem wit_PortResets_3b : 0 < 2 ∧ s_PortResets_3b.powered (dPcie 0) = true
    ∧ s_PortResets_3b.side.tapPins = false ∧ s_PortResets_3b.floorReset = 0 ∧ linkMode 1 1 false = true
    ∧ s_PortResets_3b.flag F.PCIE_LINK_STAT_PERST 0 = false ∧ s_PortResets_3b.flag F.PCIE_LINK_STAT_UP 0 = false := by decide +kernel
/-- A state for pcieLinkDown. -/
def s_PortResets_4 : State := host
theorem wit_PortResets_4 : 1 < 2 ∧ s_PortResets_4.flag F.PCIE_LINK_STAT_UP 1 = true := by decide +kernel
/-- A state for vfFlr. -/
def s_PortResets_5 : State := (host.setCfg 0 0 { vfEnable := true })
theorem wit_PortResets_5 : 0 < 2 ∧ 63 < 64 ∧ s_PortResets_5.portLive 0 = true
    ∧ s_PortResets_5.hasFn 0 (63 + 1) = true := by decide +kernel
/-- A state for vfFlr. -/
def s_PortResets_5b : State := (host.setCfg 1 0 { vfEnable := true })
theorem wit_PortResets_5b : 1 < 2 ∧ 63 < 64 ∧ s_PortResets_5b.portLive 1 = true
    ∧ s_PortResets_5b.hasFn 1 (63 + 1) = true := by decide +kernel
/-- A state for vfFlr. -/
def s_PortResets_5c : State := ((host.setCfg 1 0 { vfEnable := true }).set F.PWR_BOOT_STAT_DONE 0 0)
theorem wit_PortResets_5c : 1 < 2 ∧ 0 < 64 ∧ s_PortResets_5c.portLive 1 = true
    ∧ s_PortResets_5c.hasFn 1 (0 + 1) = true := by decide +kernel
/-- A state for pfFlr. -/
def s_PortResets_6 : State := host
theorem wit_PortResets_6 : 1 < 2 ∧ s_PortResets_6.portLive 1 = true := by decide +kernel
/-- A state for pfFlr. -/
def s_PortResets_6b : State := (host.set F.PWR_BOOT_STAT_DONE 0 0)
theorem wit_PortResets_6b : 0 < 2 ∧ s_PortResets_6b.portLive 0 = true := by decide +kernel

/-! ### PcieAccesses -/

/-- A state for pcieConfigRequest. -/
def s_PcieAccesses_1 : State := (host.setCfg 0 0 { vfEnable := true })
theorem wit_PcieAccesses_1 : 0 < 2 ∧ 64 < 65 ∧ s_PcieAccesses_1.portLive 0 = true := by decide +kernel
/-- A state for pcieConfigRequest. -/
def s_PcieAccesses_1b : State := host
theorem wit_PcieAccesses_1b : 0 < 2 ∧ 1 < 65 ∧ s_PcieAccesses_1b.portLive 0 = true := by decide +kernel
/-- A state for pcieConfigRequest. -/
def s_PcieAccesses_1c : State := host
theorem wit_PcieAccesses_1c : 1 < 2 ∧ 0 < 65 ∧ s_PcieAccesses_1c.portLive 1 = true := by decide +kernel
/-- A state for pcieConfigRequest. -/
def s_PcieAccesses_1d : State := (host.set F.PWR_BOOT_STAT_DONE 0 0)
theorem wit_PcieAccesses_1d : 1 < 2 ∧ 0 < 65 ∧ s_PcieAccesses_1d.portLive 1 = true := by decide +kernel
/-- A state for pcieBarRead. -/
def s_PcieAccesses_2 : State := (host.setCfg 0 0 { mse := true })
theorem wit_PcieAccesses_2 : s_PcieAccesses_2.barOpen 0 0 = true ∧ 0 < 4 ∧ s_PcieAccesses_2.floorReset = 0 := by decide +kernel
/-- A state for pcieBarRead. -/
def s_PcieAccesses_2b : State := (host.setCfg 0 0 { mse := true })
theorem wit_PcieAccesses_2b : s_PcieAccesses_2b.barOpen 0 0 = true ∧ 0 < 4 ∧ s_PcieAccesses_2b.floorReset = 0 := by decide +kernel
/-- A state for pcieBarRead. -/
def s_PcieAccesses_2c : State := (host.setCfg 0 0 { mse := true })
theorem wit_PcieAccesses_2c : s_PcieAccesses_2c.barOpen 0 0 = true ∧ 0 < 4 ∧ s_PcieAccesses_2c.floorReset = 0 := by decide +kernel
/-- A state for pcieBarRead. -/
def s_PcieAccesses_2d : State := ((host.setCfg 0 64 { mse := true }).setCfg 0 0 { vfEnable := true })
theorem wit_PcieAccesses_2d : s_PcieAccesses_2d.barOpen 0 64 = true ∧ 0 < 4 ∧ s_PcieAccesses_2d.floorReset = 0 := by decide +kernel
/-- A state for pcieBarRead. -/
def s_PcieAccesses_2e : State := ((host.setCfg 0 64 { mse := true }).setCfg 0 0 { vfEnable := true })
theorem wit_PcieAccesses_2e : s_PcieAccesses_2e.barOpen 0 64 = true ∧ 0 < 1 ∧ s_PcieAccesses_2e.floorReset = 0 := by decide +kernel
/-- A state for pcieBarWrite. -/
def s_PcieAccesses_3 : State := (host.setCfg 0 0 { mse := true })
theorem wit_PcieAccesses_3 : s_PcieAccesses_3.barOpen 0 0 = true ∧ ([1#8] : List Byte) ≠ []
    ∧ s_PcieAccesses_3.floorReset = 0 := by decide +kernel
/-- A state for pcieBarWrite. -/
def s_PcieAccesses_3b : State := ((host.setCfg 0 64 { mse := true }).setCfg 0 0 { vfEnable := true })
theorem wit_PcieAccesses_3b : s_PcieAccesses_3b.barOpen 0 64 = true ∧ ([1#8] : List Byte) ≠ []
    ∧ s_PcieAccesses_3b.floorReset = 0 := by decide +kernel
/-- A state for pcieBarWrite. -/
def s_PcieAccesses_3c : State := ((host.setCfg 0 64 { mse := true }).setCfg 0 0 { vfEnable := true })
theorem wit_PcieAccesses_3c : s_PcieAccesses_3c.barOpen 0 64 = true ∧ ([1#8] : List Byte) ≠ []
    ∧ s_PcieAccesses_3c.floorReset = 0 := by decide +kernel
/-- A state for pcieBarWrite. -/
def s_PcieAccesses_3d : State := (host.setCfg 0 0 { mse := true })
theorem wit_PcieAccesses_3d : s_PcieAccesses_3d.barOpen 0 0 = true ∧ ([1#8] : List Byte) ≠ []
    ∧ s_PcieAccesses_3d.floorReset = 0 := by decide +kernel
/-- A state for pcieBarWrite. -/
def s_PcieAccesses_3e : State := (host.setCfg 0 0 { mse := true })
theorem wit_PcieAccesses_3e : s_PcieAccesses_3e.barOpen 0 0 = true ∧ ([1#8, 2#8, 3#8, 4#8] : List Byte) ≠ []
    ∧ s_PcieAccesses_3e.floorReset = 0 := by decide +kernel
/-- A state for barHaulResponse. -/
def s_PcieAccesses_4 : State := ({ host with pcie := { host.pcie with bars := [{ port := 0, fn := 0, tag := 1, write := false, cls := 0, addr := 0x03F000000100, dst := 0, data := [], len := 4, ht := 0, inj := some 0 }] } })
theorem wit_PcieAccesses_4 : 0 < 2 ∧ s_PcieAccesses_4.powered (dPcie 0) = true ∧ s_PcieAccesses_4.floorReset = 0
    ∧ (s_PcieAccesses_4.pcie.bars.find? fun q => q.port == 0 && q.ht == hTag (mkHeader 0x03F000000100 0 1 0 clsRsp 3 0 opRdata 0 0) % 2 ^ 9 && q.inj.isSome) = some ({ port := 0, fn := 0, tag := 1, write := false, cls := 0, addr := 0x03F000000100, dst := 0, data := [], len := 4, ht := 0, inj := some 0 } : BarReq)
    ∧ (s_PcieAccesses_4.ftag 0 (hTag (mkHeader 0x03F000000100 0 1 0 clsRsp 3 0 opRdata 0 0) % 2 ^ 9)).gen = hTag (mkHeader 0x03F000000100 0 1 0 clsRsp 3 0 opRdata 0 0) / 2 ^ 9
    ∧ rspSound (mkHeader 0x03F000000100 0 1 0 clsRsp 3 0 opRdata 0 0) ([(5, false)] : List (Nat × Bool)) = true := by decide +kernel
/-- A state for vfMapWrite. -/
def s_PcieAccesses_5 : State := host
theorem wit_PcieAccesses_5 : 0 < 2
    ∧ s_PcieAccesses_5.mayWrite ((.pf 0) : Src) (if 0 = 0 then .PCIE_VF_MAP_LO else .PCIE_VF_MAP_HI) 0 = true := by decide +kernel
/-- A state for vfMapWrite. -/
def s_PcieAccesses_5b : State := host
theorem wit_PcieAccesses_5b : 1 < 2
    ∧ s_PcieAccesses_5b.mayWrite (.fw : Src) (if 1 = 0 then .PCIE_VF_MAP_LO else .PCIE_VF_MAP_HI) 0 = true := by decide +kernel
/-- A state for msixUnmask. -/
def s_PcieAccesses_6 : State := host
theorem wit_PcieAccesses_6 : 1 < 2 ∧ s_PcieAccesses_6.portLive 1 = true
    ∧ (0 = 0 ∨ (0 < 65 ∧ s_PcieAccesses_6.hasFn 1 0 = true ∧ s_PcieAccesses_6.vfPort (0 - 1) = 1))
    ∧ 5 < vecCount 0 := by decide +kernel
/-- A state for msixUnmask. -/
def s_PcieAccesses_6b : State := (host.setCfg 1 0 { vfEnable := true })
theorem wit_PcieAccesses_6b : 1 < 2 ∧ s_PcieAccesses_6b.portLive 1 = true
    ∧ (64 = 0 ∨ (64 < 65 ∧ s_PcieAccesses_6b.hasFn 1 64 = true ∧ s_PcieAccesses_6b.vfPort (64 - 1) = 1))
    ∧ 2 < vecCount 64 := by decide +kernel

/-! ### CopyRings -/

/-- A state for dmaRingEnable. -/
def s_CopyRings_1 : State := host
theorem wit_CopyRings_1 : s_CopyRings_1.mayWrite ((.pf 0) : Src) .PCIE_DMA_CTL 1 = true
    ∧ fldOf F.PCIE_DMA_CTL_EN (0xFFFFFFFF : Word) = 1 := by decide +kernel
/-- A state for dmaRingEnable. -/
def s_CopyRings_1b : State := (host.set F.PCIE_DMA_CTL_EN 1 1)
theorem wit_CopyRings_1b : s_CopyRings_1b.mayWrite ((.pf 0) : Src) .PCIE_DMA_CTL 1 = true
    ∧ fldOf F.PCIE_DMA_CTL_EN (0xFFFFFFFF : Word) = 1 := by decide +kernel
/-- A state for dmaRingDisable. -/
def s_CopyRings_2 : State := (host.set F.PCIE_DMA_CTL_EN 1 1)
theorem wit_CopyRings_2 : s_CopyRings_2.mayWrite (.fw : Src) .PCIE_DMA_CTL 1 = true
    ∧ fldOf F.PCIE_DMA_CTL_EN (0 : Word) = 0 := by decide +kernel
/-- A state for dmaProdWrite. -/
def s_CopyRings_3 : State := (host.set F.PCIE_DMA_CTL_SIZE_EXP 0 4)
theorem wit_CopyRings_3 : s_CopyRings_3.mayWrite ((.pf 0) : Src) .PCIE_DMA_PROD 0 = true := by decide +kernel
/-- A state for dmaProdWrite. -/
def s_CopyRings_3b : State := (host.set F.PCIE_DMA_CTL_SIZE_EXP 0 4)
theorem wit_CopyRings_3b : s_CopyRings_3b.mayWrite ((.pf 0) : Src) .PCIE_DMA_PROD 0 = true := by decide +kernel
/-- A state for dmaDescFetch. -/
def s_CopyRings_4 : State := ((host.set F.PCIE_DMA_CTL_EN 0 1).set F.PCIE_DMA_PROD_PROD 0 3)
theorem wit_CopyRings_4 : 0 < 2 ∧ s_CopyRings_4.portLive 0 = true ∧ s_CopyRings_4.floorReset = 0
    ∧ s_CopyRings_4.flag F.PCIE_DMA_CTL_EN 0 = true ∧ (s_CopyRings_4.dmaEng 0).descs.length < 8
    ∧ (s_CopyRings_4.dmaEng 0).fetchIdx ≠ s_CopyRings_4.get F.PCIE_DMA_PROD_PROD 0 := by decide +kernel
/-- A state for dmaDescFetch. -/
def s_CopyRings_4b : State := ((host.set F.PCIE_DMA_CTL_EN 0 1).set F.PCIE_DMA_PROD_PROD 0 3)
theorem wit_CopyRings_4b : 0 < 2 ∧ s_CopyRings_4b.portLive 0 = true ∧ s_CopyRings_4b.floorReset = 0
    ∧ s_CopyRings_4b.flag F.PCIE_DMA_CTL_EN 0 = true ∧ (s_CopyRings_4b.dmaEng 0).descs.length < 8
    ∧ (s_CopyRings_4b.dmaEng 0).fetchIdx ≠ s_CopyRings_4b.get F.PCIE_DMA_PROD_PROD 0 := by decide +kernel
/-- A state for dmaPieceComplete. -/
def s_CopyRings_5 : State := ((host.set (fenceFld 1) (pcieRouter 0) 0).setDmaEng 0 { descs := [{ todo := [(0, 4)], idx := 0, word := 2 ^ 152 }] })
theorem wit_CopyRings_5 : 0 < 2 ∧ s_CopyRings_5.powered (dPcie 0) = true ∧ s_CopyRings_5.floorReset = 0
    ∧ (s_CopyRings_5.dmaEng 0).descs[0]? = some ({ todo := [(0, 4)], idx := 0, word := 2 ^ 152 } : DmaDesc)
    ∧ ({ todo := [(0, 4)], idx := 0, word := 2 ^ 152 } : DmaDesc).todo = (0, 4) :: ([] : List (Nat × Nat))
    ∧ s_CopyRings_5.ftagFree (engOf 0) 511 = true ∧ s_CopyRings_5.floorHolds 0 = false
    ∧ s_CopyRings_5.floorRoom (engOf 0) (!dsToHost ({ todo := [(0, 4)], idx := 0, word := 2 ^ 152 } : DmaDesc).word) 0 4 = true
    ∧ s_CopyRings_5.injReady (pcieId 0) clsReq = true
    ∧ s_CopyRings_5.descTurn 0 0 ({ todo := [(0, 4)], idx := 0, word := 2 ^ 152 } : DmaDesc) = true
    ∧ s_CopyRings_5.localStatus false 0 4 = none
    ∧ (dsToHost ({ todo := [(0, 4)], idx := 0, word := 2 ^ 152 } : DmaDesc).word = true ∨ (none : Option (List Byte)) ≠ none) :=
  ⟨by decide +kernel, by decide +kernel, by decide +kernel, by decide +kernel, by decide +kernel, by decide +kernel, by decide +kernel,
    floorRoom_of_le (by decide +kernel), by decide +kernel, by decide +kernel, by decide +kernel, by decide +kernel⟩
/-- A state for dmaPieceComplete. -/
def s_CopyRings_6 : State := (host.setDmaEng 1 { descs := [{ idx := 0, word := 2 ^ 152, open_ := [{ addr := 0, len := 4, ht := 0, inj := 0 }] }] })
theorem wit_CopyRings_6 : 1 < 2 ∧ s_CopyRings_6.powered (dPcie 1) = true ∧ s_CopyRings_6.floorReset = 0
    ∧ rspSound (mkHeader 0 0 1 0 clsRsp 3 0 opRdata 0 0) ([(5, false)] : List (Nat × Bool)) = true
    ∧ s_CopyRings_6.pieceOf 1 (hTag (mkHeader 0 0 1 0 clsRsp 3 0 opRdata 0 0) % 2 ^ 9) = some (0, ({ idx := 0, word := 2 ^ 152, open_ := [{ addr := 0, len := 4, ht := 0, inj := 0 }] } : DmaDesc), ({ addr := 0, len := 4, ht := 0, inj := 0 } : DmaPiece))
    ∧ (s_CopyRings_6.ftag (engOf 1) (hTag (mkHeader 0 0 1 0 clsRsp 3 0 opRdata 0 0) % 2 ^ 9)).gen = hTag (mkHeader 0 0 1 0 clsRsp 3 0 opRdata 0 0) / 2 ^ 9 := by decide +kernel
/-- A state for dmaWriteback. -/
def s_CopyRings_7 : State := (host.setDmaEng 0 { descs := [{ idx := 0, word := 2 ^ 153 }] })
theorem wit_CopyRings_7 : 0 < 2 ∧ s_CopyRings_7.floorReset = 0
    ∧ (s_CopyRings_7.dmaEng 0).descs = ({ idx := 0, word := 2 ^ 153 } : DmaDesc) :: ([] : List DmaDesc)
    ∧ ({ idx := 0, word := 2 ^ 153 } : DmaDesc).whole = true := by decide +kernel

/-! ### BoreTrims -/

/-- A state for trimChangeover. -/
def s_BoreTrims_1 : State := (grp id)
theorem wit_BoreTrims_1 : gidValid 0 = true ∧ (s_BoreTrims_1.group 0).acqDone = true
    ∧ (s_BoreTrims_1.group 0).paused = false ∧ s_BoreTrims_1.groupHeld 0 = false := by decide +kernel
/-- A state for trimChangeover. -/
def s_BoreTrims_1b : State := (grp fun x => { x with eff := 250 })
theorem wit_BoreTrims_1b : gidValid 0 = true ∧ (s_BoreTrims_1b.group 0).acqDone = true
    ∧ (s_BoreTrims_1b.group 0).paused = false ∧ s_BoreTrims_1b.groupHeld 0 = false := by decide +kernel
/-- A state for trimAcqStep. -/
def s_BoreTrims_2 : State := (grp fun x => { x with acqDone := false, acqStep := 0 })
theorem wit_BoreTrims_2 : gidValid 0 = true ∧ (s_BoreTrims_2.group 0).acqDone = false
    ∧ (s_BoreTrims_2.group 0).acqStep < 8 ∧ s_BoreTrims_2.groupHeld 0 = false := by decide +kernel
/-- A state for trimAcqStep. -/
def s_BoreTrims_2b : State := (grp fun x => { x with acqDone := false, acqStep := 7 })
theorem wit_BoreTrims_2b : gidValid 0 = true ∧ (s_BoreTrims_2b.group 0).acqDone = false
    ∧ (s_BoreTrims_2b.group 0).acqStep < 8 ∧ s_BoreTrims_2b.groupHeld 0 = false := by decide +kernel
/-- A state for calEvaluationEnd. -/
def s_BoreTrims_3 : State := ((grp id).set F.CAL_BORE_CTL_CAL_EN 0 1)
theorem wit_BoreTrims_3 : gidValid 0 = true ∧ (s_BoreTrims_3.group 0).acqDone = true
    ∧ (s_BoreTrims_3.group 0).evalRun = true ∧ (s_BoreTrims_3.group 0).paused = false
    ∧ s_BoreTrims_3.get F.CAL_BORE_CTL_CAL_EN (gidCol 0) ≠ 0 ∧ s_BoreTrims_3.groupHeld 0 = false := by decide +kernel
/-- A state for calEvaluationEnd. -/
def s_BoreTrims_3b : State := ((grp id).set F.CAL_BORE_CTL_CAL_EN 0 1)
theorem wit_BoreTrims_3b : gidValid 0 = true ∧ (s_BoreTrims_3b.group 0).acqDone = true
    ∧ (s_BoreTrims_3b.group 0).evalRun = true ∧ (s_BoreTrims_3b.group 0).paused = false
    ∧ s_BoreTrims_3b.get F.CAL_BORE_CTL_CAL_EN (gidCol 0) ≠ 0 ∧ s_BoreTrims_3b.groupHeld 0 = false := by decide +kernel
/-- A state for evalRestartAfterPause. -/
def s_BoreTrims_4 : State := { (grp fun x => { x with evalWait := true, evalRun := false }) with time := 1000 }
theorem wit_BoreTrims_4 : gidValid 0 = true ∧ (s_BoreTrims_4.group 0).evalWait = true
    ∧ (s_BoreTrims_4.group 0).paused = false ∧ (s_BoreTrims_4.group 0).waitAt + 1000 ≤ s_BoreTrims_4.time := by decide +kernel
/-- A state for calBoreTrimWrite. -/
def s_BoreTrims_5 : State := (grp id)
theorem wit_BoreTrims_5 : s_BoreTrims_5.mayWrite ((.pf 0) : Src) .CAL_BORE_TRIM 0 = true
    ∧ gidValid (s_BoreTrims_5.get F.CAL_BORE_SEL_GROUP_ID (selCopy ((.pf 0) : Src))) = true := by decide +kernel
/-- A state for calBoreTrimWrite. -/
def s_BoreTrims_5b : State := (grp fun x => { x with acqDone := false })
theorem wit_BoreTrims_5b : s_BoreTrims_5b.mayWrite (.fw : Src) .CAL_BORE_TRIM 0 = true
    ∧ gidValid (s_BoreTrims_5b.get F.CAL_BORE_SEL_GROUP_ID (selCopy (.fw : Src))) = true := by decide +kernel
/-- A state for boreTestRound. -/
def s_BoreTrims_6 : State := (grp id)
theorem wit_BoreTrims_6 : s_BoreTrims_6.groupRuns 0 = true ∧ (idleSpare (s_BoreTrims_6.group 0)).isSome = true
    ∧ (s_BoreTrims_6.group 0).test = none ∧ (s_BoreTrims_6.group 0).paused = false
    ∧ ((s_BoreTrims_6.group 0).round = none ∨ ∃ at_ ∈ (s_BoreTrims_6.group 0).round, at_ + 100000000 ≤ s_BoreTrims_6.time) := by decide +kernel
/-- A state for boreTestRound. -/
def s_BoreTrims_6b : State := ({ grp fun x => { x with round := some 5 } with time := 100000005 })
theorem wit_BoreTrims_6b : s_BoreTrims_6b.groupRuns 0 = true
    ∧ (idleSpare (s_BoreTrims_6b.group 0)).isSome = true ∧ (s_BoreTrims_6b.group 0).test = none
    ∧ (s_BoreTrims_6b.group 0).paused = false
    ∧ ((s_BoreTrims_6b.group 0).round = none ∨ ∃ at_ ∈ (s_BoreTrims_6b.group 0).round, at_ + 100000000 ≤ s_BoreTrims_6b.time) := by decide +kernel
/-- A state for boreTestEnd. -/
def s_BoreTrims_7 : State := (grp fun x => { x with test := some (63, false) })
theorem wit_BoreTrims_7 : s_BoreTrims_7.groupRuns 0 = true ∧ (s_BoreTrims_7.group 0).test = some (63, false) := by decide +kernel
/-- A state for boreTestEnd. -/
def s_BoreTrims_7b : State := (grp fun x => { x with test := some (63, true) })
theorem wit_BoreTrims_7b : s_BoreTrims_7b.groupRuns 0 = true ∧ (s_BoreTrims_7b.group 0).test = some (63, true) := by decide +kernel
/-- A state for boreTestEnd. -/
def s_BoreTrims_7c : State := (grp fun x => { x with test := some (62, true) })
theorem wit_BoreTrims_7c : s_BoreTrims_7c.groupRuns 0 = true ∧ (s_BoreTrims_7c.group 0).test = some (62, true) := by decide +kernel
/-- A state for groupResume. -/
def s_BoreTrims_8 : State := (grp fun x => { x with paused := true })
theorem wit_BoreTrims_8 : gidValid 0 = true ∧ (s_BoreTrims_8.group 0).paused = true
    ∧ (s_BoreTrims_8.floorReset ≤ 1 ∨ s_BoreTrims_8.groupHeld 0 = false) := by decide +kernel
/-- A state for idleSpareMismatch. -/
def s_BoreTrims_9 : State := (grp id)
theorem wit_BoreTrims_9 : 3 < 4 ∧ s_BoreTrims_9.groupRuns 0 = true
    ∧ spareIdle (spareByte (s_BoreTrims_9.group 0) 3) = true ∧ 3 < (s_BoreTrims_9.group 0).spares.length := by decide +kernel

/-! ### FabricAndMonitors -/

/-- A state for fabricClockEdge. -/
def s_FabricAndMonitors_1 : State := (host.set F.BENCH_PLANE_STAT_ONLINE 63 1)
theorem wit_FabricAndMonitors_1 : s_FabricAndMonitors_1.activePlane 63 = some 0
    ∧ s_FabricAndMonitors_1.edgeActs 63 0 = true := by decide +kernel
/-- A state for asyncResetAssert. -/
def s_FabricAndMonitors_2 : State := (host.set F.BENCH_PLANE_STAT_ONLINE 63 1)
theorem wit_FabricAndMonitors_2 : s_FabricAndMonitors_2.benchUp 63 = true
    ∧ s_FabricAndMonitors_2.activePlane 63 = some 0 := by decide +kernel
/-- A state for imageEvent. -/
def s_FabricAndMonitors_3 : State := (host.set F.BENCH_PLANE_STAT_ONLINE 63 1)
theorem wit_FabricAndMonitors_3 : s_FabricAndMonitors_3.benchUp 63 = true
    ∧ s_FabricAndMonitors_3.activePlane 63 = some 0 := by decide +kernel
/-- A state for stateInitDone. -/
def s_FabricAndMonitors_4 : State := ({ host with planes := { initing := [(63, true)] } })
theorem wit_FabricAndMonitors_4 : mapGet (fun _ => false) s_FabricAndMonitors_4.planes.initing 63 = true := by decide +kernel
/-- A state for dlymonMeasure. -/
def s_FabricAndMonitors_5 : State := host
theorem wit_FabricAndMonitors_5 : 63 < 64 ∧ s_FabricAndMonitors_5.benchUp 63 = true := by decide +kernel
/-- A state for dlymonConverterRotate. -/
def s_FabricAndMonitors_6 : State := host
theorem wit_FabricAndMonitors_6 : 63 < 64 ∧ 32 < 33 ∧ s_FabricAndMonitors_6.benchUp 63 = true := by decide +kernel

/-! ### FabricEdges -/

/-- A state for fabricClockEdge. -/
def s_FabricEdges_1 : State := (host.set F.BENCH_PLANE_STAT_ONLINE 63 1)
/-- A state for fabricClockEdge. -/
def s_FabricEdges_2 : State := ({ host with clocks := { edgeNo := [(252, 15)] }, planes := { foldEdges := [(63, 2)] } })
theorem wit_FabricEdges_2 : s_FabricEdges_2.clkRuns 63 0 = true := by decide +kernel
/-- A state for fabricClockEdge. -/
def s_FabricEdges_3 : State := State.reset
theorem wit_FabricEdges_3 : s_FabricEdges_3.clkRuns 63 3 = false := by decide +kernel

/-! ### BenchStateEvents -/

/-- A state for asyncResetAssert. -/
def s_BenchStateEvents_1 : State := host
/-- A state for imageEvent. -/
def s_BenchStateEvents_2 : State := { onl 63 0 host with planes := { imgIn := [(63, some 3)] } }
/-- A state for stateInitDone. -/
def s_BenchStateEvents_3 : State := host

/-! ### DelayMonitorReadings -/

/-- A state for dlymonMeasure. -/
def s_DelayMonitorReadings_1 : State := host
/-- A state for dlymonConverterRotate. -/
def s_DelayMonitorReadings_2 : State := (host.setMonitor 63 32 { ps := 7, derate := 9, valid := true })
theorem wit_DelayMonitorReadings_2 : 63 < 64 ∧ 32 < 33 ∧ s_DelayMonitorReadings_2.benchUp 63 = true := by decide +kernel
/-- A state for dlymonConverterRotate. -/
def s_DelayMonitorReadings_3 : State := State.reset
theorem wit_DelayMonitorReadings_3 : s_DelayMonitorReadings_3.benchUp 63 = false := by decide +kernel

/-! ### MemoryTier -/

/-- A state for portAccess. -/
def s_MemoryTier_1 : State := ported
theorem wit_MemoryTier_1 : s_MemoryTier_1.activePlane 0 = some 0 ∧ 5 < 1024
    ∧ s_MemoryTier_1.powered (dMem (benchCol 0)) = true ∧ s_MemoryTier_1.benchUp 0 = true
    ∧ s_MemoryTier_1.portEnabled 0 0 5 0 = true ∧ bitsOf (s_MemoryTier_1.binding 0 0 5 0) 7 2 = 2
    ∧ (s_MemoryTier_1.blk 0 (s_MemoryTier_1.physOf 0 5)).wbA = []
    ∧ ubEn (8191 + 2 ^ 16 + 2 ^ 17 + 255 * 2 ^ 18 + 0x123456789ABCDEF0 * 2 ^ 34) = true
    ∧ s_MemoryTier_1.insideFence 0 0 5 = true ∧ s_MemoryTier_1.blockHeld 0 5 = false
    ∧ ubWe (8191 + 2 ^ 16 + 2 ^ 17 + 255 * 2 ^ 18 + 0x123456789ABCDEF0 * 2 ^ 34) = true
    ∧ bitsOf (ubBe (8191 + 2 ^ 16 + 2 ^ 17 + 255 * 2 ^ 18 + 0x123456789ABCDEF0 * 2 ^ 34)) 0 8 = 255 := by decide +kernel
/-- A state for portAccess. -/
def s_MemoryTier_1b : State := (ported.setBlk 0 5 { mask := 2 ^ 71 })
theorem wit_MemoryTier_1b : s_MemoryTier_1b.activePlane 0 = some 0 ∧ 5 < 1024
    ∧ s_MemoryTier_1b.powered (dMem (benchCol 0)) = true ∧ s_MemoryTier_1b.benchUp 0 = true
    ∧ s_MemoryTier_1b.portEnabled 0 0 5 0 = true ∧ bitsOf (s_MemoryTier_1b.binding 0 0 5 0) 7 2 = 2
    ∧ (s_MemoryTier_1b.blk 0 (s_MemoryTier_1b.physOf 0 5)).wbA = []
    ∧ ubEn (8191 + 2 ^ 16 + 2 ^ 17 + 255 * 2 ^ 18 + 0x123456789ABCDEF0 * 2 ^ 34) = true
    ∧ s_MemoryTier_1b.insideFence 0 0 5 = true ∧ s_MemoryTier_1b.blockHeld 0 5 = false
    ∧ ubWe (8191 + 2 ^ 16 + 2 ^ 17 + 255 * 2 ^ 18 + 0x123456789ABCDEF0 * 2 ^ 34) = true
    ∧ bitsOf (ubBe (8191 + 2 ^ 16 + 2 ^ 17 + 255 * 2 ^ 18 + 0x123456789ABCDEF0 * 2 ^ 34)) 0 8 = 255 := by decide +kernel
/-- A state for portAccess. -/
def s_MemoryTier_2 : State := (ported.setMemWord 0 5 7 (some (eccEncode 0x123456789ABCDEF0)))
theorem wit_MemoryTier_2 : s_MemoryTier_2.activePlane 0 = some 0 ∧ 5 < 1024
    ∧ s_MemoryTier_2.powered (dMem (benchCol 0)) = true ∧ s_MemoryTier_2.benchUp 0 = true
    ∧ s_MemoryTier_2.portEnabled 0 0 5 0 = true ∧ bitsOf (s_MemoryTier_2.binding 0 0 5 0) 7 2 = 2
    ∧ (s_MemoryTier_2.blk 0 (s_MemoryTier_2.physOf 0 5)).wbA = [] ∧ ubEn (7 + 2 ^ 16) = true
    ∧ s_MemoryTier_2.insideFence 0 0 5 = true ∧ s_MemoryTier_2.blockHeld 0 5 = false ∧ ubWe (7 + 2 ^ 16) = false
    ∧ s_MemoryTier_2.memWord 0 (s_MemoryTier_2.physOf 0 5) (ubAddr (7 + 2 ^ 16) % 2 ^ 13) = some (eccEncode 0x123456789ABCDEF0)
    ∧ (eccDecode (eccEncode 0x123456789ABCDEF0)).kind = .clean := by decide +kernel
/-- A state for haulMemoryAccess. -/
def s_MemoryTier_3 : State := (host.setMemReqs 63 [⟨mkHeader 0x01033FFFFFF8 (memPortId 63) 5 9 0 7 0 opWrite 0 0, [(2 ^ 512 - 1, false)], 0, [], false, none⟩])
theorem wit_MemoryTier_3 : 63 < 64 ∧ 1023 < 1024 ∧ s_MemoryTier_3.floorReset = 0
    ∧ s_MemoryTier_3.powered (dMem (benchCol 63)) = true ∧ s_MemoryTier_3.blockHeld 63 1023 = false
    ∧ s_MemoryTier_3.memTurn 63 1023 = some ((⟨mkHeader 0x01033FFFFFF8 (memPortId 63) 5 9 0 7 0 opWrite 0 0, [(2 ^ 512 - 1, false)], 0, [], false, none⟩) : MemReq)
    ∧ wbFirst (s_MemoryTier_3.blk 63 (s_MemoryTier_3.physOf 63 1023)) (s_MemoryTier_3.haulPort 63 1023) false = false
    ∧ hOp ((⟨mkHeader 0x01033FFFFFF8 (memPortId 63) 5 9 0 7 0 opWrite 0 0, [(2 ^ 512 - 1, false)], 0, [], false, none⟩) : MemReq).hdr ≠ opRead
    ∧ rangeBe (hAddr ((⟨mkHeader 0x01033FFFFFF8 (memPortId 63) 5 9 0 7 0 opWrite 0 0, [(2 ^ 512 - 1, false)], 0, [], false, none⟩) : MemReq).hdr) (hLen ((⟨mkHeader 0x01033FFFFFF8 (memPortId 63) 5 9 0 7 0 opWrite 0 0, [(2 ^ 512 - 1, false)], 0, [], false, none⟩) : MemReq).hdr) ((⟨mkHeader 0x01033FFFFFF8 (memPortId 63) 5 9 0 7 0 opWrite 0 0, [(2 ^ 512 - 1, false)], 0, [], false, none⟩) : MemReq).done = 255
    ∧ (((⟨mkHeader 0x01033FFFFFF8 (memPortId 63) 5 9 0 7 0 opWrite 0 0, [(2 ^ 512 - 1, false)], 0, [], false, none⟩) : MemReq).flits.getD ((hAddr ((⟨mkHeader 0x01033FFFFFF8 (memPortId 63) 5 9 0 7 0 opWrite 0 0, [(2 ^ 512 - 1, false)], 0, [], false, none⟩) : MemReq).hdr / 8 + ((⟨mkHeader 0x01033FFFFFF8 (memPortId 63) 5 9 0 7 0 opWrite 0 0, [(2 ^ 512 - 1, false)], 0, [], false, none⟩) : MemReq).done) / 8 - hAddr ((⟨mkHeader 0x01033FFFFFF8 (memPortId 63) 5 9 0 7 0 opWrite 0 0, [(2 ^ 512 - 1, false)], 0, [], false, none⟩) : MemReq).hdr / 64) (0, false)).2 = false := by decide +kernel
/-- A state for haulMemoryAccess. -/
def s_MemoryTier_4 : State := (host.setMemReqs 63 [⟨mkHeader 0x01033FFFFFF0 (memPortId 63) 5 9 0 15 0 opRead 0 0, [], 0, [], false, none⟩])
theorem wit_MemoryTier_4 : 63 < 64 ∧ 1023 < 1024 ∧ s_MemoryTier_4.floorReset = 0
    ∧ s_MemoryTier_4.powered (dMem (benchCol 63)) = true ∧ s_MemoryTier_4.blockHeld 63 1023 = false
    ∧ s_MemoryTier_4.memTurn 63 1023 = some ((⟨mkHeader 0x01033FFFFFF0 (memPortId 63) 5 9 0 15 0 opRead 0 0, [], 0, [], false, none⟩) : MemReq)
    ∧ wbFirst (s_MemoryTier_4.blk 63 (s_MemoryTier_4.physOf 63 1023)) (s_MemoryTier_4.haulPort 63 1023) false = false
    ∧ hOp ((⟨mkHeader 0x01033FFFFFF0 (memPortId 63) 5 9 0 15 0 opRead 0 0, [], 0, [], false, none⟩) : MemReq).hdr = opRead
    ∧ ((⟨mkHeader 0x01033FFFFFF0 (memPortId 63) 5 9 0 15 0 opRead 0 0, [], 0, [], false, none⟩) : MemReq).done + 1 < dataItems (hAddr ((⟨mkHeader 0x01033FFFFFF0 (memPortId 63) 5 9 0 15 0 opRead 0 0, [], 0, [], false, none⟩) : MemReq).hdr) (hLen ((⟨mkHeader 0x01033FFFFFF0 (memPortId 63) 5 9 0 15 0 opRead 0 0, [], 0, [], false, none⟩) : MemReq).hdr) := by decide +kernel
/-- A state for haulMemoryAccess. -/
def s_MemoryTier_5 : State := (host.setBlk 63 1023 { copying := true })
theorem wit_MemoryTier_5 : 
   (mkHeader 0x01033FFFFFF8 (memPortId 63) 5 9 0 7 0 opWrite 0 0) = headerOf (bitsOf (mkHeader 0x01033FFFFFF8 (memPortId 63) 5 9 0 7 0 opWrite 0 0) 0 64) (bitsOf (mkHeader 0x01033FFFFFF8 (memPortId 63) 5 9 0 7 0 opWrite 0 0) 64 64) (bitsOf (mkHeader 0x01033FFFFFF8 (memPortId 63) 5 9 0 7 0 opWrite 0 0) 128 64)
    ∧ 63 < 64 ∧ s_MemoryTier_5.floorReset = 0 ∧ s_MemoryTier_5.powered (dMem (benchCol 63)) = true
    ∧ s_MemoryTier_5.blockHeld 63 1023 = true
    ∧ opMatchesClass (hOp (mkHeader 0x01033FFFFFF8 (memPortId 63) 5 9 0 7 0 opWrite 0 0)) (hClass (mkHeader 0x01033FFFFFF8 (memPortId 63) 5 9 0 7 0 opWrite 0 0)) = true
    ∧ hClass (mkHeader 0x01033FFFFFF8 (memPortId 63) 5 9 0 7 0 opWrite 0 0) ≠ clsRsp
    ∧ s_MemoryTier_5.haulTarget (hAddr (mkHeader 0x01033FFFFFF8 (memPortId 63) 5 9 0 7 0 opWrite 0 0)) = .mem 63 0x3FFFFF8
    ∧ s_MemoryTier_5.haulTarget (hAddr (mkHeader 0x01033FFFFFF8 (memPortId 63) 5 9 0 7 0 opWrite 0 0) + hLen (mkHeader 0x01033FFFFFF8 (memPortId 63) 5 9 0 7 0 opWrite 0 0)) = .mem 63 0x3FFFFFF
    ∧ packetFlits (hOp (mkHeader 0x01033FFFFFF8 (memPortId 63) 5 9 0 7 0 opWrite 0 0)) (hAddr (mkHeader 0x01033FFFFFF8 (memPortId 63) 5 9 0 7 0 opWrite 0 0)) (hLen (mkHeader 0x01033FFFFFF8 (memPortId 63) 5 9 0 7 0 opWrite 0 0)) 0 ≤ ([(1,false)] : List (Nat × Bool)).length := by decide +kernel
/-- A state for correctionWriteBack. -/
def s_MemoryTier_6 : State := (host.setBlk 0 5 { wbB := [⟨[(8191, 77)], 2⟩] })
theorem wit_MemoryTier_6 : 5 < 1024 ∧ s_MemoryTier_6.powered (dMem (benchCol 0)) = true
    ∧ dueWb (ageWb (s_MemoryTier_6.blk 0 (s_MemoryTier_6.physOf 0 5)) 1) 1 false = some (⟨[(8191, 77)], 3⟩ : WbItem)
    ∧ (⟨[(8191, 77)], 3⟩ : WbItem).words = [(8191, 77)] := by decide +kernel
/-- A state for patrolStep. -/
def s_MemoryTier_7 : State := { host with time := 10300000 }
theorem wit_MemoryTier_7 : s_MemoryTier_7.flag F.MEMT_PATROL_CTL_EN 0 = true
    ∧ s_MemoryTier_7.powered (dMem (benchCol 63)) = true ∧ s_MemoryTier_7.patrolDue 63 0 = true
    ∧ s_MemoryTier_7.patrolTurn 63 (s_MemoryTier_7.patrolBlock 63) = true := by decide +kernel
/-- A state for patrolStep. -/
def s_MemoryTier_7b : State := ({ host with time := 10300000, memt := { patrol := [(0, 8388607)] } })
theorem wit_MemoryTier_7b : s_MemoryTier_7b.flag F.MEMT_PATROL_CTL_EN 0 = true
    ∧ s_MemoryTier_7b.powered (dMem (benchCol 0)) = true ∧ s_MemoryTier_7b.patrolDue 0 0 = true
    ∧ s_MemoryTier_7b.patrolTurn 0 (s_MemoryTier_7b.patrolBlock 0) = true := by decide +kernel
/-- A state for patrolForcedCycle. -/
def s_MemoryTier_8 : State := ({ host with time := 11300000 })
theorem wit_MemoryTier_8 : s_MemoryTier_8.flag F.MEMT_PATROL_CTL_EN 0 = true
    ∧ s_MemoryTier_8.powered (dMem (benchCol 63)) = true ∧ s_MemoryTier_8.patrolDue 63 1000000 = true := by decide +kernel
/-- A state for patrolForcedCycle. -/
def s_MemoryTier_8b : State := ({ (ported.setRunBits 0 0 31789 110 10 0x300) with time := 11300000, memt := { patrol := [(0, 8192 * 5)] } })
theorem wit_MemoryTier_8b : s_MemoryTier_8b.flag F.MEMT_PATROL_CTL_EN 0 = true
    ∧ s_MemoryTier_8b.powered (dMem (benchCol 0)) = true ∧ s_MemoryTier_8b.patrolDue 0 1000000 = true := by decide +kernel
/-- A state for blockRetireDone. -/
def s_MemoryTier_9 : State := (host.setBlk 63 1023 { copying := true })
theorem wit_MemoryTier_9 : (s_MemoryTier_9.blk 63 1023).copying = true := by decide +kernel
/-- A state for memtInvStart. -/
def s_MemoryTier_10 : State := host
theorem wit_MemoryTier_10 : s_MemoryTier_10.mayWrite (.fw : Src) .MEMT_INV s_MemoryTier_10.memtBench = true
    ∧ fldOf F.MEMT_INV_START ((BitVec.ofNat 32 (2 ^ 31 + 23 * 2 ^ 14 + 1000)) : Word) = 1 := by decide +kernel
/-- A state for memtInvStart. -/
def s_MemoryTier_10b : State := (host.set F.MEMT_INV_ACTIVE 0 1)
theorem wit_MemoryTier_10b : 
   s_MemoryTier_10b.mayWrite ((.pf 0) : Src) .MEMT_INV s_MemoryTier_10b.memtBench = true
    ∧ fldOf F.MEMT_INV_START ((BitVec.ofNat 32 (2 ^ 31 + 24 * 2 ^ 14 + 1000)) : Word) = 1 := by decide +kernel
/-- A state for bulkInvalidateDone. -/
def s_MemoryTier_11 : State := ({ host with memt := { inv := [(3, some (7, 2))], words := [(8192 * (1040 * 3 + 8), some 5)] } })
theorem wit_MemoryTier_11 : 
   (mapGet (fun _ => none) s_MemoryTier_11.memt.inv 3 : Option (Nat × Nat)) = some (7, 2) := by decide +kernel
/-- A state for memtFlipArm. -/
def s_MemoryTier_12 : State := (host.set F.MEMT_FLIP_0_MASK_LO 0 3)
theorem wit_MemoryTier_12 : s_MemoryTier_12.mayWrite ((.pf 1) : Src) .MEMT_FLIP_2 0 = true
    ∧ fldOf F.MEMT_FLIP_2_ARM (0x1FF : Word) = 1 ∧ s_MemoryTier_12.get F.MEMT_SEL_BLOCK 0 < 1040
    ∧ fldOf F.MEMT_FLIP_2_MASK_HI (0x1FF : Word) ≠ 0 := by decide +kernel

/-! ### Hoppers -/

/-- A state for hopperWrite. -/
def s_Hoppers_1 : State := (hopped {})
theorem wit_Hoppers_1 : 63 < 64 ∧ 30 < 32 ∧ s_Hoppers_1.benchUp 63 = true
    ∧ s_Hoppers_1.hopSlave (32 * 63 + 30) = false ∧ s_Hoppers_1.get F.HOP_CFG_WR_SRC (32 * 63 + 30) < 4
    ∧ s_Hoppers_1.hopFabric (32 * 63 + 30) = some true ∧ s_Hoppers_1.flag F.HOP_CFG_PKT (32 * 63 + 30) = false
    ∧ (s_Hoppers_1.hop (32 * 63 + 30)).flushW = false ∧ (s_Hoppers_1.hop (32 * 63 + 30)).discard = false := by decide +kernel
/-- A state for hopperWrite. -/
def s_Hoppers_1b : State := ((hopped { wr := 16 }).set F.HOP_CFG_WR_RAW 2046 1)
theorem wit_Hoppers_1b : 63 < 64 ∧ 30 < 32 ∧ s_Hoppers_1b.benchUp 63 = true
    ∧ s_Hoppers_1b.hopSlave (32 * 63 + 30) = false ∧ s_Hoppers_1b.get F.HOP_CFG_WR_SRC (32 * 63 + 30) < 4
    ∧ s_Hoppers_1b.hopFabric (32 * 63 + 30) = some true ∧ s_Hoppers_1b.flag F.HOP_CFG_PKT (32 * 63 + 30) = false
    ∧ (s_Hoppers_1b.hop (32 * 63 + 30)).flushW = false ∧ (s_Hoppers_1b.hop (32 * 63 + 30)).discard = false := by decide +kernel
/-- A state for hopperWrite. -/
def s_Hoppers_2 : State := ((hopped { wr := 14 }).set F.HOP_CFG_PKT 2046 1)
theorem wit_Hoppers_2 : 63 < 64 ∧ 30 < 32 ∧ s_Hoppers_2.benchUp 63 = true
    ∧ s_Hoppers_2.hopSlave (32 * 63 + 30) = false ∧ s_Hoppers_2.get F.HOP_CFG_WR_SRC (32 * 63 + 30) < 4
    ∧ s_Hoppers_2.hopFabric (32 * 63 + 30) = some true ∧ s_Hoppers_2.flag F.HOP_CFG_PKT (32 * 63 + 30) = true
    ∧ (s_Hoppers_2.hop (32 * 63 + 30)).flushW = false ∧ (s_Hoppers_2.hop (32 * 63 + 30)).discard = false
    ∧ (s_Hoppers_2.hop (32 * 63 + 30)).wopen = none
    ∧ wcount (s_Hoppers_2.hop (32 * 63 + 30)) + 2 ≤ s_Hoppers_2.hopCap (32 * 63 + 30) := by decide +kernel
/-- A state for hopperRead. -/
def s_Hoppers_3 : State := (hopped { wr := 3, pubSeen := 3, rd := 1, slots := [.data 7, .data 8] })
theorem wit_Hoppers_3 : 63 < 64 ∧ 30 < 32 ∧ s_Hoppers_3.benchUp 63 = true
    ∧ s_Hoppers_3.hopSlave (32 * 63 + 30) = false ∧ s_Hoppers_3.get F.HOP_CFG_RD_SRC (32 * 63 + 30) < 4
    ∧ s_Hoppers_3.hopFabric (32 * 63 + 30) = some true ∧ (s_Hoppers_3.hop (32 * 63 + 30)).flushR = false
    ∧ (s_Hoppers_3.hop (32 * 63 + 30)).cutEnd = false ∧ rcount (s_Hoppers_3.hop (32 * 63 + 30)) ≠ 0
    ∧ (s_Hoppers_3.hop (32 * 63 + 30)).slots = .data 7 :: ([.data 8] : List HopSlot) := by decide +kernel
/-- A state for hopperRead. -/
def s_Hoppers_4 : State := (onl 63 0 host)
theorem wit_Hoppers_4 : 63 < 64 ∧ 31 < 32 ∧ s_Hoppers_4.benchUp 63 = true
    ∧ s_Hoppers_4.hopSlave (32 * 63 + 31) = false ∧ s_Hoppers_4.get F.HOP_CFG_RD_SRC (32 * 63 + 31) < 4
    ∧ s_Hoppers_4.hopFabric (32 * 63 + 31) = some false ∧ (s_Hoppers_4.hop (32 * 63 + 31)).fenced = false := by decide +kernel
/-- A state for hopperRead. -/
def s_Hoppers_4b : State := ((onl 63 0 host).set F.HOP_CFG_RD_RAW 2047 1)
theorem wit_Hoppers_4b : 63 < 64 ∧ 31 < 32 ∧ s_Hoppers_4b.benchUp 63 = true
    ∧ s_Hoppers_4b.hopSlave (32 * 63 + 31) = false ∧ s_Hoppers_4b.get F.HOP_CFG_RD_SRC (32 * 63 + 31) < 4
    ∧ s_Hoppers_4b.hopFabric (32 * 63 + 31) = some false ∧ (s_Hoppers_4b.hop (32 * 63 + 31)).fenced = false := by decide +kernel
/-- A state for hopperPointerSync. -/
def s_Hoppers_5 : State := (hopped { pubFly := [1, 2] })
theorem wit_Hoppers_5 : 63 < 64 ∧ 30 < 32 ∧ s_Hoppers_5.benchUp 63 = true
    ∧ (s_Hoppers_5.hop (32 * 63 + 30)).pubFly = 1 :: ([2] : List Nat)
    ∧ (s_Hoppers_5.hop (32 * 63 + 30)).flushP = false := by decide +kernel
/-- A state for hopCfgWrite. -/
def s_Hoppers_6 : State := host
theorem wit_Hoppers_6 : 31 < 32 ∧ s_Hoppers_6.mayWrite (.fw : Src) .HOP_CFG (32 * 63 + 31) = true := by decide +kernel
/-- A state for hopCfgWrite. -/
def s_Hoppers_6b : State := host
theorem wit_Hoppers_6b : 31 < 32 ∧ s_Hoppers_6b.mayWrite (.fw : Src) .HOP_CFG (32 * 63 + 31) = true := by decide +kernel
/-- A state for hopperFlush. -/
def s_Hoppers_7 : State := host
theorem wit_Hoppers_7 : 31 < 32 ∧ s_Hoppers_7.mayWrite (.fw : Src) .HOP_CTL (32 * 63 + 31) = true
    ∧ fldOf F.HOP_CTL_FLUSH (0xFFFFFFFF : Word) = 1 ∧ s_Hoppers_7.hopSlave (32 * 63 + 31) = false := by decide +kernel
/-- A state for hopperFlushApply. -/
def s_Hoppers_8 : State := (hopped { flushR := true, flushW := true, wr := 5, slots := [.data 4] })
theorem wit_Hoppers_8 : 63 < 64 ∧ 30 < 32 ∧ s_Hoppers_8.benchUp 63 = true := by decide +kernel
/-- A state for hopperFlushApply. -/
def s_Hoppers_8b : State := (hopped { flushR := true, flushW := true, wr := 5, slots := [.data 4] })
theorem wit_Hoppers_8b : 63 < 64 ∧ 30 < 32 ∧ s_Hoppers_8b.benchUp 63 = true := by decide +kernel
/-- A state for hopperTailTimeout. -/
def s_Hoppers_9 : State := ((hopped { pubSeen := 1, tail := 2 ^ 31 }).set F.HOP_TAIL_TAIL_EXP 2046 31)
theorem wit_Hoppers_9 : 63 < 64 ∧ 30 < 32 ∧ s_Hoppers_9.benchUp 63 = true
    ∧ s_Hoppers_9.hopSlave (32 * 63 + 30) = false ∧ s_Hoppers_9.get F.HOP_TAIL_TAIL_EXP (32 * 63 + 30) ≠ 0
    ∧ rcount (s_Hoppers_9.hop (32 * 63 + 30)) ≠ 0 ∧ (s_Hoppers_9.hop (32 * 63 + 30)).tailed = false
    ∧ (s_Hoppers_9.get F.HOP_CFG_RD_SRC (32 * 63 + 30) ≥ 4 ∨ s_Hoppers_9.hopFabric (32 * 63 + 30) = some true)
    ∧ (s_Hoppers_9.get F.HOP_CFG_RD_SRC (32 * 63 + 30) = 6 ∨ 2 ^ s_Hoppers_9.get F.HOP_TAIL_TAIL_EXP (32 * 63 + 30) ≤ (s_Hoppers_9.hop (32 * 63 + 30)).tail) := by decide +kernel
/-- A state for hopOwnerWrite. -/
def s_Hoppers_10 : State := host
theorem wit_Hoppers_10 : 31 < 32 ∧ s_Hoppers_10.mayWrite ((.pf 0) : Src) .HOP_OWNER (32 * 63 + 31) = true := by decide +kernel

/-! ### PlaneSwitching -/

/-- A state for planeSelSwitch. -/
def s_PlaneSwitching_1 : State := host
theorem wit_PlaneSwitching_1 : s_PlaneSwitching_1.mayWrite (.fw : Src) .BENCH_PLANE_SEL 63 = true
    ∧ fldOf F.BENCH_PLANE_SEL_CMD (7 : Word) = 0
    ∧ (s_PlaneSwitching_1.inGang 63 = false ∨ s_PlaneSwitching_1.flag F.BENCH_GANG_STAT_IS_LEADER 63 = true) := by decide +kernel
/-- A state for planeSelSwitch. -/
def s_PlaneSwitching_1b : State := (host.set F.BENCH_PLANE_SEL_PENDING 63 1)
theorem wit_PlaneSwitching_1b : s_PlaneSwitching_1b.mayWrite ((.pf 0) : Src) .BENCH_PLANE_SEL 63 = true
    ∧ fldOf F.BENCH_PLANE_SEL_CMD (7 : Word) = 0
    ∧ (s_PlaneSwitching_1b.inGang 63 = false ∨ s_PlaneSwitching_1b.flag F.BENCH_GANG_STAT_IS_LEADER 63 = true) := by decide +kernel
/-- A state for planeSelOnline. -/
def s_PlaneSwitching_2 : State := host
theorem wit_PlaneSwitching_2 : s_PlaneSwitching_2.mayWrite (.fw : Src) .BENCH_PLANE_SEL 63 = true
    ∧ fldOf F.BENCH_PLANE_SEL_CMD ((BitVec.ofNat 32 (putBits 7 F.BENCH_PLANE_SEL_CMD.lo 2 1)) : Word) = 1
    ∧ (s_PlaneSwitching_2.inGang 63 = false ∨ s_PlaneSwitching_2.flag F.BENCH_GANG_STAT_IS_LEADER 63 = true)
    ∧ s_PlaneSwitching_2.flag F.BENCH_PLANE_SEL_PENDING 63 = false := by decide +kernel
/-- A state for planeSelOffline. -/
def s_PlaneSwitching_3 : State := host
theorem wit_PlaneSwitching_3 : s_PlaneSwitching_3.mayWrite (.fw : Src) .BENCH_PLANE_SEL 63 = true
    ∧ fldOf F.BENCH_PLANE_SEL_CMD ((BitVec.ofNat 32 (putBits 7 F.BENCH_PLANE_SEL_CMD.lo 2 2)) : Word) = 2
    ∧ (s_PlaneSwitching_3.inGang 63 = false ∨ s_PlaneSwitching_3.flag F.BENCH_GANG_STAT_IS_LEADER 63 = true)
    ∧ s_PlaneSwitching_3.flag F.BENCH_PLANE_SEL_PENDING 63 = false := by decide +kernel
/-- A state for hostRequestPresented. -/
def s_PlaneSwitching_4 : State := (swit (some ⟨.host, .switch, 6, 0⟩))
theorem wit_PlaneSwitching_4 : s_PlaneSwitching_4.benchUp 5 = true ∧ s_PlaneSwitching_4.inGang 5 = false
    ∧ s_PlaneSwitching_4.hostReqOf 5 = [⟨.host, .switch, 6, 0⟩]
    ∧ (mapGet (fun _ => none) s_PlaneSwitching_4.planes.defer 5 : Option PlaneReq) = none
    ∧ mapGet (fun _ => []) s_PlaneSwitching_4.planes.cands (benchCol 5) = []
    ∧ s_PlaneSwitching_4.activePlane 5 = some 1 ∧ 6 < 8
    ∧ s_PlaneSwitching_4.planeCheck 5 ⟨.host, .switch, 6, 0⟩ = some none
    ∧ s_PlaneSwitching_4.staticPaused 5 = false
    ∧ s_PlaneSwitching_4.get F.BENCH_SURGE_CTL_SURGE_MAX (benchCol 5) ≠ 0 := by decide +kernel
/-- A state for hostRequestPresented. -/
def s_PlaneSwitching_5 : State := (swit (some ⟨.host, .offline, 0, 0⟩))
theorem wit_PlaneSwitching_5 : s_PlaneSwitching_5.benchUp 5 = true ∧ s_PlaneSwitching_5.inGang 5 = false
    ∧ s_PlaneSwitching_5.hostReqOf 5 = [⟨.host, .offline, 0, 0⟩]
    ∧ (mapGet (fun _ => none) s_PlaneSwitching_5.planes.defer 5 : Option PlaneReq) = none
    ∧ mapGet (fun _ => []) s_PlaneSwitching_5.planes.cands (benchCol 5) = []
    ∧ s_PlaneSwitching_5.activePlane 5 = some 1 ∧ 1 < 8
    ∧ s_PlaneSwitching_5.planeCheck 5 ⟨.host, .offline, 0, 0⟩ = some none
    ∧ s_PlaneSwitching_5.staticPaused 5 = false
    ∧ s_PlaneSwitching_5.get F.BENCH_SURGE_CTL_SURGE_MAX (benchCol 5) ≠ 0 := by decide +kernel
/-- A state for switchCellRequest. -/
def s_PlaneSwitching_6 : State := (swit none)
theorem wit_PlaneSwitching_6 : s_PlaneSwitching_6.benchUp 5 = true ∧ s_PlaneSwitching_6.inGang 5 = false
    ∧ (mapGet (fun _ => none) s_PlaneSwitching_6.planes.defer 5 : Option PlaneReq) = none
    ∧ mapGet (fun _ => []) s_PlaneSwitching_6.planes.cands (benchCol 5) = []
    ∧ s_PlaneSwitching_6.staticPaused 5 = false
    ∧ s_PlaneSwitching_6.get F.BENCH_SURGE_CTL_SURGE_MAX (benchCol 5) ≠ 0 := by decide +kernel
/-- A state for deferredCandidateRetry. -/
def s_PlaneSwitching_7 : State := ({ swit none with planes := { (swit none).planes with defer := [(5, some ⟨.sched, .switch, 6, 3⟩)] } })
theorem wit_PlaneSwitching_7 : 
   (mapGet (fun _ => none) s_PlaneSwitching_7.planes.defer 5 : Option PlaneReq) = some (⟨.sched, .switch, 6, 3⟩ : PlaneReq)
    ∧ s_PlaneSwitching_7.inGang 5 = false
    ∧ mapGet (fun _ => []) s_PlaneSwitching_7.planes.cands (benchCol 5) = []
    ∧ (⟨.sched, .switch, 6, 3⟩ : PlaneReq).cmd = .switch ∧ (⟨.sched, .switch, 6, 3⟩ : PlaneReq).plane < 8
    ∧ s_PlaneSwitching_7.get F.BENCH_SURGE_CTL_SURGE_MAX (benchCol 5) ≠ 0 := by decide +kernel

/-! ### PlaneSchedule -/

/-- A state for scheduleEnable. -/
def s_PlaneSchedule_1 : State := (onl 63 2 host)
theorem wit_PlaneSchedule_1 : s_PlaneSchedule_1.mayWrite (.fw : Src) .BENCH_SCHED_CTL 63 = true
    ∧ fldOf F.BENCH_SCHED_CTL_EN (0xFFFFFFFF : Word) = 1
    ∧ s_PlaneSchedule_1.flag F.BENCH_SCHED_CTL_EN 63 = false := by decide +kernel
/-- A state for scheduleEnable. -/
def s_PlaneSchedule_1b : State := host
theorem wit_PlaneSchedule_1b : s_PlaneSchedule_1b.mayWrite ((.pf 0) : Src) .BENCH_SCHED_CTL 63 = true
    ∧ fldOf F.BENCH_SCHED_CTL_EN (0xFFFFFFFF : Word) = 1
    ∧ s_PlaneSchedule_1b.flag F.BENCH_SCHED_CTL_EN 63 = false := by decide +kernel
/-- A state for schedQuantWrite. -/
def s_PlaneSchedule_2 : State := host
theorem wit_PlaneSchedule_2 : s_PlaneSchedule_2.mayWrite (.fw : Src) .BENCH_SCHED_QUANT 63 = true := by decide +kernel
/-- A state for schedQuantWrite. -/
def s_PlaneSchedule_2b : State := host
theorem wit_PlaneSchedule_2b : s_PlaneSchedule_2b.mayWrite (.fw : Src) .BENCH_SCHED_QUANT 63 = true := by decide +kernel
/-- A state for scheduleExpiry. -/
def s_PlaneSchedule_3 : State := ({ host with planes := { host.planes with expiry := [(63, some 0)] } })
theorem wit_PlaneSchedule_3 : (mapGet (fun _ => none) s_PlaneSchedule_3.planes.expiry 63 : Option Nat) = some 0
    ∧ 0 ≤ s_PlaneSchedule_3.time := by decide +kernel
/-- A state for scheduleRequestPresented. -/
def s_PlaneSchedule_4 : State := ((({ swit none with planes := { (swit none).planes with schedDue := [(5, true)] } }).set F.BENCH_SCHED_LIST_LIST 5 (1 + 8 * 6)).set F.BENCH_SCHED_CTL_EN 5 1 |>.set F.BENCH_SCHED_CTL_LEN_M1 5 1)
theorem wit_PlaneSchedule_4 : s_PlaneSchedule_4.benchUp 5 = true ∧ s_PlaneSchedule_4.inGang 5 = false
    ∧ (mapGet (fun _ => none) s_PlaneSchedule_4.planes.defer 5 : Option PlaneReq) = none
    ∧ mapGet (fun _ => []) s_PlaneSchedule_4.planes.cands (benchCol 5) = [] ∧ s_PlaneSchedule_4.online 5 = true
    ∧ mapGet (fun _ => false) s_PlaneSchedule_4.planes.schedDue 5 = true
    ∧ s_PlaneSchedule_4.flag F.BENCH_SCHED_CTL_EN 5 = true
    ∧ 1 = (s_PlaneSchedule_4.get F.BENCH_SCHED_CTL_IDX 5 + 1) % (s_PlaneSchedule_4.get F.BENCH_SCHED_CTL_LEN_M1 5 + 1)
    ∧ s_PlaneSchedule_4.planeCheck 5 ⟨.sched, .switch, bitsOf (s_PlaneSchedule_4.get F.BENCH_SCHED_LIST_LIST 5) (3 * 1) 3, 0⟩ = some none
    ∧ s_PlaneSchedule_4.staticPaused 5 = false
    ∧ s_PlaneSchedule_4.get F.BENCH_SURGE_CTL_SURGE_MAX (benchCol 5) ≠ 0 := by decide +kernel
/-- A state for benchClksrcWrite. -/
def s_PlaneSchedule_5 : State := host
theorem wit_PlaneSchedule_5 : 7 < 8 ∧ s_PlaneSchedule_5.mayWrite (.fw : Src) .BENCH_CLKSRC (8 * 63 + 7) = true := by decide +kernel
/-- A state for benchClksrcWrite. -/
def s_PlaneSchedule_5b : State := host
theorem wit_PlaneSchedule_5b : 7 < 8 ∧ s_PlaneSchedule_5b.mayWrite (.fw : Src) .BENCH_CLKSRC (8 * 63 + 7) = true := by decide +kernel
/-- A state for surgeCtlWrite. -/
def s_PlaneSchedule_6 : State := host
theorem wit_PlaneSchedule_6 : s_PlaneSchedule_6.mayWrite (.fw : Src) .BENCH_SURGE_CTL 3 = true := by decide +kernel
/-- A state for surgeCtlWrite. -/
def s_PlaneSchedule_6b : State := host
theorem wit_PlaneSchedule_6b : s_PlaneSchedule_6b.mayWrite ((.pf 1) : Src) .BENCH_SURGE_CTL 3 = true := by decide +kernel

/-! ### ContextEngine -/

/-- A state for ctxStage. -/
def s_ContextEngine_1 : State := (acq [63] host)
theorem wit_ContextEngine_1 : s_ContextEngine_1.mayWrite (.fw : Src) .CTX_CMD 63 = true
    ∧ fldOf F.CTX_CMD_GO ((BitVec.ofNat 32 (2 ^ F.CTX_CMD_GO.lo + 3)) : Word) = 1
    ∧ fldOf F.CTX_CMD_OP ((BitVec.ofNat 32 (2 ^ F.CTX_CMD_GO.lo + 3)) : Word) = 0 := by decide +kernel
/-- A state for ctxStage. -/
def s_ContextEngine_1b : State := (host.set F.CTX_STAT_BUSY 63 1)
theorem wit_ContextEngine_1b : s_ContextEngine_1b.mayWrite ((.pf 0) : Src) .CTX_CMD 63 = true
    ∧ fldOf F.CTX_CMD_GO ((BitVec.ofNat 32 (2 ^ F.CTX_CMD_GO.lo + 3)) : Word) = 1
    ∧ fldOf F.CTX_CMD_OP ((BitVec.ofNat 32 (2 ^ F.CTX_CMD_GO.lo + 3)) : Word) = 0 := by decide +kernel
/-- A state for ctxPage. -/
def s_ContextEngine_2 : State := (acq [63] host)
theorem wit_ContextEngine_2 : s_ContextEngine_2.mayWrite (.fw : Src) .CTX_CMD 63 = true
    ∧ fldOf F.CTX_CMD_GO ((BitVec.ofNat 32 (2 ^ F.CTX_CMD_GO.lo + 2 ^ F.CTX_CMD_OP.lo + 3)) : Word) = 1
    ∧ fldOf F.CTX_CMD_OP ((BitVec.ofNat 32 (2 ^ F.CTX_CMD_GO.lo + 2 ^ F.CTX_CMD_OP.lo + 3)) : Word) = 1 := by decide +kernel
/-- A state for ctxPageFree. -/
def s_ContextEngine_3 : State := (acq [63] host)
theorem wit_ContextEngine_3 : s_ContextEngine_3.mayWrite (.fw : Src) .CTX_CMD 63 = true
    ∧ fldOf F.CTX_CMD_GO ((BitVec.ofNat 32 (2 ^ F.CTX_CMD_GO.lo + 2 * 2 ^ F.CTX_CMD_OP.lo + 3)) : Word) = 1
    ∧ fldOf F.CTX_CMD_OP ((BitVec.ofNat 32 (2 ^ F.CTX_CMD_GO.lo + 2 * 2 ^ F.CTX_CMD_OP.lo + 3)) : Word) = 2 := by decide +kernel
/-- A state for ctxAbort. -/
def s_ContextEngine_4 : State := (host.setCtxRun 63 (some { op := 1, plane := 7, slot := 1023, src := none }))
theorem wit_ContextEngine_4 : s_ContextEngine_4.mayWrite (.fw : Src) .CTX_CMD 63 = true
    ∧ fldOf F.CTX_CMD_GO ((BitVec.ofNat 32 (2 ^ F.CTX_CMD_ABORT.lo)) : Word) = 0
    ∧ fldOf F.CTX_CMD_ABORT ((BitVec.ofNat 32 (2 ^ F.CTX_CMD_ABORT.lo)) : Word) = 1
    ∧ s_ContextEngine_4.ctxRun 63 = some ({ op := 1, plane := 7, slot := 1023, src := none } : CtxRun) := by decide +kernel
/-- A state for ctxCopyFrame. -/
def s_ContextEngine_5 : State := ((((host.setCtxRun 5 (some { op := 0, plane := 7, slot := 1023, src := none })).set F.CTX_STAT_PHASE 5 2).set F.CTX_STAT_FRAMES 5 9).setSlotSt 1023 2 |>.setSlotData 1023 9 77)
theorem wit_ContextEngine_5 : 
   s_ContextEngine_5.ctxRun 5 = some ({ op := 0, plane := 7, slot := 1023, src := none } : CtxRun)
    ∧ ({ op := 0, plane := 7, slot := 1023, src := none } : CtxRun).abort = false
    ∧ s_ContextEngine_5.get F.CTX_STAT_PHASE 5 ≠ 0 ∧ 9 = s_ContextEngine_5.get F.CTX_STAT_FRAMES 5 ∧ 0 < 9
    ∧ 9 < ffRun := by decide +kernel
/-- A state for ctxCopyFrame. -/
def s_ContextEngine_5b : State := (((host.setCtxRun 5 (some { op := 1, plane := 7, slot := 1023, src := none })).set F.CTX_STAT_PHASE 5 2).set F.CTX_STAT_FRAMES 5 9 |>.setPlaneFrame 5 7 9 77)
theorem wit_ContextEngine_5b : 
   s_ContextEngine_5b.ctxRun 5 = some ({ op := 1, plane := 7, slot := 1023, src := none } : CtxRun)
    ∧ ({ op := 1, plane := 7, slot := 1023, src := none } : CtxRun).abort = false
    ∧ s_ContextEngine_5b.get F.CTX_STAT_PHASE 5 ≠ 0 ∧ 9 = s_ContextEngine_5b.get F.CTX_STAT_FRAMES 5 ∧ 0 < 9
    ∧ 9 < ffRun := by decide +kernel
/-- A state for ctxStageCommit. -/
def s_ContextEngine_6 : State := (((host.setCtxRun 5 (some { op := 0, plane := 7, slot := 1023, src := none })).set F.CTX_STAT_PHASE 5 2).set F.CTX_STAT_FRAMES 5 32341)
theorem wit_ContextEngine_6 : 
   s_ContextEngine_6.ctxRun 5 = some ({ op := 0, plane := 7, slot := 1023, src := none } : CtxRun)
    ∧ ({ op := 0, plane := 7, slot := 1023, src := none } : CtxRun).op = 0
    ∧ ({ op := 0, plane := 7, slot := 1023, src := none } : CtxRun).plane < 8
    ∧ ({ op := 0, plane := 7, slot := 1023, src := none } : CtxRun).slot < 1024
    ∧ s_ContextEngine_6.get F.CTX_STAT_PHASE 5 ≠ 0 ∧ s_ContextEngine_6.get F.CTX_STAT_FRAMES 5 = slotFrames := by decide +kernel
/-- A state for ctxPageCommit. -/
def s_ContextEngine_7 : State := (((host.setCtxRun 5 (some { op := 1, plane := 7, slot := 1023, src := none })).set F.CTX_STAT_PHASE 5 2).set F.CTX_STAT_FRAMES 5 32341)
theorem wit_ContextEngine_7 : 
   s_ContextEngine_7.ctxRun 5 = some ({ op := 1, plane := 7, slot := 1023, src := none } : CtxRun)
    ∧ ({ op := 1, plane := 7, slot := 1023, src := none } : CtxRun).op ≠ 0
    ∧ ({ op := 1, plane := 7, slot := 1023, src := none } : CtxRun).plane < 8
    ∧ ({ op := 1, plane := 7, slot := 1023, src := none } : CtxRun).slot < 1024
    ∧ s_ContextEngine_7.get F.CTX_STAT_PHASE 5 ≠ 0 ∧ s_ContextEngine_7.get F.CTX_STAT_FRAMES 5 = slotFrames := by decide +kernel
/-- A state for ctxPageCommit. -/
def s_ContextEngine_7b : State := (((host.setCtxRun 5 (some { op := 2, plane := 7, slot := 1023, src := none })).set F.CTX_STAT_PHASE 5 2).set F.CTX_STAT_FRAMES 5 32341)
theorem wit_ContextEngine_7b : 
   s_ContextEngine_7b.ctxRun 5 = some ({ op := 2, plane := 7, slot := 1023, src := none } : CtxRun)
    ∧ ({ op := 2, plane := 7, slot := 1023, src := none } : CtxRun).op ≠ 0
    ∧ ({ op := 2, plane := 7, slot := 1023, src := none } : CtxRun).plane < 8
    ∧ ({ op := 2, plane := 7, slot := 1023, src := none } : CtxRun).slot < 1024
    ∧ s_ContextEngine_7b.get F.CTX_STAT_PHASE 5 ≠ 0 ∧ s_ContextEngine_7b.get F.CTX_STAT_FRAMES 5 = slotFrames := by decide +kernel

/-! ### ContextSlots -/

/-- A state for ctxSlotRelease. -/
def s_ContextSlots_1 : State := ((host.set F.CTX_SLOT_SEL_SLOT 3 1023).setSlotSt 4095 2)
theorem wit_ContextSlots_1 : 
   s_ContextSlots_1.mayWrite (.fw : Src) .CTX_SLOT_CTL (s_ContextSlots_1.selSlot 3) = true
    ∧ fldOf F.CTX_SLOT_CTL_RELEASE (0xFFFFFFFF : Word) = 1 := by decide +kernel
/-- A state for ctxSlotRelease. -/
def s_ContextSlots_1b : State := ((host.set F.CTX_SLOT_SEL_SLOT 3 1023).setSlotSt 4095 1)
theorem wit_ContextSlots_1b : 
   s_ContextSlots_1b.mayWrite ((.pf 0) : Src) .CTX_SLOT_CTL (s_ContextSlots_1b.selSlot 3) = true
    ∧ fldOf F.CTX_SLOT_CTL_RELEASE (0xFFFFFFFF : Word) = 1 := by decide +kernel
/-- A state for ctxSlotOwnerWrite. -/
def s_ContextSlots_2 : State := ((host.set F.CTX_SLOT_SEL_SLOT 3 1023).setSlotSt 4095 2)
theorem wit_ContextSlots_2 : 
   s_ContextSlots_2.mayWrite (.fw : Src) .CTX_SLOT_OWNER (s_ContextSlots_2.selSlot 3) = true
    ∧ s_ContextSlots_2.slotClaimed (s_ContextSlots_2.selSlot 3) = false := by decide +kernel
/-- A state for slotCopyDone. -/
def s_ContextSlots_3 : State := ({ host.setSlotSt 4095 2 with slots := { copies := [⟨4095, 0, false⟩], words := [(4095 * 32341 + 6, slotEncode 9)] } })
theorem wit_ContextSlots_3 : (s_ContextSlots_3.slots.copies.any fun x => x.from_ == 4095 && x.to_ == 0) = true
    ∧ 4095 ≠ 0 := by decide +kernel
/-- A state for slotCopyDone. -/
def s_ContextSlots_3b : State := ({ host with slots := { copies := [⟨4095, 0, false⟩] } })
theorem wit_ContextSlots_3b : (s_ContextSlots_3b.slots.copies.any fun x => x.from_ == 4095 && x.to_ == 0) = true
    ∧ 4095 ≠ 0 := by decide +kernel
/-- A state for bulkStoreRefresh. -/
def s_ContextSlots_4 : State := (host.set F.THM_COL_BAND 3 4)
theorem wit_ContextSlots_4 : 3 < 4 ∧ s_ContextSlots_4.powered (dCfg 3) = true := by decide +kernel
/-- A state for slotPatrolStep. -/
def s_ContextSlots_5 : State := host
theorem wit_ContextSlots_5 : 3 < 4 ∧ s_ContextSlots_5.powered (dCfg 3) = true
    ∧ s_ContextSlots_5.flag F.CTX_PATROL_EN 3 = true := by decide +kernel
/-- A state for slotPatrolStep. -/
def s_ContextSlots_5b : State := (host.setSlotSt 3072 2)
theorem wit_ContextSlots_5b : 3 < 4 ∧ s_ContextSlots_5b.powered (dCfg 3) = true
    ∧ s_ContextSlots_5b.flag F.CTX_PATROL_EN 3 = true := by decide +kernel

/-! ### LoadChannels -/

/-- A state for loadGo. -/
def s_LoadChannels_1 : State := host
theorem wit_LoadChannels_1 : s_LoadChannels_1.mayWrite ((.pf 0) : Src) .MEY_LOAD_CTL 3 = true
    ∧ fldOf F.MEY_LOAD_CTL_GO ((BitVec.ofNat 32 (2 ^ F.MEY_LOAD_CTL_GO.lo)) : Word) = 1
    ∧ fldOf F.MEY_LOAD_CTL_ABORT ((BitVec.ofNat 32 (2 ^ F.MEY_LOAD_CTL_GO.lo)) : Word) = 0 := by decide +kernel
/-- A state for loadGo. -/
def s_LoadChannels_1b : State := (host.set F.MEY_LOAD_SRC_HI_SRC_HI 3 0x80 |>.set F.MEY_LOAD_LEN_LEN 3 1)
theorem wit_LoadChannels_1b : s_LoadChannels_1b.mayWrite ((.pf 0) : Src) .MEY_LOAD_CTL 3 = true
    ∧ fldOf F.MEY_LOAD_CTL_GO ((BitVec.ofNat 32 (2 ^ F.MEY_LOAD_CTL_GO.lo + 2 * 2 ^ F.MEY_LOAD_CTL_SRC_KIND.lo)) : Word) = 1
    ∧ fldOf F.MEY_LOAD_CTL_ABORT ((BitVec.ofNat 32 (2 ^ F.MEY_LOAD_CTL_GO.lo + 2 * 2 ^ F.MEY_LOAD_CTL_SRC_KIND.lo)) : Word) = 0 := by decide +kernel
/-- A state for loadGo. -/
def s_LoadChannels_1c : State := (host.set F.MEY_LOAD_STAT_BUSY 3 1)
theorem wit_LoadChannels_1c : s_LoadChannels_1c.mayWrite (.fw : Src) .MEY_LOAD_CTL 3 = true
    ∧ fldOf F.MEY_LOAD_CTL_GO ((BitVec.ofNat 32 (2 ^ F.MEY_LOAD_CTL_GO.lo)) : Word) = 1
    ∧ fldOf F.MEY_LOAD_CTL_ABORT ((BitVec.ofNat 32 (2 ^ F.MEY_LOAD_CTL_GO.lo)) : Word) = 0 := by decide +kernel
/-- A state for loadAbort. -/
def s_LoadChannels_2 : State := ((host.set F.MEY_LOAD_STAT_BUSY 3 1).setLoad 3 (some {}))
theorem wit_LoadChannels_2 : s_LoadChannels_2.mayWrite ((.pf 0) : Src) .MEY_LOAD_CTL 3 = true
    ∧ fldOf F.MEY_LOAD_CTL_GO ((BitVec.ofNat 32 (2 ^ F.MEY_LOAD_CTL_ABORT.lo)) : Word) = 0
    ∧ fldOf F.MEY_LOAD_CTL_ABORT ((BitVec.ofNat 32 (2 ^ F.MEY_LOAD_CTL_ABORT.lo)) : Word) = 1
    ∧ s_LoadChannels_2.load 3 = some ({} : LoadRun) := by decide +kernel
/-- A state for loadDataArrival. -/
def s_LoadChannels_3 : State := (host.setLoad 3 (some { buf := [1, 2] }))
theorem wit_LoadChannels_3 : s_LoadChannels_3.floorReset = 0
    ∧ s_LoadChannels_3.load 3 = some ({ buf := [1, 2] } : LoadRun) ∧ ({ buf := [1, 2] } : LoadRun).hdr = false
    ∧ ({ buf := [1, 2] } : LoadRun).bad = false ∧ ({ buf := [1, 2] } : LoadRun).kind < 2
    ∧ s_LoadChannels_3.portLive ({ buf := [1, 2] } : LoadRun).kind = true
    ∧ ({ buf := [1, 2] } : LoadRun).buf.length < 256 ∧ ([3, 4] : List Byte) ≠ [] := by decide +kernel
/-- A state for loadHoldDone. -/
def s_LoadChannels_4 : State := (host.setLoad 3 (some { hdr := true, holding := true, table := [⟨4, 1⟩, ⟨1, 3979⟩], sect := 1, targets := [4095, 7] }))
theorem wit_LoadChannels_4 : s_LoadChannels_4.floorReset = 0
    ∧ s_LoadChannels_4.load 3 = some ({ hdr := true, holding := true, table := [⟨4, 1⟩, ⟨1, 3979⟩], sect := 1, targets := [4095, 7] } : LoadRun)
    ∧ ({ hdr := true, holding := true, table := [⟨4, 1⟩, ⟨1, 3979⟩], sect := 1, targets := [4095, 7] } : LoadRun).holding = true
    ∧ ({ hdr := true, holding := true, table := [⟨4, 1⟩, ⟨1, 3979⟩], sect := 1, targets := [4095, 7] } : LoadRun).hdr = true
    ∧ ({ hdr := true, holding := true, table := [⟨4, 1⟩, ⟨1, 3979⟩], sect := 1, targets := [4095, 7] } : LoadRun).buf = []
    ∧ ({ hdr := true, holding := true, table := [⟨4, 1⟩, ⟨1, 3979⟩], sect := 1, targets := [4095, 7] } : LoadRun).table[({ hdr := true, holding := true, table := [⟨4, 1⟩, ⟨1, 3979⟩], sect := 1, targets := [4095, 7] } : LoadRun).sect]? = some (⟨1, 3979⟩ : LoadSection)
    ∧ (⟨1, 3979⟩ : LoadSection).frames ≠ 0
    ∧ ({ hdr := true, holding := true, table := [⟨4, 1⟩, ⟨1, 3979⟩], sect := 1, targets := [4095, 7] } : LoadRun).bad = false := by decide +kernel
/-- A state for loadCommit. -/
def s_LoadChannels_5 : State := (host.setLoad 3 (some { ready := true, targets := [4095, 7] }))
theorem wit_LoadChannels_5 : s_LoadChannels_5.floorReset = 0
    ∧ s_LoadChannels_5.load 3 = some ({ ready := true, targets := [4095, 7] } : LoadRun)
    ∧ ({ ready := true, targets := [4095, 7] } : LoadRun).ready = true
    ∧ ({ ready := true, targets := [4095, 7] } : LoadRun).bad = false
    ∧ ({ ready := true, targets := [4095, 7] } : LoadRun).acks = 0 := by decide +kernel
/-- A state for loadSourceTimeout. -/
def s_LoadChannels_6 : State := { host.setLoad 3 (some { holding := true }) with time := 1000000 }
theorem wit_LoadChannels_6 : s_LoadChannels_6.load 3 = some ({ holding := true } : LoadRun)
    ∧ loadAwaits ({ holding := true } : LoadRun) = true ∧ s_LoadChannels_6.floorReset = 0
    ∧ ({ holding := true } : LoadRun).since + 1000 * s_LoadChannels_6.get F.MEY_LOAD_TMO_TMO_US 3 ≤ s_LoadChannels_6.time := by decide +kernel
/-- A state for loadSourceError. -/
def s_LoadChannels_7 : State := (host.setLoad 3 (some {}))
theorem wit_LoadChannels_7 : s_LoadChannels_7.load 3 = some ({} : LoadRun) ∧ s_LoadChannels_7.floorReset = 0 := by decide +kernel

/-! ### TenancyAndGangs -/

/-- A state for benchAssignWrite. -/
def s_TenancyAndGangs_1 : State := (acq [63] host)
theorem wit_TenancyAndGangs_1 : s_TenancyAndGangs_1.mayWrite ((.pf 0) : Src) .BENCH_ASSIGN 63 = true := by decide +kernel
/-- A state for benchAssignWrite. -/
def s_TenancyAndGangs_1b : State := (acq [63] host)
theorem wit_TenancyAndGangs_1b : s_TenancyAndGangs_1b.mayWrite ((.pf 0) : Src) .BENCH_ASSIGN 63 = true := by decide +kernel
/-- A state for benchAssignWrite. -/
def s_TenancyAndGangs_1c : State := (acq [63] host)
theorem wit_TenancyAndGangs_1c : s_TenancyAndGangs_1c.mayWrite (.fw : Src) .BENCH_ASSIGN 63 = true := by decide +kernel
/-- A state for fnChangeEffect. -/
def s_TenancyAndGangs_2 : State := ({ host with collector := { fnPending := [(63, some 1)], staged := [(63, { full := true })] }, time := 10000 })
theorem wit_TenancyAndGangs_2 : 
   (mapGet (fun _ => none) s_TenancyAndGangs_2.collector.fnPending 63 : Option Nat) = some 1 ∧ 1 < 2
    ∧ ((s_TenancyAndGangs_2.stagedOf 63).full = false ∨ s_TenancyAndGangs_2.ringTakes 63 = true ∨ mapGet (fun _ => 0) s_TenancyAndGangs_2.collector.fnSince 63 + 10000 ≤ s_TenancyAndGangs_2.time) := by decide +kernel
/-- A state for fnChangeEffect. -/
def s_TenancyAndGangs_2b : State := ({ host with collector := { fnPending := [(63, some 1)] } })
theorem wit_TenancyAndGangs_2b : 
   (mapGet (fun _ => none) s_TenancyAndGangs_2b.collector.fnPending 63 : Option Nat) = some 1 ∧ 1 < 2
    ∧ ((s_TenancyAndGangs_2b.stagedOf 63).full = false ∨ s_TenancyAndGangs_2b.ringTakes 63 = true ∨ mapGet (fun _ => 0) s_TenancyAndGangs_2b.collector.fnSince 63 + 10000 ≤ s_TenancyAndGangs_2b.time) := by decide +kernel
/-- A state for gangForm. -/
def s_TenancyAndGangs_3 : State := ((acq [58, 59, 62, 63] host).set F.BENCH_SURGE_CTL_SURGE_MAX 3 4)
theorem wit_TenancyAndGangs_3 : s_TenancyAndGangs_3.mayWrite ((.pf 1) : Src) .BENCH_GANG_CMD 3 = true
    ∧ fldOf F.BENCH_GANG_CMD_FORM ((BitVec.ofNat 32 (2 ^ 31 + 10 * 2 ^ 16 + 2 ^ 10 + 2 ^ 8)) : Word) = 1
    ∧ fldOf F.BENCH_GANG_CMD_DISSOLVE ((BitVec.ofNat 32 (2 ^ 31 + 10 * 2 ^ 16 + 2 ^ 10 + 2 ^ 8)) : Word) = 0
    ∧ 10 = fldOf F.BENCH_GANG_CMD_LEADER ((BitVec.ofNat 32 (2 ^ 31 + 10 * 2 ^ 16 + 2 ^ 10 + 2 ^ 8)) : Word)
    ∧ 1 = fldOf F.BENCH_GANG_CMD_W_M1 ((BitVec.ofNat 32 (2 ^ 31 + 10 * 2 ^ 16 + 2 ^ 10 + 2 ^ 8)) : Word)
    ∧ 1 = fldOf F.BENCH_GANG_CMD_H_M1 ((BitVec.ofNat 32 (2 ^ 31 + 10 * 2 ^ 16 + 2 ^ 10 + 2 ^ 8)) : Word) := by decide +kernel
/-- A state for gangForm. -/
def s_TenancyAndGangs_3b : State := host
theorem wit_TenancyAndGangs_3b : s_TenancyAndGangs_3b.mayWrite ((.pf 1) : Src) .BENCH_GANG_CMD 3 = true
    ∧ fldOf F.BENCH_GANG_CMD_FORM ((BitVec.ofNat 32 (2 ^ 31 + 10 * 2 ^ 16 + 2 ^ 10 + 2 ^ 8)) : Word) = 1
    ∧ fldOf F.BENCH_GANG_CMD_DISSOLVE ((BitVec.ofNat 32 (2 ^ 31 + 10 * 2 ^ 16 + 2 ^ 10 + 2 ^ 8)) : Word) = 0
    ∧ 10 = fldOf F.BENCH_GANG_CMD_LEADER ((BitVec.ofNat 32 (2 ^ 31 + 10 * 2 ^ 16 + 2 ^ 10 + 2 ^ 8)) : Word)
    ∧ 1 = fldOf F.BENCH_GANG_CMD_W_M1 ((BitVec.ofNat 32 (2 ^ 31 + 10 * 2 ^ 16 + 2 ^ 10 + 2 ^ 8)) : Word)
    ∧ 1 = fldOf F.BENCH_GANG_CMD_H_M1 ((BitVec.ofNat 32 (2 ^ 31 + 10 * 2 ^ 16 + 2 ^ 10 + 2 ^ 8)) : Word) := by decide +kernel
/-- A state for gangFormDone. -/
def s_TenancyAndGangs_4 : State := ({ host.gangStat 58 10 1 1 with tenancy := { forming := [58] } })
theorem wit_TenancyAndGangs_4 : s_TenancyAndGangs_4.tenancy.forming.contains 58 = true := by decide +kernel
/-- A state for gangDissolve. -/
def s_TenancyAndGangs_5 : State := ((host.gangStat 58 10 1 1).gangStat 59 10 1 1)
theorem wit_TenancyAndGangs_5 : s_TenancyAndGangs_5.mayWrite ((.pf 1) : Src) .BENCH_GANG_CMD 3 = true
    ∧ fldOf F.BENCH_GANG_CMD_FORM ((BitVec.ofNat 32 (2 ^ 30 + 10 * 2 ^ 16)) : Word) = 0
    ∧ fldOf F.BENCH_GANG_CMD_DISSOLVE ((BitVec.ofNat 32 (2 ^ 30 + 10 * 2 ^ 16)) : Word) = 1
    ∧ 58 = 16 * 3 + fldOf F.BENCH_GANG_CMD_LEADER ((BitVec.ofNat 32 (2 ^ 30 + 10 * 2 ^ 16)) : Word) := by decide +kernel
/-- A state for gangDissolve. -/
def s_TenancyAndGangs_5b : State := host
theorem wit_TenancyAndGangs_5b : s_TenancyAndGangs_5b.mayWrite (.fw : Src) .BENCH_GANG_CMD 3 = true
    ∧ fldOf F.BENCH_GANG_CMD_FORM ((BitVec.ofNat 32 (2 ^ 30 + 15 * 2 ^ 16)) : Word) = 0
    ∧ fldOf F.BENCH_GANG_CMD_DISSOLVE ((BitVec.ofNat 32 (2 ^ 30 + 15 * 2 ^ 16)) : Word) = 1
    ∧ 63 = 16 * 3 + fldOf F.BENCH_GANG_CMD_LEADER ((BitVec.ofNat 32 (2 ^ 30 + 15 * 2 ^ 16)) : Word) := by decide +kernel
/-- A state for mfenceWrite. -/
def s_TenancyAndGangs_6 : State := host
theorem wit_TenancyAndGangs_6 : 7 < 8 ∧ 3 < 4
    ∧ s_TenancyAndGangs_6.mayWrite (.fw : Src) .BENCH_MFENCE (32 * 63 + 4 * 7 + 3) = true := by decide +kernel
/-- A state for mfenceWrite. -/
def s_TenancyAndGangs_6b : State := host
theorem wit_TenancyAndGangs_6b : 7 < 8 ∧ 3 < 4
    ∧ s_TenancyAndGangs_6b.mayWrite (.fw : Src) .BENCH_MFENCE (32 * 63 + 4 * 7 + 3) = true := by decide +kernel
/-- A state for hwinWrite. -/
def s_TenancyAndGangs_7 : State := (host.set F.BENCH_HWIN_LO_BASE_LO 1023 1)
theorem wit_TenancyAndGangs_7 : 15 < 16
    ∧ s_TenancyAndGangs_7.mayWrite (.fw : Src) .BENCH_HWIN_HI (16 * 63 + 15) = true := by decide +kernel
/-- A state for hwinWrite. -/
def s_TenancyAndGangs_7b : State := (host.set F.BENCH_HWIN_LO_BASE_LO 1023 1)
theorem wit_TenancyAndGangs_7b : 15 < 16
    ∧ s_TenancyAndGangs_7b.mayWrite (.fw : Src) .BENCH_HWIN_HI (16 * 63 + 15) = true := by decide +kernel
/-- A state for laneFenceWrite. -/
def s_TenancyAndGangs_8 : State := host
theorem wit_TenancyAndGangs_8 : s_TenancyAndGangs_8.mayWrite (.fw : Src) (laneMaskReg true true) 63 = true := by decide +kernel
/-- A state for laneFenceWrite. -/
def s_TenancyAndGangs_8b : State := (host.setReg .BENCH_LANE_RX_HI 62 1)
theorem wit_TenancyAndGangs_8b : s_TenancyAndGangs_8b.mayWrite (.fw : Src) (laneMaskReg true true) 63 = true := by decide +kernel

/-! ### WeighbridgesAndMeters -/

/-- A state for wbCtlWrite. -/
def s_WeighbridgesAndMeters_1 : State := (host.setWbTokens 379 (2 ^ 20 : Int))
theorem wit_WeighbridgesAndMeters_1 : 0 < 2 ∧ 1 < 3 ∧ 379 = 6 * 63 + 3 * 0 + 1
    ∧ s_WeighbridgesAndMeters_1.mayWrite (.fw : Src) .BENCH_WB_CTL 379 = true := by decide +kernel
/-- A state for wbCtlWrite. -/
def s_WeighbridgesAndMeters_1b : State := host
theorem wit_WeighbridgesAndMeters_1b : 1 < 2 ∧ 2 < 3 ∧ 383 = 6 * 63 + 3 * 1 + 2
    ∧ s_WeighbridgesAndMeters_1b.mayWrite ((.pf 0) : Src) .BENCH_WB_CTL 383 = true := by decide +kernel
/-- A state for weighbridgeRefill. -/
def s_WeighbridgesAndMeters_2 : State := host
theorem wit_WeighbridgesAndMeters_2 : s_WeighbridgesAndMeters_2.portRuns 63 1 = true ∧ 2 < 3 := by decide +kernel
/-- A state for weighbridgeAdmit. -/
def s_WeighbridgesAndMeters_3 : State := ((host.setWbTokens 382 5).setWaiting 63 1 1 [⟨mkHeader 0x010000000010 5 (hportId 63 1) 3 clsRsp 7 0 opRdata 0 0, [(3, false)], none, none, 0⟩])
theorem wit_WeighbridgesAndMeters_3 : 1 < 3 ∧ s_WeighbridgesAndMeters_3.portRuns 63 1 = true
    ∧ s_WeighbridgesAndMeters_3.wbOpen 63 1 1 = true
    ∧ (1 = 1 ∨ s_WeighbridgesAndMeters_3.holdsRequests 63 1 = false)
    ∧ s_WeighbridgesAndMeters_3.waiting 63 1 1 = ((⟨mkHeader 0x010000000010 5 (hportId 63 1) 3 clsRsp 7 0 opRdata 0 0, [(3, false)], none, none, 0⟩) : WbPacket) :: ([] : List WbPacket)
    ∧ s_WeighbridgesAndMeters_3.behindOwn 63 1 ((⟨mkHeader 0x010000000010 5 (hportId 63 1) 3 clsRsp 7 0 opRdata 0 0, [(3, false)], none, none, 0⟩) : WbPacket) = false
    ∧ s_WeighbridgesAndMeters_3.injReady (hportId 63 1) (hClass ((⟨mkHeader 0x010000000010 5 (hportId 63 1) 3 clsRsp 7 0 opRdata 0 0, [(3, false)], none, none, 0⟩) : WbPacket).hdr) = true
    ∧ 76 = routerOf (epCol (hportId 63 1)) (epRow (hportId 63 1)) (epX (hportId 63 1))
    ∧ 1 = epLocal (hportId 63 1)
    ∧ mapGet (fun _ => false) s_WeighbridgesAndMeters_3.haul.retrain (linkKey 76 (4 + 1)) = false := by decide +kernel
/-- A state for tallySample. -/
def s_WeighbridgesAndMeters_4 : State := (onl 63 7 host)
theorem wit_WeighbridgesAndMeters_4 : s_WeighbridgesAndMeters_4.powered 4 = true := by decide +kernel
/-- A state for tallySample. -/
def s_WeighbridgesAndMeters_4b : State := host
theorem wit_WeighbridgesAndMeters_4b : s_WeighbridgesAndMeters_4b.powered 4 = true := by decide +kernel
/-- A state for pcapUpdate. -/
def s_WeighbridgesAndMeters_5 : State := ({ host with tenancy := { sinceUpd := [(63, 24001)], capLevel := [(63, 15)] } })
theorem wit_WeighbridgesAndMeters_5 : s_WeighbridgesAndMeters_5.powered 4 = true
    ∧ (24001, 1) = s_WeighbridgesAndMeters_5.capWindow 63 ((mapGet (fun _ => 0) s_WeighbridgesAndMeters_5.tenancy.sinceUpd 63 :: mapGet (fun _ => []) s_WeighbridgesAndMeters_5.tenancy.history 63).take 4096) := by decide +kernel
/-- A state for pcapUpdate. -/
def s_WeighbridgesAndMeters_5b : State := ({ host with tenancy := { sinceUpd := [(63, 22500)], capLevel := [(63, 3)] } })
theorem wit_WeighbridgesAndMeters_5b : s_WeighbridgesAndMeters_5b.powered 4 = true
    ∧ (22500, 1) = s_WeighbridgesAndMeters_5b.capWindow 63 ((mapGet (fun _ => 0) s_WeighbridgesAndMeters_5b.tenancy.sinceUpd 63 :: mapGet (fun _ => []) s_WeighbridgesAndMeters_5b.tenancy.history 63).take 4096) := by decide +kernel
/-- A state for pcapUpdate. -/
def s_WeighbridgesAndMeters_5c : State := ({ host with tenancy := { sinceUpd := [(63, 22501)], capLevel := [(63, 3)] } })
theorem wit_WeighbridgesAndMeters_5c : s_WeighbridgesAndMeters_5c.powered 4 = true
    ∧ (22501, 1) = s_WeighbridgesAndMeters_5c.capWindow 63 ((mapGet (fun _ => 0) s_WeighbridgesAndMeters_5c.tenancy.sinceUpd 63 :: mapGet (fun _ => []) s_WeighbridgesAndMeters_5c.tenancy.history 63).take 4096) := by decide +kernel

/-! ### CollectorAndRings -/

/-- A state for collectorEvent. -/
def s_CollectorAndRings_1 : State := (host.raiseWith 95 2 0 false)
theorem wit_CollectorAndRings_1 : s_CollectorAndRings_1.powered 1 = true
    ∧ takeEvent 95 s_CollectorAndRings_1.collector.inFlight = (some (⟨95, 2, 0, 0, false⟩ : Event), ([] : List Event)) := by decide +kernel
/-- A state for collectorRecordWrite. -/
def s_CollectorAndRings_2 : State := ((host.set F.BENCH_ASSIGN_FN 63 0 |>.setRing 63 F.BENCH_RING_CTL_EN F.PF_RING_CTL_EN 1).setStaged 63 { full := true, count := 1, kinds := 1 } |>.setRing 63 F.BENCH_RING_TAIL_TAIL F.PF_RING_TAIL_TAIL 255 |>.setRing 63 F.BENCH_RING_HEAD_HEAD F.PF_RING_HEAD_HEAD 9)
theorem wit_CollectorAndRings_2 : s_CollectorAndRings_2.powered 1 = true ∧ s_CollectorAndRings_2.floorReset = 0
    ∧ s_CollectorAndRings_2.nextSource = some 63 ∧ 63 = s_CollectorAndRings_2.ringOf 63
    ∧ s_CollectorAndRings_2.portLive (s_CollectorAndRings_2.msgPort (ringFn 63)) = true := by decide +kernel
/-- A state for collectorRecordWrite. -/
def s_CollectorAndRings_2b : State := ((host.setRing 64 F.BENCH_RING_CTL_EN F.PF_RING_CTL_EN 1).setStaged 95 { full := true, count := 1, kinds := 1 })
theorem wit_CollectorAndRings_2b : s_CollectorAndRings_2b.powered 1 = true
    ∧ s_CollectorAndRings_2b.floorReset = 0 ∧ s_CollectorAndRings_2b.nextSource = some 95
    ∧ 64 = s_CollectorAndRings_2b.ringOf 95
    ∧ s_CollectorAndRings_2b.portLive (s_CollectorAndRings_2b.msgPort (ringFn 64)) = true := by decide +kernel
/-- A state for collectorRecordWrite. -/
def s_CollectorAndRings_3 : State := ((host.setRing 64 F.BENCH_RING_CTL_EN F.PF_RING_CTL_EN 1).setStaged 95 { full := true, count := 1, kinds := 1 })
theorem wit_CollectorAndRings_3 : s_CollectorAndRings_3.powered 1 = true ∧ s_CollectorAndRings_3.floorReset = 0
    ∧ s_CollectorAndRings_3.nextSource = some 95 ∧ 64 = s_CollectorAndRings_3.ringOf 95 := by decide +kernel
/-- A state for msixModerationExpiry. -/
def s_CollectorAndRings_4 : State := (host.setRingSt 63 { waiting := [(1, true)] })
theorem wit_CollectorAndRings_4 : mapGet (fun _ => false) (s_CollectorAndRings_4.ringSt 63).waiting 1 = true
    ∧ s_CollectorAndRings_4.msgHeld 63 1 = false := by decide +kernel
/-- A state for msixModerationExpiry. -/
def s_CollectorAndRings_4b : State := ({ host with time := 2000 }.setRing 63 F.BENCH_RING_CTL_MOD_US F.PF_RING_CTL_MOD_US 1 |>.setRingSt 63 { waiting := [(1, true)], lastMsg := [(1, some 1000)] })
theorem wit_CollectorAndRings_4b : mapGet (fun _ => false) (s_CollectorAndRings_4b.ringSt 63).waiting 1 = true
    ∧ s_CollectorAndRings_4b.msgHeld 63 1 = false := by decide +kernel
/-- A state for msixModerationExpiry. -/
def s_CollectorAndRings_4c : State := ((host.setRingSt 64 { waiting := [(4, true)] }).setCfg 0 0 { msixEn := true } |>.setMsixEntry 0 0 4 { mask := false })
theorem wit_CollectorAndRings_4c : mapGet (fun _ => false) (s_CollectorAndRings_4c.ringSt 64).waiting 4 = true
    ∧ s_CollectorAndRings_4c.msgHeld 64 4 = false := by decide +kernel
/-- A state for ringEnable. -/
def s_CollectorAndRings_5 : State := host
theorem wit_CollectorAndRings_5 : 
   s_CollectorAndRings_5.mayWrite ((.pf 0) : Src) (ringCtlReg 64).1 (ringCtlReg 64).2 = true
    ∧ s_CollectorAndRings_5.ringEn 64 = 0 ∧ fldOf F.BENCH_RING_CTL_EN (0xFFFFFFFF : Word) = 1 := by decide +kernel
/-- A state for ringEnable. -/
def s_CollectorAndRings_5b : State := host
theorem wit_CollectorAndRings_5b : 
   s_CollectorAndRings_5b.mayWrite (.fw : Src) (ringCtlReg 63).1 (ringCtlReg 63).2 = true
    ∧ s_CollectorAndRings_5b.ringEn 63 = 0 ∧ fldOf F.BENCH_RING_CTL_EN (0x80000000 : Word) = 1 := by decide +kernel

/-! ### BenchPorts -/

/-- A state for benchPortRequest. -/
def s_BenchPorts_1 : State := ((((onl 63 0 host).set F.HOP_CFG_RD_SRC 2046 5).set F.HOP_OWNER_OWN_VALID 2046 1).set F.HOP_CFG_WR_SRC 2047 5 |>.set F.HOP_OWNER_OWN_VALID 2047 1 |>.setReg .BENCH_HWIN_HI 1023 0xE0280000 |>.setHop 2046 { asm := [64 + 7 * 2 ^ 60, 31 * 2 ^ 18] })
theorem wit_BenchPorts_1 : 30 < 32 ∧ 2046 = 32 * 63 + 30 ∧ s_BenchPorts_1.portRuns 63 1 = true
    ∧ s_BenchPorts_1.online 63 = true ∧ s_BenchPorts_1.isOutHopper 2046 1 = true
    ∧ s_BenchPorts_1.flag F.HOP_CFG_PKT 2046 = false ∧ s_BenchPorts_1.hopWidth 2046 = 72
    ∧ (s_BenchPorts_1.hop 2046).asm = [(64 + 7 * 2 ^ 60), (31 * 2 ^ 18)]
    ∧ (s_BenchPorts_1.hop 2046).asmLen = none ∧ bitsOf (31 * 2 ^ 18) 0 4 = opRead
    ∧ bitsOf (64 + 7 * 2 ^ 60) 0 48 % 4096 + bitsOf (64 + 7 * 2 ^ 60) 60 12 + 1 ≤ 4096
    ∧ s_BenchPorts_1.rspHopOk 63 1 2046 (bitsOf (31 * 2 ^ 18) 18 5) = true ∧ 511 < 512
    ∧ (s_BenchPorts_1.portTag 63 1 511).req = none ∧ (s_BenchPorts_1.portTag 63 1 511).since = none
    ∧ s_BenchPorts_1.reserveUsed 63 1 + rspRoom false (bitsOf (64 + 7 * 2 ^ 60) 0 48) (bitsOf (64 + 7 * 2 ^ 60) 60 12) ≤ 1040
    ∧ s_BenchPorts_1.portLocal 63 1 (bitsOf (64 + 7 * 2 ^ 60) 0 48) (bitsOf (64 + 7 * 2 ^ 60) 60 12) false = none := by decide +kernel
/-- A state for benchPortRequest. -/
def s_BenchPorts_2 : State := (((onl 63 0 host).set F.HOP_CFG_RD_SRC 2046 5).set F.HOP_OWNER_OWN_VALID 2046 1 |>.setHop 2046 { asm := [0, 15] })
theorem wit_BenchPorts_2 : 30 < 32 ∧ 2046 = 32 * 63 + 30 ∧ s_BenchPorts_2.portRuns 63 1 = true
    ∧ s_BenchPorts_2.online 63 = true ∧ s_BenchPorts_2.isOutHopper 2046 1 = true
    ∧ s_BenchPorts_2.flag F.HOP_CFG_PKT 2046 = false ∧ s_BenchPorts_2.hopWidth 2046 = 72
    ∧ (s_BenchPorts_2.hop 2046).asm = [0, 15] ∧ (s_BenchPorts_2.hop 2046).asmLen = none
    ∧ bitsOf 15 0 4 ∉ [0, 1, 2, 8, 9] := by decide +kernel
/-- A state for benchPortResponse. -/
def s_BenchPorts_3 : State := (host.setPortTag 63 1 511 { gen := 7, req := some ⟨0, 0, 0, 0, 0, true, 1, some 0, false⟩ })
theorem wit_BenchPorts_3 : s_BenchPorts_3.portRuns 63 1 = true
    ∧ (hOp (mkHeader 0 0 0 4095 1 0 0 9 0 0) = opRdata ∨ hOp (mkHeader 0 0 0 4095 1 0 0 9 0 0) = opWack)
    ∧ hClass (mkHeader 0 0 0 4095 1 0 0 9 0 0) = clsRsp
    ∧ ([] : List (Nat × Bool)).length = packetFlits (hOp (mkHeader 0 0 0 4095 1 0 0 9 0 0)) (hAddr (mkHeader 0 0 0 4095 1 0 0 9 0 0)) (hLen (mkHeader 0 0 0 4095 1 0 0 9 0 0)) (hStatus (mkHeader 0 0 0 4095 1 0 0 9 0 0)) := by decide +kernel
/-- A state for benchPortResponse. -/
def s_BenchPorts_3b : State := host
theorem wit_BenchPorts_3b : s_BenchPorts_3b.portRuns 63 1 = true
    ∧ (hOp (mkHeader 0 0 0 4095 1 0 0 9 0 0) = opRdata ∨ hOp (mkHeader 0 0 0 4095 1 0 0 9 0 0) = opWack)
    ∧ hClass (mkHeader 0 0 0 4095 1 0 0 9 0 0) = clsRsp
    ∧ ([] : List (Nat × Bool)).length = packetFlits (hOp (mkHeader 0 0 0 4095 1 0 0 9 0 0)) (hAddr (mkHeader 0 0 0 4095 1 0 0 9 0 0)) (hLen (mkHeader 0 0 0 4095 1 0 0 9 0 0)) (hStatus (mkHeader 0 0 0 4095 1 0 0 9 0 0)) := by decide +kernel
/-- A state for benchPortIncomingRequest. -/
def s_BenchPorts_4 : State := (host.set F.HOP_CFG_WR_SRC 2047 5 |>.set F.HOP_OWNER_OWN_VALID 2047 1)
theorem wit_BenchPorts_4 : s_BenchPorts_4.portRuns 63 1 = true
    ∧ hOp (mkHeader (0x020000000000 + 63 * 2 ^ 30 + 31 * 2 ^ 25 + 2 ^ 24) 0 5 4095 0 63 0 0 0 0) = opRead
    ∧ (hClass (mkHeader (0x020000000000 + 63 * 2 ^ 30 + 31 * 2 ^ 25 + 2 ^ 24) 0 5 4095 0 63 0 0 0 0) = clsReq ∨ hClass (mkHeader (0x020000000000 + 63 * 2 ^ 30 + 31 * 2 ^ 25 + 2 ^ 24) 0 5 4095 0 63 0 0 0 0) = clsMgt)
    ∧ 0x3F000000 = (hAddr (mkHeader (0x020000000000 + 63 * 2 ^ 30 + 31 * 2 ^ 25 + 2 ^ 24) 0 5 4095 0 63 0 0 0 0) - 0x020000000000) % 2 ^ 30
    ∧ 2047 = 32 * 63 + 0x3F000000 / 2 ^ 25 ∧ ([] : List (Nat × Bool)) = [] := by decide +kernel
/-- A state for benchPortIncomingRequest. -/
def s_BenchPorts_4b : State := host
theorem wit_BenchPorts_4b : s_BenchPorts_4b.portRuns 63 1 = true
    ∧ hOp (mkHeader (0x020000000000 + 63 * 2 ^ 30 + 31 * 2 ^ 25 + 2 ^ 24) 0 5 4095 0 63 0 0 0 0) = opRead
    ∧ (hClass (mkHeader (0x020000000000 + 63 * 2 ^ 30 + 31 * 2 ^ 25 + 2 ^ 24) 0 5 4095 0 63 0 0 0 0) = clsReq ∨ hClass (mkHeader (0x020000000000 + 63 * 2 ^ 30 + 31 * 2 ^ 25 + 2 ^ 24) 0 5 4095 0 63 0 0 0 0) = clsMgt)
    ∧ 0x3F000000 = (hAddr (mkHeader (0x020000000000 + 63 * 2 ^ 30 + 31 * 2 ^ 25 + 2 ^ 24) 0 5 4095 0 63 0 0 0 0) - 0x020000000000) % 2 ^ 30
    ∧ 2047 = 32 * 63 + 0x3F000000 / 2 ^ 25 ∧ ([] : List (Nat × Bool)) = [] := by decide +kernel
/-- A state for benchPortImageResponse. -/
def s_BenchPorts_5 : State := (((onl 63 0 host).set F.HOP_CFG_RD_SRC 2046 5).set F.HOP_OWNER_OWN_VALID 2046 1 |>.setHop 2046 { asm := [3 * 2 ^ 48, 9 + 5 * 16] } |>.setHport 63 1 { pend := [⟨5, 3, 0, 0, 1, 0, 0⟩] })
theorem wit_BenchPorts_5 : 30 < 32 ∧ 2046 = 32 * 63 + 30 ∧ s_BenchPorts_5.portRuns 63 1 = true
    ∧ s_BenchPorts_5.online 63 = true ∧ s_BenchPorts_5.isOutHopper 2046 1 = true
    ∧ s_BenchPorts_5.flag F.HOP_CFG_PKT 2046 = false ∧ s_BenchPorts_5.hopWidth 2046 = 72
    ∧ (s_BenchPorts_5.hop 2046).asm = [(3 * 2 ^ 48), (9 + 5 * 16)] ∧ (s_BenchPorts_5.hop 2046).asmLen = none
    ∧ bitsOf (9 + 5 * 16) 0 4 = opWack ∧ bitsOf (9 + 5 * 16) 14 4 ∈ [stOk, stPoison, stRefused]
    ∧ ((s_BenchPorts_5.hport 63 1).pend.find? fun y => y.src == bitsOf (9 + 5 * 16) 4 10 && y.tag == bitsOf (3 * 2 ^ 48) 48 12) = some (⟨5, 3, 0, 0, 1, 0, 0⟩ : PendEnt)
    ∧ (⟨5, 3, 0, 0, 1, 0, 0⟩ : PendEnt).op = opWrite ∧ s_BenchPorts_5.portUp 63 1 = true := by decide +kernel
/-- A state for pendingEntryExpiry. -/
def s_BenchPorts_6 : State := ({ host with time := 1000000004 }.setHport 63 1 { pend := [⟨5, 3, 0, 0, 1, 0, 4⟩, ⟨5, 4, 0, 0, 1, 0, 5⟩] })
theorem wit_BenchPorts_6 : s_BenchPorts_6.portRuns 63 1 = true := by decide +kernel
/-- A state for hportCfgWrite. -/
def s_BenchPorts_7 : State := host
theorem wit_BenchPorts_7 : 1 < 2 ∧ s_BenchPorts_7.mayWrite (.fw : Src) .BENCH_HPORT_CFG (2 * 63 + 1) = true := by decide +kernel
/-- A state for hportCfgWrite. -/
def s_BenchPorts_7b : State := host
theorem wit_BenchPorts_7b : 1 < 2 ∧ s_BenchPorts_7b.mayWrite (.fw : Src) .BENCH_HPORT_CFG (2 * 63 + 1) = true := by decide +kernel
/-- A state for hportCfgApply. -/
def s_BenchPorts_8 : State := (host.set F.BENCH_HPORT_CFG_DELIVERY 127 1)
theorem wit_BenchPorts_8 : s_BenchPorts_8.portRuns 63 1 = true := by decide +kernel
/-- A state for requestTimeout. -/
def s_BenchPorts_9 : State := ({ host with time := 2 ^ 40 }.setPortTag 63 1 511 { req := some ⟨0, 0, 0, 0, 0, true, 1, some 0, false⟩ })
theorem wit_BenchPorts_9 : s_BenchPorts_9.portRuns 63 1 = true
    ∧ (s_BenchPorts_9.portTag 63 1 511).req = some (⟨0, 0, 0, 0, 0, true, 1, some 0, false⟩ : PortReq)
    ∧ (⟨0, 0, 0, 0, 0, true, 1, some 0, false⟩ : PortReq).inj = some 0
    ∧ 0 + 1000 * s_BenchPorts_9.get F.BENCH_HPORT_TMO_TMO_US (2 * 63 + 1) ≤ s_BenchPorts_9.time := by decide +kernel
/-- A state for requestTimeout. -/
def s_BenchPorts_10 : State := ({ host with time := 2 ^ 40, pcie := { host.pcie with bars := [{ port := 1, fn := 0, tag := 1, write := false, cls := 0, addr := 0, dst := 0, data := [], len := 4, ht := 0, inj := some 0 }] } })
theorem wit_BenchPorts_10 : 1 < 2 ∧ s_BenchPorts_10.powered (dPcie 1) = true ∧ s_BenchPorts_10.floorReset = 0
    ∧ (s_BenchPorts_10.pcie.bars.find? fun z => z.port == 1 && z.ht == 0) = some ({ port := 1, fn := 0, tag := 1, write := false, cls := 0, addr := 0, dst := 0, data := [], len := 4, ht := 0, inj := some 0 } : BarReq)
    ∧ ({ port := 1, fn := 0, tag := 1, write := false, cls := 0, addr := 0, dst := 0, data := [], len := 4, ht := 0, inj := some 0 } : BarReq).inj = some 0
    ∧ 0 + 1000 * s_BenchPorts_10.get F.HN_TMO_TMO_US (3 * 1) ≤ s_BenchPorts_10.time := by decide +kernel
/-- A state for tagReturn. -/
def s_BenchPorts_11 : State := ({ host with time := 2 ^ 40 }.setPortTag 63 1 511 { gen := 7, since := some 0 })
theorem wit_BenchPorts_11 : s_BenchPorts_11.portRuns 63 1 = true
    ∧ (s_BenchPorts_11.portTag 63 1 511).since = some 0
    ∧ 0 + 1000 * s_BenchPorts_11.get F.BENCH_HPORT_TMO_TMO_US (2 * 63 + 1) ≤ s_BenchPorts_11.time := by decide +kernel
/-- A state for tagReturn. -/
def s_BenchPorts_12 : State := ({ host with time := 2 ^ 40 }.setFtag 1 511 { gen := 7, since := some 0 })
theorem wit_BenchPorts_12 : 1 < 2 ∧ (s_BenchPorts_12.ftag 1 511).since = some 0
    ∧ 0 + 1000 * s_BenchPorts_12.get F.HN_TMO_TMO_US (3 * 1) ≤ s_BenchPorts_12.time := by decide +kernel

/-! ### Routers -/

/-- A state for flitArrival. -/
def s_Routers_1 : State := host
theorem wit_Routers_1 : 79 < 80 ∧ portPresent 79 0 = true ∧ s_Routers_1.powered (dHn (routerCol 79)) = true
    ∧ s_Routers_1.flag F.HN_RTR_STAT_RETIRED 79 = false ∧ s_Routers_1.floorReset = 0
    ∧ (0 < 4 ∨ isBridgePort 79 (0 - 4) = false)
    ∧ linkDecode (linkWord (endPointId 79 2 * 2 ^ 48) (1 + 2 + 7 * 8 + 6 * 64)) = ⟨(endPointId 79 2 * 2 ^ 48), (1 + 2 + 7 * 8 + 6 * 64), [], false, [false, false, false, false]⟩
    ∧ bitOf (1 + 2 + 7 * 8 + 6 * 64) 0 = 1 ∧ bitOf (1 + 2 + 7 * 8 + 6 * 64) 1 = 1
    ∧ bitOf (1 + 2 + 7 * 8 + 6 * 64) 2 = 0
    ∧ s_Routers_1.outState 79 (s_Routers_1.routeOf 79 (endPointId 79 2 * 2 ^ 48)) = 0 := by decide +kernel
/-- A state for flitArrival. -/
def s_Routers_1b : State := host
theorem wit_Routers_1b : 79 < 80 ∧ portPresent 79 0 = true ∧ s_Routers_1b.powered (dHn (routerCol 79)) = true
    ∧ s_Routers_1b.flag F.HN_RTR_STAT_RETIRED 79 = false ∧ s_Routers_1b.floorReset = 0
    ∧ (0 < 4 ∨ isBridgePort 79 (0 - 4) = false)
    ∧ linkDecode (linkWord (endPointId 79 2 * 2 ^ 48) (1 + 2 + 7 * 8 + 5 * 64)) = ⟨(endPointId 79 2 * 2 ^ 48), (1 + 2 + 7 * 8 + 5 * 64), [], false, [false, false, false, false]⟩
    ∧ bitOf (1 + 2 + 7 * 8 + 5 * 64) 0 = 1 ∧ bitOf (1 + 2 + 7 * 8 + 5 * 64) 1 = 1
    ∧ bitOf (1 + 2 + 7 * 8 + 5 * 64) 2 = 0
    ∧ s_Routers_1b.outState 79 (s_Routers_1b.routeOf 79 (endPointId 79 2 * 2 ^ 48)) = 0 := by decide +kernel
/-- A state for flitArrival. -/
def s_Routers_2 : State := host
theorem wit_Routers_2 : 79 < 80 ∧ portPresent 79 0 = true ∧ s_Routers_2.powered (dHn (routerCol 79)) = true
    ∧ s_Routers_2.flag F.HN_RTR_STAT_RETIRED 79 = false ∧ s_Routers_2.floorReset = 0
    ∧ (0 < 4 ∨ isBridgePort 79 (0 - 4) = false) ∧ (linkWord 5 (1 + 7 * 8)) < 2 ^ 576
    ∧ linkDecode (linkWord 5 (1 + 7 * 8)) = ⟨5, (1 + 7 * 8), [], false, [false, false, false, false]⟩
    ∧ bitOf (1 + 7 * 8) 0 = 1 ∧ bitOf (1 + 7 * 8) 1 = 0
    ∧ s_Routers_2.openAt (chKey 79 0 (bitsOf (1 + 7 * 8) 3 3)) = none := by decide +kernel
/-- A state for flitArrival. -/
def s_Routers_3 : State := host
theorem wit_Routers_3 : 79 < 80 ∧ portPresent 79 0 = true ∧ s_Routers_3.powered (dHn (routerCol 79)) = true
    ∧ s_Routers_3.flag F.HN_RTR_STAT_RETIRED 79 = false ∧ s_Routers_3.floorReset = 0
    ∧ (linkDecode (3 * 2 ^ 548)).badSide = true := by decide +kernel
/-- A state for flitArrival. -/
def s_Routers_4 : State := host
theorem wit_Routers_4 : 79 < 80 ∧ hasEndPoint 79 2 = true ∧ s_Routers_4.powered (dHn (routerCol 79)) = true
    ∧ s_Routers_4.flag F.HN_RTR_STAT_RETIRED 79 = false ∧ s_Routers_4.floorReset = 0
    ∧ linkDecode (linkWord 5 (1 + 7 * 8)) = ⟨5, (1 + 7 * 8), [], false, [false, false, false, false]⟩
    ∧ bitOf (1 + 7 * 8) 0 = 1 ∧ bitOf (1 + 7 * 8) 10 = 0 := by decide +kernel
/-- A state for flitFallbackDepart. -/
def s_Routers_5 : State := (host.setQueue (56 * 79 + 1) [⟨⟨5, true, true, false⟩, 3, 0, 5⟩])
theorem wit_Routers_5 : 79 < 80 ∧ portPresent 79 3 = true ∧ s_Routers_5.powered (dHn (routerCol 79)) = true
    ∧ s_Routers_5.floorReset = 0 ∧ (mapGet (fun _ => []) s_Routers_5.haul.synth 79 : List Nat) = []
    ∧ (upTo 56).all (fun i => (s_Routers_5.queueAt (56 * 79 + i)).head?.all fun y =>
        !(y.flit.head && s_Routers_5.fenceStops 79 y.out y.hdr)) = true
    ∧ (s_Routers_5.allocHeads 79 3).pickVc 79 3 = some (0, (56 * 79 + 1))
    ∧ s_Routers_5.queueAt (56 * 79 + 1) = (⟨⟨5, true, true, false⟩, 3, 0, 5⟩ : QFlit) :: ([] : List QFlit) := by decide +kernel
/-- A state for haulCalibratorTest. -/
def s_Routers_6 : State := (host.set F.HN_RTR_STAT_QUEUED 79 1)
theorem wit_Routers_6 : 79 < 80 ∧ s_Routers_6.powered (dHn (routerCol 79)) = true
    ∧ s_Routers_6.flag F.HN_RTR_STAT_RETIRED 79 = false := by decide +kernel
/-- A state for haulCalibratorTest. -/
def s_Routers_6b : State := host
theorem wit_Routers_6b : 79 < 80 ∧ s_Routers_6b.powered (dHn (routerCol 79)) = true
    ∧ s_Routers_6b.flag F.HN_RTR_STAT_RETIRED 79 = false := by decide +kernel
/-- A state for rtEntWrite. -/
def s_Routers_7 : State := (host.set F.HN_RT_SEL_BANK 79 1 |>.set F.HN_RT_SEL_DEST 79 22)
theorem wit_Routers_7 : s_Routers_7.mayWrite (.fw : Src) .HN_RT_ENT 79 = true
    ∧ s_Routers_7.get F.HN_RT_SEL_DEST 79 ≤ 22 := by decide +kernel
/-- A state for rtEntWrite. -/
def s_Routers_7b : State := host
theorem wit_Routers_7b : s_Routers_7b.mayWrite (.fw : Src) .HN_RT_ENT 79 = true
    ∧ s_Routers_7b.get F.HN_RT_SEL_DEST 79 ≤ 22 := by decide +kernel
/-- A state for epochFlip. -/
def s_Routers_8 : State := { host with time := 7 }
theorem wit_Routers_8 : s_Routers_8.mayWrite (.fw : Src) .HN_EPOCH_CTL 0 = true
    ∧ fldOf F.HN_EPOCH_CTL_FLIP (0x80000000 : Word) = 1 := by decide +kernel
/-- A state for epochFlip. -/
def s_Routers_8b : State := (host.set F.HN_EPOCH_STAT_DRAINING 0 1)
theorem wit_Routers_8b : s_Routers_8b.mayWrite (.fw : Src) .HN_EPOCH_CTL 0 = true
    ∧ fldOf F.HN_EPOCH_CTL_FLIP (0x80000000 : Word) = 1 := by decide +kernel
/-- A state for drainComplete. -/
def s_Routers_9 : State := ({ host.set F.HN_EPOCH_STAT_DRAINING 0 1 with time := 99999999 })
theorem wit_Routers_9 : s_Routers_9.get F.HN_EPOCH_STAT_DRAINING 0 = 1
    ∧ s_Routers_9.epochInside (s_Routers_9.get F.HN_EPOCH_STAT_CUR 0) = false
    ∧ s_Routers_9.epochOwed (s_Routers_9.get F.HN_EPOCH_STAT_CUR 0) = false := by decide +kernel
/-- A state for drainTimeout. -/
def s_Routers_10 : State := ({ host.set F.HN_EPOCH_STAT_DRAINING 0 1 with time := 200000 })
theorem wit_Routers_10 : s_Routers_10.get F.HN_EPOCH_STAT_DRAINING 0 = 1
    ∧ s_Routers_10.haul.flipTime + 200000 ≤ s_Routers_10.time ∧ s_Routers_10.haul.drainTmo = false := by decide +kernel
/-- A state for fenceClosingDone. -/
def s_Routers_11 : State := (host.set (fenceFld 2) 79 1)
theorem wit_Routers_11 : s_Routers_11.get (fenceFld 2) 79 = 1 ∧ s_Routers_11.endPointIdle 79 2 = true
    ∧ (hasEndPoint 79 2 = true ∨ isBridgePort 79 2 = true) := by decide +kernel
/-- A state for fenceClosingTimeout. -/
def s_Routers_12 : State := ({ host.set (fenceFld 1) 79 1 with time := 20000 })
theorem wit_Routers_12 : s_Routers_12.get (fenceFld 1) 79 = 1
    ∧ mapGet (fun _ => 0) s_Routers_12.haul.closing (3 * 79 + 1) + 20000 ≤ s_Routers_12.time
    ∧ (hasEndPoint 79 1 = true ∨ isBridgePort 79 1 = true) := by decide +kernel
/-- A state for traceClear. -/
def s_Routers_13 : State := (host.set F.HN_TRC_STAT_NEXT 3 77)
theorem wit_Routers_13 : s_Routers_13.mayWrite (.fw : Src) .HN_TRC_CTL 3 = true
    ∧ fldOf F.HN_TRC_CTL_CLEAR (0xFFFFFFFF : Word) = 1 := by decide +kernel

/-! ### ColumnShiftsAndLinks -/

/-- A state for shiftStop. -/
def s_ColumnShiftsAndLinks_1 : State := ({ host with time := 9 }.setShift 63 (some { col := 31 }))
theorem wit_ColumnShiftsAndLinks_1 : s_ColumnShiftsAndLinks_1.shift 63 = some ({ col := 31 } : ShiftRun)
    ∧ ({ col := 31 } : ShiftRun).mapped = false ∧ ({ col := 31 } : ShiftRun).col < 64
    ∧ s_ColumnShiftsAndLinks_1.flag F.CTX_STAT_BUSY 63 = false ∧ s_ColumnShiftsAndLinks_1.online 63 = false := by decide +kernel
/-- A state for shiftStop. -/
def s_ColumnShiftsAndLinks_2 : State := ((onl 63 3 host).setShift 63 (some { col := 31 }))
theorem wit_ColumnShiftsAndLinks_2 : s_ColumnShiftsAndLinks_2.shift 63 = some ({ col := 31 } : ShiftRun)
    ∧ ({ col := 31 } : ShiftRun).mapped = false ∧ ({ col := 31 } : ShiftRun).col < 64
    ∧ s_ColumnShiftsAndLinks_2.flag F.CTX_STAT_BUSY 63 = false ∧ s_ColumnShiftsAndLinks_2.online 63 = true
    ∧ s_ColumnShiftsAndLinks_2.inGang 63 = false
    ∧ (mapGet (fun _ => none) s_ColumnShiftsAndLinks_2.planes.defer 63 : Option PlaneReq) = none
    ∧ mapGet (fun _ => []) s_ColumnShiftsAndLinks_2.planes.cands (benchCol 63) = []
    ∧ s_ColumnShiftsAndLinks_2.staticPaused 63 = false
    ∧ s_ColumnShiftsAndLinks_2.get F.BENCH_SURGE_CTL_SURGE_MAX (benchCol 63) ≠ 0 := by decide +kernel
/-- A state for shiftMovePlane. -/
def s_ColumnShiftsAndLinks_3 : State := ((up (upTo 33)).setShift 63 (some { col := 31, mapped := true, planes := [7] }))
theorem wit_ColumnShiftsAndLinks_3 : 
   s_ColumnShiftsAndLinks_3.shift 63 = some ({ col := 31, mapped := true, planes := [7] } : ShiftRun)
    ∧ ({ col := 31, mapped := true, planes := [7] } : ShiftRun).planes = 7 :: ([] : List Nat)
    ∧ ({ col := 31, mapped := true, planes := [7] } : ShiftRun).mapped = true ∧ 7 < 8
    ∧ s_ColumnShiftsAndLinks_3.powered (dCfg (benchCol 63)) = true := by decide +kernel
/-- A state for shiftResume. -/
def s_ColumnShiftsAndLinks_4 : State := ({ host.set F.BENCH_SHIFT_REPAIRING 63 1 with time := 99999999 }.setShift 63 (some { col := 31, mapped := true, stopAt := 7 }))
theorem wit_ColumnShiftsAndLinks_4 : 
   s_ColumnShiftsAndLinks_4.shift 63 = some ({ col := 31, mapped := true, stopAt := 7 } : ShiftRun)
    ∧ ({ col := 31, mapped := true, stopAt := 7 } : ShiftRun).mapped = true
    ∧ ({ col := 31, mapped := true, stopAt := 7 } : ShiftRun).planes = []
    ∧ s_ColumnShiftsAndLinks_4.floorReset = 0
    ∧ (({ col := 31, mapped := true, stopAt := 7 } : ShiftRun).back = none ∨ s_ColumnShiftsAndLinks_4.online 63 = true) := by decide +kernel
/-- A state for linkRetrainDone. -/
def s_ColumnShiftsAndLinks_5 : State := ({ host with haul := { host.haul with retrain := [(559, true)], wireHard := [(580 * 559 + 3, true)] } }.set (spareFld 6) 79 3)
theorem wit_ColumnShiftsAndLinks_5 : 6 < 7
    ∧ mapGet (fun _ => false) s_ColumnShiftsAndLinks_5.haul.retrain (7 * 79 + 6) = true
    ∧ (s_ColumnShiftsAndLinks_5.haul.wireHard.filter fun y => y.1 / 580 == 7 * 79 + 6).map (fun y => y.1 % 580) = ([3] : List Nat) := by decide +kernel
/-- A state for linkRetrainDone. -/
def s_ColumnShiftsAndLinks_5b : State := { host with haul := { host.haul with retrain := [(559, true)] } }
theorem wit_ColumnShiftsAndLinks_5b : 6 < 7
    ∧ mapGet (fun _ => false) s_ColumnShiftsAndLinks_5b.haul.retrain (7 * 79 + 6) = true
    ∧ (s_ColumnShiftsAndLinks_5b.haul.wireHard.filter fun y => y.1 / 580 == 7 * 79 + 6).map (fun y => y.1 % 580) = ([] : List Nat) := by decide +kernel
/-- A state for detourTablesWritten. -/
def s_ColumnShiftsAndLinks_6 : State := ({ host with repair := { host.repair with detourDue := true } })
theorem wit_ColumnShiftsAndLinks_6 : s_ColumnShiftsAndLinks_6.repair.detourDue = true
    ∧ s_ColumnShiftsAndLinks_6.flag F.MBX_FW_STAT_FW_UP 0 = true
    ∧ s_ColumnShiftsAndLinks_6.get F.HN_EPOCH_STAT_DRAINING 0 = 0 := by decide +kernel

/-! ### Scrubbing -/

/-- A state for scrubPassStart. -/
def s_Scrubbing_1 : State := ({ host with time := 31000001, nvs := { host.nvs with scrub := [(3, 5)] } })
theorem wit_Scrubbing_1 : 3 < 4 ∧ 1 < 2 ∧ s_Scrubbing_1.powered (dCfg 3) = true ∧ s_Scrubbing_1.floorReset = 0
    ∧ (s_Scrubbing_1.scrubber 3 1).failed = false ∧ (s_Scrubbing_1.scrubber 3 1).next ≤ s_Scrubbing_1.time := by decide +kernel
/-- A state for scrubPassStart. -/
def s_Scrubbing_1b : State := ({ host with time := 31000001 })
theorem wit_Scrubbing_1b : 3 < 4 ∧ 0 < 2 ∧ s_Scrubbing_1b.powered (dCfg 3) = true
    ∧ s_Scrubbing_1b.floorReset = 0 ∧ (s_Scrubbing_1b.scrubber 3 0).failed = false
    ∧ (s_Scrubbing_1b.scrubber 3 0).next ≤ s_Scrubbing_1b.time := by decide +kernel
/-- A state for scrubFrameCompare. -/
def s_Scrubbing_2 : State := ((((host.setPlaneSt 63 7 psReady).setHome 63 7 (some 1023)).setSlotSt 4095 2).setPlaneFrame 63 7 9 (2 ^ 511 + 1) |>.setScrubber 3 1 { pos := some (15, 7, 9), home := some 1023 })
theorem wit_Scrubbing_2 : 3 < 4 ∧ 1 < 2 ∧ s_Scrubbing_2.powered (dCfg 3) = true ∧ s_Scrubbing_2.floorReset = 0
    ∧ (s_Scrubbing_2.scrubber 3 1).pos = some (15, 7, 9) ∧ 9 ≠ 0 ∧ s_Scrubbing_2.inScope (16 * 3 + 15) 7 = true
    ∧ s_Scrubbing_2.home (16 * 3 + 15) 7 = (s_Scrubbing_2.scrubber 3 1).home
    ∧ 4095 = 1024 * 3 + (s_Scrubbing_2.scrubber 3 1).home.getD 0 ∧ votedRo (s_Scrubbing_2.scrubber 3 1) = false
    ∧ (slotDecode (s_Scrubbing_2.slotWord 4095 9)).kind = .clean := by decide +kernel
/-- A state for scrubFrameCompare. -/
def s_Scrubbing_3 : State := (((host.setPlaneSt 63 7 psReady).setHome 63 7 (some 1023)).setSlotSt 4095 2 |>.setScrubber 3 1 { pos := some (15, 7, 0), home := some 1023 })
theorem wit_Scrubbing_3 : 3 < 4 ∧ 1 < 2 ∧ s_Scrubbing_3.powered (dCfg 3) = true ∧ s_Scrubbing_3.floorReset = 0
    ∧ (s_Scrubbing_3.scrubber 3 1).pos = some (15, 7, 0) ∧ (s_Scrubbing_3.scrubber 3 1).home = some 1023
    ∧ 15 < 16 ∧ s_Scrubbing_3.inScope (16 * 3 + 15) 7 = true ∧ s_Scrubbing_3.home (16 * 3 + 15) 7 = some 1023
    ∧ (slotDecode (s_Scrubbing_3.slotWord (1024 * 3 + 1023) 0)).kind = .clean := by decide +kernel
/-- A state for scrubRestore. -/
def s_Scrubbing_4 : State := (((host.setPlaneSt 63 7 psReady).setHome 63 7 (some 1023)).setScrubber 3 1 { restores := [⟨63, 7, 9, 511, 1, 1023⟩] })
theorem wit_Scrubbing_4 : 3 < 4 ∧ 1 < 2 ∧ s_Scrubbing_4.powered (dCfg 3) = true ∧ s_Scrubbing_4.floorReset = 0
    ∧ (s_Scrubbing_4.scrubber 3 1).restores = (⟨63, 7, 9, 511, 1, 1023⟩ : Restore) :: ([] : List Restore) := by decide +kernel
/-- A state for scrubRestore. -/
def s_Scrubbing_4b : State := ((host.setPlaneSt 63 7 psReady).setScrubber 3 1 { restores := [⟨63, 7, 9, 511, 1, 1023⟩] })
theorem wit_Scrubbing_4b : 3 < 4 ∧ 1 < 2 ∧ s_Scrubbing_4b.powered (dCfg 3) = true
    ∧ s_Scrubbing_4b.floorReset = 0
    ∧ (s_Scrubbing_4b.scrubber 3 1).restores = (⟨63, 7, 9, 511, 1, 1023⟩ : Restore) :: ([] : List Restore) := by decide +kernel
/-- A state for scrubStateParityCheck. -/
def s_Scrubbing_5 : State := (host.setPlaneSt 63 7 psReady |>.setScrubber 3 1 { par := some [] })
theorem wit_Scrubbing_5 : 63 < 64 ∧ 7 < 8 ∧ s_Scrubbing_5.powered (dCfg (benchCol 63)) = true
    ∧ s_Scrubbing_5.benchUp 63 = true ∧ s_Scrubbing_5.floorReset = 0 ∧ s_Scrubbing_5.planeSt 63 7 = psReady
    ∧ s_Scrubbing_5.stateScrubber 63 7 = some 1
    ∧ mapGet (fun _ => []) s_Scrubbing_5.planes.parSeen (8 * 63 + 7) = [] := by decide +kernel
/-- A state for scrubStateParityCheck. -/
def s_Scrubbing_5b : State := (host.setPlaneSt 63 7 psReady |>.setPlaneFrame 63 7 ffRun 1 |>.setScrubber 3 0 { par := some [5], all := true })
theorem wit_Scrubbing_5b : 63 < 64 ∧ 7 < 8 ∧ s_Scrubbing_5b.powered (dCfg (benchCol 63)) = true
    ∧ s_Scrubbing_5b.benchUp 63 = true ∧ s_Scrubbing_5b.floorReset = 0 ∧ s_Scrubbing_5b.planeSt 63 7 = psReady
    ∧ s_Scrubbing_5b.stateScrubber 63 7 = some 0
    ∧ mapGet (fun _ => []) s_Scrubbing_5b.planes.parSeen (8 * 63 + 7) = [] := by decide +kernel

/-! ### LaneBringUp -/

/-- A state for detectStep. -/
def s_LaneBringUp_1 : State := ((host.set F.LANE_STAT_STATE 63 1).setLane 63 { cnt := 1 })
theorem wit_LaneBringUp_1 : s_LaneBringUp_1.laneUp 63 = true ∧ s_LaneBringUp_1.laneSt 63 = lnDetect := by decide +kernel
/-- A state for detectStep. -/
def s_LaneBringUp_1b : State := (host.set F.LANE_STAT_STATE 63 1)
theorem wit_LaneBringUp_1b : s_LaneBringUp_1b.laneUp 63 = true ∧ s_LaneBringUp_1b.laneSt 63 = lnDetect := by decide +kernel
/-- A state for detectStep. -/
def s_LaneBringUp_1c : State := ((host.set F.LANE_STAT_STATE 63 1).setLane 63 { cnt := 1 })
theorem wit_LaneBringUp_1c : s_LaneBringUp_1c.laneUp 63 = true ∧ s_LaneBringUp_1c.laneSt 63 = lnDetect := by decide +kernel
/-- A state for trainingFrame. -/
def s_LaneBringUp_2 : State := ((host.set F.LANE_STAT_STATE 63 2 |>.set F.ETH_OCT_CFG_LANES 7 0x80000000).setLane 63 { cnt := 2 })
theorem wit_LaneBringUp_2 : s_LaneBringUp_2.laneUp 63 = true ∧ s_LaneBringUp_2.isRaw 63 = true
    ∧ s_LaneBringUp_2.laneSt 63 = lnTrain
    ∧ crc16 (wordBytes (2 ^ 12 + 2 ^ 13 + 0x19)) = (crc16 (wordBytes (2 ^ 12 + 2 ^ 13 + 0x19))) := by decide +kernel
/-- A state for trainingFrame. -/
def s_LaneBringUp_2b : State := ((host.set F.LANE_STAT_STATE 63 2 |>.set F.ETH_OCT_CFG_LANES 7 0xC0000000).setLane 63 { cnt := 2 })
theorem wit_LaneBringUp_2b : s_LaneBringUp_2b.laneUp 63 = true ∧ s_LaneBringUp_2b.isRaw 63 = true
    ∧ s_LaneBringUp_2b.laneSt 63 = lnTrain ∧ crc16 (wordBytes 0) = (crc16 (wordBytes 0)) := by decide +kernel
/-- A state for trainingFrame. -/
def s_LaneBringUp_3 : State := (host.set F.LANE_STAT_STATE 63 2 |>.set F.ETH_OCT_CFG_LANES 7 0x80000000)
theorem wit_LaneBringUp_3 : crc16 (wordBytes 0) ≠ 70000 := by decide +kernel
/-- A state for linkTrainingFrame. -/
def s_LaneBringUp_4 : State := (host.set F.LANE_STAT_STATE 62 2 |>.set F.ETH_OCT_CFG_LANES 7 0x55000000)
theorem wit_LaneBringUp_4 : s_LaneBringUp_4.laneUp 63 = true ∧ s_LaneBringUp_4.isEth 63 = true
    ∧ s_LaneBringUp_4.laneSt (s_LaneBringUp_4.laneHead 63) = lnTrain := by decide +kernel
/-- A state for lockFrame. -/
def s_LaneBringUp_5 : State := ((host.set F.LANE_STAT_STATE 62 3 |>.set F.LANE_STAT_LOL 62 1 |>.set F.ETH_OCT_CFG_LANES 7 0x55000000).setLane 62 { cnt := 15 })
theorem wit_LaneBringUp_5 : s_LaneBringUp_5.laneUp 63 = true
    ∧ s_LaneBringUp_5.laneSt (s_LaneBringUp_5.laneHead 63) = lnLock := by decide +kernel
/-- A state for lockFrame. -/
def s_LaneBringUp_5b : State := ((host.set F.LANE_STAT_STATE 62 3 |>.set F.ETH_OCT_CFG_LANES 7 0x55000000).setLane 62 { cnt := 15 })
theorem wit_LaneBringUp_5b : s_LaneBringUp_5b.laneUp 63 = true
    ∧ s_LaneBringUp_5b.laneSt (s_LaneBringUp_5b.laneHead 63) = lnLock := by decide +kernel
/-- A state for lockFrame. -/
def s_LaneBringUp_5c : State := ((host.set F.LANE_STAT_STATE 62 3 |>.set F.ETH_OCT_CFG_LANES 7 0x55000000).setLane 62 { cnt := 14 })
theorem wit_LaneBringUp_5c : s_LaneBringUp_5c.laneUp 63 = true
    ∧ s_LaneBringUp_5c.laneSt (s_LaneBringUp_5c.laneHead 63) = lnLock := by decide +kernel
/-- A state for lockFrame. -/
def s_LaneBringUp_5d : State := ((host.set F.LANE_STAT_STATE 62 3 |>.set F.ETH_OCT_CFG_LANES 7 0x55000000).setLane 62 { cnt := 15 })
theorem wit_LaneBringUp_5d : s_LaneBringUp_5d.laneUp 63 = true
    ∧ s_LaneBringUp_5d.laneSt (s_LaneBringUp_5d.laneHead 63) = lnLock := by decide +kernel
/-- A state for autoNegotiationPage. -/
def s_LaneBringUp_6 : State := (host.set F.LANE_STAT_STATE 62 4 |>.set F.ETH_OCT_CFG_LANES 7 0x55000000)
theorem wit_LaneBringUp_6 : s_LaneBringUp_6.laneUp 63 = true ∧ s_LaneBringUp_6.isEth 63 = true
    ∧ s_LaneBringUp_6.laneSt (s_LaneBringUp_6.laneHead 63) = lnExchange := by decide +kernel
/-- A state for autoNegotiationPage. -/
def s_LaneBringUp_6b : State := (host.set F.LANE_STAT_STATE 62 4 |>.set F.ETH_OCT_CFG_LANES 7 0x55000000)
theorem wit_LaneBringUp_6b : s_LaneBringUp_6b.laneUp 63 = true ∧ s_LaneBringUp_6b.isEth 63 = true
    ∧ s_LaneBringUp_6b.laneSt (s_LaneBringUp_6b.laneHead 63) = lnExchange := by decide +kernel
/-- A state for capabilityFrame. -/
def s_LaneBringUp_7 : State := ((host.set F.LANE_STAT_STATE 63 4 |>.set F.ETH_OCT_CFG_LANES 7 0x80000000).setLane 63 { cnt := 2, gotReady := true })
theorem wit_LaneBringUp_7 : s_LaneBringUp_7.laneUp 63 = true ∧ s_LaneBringUp_7.isRaw 63 = true
    ∧ s_LaneBringUp_7.laneSt 63 = lnExchange := by decide +kernel
/-- A state for capabilityFrame. -/
def s_LaneBringUp_7b : State := ((host.set F.LANE_STAT_STATE 63 4 |>.set F.ETH_OCT_CFG_LANES 7 0x80000000).setLane 63 { cnt := 1 })
theorem wit_LaneBringUp_7b : s_LaneBringUp_7b.laneUp 63 = true ∧ s_LaneBringUp_7b.isRaw 63 = true
    ∧ s_LaneBringUp_7b.laneSt 63 = lnExchange := by decide +kernel
/-- A state for capabilityFrame. -/
def s_LaneBringUp_8 : State := (host.set F.LANE_STAT_STATE 63 4 |>.set F.ETH_OCT_CFG_LANES 7 0x80000000)
theorem wit_LaneBringUp_8 : 
   false = ((s_LaneBringUp_8.lane 63).gotReady || bitOf (0x4B56 + 2 ^ 16 + 2 * 2 ^ 20 + 2 ^ 63 + 2 ^ 127) 64 == 1)
    ∧ s_LaneBringUp_8.laneUp 63 = true ∧ s_LaneBringUp_8.isRaw 63 = true
    ∧ s_LaneBringUp_8.laneSt 63 = lnExchange
    ∧ bitsOf (0x4B56 + 2 ^ 16 + 2 * 2 ^ 20 + 2 ^ 63 + 2 ^ 127) 0 16 = 0x4B56
    ∧ bitsOf (0x4B56 + 2 ^ 16 + 2 * 2 ^ 20 + 2 ^ 63 + 2 ^ 127) 16 4 = 1
    ∧ crc32c (leBytes 32 (0x4B56 + 2 ^ 16 + 2 * 2 ^ 20 + 2 ^ 63 + 2 ^ 127)) = (crc32c (leBytes 32 (0x4B56 + 2 ^ 16 + 2 * 2 ^ 20 + 2 ^ 63 + 2 ^ 127))) := by decide +kernel
/-- A state for capabilityFrame. -/
def s_LaneBringUp_8b : State := (host.set F.LANE_STAT_STATE 63 4 |>.set F.ETH_OCT_CFG_LANES 7 0x80000000)
theorem wit_LaneBringUp_8b : 
   false = ((s_LaneBringUp_8b.lane 63).gotReady || bitOf (0x4B56 + 2 ^ 16 + 3 * 2 ^ 20) 64 == 1)
    ∧ s_LaneBringUp_8b.laneUp 63 = true ∧ s_LaneBringUp_8b.isRaw 63 = true
    ∧ s_LaneBringUp_8b.laneSt 63 = lnExchange ∧ bitsOf (0x4B56 + 2 ^ 16 + 3 * 2 ^ 20) 0 16 = 0x4B56
    ∧ bitsOf (0x4B56 + 2 ^ 16 + 3 * 2 ^ 20) 16 4 = 1
    ∧ crc32c (leBytes 32 (0x4B56 + 2 ^ 16 + 3 * 2 ^ 20)) = (crc32c (leBytes 32 (0x4B56 + 2 ^ 16 + 3 * 2 ^ 20))) := by decide +kernel
/-- A state for capabilityFrame. -/
def s_LaneBringUp_8c : State := (host.set F.LANE_STAT_STATE 63 4 |>.set F.LANE_CTL_PEER_CHK 63 1 |>.set F.ETH_OCT_CFG_LANES 7 0x80000000)
theorem wit_LaneBringUp_8c : 
   false = ((s_LaneBringUp_8c.lane 63).gotReady || bitOf (0x4B56 + 2 ^ 16 + 2 * 2 ^ 20 + 2 ^ 63) 64 == 1)
    ∧ s_LaneBringUp_8c.laneUp 63 = true ∧ s_LaneBringUp_8c.isRaw 63 = true
    ∧ s_LaneBringUp_8c.laneSt 63 = lnExchange ∧ bitsOf (0x4B56 + 2 ^ 16 + 2 * 2 ^ 20 + 2 ^ 63) 0 16 = 0x4B56
    ∧ bitsOf (0x4B56 + 2 ^ 16 + 2 * 2 ^ 20 + 2 ^ 63) 16 4 = 1
    ∧ crc32c (leBytes 32 (0x4B56 + 2 ^ 16 + 2 * 2 ^ 20 + 2 ^ 63)) = (crc32c (leBytes 32 (0x4B56 + 2 ^ 16 + 2 * 2 ^ 20 + 2 ^ 63))) := by decide +kernel
/-- A state for capabilityFrame. -/
def s_LaneBringUp_8d : State := ((host.set F.LANE_STAT_STATE 63 4 |>.set F.ETH_OCT_CFG_LANES 7 0x80000000).setLane 63 { cnt := 2 })
theorem wit_LaneBringUp_8d : 
   true = ((s_LaneBringUp_8d.lane 63).gotReady || bitOf (0x4B56 + 2 ^ 16 + 2 * 2 ^ 20 + 2 ^ 64) 64 == 1)
    ∧ s_LaneBringUp_8d.laneUp 63 = true ∧ s_LaneBringUp_8d.isRaw 63 = true
    ∧ s_LaneBringUp_8d.laneSt 63 = lnExchange ∧ bitsOf (0x4B56 + 2 ^ 16 + 2 * 2 ^ 20 + 2 ^ 64) 0 16 = 0x4B56
    ∧ bitsOf (0x4B56 + 2 ^ 16 + 2 * 2 ^ 20 + 2 ^ 64) 16 4 = 1
    ∧ crc32c (leBytes 32 (0x4B56 + 2 ^ 16 + 2 * 2 ^ 20 + 2 ^ 64)) = (crc32c (leBytes 32 (0x4B56 + 2 ^ 16 + 2 * 2 ^ 20 + 2 ^ 64))) := by decide +kernel
/-- A state for capabilityFrame. -/
def s_LaneBringUp_9 : State := ((host.set F.LANE_STAT_STATE 63 4 |>.set F.ETH_OCT_CFG_LANES 7 0x80000000).setLane 63 { cnt := 1 })
theorem wit_LaneBringUp_9 : s_LaneBringUp_9.laneUp 63 = true ∧ s_LaneBringUp_9.isRaw 63 = true
    ∧ s_LaneBringUp_9.laneSt 63 = lnExchange ∧ crc32c (leBytes 32 1) ≠ 0 := by decide +kernel
/-- A state for laneTimerExpiry. -/
def s_LaneBringUp_10 : State := ({ host with time := 1000000 }.set F.LANE_STAT_STATE 63 3)
theorem wit_LaneBringUp_10 : s_LaneBringUp_10.laneUp 63 = true
    ∧ s_LaneBringUp_10.laneTimer (s_LaneBringUp_10.laneHead 63) = some 1000000
    ∧ (s_LaneBringUp_10.lane (s_LaneBringUp_10.laneHead 63)).since + 1000000 ≤ s_LaneBringUp_10.time := by decide +kernel
/-- A state for laneTimerExpiry. -/
def s_LaneBringUp_10b : State := ({ host with time := 4000000 }.set F.LANE_STAT_STATE 63 2 |>.set F.LANE_CTL_TRAIN_TMO 63 1)
theorem wit_LaneBringUp_10b : s_LaneBringUp_10b.laneUp 63 = true
    ∧ s_LaneBringUp_10b.laneTimer (s_LaneBringUp_10b.laneHead 63) = some 4000000
    ∧ (s_LaneBringUp_10b.lane (s_LaneBringUp_10b.laneHead 63)).since + 4000000 ≤ s_LaneBringUp_10b.time := by decide +kernel
/-- A state for faultRestartTimer. -/
def s_LaneBringUp_11 : State := ({ host with time := 1000000 }.set F.LANE_STAT_STATE 63 6 |>.set F.LANE_CTL_AUTO_RESTART 63 1 |>.set F.LANE_CTL_DETECT_EN 63 1 |>.set F.ETH_OCT_CFG_LANES 7 0x80000000)
theorem wit_LaneBringUp_11 : s_LaneBringUp_11.laneUp 63 = true
    ∧ s_LaneBringUp_11.laneSt (s_LaneBringUp_11.laneHead 63) = lnFault
    ∧ s_LaneBringUp_11.flag F.LANE_CTL_AUTO_RESTART (s_LaneBringUp_11.laneHead 63) = true
    ∧ (s_LaneBringUp_11.lane (s_LaneBringUp_11.laneHead 63)).since + 1000000 ≤ s_LaneBringUp_11.time := by decide +kernel
/-- A state for faultRestartTimer. -/
def s_LaneBringUp_11b : State := ({ host with time := 1000000 }.set F.LANE_STAT_STATE 62 6 |>.set F.LANE_CTL_AUTO_RESTART 62 1 |>.set F.LANE_CTL_DETECT_EN 62 1 |>.set F.ETH_OCT_CFG_LANES 7 0x55000000)
theorem wit_LaneBringUp_11b : s_LaneBringUp_11b.laneUp 63 = true
    ∧ s_LaneBringUp_11b.laneSt (s_LaneBringUp_11b.laneHead 63) = lnFault
    ∧ s_LaneBringUp_11b.flag F.LANE_CTL_AUTO_RESTART (s_LaneBringUp_11b.laneHead 63) = true
    ∧ (s_LaneBringUp_11b.lane (s_LaneBringUp_11b.laneHead 63)).since + 1000000 ≤ s_LaneBringUp_11b.time := by decide +kernel
/-- A state for faultRestartTimer. -/
def s_LaneBringUp_11c : State := ({ host with time := 1000000 }.set F.LANE_STAT_STATE 63 6 |>.set F.LANE_CTL_AUTO_RESTART 63 1)
theorem wit_LaneBringUp_11c : s_LaneBringUp_11c.laneUp 63 = true
    ∧ s_LaneBringUp_11c.laneSt (s_LaneBringUp_11c.laneHead 63) = lnFault
    ∧ s_LaneBringUp_11c.flag F.LANE_CTL_AUTO_RESTART (s_LaneBringUp_11c.laneHead 63) = true
    ∧ (s_LaneBringUp_11c.lane (s_LaneBringUp_11c.laneHead 63)).since + 1000000 ≤ s_LaneBringUp_11c.time := by decide +kernel
/-- A state for losAssert. -/
def s_LaneBringUp_12 : State := (host.set F.LANE_STAT_STATE 62 5 |>.set F.ETH_OCT_CFG_LANES 7 0x55000000)
theorem wit_LaneBringUp_12 : s_LaneBringUp_12.laneUp 63 = true ∧ s_LaneBringUp_12.laneBlank 63 = false := by decide +kernel
/-- A state for losAssert. -/
def s_LaneBringUp_12b : State := host
theorem wit_LaneBringUp_12b : s_LaneBringUp_12b.laneUp 63 = true ∧ s_LaneBringUp_12b.laneBlank 63 = false := by decide +kernel
/-- A state for losAssert. -/
def s_LaneBringUp_13 : State := { host with lanes := { blank := [(7, some 0)] } }
theorem wit_LaneBringUp_13 : s_LaneBringUp_13.laneBlank 63 = true := by decide +kernel
/-- A state for losClear. -/
def s_LaneBringUp_14 : State := (host.set F.LANE_STAT_LOS 63 1)
theorem wit_LaneBringUp_14 : s_LaneBringUp_14.laneUp 63 = true := by decide +kernel
/-- A state for lolAssert. -/
def s_LaneBringUp_15 : State := (host.set F.LANE_STAT_STATE 62 5 |>.set F.ETH_OCT_CFG_LANES 7 0x55000000)
theorem wit_LaneBringUp_15 : s_LaneBringUp_15.laneUp 63 = true ∧ s_LaneBringUp_15.laneBlank 63 = false := by decide +kernel
/-- A state for lolAssert. -/
def s_LaneBringUp_15b : State := host
theorem wit_LaneBringUp_15b : s_LaneBringUp_15b.laneUp 63 = true ∧ s_LaneBringUp_15b.laneBlank 63 = false := by decide +kernel
/-- A state for laneRestart. -/
def s_LaneBringUp_16 : State := (host.set F.LANE_STAT_STATE 62 5 |>.set F.ETH_OCT_CFG_LANES 7 0x55000000)
theorem wit_LaneBringUp_16 : s_LaneBringUp_16.mayWrite ((.pf 0) : Src) .LANE_CTL 63 = true := by decide +kernel
/-- A state for laneRestart. -/
def s_LaneBringUp_16b : State := (host.set F.LANE_STAT_STATE 62 0 |>.set F.ETH_OCT_CFG_LANES 7 0x55000000)
theorem wit_LaneBringUp_16b : s_LaneBringUp_16b.mayWrite ((.pf 0) : Src) .LANE_CTL 63 = true := by decide +kernel
/-- A state for laneRestart. -/
def s_LaneBringUp_16c : State := host
theorem wit_LaneBringUp_16c : s_LaneBringUp_16c.mayWrite (.fw : Src) .LANE_CTL 63 = true := by decide +kernel

/-! ### LaneTraffic -/

/-- A state for octCfgWrite. -/
def s_LaneTraffic_1 : State := (host.set F.ETH_OCT_CFG_LANES 7 0x80000000 |>.set F.LANE_STAT_STATE 63 5)
theorem wit_LaneTraffic_1 : s_LaneTraffic_1.mayWrite (.fw : Src) .ETH_OCT_CFG 7 = true := by decide +kernel
/-- A state for octCfgWrite. -/
def s_LaneTraffic_1b : State := (host.set F.HLU_BOARD_VALUE 12 0x7FFFFFFF)
theorem wit_LaneTraffic_1b : s_LaneTraffic_1b.mayWrite (.fw : Src) .ETH_OCT_CFG 7 = true := by decide +kernel
/-- A state for octCfgWrite. -/
def s_LaneTraffic_1c : State := (host.set F.HLU_BOARD_VALUE 11 0x7FFFFFFF)
theorem wit_LaneTraffic_1c : s_LaneTraffic_1c.mayWrite (.fw : Src) .ETH_OCT_CFG 3 = true := by decide +kernel
/-- A state for octCfgWrite. -/
def s_LaneTraffic_1d : State := host
theorem wit_LaneTraffic_1d : s_LaneTraffic_1d.mayWrite (.fw : Src) .ETH_OCT_CFG 7 = true := by decide +kernel
/-- A state for rawRxItem. -/
def s_LaneTraffic_2 : State := ((host.set F.ETH_OCT_CFG_LANES 7 0xC0000000 |>.set F.LANE_STAT_STATE 63 5).setLane 63 { rxItem := 1 })
theorem wit_LaneTraffic_2 : s_LaneTraffic_2.laneUp 63 = true
    ∧ s_LaneTraffic_2.flag F.LANE_PRBS_CHK_EN 63 = false ∧ s_LaneTraffic_2.laneMode 63 = 3
    ∧ s_LaneTraffic_2.laneSt 63 = lnActive := by decide +kernel
/-- A state for rawRxItem. -/
def s_LaneTraffic_2b : State := { (host.set F.ETH_OCT_CFG_LANES 7 0xC0000000 |>.set F.LANE_STAT_STATE 63 5).setLane 63 { rxItem := 1 } with floorReset := 2 }
theorem wit_LaneTraffic_2b : s_LaneTraffic_2b.laneUp 63 = true
    ∧ s_LaneTraffic_2b.flag F.LANE_PRBS_CHK_EN 63 = false ∧ s_LaneTraffic_2b.laneMode 63 = 3
    ∧ s_LaneTraffic_2b.laneSt 63 = lnActive := by decide +kernel
/-- A state for rawTxItem. -/
def s_LaneTraffic_3 : State := ((host.set F.ETH_OCT_CFG_LANES 7 0xC0000000 |>.set F.LANE_STAT_STATE 63 5).setLane 63 { txItem := 1 })
theorem wit_LaneTraffic_3 : s_LaneTraffic_3.laneUp 63 = true ∧ s_LaneTraffic_3.isRaw 63 = true
    ∧ s_LaneTraffic_3.laneSt 63 = lnActive ∧ s_LaneTraffic_3.flag F.LANE_PRBS_GEN_EN 63 = false := by decide +kernel
/-- A state for rawTxItem. -/
def s_LaneTraffic_3b : State := (host.set F.ETH_OCT_CFG_LANES 7 0x80000000 |>.set F.LANE_STAT_STATE 63 5 |>.set F.LANE_TX_TX_DIS 63 1)
theorem wit_LaneTraffic_3b : s_LaneTraffic_3b.laneUp 63 = true ∧ s_LaneTraffic_3b.isRaw 63 = true
    ∧ s_LaneTraffic_3b.laneSt 63 = lnActive ∧ s_LaneTraffic_3b.flag F.LANE_PRBS_GEN_EN 63 = false := by decide +kernel
/-- A state for ethRxFrame. -/
def s_LaneTraffic_4 : State := (host.set F.ETH_OCT_CFG_LANES 7 0x40000000 |>.set F.LANE_STAT_STATE 63 5)
theorem wit_LaneTraffic_4 : s_LaneTraffic_4.laneLive 63 = true ∧ s_LaneTraffic_4.isEth 63 = true
    ∧ s_LaneTraffic_4.laneHead 63 = 63 ∧ s_LaneTraffic_4.floorReset = 0 ∧ s_LaneTraffic_4.laneBlank 63 = false
    ∧ s_LaneTraffic_4.flag F.LANE_PRBS_CHK_EN 63 = false := by decide +kernel
/-- A state for ethRxFrame. -/
def s_LaneTraffic_4b : State := (host.set F.ETH_OCT_CFG_LANES 7 0x40000000 |>.set F.LANE_STAT_STATE 63 5 |>.set F.ETH_PORT_CFG_FCS_DROP 63 1)
theorem wit_LaneTraffic_4b : s_LaneTraffic_4b.laneLive 63 = true ∧ s_LaneTraffic_4b.isEth 63 = true
    ∧ s_LaneTraffic_4b.laneHead 63 = 63 ∧ s_LaneTraffic_4b.floorReset = 0
    ∧ s_LaneTraffic_4b.laneBlank 63 = false ∧ s_LaneTraffic_4b.flag F.LANE_PRBS_CHK_EN 63 = false := by decide +kernel
/-- A state for ethRxFrame. -/
def s_LaneTraffic_4c : State := (host.set F.ETH_OCT_CFG_LANES 7 0x40000000 |>.set F.LANE_STAT_STATE 63 5 |>.set F.ETH_PORT_CFG_FCS_DROP 63 1)
theorem wit_LaneTraffic_4c : s_LaneTraffic_4c.laneLive 63 = true ∧ s_LaneTraffic_4c.isEth 63 = true
    ∧ s_LaneTraffic_4c.laneHead 63 = 63 ∧ s_LaneTraffic_4c.floorReset = 0
    ∧ s_LaneTraffic_4c.laneBlank 63 = false ∧ s_LaneTraffic_4c.flag F.LANE_PRBS_CHK_EN 63 = false := by decide +kernel
/-- A state for ethTxFrame. -/
def s_LaneTraffic_5 : State := (((host.set F.ETH_OCT_CFG_LANES 7 0x40000000 |>.set F.LANE_STAT_STATE 63 5).set F.HOP_CFG_RD_SRC 2046 6 |>.set F.HOP_CFG_LANE 2046 63 |>.set F.HOP_CFG_PKT 2046 1 |>.set F.HOP_OWNER_OWN_VALID 2046 1 |>.setReg .BENCH_LANE_TX_HI 63 0x80000000).setHop 2046 { asm := [8], asmLen := some (false, 2), slots := [.data 0x0807060504030201], wr := 5, pub := 5, pubSeen := 5, rd := 4 })
theorem wit_LaneTraffic_5 : s_LaneTraffic_5.laneLive 63 = true ∧ s_LaneTraffic_5.isEth 63 = true
    ∧ s_LaneTraffic_5.laneHead 63 = 63 ∧ s_LaneTraffic_5.floorReset = 0
    ∧ s_LaneTraffic_5.flag F.LANE_PRBS_GEN_EN 63 = false ∧ s_LaneTraffic_5.flag F.LANE_TX_TX_DIS 63 = false
    ∧ ((s_LaneTraffic_5.portWays 63 false (s_LaneTraffic_5.lane 63).txWay).find? fun k => !s_LaneTraffic_5.wayFenced 63 k false && s_LaneTraffic_5.hopRvalid k) = some 2046
    ∧ s_LaneTraffic_5.reachesBench (63 / 16) (2046 / 32) true = true
    ∧ (s_LaneTraffic_5.fillPort 2046).asmWhole 2046 = true ∧ s_LaneTraffic_5.hopWidth 2046 = 72
    ∧ ((s_LaneTraffic_5.fillPort 2046).hop 2046).asm = 8 :: ([0x0807060504030201] : List Nat)
    ∧ ((s_LaneTraffic_5.fillPort 2046).hop 2046).asmLen = some (false, 1 + (bitsOf 8 0 14 + 7) / 8)
    ∧ bitsOf 8 0 14 + 4 ≤ s_LaneTraffic_5.get F.ETH_PORT_CFG_MAX_FRAME 63 := by decide +kernel
/-- A state for txtsRead. -/
def s_LaneTraffic_6 : State := (host.setLane 63 { txts := [(65535, 2 ^ 64 - 2, 255), (1, 2, 3)] })
theorem wit_LaneTraffic_6 : s_LaneTraffic_6.laneUp 63 = true
    ∧ (s_LaneTraffic_6.lane 63).txts = (65535, (2 ^ 64 - 2), 255) :: ([(1, 2, 3)] : List (Nat × Nat × Nat)) := by decide +kernel
/-- A state for txtsRead. -/
def s_LaneTraffic_7 : State := (host.set F.ETH_TXTS_ID_VALID 63 1)
theorem wit_LaneTraffic_7 : s_LaneTraffic_7.laneUp 63 = true ∧ (s_LaneTraffic_7.lane 63).txts = [] := by decide +kernel
/-- A state for lanePrbsWrite. -/
def s_LaneTraffic_8 : State := (host.set F.LANE_PRBS_CHK_LOCK 63 1 |>.set F.LANE_PRBS_ERR_ERRORS 63 9)
theorem wit_LaneTraffic_8 : s_LaneTraffic_8.mayWrite ((.pf 1) : Src) .LANE_PRBS 63 = true := by decide +kernel
/-- A state for lanePrbsWrite. -/
def s_LaneTraffic_8b : State := (host.set F.LANE_PRBS_CHK_LOCK 63 1)
theorem wit_LaneTraffic_8b : s_LaneTraffic_8b.mayWrite ((.pf 1) : Src) .LANE_PRBS 63 = true := by decide +kernel
/-- A state for prbsInject. -/
def s_LaneTraffic_9 : State := host
theorem wit_LaneTraffic_9 : s_LaneTraffic_9.mayWrite ((.pf 1) : Src) .LANE_PRBS 63 = true
    ∧ (fldOf F.LANE_PRBS_INJ_1 (0x20000000 : Word) = 1 ∨ fldOf F.LANE_PRBS_INJ_BURST (0x20000000 : Word) = 1) := by decide +kernel
/-- A state for prbsInject. -/
def s_LaneTraffic_9b : State := host
theorem wit_LaneTraffic_9b : s_LaneTraffic_9b.mayWrite ((.pf 1) : Src) .LANE_PRBS 63 = true
    ∧ (fldOf F.LANE_PRBS_INJ_1 (0x10FF0000 : Word) = 1 ∨ fldOf F.LANE_PRBS_INJ_BURST (0x10FF0000 : Word) = 1) := by decide +kernel
/-- A state for prbsInject. -/
def s_LaneTraffic_9c : State := (host.setLane 63 { inj := 5 })
theorem wit_LaneTraffic_9c : s_LaneTraffic_9c.mayWrite ((.pf 1) : Src) .LANE_PRBS 63 = true
    ∧ (fldOf F.LANE_PRBS_INJ_1 (0x20FF0000 : Word) = 1 ∨ fldOf F.LANE_PRBS_INJ_BURST (0x20FF0000 : Word) = 1) := by decide +kernel
/-- A state for elementRecalStart. -/
def s_LaneTraffic_10 : State := host
theorem wit_LaneTraffic_10 : s_LaneTraffic_10.laneUp 63 = true ∧ 71 < 72
    ∧ (s_LaneTraffic_10.lane 63).elem = none ∧ (s_LaneTraffic_10.lane 63).retired.contains 71 = false := by decide +kernel
/-- A state for elementRecalDone. -/
def s_LaneTraffic_11 : State := (host.setLane 63 { elem := some 71 })
theorem wit_LaneTraffic_11 : (s_LaneTraffic_11.lane 63).elem = some 71 := by decide +kernel
/-- A state for elementRecalDone. -/
def s_LaneTraffic_11b : State := (host.setLane 63 { elem := some 71 } |>.setCal 3 (72 * 63 + 71) { bg := 7, keep := true })
theorem wit_LaneTraffic_11b : (s_LaneTraffic_11b.lane 63).elem = some 71 := by decide +kernel
/-- A state for elementRecalDone. -/
def s_LaneTraffic_11c : State := (host.setLane 63 { elem := some 3, retired := [1] })
theorem wit_LaneTraffic_11c : (s_LaneTraffic_11c.lane 63).elem = some 3 := by decide +kernel
/-- A state for elementRecalDone. -/
def s_LaneTraffic_11d : State := (host.setLane 63 { elem := some 4, retired := [1, 5, 6, 7] })
theorem wit_LaneTraffic_11d : (s_LaneTraffic_11d.lane 63).elem = some 4 := by decide +kernel
/-- A state for twinBlankEnd. -/
def s_LaneTraffic_12 : State := ({ host with time := 5000, lanes := { blank := [(7, some 0)] } }.set F.LANE_STAT_STATE 62 5 |>.set F.ETH_OCT_CFG_LANES 7 0x55000000)
theorem wit_LaneTraffic_12 : 7 < 8 ∧ 7 < 8 ∧ mapGet (fun _ => none) s_LaneTraffic_12.lanes.blank 7 = some 0
    ∧ 0 + 5000 ≤ s_LaneTraffic_12.time := by decide +kernel
/-- A state for twinBlankEnd. -/
def s_LaneTraffic_13 : State := { host with time := 5000, lanes := { blank := [(7, some 0)] } }
theorem wit_LaneTraffic_13 : 7 < 8 ∧ mapGet (fun _ => none) s_LaneTraffic_13.lanes.blank 7 = some 0
    ∧ 0 + 5000 ≤ s_LaneTraffic_13.time := by decide +kernel

/-! ### ClockSources -/

/-- A state for oscStable. -/
def s_ClockSources_1 : State := host
theorem wit_ClockSources_1 : 0 < 3 ∧ s_ClockSources_1.oscStable 0 = false
    ∧ s_ClockSources_1.flag (oscFailFld 0) 0 = false := by decide +kernel
/-- A state for oscStable. -/
def s_ClockSources_1b : State := host
theorem wit_ClockSources_1b : 1 < 3 ∧ s_ClockSources_1b.oscStable 1 = false
    ∧ s_ClockSources_1b.flag (oscFailFld 1) 0 = false := by decide +kernel
/-- A state for oscStable. -/
def s_ClockSources_1c : State := (host.set F.CLK_OSC_STAT_DT_SRC 0 1)
theorem wit_ClockSources_1c : 2 < 3 ∧ s_ClockSources_1c.oscStable 2 = false
    ∧ s_ClockSources_1c.flag (oscFailFld 2) 0 = false := by decide +kernel
/-- A state for oscStable. -/
def s_ClockSources_2 : State := host
theorem wit_ClockSources_2 : 3 ≤ 3 ∧ 3 < 13 := by decide +kernel
/-- A state for oscStable. -/
def s_ClockSources_2b : State := host
theorem wit_ClockSources_2b : 3 ≤ 12 ∧ 12 < 13 := by decide +kernel
/-- A state for pllLock. -/
def s_ClockSources_3 : State := ({ host with clocks := { host.clocks with extStable := [(1, true)] } })
theorem wit_ClockSources_3 : s_ClockSources_3.pllFed 53 = true := by decide +kernel
/-- A state for pllLock. -/
def s_ClockSources_3b : State := ({ host with clocks := { host.clocks with extStable := [(1, true)] } }.set F.CLK_MON_LOCKED 53 0)
theorem wit_ClockSources_3b : s_ClockSources_3b.pllFed 53 = true := by decide +kernel
/-- A state for pllLockDrop. -/
def s_ClockSources_4 : State := (host.set F.CLK_MON_STBY_OK 53 1 |>.set F.CLK_MON_LOCKED 53 1)
theorem wit_ClockSources_4 : 3 ≤ 53 ∧ 53 < 54
    ∧ (hasTwin 53 && 1 != s_ClockSources_4.get F.CLK_MON_TWIN 53) = true := by decide +kernel
/-- A state for pllLockDrop. -/
def s_ClockSources_5 : State := (host.set F.CLK_MON_LOCKED 51 1)
theorem wit_ClockSources_5 : 3 ≤ 51 ∧ 51 < 54
    ∧ (hasTwin 51 && 0 != s_ClockSources_5.get F.CLK_MON_TWIN 51) = false
    ∧ s_ClockSources_5.flag F.CLK_MON_LOCKED 51 = true ∧ s_ClockSources_5.flag F.CLK_MON_ON_FALLBACK 51 = false := by decide +kernel
/-- A state for pllLockDrop. -/
def s_ClockSources_5b : State := (host.set F.CLK_MON_LOCKED 51 1 |>.set F.CLK_MON_ARMED 51 1)
theorem wit_ClockSources_5b : 3 ≤ 51 ∧ 51 < 54
    ∧ (hasTwin 51 && 0 != s_ClockSources_5b.get F.CLK_MON_TWIN 51) = false
    ∧ s_ClockSources_5b.flag F.CLK_MON_LOCKED 51 = true
    ∧ s_ClockSources_5b.flag F.CLK_MON_ON_FALLBACK 51 = false := by decide +kernel
/-- A state for pllLockDrop. -/
def s_ClockSources_5c : State := (host.set F.CLK_MON_LOCKED 51 1 |>.set F.CLK_MON_ARMED 51 1 |>.set F.CLK_MON_STBY_OK 51 1)
theorem wit_ClockSources_5c : 3 ≤ 51 ∧ 51 < 54
    ∧ (hasTwin 51 && 0 != s_ClockSources_5c.get F.CLK_MON_TWIN 51) = false
    ∧ s_ClockSources_5c.flag F.CLK_MON_LOCKED 51 = true
    ∧ s_ClockSources_5c.flag F.CLK_MON_ON_FALLBACK 51 = false := by decide +kernel
/-- A state for pllLockDrop. -/
def s_ClockSources_5d : State := (host.set F.CLK_MON_LOCKED 53 1 |>.set F.CLK_MON_ARMED 53 1 |>.set F.CLK_OSC_STAT_A_STABLE 0 1)
theorem wit_ClockSources_5d : 3 ≤ 53 ∧ 53 < 54
    ∧ (hasTwin 53 && 0 != s_ClockSources_5d.get F.CLK_MON_TWIN 53) = false
    ∧ s_ClockSources_5d.flag F.CLK_MON_LOCKED 53 = true
    ∧ s_ClockSources_5d.flag F.CLK_MON_ON_FALLBACK 53 = false := by decide +kernel
/-- A state for pllLockDrop. -/
def s_ClockSources_5e : State := (host.set F.CLK_MON_LOCKED 3 1 |>.set F.CLK_MON_ARMED 3 1 |>.set F.CLK_OSC_STAT_A_STABLE 0 1)
theorem wit_ClockSources_5e : 3 ≤ 3 ∧ 3 < 54
    ∧ (hasTwin 3 && 9 != s_ClockSources_5e.get F.CLK_MON_TWIN 3) = false
    ∧ s_ClockSources_5e.flag F.CLK_MON_LOCKED 3 = true ∧ s_ClockSources_5e.flag F.CLK_MON_ON_FALLBACK 3 = false := by decide +kernel
/-- A state for monitorWindowEnd. -/
def s_ClockSources_6 : State := (host.set F.CLK_MON_ARMED 53 1)
theorem wit_ClockSources_6 : 53 < 54 ∧ s_ClockSources_6.flag F.CLK_MON_ARMED 53 = true := by decide +kernel
/-- A state for monitorWindowEnd. -/
def s_ClockSources_6b : State := (host.set F.CLK_MON_ARMED 53 1 |>.set F.CLK_MON_LOCKED 53 1)
theorem wit_ClockSources_6b : 53 < 54 ∧ s_ClockSources_6b.flag F.CLK_MON_ARMED 53 = true := by decide +kernel
/-- A state for monitorWindowEnd. -/
def s_ClockSources_6c : State := (host.set F.CLK_MON_ARMED 53 1)
theorem wit_ClockSources_6c : 53 < 54 ∧ s_ClockSources_6c.flag F.CLK_MON_ARMED 53 = true := by decide +kernel
/-- A state for monitorWindowEnd. -/
def s_ClockSources_6d : State := (host.set F.CLK_MON_ARMED 0 1)
theorem wit_ClockSources_6d : 0 < 54 ∧ s_ClockSources_6d.flag F.CLK_MON_ARMED 0 = true := by decide +kernel
/-- A state for monitorWindowEnd. -/
def s_ClockSources_6e : State := (host.set F.CLK_MON_ARMED 1 1 |>.set F.CLK_OSC_STAT_REF_STABLE 0 1)
theorem wit_ClockSources_6e : 1 < 54 ∧ s_ClockSources_6e.flag F.CLK_MON_ARMED 1 = true := by decide +kernel
/-- A state for monitorWindowEnd. -/
def s_ClockSources_6f : State := (host.set F.CLK_MON_ARMED 1 1 |>.set F.CLK_OSC_STAT_REF_STABLE 0 1)
theorem wit_ClockSources_6f : 1 < 54 ∧ s_ClockSources_6f.flag F.CLK_MON_ARMED 1 = true := by decide +kernel
/-- A state for rampDwellEnd. -/
def s_ClockSources_7 : State := (host.setDom 43 { ramp := some ⟨true, 16, true⟩ } |>.set F.CLK_MON_ON_FALLBACK 43 1)
theorem wit_ClockSources_7 : (s_ClockSources_7.dom 43).ramp = some (⟨true, 16, true⟩ : ClkRamp) := by decide +kernel
/-- A state for rampDwellEnd. -/
def s_ClockSources_7b : State := (host.setDom 43 { ramp := some ⟨true, 8, true⟩ })
theorem wit_ClockSources_7b : (s_ClockSources_7b.dom 43).ramp = some (⟨true, 8, true⟩ : ClkRamp) := by decide +kernel
/-- A state for rampDwellEnd. -/
def s_ClockSources_7c : State := (host.setDom 43 { ramp := some ⟨false, 2, true⟩ })
theorem wit_ClockSources_7c : (s_ClockSources_7c.dom 43).ramp = some (⟨false, 2, true⟩ : ClkRamp) := by decide +kernel
/-- A state for rampDwellEnd. -/
def s_ClockSources_7d : State := (host.setDom 43 { ramp := some ⟨false, 16, true⟩ })
theorem wit_ClockSources_7d : (s_ClockSources_7d.dom 43).ramp = some (⟨false, 16, true⟩ : ClkRamp) := by decide +kernel
/-- A state for dividerStep. -/
def s_ClockSources_8 : State := (host.setClkLag 63 3 16)
theorem wit_ClockSources_8 : 63 < 64 ∧ 3 < 4 ∧ s_ClockSources_8.effDiv 63 3 < s_ClockSources_8.clkLag 63 3 := by decide +kernel
/-- A state for dividerStep. -/
def s_ClockSources_8b : State := (host.setClkLag 63 3 4)
theorem wit_ClockSources_8b : 63 < 64 ∧ 3 < 4 ∧ s_ClockSources_8b.effDiv 63 3 < s_ClockSources_8b.clkLag 63 3 := by decide +kernel
/-- A state for clkReturn. -/
def s_ClockSources_9 : State := (host.set F.CLK_MON_ON_FALLBACK 53 1 |>.set F.CLK_MON_LOCKED 53 1 |>.setDom 53 { lastIn := true })
theorem wit_ClockSources_9 : s_ClockSources_9.mayWrite (.fw : Src) .CLK_MON 53 = true ∧ 3 ≤ 53
    ∧ fldOf F.CLK_MON_RETURN (0x03000000 : Word) = 1 ∧ s_ClockSources_9.flag F.CLK_MON_ON_FALLBACK 53 = true
    ∧ s_ClockSources_9.returning 53 = false ∧ s_ClockSources_9.flag F.CLK_MON_LOCKED 53 = true
    ∧ (s_ClockSources_9.dom 53).lastIn = true := by decide +kernel
/-- A state for clkReturn. -/
def s_ClockSources_10 : State := (host.set F.CLK_MON_ON_FALLBACK 53 1 |>.set F.CLK_MON_LOCKED 53 1 |>.set F.CLK_MON_AUTO_RET 53 1 |>.setDom 53 { good := 16 })
theorem wit_ClockSources_10 : 3 ≤ 53 ∧ 53 < 54 ∧ s_ClockSources_10.flag F.CLK_MON_AUTO_RET 53 = true
    ∧ s_ClockSources_10.flag F.CLK_MON_ON_FALLBACK 53 = true ∧ s_ClockSources_10.returning 53 = false
    ∧ s_ClockSources_10.flag F.CLK_MON_LOCKED 53 = true ∧ 16 ≤ (s_ClockSources_10.dom 53).good := by decide +kernel
/-- A state for clkFabWrite. -/
def s_ClockSources_11 : State := (up [0, 1, 3])
theorem wit_ClockSources_11 : s_ClockSources_11.mayWrite (.fw : Src) .CLK_FAB 31 = true := by decide +kernel
/-- A state for clkFabWrite. -/
def s_ClockSources_11b : State := (up [0, 1, 3])
theorem wit_ClockSources_11b : s_ClockSources_11b.mayWrite (.fw : Src) .CLK_FAB 31 = true := by decide +kernel
/-- A state for clkFabWrite. -/
def s_ClockSources_11c : State := (up [0, 1, 3])
theorem wit_ClockSources_11c : s_ClockSources_11c.mayWrite (.fw : Src) .CLK_FAB 31 = true := by decide +kernel
/-- A state for clkFabWrite. -/
def s_ClockSources_11d : State := host
theorem wit_ClockSources_11d : s_ClockSources_11d.mayWrite (.fw : Src) .CLK_FAB 24 = true := by decide +kernel
/-- A state for deviceTimeTick. -/
def s_ClockSources_12 : State := { host with time := 2 ^ 64 - 8 }
theorem wit_ClockSources_12 : s_ClockSources_12.powered 0 = true := by decide +kernel
/-- A state for deviceTimeTick. -/
def s_ClockSources_12b : State := ({ host with time := 2 ^ 64 - 8 }.set F.CLK_OSC_STAT_DT_SRC 0 2)
theorem wit_ClockSources_12b : s_ClockSources_12b.powered 0 = true := by decide +kernel
/-- A state for clkoutWrite. -/
def s_ClockSources_13 : State := host
theorem wit_ClockSources_13 : s_ClockSources_13.mayWrite (.fw : Src) .CLK_OUT 1 = true
    ∧ s_ClockSources_13.catalogFreq (fldOf F.CLK_OUT_SEL (0x80000003 : Word)) = some (80, 1)
    ∧ 80 ≤ 40 * (2 ^ (fldOf F.CLK_OUT_K_M1 (0x80000003 : Word) + 1) * 1) := by decide +kernel
/-- A state for clkoutWrite. -/
def s_ClockSources_13b : State := (host.set F.HLU_FW_VALUE 17 1)
theorem wit_ClockSources_13b : s_ClockSources_13b.mayWrite (.fw : Src) .CLK_OUT 1 = true
    ∧ s_ClockSources_13b.catalogFreq (fldOf F.CLK_OUT_SEL (0x80000003 : Word)) = some (80, 1)
    ∧ 80 ≤ 40 * (2 ^ (fldOf F.CLK_OUT_K_M1 (0x80000003 : Word) + 1) * 1) := by decide +kernel
/-- A state for clkoutWrite. -/
def s_ClockSources_14 : State := host
theorem wit_ClockSources_14 : s_ClockSources_14.mayWrite (.fw : Src) .CLK_OUT 1 = true
    ∧ s_ClockSources_14.catalogFreq (fldOf F.CLK_OUT_SEL (0x80000036 : Word)) = none := by decide +kernel

/-! ### PowerDomains -/

/-- A state for domainPowerDown. -/
def s_PowerDomains_1 : State := (host.set F.PWR_DOM_ON 96 1)
theorem wit_PowerDomains_1 : s_PowerDomains_1.mayWrite ((.pf 0) : Src) .PWR_DOM 96 = true
    ∧ fldOf F.PWR_DOM_ON (0 : Word) = 0 ∧ s_PowerDomains_1.floorReset = 0 := by decide +kernel
/-- A state for domainPowerDown. -/
def s_PowerDomains_1b : State := (host.set F.PWR_DOM_ON 29 1)
theorem wit_PowerDomains_1b : s_PowerDomains_1b.mayWrite ((.pf 0) : Src) .PWR_DOM 29 = true
    ∧ fldOf F.PWR_DOM_ON (0 : Word) = 0 ∧ s_PowerDomains_1b.floorReset = 0 := by decide +kernel
/-- A state for domainPowerDown. -/
def s_PowerDomains_1c : State := (host.set F.PWR_DOM_ON 11 1)
theorem wit_PowerDomains_1c : s_PowerDomains_1c.mayWrite ((.pf 0) : Src) .PWR_DOM 11 = true
    ∧ fldOf F.PWR_DOM_ON (0 : Word) = 0 ∧ s_PowerDomains_1c.floorReset = 0 := by decide +kernel
/-- A state for domainPowerDown. -/
def s_PowerDomains_1d : State := host
theorem wit_PowerDomains_1d : s_PowerDomains_1d.mayWrite ((.pf 0) : Src) .PWR_DOM 96 = true
    ∧ fldOf F.PWR_DOM_ON (0 : Word) = 0 ∧ s_PowerDomains_1d.floorReset = 0 := by decide +kernel
/-- A state for domainPowerDown. -/
def s_PowerDomains_1e : State := host
theorem wit_PowerDomains_1e : s_PowerDomains_1e.mayWrite (.fw : Src) .PWR_DOM 3 = true
    ∧ fldOf F.PWR_DOM_ON (0 : Word) = 0 ∧ s_PowerDomains_1e.floorReset = 0 := by decide +kernel
/-- A state for domainPowerUp. -/
def s_PowerDomains_2 : State := (host.set F.PWR_DOM_STATE 96 0)
theorem wit_PowerDomains_2 : s_PowerDomains_2.mayWrite ((.pf 0) : Src) .PWR_DOM 96 = true
    ∧ fldOf F.PWR_DOM_ON (0x80000000 : Word) = 1 ∧ s_PowerDomains_2.floorReset = 0
    ∧ s_PowerDomains_2.flag F.PWR_DOM_ON 96 = false ∧ s_PowerDomains_2.power.rampWait = [] := by decide +kernel
/-- A state for domainPowerUp. -/
def s_PowerDomains_2b : State := ([92, 93, 94, 95].foldl (fun (z : State) i => z.set F.PWR_DOM_STATE i 1) (host.set F.PWR_DOM_STATE 96 0))
theorem wit_PowerDomains_2b : s_PowerDomains_2b.mayWrite ((.pf 0) : Src) .PWR_DOM 96 = true
    ∧ fldOf F.PWR_DOM_ON (0x80000000 : Word) = 1 ∧ s_PowerDomains_2b.floorReset = 0
    ∧ s_PowerDomains_2b.flag F.PWR_DOM_ON 96 = false ∧ s_PowerDomains_2b.power.rampWait = [] := by decide +kernel
/-- A state for domainPowerUp. -/
def s_PowerDomains_2c : State := ((host.set F.PWR_DOM_STATE 96 0).set F.PWR_DOM_STATE 28 0)
theorem wit_PowerDomains_2c : s_PowerDomains_2c.mayWrite ((.pf 0) : Src) .PWR_DOM 96 = true
    ∧ fldOf F.PWR_DOM_ON (0xC0000000 : Word) = 1 ∧ s_PowerDomains_2c.floorReset = 0
    ∧ s_PowerDomains_2c.flag F.PWR_DOM_ON 96 = false ∧ s_PowerDomains_2c.power.rampWait = [] := by decide +kernel
/-- A state for quiesceDone. -/
def s_PowerDomains_3 : State := (host.set F.PWR_DOM_STATE 96 4)
theorem wit_PowerDomains_3 : 96 < 97 ∧ s_PowerDomains_3.domSt 96 = pdQuiesce ∧ s_PowerDomains_3.floorReset = 0
    ∧ s_PowerDomains_3.quiet 96 = true := by decide +kernel
/-- A state for quiesceDone. -/
def s_PowerDomains_3b : State := (host.set F.PWR_DOM_STATE 28 4)
theorem wit_PowerDomains_3b : 28 < 97 ∧ s_PowerDomains_3b.domSt 28 = pdQuiesce
    ∧ s_PowerDomains_3b.floorReset = 0 ∧ s_PowerDomains_3b.quiet 28 = true := by decide +kernel
/-- A state for quiesceDone. -/
def s_PowerDomains_3c : State := ((onl 63 0 host).set F.PWR_DOM_STATE 96 4)
theorem wit_PowerDomains_3c : 96 < 97 ∧ s_PowerDomains_3c.domSt 96 = pdQuiesce
    ∧ s_PowerDomains_3c.floorReset = 0 ∧ s_PowerDomains_3c.quiet 96 = true := by decide +kernel
/-- A state for isolateDone. -/
def s_PowerDomains_4 : State := ((host.set F.PWR_DOM_STATE 96 6).setHport 63 1 { pend := [⟨5, 3, 0, 0, 1, 0, 0⟩] })
theorem wit_PowerDomains_4 : 96 < 97 ∧ s_PowerDomains_4.domSt 96 = pdIsolate ∧ s_PowerDomains_4.floorReset = 0 := by decide +kernel
/-- A state for gateDone. -/
def s_PowerDomains_5 : State := ({ host with time := 7000000 }.set F.PWR_DOM_STATE 96 7)
theorem wit_PowerDomains_5 : 96 < 97 ∧ s_PowerDomains_5.domSt 96 = pdGate ∧ s_PowerDomains_5.floorReset = 0 := by decide +kernel
/-- A state for gateDone. -/
def s_PowerDomains_5b : State := ({ host with time := 6553400 }.set F.PWR_DOM_STATE 21 7)
theorem wit_PowerDomains_5b : 21 < 97 ∧ s_PowerDomains_5b.domSt 21 = pdGate ∧ s_PowerDomains_5b.floorReset = 0 := by decide +kernel
/-- A state for rampSlotFree. -/
def s_PowerDomains_6 : State := { host with power := { host.power with rampWait := [96, 13] } }
theorem wit_PowerDomains_6 : s_PowerDomains_6.floorReset = 0
    ∧ sortBy (fun a b => decide (a ≤ b)) s_PowerDomains_6.power.rampWait = 13 :: ([96] : List Nat) := by decide +kernel
/-- A state for rampSlotFree. -/
def s_PowerDomains_6b : State := ([92, 93, 94, 95].foldl (fun (z : State) i => z.set F.PWR_DOM_STATE i 1) { host with power := { host.power with rampWait := [96, 13] } })
theorem wit_PowerDomains_6b : s_PowerDomains_6b.floorReset = 0
    ∧ sortBy (fun a b => decide (a ≤ b)) s_PowerDomains_6b.power.rampWait = 13 :: ([96] : List Nat) := by decide +kernel
/-- A state for rampDone. -/
def s_PowerDomains_7 : State := (host.set F.PWR_DOM_STATE 96 1)
theorem wit_PowerDomains_7 : 96 < 97 ∧ s_PowerDomains_7.domSt 96 = pdRamp ∧ s_PowerDomains_7.floorReset = 0 := by decide +kernel
/-- A state for initDone. -/
def s_PowerDomains_8 : State := ({ host with time := 7000000 }.set F.PWR_DOM_STATE 96 2)
theorem wit_PowerDomains_8 : 96 < 97 ∧ s_PowerDomains_8.domSt 96 = pdInit ∧ s_PowerDomains_8.floorReset = 0
    ∧ (96 < 33 ∨ mapGet (fun _ => false) s_PowerDomains_8.planes.initing (96 - 33) = false) := by decide +kernel
/-- A state for initDone. -/
def s_PowerDomains_8b : State := ({ host with time := 700 }.set F.PWR_DOM_STATE 9 2)
theorem wit_PowerDomains_8b : 9 < 97 ∧ s_PowerDomains_8b.domSt 9 = pdInit ∧ s_PowerDomains_8b.floorReset = 0
    ∧ (9 < 33 ∨ mapGet (fun _ => false) s_PowerDomains_8b.planes.initing (9 - 33) = false) := by decide +kernel

/-! ### ThermalControl -/

/-- A state for measurementInterval. -/
def s_ThermalControl_1 : State := host
theorem wit_ThermalControl_1 : 3 < 4 ∧ s_ThermalControl_1.powered 4 = true
    ∧ s_ThermalControl_1.chHold (32 * 3) = false := by decide +kernel
/-- A state for measurementInterval. -/
def s_ThermalControl_1b : State := host
theorem wit_ThermalControl_1b : 3 < 4 ∧ s_ThermalControl_1b.powered 4 = true
    ∧ s_ThermalControl_1b.chHold (32 * 3) = false := by decide +kernel
/-- A state for measurementInterval. -/
def s_ThermalControl_2 : State := host
theorem wit_ThermalControl_2 : 3 < 4 ∧ s_ThermalControl_2.powered 4 = true
    ∧ s_ThermalControl_2.chHold (32 * 3) = false := by decide +kernel
/-- A state for measurementInterval. -/
def s_ThermalControl_2b : State := host
theorem wit_ThermalControl_2b : 3 < 4 ∧ s_ThermalControl_2b.powered 4 = true
    ∧ s_ThermalControl_2b.chHold (32 * 3) = false := by decide +kernel
/-- A state for throttleRiseTimer. -/
def s_ThermalControl_3 : State := ({ host with time := 5000000, thermal := { zone := [(3, 1)] } }.set F.BENCH_ASSIGN_PRIV 63 1)
theorem wit_ThermalControl_3 : 3 < 4 ∧ s_ThermalControl_3.powered 4 = true
    ∧ mapGet (fun _ => 0) s_ThermalControl_3.thermal.zone 3 = 1
    ∧ s_ThermalControl_3.timerDue (tmRise 3) 500000 = true := by decide +kernel
/-- A state for throttleRiseTimer. -/
def s_ThermalControl_3b : State := ({ host with time := 5000000, thermal := { zone := [(3, 1)] } }.set F.THM_COL_LEVEL 3 7)
theorem wit_ThermalControl_3b : 3 < 4 ∧ s_ThermalControl_3b.powered 4 = true
    ∧ mapGet (fun _ => 0) s_ThermalControl_3b.thermal.zone 3 = 1
    ∧ s_ThermalControl_3b.timerDue (tmRise 3) 500000 = true := by decide +kernel
/-- A state for throttleRiseTimer. -/
def s_ThermalControl_3c : State := ({ host with time := 5000000, thermal := { zone := [(3, 1)] } }.set F.THM_COL_LEVEL 3 8)
theorem wit_ThermalControl_3c : 3 < 4 ∧ s_ThermalControl_3c.powered 4 = true
    ∧ mapGet (fun _ => 0) s_ThermalControl_3c.thermal.zone 3 = 1
    ∧ s_ThermalControl_3c.timerDue (tmRise 3) 500000 = true := by decide +kernel
/-- A state for throttleRecoveryTimer. -/
def s_ThermalControl_4 : State := ({ host with time := 5000000, thermal := { zone := [(3, 2)] } }.set F.THM_COL_LEVEL 3 1 |>.set F.THM_BENCH_ENFORCED 63 1)
theorem wit_ThermalControl_4 : 3 < 4 ∧ s_ThermalControl_4.powered 4 = true
    ∧ mapGet (fun _ => 0) s_ThermalControl_4.thermal.zone 3 = 2
    ∧ s_ThermalControl_4.timerDue (tmFall 3) 5000000 = true := by decide +kernel
/-- A state for throttleRecoveryTimer. -/
def s_ThermalControl_4b : State := ({ host with time := 5000000, thermal := { zone := [(3, 2)] } }.set F.THM_COL_LEVEL 3 8)
theorem wit_ThermalControl_4b : 3 < 4 ∧ s_ThermalControl_4b.powered 4 = true
    ∧ mapGet (fun _ => 0) s_ThermalControl_4b.thermal.zone 3 = 2
    ∧ s_ThermalControl_4b.timerDue (tmFall 3) 5000000 = true := by decide +kernel
/-- A state for graceEnd. -/
def s_ThermalControl_5 : State := ({ host with time := 10000000000 }.set F.THM_BENCH_GRACE 63 1)
theorem wit_ThermalControl_5 : 63 < 64 ∧ s_ThermalControl_5.powered 4 = true
    ∧ s_ThermalControl_5.flag F.THM_BENCH_GRACE 63 = true
    ∧ s_ThermalControl_5.timerDue (tmGrace 63) (1000000 * s_ThermalControl_5.get F.THM_PRIV_CTL_GRACE_MS 0) = true := by decide +kernel
/-- A state for graceEnd. -/
def s_ThermalControl_5b : State := ({ host with time := 10000000000, tenancy := { host.tenancy with history := [(63, [5])] } }.set F.THM_BENCH_GRACE 63 1 |>.set F.THM_COL_LEVEL 3 2)
theorem wit_ThermalControl_5b : 63 < 64 ∧ s_ThermalControl_5b.powered 4 = true
    ∧ s_ThermalControl_5b.flag F.THM_BENCH_GRACE 63 = true
    ∧ s_ThermalControl_5b.timerDue (tmGrace 63) (1000000 * s_ThermalControl_5b.get F.THM_PRIV_CTL_GRACE_MS 0) = true := by decide +kernel
/-- A state for exemptCheck. -/
def s_ThermalControl_6 : State := ({ host with time := 500000 }.set F.THM_BENCH_EXEMPT 63 1)
theorem wit_ThermalControl_6 : 63 < 64 ∧ s_ThermalControl_6.powered 4 = true
    ∧ s_ThermalControl_6.flag F.THM_BENCH_EXEMPT 63 = true
    ∧ s_ThermalControl_6.timerDue (tmExempt 63) 500000 = true := by decide +kernel
/-- A state for exemptCheck. -/
def s_ThermalControl_6b : State := ({ host with time := 10000000000, tenancy := { host.tenancy with history := [(63, [5])] } }.set F.THM_BENCH_EXEMPT 63 1)
theorem wit_ThermalControl_6b : 63 < 64 ∧ s_ThermalControl_6b.powered 4 = true
    ∧ s_ThermalControl_6b.flag F.THM_BENCH_EXEMPT 63 = true
    ∧ s_ThermalControl_6b.timerDue (tmExempt 63) 500000 = true := by decide +kernel
/-- A state for thermalLevelUpdate. -/
def s_ThermalControl_7 : State := { host with thermal := { sup := [(63, 15)] } }
theorem wit_ThermalControl_7 : 63 < 64 ∧ s_ThermalControl_7.powered 4 = true
    ∧ s_ThermalControl_7.benchUp 63 = true
    ∧ s_ThermalControl_7.capWindow 63 (mapGet (fun _ => []) s_ThermalControl_7.tenancy.history 63) = (0, 0) := by decide +kernel
/-- A state for thermalLevelUpdate. -/
def s_ThermalControl_7b : State := ({ host with tenancy := { host.tenancy with history := [(63, [5])] } }.set F.THM_BENCH_LEVEL 63 8)
theorem wit_ThermalControl_7b : 63 < 64 ∧ s_ThermalControl_7b.powered 4 = true
    ∧ s_ThermalControl_7b.benchUp 63 = true
    ∧ s_ThermalControl_7b.capWindow 63 (mapGet (fun _ => []) s_ThermalControl_7b.tenancy.history 63) = (5, 1) := by decide +kernel
/-- A state for hardwareTrip. -/
def s_ThermalControl_8 : State := (up [0, 25, 29, 96])
theorem wit_ThermalControl_8 : 95 < 96 ∧ (95 % 24 < 16 ∨ 20 ≤ 95 % 24) ∧ s_ThermalControl_8.powered 0 = true := by decide +kernel
/-- A state for converterRotate. -/
def s_ThermalControl_9 : State := host
theorem wit_ThermalControl_9 : s_ThermalControl_9.powered 4 = true ∧ 4 < 5 ∧ 17 < (if 4 = 4 then 18 else 8) := by decide +kernel
/-- A state for converterRotate. -/
def s_ThermalControl_9b : State := host
theorem wit_ThermalControl_9b : s_ThermalControl_9b.powered 4 = true ∧ 3 < 5 ∧ 7 < (if 3 = 4 then 18 else 8) := by decide +kernel
/-- A state for railMeasure. -/
def s_ThermalControl_10 : State := host
theorem wit_ThermalControl_10 : s_ThermalControl_10.powered 4 = true := by decide +kernel
/-- A state for hluLevelTimer. -/
def s_ThermalControl_11 : State := { host with time := 5000000, thermal := { excess := [(9, 3)], h := 7 } }
theorem wit_ThermalControl_11 : s_ThermalControl_11.powered 4 = true := by decide +kernel
/-- A state for hluLevelTimer. -/
def s_ThermalControl_11b : State := { host with time := 5000000, thermal := { h := 7 } }
theorem wit_ThermalControl_11b : s_ThermalControl_11b.powered 4 = true := by decide +kernel
/-- A state for hluLevelTimer. -/
def s_ThermalControl_11c : State := (host.set F.TEL_PWR_TOTAL_MW 0 0x80000)
theorem wit_ThermalControl_11c : s_ThermalControl_11c.powered 4 = true := by decide +kernel

/-! ### HardwareLimits -/

/-- A state for hluBoardWrite. -/
def s_HardwareLimits_1 : State := host
theorem wit_HardwareLimits_1 : s_HardwareLimits_1.mayWrite (.pf 1) .HLU_BOARD 10 = true
    ∧ s_HardwareLimits_1.flag F.HLU_CTL_LOCK 0 = false ∧ hluWithin 10 (23999 : Word).toNat (hluAbs 10) = true
    ∧ (s_HardwareLimits_1.setReg .HLU_BOARD 10 (23999 : Word)).surgeTooSmall 10 = false := by decide +kernel
/-- A state for hluBoardWrite. -/
def s_HardwareLimits_1b : State := (host.set F.BENCH_PCAP_CAP_MW 63 20000)
theorem wit_HardwareLimits_1b : s_HardwareLimits_1b.mayWrite (.pf 1) .HLU_BOARD 10 = true
    ∧ s_HardwareLimits_1b.flag F.HLU_CTL_LOCK 0 = false ∧ hluWithin 10 (100 : Word).toNat (hluAbs 10) = true
    ∧ (s_HardwareLimits_1b.setReg .HLU_BOARD 10 (100 : Word)).surgeTooSmall 10 = false := by decide +kernel
/-- A state for hluBoardWrite. -/
def s_HardwareLimits_1c : State := host
theorem wit_HardwareLimits_1c : s_HardwareLimits_1c.mayWrite (.pf 1) .HLU_BOARD 18 = true
    ∧ s_HardwareLimits_1c.flag F.HLU_CTL_LOCK 0 = false
    ∧ hluWithin 18 (0xEF080EE0 : Word).toNat (hluAbs 18) = true
    ∧ (s_HardwareLimits_1c.setReg .HLU_BOARD 18 (0xEF080EE0 : Word)).surgeTooSmall 18 = false := by decide +kernel
/-- A state for hluBoardWrite. -/
def s_HardwareLimits_1d : State := host
theorem wit_HardwareLimits_1d : s_HardwareLimits_1d.mayWrite (.pf 1) .HLU_BOARD 12 = true
    ∧ s_HardwareLimits_1d.flag F.HLU_CTL_LOCK 0 = false ∧ hluWithin 12 (0 : Word).toNat (hluAbs 12) = true
    ∧ (s_HardwareLimits_1d.setReg .HLU_BOARD 12 (0 : Word)).surgeTooSmall 12 = false := by decide +kernel
/-- A state for hluBoardWrite. -/
def s_HardwareLimits_2 : State := host
theorem wit_HardwareLimits_2 : 
   (s_HardwareLimits_2.mayWrite (.other : Src) .HLU_BOARD 19 = true ∨ ((.other : Src) = .other ∧ validInst .HLU_BOARD 19 = true))
    ∧ ((.other : Src) = .fw ∨ (.other : Src) = .other ∨ s_HardwareLimits_2.flag F.HLU_CTL_LOCK 0 = true ∨ hluWithin 19 (0 : Word).toNat (hluAbs 19) = false) := by decide +kernel
/-- A state for hluBoardWrite. -/
def s_HardwareLimits_2b : State := host
theorem wit_HardwareLimits_2b : 
   (s_HardwareLimits_2b.mayWrite ((.pf 0) : Src) .HLU_BOARD 10 = true ∨ (((.pf 0) : Src) = .other ∧ validInst .HLU_BOARD 10 = true))
    ∧ (((.pf 0) : Src) = .fw ∨ ((.pf 0) : Src) = .other ∨ s_HardwareLimits_2b.flag F.HLU_CTL_LOCK 0 = true ∨ hluWithin 10 (24001 : Word).toNat (hluAbs 10) = false) := by decide +kernel
/-- A state for hluBoardWrite. -/
def s_HardwareLimits_2c : State := (host.set F.HLU_CTL_LOCK 0 1)
theorem wit_HardwareLimits_2c : 
   (s_HardwareLimits_2c.mayWrite ((.pf 0) : Src) .HLU_BOARD 10 = true ∨ (((.pf 0) : Src) = .other ∧ validInst .HLU_BOARD 10 = true))
    ∧ (((.pf 0) : Src) = .fw ∨ ((.pf 0) : Src) = .other ∨ s_HardwareLimits_2c.flag F.HLU_CTL_LOCK 0 = true ∨ hluWithin 10 (100 : Word).toNat (hluAbs 10) = false) := by decide +kernel
/-- A state for hluBoardWrite. -/
def s_HardwareLimits_2d : State := host
theorem wit_HardwareLimits_2d : 
   (s_HardwareLimits_2d.mayWrite (.fw : Src) .HLU_BOARD 10 = true ∨ ((.fw : Src) = .other ∧ validInst .HLU_BOARD 10 = true))
    ∧ ((.fw : Src) = .fw ∨ (.fw : Src) = .other ∨ s_HardwareLimits_2d.flag F.HLU_CTL_LOCK 0 = true ∨ hluWithin 10 (100 : Word).toNat (hluAbs 10) = false) := by decide +kernel
/-- A state for hluLock. -/
def s_HardwareLimits_3 : State := host
theorem wit_HardwareLimits_3 : s_HardwareLimits_3.mayWrite ((.pf 0) : Src) .HLU_CTL 0 = true := by decide +kernel
/-- A state for hluLock. -/
def s_HardwareLimits_3b : State := host
theorem wit_HardwareLimits_3b : s_HardwareLimits_3b.mayWrite ((.pf 0) : Src) .HLU_CTL 0 = true := by decide +kernel
/-- A state for hluLock. -/
def s_HardwareLimits_3c : State := { host.set F.HLU_CTL_LOCK 0 1 with thermal := { lockUsed := true } }
theorem wit_HardwareLimits_3c : s_HardwareLimits_3c.mayWrite (.fw : Src) .HLU_CTL 0 = true := by decide +kernel
/-- A state for thmLimitsWrite. -/
def s_HardwareLimits_4 : State := host
theorem wit_HardwareLimits_4 : s_HardwareLimits_4.mayWrite (.fw : Src) .THM_LIMITS 0 = true := by decide +kernel
/-- A state for thmLimitsWrite. -/
def s_HardwareLimits_4b : State := host
theorem wit_HardwareLimits_4b : s_HardwareLimits_4b.mayWrite (.fw : Src) .THM_LIMITS 0 = true := by decide +kernel
/-- A state for thmLimitsWrite. -/
def s_HardwareLimits_4c : State := host
theorem wit_HardwareLimits_4c : s_HardwareLimits_4c.mayWrite (.fw : Src) .THM_LIMITS 0 = true := by decide +kernel
/-- A state for thmLimitsWrite. -/
def s_HardwareLimits_4d : State := (host.set F.HLU_FW_VALUE 15 0x8F)
theorem wit_HardwareLimits_4d : s_HardwareLimits_4d.mayWrite ((.pf 0) : Src) .THM_LIMITS 0 = true := by decide +kernel

/-! ### DdrChannels -/

/-- A state for ddrRequest. -/
def s_DdrChannels_1 : State := ((host.set F.DDR_CH_STAT_STATE 7 2).set F.DDR_CH_STAT_SIZE_GIB 7 64 |>.setDramWord 7 9 (eccEncode 77))
theorem wit_DdrChannels_1 : 7 < 8 ∧ s_DdrChannels_1.powered (dDdr (7 / 2)) = true
    ∧ s_DdrChannels_1.floorReset = 0 ∧ hOp (mkHeader (7 * 2 ^ 36 + 72) 0 5 0 0 7 0 0 0 0) = opRead
    ∧ (hClass (mkHeader (7 * 2 ^ 36 + 72) 0 5 0 0 7 0 0 0 0) = clsReq ∨ hClass (mkHeader (7 * 2 ^ 36 + 72) 0 5 0 0 7 0 0 0 0) = clsMgt)
    ∧ s_DdrChannels_1.ddrSt 7 = ddReady ∧ s_DdrChannels_1.side.tapPins = false
    ∧ 72 = (s_DdrChannels_1.ddrPlace (hAddr (mkHeader (7 * 2 ^ 36 + 72) 0 5 0 0 7 0 0 0 0))).2 ∧ 72 % 8 = 0
    ∧ hLen (mkHeader (7 * 2 ^ 36 + 72) 0 5 0 0 7 0 0 0 0) = 7
    ∧ 72 + 8 ≤ s_DdrChannels_1.get F.DDR_CH_STAT_SIZE_GIB 7 * 2 ^ 30 := by decide +kernel
/-- A state for ddrRequest. -/
def s_DdrChannels_1b : State := ((host.set F.DDR_CH_STAT_STATE 7 2).set F.DDR_CH_STAT_SIZE_GIB 7 64 |>.setDramWord 7 9 (eccEncode 77 + 2 ^ 40))
theorem wit_DdrChannels_1b : 7 < 8 ∧ s_DdrChannels_1b.powered (dDdr (7 / 2)) = true
    ∧ s_DdrChannels_1b.floorReset = 0 ∧ hOp (mkHeader (7 * 2 ^ 36 + 72) 0 5 0 0 7 0 0 0 0) = opRead
    ∧ (hClass (mkHeader (7 * 2 ^ 36 + 72) 0 5 0 0 7 0 0 0 0) = clsReq ∨ hClass (mkHeader (7 * 2 ^ 36 + 72) 0 5 0 0 7 0 0 0 0) = clsMgt)
    ∧ s_DdrChannels_1b.ddrSt 7 = ddReady ∧ s_DdrChannels_1b.side.tapPins = false
    ∧ 72 = (s_DdrChannels_1b.ddrPlace (hAddr (mkHeader (7 * 2 ^ 36 + 72) 0 5 0 0 7 0 0 0 0))).2 ∧ 72 % 8 = 0
    ∧ hLen (mkHeader (7 * 2 ^ 36 + 72) 0 5 0 0 7 0 0 0 0) = 7
    ∧ 72 + 8 ≤ s_DdrChannels_1b.get F.DDR_CH_STAT_SIZE_GIB 7 * 2 ^ 30 := by decide +kernel
/-- A state for ddrRequest. -/
def s_DdrChannels_1c : State := ((host.set F.DDR_CH_STAT_STATE 7 2).set F.DDR_CH_STAT_SIZE_GIB 7 64 |>.setDramWord 7 9 (eccEncode 77 + 3 * 2 ^ 40))
theorem wit_DdrChannels_1c : 7 < 8 ∧ s_DdrChannels_1c.powered (dDdr (7 / 2)) = true
    ∧ s_DdrChannels_1c.floorReset = 0 ∧ hOp (mkHeader (7 * 2 ^ 36 + 72) 0 5 0 0 7 0 0 0 0) = opRead
    ∧ (hClass (mkHeader (7 * 2 ^ 36 + 72) 0 5 0 0 7 0 0 0 0) = clsReq ∨ hClass (mkHeader (7 * 2 ^ 36 + 72) 0 5 0 0 7 0 0 0 0) = clsMgt)
    ∧ s_DdrChannels_1c.ddrSt 7 = ddReady ∧ s_DdrChannels_1c.side.tapPins = false
    ∧ 72 = (s_DdrChannels_1c.ddrPlace (hAddr (mkHeader (7 * 2 ^ 36 + 72) 0 5 0 0 7 0 0 0 0))).2 ∧ 72 % 8 = 0
    ∧ hLen (mkHeader (7 * 2 ^ 36 + 72) 0 5 0 0 7 0 0 0 0) = 7
    ∧ 72 + 8 ≤ s_DdrChannels_1c.get F.DDR_CH_STAT_SIZE_GIB 7 * 2 ^ 30 := by decide +kernel
/-- A state for ddrRequest. -/
def s_DdrChannels_2 : State := ((host.set F.DDR_CH_STAT_STATE 7 2).set F.DDR_CH_STAT_SIZE_GIB 7 64)
theorem wit_DdrChannels_2 : 7 < 8 ∧ s_DdrChannels_2.powered (dDdr (7 / 2)) = true
    ∧ s_DdrChannels_2.floorReset = 0 ∧ hOp (mkHeader (7 * 2 ^ 36 + 72) 0 5 0 0 7 0 1 0 0) = opWrite
    ∧ (hClass (mkHeader (7 * 2 ^ 36 + 72) 0 5 0 0 7 0 1 0 0) = clsReq ∨ hClass (mkHeader (7 * 2 ^ 36 + 72) 0 5 0 0 7 0 1 0 0) = clsMgt)
    ∧ packetFlits opWrite (hAddr (mkHeader (7 * 2 ^ 36 + 72) 0 5 0 0 7 0 1 0 0)) (hLen (mkHeader (7 * 2 ^ 36 + 72) 0 5 0 0 7 0 1 0 0)) 0 = 1
    ∧ s_DdrChannels_2.ddrSt 7 = ddReady ∧ s_DdrChannels_2.side.tapPins = false
    ∧ 72 = (s_DdrChannels_2.ddrPlace (hAddr (mkHeader (7 * 2 ^ 36 + 72) 0 5 0 0 7 0 1 0 0))).2 ∧ 72 % 8 = 0
    ∧ hLen (mkHeader (7 * 2 ^ 36 + 72) 0 5 0 0 7 0 1 0 0) = 7
    ∧ 72 + 8 ≤ s_DdrChannels_2.get F.DDR_CH_STAT_SIZE_GIB 7 * 2 ^ 30 := by decide +kernel
/-- A state for ddrRequest. -/
def s_DdrChannels_3 : State := (host.set F.DDR_CH_STAT_STATE 7 1)
theorem wit_DdrChannels_3 : 7 < 8 ∧ s_DdrChannels_3.powered (dDdr (7 / 2)) = true
    ∧ s_DdrChannels_3.floorReset = 0 ∧ hClass (mkHeader (7 * 2 ^ 36 + 72) 0 5 0 0 7 0 0 0 0) ≠ clsRsp
    ∧ opMatchesClass (hOp (mkHeader (7 * 2 ^ 36 + 72) 0 5 0 0 7 0 0 0 0)) (hClass (mkHeader (7 * 2 ^ 36 + 72) 0 5 0 0 7 0 0 0 0)) = true
    ∧ packetFlits (hOp (mkHeader (7 * 2 ^ 36 + 72) 0 5 0 0 7 0 0 0 0)) (hAddr (mkHeader (7 * 2 ^ 36 + 72) 0 5 0 0 7 0 0 0 0)) (hLen (mkHeader (7 * 2 ^ 36 + 72) 0 5 0 0 7 0 0 0 0)) 0 ≤ ([] : List (Nat × Bool)).length
    ∧ s_DdrChannels_3.ddrSt 7 ≠ ddReady := by decide +kernel
/-- A state for ddrRequest. -/
def s_DdrChannels_3b : State := (host.set F.DDR_CH_STAT_STATE 7 1)
theorem wit_DdrChannels_3b : 7 < 8 ∧ s_DdrChannels_3b.powered (dDdr (7 / 2)) = true
    ∧ s_DdrChannels_3b.floorReset = 0 ∧ hClass (mkHeader (7 * 2 ^ 36 + 72) 0 5 0 2 7 0 2 0 0) ≠ clsRsp
    ∧ opMatchesClass (hOp (mkHeader (7 * 2 ^ 36 + 72) 0 5 0 2 7 0 2 0 0)) (hClass (mkHeader (7 * 2 ^ 36 + 72) 0 5 0 2 7 0 2 0 0)) = true
    ∧ packetFlits (hOp (mkHeader (7 * 2 ^ 36 + 72) 0 5 0 2 7 0 2 0 0)) (hAddr (mkHeader (7 * 2 ^ 36 + 72) 0 5 0 2 7 0 2 0 0)) (hLen (mkHeader (7 * 2 ^ 36 + 72) 0 5 0 2 7 0 2 0 0)) 0 ≤ ([(5, false)] : List (Nat × Bool)).length
    ∧ s_DdrChannels_3b.ddrSt 7 ≠ ddReady := by decide +kernel
/-- A state for ddrRefresh. -/
def s_DdrChannels_4 : State := { host.set F.DDR_CH_STAT_STATE 7 2 with time := 9 }
theorem wit_DdrChannels_4 : 7 < 8 ∧ s_DdrChannels_4.ddrSt 7 = ddReady := by decide +kernel
/-- A state for ddrTrain. -/
def s_DdrChannels_5 : State := (host.set F.DDR_CH_STAT_STATE 7 2 |>.setDramWord 7 9 5)
theorem wit_DdrChannels_5 : s_DdrChannels_5.mayWrite (.fw : Src) .DDR_CH_CFG 7 = true := by decide +kernel
/-- A state for ddrTrain. -/
def s_DdrChannels_5b : State := (host.set F.DDR_CH_STAT_STATE 7 2 |>.setDramWord 7 9 5)
theorem wit_DdrChannels_5b : s_DdrChannels_5b.mayWrite (.fw : Src) .DDR_CH_CFG 7 = true := by decide +kernel
/-- A state for ddrTrain. -/
def s_DdrChannels_5c : State := (host.set F.DDR_CH_STAT_STATE 7 1)
theorem wit_DdrChannels_5c : s_DdrChannels_5c.mayWrite (.fw : Src) .DDR_CH_CFG 7 = true := by decide +kernel
/-- A state for ddrTrain. -/
def s_DdrChannels_5d : State := (host.set F.DDR_CH_STAT_STATE 7 2)
theorem wit_DdrChannels_5d : s_DdrChannels_5d.mayWrite (.fw : Src) .DDR_CH_CFG 7 = true := by decide +kernel
/-- A state for ddrTrainingDone. -/
def s_DdrChannels_6 : State := (host.set F.DDR_CH_STAT_STATE 7 1)
theorem wit_DdrChannels_6 : 7 < 8 ∧ s_DdrChannels_6.powered (dDdr (7 / 2)) = true
    ∧ s_DdrChannels_6.ddrSt 7 = ddTraining := by decide +kernel
/-- A state for ddrTrainingDone. -/
def s_DdrChannels_6b : State := (host.set F.DDR_CH_STAT_STATE 7 1)
theorem wit_DdrChannels_6b : 7 < 8 ∧ s_DdrChannels_6b.powered (dDdr (7 / 2)) = true
    ∧ s_DdrChannels_6b.ddrSt 7 = ddTraining := by decide +kernel
/-- A state for ddrTrainingDone. -/
def s_DdrChannels_6c : State := ((host.set F.DDR_CH_STAT_STATE 7 1).setChan 7 { check := true })
theorem wit_DdrChannels_6c : 7 < 8 ∧ s_DdrChannels_6c.powered (dDdr (7 / 2)) = true
    ∧ s_DdrChannels_6c.ddrSt 7 = ddTraining := by decide +kernel
/-- A state for ddrTrainingDone. -/
def s_DdrChannels_6d : State := ((host.set F.DDR_CH_STAT_STATE 7 1).setChan 7 { check := true })
theorem wit_DdrChannels_6d : 7 < 8 ∧ s_DdrChannels_6d.powered (dDdr (7 / 2)) = true
    ∧ s_DdrChannels_6d.ddrSt 7 = ddTraining := by decide +kernel
/-- A state for ddrSelfrefEntryDone. -/
def s_DdrChannels_7 : State := (host.setChan 7 { entering := true, words := [(5, some 6)] })
theorem wit_DdrChannels_7 : (s_DdrChannels_7.chan 7).entering = true := by decide +kernel

/-! ### MailboxDoors -/

/-- A state for mbxRing. -/
def s_MailboxDoors_1 : State := (host.setBox 64 { cmdBuf := [1, 2, 3] })
theorem wit_MailboxDoors_1 : s_MailboxDoors_1.mayWrite ((.pf 1) : Src) .MBX_CMD_DOOR 64 = true
    ∧ fldOf F.MBX_CMD_DOOR_RING (1 : Word) = 1 ∧ s_MailboxDoors_1.powered 1 = true
    ∧ s_MailboxDoors_1.mbSt 64 = mbIdle ∧ 0x0200 < 65536 ∧ 0xFFFF < 65536
    ∧ ([63, 0, 0, 0] : List Byte).length ≤ pageCap 64 := by decide +kernel
/-- A state for mbxRing. -/
def s_MailboxDoors_1b : State := host
theorem wit_MailboxDoors_1b : s_MailboxDoors_1b.mayWrite ((.pf 1) : Src) .MBX_CMD_DOOR 64 = true
    ∧ fldOf F.MBX_CMD_DOOR_RING (1 : Word) = 1 ∧ s_MailboxDoors_1b.powered 1 = true
    ∧ s_MailboxDoors_1b.mbSt 64 = mbIdle ∧ 0xFFFF < 65536 ∧ 7 < 65536 ∧ ([] : List Byte).length ≤ pageCap 64 := by decide +kernel
/-- A state for mbxRing. -/
def s_MailboxDoors_1c : State := (host.set F.MBX_FW_STAT_FW_UP 0 0)
theorem wit_MailboxDoors_1c : s_MailboxDoors_1c.mayWrite ((.vf 63) : Src) .MBX_CMD_DOOR 63 = true
    ∧ fldOf F.MBX_CMD_DOOR_RING (1 : Word) = 1 ∧ s_MailboxDoors_1c.powered 1 = true
    ∧ s_MailboxDoors_1c.mbSt 63 = mbIdle ∧ 0x0101 < 65536 ∧ 7 < 65536 ∧ ([] : List Byte).length ≤ pageCap 63 := by decide +kernel
/-- A state for mbxRing. -/
def s_MailboxDoors_2 : State := (host.set F.MBX_STATUS_STATE 64 1)
theorem wit_MailboxDoors_2 : s_MailboxDoors_2.mayWrite ((.pf 1) : Src) .MBX_CMD_DOOR 64 = true
    ∧ fldOf F.MBX_CMD_DOOR_RING (1 : Word) = 1 ∧ s_MailboxDoors_2.mbSt 64 ≠ mbIdle
    ∧ s_MailboxDoors_2.mbSt 64 ≠ mbMore := by decide +kernel
/-- A state for mbxAck. -/
def s_MailboxDoors_3 : State := (host.set F.MBX_STATUS_STATE 63 3)
theorem wit_MailboxDoors_3 : s_MailboxDoors_3.mayWrite ((.vf 63) : Src) .MBX_RSP_DOOR 63 = true
    ∧ fldOf F.MBX_RSP_DOOR_ACK (1 : Word) = 1 := by decide +kernel
/-- A state for mbxAck. -/
def s_MailboxDoors_3b : State := ((host.set F.MBX_STATUS_STATE 64 3).setBox 64 { pages := [[1], [2]] })
theorem wit_MailboxDoors_3b : s_MailboxDoors_3b.mayWrite ((.pf 0) : Src) .MBX_RSP_DOOR 64 = true
    ∧ fldOf F.MBX_RSP_DOOR_ACK (1 : Word) = 1 := by decide +kernel
/-- A state for mbxAck. -/
def s_MailboxDoors_3c : State := (host.set F.MBX_STATUS_STATE 64 2)
theorem wit_MailboxDoors_3c : s_MailboxDoors_3c.mayWrite ((.pf 0) : Src) .MBX_RSP_DOOR 64 = true
    ∧ fldOf F.MBX_RSP_DOOR_ACK (1 : Word) = 1 := by decide +kernel
/-- A state for mbxAbort. -/
def s_MailboxDoors_4 : State := (serve (cmd 64 0x0101 []) (host.set F.MBX_STATUS_STATE 64 1))
theorem wit_MailboxDoors_4 : s_MailboxDoors_4.mayWrite ((.pf 0) : Src) .MBX_CTL 64 = true
    ∧ fldOf F.MBX_CTL_ABORT (3 : Word) = 1 := by decide +kernel
/-- A state for mbxAbort. -/
def s_MailboxDoors_4b : State := (host.set F.MBX_STATUS_STATE 64 3)
theorem wit_MailboxDoors_4b : s_MailboxDoors_4b.mayWrite ((.pf 0) : Src) .MBX_CTL 64 = true
    ∧ fldOf F.MBX_CTL_ABORT (1 : Word) = 1 := by decide +kernel
/-- A state for pageTimerExpiry. -/
def s_MailboxDoors_5 : State := ({ host with time := 100000000 }.set F.MBX_STATUS_STATE 65 2)
theorem wit_MailboxDoors_5 : 65 < 66 ∧ (s_MailboxDoors_5.mbSt 65 = mbMore ∨ s_MailboxDoors_5.mbSt 65 = mbRsp)
    ∧ s_MailboxDoors_5.timerDue (tmPage 65) 100000000 = true := by decide +kernel
/-- A state for pageTimerExpiry. -/
def s_MailboxDoors_5b : State := (({ host with time := 100000000 }.set F.MBX_STATUS_STATE 65 3).setBox 65 { pages := [[1]] })
theorem wit_MailboxDoors_5b : 65 < 66 ∧ (s_MailboxDoors_5b.mbSt 65 = mbMore ∨ s_MailboxDoors_5b.mbSt 65 = mbRsp)
    ∧ s_MailboxDoors_5b.timerDue (tmPage 65) 100000000 = true := by decide +kernel
/-- A state for cataloguedTimeExceeded. -/
def s_MailboxDoors_6 : State := (serve (cmd 65 0x0101 []) { host with time := 1000000 })
theorem wit_MailboxDoors_6 : 
   (s_MailboxDoors_6.mbx.cmds.find? fun x => x.mb == 65) = some ((cmd 65 0x0101 []) : MbCmd)
    ∧ s_MailboxDoors_6.serves ((cmd 65 0x0101 []) : MbCmd) = true
    ∧ ((cmd 65 0x0101 []) : MbCmd).taken + catTime ((cmd 65 0x0101 []) : MbCmd) ≤ s_MailboxDoors_6.time := by decide +kernel
/-- A state for cataloguedTimeExceeded. -/
def s_MailboxDoors_6b : State := (serve (cmd 63 0x0101 []) { host with time := 1000000 })
theorem wit_MailboxDoors_6b : 
   (s_MailboxDoors_6b.mbx.cmds.find? fun x => x.mb == 63) = some ((cmd 63 0x0101 []) : MbCmd)
    ∧ s_MailboxDoors_6b.serves ((cmd 63 0x0101 []) : MbCmd) = true
    ∧ ((cmd 63 0x0101 []) : MbCmd).taken + catTime ((cmd 63 0x0101 []) : MbCmd) ≤ s_MailboxDoors_6b.time := by decide +kernel
/-- A state for mctpMessage. -/
def s_MailboxDoors_7 : State := host
theorem wit_MailboxDoors_7 : s_MailboxDoors_7.powered 5 = true := by decide +kernel
/-- A state for mctpMessage. -/
def s_MailboxDoors_7b : State := ((host.set F.MBX_STATUS_STATE 65 3).setBox 65 { pages := [[1], [2]] })
theorem wit_MailboxDoors_7b : s_MailboxDoors_7b.powered 5 = true := by decide +kernel
/-- A state for setEndpointId. -/
def s_MailboxDoors_8 : State := host
theorem wit_MailboxDoors_8 : s_MailboxDoors_8.powered 5 = true := by decide +kernel
/-- A state for setEndpointId. -/
def s_MailboxDoors_8b : State := host
theorem wit_MailboxDoors_8b : s_MailboxDoors_8b.powered 5 = true := by decide +kernel
/-- A state for getEndpointId. -/
def s_MailboxDoors_9 : State := host
theorem wit_MailboxDoors_9 : s_MailboxDoors_9.powered 5 = true := by decide +kernel
/-- A state for getMctpVersionSupport. -/
def s_MailboxDoors_10 : State := host
theorem wit_MailboxDoors_10 : s_MailboxDoors_10.powered 5 = true := by decide +kernel
/-- A state for getMessageTypeSupport. -/
def s_MailboxDoors_11 : State := host
theorem wit_MailboxDoors_11 : s_MailboxDoors_11.powered 5 = true := by decide +kernel
/-- A state for getVendorDefinedMsgSupport. -/
def s_MailboxDoors_12 : State := host
theorem wit_MailboxDoors_12 : s_MailboxDoors_12.powered 5 = true := by decide +kernel
/-- A state for getVendorDefinedMsgSupport. -/
def s_MailboxDoors_12b : State := host
theorem wit_MailboxDoors_12b : s_MailboxDoors_12b.powered 5 = true := by decide +kernel
/-- A state for dynamicAddressAssignment. -/
def s_MailboxDoors_13 : State := (host.set F.DBG_STRAP_SB_SEL 0 1)
theorem wit_MailboxDoors_13 : s_MailboxDoors_13.powered 5 = true
    ∧ s_MailboxDoors_13.flag F.DBG_STRAP_SB_SEL 0 = true := by decide +kernel

/-! ### BenchCommands -/

/-- A state for devInfo. -/
def s_BenchCommands_1 : State := (serve (cmd 63 0x0100 []) host)
theorem wit_BenchCommands_1 : s_BenchCommands_1.current 63 0x0100 = some ((cmd 63 0x0100 []) : MbCmd) := by decide +kernel
/-- A state for devTime. -/
def s_BenchCommands_2 : State := (serve { cmd 65 0x0101 [] with taken := 2 ^ 40 + 5 } { host with time := 2 ^ 40 + 7 })
theorem wit_BenchCommands_2 : 
   s_BenchCommands_2.current 65 0x0101 = some ({ cmd 65 0x0101 [] with taken := 2 ^ 40 + 5 } : MbCmd) := by decide +kernel
/-- A state for devTime. -/
def s_BenchCommands_2b : State := (serve { cmd 64 0x0101 [] with drop := true } { host with time := 2 ^ 40 + 5 })
theorem wit_BenchCommands_2b : 
   s_BenchCommands_2b.current 64 0x0101 = some ({ cmd 64 0x0101 [] with drop := true } : MbCmd) := by decide +kernel
/-- A state for otpStep. -/
def s_BenchCommands_3 : State := (serve (cmd 64 0x0102 [1, 0, 0, 0]) host)
theorem wit_BenchCommands_3 : s_BenchCommands_3.current 64 0x0102 = some ((cmd 64 0x0102 [1, 0, 0, 0]) : MbCmd) := by decide +kernel
/-- A state for otpStep. -/
def s_BenchCommands_3b : State := (serve (cmd 64 0x0102 [2, 0, 0, 0]) host)
theorem wit_BenchCommands_3b : 
   s_BenchCommands_3b.current 64 0x0102 = some ((cmd 64 0x0102 [2, 0, 0, 0]) : MbCmd) := by decide +kernel
/-- A state for otpStepTimeout. -/
def s_BenchCommands_4 : State := { host with time := 10000000000, fw := { stepOpen := true } }
theorem wit_BenchCommands_4 : s_BenchCommands_4.timerDue tmOtp 10000000000 = true := by decide +kernel
/-- A state for otpBoard. -/
def s_BenchCommands_5 : State := (serve (cmd 64 0x0103 []) { host with fw := { stepOpen := true } })
theorem wit_BenchCommands_5 : s_BenchCommands_5.current 64 0x0103 = some ((cmd 64 0x0103 []) : MbCmd) := by decide +kernel
/-- A state for otpBoard. -/
def s_BenchCommands_5b : State := (serve (cmd 64 0x0103 ((upTo 20).flatMap fun z => leBytes 4 (hluAbs z))) { host with fw := { stepOpen := true } })
theorem wit_BenchCommands_5b : 
   s_BenchCommands_5b.current 64 0x0103 = some ((cmd 64 0x0103 ((upTo 20).flatMap fun z => leBytes 4 (hluAbs z))) : MbCmd) := by decide +kernel
/-- A state for otpBoard. -/
def s_BenchCommands_5c : State := (serve (cmd 64 0x0103 []) host)
theorem wit_BenchCommands_5c : s_BenchCommands_5c.current 64 0x0103 = some ((cmd 64 0x0103 []) : MbCmd) := by decide +kernel
/-- A state for benchAssign. -/
def s_BenchCommands_6 : State := (serve (cmd 64 0x0200 [63, 3, 0, 0]) host)
theorem wit_BenchCommands_6 : s_BenchCommands_6.current 64 0x0200 = some ((cmd 64 0x0200 [63, 3, 0, 0]) : MbCmd)
    ∧ pf ((cmd 64 0x0200 [63, 3, 0, 0]) : MbCmd) 0 1 < 64
    ∧ 1 = bitOf (pf ((cmd 64 0x0200 [63, 3, 0, 0]) : MbCmd) 1 1) 0
    ∧ 1 = bitOf (pf ((cmd 64 0x0200 [63, 3, 0, 0]) : MbCmd) 1 1) 1 := by decide +kernel
/-- A state for benchAssign. -/
def s_BenchCommands_6b : State := (serve (cmd 65 0x0200 [63, 2, 0, 0]) host)
theorem wit_BenchCommands_6b : 
   s_BenchCommands_6b.current 65 0x0200 = some ((cmd 65 0x0200 [63, 2, 0, 0]) : MbCmd)
    ∧ pf ((cmd 65 0x0200 [63, 2, 0, 0]) : MbCmd) 0 1 < 64
    ∧ 0 = bitOf (pf ((cmd 65 0x0200 [63, 2, 0, 0]) : MbCmd) 1 1) 0
    ∧ 1 = bitOf (pf ((cmd 65 0x0200 [63, 2, 0, 0]) : MbCmd) 1 1) 1 := by decide +kernel
/-- A state for benchAssign. -/
def s_BenchCommands_6c : State := (serve (cmd 65 0x0200 [63, 1, 0, 0]) (onl 63 0 host))
theorem wit_BenchCommands_6c : 
   s_BenchCommands_6c.current 65 0x0200 = some ((cmd 65 0x0200 [63, 1, 0, 0]) : MbCmd)
    ∧ pf ((cmd 65 0x0200 [63, 1, 0, 0]) : MbCmd) 0 1 < 64
    ∧ 1 = bitOf (pf ((cmd 65 0x0200 [63, 1, 0, 0]) : MbCmd) 1 1) 0
    ∧ 0 = bitOf (pf ((cmd 65 0x0200 [63, 1, 0, 0]) : MbCmd) 1 1) 1 := by decide +kernel
/-- A state for gangFormCmd. -/
def s_BenchCommands_7 : State := (serve (cmd 64 0x0201 [3, 10, 5, 0]) ((acq [58, 59, 62, 63] host).set F.BENCH_SURGE_CTL_SURGE_MAX 3 4))
theorem wit_BenchCommands_7 : s_BenchCommands_7.current 64 0x0201 = some ((cmd 64 0x0201 [3, 10, 5, 0]) : MbCmd)
    ∧ 3 = pf ((cmd 64 0x0201 [3, 10, 5, 0]) : MbCmd) 0 1 ∧ 10 = pf ((cmd 64 0x0201 [3, 10, 5, 0]) : MbCmd) 1 1
    ∧ 3 < 4 ∧ 10 < 16 ∧ 1 = bitsOf (pf ((cmd 64 0x0201 [3, 10, 5, 0]) : MbCmd) 2 1) 0 2
    ∧ 1 = bitsOf (pf ((cmd 64 0x0201 [3, 10, 5, 0]) : MbCmd) 2 1) 2 2 := by decide +kernel
/-- A state for gangFormCmd. -/
def s_BenchCommands_7b : State := (serve (cmd 64 0x0201 [3, 15, 5, 0]) host)
theorem wit_BenchCommands_7b : 
   s_BenchCommands_7b.current 64 0x0201 = some ((cmd 64 0x0201 [3, 15, 5, 0]) : MbCmd)
    ∧ 3 = pf ((cmd 64 0x0201 [3, 15, 5, 0]) : MbCmd) 0 1 ∧ 15 = pf ((cmd 64 0x0201 [3, 15, 5, 0]) : MbCmd) 1 1
    ∧ 3 < 4 ∧ 15 < 16 ∧ 1 = bitsOf (pf ((cmd 64 0x0201 [3, 15, 5, 0]) : MbCmd) 2 1) 0 2
    ∧ 1 = bitsOf (pf ((cmd 64 0x0201 [3, 15, 5, 0]) : MbCmd) 2 1) 2 2 := by decide +kernel
/-- A state for gangDissolveCmd. -/
def s_BenchCommands_8 : State := (serve (cmd 64 0x0202 [3, 10, 0, 0]) ((host.gangStat 58 10 1 1).gangStat 59 10 1 1))
theorem wit_BenchCommands_8 : s_BenchCommands_8.current 64 0x0202 = some ((cmd 64 0x0202 [3, 10, 0, 0]) : MbCmd)
    ∧ pf ((cmd 64 0x0202 [3, 10, 0, 0]) : MbCmd) 0 1 < 4 ∧ pf ((cmd 64 0x0202 [3, 10, 0, 0]) : MbCmd) 1 1 < 16
    ∧ 58 = 16 * pf ((cmd 64 0x0202 [3, 10, 0, 0]) : MbCmd) 0 1 + pf ((cmd 64 0x0202 [3, 10, 0, 0]) : MbCmd) 1 1 := by decide +kernel
/-- A state for gangDissolveCmd. -/
def s_BenchCommands_8b : State := (serve (cmd 64 0x0202 [3, 15, 0, 0]) host)
theorem wit_BenchCommands_8b : 
   s_BenchCommands_8b.current 64 0x0202 = some ((cmd 64 0x0202 [3, 15, 0, 0]) : MbCmd)
    ∧ pf ((cmd 64 0x0202 [3, 15, 0, 0]) : MbCmd) 0 1 < 4 ∧ pf ((cmd 64 0x0202 [3, 15, 0, 0]) : MbCmd) 1 1 < 16
    ∧ 63 = 16 * pf ((cmd 64 0x0202 [3, 15, 0, 0]) : MbCmd) 0 1 + pf ((cmd 64 0x0202 [3, 15, 0, 0]) : MbCmd) 1 1 := by decide +kernel
/-- A state for mfenceSet. -/
def s_BenchCommands_9 : State := (serve (cmd 64 0x0203 [63, 7, 0, 0, 255, 3, 0, 128, 1, 0, 1, 128, 0, 0, 0, 0, 0, 0, 0, 0]) host)
theorem wit_BenchCommands_9 : 
   s_BenchCommands_9.current 64 0x0203 = some ((cmd 64 0x0203 [63, 7, 0, 0, 255, 3, 0, 128, 1, 0, 1, 128, 0, 0, 0, 0, 0, 0, 0, 0]) : MbCmd)
    ∧ 63 = pf ((cmd 64 0x0203 [63, 7, 0, 0, 255, 3, 0, 128, 1, 0, 1, 128, 0, 0, 0, 0, 0, 0, 0, 0]) : MbCmd) 0 1
    ∧ 7 = pf ((cmd 64 0x0203 [63, 7, 0, 0, 255, 3, 0, 128, 1, 0, 1, 128, 0, 0, 0, 0, 0, 0, 0, 0]) : MbCmd) 1 1
    ∧ 63 < 64 ∧ 7 < 8 ∧ s_BenchCommands_9.benchUp 63 = true := by decide +kernel
/-- A state for mfenceSet. -/
def s_BenchCommands_9b : State := (serve (cmd 64 0x0203 [63, 7, 0, 0, 0, 0, 0, 0, 255, 3, 1, 0, 0, 0, 0, 0, 0, 0, 0, 0]) host)
theorem wit_BenchCommands_9b : 
   s_BenchCommands_9b.current 64 0x0203 = some ((cmd 64 0x0203 [63, 7, 0, 0, 0, 0, 0, 0, 255, 3, 1, 0, 0, 0, 0, 0, 0, 0, 0, 0]) : MbCmd)
    ∧ 63 = pf ((cmd 64 0x0203 [63, 7, 0, 0, 0, 0, 0, 0, 255, 3, 1, 0, 0, 0, 0, 0, 0, 0, 0, 0]) : MbCmd) 0 1
    ∧ 7 = pf ((cmd 64 0x0203 [63, 7, 0, 0, 0, 0, 0, 0, 255, 3, 1, 0, 0, 0, 0, 0, 0, 0, 0, 0]) : MbCmd) 1 1
    ∧ 63 < 64 ∧ 7 < 8 ∧ s_BenchCommands_9b.benchUp 63 = true := by decide +kernel
/-- A state for hwinSet. -/
def s_BenchCommands_10 : State := (serve (cmd 64 0x0204 [63, 15, 0, 0, 0, 16, 0, 0, 0, 0, 12, 224]) host)
theorem wit_BenchCommands_10 : 
   s_BenchCommands_10.current 64 0x0204 = some ((cmd 64 0x0204 [63, 15, 0, 0, 0, 16, 0, 0, 0, 0, 12, 224]) : MbCmd)
    ∧ 63 = pf ((cmd 64 0x0204 [63, 15, 0, 0, 0, 16, 0, 0, 0, 0, 12, 224]) : MbCmd) 0 1
    ∧ 15 = pf ((cmd 64 0x0204 [63, 15, 0, 0, 0, 16, 0, 0, 0, 0, 12, 224]) : MbCmd) 1 1 ∧ 63 < 64 ∧ 15 < 16
    ∧ s_BenchCommands_10.benchUp 63 = true := by decide +kernel
/-- A state for hwinSet. -/
def s_BenchCommands_10b : State := (serve (cmd 64 0x0204 [63, 15, 0, 0, 0, 16, 0, 0, 0, 0, 13, 224]) host)
theorem wit_BenchCommands_10b : 
   s_BenchCommands_10b.current 64 0x0204 = some ((cmd 64 0x0204 [63, 15, 0, 0, 0, 16, 0, 0, 0, 0, 13, 224]) : MbCmd)
    ∧ 63 = pf ((cmd 64 0x0204 [63, 15, 0, 0, 0, 16, 0, 0, 0, 0, 13, 224]) : MbCmd) 0 1
    ∧ 15 = pf ((cmd 64 0x0204 [63, 15, 0, 0, 0, 16, 0, 0, 0, 0, 13, 224]) : MbCmd) 1 1 ∧ 63 < 64 ∧ 15 < 16
    ∧ s_BenchCommands_10b.benchUp 63 = true := by decide +kernel
/-- A state for laneFence. -/
def s_BenchCommands_11 : State := (serve (cmd 64 0x0205 [63, 0, 0, 0, 1, 0, 0, 0, 0, 0, 0, 128, 2, 0, 0, 0, 0, 0, 0, 64]) (host.set F.BENCH_LANE_TX_LO_TX_LO 5 2))
theorem wit_BenchCommands_11 : 
   s_BenchCommands_11.current 64 0x0205 = some ((cmd 64 0x0205 [63, 0, 0, 0, 1, 0, 0, 0, 0, 0, 0, 128, 2, 0, 0, 0, 0, 0, 0, 64]) : MbCmd)
    ∧ 63 = pf ((cmd 64 0x0205 [63, 0, 0, 0, 1, 0, 0, 0, 0, 0, 0, 128, 2, 0, 0, 0, 0, 0, 0, 64]) : MbCmd) 0 1
    ∧ 63 < 64 ∧ s_BenchCommands_11.benchUp 63 = true := by decide +kernel
/-- A state for laneFence. -/
def s_BenchCommands_11b : State := (serve (cmd 64 0x0205 [63, 0, 0, 0, 1, 0, 0, 0, 0, 0, 0, 128, 2, 0, 0, 0, 0, 0, 0, 64]) (host.setReg .BENCH_LANE_RX_HI 5 0x40000000))
theorem wit_BenchCommands_11b : 
   s_BenchCommands_11b.current 64 0x0205 = some ((cmd 64 0x0205 [63, 0, 0, 0, 1, 0, 0, 0, 0, 0, 0, 128, 2, 0, 0, 0, 0, 0, 0, 64]) : MbCmd)
    ∧ 63 = pf ((cmd 64 0x0205 [63, 0, 0, 0, 1, 0, 0, 0, 0, 0, 0, 128, 2, 0, 0, 0, 0, 0, 0, 64]) : MbCmd) 0 1
    ∧ 63 < 64 ∧ s_BenchCommands_11b.benchUp 63 = true := by decide +kernel
/-- A state for wbSet. -/
def s_BenchCommands_12 : State := (serve (cmd 64 0x0206 [63, 1, 1, 0, 15, 0, 31, 0]) host)
theorem wit_BenchCommands_12 : 
   s_BenchCommands_12.current 64 0x0206 = some ((cmd 64 0x0206 [63, 1, 1, 0, 15, 0, 31, 0]) : MbCmd)
    ∧ 63 = pf ((cmd 64 0x0206 [63, 1, 1, 0, 15, 0, 31, 0]) : MbCmd) 0 1
    ∧ 1 = pf ((cmd 64 0x0206 [63, 1, 1, 0, 15, 0, 31, 0]) : MbCmd) 1 1
    ∧ 1 = pf ((cmd 64 0x0206 [63, 1, 1, 0, 15, 0, 31, 0]) : MbCmd) 2 1 ∧ 382 = 6 * 63 + 3 * 1 + 1 ∧ 63 < 64
    ∧ 1 < 2 ∧ 1 < 3 ∧ s_BenchCommands_12.benchUp 63 = true := by decide +kernel
/-- A state for pcapSet. -/
def s_BenchCommands_13 : State := (serve (cmd 64 0x0207 [63, 0, 0, 0, 192, 93, 4, 128]) host)
theorem wit_BenchCommands_13 : 
   s_BenchCommands_13.current 64 0x0207 = some ((cmd 64 0x0207 [63, 0, 0, 0, 192, 93, 4, 128]) : MbCmd)
    ∧ 63 = pf ((cmd 64 0x0207 [63, 0, 0, 0, 192, 93, 4, 128]) : MbCmd) 0 1 ∧ 63 < 64
    ∧ s_BenchCommands_13.benchUp 63 = true := by decide +kernel
/-- A state for pcapSet. -/
def s_BenchCommands_13b : State := (serve (cmd 64 0x0207 [63, 0, 0, 0, 193, 93, 4, 128]) host)
theorem wit_BenchCommands_13b : 
   s_BenchCommands_13b.current 64 0x0207 = some ((cmd 64 0x0207 [63, 0, 0, 0, 193, 93, 4, 128]) : MbCmd)
    ∧ 63 = pf ((cmd 64 0x0207 [63, 0, 0, 0, 193, 93, 4, 128]) : MbCmd) 0 1 ∧ 63 < 64
    ∧ s_BenchCommands_13b.benchUp 63 = true := by decide +kernel
/-- A state for hopperSet. -/
def s_BenchCommands_14 : State := (serve (cmd 64 0x0208 [63, 31, 3, 0, 0, 0, 0, 0, 0, 0, 0, 128]) host)
theorem wit_BenchCommands_14 : 
   s_BenchCommands_14.current 64 0x0208 = some ((cmd 64 0x0208 [63, 31, 3, 0, 0, 0, 0, 0, 0, 0, 0, 128]) : MbCmd)
    ∧ 63 = pf ((cmd 64 0x0208 [63, 31, 3, 0, 0, 0, 0, 0, 0, 0, 0, 128]) : MbCmd) 0 1
    ∧ 31 = pf ((cmd 64 0x0208 [63, 31, 3, 0, 0, 0, 0, 0, 0, 0, 0, 128]) : MbCmd) 1 1 ∧ 2047 = 32 * 63 + 31
    ∧ 63 < 64 ∧ 31 < 32 ∧ s_BenchCommands_14.benchUp 63 = true
    ∧ pf ((cmd 64 0x0208 [63, 31, 3, 0, 0, 0, 0, 0, 0, 0, 0, 128]) : MbCmd) 2 1 = 3 := by decide +kernel
/-- A state for hopperSet. -/
def s_BenchCommands_14b : State := (serve (cmd 64 0x0208 [63, 31, 3, 0, 255, 255, 255, 255, 0, 0, 0, 128]) host)
theorem wit_BenchCommands_14b : 
   s_BenchCommands_14b.current 64 0x0208 = some ((cmd 64 0x0208 [63, 31, 3, 0, 255, 255, 255, 255, 0, 0, 0, 128]) : MbCmd)
    ∧ 63 = pf ((cmd 64 0x0208 [63, 31, 3, 0, 255, 255, 255, 255, 0, 0, 0, 128]) : MbCmd) 0 1
    ∧ 31 = pf ((cmd 64 0x0208 [63, 31, 3, 0, 255, 255, 255, 255, 0, 0, 0, 128]) : MbCmd) 1 1
    ∧ 2047 = 32 * 63 + 31 ∧ 63 < 64 ∧ 31 < 32 ∧ s_BenchCommands_14b.benchUp 63 = true
    ∧ pf ((cmd 64 0x0208 [63, 31, 3, 0, 255, 255, 255, 255, 0, 0, 0, 128]) : MbCmd) 2 1 = 3 := by decide +kernel
/-- A state for declApply. -/
def s_BenchCommands_15 : State := (serve (cmd 64 0x0209 [63, 7, 0, 0, 9, 0, 0, 0]) host)
theorem wit_BenchCommands_15 : 
   s_BenchCommands_15.current 64 0x0209 = some ((cmd 64 0x0209 [63, 7, 0, 0, 9, 0, 0, 0]) : MbCmd)
    ∧ 63 = pf ((cmd 64 0x0209 [63, 7, 0, 0, 9, 0, 0, 0]) : MbCmd) 0 1
    ∧ 7 = pf ((cmd 64 0x0209 [63, 7, 0, 0, 9, 0, 0, 0]) : MbCmd) 1 1 ∧ 63 < 64 ∧ 7 < 8
    ∧ s_BenchCommands_15.benchUp 63 = true
    ∧ declScanBytes (((cmd 64 0x0209 [63, 7, 0, 0, 9, 0, 0, 0]) : MbCmd).payload.drop 4) = (some 0, ([] : List (Nat × List Nat))) := by decide +kernel
/-- A state for declApply. -/
def s_BenchCommands_16 : State := (serve (cmd 64 0x0209 ([63, 7, 0, 0] ++ ([0x101, 7, 0x406, 0, 0, 1, 0, 0].flatMap fun z => leBytes 4 z))) (host.set F.BENCH_MFENCE_EN 2047 1))
theorem wit_BenchCommands_16 : 
   s_BenchCommands_16.current 64 0x0209 = some ((cmd 64 0x0209 ([63, 7, 0, 0] ++ ([0x101, 7, 0x406, 0, 0, 1, 0, 0].flatMap fun z => leBytes 4 z))) : MbCmd)
    ∧ 63 = pf ((cmd 64 0x0209 ([63, 7, 0, 0] ++ ([0x101, 7, 0x406, 0, 0, 1, 0, 0].flatMap fun z => leBytes 4 z))) : MbCmd) 0 1
    ∧ 7 = pf ((cmd 64 0x0209 ([63, 7, 0, 0] ++ ([0x101, 7, 0x406, 0, 0, 1, 0, 0].flatMap fun z => leBytes 4 z))) : MbCmd) 1 1
    ∧ 63 < 64 ∧ 7 < 8 ∧ s_BenchCommands_16.benchUp 63 = true
    ∧ pf ((cmd 64 0x0209 ([63, 7, 0, 0] ++ ([0x101, 7, 0x406, 0, 0, 1, 0, 0].flatMap fun z => leBytes 4 z))) : MbCmd) 2 1 = 0
    ∧ declScanBytes (((cmd 64 0x0209 ([63, 7, 0, 0] ++ ([0x101, 7, 0x406, 0, 0, 1, 0, 0].flatMap fun z => leBytes 4 z))) : MbCmd).payload.drop 4) = (none, [(1, [7]), (6, ([0, 0, 1, 0] : List Nat))])
    ∧ 7 < 2 ^ 31 ∧ mfenceBad (BitVec.ofNat 32 (2 ^ 31 + 7)) = false := by decide +kernel
/-- A state for benchStatus. -/
def s_BenchCommands_17 : State := (serve (cmd 63 0x020A [63, 0, 0, 0]) host)
theorem wit_BenchCommands_17 : 
   s_BenchCommands_17.current 63 0x020A = some ((cmd 63 0x020A [63, 0, 0, 0]) : MbCmd)
    ∧ 63 = pf ((cmd 63 0x020A [63, 0, 0, 0]) : MbCmd) 0 1 ∧ 63 < 64 := by decide +kernel
/-- A state for benchStatus. -/
def s_BenchCommands_17b : State := (serve (cmd 62 0x020A [63, 0, 0, 0]) host)
theorem wit_BenchCommands_17b : 
   s_BenchCommands_17b.current 62 0x020A = some ((cmd 62 0x020A [63, 0, 0, 0]) : MbCmd)
    ∧ 63 = pf ((cmd 62 0x020A [63, 0, 0, 0]) : MbCmd) 0 1 ∧ 63 < 64 := by decide +kernel

/-! ### SlotLaneAndPowerCommands -/

/-- A state for slotCopy. -/
def s_SlotLaneAndPowerCommands_1 : State := (serve (cmd 64 0x0300 [255, 15, 0, 0]) (host.setSlotSt 4095 2))
theorem wit_SlotLaneAndPowerCommands_1 : 
   s_SlotLaneAndPowerCommands_1.current 64 0x0300 = some ((cmd 64 0x0300 [255, 15, 0, 0]) : MbCmd)
    ∧ 4095 = pf ((cmd 64 0x0300 [255, 15, 0, 0]) : MbCmd) 0 2
    ∧ 0 = pf ((cmd 64 0x0300 [255, 15, 0, 0]) : MbCmd) 2 2
    ∧ ((cmd 64 0x0300 [255, 15, 0, 0]) : MbCmd).started = false := by decide +kernel
/-- A state for slotCopy. -/
def s_SlotLaneAndPowerCommands_1b : State := (serve (cmd 64 0x0300 [255, 15, 0, 0]) host)
theorem wit_SlotLaneAndPowerCommands_1b : 
   s_SlotLaneAndPowerCommands_1b.current 64 0x0300 = some ((cmd 64 0x0300 [255, 15, 0, 0]) : MbCmd)
    ∧ 4095 = pf ((cmd 64 0x0300 [255, 15, 0, 0]) : MbCmd) 0 2
    ∧ 0 = pf ((cmd 64 0x0300 [255, 15, 0, 0]) : MbCmd) 2 2
    ∧ ((cmd 64 0x0300 [255, 15, 0, 0]) : MbCmd).started = false := by decide +kernel
/-- A state for slotCopy. -/
def s_SlotLaneAndPowerCommands_2 : State := (serve { cmd 64 0x0300 [0, 0, 255, 15] with started := true } (host.setSlotSt 4095 2))
theorem wit_SlotLaneAndPowerCommands_2 : 
   s_SlotLaneAndPowerCommands_2.current 64 0x0300 = some ({ cmd 64 0x0300 [0, 0, 255, 15] with started := true } : MbCmd)
    ∧ 4095 = pf ({ cmd 64 0x0300 [0, 0, 255, 15] with started := true } : MbCmd) 2 2
    ∧ ({ cmd 64 0x0300 [0, 0, 255, 15] with started := true } : MbCmd).started = true
    ∧ (s_SlotLaneAndPowerCommands_2.slots.copies.any fun x => x.from_ == pf ({ cmd 64 0x0300 [0, 0, 255, 15] with started := true } : MbCmd) 0 2 && x.to_ == 4095) = false := by decide +kernel
/-- A state for slotCopy. -/
def s_SlotLaneAndPowerCommands_2b : State := (serve { cmd 64 0x0300 [0, 0, 255, 15] with started := true } host)
theorem wit_SlotLaneAndPowerCommands_2b : 
   s_SlotLaneAndPowerCommands_2b.current 64 0x0300 = some ({ cmd 64 0x0300 [0, 0, 255, 15] with started := true } : MbCmd)
    ∧ 4095 = pf ({ cmd 64 0x0300 [0, 0, 255, 15] with started := true } : MbCmd) 2 2
    ∧ ({ cmd 64 0x0300 [0, 0, 255, 15] with started := true } : MbCmd).started = true
    ∧ (s_SlotLaneAndPowerCommands_2b.slots.copies.any fun x => x.from_ == pf ({ cmd 64 0x0300 [0, 0, 255, 15] with started := true } : MbCmd) 0 2 && x.to_ == 4095) = false := by decide +kernel
/-- A state for slotOwner. -/
def s_SlotLaneAndPowerCommands_3 : State := (serve (cmd 64 0x0301 [255, 15, 63, 1]) host)
theorem wit_SlotLaneAndPowerCommands_3 : 
   s_SlotLaneAndPowerCommands_3.current 64 0x0301 = some ((cmd 64 0x0301 [255, 15, 63, 1]) : MbCmd)
    ∧ 4095 = pf ((cmd 64 0x0301 [255, 15, 63, 1]) : MbCmd) 0 2 ∧ 4095 < 4096
    ∧ pf ((cmd 64 0x0301 [255, 15, 63, 1]) : MbCmd) 2 1 < 64
    ∧ s_SlotLaneAndPowerCommands_3.powered (dCfg (4095 / 1024)) = true := by decide +kernel
/-- A state for slotOwner. -/
def s_SlotLaneAndPowerCommands_3b : State := (serve (cmd 64 0x0301 [255, 15, 63, 1]) (host.setSlotSt 4095 1))
theorem wit_SlotLaneAndPowerCommands_3b : 
   s_SlotLaneAndPowerCommands_3b.current 64 0x0301 = some ((cmd 64 0x0301 [255, 15, 63, 1]) : MbCmd)
    ∧ 4095 = pf ((cmd 64 0x0301 [255, 15, 63, 1]) : MbCmd) 0 2 ∧ 4095 < 4096
    ∧ pf ((cmd 64 0x0301 [255, 15, 63, 1]) : MbCmd) 2 1 < 64
    ∧ s_SlotLaneAndPowerCommands_3b.powered (dCfg (4095 / 1024)) = true := by decide +kernel
/-- A state for slotRelease. -/
def s_SlotLaneAndPowerCommands_4 : State := (serve (cmd 63 0x0302 [255, 15, 0, 0]) ((host.setSlotSt 4095 2).setReg .CTX_SLOT_OWNER 4095 0x8000003F))
theorem wit_SlotLaneAndPowerCommands_4 : 
   s_SlotLaneAndPowerCommands_4.current 63 0x0302 = some ((cmd 63 0x0302 [255, 15, 0, 0]) : MbCmd)
    ∧ 4095 = pf ((cmd 63 0x0302 [255, 15, 0, 0]) : MbCmd) 0 2 ∧ 4095 < 4096
    ∧ s_SlotLaneAndPowerCommands_4.powered (dCfg (4095 / 1024)) = true := by decide +kernel
/-- A state for slotRelease. -/
def s_SlotLaneAndPowerCommands_4b : State := (serve (cmd 62 0x0302 [255, 15, 0, 0]) (host.setSlotSt 4095 2))
theorem wit_SlotLaneAndPowerCommands_4b : 
   s_SlotLaneAndPowerCommands_4b.current 62 0x0302 = some ((cmd 62 0x0302 [255, 15, 0, 0]) : MbCmd)
    ∧ 4095 = pf ((cmd 62 0x0302 [255, 15, 0, 0]) : MbCmd) 0 2 ∧ 4095 < 4096
    ∧ s_SlotLaneAndPowerCommands_4b.powered (dCfg (4095 / 1024)) = true := by decide +kernel
/-- A state for slotRelease. -/
def s_SlotLaneAndPowerCommands_4c : State := (serve (cmd 64 0x0302 [255, 15, 0, 0]) (host.setSlotSt 4095 1))
theorem wit_SlotLaneAndPowerCommands_4c : 
   s_SlotLaneAndPowerCommands_4c.current 64 0x0302 = some ((cmd 64 0x0302 [255, 15, 0, 0]) : MbCmd)
    ∧ 4095 = pf ((cmd 64 0x0302 [255, 15, 0, 0]) : MbCmd) 0 2 ∧ 4095 < 4096
    ∧ s_SlotLaneAndPowerCommands_4c.powered (dCfg (4095 / 1024)) = true := by decide +kernel
/-- A state for slotList. -/
def s_SlotLaneAndPowerCommands_5 : State := (serve (cmd 64 0x0303 [3, 0, 0, 0]) host)
theorem wit_SlotLaneAndPowerCommands_5 : 
   s_SlotLaneAndPowerCommands_5.current 64 0x0303 = some ((cmd 64 0x0303 [3, 0, 0, 0]) : MbCmd)
    ∧ 3 = pf ((cmd 64 0x0303 [3, 0, 0, 0]) : MbCmd) 0 1 ∧ 3 < 4
    ∧ s_SlotLaneAndPowerCommands_5.powered (dCfg 3) = true := by decide +kernel
/-- A state for slotList. -/
def s_SlotLaneAndPowerCommands_5b : State := (serve (cmd 63 0x0303 [3, 0, 0, 0]) (host.setSlotSt 3073 2))
theorem wit_SlotLaneAndPowerCommands_5b : 
   s_SlotLaneAndPowerCommands_5b.current 63 0x0303 = some ((cmd 63 0x0303 [3, 0, 0, 0]) : MbCmd)
    ∧ 3 = pf ((cmd 63 0x0303 [3, 0, 0, 0]) : MbCmd) 0 1 ∧ 3 < 4
    ∧ s_SlotLaneAndPowerCommands_5b.powered (dCfg 3) = true := by decide +kernel
/-- A state for scrubSet. -/
def s_SlotLaneAndPowerCommands_6 : State := (serve (cmd 64 0x0304 [3, 1, 0, 128]) host)
theorem wit_SlotLaneAndPowerCommands_6 : 
   s_SlotLaneAndPowerCommands_6.current 64 0x0304 = some ((cmd 64 0x0304 [3, 1, 0, 128]) : MbCmd)
    ∧ 3 = pf ((cmd 64 0x0304 [3, 1, 0, 128]) : MbCmd) 0 1 ∧ 3 < 4 := by decide +kernel
/-- A state for scrubSet. -/
def s_SlotLaneAndPowerCommands_6b : State := (serve (cmd 64 0x0304 [3, 1, 0, 128]) host)
theorem wit_SlotLaneAndPowerCommands_6b : 
   s_SlotLaneAndPowerCommands_6b.current 64 0x0304 = some ((cmd 64 0x0304 [3, 1, 0, 128]) : MbCmd)
    ∧ 3 = pf ((cmd 64 0x0304 [3, 1, 0, 128]) : MbCmd) 0 1 ∧ 3 < 4 := by decide +kernel
/-- A state for octetCfg. -/
def s_SlotLaneAndPowerCommands_7 : State := (serve (cmd 64 0x0400 [7, 0, 0, 0, 0, 0, 0, 128]) host)
theorem wit_SlotLaneAndPowerCommands_7 : 
   s_SlotLaneAndPowerCommands_7.current 64 0x0400 = some ((cmd 64 0x0400 [7, 0, 0, 0, 0, 0, 0, 128]) : MbCmd)
    ∧ 7 = pf ((cmd 64 0x0400 [7, 0, 0, 0, 0, 0, 0, 128]) : MbCmd) 0 1
    ∧ (0x80000000 : Word) = pw ((cmd 64 0x0400 [7, 0, 0, 0, 0, 0, 0, 128]) : MbCmd) 4 ∧ 7 < 8
    ∧ s_SlotLaneAndPowerCommands_7.powered (dEth 7) = true := by decide +kernel
/-- A state for octetCfg. -/
def s_SlotLaneAndPowerCommands_7b : State := (serve (cmd 64 0x0400 [7, 0, 0, 0, 0, 0, 0, 144]) host)
theorem wit_SlotLaneAndPowerCommands_7b : 
   s_SlotLaneAndPowerCommands_7b.current 64 0x0400 = some ((cmd 64 0x0400 [7, 0, 0, 0, 0, 0, 0, 144]) : MbCmd)
    ∧ 7 = pf ((cmd 64 0x0400 [7, 0, 0, 0, 0, 0, 0, 144]) : MbCmd) 0 1
    ∧ (0x90000000 : Word) = pw ((cmd 64 0x0400 [7, 0, 0, 0, 0, 0, 0, 144]) : MbCmd) 4 ∧ 7 < 8
    ∧ s_SlotLaneAndPowerCommands_7b.powered (dEth 7) = true := by decide +kernel
/-- A state for octetCfg. -/
def s_SlotLaneAndPowerCommands_7c : State := (serve (cmd 64 0x0400 [7, 0, 0, 0, 0, 0, 0, 128]) (host.set F.HLU_FW_VALUE 12 1))
theorem wit_SlotLaneAndPowerCommands_7c : 
   s_SlotLaneAndPowerCommands_7c.current 64 0x0400 = some ((cmd 64 0x0400 [7, 0, 0, 0, 0, 0, 0, 128]) : MbCmd)
    ∧ 7 = pf ((cmd 64 0x0400 [7, 0, 0, 0, 0, 0, 0, 128]) : MbCmd) 0 1
    ∧ (0x80000000 : Word) = pw ((cmd 64 0x0400 [7, 0, 0, 0, 0, 0, 0, 128]) : MbCmd) 4 ∧ 7 < 8
    ∧ s_SlotLaneAndPowerCommands_7c.powered (dEth 7) = true := by decide +kernel
/-- A state for laneStatus. -/
def s_SlotLaneAndPowerCommands_8 : State := (serve (cmd 64 0x0401 [63, 0, 0, 0]) host)
theorem wit_SlotLaneAndPowerCommands_8 : 
   s_SlotLaneAndPowerCommands_8.current 64 0x0401 = some ((cmd 64 0x0401 [63, 0, 0, 0]) : MbCmd)
    ∧ 63 = pf ((cmd 64 0x0401 [63, 0, 0, 0]) : MbCmd) 0 1 ∧ 63 < 64 := by decide +kernel
/-- A state for laneStatus. -/
def s_SlotLaneAndPowerCommands_8b : State := (serve (cmd 5 0x0401 [63, 0, 0, 0]) host)
theorem wit_SlotLaneAndPowerCommands_8b : 
   s_SlotLaneAndPowerCommands_8b.current 5 0x0401 = some ((cmd 5 0x0401 [63, 0, 0, 0]) : MbCmd)
    ∧ 63 = pf ((cmd 5 0x0401 [63, 0, 0, 0]) : MbCmd) 0 1 ∧ 63 < 64 := by decide +kernel
/-- A state for laneStatus. -/
def s_SlotLaneAndPowerCommands_8c : State := (serve (cmd 5 0x0401 [63, 0, 0, 0]) (host.setReg .BENCH_LANE_RX_HI 5 0x80000000))
theorem wit_SlotLaneAndPowerCommands_8c : 
   s_SlotLaneAndPowerCommands_8c.current 5 0x0401 = some ((cmd 5 0x0401 [63, 0, 0, 0]) : MbCmd)
    ∧ 63 = pf ((cmd 5 0x0401 [63, 0, 0, 0]) : MbCmd) 0 1 ∧ 63 < 64 := by decide +kernel
/-- A state for laneRestartCmd. -/
def s_SlotLaneAndPowerCommands_9 : State := (serve (cmd 64 0x0402 [63, 0, 0, 0]) (host.set F.LANE_STAT_STATE 63 5))
theorem wit_SlotLaneAndPowerCommands_9 : 
   s_SlotLaneAndPowerCommands_9.current 64 0x0402 = some ((cmd 64 0x0402 [63, 0, 0, 0]) : MbCmd)
    ∧ 63 = pf ((cmd 64 0x0402 [63, 0, 0, 0]) : MbCmd) 0 1 ∧ 63 < 64
    ∧ s_SlotLaneAndPowerCommands_9.laneUp 63 = true := by decide +kernel
/-- A state for laneRestartCmd. -/
def s_SlotLaneAndPowerCommands_9b : State := (serve (cmd 64 0x0402 [63, 0, 0, 0]) { host.set F.LANE_STAT_STATE 63 6 with time := 1 })
theorem wit_SlotLaneAndPowerCommands_9b : 
   s_SlotLaneAndPowerCommands_9b.current 64 0x0402 = some ((cmd 64 0x0402 [63, 0, 0, 0]) : MbCmd)
    ∧ 63 = pf ((cmd 64 0x0402 [63, 0, 0, 0]) : MbCmd) 0 1 ∧ 63 < 64
    ∧ s_SlotLaneAndPowerCommands_9b.laneUp 63 = true := by decide +kernel
/-- A state for domainSet. -/
def s_SlotLaneAndPowerCommands_10 : State := (serve (cmd 64 0x0500 [96, 0, 0, 0]) (host.set F.PWR_DOM_ON 96 1))
theorem wit_SlotLaneAndPowerCommands_10 : 
   s_SlotLaneAndPowerCommands_10.current 64 0x0500 = some ((cmd 64 0x0500 [96, 0, 0, 0]) : MbCmd)
    ∧ 96 = pf ((cmd 64 0x0500 [96, 0, 0, 0]) : MbCmd) 0 1 ∧ 96 < 97
    ∧ ((cmd 64 0x0500 [96, 0, 0, 0]) : MbCmd).started = false := by decide +kernel
/-- A state for domainSet. -/
def s_SlotLaneAndPowerCommands_10b : State := (serve (cmd 64 0x0500 [96, 0, 0, 0]) host)
theorem wit_SlotLaneAndPowerCommands_10b : 
   s_SlotLaneAndPowerCommands_10b.current 64 0x0500 = some ((cmd 64 0x0500 [96, 0, 0, 0]) : MbCmd)
    ∧ 96 = pf ((cmd 64 0x0500 [96, 0, 0, 0]) : MbCmd) 0 1 ∧ 96 < 97
    ∧ ((cmd 64 0x0500 [96, 0, 0, 0]) : MbCmd).started = false := by decide +kernel
/-- A state for domainSet. -/
def s_SlotLaneAndPowerCommands_10c : State := (serve (cmd 64 0x0500 [0, 0, 0, 0]) host)
theorem wit_SlotLaneAndPowerCommands_10c : 
   s_SlotLaneAndPowerCommands_10c.current 64 0x0500 = some ((cmd 64 0x0500 [0, 0, 0, 0]) : MbCmd)
    ∧ 0 = pf ((cmd 64 0x0500 [0, 0, 0, 0]) : MbCmd) 0 1 ∧ 0 < 97
    ∧ ((cmd 64 0x0500 [0, 0, 0, 0]) : MbCmd).started = false := by decide +kernel
/-- A state for domainSet. -/
def s_SlotLaneAndPowerCommands_11 : State := (serve { cmd 64 0x0500 [96, 1, 0, 0] with started := true } host)
theorem wit_SlotLaneAndPowerCommands_11 : 
   s_SlotLaneAndPowerCommands_11.current 64 0x0500 = some ({ cmd 64 0x0500 [96, 1, 0, 0] with started := true } : MbCmd)
    ∧ 96 = pf ({ cmd 64 0x0500 [96, 1, 0, 0] with started := true } : MbCmd) 0 1
    ∧ ({ cmd 64 0x0500 [96, 1, 0, 0] with started := true } : MbCmd).started = true
    ∧ s_SlotLaneAndPowerCommands_11.domSt 96 = (if bitOf (pf ({ cmd 64 0x0500 [96, 1, 0, 0] with started := true } : MbCmd) 1 1) 0 = 1 then pdOn else pdOff) := by decide +kernel
/-- A state for domainList. -/
def s_SlotLaneAndPowerCommands_12 : State := (serve (cmd 64 0x0501 []) host)
theorem wit_SlotLaneAndPowerCommands_12 : 
   s_SlotLaneAndPowerCommands_12.current 64 0x0501 = some ((cmd 64 0x0501 []) : MbCmd) := by decide +kernel
/-- A state for thmSet. -/
def s_SlotLaneAndPowerCommands_13 : State := (serve (cmd 64 0x0502 [0, 0, 120, 144, 1, 0, 0, 0, 0, 0, 127, 0]) host)
theorem wit_SlotLaneAndPowerCommands_13 : 
   s_SlotLaneAndPowerCommands_13.current 64 0x0502 = some ((cmd 64 0x0502 [0, 0, 120, 144, 1, 0, 0, 0, 0, 0, 127, 0]) : MbCmd)
    ∧ (0x90780000 : Word) = pw ((cmd 64 0x0502 [0, 0, 120, 144, 1, 0, 0, 0, 0, 0, 127, 0]) : MbCmd) 0 := by decide +kernel
/-- A state for thmSet. -/
def s_SlotLaneAndPowerCommands_13b : State := (serve (cmd 64 0x0502 [0, 0, 120, 151, 1, 0, 0, 0, 0, 0, 127, 0]) host)
theorem wit_SlotLaneAndPowerCommands_13b : 
   s_SlotLaneAndPowerCommands_13b.current 64 0x0502 = some ((cmd 64 0x0502 [0, 0, 120, 151, 1, 0, 0, 0, 0, 0, 127, 0]) : MbCmd)
    ∧ (0x97780000 : Word) = pw ((cmd 64 0x0502 [0, 0, 120, 151, 1, 0, 0, 0, 0, 0, 127, 0]) : MbCmd) 0 := by decide +kernel
/-- A state for thmSet. -/
def s_SlotLaneAndPowerCommands_13c : State := (serve (cmd 64 0x0502 [0, 121, 120, 144, 1, 0, 0, 0, 0, 0, 127, 0]) host)
theorem wit_SlotLaneAndPowerCommands_13c : 
   s_SlotLaneAndPowerCommands_13c.current 64 0x0502 = some ((cmd 64 0x0502 [0, 121, 120, 144, 1, 0, 0, 0, 0, 0, 127, 0]) : MbCmd)
    ∧ (0x90787900 : Word) = pw ((cmd 64 0x0502 [0, 121, 120, 144, 1, 0, 0, 0, 0, 0, 127, 0]) : MbCmd) 0 := by decide +kernel
/-- A state for telemetry. -/
def s_SlotLaneAndPowerCommands_14 : State := (serve (cmd 64 0x0503 []) host)
theorem wit_SlotLaneAndPowerCommands_14 : 
   s_SlotLaneAndPowerCommands_14.current 64 0x0503 = some ((cmd 64 0x0503 []) : MbCmd) := by decide +kernel
/-- A state for hluFwSet. -/
def s_SlotLaneAndPowerCommands_15 : State := (serve (cmd 64 0x0504 [10, 0, 0, 0, 100, 0, 0, 0]) (host.set F.BENCH_PCAP_CAP_MW 63 20000))
theorem wit_SlotLaneAndPowerCommands_15 : 
   s_SlotLaneAndPowerCommands_15.current 64 0x0504 = some ((cmd 64 0x0504 [10, 0, 0, 0, 100, 0, 0, 0]) : MbCmd)
    ∧ 10 = pf ((cmd 64 0x0504 [10, 0, 0, 0, 100, 0, 0, 0]) : MbCmd) 0 1
    ∧ 100 = pf ((cmd 64 0x0504 [10, 0, 0, 0, 100, 0, 0, 0]) : MbCmd) 4 4 ∧ 10 < 20 := by decide +kernel
/-- A state for hluFwSet. -/
def s_SlotLaneAndPowerCommands_15b : State := (serve (cmd 64 0x0504 [10, 0, 0, 0, 100, 0, 1, 0]) host)
theorem wit_SlotLaneAndPowerCommands_15b : 
   s_SlotLaneAndPowerCommands_15b.current 64 0x0504 = some ((cmd 64 0x0504 [10, 0, 0, 0, 100, 0, 1, 0]) : MbCmd)
    ∧ 10 = pf ((cmd 64 0x0504 [10, 0, 0, 0, 100, 0, 1, 0]) : MbCmd) 0 1
    ∧ 65636 = pf ((cmd 64 0x0504 [10, 0, 0, 0, 100, 0, 1, 0]) : MbCmd) 4 4 ∧ 10 < 20 := by decide +kernel

/-! ### UpkeepCommands -/

/-- A state for calRead. -/
def s_UpkeepCommands_1 : State := (serve (cmd 64 0x0600 [5, 1, 0, 0, 18, 0, 0, 0, 1, 0, 0, 0]) host)
theorem wit_UpkeepCommands_1 : 
   s_UpkeepCommands_1.current 64 0x0600 = some ((cmd 64 0x0600 [5, 1, 0, 0, 18, 0, 0, 0, 1, 0, 0, 0]) : MbCmd) := by decide +kernel
/-- A state for calRead. -/
def s_UpkeepCommands_1b : State := (serve (cmd 64 0x0600 [5, 1, 0, 0, 18, 0, 0, 0, 2, 0, 0, 0]) host)
theorem wit_UpkeepCommands_1b : 
   s_UpkeepCommands_1b.current 64 0x0600 = some ((cmd 64 0x0600 [5, 1, 0, 0, 18, 0, 0, 0, 2, 0, 0, 0]) : MbCmd) := by decide +kernel
/-- A state for calWrite. -/
def s_UpkeepCommands_2 : State := (serve (cmd 64 0x0601 [5, 1, 0, 0, 18, 0, 0, 0, 1, 0, 0, 0, 200]) host)
theorem wit_UpkeepCommands_2 : 
   s_UpkeepCommands_2.current 64 0x0601 = some ((cmd 64 0x0601 [5, 1, 0, 0, 18, 0, 0, 0, 1, 0, 0, 0, 200]) : MbCmd)
    ∧ calBad ((cmd 64 0x0601 [5, 1, 0, 0, 18, 0, 0, 0, 1, 0, 0, 0, 200]) : MbCmd) = none
    ∧ 40978 = 8192 * pf ((cmd 64 0x0601 [5, 1, 0, 0, 18, 0, 0, 0, 1, 0, 0, 0, 200]) : MbCmd) 0 1 + pf ((cmd 64 0x0601 [5, 1, 0, 0, 18, 0, 0, 0, 1, 0, 0, 0, 200]) : MbCmd) 4 4
    ∧ ((cmd 64 0x0601 [5, 1, 0, 0, 18, 0, 0, 0, 1, 0, 0, 0, 200]) : MbCmd).payload.drop 12 = [(200 : Byte)] := by decide +kernel
/-- A state for calWrite. -/
def s_UpkeepCommands_2b : State := (serve (cmd 64 0x0601 [5, 2, 0, 0, 18, 0, 0, 0, 1, 0, 0, 0, 200]) host)
theorem wit_UpkeepCommands_2b : 
   s_UpkeepCommands_2b.current 64 0x0601 = some ((cmd 64 0x0601 [5, 2, 0, 0, 18, 0, 0, 0, 1, 0, 0, 0, 200]) : MbCmd)
    ∧ calBad ((cmd 64 0x0601 [5, 2, 0, 0, 18, 0, 0, 0, 1, 0, 0, 0, 200]) : MbCmd) = none
    ∧ 40978 = 8192 * pf ((cmd 64 0x0601 [5, 2, 0, 0, 18, 0, 0, 0, 1, 0, 0, 0, 200]) : MbCmd) 0 1 + pf ((cmd 64 0x0601 [5, 2, 0, 0, 18, 0, 0, 0, 1, 0, 0, 0, 200]) : MbCmd) 4 4
    ∧ ((cmd 64 0x0601 [5, 2, 0, 0, 18, 0, 0, 0, 1, 0, 0, 0, 200]) : MbCmd).payload.drop 12 = [(200 : Byte)] := by decide +kernel
/-- A state for calWrite. -/
def s_UpkeepCommands_2c : State := (serve (cmd 64 0x0601 [5, 3, 0, 0, 18, 0, 0, 0, 1, 0, 0, 0, 200]) host)
theorem wit_UpkeepCommands_2c : 
   s_UpkeepCommands_2c.current 64 0x0601 = some ((cmd 64 0x0601 [5, 3, 0, 0, 18, 0, 0, 0, 1, 0, 0, 0, 200]) : MbCmd)
    ∧ calBad ((cmd 64 0x0601 [5, 3, 0, 0, 18, 0, 0, 0, 1, 0, 0, 0, 200]) : MbCmd) = none
    ∧ 40978 = 8192 * pf ((cmd 64 0x0601 [5, 3, 0, 0, 18, 0, 0, 0, 1, 0, 0, 0, 200]) : MbCmd) 0 1 + pf ((cmd 64 0x0601 [5, 3, 0, 0, 18, 0, 0, 0, 1, 0, 0, 0, 200]) : MbCmd) 4 4
    ∧ ((cmd 64 0x0601 [5, 3, 0, 0, 18, 0, 0, 0, 1, 0, 0, 0, 200]) : MbCmd).payload.drop 12 = [(200 : Byte)] := by decide +kernel
/-- A state for spoilRead. -/
def s_UpkeepCommands_3 : State := (serve (cmd 64 0x0700 [0, 0, 0, 0, 254, 15, 0, 0]) host)
theorem wit_UpkeepCommands_3 : 
   s_UpkeepCommands_3.current 64 0x0700 = some ((cmd 64 0x0700 [0, 0, 0, 0, 254, 15, 0, 0]) : MbCmd) := by decide +kernel
/-- A state for spoilRead. -/
def s_UpkeepCommands_3b : State := (serve (cmd 64 0x0700 [0, 0, 0, 0, 255, 15, 0, 0]) host)
theorem wit_UpkeepCommands_3b : 
   s_UpkeepCommands_3b.current 64 0x0700 = some ((cmd 64 0x0700 [0, 0, 0, 0, 255, 15, 0, 0]) : MbCmd) := by decide +kernel
/-- A state for spoilClear. -/
def s_UpkeepCommands_4 : State := (serve (cmd 64 0x0701 [0, 0, 0, 0]) host)
theorem wit_UpkeepCommands_4 : 
   s_UpkeepCommands_4.current 64 0x0701 = some ((cmd 64 0x0701 [0, 0, 0, 0]) : MbCmd) := by decide +kernel
/-- A state for spoilClear. -/
def s_UpkeepCommands_4b : State := (serve (cmd 64 0x0701 [1, 0, 0, 0]) host)
theorem wit_UpkeepCommands_4b : 
   s_UpkeepCommands_4b.current 64 0x0701 = some ((cmd 64 0x0701 [1, 0, 0, 0]) : MbCmd) := by decide +kernel
/-- A state for routerRetire. -/
def s_UpkeepCommands_5 : State := (serve (cmd 64 0x0702 [79, 0, 0, 0]) host)
theorem wit_UpkeepCommands_5 : 
   s_UpkeepCommands_5.current 64 0x0702 = some ((cmd 64 0x0702 [79, 0, 0, 0]) : MbCmd)
    ∧ 79 = pf ((cmd 64 0x0702 [79, 0, 0, 0]) : MbCmd) 0 1 ∧ 79 < 80
    ∧ s_UpkeepCommands_5.powered (dHn (routerCol 79)) = true
    ∧ ((cmd 64 0x0702 [79, 0, 0, 0]) : MbCmd).started = false := by decide +kernel
/-- A state for routerRetire. -/
def s_UpkeepCommands_5b : State := (serve (cmd 64 0x0702 [79, 0, 0, 0]) (host.set F.HN_RTR_STAT_RETIRED 79 1))
theorem wit_UpkeepCommands_5b : 
   s_UpkeepCommands_5b.current 64 0x0702 = some ((cmd 64 0x0702 [79, 0, 0, 0]) : MbCmd)
    ∧ 79 = pf ((cmd 64 0x0702 [79, 0, 0, 0]) : MbCmd) 0 1 ∧ 79 < 80
    ∧ s_UpkeepCommands_5b.powered (dHn (routerCol 79)) = true
    ∧ ((cmd 64 0x0702 [79, 0, 0, 0]) : MbCmd).started = false := by decide +kernel
/-- A state for routerRetire. -/
def s_UpkeepCommands_5c : State := (serve (cmd 64 0x0702 [63, 0, 0, 0]) host)
theorem wit_UpkeepCommands_5c : 
   s_UpkeepCommands_5c.current 64 0x0702 = some ((cmd 64 0x0702 [63, 0, 0, 0]) : MbCmd)
    ∧ 63 = pf ((cmd 64 0x0702 [63, 0, 0, 0]) : MbCmd) 0 1 ∧ 63 < 80
    ∧ s_UpkeepCommands_5c.powered (dHn (routerCol 63)) = true
    ∧ ((cmd 64 0x0702 [63, 0, 0, 0]) : MbCmd).started = false := by decide +kernel
/-- A state for columnShift. -/
def s_UpkeepCommands_6 : State := (serve (cmd 64 0x0703 [63, 31, 0, 0]) host)
theorem wit_UpkeepCommands_6 : 
   s_UpkeepCommands_6.current 64 0x0703 = some ((cmd 64 0x0703 [63, 31, 0, 0]) : MbCmd)
    ∧ 63 = pf ((cmd 64 0x0703 [63, 31, 0, 0]) : MbCmd) 0 1
    ∧ 31 = pf ((cmd 64 0x0703 [63, 31, 0, 0]) : MbCmd) 1 1
    ∧ ((cmd 64 0x0703 [63, 31, 0, 0]) : MbCmd).started = false ∧ 63 < 64 ∧ 31 < 32
    ∧ s_UpkeepCommands_6.powered (dCfg (benchCol 63)) = true ∧ s_UpkeepCommands_6.shift 63 = none := by decide +kernel
/-- A state for columnShift. -/
def s_UpkeepCommands_6b : State := (serve (cmd 64 0x0703 [63, 31, 0, 0]) (host.set F.BENCH_SHIFT_SHIFTED 63 1))
theorem wit_UpkeepCommands_6b : 
   s_UpkeepCommands_6b.current 64 0x0703 = some ((cmd 64 0x0703 [63, 31, 0, 0]) : MbCmd)
    ∧ 63 = pf ((cmd 64 0x0703 [63, 31, 0, 0]) : MbCmd) 0 1
    ∧ 31 = pf ((cmd 64 0x0703 [63, 31, 0, 0]) : MbCmd) 1 1
    ∧ ((cmd 64 0x0703 [63, 31, 0, 0]) : MbCmd).started = false ∧ 63 < 64 ∧ 31 < 32
    ∧ s_UpkeepCommands_6b.powered (dCfg (benchCol 63)) = true ∧ s_UpkeepCommands_6b.shift 63 = none := by decide +kernel
/-- A state for wplRingRead. -/
def s_UpkeepCommands_7 : State := (serve (cmd 64 0x0800 [0, 0, 0, 0, 255, 15, 0, 0]) (host.ringWrite ⟨5, 0x601, 76, 1, 63⟩))
theorem wit_UpkeepCommands_7 : 
   s_UpkeepCommands_7.current 64 0x0800 = some ((cmd 64 0x0800 [0, 0, 0, 0, 255, 15, 0, 0]) : MbCmd) := by decide +kernel
/-- A state for wplRingRead. -/
def s_UpkeepCommands_7b : State := (serve (cmd 64 0x0800 [0, 0, 0, 0, 0, 0, 0, 0]) host)
theorem wit_UpkeepCommands_7b : 
   s_UpkeepCommands_7b.current 64 0x0800 = some ((cmd 64 0x0800 [0, 0, 0, 0, 0, 0, 0, 0]) : MbCmd) := by decide +kernel
/-- A state for wplFreeze. -/
def s_UpkeepCommands_8 : State := (serve (cmd 64 0x0801 []) { host with time := 9 })
theorem wit_UpkeepCommands_8 : s_UpkeepCommands_8.current 64 0x0801 = some ((cmd 64 0x0801 []) : MbCmd) := by decide +kernel
/-- A state for wplFreeze. -/
def s_UpkeepCommands_8b : State := (serve { cmd 64 0x0801 [] with started := true, arg := 9 } { host with wpl := { host.wpl with records := [(7, { valid := true, time := 10, cause := 0x0A01, trigger := 1 })] } })
theorem wit_UpkeepCommands_8b : 
   s_UpkeepCommands_8b.current 64 0x0801 = some ({ cmd 64 0x0801 [] with started := true, arg := 9 } : MbCmd) := by decide +kernel
/-- A state for wplFreeze. -/
def s_UpkeepCommands_8c : State := (serve { cmd 64 0x0801 [] with started := true, arg := 9 } (host.set F.WPL_STAT_COPYING 0 1))
theorem wit_UpkeepCommands_8c : 
   s_UpkeepCommands_8c.current 64 0x0801 = some ({ cmd 64 0x0801 [] with started := true, arg := 9 } : MbCmd) := by decide +kernel
/-- A state for wplResume. -/
def s_UpkeepCommands_9 : State := (serve (cmd 64 0x0802 []) (host.set F.WPL_STAT_FROZEN 0 1))
theorem wit_UpkeepCommands_9 : s_UpkeepCommands_9.current 64 0x0802 = some ((cmd 64 0x0802 []) : MbCmd) := by decide +kernel
/-- A state for wplRecordList. -/
def s_UpkeepCommands_10 : State := (serve (cmd 64 0x0803 []) host)
theorem wit_UpkeepCommands_10 : s_UpkeepCommands_10.current 64 0x0803 = some ((cmd 64 0x0803 []) : MbCmd) := by decide +kernel
/-- A state for wplRecordRead. -/
def s_UpkeepCommands_11 : State := (serve (cmd 64 0x0804 [7, 0, 0, 0, 255, 15, 0, 0]) host)
theorem wit_UpkeepCommands_11 : 
   s_UpkeepCommands_11.current 64 0x0804 = some ((cmd 64 0x0804 [7, 0, 0, 0, 255, 15, 0, 0]) : MbCmd) := by decide +kernel
/-- A state for wplRecordRead. -/
def s_UpkeepCommands_11b : State := (serve (cmd 64 0x0804 [8, 0, 0, 0, 255, 15, 0, 0]) host)
theorem wit_UpkeepCommands_11b : 
   s_UpkeepCommands_11b.current 64 0x0804 = some ((cmd 64 0x0804 [8, 0, 0, 0, 255, 15, 0, 0]) : MbCmd) := by decide +kernel
/-- A state for fwWrite. -/
def s_UpkeepCommands_12 : State := (serve (cmd 64 0x0900 [1, 0, 0, 0, 0, 0, 0, 0, 66, 255]) host)
theorem wit_UpkeepCommands_12 : 
   s_UpkeepCommands_12.current 64 0x0900 = some ((cmd 64 0x0900 [1, 0, 0, 0, 0, 0, 0, 0, 66, 255]) : MbCmd)
    ∧ 1 = pf ((cmd 64 0x0900 [1, 0, 0, 0, 0, 0, 0, 0, 66, 255]) : MbCmd) 0 1
    ∧ 0 = pf ((cmd 64 0x0900 [1, 0, 0, 0, 0, 0, 0, 0, 66, 255]) : MbCmd) 4 4 ∧ 1 ≤ 1
    ∧ s_UpkeepCommands_12.get F.MBX_FW_STAT_BOOT_SLOT 0 ≠ 1
    ∧ ([66, 255] : List Byte) = ((cmd 64 0x0900 [1, 0, 0, 0, 0, 0, 0, 0, 66, 255]) : MbCmd).payload.drop 8 := by decide +kernel
/-- A state for fwWrite. -/
def s_UpkeepCommands_12b : State := (serve (cmd 64 0x0900 [1, 0, 0, 0, 7, 0, 0, 0, 66]) (host.setFwNext 1 7))
theorem wit_UpkeepCommands_12b : 
   s_UpkeepCommands_12b.current 64 0x0900 = some ((cmd 64 0x0900 [1, 0, 0, 0, 7, 0, 0, 0, 66]) : MbCmd)
    ∧ 1 = pf ((cmd 64 0x0900 [1, 0, 0, 0, 7, 0, 0, 0, 66]) : MbCmd) 0 1
    ∧ 7 = pf ((cmd 64 0x0900 [1, 0, 0, 0, 7, 0, 0, 0, 66]) : MbCmd) 4 4 ∧ 1 ≤ 1
    ∧ s_UpkeepCommands_12b.get F.MBX_FW_STAT_BOOT_SLOT 0 ≠ 1
    ∧ ([66] : List Byte) = ((cmd 64 0x0900 [1, 0, 0, 0, 7, 0, 0, 0, 66]) : MbCmd).payload.drop 8 := by decide +kernel
/-- A state for fwWrite. -/
def s_UpkeepCommands_12c : State := (serve (cmd 64 0x0900 [1, 0, 0, 0, 8, 0, 0, 0, 66]) (host.setFwNext 1 7))
theorem wit_UpkeepCommands_12c : 
   s_UpkeepCommands_12c.current 64 0x0900 = some ((cmd 64 0x0900 [1, 0, 0, 0, 8, 0, 0, 0, 66]) : MbCmd)
    ∧ 1 = pf ((cmd 64 0x0900 [1, 0, 0, 0, 8, 0, 0, 0, 66]) : MbCmd) 0 1
    ∧ 8 = pf ((cmd 64 0x0900 [1, 0, 0, 0, 8, 0, 0, 0, 66]) : MbCmd) 4 4 ∧ 1 ≤ 1
    ∧ s_UpkeepCommands_12c.get F.MBX_FW_STAT_BOOT_SLOT 0 ≠ 1
    ∧ ([66] : List Byte) = ((cmd 64 0x0900 [1, 0, 0, 0, 8, 0, 0, 0, 66]) : MbCmd).payload.drop 8 := by decide +kernel
/-- A state for fwVerify. -/
def s_UpkeepCommands_13 : State := (serve (cmd 64 0x0901 [1, 0, 0, 0]) host)
theorem wit_UpkeepCommands_13 : 
   s_UpkeepCommands_13.current 64 0x0901 = some ((cmd 64 0x0901 [1, 0, 0, 0]) : MbCmd)
    ∧ 1 = pf ((cmd 64 0x0901 [1, 0, 0, 0]) : MbCmd) 0 1 ∧ 1 ≤ 1 := by decide +kernel
/-- A state for fwActivate. -/
def s_UpkeepCommands_14 : State := (serve (cmd 64 0x0902 [1, 0, 0, 0]) host)
theorem wit_UpkeepCommands_14 : 
   s_UpkeepCommands_14.current 64 0x0902 = some ((cmd 64 0x0902 [1, 0, 0, 0]) : MbCmd)
    ∧ 1 = pf ((cmd 64 0x0902 [1, 0, 0, 0]) : MbCmd) 0 1 ∧ 1 ≤ 1 := by decide +kernel
/-- A state for fwMinSvn. -/
def s_UpkeepCommands_15 : State := (serve (cmd 64 0x0903 [7, 0, 0, 0]) ({ host with fw := { stepOpen := true }, nvs := { host.nvs with minSvn := some 5 } }.set F.MBX_FW_STAT_SVN 0 9))
theorem wit_UpkeepCommands_15 : 
   s_UpkeepCommands_15.current 64 0x0903 = some ((cmd 64 0x0903 [7, 0, 0, 0]) : MbCmd)
    ∧ 7 = pf ((cmd 64 0x0903 [7, 0, 0, 0]) : MbCmd) 0 2 := by decide +kernel
/-- A state for fwMinSvn. -/
def s_UpkeepCommands_15b : State := (serve (cmd 64 0x0903 [7, 0, 0, 0]) ({ host with nvs := { host.nvs with minSvn := some 5 } }.set F.MBX_FW_STAT_SVN 0 9))
theorem wit_UpkeepCommands_15b : 
   s_UpkeepCommands_15b.current 64 0x0903 = some ((cmd 64 0x0903 [7, 0, 0, 0]) : MbCmd)
    ∧ 7 = pf ((cmd 64 0x0903 [7, 0, 0, 0]) : MbCmd) 0 2 := by decide +kernel
/-- A state for fwMinSvn. -/
def s_UpkeepCommands_15c : State := (serve (cmd 64 0x0903 [7, 0, 0, 0]) host)
theorem wit_UpkeepCommands_15c : 
   s_UpkeepCommands_15c.current 64 0x0903 = some ((cmd 64 0x0903 [7, 0, 0, 0]) : MbCmd)
    ∧ 7 = pf ((cmd 64 0x0903 [7, 0, 0, 0]) : MbCmd) 0 2 := by decide +kernel
/-- A state for tmuxUnlock. -/
def s_UpkeepCommands_16 : State := (serve (cmd 64 0x0A00 [1, 0, 0, 0]) host)
theorem wit_UpkeepCommands_16 : 
   s_UpkeepCommands_16.current 64 0x0A00 = some ((cmd 64 0x0A00 [1, 0, 0, 0]) : MbCmd)
    ∧ 1 = bitOf (pf ((cmd 64 0x0A00 [1, 0, 0, 0]) : MbCmd) 0 1) 0 := by decide +kernel
/-- A state for tmuxUnlock. -/
def s_UpkeepCommands_16b : State := (serve (cmd 64 0x0A00 [1, 0, 0, 0]) (host.set F.HLU_FW_VALUE 17 2))
theorem wit_UpkeepCommands_16b : 
   s_UpkeepCommands_16b.current 64 0x0A00 = some ((cmd 64 0x0A00 [1, 0, 0, 0]) : MbCmd)
    ∧ 1 = bitOf (pf ((cmd 64 0x0A00 [1, 0, 0, 0]) : MbCmd) 0 1) 0 := by decide +kernel
/-- A state for tmuxSelect. -/
def s_UpkeepCommands_17 : State := (serve (cmd 64 0x0A01 [31, 0, 216, 1]) host)
theorem wit_UpkeepCommands_17 : 
   s_UpkeepCommands_17.current 64 0x0A01 = some ((cmd 64 0x0A01 [31, 0, 216, 1]) : MbCmd)
    ∧ 31 = pf ((cmd 64 0x0A01 [31, 0, 216, 1]) : MbCmd) 0 1
    ∧ 0x1D8 = pf ((cmd 64 0x0A01 [31, 0, 216, 1]) : MbCmd) 2 2 := by decide +kernel
/-- A state for tmuxSelect. -/
def s_UpkeepCommands_17b : State := (serve (cmd 64 0x0A01 [31, 0, 255, 255]) host)
theorem wit_UpkeepCommands_17b : 
   s_UpkeepCommands_17b.current 64 0x0A01 = some ((cmd 64 0x0A01 [31, 0, 255, 255]) : MbCmd)
    ∧ 31 = pf ((cmd 64 0x0A01 [31, 0, 255, 255]) : MbCmd) 0 1
    ∧ 0xFFFF = pf ((cmd 64 0x0A01 [31, 0, 255, 255]) : MbCmd) 2 2 := by decide +kernel
/-- A state for tmuxSelect. -/
def s_UpkeepCommands_17c : State := (serve (cmd 64 0x0A01 [31, 0, 254, 255]) host)
theorem wit_UpkeepCommands_17c : 
   s_UpkeepCommands_17c.current 64 0x0A01 = some ((cmd 64 0x0A01 [31, 0, 254, 255]) : MbCmd)
    ∧ 31 = pf ((cmd 64 0x0A01 [31, 0, 254, 255]) : MbCmd) 0 1
    ∧ 0xFFFE = pf ((cmd 64 0x0A01 [31, 0, 254, 255]) : MbCmd) 2 2 := by decide +kernel

/-! ### ControllerAndRecorder -/

/-- A state for lockstepMismatch. -/
def s_ControllerAndRecorder_1 : State := host
theorem wit_ControllerAndRecorder_1 : s_ControllerAndRecorder_1.fwRuns = true
    ∧ (s_ControllerAndRecorder_1.fw.times.filter fun z => decide (s_ControllerAndRecorder_1.time < z + 60000000000)).length = 0 := by decide +kernel
/-- A state for lockstepMismatch. -/
def s_ControllerAndRecorder_1b : State := { host with time := 60000000004, fw := { times := [4, 5, 5] } }
theorem wit_ControllerAndRecorder_1b : s_ControllerAndRecorder_1b.fwRuns = true
    ∧ (s_ControllerAndRecorder_1b.fw.times.filter fun z => decide (s_ControllerAndRecorder_1b.time < z + 60000000000)).length = 2 := by decide +kernel
/-- A state for lockstepMismatch. -/
def s_ControllerAndRecorder_1c : State := { host with time := 60000000004, fw := { times := [5, 5, 5] } }
theorem wit_ControllerAndRecorder_1c : s_ControllerAndRecorder_1c.fwRuns = true
    ∧ (s_ControllerAndRecorder_1c.fw.times.filter fun z => decide (s_ControllerAndRecorder_1c.time < z + 60000000000)).length = 3 := by decide +kernel
/-- A state for watchdogExpiry. -/
def s_ControllerAndRecorder_2 : State := (serve (cmd 64 0x0101 []) host)
theorem wit_ControllerAndRecorder_2 : s_ControllerAndRecorder_2.fwRuns = true
    ∧ (s_ControllerAndRecorder_2.fw.times.filter fun z => decide (s_ControllerAndRecorder_2.time < z + 60000000000)).length = 0 := by decide +kernel
/-- A state for watchdogExpiry. -/
def s_ControllerAndRecorder_2b : State := { host with time := 60000000004, fw := { times := [5, 5, 5] } }
theorem wit_ControllerAndRecorder_2b : s_ControllerAndRecorder_2b.fwRuns = true
    ∧ (s_ControllerAndRecorder_2b.fw.times.filter fun z => decide (s_ControllerAndRecorder_2b.time < z + 60000000000)).length = 3 := by decide +kernel
/-- A state for fwRestart. -/
def s_ControllerAndRecorder_3 : State := ({ host with time := 9, fw := { times := [5, 5, 5] } }.set F.MBX_FW_STAT_FAILED 0 1)
theorem wit_ControllerAndRecorder_3 : s_ControllerAndRecorder_3.mayWrite ((.pf 0) : Src) .MBX_FW_CTL 0 = true
    ∧ fldOf F.MBX_FW_CTL_RESTART (0x80000000 : Word) = 1
    ∧ s_ControllerAndRecorder_3.flag F.PWR_BOOT_STAT_DONE 0 = true := by decide +kernel
/-- A state for controllerOpen. -/
def s_ControllerAndRecorder_4 : State := (serve { cmd 64 0x0101 [] with old := true } { host with fw := { restarting := true } })
theorem wit_ControllerAndRecorder_4 : s_ControllerAndRecorder_4.fw.restarting = true
    ∧ s_ControllerAndRecorder_4.powered 1 = true ∧ s_ControllerAndRecorder_4.floorReset = 0 := by decide +kernel
/-- A state for weapelEntry. -/
def s_ControllerAndRecorder_5 : State := ({ host with wpl := { host.wpl with offers := [⟨5, 0x601, 76, 1, 63⟩] } }.set F.WPL_STAT_NEXT 0 4095 |>.set F.WPL_STAT_VALID_CNT 0 4096)
theorem wit_ControllerAndRecorder_5 : 
   s_ControllerAndRecorder_5.wpl.offers = [(⟨5, 0x601, 76, 1, 63⟩ : WplEntry)]
    ∧ s_ControllerAndRecorder_5.wpl.queue = [] := by decide +kernel
/-- A state for weapelEntry. -/
def s_ControllerAndRecorder_5b : State := ({ host with wpl := { host.wpl with offers := [⟨5, 0x601, 76, 1, 63⟩] } }.set F.WPL_STAT_FROZEN 0 1)
theorem wit_ControllerAndRecorder_5b : 
   s_ControllerAndRecorder_5b.wpl.offers = [(⟨5, 0x601, 76, 1, 63⟩ : WplEntry)]
    ∧ s_ControllerAndRecorder_5b.wpl.queue = [] := by decide +kernel
/-- A state for weapelEntry. -/
def s_ControllerAndRecorder_5c : State := ({ host with wpl := { host.wpl with offers := [⟨5, 0x601, 76, 3, 63⟩] } }.set F.WPL_STAT_FROZEN 0 1)
theorem wit_ControllerAndRecorder_5c : 
   s_ControllerAndRecorder_5c.wpl.offers = [(⟨5, 0x601, 76, 3, 63⟩ : WplEntry)]
    ∧ s_ControllerAndRecorder_5c.wpl.queue = [] := by decide +kernel
/-- A state for weapelEntry. -/
def s_ControllerAndRecorder_5d : State := ({ host with wpl := { host.wpl with offers := [⟨5, 0x0A02, 76, 1, 63⟩] } }.set F.WPL_STAT_COPYING 0 1)
theorem wit_ControllerAndRecorder_5d : 
   s_ControllerAndRecorder_5d.wpl.offers = [(⟨5, 0x0A02, 76, 1, 63⟩ : WplEntry)]
    ∧ s_ControllerAndRecorder_5d.wpl.queue = [] := by decide +kernel
/-- A state for recordCopyDone. -/
def s_ControllerAndRecorder_6 : State := { host with wpl := { host.wpl with copy := some { valid := true, time := 5, seq := 127 }, newest := 7 } }
theorem wit_ControllerAndRecorder_6 : 
   s_ControllerAndRecorder_6.wpl.copy = some ({ valid := true, time := 5, seq := 127 } : WplRecord)
    ∧ s_ControllerAndRecorder_6.wpl.queue = [] := by decide +kernel
/-- A state for recordCopyDone. -/
def s_ControllerAndRecorder_6b : State := { host with wpl := { host.wpl with copy := some { valid := true, time := 5, seq := 127 }, newest := 6, records := [(7, { valid := true })] } }
theorem wit_ControllerAndRecorder_6b : 
   s_ControllerAndRecorder_6b.wpl.copy = some ({ valid := true, time := 5, seq := 127 } : WplRecord)
    ∧ s_ControllerAndRecorder_6b.wpl.queue = [] := by decide +kernel
/-- A state for wplCtlFreeze. -/
def s_ControllerAndRecorder_7 : State := { host with time := 9 }
theorem wit_ControllerAndRecorder_7 : s_ControllerAndRecorder_7.mayWrite ((.pf 0) : Src) .WPL_CTL 0 = true
    ∧ fldOf F.WPL_CTL_FREEZE (0x80000000 : Word) = 1 := by decide +kernel
/-- A state for wplCtlFreeze. -/
def s_ControllerAndRecorder_7b : State := { host with time := 9 }
theorem wit_ControllerAndRecorder_7b : s_ControllerAndRecorder_7b.mayWrite ((.pf 0) : Src) .WPL_CTL 0 = true
    ∧ fldOf F.WPL_CTL_FREEZE (0xC0000000 : Word) = 1 := by decide +kernel
/-- A state for wplCtlResume. -/
def s_ControllerAndRecorder_8 : State := ({ host with time := 9, wpl := { host.wpl with discarded := 2 ^ 32 } }.set F.WPL_STAT_FROZEN 0 1)
theorem wit_ControllerAndRecorder_8 : s_ControllerAndRecorder_8.mayWrite ((.pf 0) : Src) .WPL_CTL 0 = true
    ∧ fldOf F.WPL_CTL_RESUME (0x40000000 : Word) = 1 ∧ fldOf F.WPL_CTL_FREEZE (0x40000000 : Word) = 0 := by decide +kernel
/-- A state for wplCtlResume. -/
def s_ControllerAndRecorder_8b : State := host
theorem wit_ControllerAndRecorder_8b : s_ControllerAndRecorder_8b.mayWrite (.fw : Src) .WPL_CTL 0 = true
    ∧ fldOf F.WPL_CTL_RESUME (0x40000000 : Word) = 1 ∧ fldOf F.WPL_CTL_FREEZE (0x40000000 : Word) = 0 := by decide +kernel

/-! ### FloorResetAndTap -/

/-- A state for floorReset. -/
def s_FloorResetAndTap_1 : State := { host with power := { host.power with good := true } }
theorem wit_FloorResetAndTap_1 : 1 < 2 ∧ s_FloorResetAndTap_1.portLive 1 = true
    ∧ s_FloorResetAndTap_1.powered 0 = true := by decide +kernel
/-- A state for floorReset. -/
def s_FloorResetAndTap_1b : State := { host with power := { host.power with good := true }, floorReset := 2 }
theorem wit_FloorResetAndTap_1b : 1 < 2 ∧ s_FloorResetAndTap_1b.portLive 1 = true
    ∧ s_FloorResetAndTap_1b.powered 0 = true := by decide +kernel
/-- A state for floorReset. -/
def s_FloorResetAndTap_1c : State := host
theorem wit_FloorResetAndTap_1c : 1 < 2 ∧ s_FloorResetAndTap_1c.portLive 1 = true
    ∧ s_FloorResetAndTap_1c.powered 0 = true := by decide +kernel
/-- A state for floorResetEnterDone. -/
def s_FloorResetAndTap_2 : State := { host.setChan 7 { entering := true } with floorReset := 1 }
theorem wit_FloorResetAndTap_2 : s_FloorResetAndTap_2.floorReset = 1 := by decide +kernel
/-- A state for floorResetHoldEnd. -/
def s_FloorResetAndTap_3 : State := { host.setHport 63 1 { pend := [⟨5, 3, 0, 0, 1, 0, 0⟩] } with time := 1000000, floorReset := 2 }
theorem wit_FloorResetAndTap_3 : s_FloorResetAndTap_3.floorReset = 2
    ∧ s_FloorResetAndTap_3.timerDue tmHold (1000 * s_FloorResetAndTap_3.get F.PWR_RST_CTL_HOLD_US 0) = true := by decide +kernel
/-- A state for floorResetReleaseDone. -/
def s_FloorResetAndTap_4 : State := { host.set F.MBX_FW_STAT_FW_UP 0 0 with floorReset := 3 }
theorem wit_FloorResetAndTap_4 : s_FloorResetAndTap_4.floorReset = 3 := by decide +kernel
/-- A state for tapReset. -/
def s_FloorResetAndTap_5 : State := { host with side := { host.side with tapIr := tapExtest, tapPins := true, dbgEn := true } }
theorem wit_FloorResetAndTap_5 : s_FloorResetAndTap_5.powered 5 = true := by decide +kernel
/-- A state for tapBypass. -/
def s_FloorResetAndTap_6 : State := { host with side := { host.side with tapIr := tapExtest, tapPins := true, dbgEn := true } }
theorem wit_FloorResetAndTap_6 : s_FloorResetAndTap_6.powered 5 = true := by decide +kernel
/-- A state for tapIdcode. -/
def s_FloorResetAndTap_7 : State := { host with side := { host.side with dbgEn := true } }
theorem wit_FloorResetAndTap_7 : s_FloorResetAndTap_7.powered 5 = true := by decide +kernel
/-- A state for tapSamplePreload. -/
def s_FloorResetAndTap_8 : State := { host with side := { host.side with tapIr := tapExtest, tapPins := true, dbgEn := true } }
theorem wit_FloorResetAndTap_8 : s_FloorResetAndTap_8.powered 5 = true := by decide +kernel
/-- A state for tapExtest. -/
def s_FloorResetAndTap_9 : State := { host.set F.ETH_OCT_CFG_LANES 7 0x80000000 with side := { host.side with dbgEn := true } }
theorem wit_FloorResetAndTap_9 : s_FloorResetAndTap_9.powered 5 = true := by decide +kernel
/-- A state for tapExtest. -/
def s_FloorResetAndTap_9b : State := { host with side := { host.side with tapPins := true } }
theorem wit_FloorResetAndTap_9b : s_FloorResetAndTap_9b.powered 5 = true := by decide +kernel
/-- A state for tapClamp. -/
def s_FloorResetAndTap_10 : State := { host with side := { host.side with dbgEn := true } }
theorem wit_FloorResetAndTap_10 : s_FloorResetAndTap_10.powered 5 = true := by decide +kernel
/-- A state for tapHighz. -/
def s_FloorResetAndTap_11 : State := { host with side := { host.side with dbgEn := true } }
theorem wit_FloorResetAndTap_11 : s_FloorResetAndTap_11.powered 5 = true := by decide +kernel
/-- A state for tapExtestPulse. -/
def s_FloorResetAndTap_12 : State := { host with side := { host.side with dbgEn := true } }
theorem wit_FloorResetAndTap_12 : s_FloorResetAndTap_12.powered 5 = true := by decide +kernel
/-- A state for tapExtestTrain. -/
def s_FloorResetAndTap_13 : State := { host with side := { host.side with dbgEn := true } }
theorem wit_FloorResetAndTap_13 : s_FloorResetAndTap_13.powered 5 = true := by decide +kernel
/-- A state for dbgEnChange. -/
def s_FloorResetAndTap_14 : State := ({ host with side := { host.side with tapIr := tapExtest, tapPins := true, dbgEn := true } }.set F.DBG_TMUX_STAT_UNLOCKED 0 1)
theorem wit_FloorResetAndTap_14 : s_FloorResetAndTap_14.powered 5 = true := by decide +kernel
/-- A state for dbgEnChange. -/
def s_FloorResetAndTap_14b : State := { host with side := { host.side with tapIr := tapExtest } }
theorem wit_FloorResetAndTap_14b : s_FloorResetAndTap_14b.powered 5 = true := by decide +kernel

/-! ### RegisterAccess -/

/-- A state for registerWrite. -/
def s_RegisterAccess_1 : State := host
theorem wit_RegisterAccess_1 : s_RegisterAccess_1.mayWrite ((.pf 1) : Src) (.LANE_USER : Reg) 63 = true
    ∧ s_RegisterAccess_1.windowInst ((.pf 1) : Src) (.LANE_USER : Reg) 63 = true
    ∧ (.LANE_USER : Reg) ∈ [Reg.BENCH_DLYMON_SEL, .MEMT_SEL, .MEMT_REMAP_IDX, .MEMT_PATROL_CTL, .MEMT_EVT, .MEMT_EVT_EN, .HOP_LEVEL, .HOP_IDLE_0, .HOP_IDLE_1, .HOP_IDLE_2, .HOP_STAT, .HOP_EVT, .HOP_EVT_EN, .BENCH_PLANE_STAT, .BENCH_PLANE_EVT, .BENCH_PLANE_EVT_EN, .BENCH_SCHED_LIST, .BENCH_BND_MODE, .BENCH_USER_CONST, .CTX_STAT, .CTX_EVT, .CTX_EVT_EN, .CTX_SLOT_SEL, .CTX_PATROL, .MEY_LOAD_SRC_LO, .MEY_LOAD_LEN, .MEY_LOAD_EVT, .BENCH_HWIN_LO, .BENCH_FENCE_STAT, .BENCH_RING_HEAD, .HN_RT_SEL, .HN_RTR_STAT, .HN_PRB_SEL, .HN_PRB_SRC, .HN_PRB_EVT, .HN_EPOCH_STAT, .PCIE_LINK_STAT, .LANE_STAT, .LANE_LINKID, .LANE_USER, .ETH_PORT_STAT, .PWR_RAIL_STAT, .THM_SITE, .THM_SHDN_MODE, .THM_STAT, .MBX_STATUS, .MBX_FW_STAT, .DDR_CH_STAT, .DBG_GPIO_OUT] := by decide +kernel
/-- A state for registerWrite. -/
def s_RegisterAccess_1b : State := (host.setReg .HOP_STAT 2047 0xFFFFFFFF)
theorem wit_RegisterAccess_1b : s_RegisterAccess_1b.mayWrite (.fw : Src) (.HOP_STAT : Reg) 2047 = true
    ∧ s_RegisterAccess_1b.windowInst (.fw : Src) (.HOP_STAT : Reg) 2047 = true
    ∧ (.HOP_STAT : Reg) ∈ [Reg.BENCH_DLYMON_SEL, .MEMT_SEL, .MEMT_REMAP_IDX, .MEMT_PATROL_CTL, .MEMT_EVT, .MEMT_EVT_EN, .HOP_LEVEL, .HOP_IDLE_0, .HOP_IDLE_1, .HOP_IDLE_2, .HOP_STAT, .HOP_EVT, .HOP_EVT_EN, .BENCH_PLANE_STAT, .BENCH_PLANE_EVT, .BENCH_PLANE_EVT_EN, .BENCH_SCHED_LIST, .BENCH_BND_MODE, .BENCH_USER_CONST, .CTX_STAT, .CTX_EVT, .CTX_EVT_EN, .CTX_SLOT_SEL, .CTX_PATROL, .MEY_LOAD_SRC_LO, .MEY_LOAD_LEN, .MEY_LOAD_EVT, .BENCH_HWIN_LO, .BENCH_FENCE_STAT, .BENCH_RING_HEAD, .HN_RT_SEL, .HN_RTR_STAT, .HN_PRB_SEL, .HN_PRB_SRC, .HN_PRB_EVT, .HN_EPOCH_STAT, .PCIE_LINK_STAT, .LANE_STAT, .LANE_LINKID, .LANE_USER, .ETH_PORT_STAT, .PWR_RAIL_STAT, .THM_SITE, .THM_SHDN_MODE, .THM_STAT, .MBX_STATUS, .MBX_FW_STAT, .DDR_CH_STAT, .DBG_GPIO_OUT] := by decide +kernel
/-- A state for registerWrite. -/
def s_RegisterAccess_1c : State := (host.set F.PWR_RAIL_STAT_ORDER_ERR 0 511)
theorem wit_RegisterAccess_1c : s_RegisterAccess_1c.mayWrite ((.pf 0) : Src) (.PWR_RAIL_STAT : Reg) 0 = true
    ∧ s_RegisterAccess_1c.windowInst ((.pf 0) : Src) (.PWR_RAIL_STAT : Reg) 0 = true
    ∧ (.PWR_RAIL_STAT : Reg) ∈ [Reg.BENCH_DLYMON_SEL, .MEMT_SEL, .MEMT_REMAP_IDX, .MEMT_PATROL_CTL, .MEMT_EVT, .MEMT_EVT_EN, .HOP_LEVEL, .HOP_IDLE_0, .HOP_IDLE_1, .HOP_IDLE_2, .HOP_STAT, .HOP_EVT, .HOP_EVT_EN, .BENCH_PLANE_STAT, .BENCH_PLANE_EVT, .BENCH_PLANE_EVT_EN, .BENCH_SCHED_LIST, .BENCH_BND_MODE, .BENCH_USER_CONST, .CTX_STAT, .CTX_EVT, .CTX_EVT_EN, .CTX_SLOT_SEL, .CTX_PATROL, .MEY_LOAD_SRC_LO, .MEY_LOAD_LEN, .MEY_LOAD_EVT, .BENCH_HWIN_LO, .BENCH_FENCE_STAT, .BENCH_RING_HEAD, .HN_RT_SEL, .HN_RTR_STAT, .HN_PRB_SEL, .HN_PRB_SRC, .HN_PRB_EVT, .HN_EPOCH_STAT, .PCIE_LINK_STAT, .LANE_STAT, .LANE_LINKID, .LANE_USER, .ETH_PORT_STAT, .PWR_RAIL_STAT, .THM_SITE, .THM_SHDN_MODE, .THM_STAT, .MBX_STATUS, .MBX_FW_STAT, .DDR_CH_STAT, .DBG_GPIO_OUT] := by decide +kernel
/-- A state for registerWrite. -/
def s_RegisterAccess_2 : State := host
theorem wit_RegisterAccess_2 : 
   (s_RegisterAccess_2.mayWrite ((.vf 5) : Src) (.LANE_USER : Reg) 63 = false ∨ s_RegisterAccess_2.windowInst ((.vf 5) : Src) (.LANE_USER : Reg) 63 = false)
    ∧ (((.vf 5) : Src) ≠ .other ∨ (.LANE_USER : Reg) ≠ .HLU_BOARD) := by decide +kernel
/-- A state for registerWrite. -/
def s_RegisterAccess_2b : State := State.reset
theorem wit_RegisterAccess_2b : 
   (s_RegisterAccess_2b.mayWrite (.fw : Src) (.LANE_USER : Reg) 63 = false ∨ s_RegisterAccess_2b.windowInst (.fw : Src) (.LANE_USER : Reg) 63 = false)
    ∧ ((.fw : Src) ≠ .other ∨ (.LANE_USER : Reg) ≠ .HLU_BOARD) := by decide +kernel
/-- A state for registerWrite. -/
def s_RegisterAccess_2c : State := host
theorem wit_RegisterAccess_2c : 
   (s_RegisterAccess_2c.mayWrite ((.pf 0) : Src) (.LANE_USER : Reg) 64 = false ∨ s_RegisterAccess_2c.windowInst ((.pf 0) : Src) (.LANE_USER : Reg) 64 = false)
    ∧ (((.pf 0) : Src) ≠ .other ∨ (.LANE_USER : Reg) ≠ .HLU_BOARD) := by decide +kernel
/-- A state for registerWrite. -/
def s_RegisterAccess_2d : State := host
theorem wit_RegisterAccess_2d : 
   (s_RegisterAccess_2d.mayWrite ((.pf 0) : Src) (.MEMT_EVT : Reg) 63 = false ∨ s_RegisterAccess_2d.windowInst ((.pf 0) : Src) (.MEMT_EVT : Reg) 63 = false)
    ∧ (((.pf 0) : Src) ≠ .other ∨ (.MEMT_EVT : Reg) ≠ .HLU_BOARD) := by decide +kernel
/-- A state for readingLoLatchesHi. -/
def s_RegisterAccess_3 : State := ({ host with tenancy := { host.tenancy with energy := [(9 * 63 + 8, 5 * 2 ^ 50)] } })
theorem wit_RegisterAccess_3 : s_RegisterAccess_3.mayRead ((.pf 0) : Src) (.BENCH_TALLY_IDLE_LO : Reg) 63 = true
    ∧ s_RegisterAccess_3.wideCount (.BENCH_TALLY_IDLE_LO : Reg) 63 = some ((5 * 2 ^ 50 / 1000000), (.BENCH_TALLY_IDLE_HI : Reg)) := by decide +kernel
/-- A state for readingLoLatchesHi. -/
def s_RegisterAccess_3b : State := (host.set F.BENCH_ASSIGN_FN 63 0)
theorem wit_RegisterAccess_3b : 
   s_RegisterAccess_3b.mayRead ((.vf 63) : Src) (.BENCH_PLANE_TIME_LO : Reg) 504 = true
    ∧ s_RegisterAccess_3b.wideCount (.BENCH_PLANE_TIME_LO : Reg) 504 = some (0, (.BENCH_PLANE_TIME_HI : Reg)) := by decide +kernel
/-- A state for readingLoLatchesHi. -/
def s_RegisterAccess_4 : State := host
theorem wit_RegisterAccess_4 : 
   (s_RegisterAccess_4.mayRead ((.pf 0) : Src) (.LANE_USER : Reg) 63 = false ∨ s_RegisterAccess_4.wideCount (.LANE_USER : Reg) 63 = none) := by decide +kernel

/-! ### FloorResetSteps -/

/-- A state for floorReset. -/
def s_FloorResetSteps_1 : State := (host.set F.DDR_CH_STAT_STATE 7 2 |> fun s => { s with power := { s.power with good := true } })
/-- A state for floorReset. -/
def s_FloorResetSteps_1b : State := { host with floorReset := 2 }
/-- A state for floorResetEnterDone. -/
def s_FloorResetSteps_2 : State := { host with floorReset := 1 }
/-- A state for floorResetEnterDone. -/
def s_FloorResetSteps_2b : State := host
/-- A state for floorResetHoldEnd. -/
def s_FloorResetSteps_3 : State := { host with floorReset := 2, time := 1000000 }
/-- A state for floorResetHoldEnd. -/
def s_FloorResetSteps_3b : State := { host with floorReset := 2 }
/-- A state for floorResetReleaseDone. -/
def s_FloorResetSteps_4 : State := { host with floorReset := 3 }
/-- A state for floorResetReleaseDone. -/
def s_FloorResetSteps_4b : State := host

/-! ### TapAndDebugEnable -/

/-- A state for tapReset. -/
def s_TapAndDebugEnable_1 : State := { host with side := { host.side with dbgEn := true } }
/-- A state for tapReset. -/
def s_TapAndDebugEnable_1b : State := State.reset
/-- A state for tapBypass. -/
def s_TapAndDebugEnable_2 : State := { host with side := { host.side with dbgEn := true } }
/-- A state for tapBypass. -/
def s_TapAndDebugEnable_2b : State := State.reset
/-- A state for tapIdcode. -/
def s_TapAndDebugEnable_3 : State := { host with side := { host.side with dbgEn := true } }
/-- A state for tapIdcode. -/
def s_TapAndDebugEnable_3b : State := State.reset
/-- A state for tapSamplePreload. -/
def s_TapAndDebugEnable_4 : State := { host with side := { host.side with dbgEn := true } }
/-- A state for tapSamplePreload. -/
def s_TapAndDebugEnable_4b : State := State.reset
/-- A state for tapExtest. -/
def s_TapAndDebugEnable_5 : State := { host with side := { host.side with dbgEn := true } }
/-- A state for tapExtest. -/
def s_TapAndDebugEnable_5b : State := State.reset
/-- A state for tapClamp. -/
def s_TapAndDebugEnable_6 : State := { host with side := { host.side with dbgEn := true } }
/-- A state for tapClamp. -/
def s_TapAndDebugEnable_6b : State := State.reset
/-- A state for tapHighz. -/
def s_TapAndDebugEnable_7 : State := { host with side := { host.side with dbgEn := true } }
/-- A state for tapHighz. -/
def s_TapAndDebugEnable_7b : State := State.reset
/-- A state for tapExtestPulse. -/
def s_TapAndDebugEnable_8 : State := { host with side := { host.side with dbgEn := true } }
/-- A state for tapExtestPulse. -/
def s_TapAndDebugEnable_8b : State := State.reset
/-- A state for tapExtestTrain. -/
def s_TapAndDebugEnable_9 : State := { host with side := { host.side with dbgEn := true } }
/-- A state for tapExtestTrain. -/
def s_TapAndDebugEnable_9b : State := State.reset
/-- A state for dbgEnChange. -/
def s_TapAndDebugEnable_10 : State := { host with side := { host.side with dbgEn := true } }
/-- A state for dbgEnChange. -/
def s_TapAndDebugEnable_10b : State := State.reset

/-! ### CheckCodesCorrectAndDetect -/

/-- A data word with its lowest and highest bits set, in each of the three codes, with a wrong data bit, a wrong check bit
and a wrong parity bit. -/
theorem wit_CheckCodesCorrectAndDetect :
    (7, 64) ∈ [(7, 64), (8, 128), (5, 22)] ∧ 2 ^ 63 + 1 < 2 ^ 64 ∧ 71 < 64 + 7 + 1 ∧ 63 < 71
      ∧ secDecode 7 64 (Nat.xor (secEncode 7 64 (2 ^ 63 + 1)) (2 ^ 63)) = ⟨.corrected, 2 ^ 63 + 1, 0x47, 1, 63⟩
      ∧ secDecode 7 64 (Nat.xor (secEncode 7 64 (2 ^ 63 + 1)) (2 ^ 71)) = ⟨.corrected, 2 ^ 63 + 1, 0, 1, 71⟩
      ∧ (secDecode 7 64 (Nat.xor (Nat.xor (secEncode 7 64 (2 ^ 63 + 1)) (2 ^ 71)) (2 ^ 63))).kind = .bad := by
  decide +kernel

/-! ### ThmSetWritesInOrder -/

/-- A THM_SET whose limits are accepted, refused by the HLU, and refused since WARN_C exceeds THROT_C. -/
def thmCmd (a b : Byte) : MbCmd := cmd 64 0x0502 [0, b, 120, a, 1, 0, 0, 0, 0, 0, 127, 0]
theorem wit_ThmSetWritesInOrder_ok : (serve (thmCmd 144 0) host).current 64 0x0502 = some (thmCmd 144 0)
    ∧ fldOf F.THM_LIMITS_SHDN_C (pw (thmCmd 144 0) 0) ≤ (serve (thmCmd 144 0) host).hluEff 15
    ∧ (serve (thmCmd 144 0) host).limitsBad (pw (thmCmd 144 0) 0) = false := by decide +kernel
theorem wit_ThmSetWritesInOrder_limit : (serve (thmCmd 151 0) host).current 64 0x0502 = some (thmCmd 151 0)
    ∧ (serve (thmCmd 151 0) host).hluEff 15 < fldOf F.THM_LIMITS_SHDN_C (pw (thmCmd 151 0) 0) := by decide +kernel
theorem wit_ThmSetWritesInOrder_bad : (serve (thmCmd 144 121) host).current 64 0x0502 = some (thmCmd 144 121)
    ∧ fldOf F.THM_LIMITS_SHDN_C (pw (thmCmd 144 121) 0) ≤ (serve (thmCmd 144 121) host).hluEff 15
    ∧ (serve (thmCmd 144 121) host).limitsBad (pw (thmCmd 144 121) 0) = true := by decide +kernel

/-! ### RouterRetirement -/

def retireCmd (k : Byte) (go : Bool) : MbCmd := { cmd 64 0x0702 [k, 0, 0, 0] with started := go }
theorem wit_RouterRetirement_fresh : (serve (retireCmd 79 false) host).current 64 0x0702 = some (retireCmd 79 false)
    ∧ (retireCmd 79 false).started = false ∧ pf (retireCmd 79 false) 0 1 < 80
    ∧ (serve (retireCmd 79 false) host).powered (dHn (routerCol (pf (retireCmd 79 false) 0 1))) = true
    ∧ routerRow (pf (retireCmd 79 false) 0 1) ≠ 0
    ∧ (serve (retireCmd 79 false) host).flag F.HN_RTR_STAT_RETIRED (pf (retireCmd 79 false) 0 1) = false
    ∧ (serve (retireCmd 79 false) (host.set F.HN_RTR_STAT_RETIRED 79 1)).flag F.HN_RTR_STAT_RETIRED 79 = true := by
  decide +kernel
theorem wit_RouterRetirement_edge : (serve (retireCmd 63 false) host).current 64 0x0702 = some (retireCmd 63 false)
    ∧ pf (retireCmd 63 false) 0 1 < 80 ∧ routerRow (pf (retireCmd 63 false) 0 1) = 0
    ∧ (serve (retireCmd 63 false) host).powered (dHn (routerCol (pf (retireCmd 63 false) 0 1))) = true := by decide +kernel
theorem wit_RouterRetirement_begun : (serve (retireCmd 79 true) host).current 64 0x0702 = some (retireCmd 79 true)
    ∧ (retireCmd 79 true).started = true ∧ (serve (retireCmd 79 true) host).repair.detourDue = false
    ∧ (serve (retireCmd 79 true) host).flag F.HN_EPOCH_STAT_DRAINING 0 = false
    ∧ (serve (retireCmd 79 true) (host.set F.HN_EPOCH_STAT_DRAINING 0 1)).flag F.HN_EPOCH_STAT_DRAINING 0 = true := by
  decide +kernel

/-! ### FirmwareLayerIsTheControllers -/

/-- The controller lowers the shutdown bound, quantity 15, to 120, within the board layer. -/
theorem wit_FirmwareLayerIsTheControllers :
    host.mayWrite .fw .HLU_FW 15 = true ∧ hluWithin 15 120 (host.get F.HLU_BOARD_VALUE 15) = true
      ∧ ((host.fwLayerWrite 15 120).1.get F.HLU_FW_VALUE 15 = 120) ∧ (host.fwLayerWrite 15 151).2 = 1 := by
  decide +kernel
theorem wit_FirmwareLayerIsTheControllers_restart :
    Instr.lockstepMismatch ∈ [Instr.lockstepMismatch, .watchdogExpiry, .controllerOpen] := by decide

/-! ### BoardLayerAndLock -/

theorem wit_BoardLayerAndLock_otp :
    ({ State.reset with nvs := { State.reset.nvs with otpBoard := some [10] } } : State).nvs.otpBoard = some [10] := rfl
theorem wit_BoardLayerAndLock_write :
    host.mayWrite (.pf 1) .HLU_BOARD 9 = true ∧ host.flag F.HLU_CTL_LOCK 0 = false ∧ hluWithin 9 549 (hluAbs 9) = true
      ∧ (host.setReg .HLU_BOARD 9 549#32).surgeTooSmall 9 = false ∧ losesAon (.hluBoardWrite (.pf 1) 9 549#32) = false
      ∧ (host.boardWrite (.pf 1) 9 549#32).reg .HLU_BOARD 9 ≠ host.reg .HLU_BOARD 9 := by decide +kernel
theorem wit_BoardLayerAndLock_other : ∀ x, Src.fw ≠ .pf x := by intro x h; cases h
theorem wit_BoardLayerAndLock_lock : (host.set F.HLU_CTL_LOCK 0 1).flag F.HLU_CTL_LOCK 0 = true := by decide +kernel

/-! ### AtMostFourDomainsRamp -/

/-- Benches 59 to 62 ramp, and bench 63 is off. -/
def fourRamp : State := [92, 93, 94, 95].foldl (fun (z : State) i => z.set F.PWR_DOM_STATE i 1) (host.set F.PWR_DOM_STATE 96 0)
theorem wit_AtMostFourDomainsRamp_up : fourRamp.ramping = 4 ∧ fourRamp.mayWrite (.pf 0) .PWR_DOM 96 = true
    ∧ fldOf F.PWR_DOM_ON 0x80000000#32 = 1 ∧ fourRamp.floorReset = 0 ∧ fourRamp.flag F.PWR_DOM_ON 96 = false
    ∧ fourRamp.pwrCheck 96 true = 0 := by decide +kernel
theorem wit_AtMostFourDomainsRamp_slot : host.ramping < 4 ∧ host.floorReset = 0 ∧ 13 ∈ [96, 13] ∧ ∀ e ∈ [96, 13], 13 ≤ e := by
  decide +kernel
theorem wit_AtMostFourDomainsRamp_down : (fourRamp.set F.PWR_DOM_ON 91 1).mayWrite (.pf 0) .PWR_DOM 91 = true
    ∧ fldOf F.PWR_DOM_ON 0#32 = 0 ∧ (fourRamp.set F.PWR_DOM_ON 91 1).flag F.PWR_DOM_ON 91 = true
    ∧ (fourRamp.set F.PWR_DOM_ON 91 1).pwrCheck 91 false = 0
    ∧ (fourRamp.set F.PWR_DOM_ON 91 1).flag F.BENCH_SHIFT_REPAIRING (91 - 33) = false := by decide +kernel

/-! ### EffectiveBoundIsTheTightest -/

theorem wit_EffectiveBoundIsTheTightest : 18 < 20 ∧ hluWithin 18 0xF0080FF0 (hluAbs 18) = true
    ∧ hluWithin 18 0xF0080FF0 (State.reset.get F.HLU_BOARD_VALUE 18) = true
    ∧ hluWithin 18 0xF0080FF0 (State.reset.get F.HLU_FW_VALUE 18) = true := by decide +kernel

/-! ### DeviceTimeOnlyTicks -/

theorem wit_DeviceTimeOnlyTicks : exec .getEndpointId State.reset = .next State.reset ∧ Instr.getEndpointId ≠ .deviceTimeTick
    ∧ losesAon .getEndpointId = false := ⟨rfl, by decide, rfl⟩
theorem wit_DeviceTimeOnlyTicks_tick : State.reset.powered 0 = true := by decide +kernel

/-! ### DramKeepsWhatIsWritten -/

/-- Channel 7 ready with 64 GiB, and a WRITE of 12 bytes at channel address 76: part of word 9, all of word 10. -/
def ddrReady7 : State := ((host.set F.DDR_CH_STAT_STATE 7 2).set F.DDR_CH_STAT_SIZE_GIB 7 64).setDramWord 7 9 (eccEncode 77)
def write12 : Nat := mkHeader (7 * 2 ^ 36 + 76) 0 5 0 0 11 0 1 0 0
theorem wit_DramKeepsWhatIsWritten : ddrReady7.powered (dDdr (7 / 2)) = true ∧ ddrReady7.floorReset = 0
    ∧ hOp write12 = opWrite ∧ opMatchesClass (hOp write12) (hClass write12) = true ∧ hClass write12 ≠ clsRsp
    ∧ packetFlits (hOp write12) (hAddr write12) (hLen write12) 0 ≤ [(2 ^ 600 + 5, false)].length
    ∧ ddrReady7.ddrSt 7 = ddReady ∧ ddrReady7.side.tapPins = false ∧ (ddrReady7.ddrPlace (hAddr write12)).2 = 76
    ∧ (ddrReady7.ddrPlace (hAddr write12)).2 + hLen write12 + 1 ≤ ddrReady7.get F.DDR_CH_STAT_SIZE_GIB 7 * 2 ^ 30
    ∧ rangeBe 76 11 0 ≠ 255 ∧ (eccDecode (ddrReady7.dramWord 7 9)).kind ≠ .bad := by decide +kernel

/-! ### BeyondCapacityUnmapped -/

/-- Channel 7 with 16 GiB beside a channel 6 of 64 GiB, interleaved in pairs (mode 2): the first address beyond 16 GiB. -/
def small7 : State :=
  (((host.set F.DDR_CH_STAT_STATE 7 2).set F.DDR_CH_STAT_SIZE_GIB 7 16).set F.HN_DDR_ILV_MODE 0 2).set F.DDR_CH_STAT_SIZE_GIB 6 64
def readAt (a : Nat) : Nat := mkHeader a 0 5 0 0 7 0 0 0 0
theorem wit_BeyondCapacityUnmapped : small7.powered (dDdr (7 / 2)) = true ∧ small7.floorReset = 0
    ∧ isNonPosted (hOp (readAt (3 * 2 ^ 37 + 2 ^ 35 + 2 ^ 12))) = true ∧ hClass (readAt (3 * 2 ^ 37 + 2 ^ 35 + 2 ^ 12)) ≠ clsRsp
    ∧ opMatchesClass (hOp (readAt (3 * 2 ^ 37 + 2 ^ 35 + 2 ^ 12))) (hClass (readAt (3 * 2 ^ 37 + 2 ^ 35 + 2 ^ 12))) = true
    ∧ packetFlits (hOp (readAt (3 * 2 ^ 37 + 2 ^ 35 + 2 ^ 12))) (hAddr (readAt (3 * 2 ^ 37 + 2 ^ 35 + 2 ^ 12))) 7 0 ≤ [(0, false)].length
    ∧ small7.ddrSt 7 = ddReady ∧ small7.side.tapPins = false
    ∧ small7.get F.DDR_CH_STAT_SIZE_GIB 7 * 2 ^ 30 ≤ (small7.ddrPlace (3 * 2 ^ 37 + 2 ^ 35 + 2 ^ 12)).2
    ∧ (small7.ddrPlace (3 * 2 ^ 37 + 2 ^ 12)).2 + 7 + 1 ≤ small7.get F.DDR_CH_STAT_SIZE_GIB 7 * 2 ^ 30 := by decide +kernel

/-! ### CountersSaturateAndClear -/

theorem wit_CountersSaturateAndClear : F.DDR_ECC_UE_CNT.lo + F.DDR_ECC_UE_CNT.w ≤ 32
    ∧ host.mayWrite (.pf 0) .DDR_ECC 7 = true ∧ host.windowInst (.pf 0) .DDR_ECC 7 = true
    ∧ Reg.DDR_ECC ∈ [Reg.MEMT_ECC_CNT, .MEMT_FENCE_CNT, .HOP_ERRCNT, .BENCH_PLANE_ERRCNT, .CTX_CE_CNT, .DDR_ECC] := by
  decide +kernel

/-! ### VirtualFunctionReach -/

/-- VF 63 owns bench 63 and clears a hopper counter. -/
theorem wit_VirtualFunctionReach : (host.set F.BENCH_ASSIGN_FN 63 0).mayWrite (.vf 63) .HOP_ERRCNT 2047 = true
    ∧ (host.set F.BENCH_ASSIGN_FN 63 0).windowInst (.vf 63) .HOP_ERRCNT 2047 = true := by decide +kernel

end Sys2Proof.Tests
end

section
/-!
SUPPORT. Every command answers a next state and stays within its footprint: the lemma of Laws/Keep*.lean for each command, with the
footprint of Footprint.lean as the bound. The invariant, the frame and the reserved bits follow from it.
-/

namespace Sys2Proof.Machine

/-- What a command may change lies within its footprint (Ok names all that it keeps besides). -/
theorem exec_ok (c : Instr) (s : State) : ∃ t, exec c s = .next t ∧ Ok (maskOf (touches c)) s t := by
  cases c with dsimp only [touches]
  | registerWrite src r idx v =>
    exact ok_execRegisterWrite src r idx v (ok_refl _ s) (within_maskOf_cons (by decide +kernel))
      (within_maskOf_reg (List.mem_cons_self ..))
  | powerOnReset => exact ok_execPowerOnReset (ok_refl _ s) (by decide +kernel)
  | railUp n => exact ok_execRailUp n (ok_refl _ s) (by decide +kernel)
  | pwrgoodRise sbSel sbAddr flashOct =>
    exact ok_execPwrgoodRise sbSel sbAddr flashOct (ok_refl _ s) (by decide +kernel)
  | pwrgoodFall => exact ok_execPwrgoodFall (ok_refl _ s) (by decide +kernel)
  | bootRom => exact ok_execBootRom (ok_refl _ s) (by decide +kernel)
  | bootNet => exact ok_execBootNet (ok_refl _ s) (by decide +kernel)
  | bootPorts => exact ok_execBootPorts (ok_refl _ s) (by decide +kernel)
  | bootTiers => exact ok_execBootTiers (ok_refl _ s) (by decide +kernel)
  | bootBenches => exact ok_execBootBenches (ok_refl _ s) (by decide +kernel)
  | bootShell => exact ok_execBootShell (ok_refl _ s) (by decide +kernel)
  | bootOpen => exact ok_execBootOpen (ok_refl _ s) (by decide +kernel)
  | perstAssert x => exact ok_execPerstAssert x (ok_refl _ s) (by decide +kernel)
  | perstDeassert x => exact ok_execPerstDeassert x (ok_refl _ s) (by decide +kernel)
  | pcieLinkUp x speed width flit => exact ok_execPcieLinkUp x speed width flit (ok_refl _ s) (by decide +kernel)
  | pcieLinkDown x => exact ok_execPcieLinkDown x (ok_refl _ s) (by decide +kernel)
  | pcieConfigRequest x fn tag q => exact ok_execPcieConfigRequest x fn tag q (ok_refl _ s) (by decide +kernel)
  | pcieBarRead x fn tag o len ht => exact ok_execPcieBarRead x fn tag o len ht (ok_refl _ s) (by decide +kernel)
  | pcieBarWrite x fn o data ht => exact ok_execPcieBarWrite x fn o data ht (ok_refl _ s) (by decide +kernel)
  | barHaulResponse x hdr flits => exact ok_execBarHaulResponse x hdr flits (ok_refl _ s) (by decide +kernel)
  | vfFlr x n => exact ok_execVfFlr x n (ok_refl _ s) (by decide +kernel)
  | pfFlr x => exact ok_execPfFlr x (ok_refl _ s) (by decide +kernel)
  | vfMapWrite src half v => exact ok_execVfMapWrite src half v (ok_refl _ s) (by decide +kernel)
  | msixUnmask x fn vec => exact ok_execMsixUnmask x fn vec (ok_refl _ s) (by decide +kernel)
  | dmaRingEnable src x v => exact ok_execDmaRingEnable src x v (ok_refl _ s) (by decide +kernel)
  | dmaRingDisable src x v => exact ok_execDmaRingDisable src x v (ok_refl _ s) (by decide +kernel)
  | dmaProdWrite src x v => exact ok_execDmaProdWrite src x v (ok_refl _ s) (by decide +kernel)
  | dmaDescFetch x word => exact ok_execDmaDescFetch x word (ok_refl _ s) (by decide +kernel)
  | dmaPieceComplete x e => exact ok_execDmaPieceComplete x e (ok_refl _ s) (by decide +kernel)
  | dmaWriteback x => exact ok_execDmaWriteback x (ok_refl _ s) (by decide +kernel)
  | fabricClockEdge edges late => exact ok_execFabricClockEdge edges late (ok_refl _ s) (by decide +kernel)
  | asyncResetAssert b sx sy g => exact ok_execAsyncResetAssert b sx sy g (ok_refl _ s) (by decide +kernel)
  | dlymonMeasure b ps => exact ok_execDlymonMeasure b ps (ok_refl _ s) (by decide +kernel)
  | dlymonConverterRotate b sx => exact ok_execDlymonConverterRotate b sx (ok_refl _ s) (by decide +kernel)
  | idleSpareMismatch g n => exact ok_execIdleSpareMismatch g n (ok_refl _ s) (by decide +kernel)
  | calEvaluationEnd g bins => exact ok_execCalEvaluationEnd g bins (ok_refl _ s) (by decide +kernel)
  | trimChangeover g => exact ok_execTrimChangeover g (ok_refl _ s) (by decide +kernel)
  | trimAcqStep g bit => exact ok_execTrimAcqStep g bit (ok_refl _ s) (by decide +kernel)
  | evalRestartAfterPause g => exact ok_execEvalRestartAfterPause g (ok_refl _ s) (by decide +kernel)
  | calBoreTrimWrite src v => exact ok_execCalBoreTrimWrite src v (ok_refl _ s) (by decide +kernel)
  | portAccess b n inA inB ups => exact ok_execPortAccess b n inA inB ups (ok_refl _ s) (by decide +kernel)
  | blockRetireDone b n => exact ok_execBlockRetireDone b n (ok_refl _ s) (by decide +kernel)
  | correctionWriteBack b n port => exact ok_execCorrectionWriteBack b n port (ok_refl _ s) (by decide +kernel)
  | haulMemoryAccess b n arr q0 q1 q2 flits fabEn ups =>
    exact ok_execHaulMemoryAccess b n arr q0 q1 q2 flits fabEn ups (ok_refl _ s) (by decide +kernel)
  | patrolStep b ups => exact ok_execPatrolStep b ups (ok_refl _ s) (by decide +kernel)
  | patrolForcedCycle b ups => exact ok_execPatrolForcedCycle b ups (ok_refl _ s) (by decide +kernel)
  | memtInvStart src v => exact ok_execMemtInvStart src v (ok_refl _ s) (by decide +kernel)
  | bulkInvalidateDone b => exact ok_execBulkInvalidateDone b (ok_refl _ s) (by decide +kernel)
  | memtFlipArm src v => exact ok_execMemtFlipArm src v (ok_refl _ s) (by decide +kernel)
  | hopperWrite b h data sop eop => exact ok_execHopperWrite b h data sop eop (ok_refl _ s) (by decide +kernel)
  | hopperRead b h => exact ok_execHopperRead b h (ok_refl _ s) (by decide +kernel)
  | hopperPointerSync b h toRead => exact ok_execHopperPointerSync b h toRead (ok_refl _ s) (by decide +kernel)
  | hopCfgWrite src b h v => exact ok_execHopCfgWrite src b h v (ok_refl _ s) (by decide +kernel)
  | hopperFlush src b h v => exact ok_execHopperFlush src b h v (ok_refl _ s) (by decide +kernel)
  | hopperFlushApply b h readSide => exact ok_execHopperFlushApply b h readSide (ok_refl _ s) (by decide +kernel)
  | hopperTailTimeout b h => exact ok_execHopperTailTimeout b h (ok_refl _ s) (by decide +kernel)
  | hopOwnerWrite src b h v => exact ok_execHopOwnerWrite src b h v (ok_refl _ s) (by decide +kernel)
  | switchCellRequest b last => exact ok_execSwitchCellRequest b last (ok_refl _ s) (by decide +kernel)
  | planeSelSwitch src b v => exact ok_execPlaneSelSwitch src b v (ok_refl _ s) (by decide +kernel)
  | planeSelOnline src b v => exact ok_execPlaneSelOnline src b v (ok_refl _ s) (by decide +kernel)
  | planeSelOffline src b v => exact ok_execPlaneSelOffline src b v (ok_refl _ s) (by decide +kernel)
  | hostRequestPresented b fab last => exact ok_execHostRequestPresented b fab last (ok_refl _ s) (by decide +kernel)
  | deferredCandidateRetry b last => exact ok_execDeferredCandidateRetry b last (ok_refl _ s) (by decide +kernel)
  | scheduleEnable src b v => exact ok_execScheduleEnable src b v (ok_refl _ s) (by decide +kernel)
  | schedQuantWrite src b v => exact ok_execSchedQuantWrite src b v (ok_refl _ s) (by decide +kernel)
  | scheduleExpiry b => exact ok_execScheduleExpiry b (ok_refl _ s) (by decide +kernel)
  | scheduleRequestPresented b fab host last =>
    exact ok_execScheduleRequestPresented b fab host last (ok_refl _ s) (by decide +kernel)
  | benchClksrcWrite src b p v => exact ok_execBenchClksrcWrite src b p v (ok_refl _ s) (by decide +kernel)
  | surgeCtlWrite src c v => exact ok_execSurgeCtlWrite src c v (ok_refl _ s) (by decide +kernel)
  | imageEvent b => exact ok_execImageEvent b (ok_refl _ s) (by decide +kernel)
  | stateInitDone b => exact ok_execStateInitDone b (ok_refl _ s) (by decide +kernel)
  | ctxStage src b v => exact ok_execCtxStage src b v (ok_refl _ s) (by decide +kernel)
  | ctxPage src b v => exact ok_execCtxPage src b v (ok_refl _ s) (by decide +kernel)
  | ctxPageFree src b v => exact ok_execCtxPageFree src b v (ok_refl _ s) (by decide +kernel)
  | ctxAbort src b v => exact ok_execCtxAbort src b v (ok_refl _ s) (by decide +kernel)
  | ctxCopyFrame b ups => exact ok_execCtxCopyFrame b ups (ok_refl _ s) (by decide +kernel)
  | ctxStageCommit b => exact ok_execCtxStageCommit b (ok_refl _ s) (by decide +kernel)
  | ctxPageCommit b => exact ok_execCtxPageCommit b (ok_refl _ s) (by decide +kernel)
  | ctxSlotRelease src c v => exact ok_execCtxSlotRelease src c v (ok_refl _ s) (by decide +kernel)
  | ctxSlotOwnerWrite src c v => exact ok_execCtxSlotOwnerWrite src c v (ok_refl _ s) (by decide +kernel)
  | bulkStoreRefresh c => exact ok_execBulkStoreRefresh c (ok_refl _ s) (by decide +kernel)
  | slotPatrolStep c ups => exact ok_execSlotPatrolStep c ups (ok_refl _ s) (by decide +kernel)
  | slotCopyDone a d ups => exact ok_execSlotCopyDone a d ups (ok_refl _ s) (by decide +kernel)
  | loadGo src n v => exact ok_execLoadGo src n v (ok_refl _ s) (by decide +kernel)
  | loadAbort src n v => exact ok_execLoadAbort src n v (ok_refl _ s) (by decide +kernel)
  | loadDataArrival n bytes => exact ok_execLoadDataArrival n bytes (ok_refl _ s) (by decide +kernel)
  | loadHoldDone n => exact ok_execLoadHoldDone n (ok_refl _ s) (by decide +kernel)
  | loadCommit n => exact ok_execLoadCommit n (ok_refl _ s) (by decide +kernel)
  | loadSourceTimeout n => exact ok_execLoadSourceTimeout n (ok_refl _ s) (by decide +kernel)
  | loadSourceError n => exact ok_execLoadSourceError n (ok_refl _ s) (by decide +kernel)
  | benchAssignWrite src b v => exact ok_execBenchAssignWrite src b v (ok_refl _ s) (by decide +kernel)
  | fnChangeEffect b => exact ok_execFnChangeEffect b (ok_refl _ s) (by decide +kernel)
  | gangForm src c v => exact ok_execGangForm src c v (ok_refl _ s) (by decide +kernel)
  | gangFormDone l => exact ok_execGangFormDone l (ok_refl _ s) (by decide +kernel)
  | gangDissolve src c v => exact ok_execGangDissolve src c v (ok_refl _ s) (by decide +kernel)
  | mfenceWrite src b p k v => exact ok_execMfenceWrite src b p k v (ok_refl _ s) (by decide +kernel)
  | hwinWrite src b idx v => exact ok_execHwinWrite src b idx v (ok_refl _ s) (by decide +kernel)
  | laneFenceWrite src b rx hi v => exact ok_execLaneFenceWrite src b rx hi v (ok_refl _ s) (by decide +kernel)
  | wbCtlWrite src b p k v => exact ok_execWbCtlWrite src b p k v (ok_refl _ s) (by decide +kernel)
  | weighbridgeRefill b p => exact ok_execWeighbridgeRefill b p (ok_refl _ s) (by decide +kernel)
  | weighbridgeAdmit b p k => exact ok_execWeighbridgeAdmit b p k (ok_refl _ s) (by decide +kernel)
  | tallySample b nj => exact ok_execTallySample b nj (ok_refl _ s) (by decide +kernel)
  | pcapUpdate b => exact ok_execPcapUpdate b (ok_refl _ s) (by decide +kernel)
  | collectorEvent source => exact ok_execCollectorEvent source (ok_refl _ s) (by decide +kernel)
  | collectorRecordWrite ok => exact ok_execCollectorRecordWrite ok (ok_refl _ s) (by decide +kernel)
  | msixModerationExpiry r vec => exact ok_execMsixModerationExpiry r vec (ok_refl _ s) (by decide +kernel)
  | ringEnable src r v => exact ok_execRingEnable src r v (ok_refl _ s) (by decide +kernel)
  | benchPortRequest b p h tag => exact ok_execBenchPortRequest b p h tag (ok_refl _ s) (by decide +kernel)
  | flitArrival k port w => exact ok_execFlitArrival k port w (ok_refl _ s) (by decide +kernel)
  | flitFallbackDepart k out => exact ok_execFlitFallbackDepart k out (ok_refl _ s) (by decide +kernel)
  | haulCalibratorTest k mainSound fallbackSound =>
    exact ok_execHaulCalibratorTest k mainSound fallbackSound (ok_refl _ s) (by decide +kernel)
  | benchPortResponse b p hdr flits => exact ok_execBenchPortResponse b p hdr flits (ok_refl _ s) (by decide +kernel)
  | benchPortIncomingRequest b p hdr flits =>
    exact ok_execBenchPortIncomingRequest b p hdr flits (ok_refl _ s) (by decide +kernel)
  | benchPortImageResponse b p h => exact ok_execBenchPortImageResponse b p h (ok_refl _ s) (by decide +kernel)
  | pendingEntryExpiry b p => exact ok_execPendingEntryExpiry b p (ok_refl _ s) (by decide +kernel)
  | hportCfgWrite src b p v => exact ok_execHportCfgWrite src b p v (ok_refl _ s) (by decide +kernel)
  | hportCfgApply b p => exact ok_execHportCfgApply b p (ok_refl _ s) (by decide +kernel)
  | ddrRequest ch hdr flits ups => exact ok_execDdrRequest ch hdr flits ups (ok_refl _ s) (by decide +kernel)
  | ddrRefresh ch => exact ok_execDdrRefresh ch (ok_refl _ s) (by decide +kernel)
  | rtEntWrite src k v => exact ok_execRtEntWrite src k v (ok_refl _ s) (by decide +kernel)
  | epochFlip src v => exact ok_execEpochFlip src v (ok_refl _ s) (by decide +kernel)
  | drainComplete => exact ok_execDrainComplete (ok_refl _ s) (by decide +kernel)
  | drainTimeout => exact ok_execDrainTimeout (ok_refl _ s) (by decide +kernel)
  | fenceClosingDone k l => exact ok_execFenceClosingDone k l (ok_refl _ s) (by decide +kernel)
  | fenceClosingTimeout k l => exact ok_execFenceClosingTimeout k l (ok_refl _ s) (by decide +kernel)
  | requestTimeout q => exact ok_execRequestTimeout q (ok_refl _ s) (by decide +kernel)
  | tagReturn q => exact ok_execTagReturn q (ok_refl _ s) (by decide +kernel)
  | traceClear src c v => exact ok_execTraceClear src c v (ok_refl _ s) (by decide +kernel)
  | boreTestRound g => exact ok_execBoreTestRound g (ok_refl _ s) (by decide +kernel)
  | boreTestEnd g mismatch => exact ok_execBoreTestEnd g mismatch (ok_refl _ s) (by decide +kernel)
  | groupResume g => exact ok_execGroupResume g (ok_refl _ s) (by decide +kernel)
  | shiftStop b fab host sched last => exact ok_execShiftStop b fab host sched last (ok_refl _ s) (by decide +kernel)
  | shiftMovePlane b flips => exact ok_execShiftMovePlane b flips (ok_refl _ s) (by decide +kernel)
  | shiftResume b fab host sched last =>
    exact ok_execShiftResume b fab host sched last (ok_refl _ s) (by decide +kernel)
  | linkRetrainDone k port => exact ok_execLinkRetrainDone k port (ok_refl _ s) (by decide +kernel)
  | detourTablesWritten => exact ok_execDetourTablesWritten (ok_refl _ s) (by decide +kernel)
  | scrubPassStart c idx nvsOk ups => exact ok_execScrubPassStart c idx nvsOk ups (ok_refl _ s) (by decide +kernel)
  | scrubFrameCompare c idx slotUps latchUps delivery =>
    exact ok_execScrubFrameCompare c idx slotUps latchUps delivery (ok_refl _ s) (by decide +kernel)
  | scrubRestore c idx => exact ok_execScrubRestore c idx (ok_refl _ s) (by decide +kernel)
  | scrubStateParityCheck b p flips => exact ok_execScrubStateParityCheck b p flips (ok_refl _ s) (by decide +kernel)
  | octCfgWrite src o v => exact ok_execOctCfgWrite src o v (ok_refl _ s) (by decide +kernel)
  | ethRxFrame n bs fcsOk ns frac carried corr uncorr =>
    exact ok_execEthRxFrame n bs fcsOk ns frac carried corr uncorr (ok_refl _ s) (by decide +kernel)
  | ethTxFrame n ns frac => exact ok_execEthTxFrame n ns frac (ok_refl _ s) (by decide +kernel)
  | txtsRead n => exact ok_execTxtsRead n (ok_refl _ s) (by decide +kernel)
  | rawRxItem n item carried => exact ok_execRawRxItem n item carried (ok_refl _ s) (by decide +kernel)
  | rawTxItem n => exact ok_execRawTxItem n (ok_refl _ s) (by decide +kernel)
  | laneRestart src n v => exact ok_execLaneRestart src n v (ok_refl _ s) (by decide +kernel)
  | detectStep n present => exact ok_execDetectStep n present (ok_refl _ s) (by decide +kernel)
  | trainingFrame n ctl crc tap ready =>
    exact ok_execTrainingFrame n ctl crc tap ready (ok_refl _ s) (by decide +kernel)
  | lockFrame n marker chip => exact ok_execLockFrame n marker chip (ok_refl _ s) (by decide +kernel)
  | capabilityFrame n f => exact ok_execCapabilityFrame n f (ok_refl _ s) (by decide +kernel)
  | laneTimerExpiry n => exact ok_execLaneTimerExpiry n (ok_refl _ s) (by decide +kernel)
  | losAssert n => exact ok_execLosAssert n (ok_refl _ s) (by decide +kernel)
  | lolAssert n => exact ok_execLolAssert n (ok_refl _ s) (by decide +kernel)
  | faultRestartTimer n => exact ok_execFaultRestartTimer n (ok_refl _ s) (by decide +kernel)
  | prbsInject src n v => exact ok_execPrbsInject src n v (ok_refl _ s) (by decide +kernel)
  | lanePrbsWrite src n v => exact ok_execLanePrbsWrite src n v (ok_refl _ s) (by decide +kernel)
  | elementRecalStart n e => exact ok_execElementRecalStart n e (ok_refl _ s) (by decide +kernel)
  | elementRecalDone n ok bg eye snr => exact ok_execElementRecalDone n ok bg eye snr (ok_refl _ s) (by decide +kernel)
  | oscStable o => exact ok_execOscStable o (ok_refl _ s) (by decide +kernel)
  | pllLock m t => exact ok_execPllLock m t (ok_refl _ s) (by decide +kernel)
  | pllLockDrop m t => exact ok_execPllLockDrop m t (ok_refl _ s) (by decide +kernel)
  | clkFabWrite src n v => exact ok_execClkFabWrite src n v (ok_refl _ s) (by decide +kernel)
  | monitorWindowEnd m cnt => exact ok_execMonitorWindowEnd m cnt (ok_refl _ s) (by decide +kernel)
  | twinBlankEnd o lost => exact ok_execTwinBlankEnd o lost (ok_refl _ s) (by decide +kernel)
  | rampDwellEnd m => exact ok_execRampDwellEnd m (ok_refl _ s) (by decide +kernel)
  | dividerStep b j => exact ok_execDividerStep b j (ok_refl _ s) (by decide +kernel)
  | clkReturn m w => exact ok_execClkReturn m w (ok_refl _ s) (by decide +kernel)
  | deviceTimeTick => exact ok_execDeviceTimeTick (ok_refl _ s) (by decide +kernel)
  | clkoutWrite src idx v => exact ok_execClkoutWrite src idx v (ok_refl _ s) (by decide +kernel)
  | domainPowerDown src d v => exact ok_execDomainPowerDown src d v (ok_refl _ s) (by decide +kernel)
  | domainPowerUp src d v => exact ok_execDomainPowerUp src d v (ok_refl _ s) (by decide +kernel)
  | quiesceDone d fab host sched last =>
    exact ok_execQuiesceDone d fab host sched last (ok_refl _ s) (by decide +kernel)
  | isolateDone d => exact ok_execIsolateDone d (ok_refl _ s) (by decide +kernel)
  | gateDone d => exact ok_execGateDone d (ok_refl _ s) (by decide +kernel)
  | rampSlotFree => exact ok_execRampSlotFree (ok_refl _ s) (by decide +kernel)
  | rampDone d => exact ok_execRampDone d (ok_refl _ s) (by decide +kernel)
  | initDone d => exact ok_execInitDone d (ok_refl _ s) (by decide +kernel)
  | measurementInterval c rd => exact ok_execMeasurementInterval c rd (ok_refl _ s) (by decide +kernel)
  | throttleRiseTimer c => exact ok_execThrottleRiseTimer c (ok_refl _ s) (by decide +kernel)
  | throttleRecoveryTimer c => exact ok_execThrottleRecoveryTimer c (ok_refl _ s) (by decide +kernel)
  | thermalLevelUpdate b => exact ok_execThermalLevelUpdate b (ok_refl _ s) (by decide +kernel)
  | graceEnd b => exact ok_execGraceEnd b (ok_refl _ s) (by decide +kernel)
  | exemptCheck b => exact ok_execExemptCheck b (ok_refl _ s) (by decide +kernel)
  | hardwareTrip n => exact ok_execHardwareTrip n (ok_refl _ s) (by decide +kernel)
  | converterRotate bank ch bgs => exact ok_execConverterRotate bank ch bgs (ok_refl _ s) (by decide +kernel)
  | railMeasure rails tiers => exact ok_execRailMeasure rails tiers (ok_refl _ s) (by decide +kernel)
  | hluLevelTimer => exact ok_execHluLevelTimer (ok_refl _ s) (by decide +kernel)
  | thmLimitsWrite src v => exact ok_execThmLimitsWrite src v (ok_refl _ s) (by decide +kernel)
  | hluBoardWrite src q v => exact ok_execHluBoardWrite src q v (ok_refl _ s) (by decide +kernel)
  | hluLock src v => exact ok_execHluLock src v (ok_refl _ s) (by decide +kernel)
  | lockstepMismatch => exact ok_execLockstepMismatch (ok_refl _ s) (by decide +kernel)
  | watchdogExpiry => exact ok_execWatchdogExpiry (ok_refl _ s) (by decide +kernel)
  | fwRestart src v => exact ok_execFwRestart src v (ok_refl _ s) (by decide +kernel)
  | controllerOpen => exact ok_execControllerOpen (ok_refl _ s) (by decide +kernel)
  | mbxRing src m v page => exact ok_execMbxRing src m v page (ok_refl _ s) (by decide +kernel)
  | mbxAck src m v => exact ok_execMbxAck src m v (ok_refl _ s) (by decide +kernel)
  | mbxAbort src m v => exact ok_execMbxAbort src m v (ok_refl _ s) (by decide +kernel)
  | pageTimerExpiry m => exact ok_execPageTimerExpiry m (ok_refl _ s) (by decide +kernel)
  | mctpMessage tag msg => exact ok_execMctpMessage tag msg (ok_refl _ s) (by decide +kernel)
  | setEndpointId eid => exact ok_execSetEndpointId eid (ok_refl _ s) (by decide +kernel)
  | getEndpointId => exact ok_execGetEndpointId (ok_refl _ s) (by decide +kernel)
  | getMctpVersionSupport msgType => exact ok_execGetMctpVersionSupport msgType (ok_refl _ s) (by decide +kernel)
  | getMessageTypeSupport => exact ok_execGetMessageTypeSupport (ok_refl _ s) (by decide +kernel)
  | getVendorDefinedMsgSupport selector =>
    exact ok_execGetVendorDefinedMsgSupport selector (ok_refl _ s) (by decide +kernel)
  | devInfo mb => exact ok_execDevInfo mb (ok_refl _ s) (by decide +kernel)
  | devTime mb => exact ok_execDevTime mb (ok_refl _ s) (by decide +kernel)
  | otpStep mb vpp => exact ok_execOtpStep mb vpp (ok_refl _ s) (by decide +kernel)
  | otpStepTimeout => exact ok_execOtpStepTimeout (ok_refl _ s) (by decide +kernel)
  | otpBoard mb vpp => exact ok_execOtpBoard mb vpp (ok_refl _ s) (by decide +kernel)
  | benchAssign mb => exact ok_execBenchAssign mb (ok_refl _ s) (by decide +kernel)
  | gangFormCmd mb => exact ok_execGangFormCmd mb (ok_refl _ s) (by decide +kernel)
  | gangDissolveCmd mb => exact ok_execGangDissolveCmd mb (ok_refl _ s) (by decide +kernel)
  | mfenceSet mb => exact ok_execMfenceSet mb (ok_refl _ s) (by decide +kernel)
  | hwinSet mb => exact ok_execHwinSet mb (ok_refl _ s) (by decide +kernel)
  | laneFence mb => exact ok_execLaneFence mb (ok_refl _ s) (by decide +kernel)
  | wbSet mb => exact ok_execWbSet mb (ok_refl _ s) (by decide +kernel)
  | pcapSet mb => exact ok_execPcapSet mb (ok_refl _ s) (by decide +kernel)
  | hopperSet mb => exact ok_execHopperSet mb (ok_refl _ s) (by decide +kernel)
  | declApply mb => exact ok_execDeclApply mb (ok_refl _ s) (by decide +kernel)
  | benchStatus mb => exact ok_execBenchStatus mb (ok_refl _ s) (by decide +kernel)
  | slotCopy mb => exact ok_execSlotCopy mb (ok_refl _ s) (by decide +kernel)
  | slotOwner mb => exact ok_execSlotOwner mb (ok_refl _ s) (by decide +kernel)
  | slotRelease mb => exact ok_execSlotRelease mb (ok_refl _ s) (by decide +kernel)
  | slotList mb => exact ok_execSlotList mb (ok_refl _ s) (by decide +kernel)
  | scrubSet mb ok => exact ok_execScrubSet mb ok (ok_refl _ s) (by decide +kernel)
  | octetCfg mb => exact ok_execOctetCfg mb (ok_refl _ s) (by decide +kernel)
  | laneStatus mb => exact ok_execLaneStatus mb (ok_refl _ s) (by decide +kernel)
  | laneRestartCmd mb => exact ok_execLaneRestartCmd mb (ok_refl _ s) (by decide +kernel)
  | domainSet mb => exact ok_execDomainSet mb (ok_refl _ s) (by decide +kernel)
  | domainList mb => exact ok_execDomainList mb (ok_refl _ s) (by decide +kernel)
  | thmSet mb => exact ok_execThmSet mb (ok_refl _ s) (by decide +kernel)
  | telemetry mb => exact ok_execTelemetry mb (ok_refl _ s) (by decide +kernel)
  | hluFwSet mb => exact ok_execHluFwSet mb (ok_refl _ s) (by decide +kernel)
  | calRead mb => exact ok_execCalRead mb (ok_refl _ s) (by decide +kernel)
  | calWrite mb => exact ok_execCalWrite mb (ok_refl _ s) (by decide +kernel)
  | spoilRead mb => exact ok_execSpoilRead mb (ok_refl _ s) (by decide +kernel)
  | spoilClear mb ok => exact ok_execSpoilClear mb ok (ok_refl _ s) (by decide +kernel)
  | routerRetire mb => exact ok_execRouterRetire mb (ok_refl _ s) (by decide +kernel)
  | columnShift mb => exact ok_execColumnShift mb (ok_refl _ s) (by decide +kernel)
  | wplRingRead mb => exact ok_execWplRingRead mb (ok_refl _ s) (by decide +kernel)
  | wplFreeze mb => exact ok_execWplFreeze mb (ok_refl _ s) (by decide +kernel)
  | wplResume mb => exact ok_execWplResume mb (ok_refl _ s) (by decide +kernel)
  | wplRecordList mb => exact ok_execWplRecordList mb (ok_refl _ s) (by decide +kernel)
  | wplRecordRead mb => exact ok_execWplRecordRead mb (ok_refl _ s) (by decide +kernel)
  | fwWrite mb back => exact ok_execFwWrite mb back (ok_refl _ s) (by decide +kernel)
  | fwVerify mb => exact ok_execFwVerify mb (ok_refl _ s) (by decide +kernel)
  | fwActivate mb => exact ok_execFwActivate mb (ok_refl _ s) (by decide +kernel)
  | fwMinSvn mb vpp => exact ok_execFwMinSvn mb vpp (ok_refl _ s) (by decide +kernel)
  | tmuxUnlock mb => exact ok_execTmuxUnlock mb (ok_refl _ s) (by decide +kernel)
  | tmuxSelect mb => exact ok_execTmuxSelect mb (ok_refl _ s) (by decide +kernel)
  | dbgEnChange on => exact ok_execDbgEnChange on (ok_refl _ s) (by decide +kernel)
  | weapelEntry => exact ok_execWeapelEntry (ok_refl _ s) (by decide +kernel)
  | recordCopyDone ok => exact ok_execRecordCopyDone ok (ok_refl _ s) (by decide +kernel)
  | wplCtlFreeze src v => exact ok_execWplCtlFreeze src v (ok_refl _ s) (by decide +kernel)
  | wplCtlResume src v => exact ok_execWplCtlResume src v (ok_refl _ s) (by decide +kernel)
  | floorReset src v => exact ok_execFloorReset src v (ok_refl _ s) (by decide +kernel)
  | floorResetEnterDone => exact ok_execFloorResetEnterDone (ok_refl _ s) (by decide +kernel)
  | floorResetHoldEnd => exact ok_execFloorResetHoldEnd (ok_refl _ s) (by decide +kernel)
  | floorResetReleaseDone evals => exact ok_execFloorResetReleaseDone evals (ok_refl _ s) (by decide +kernel)
  | ddrTrain src ch v => exact ok_execDdrTrain src ch v (ok_refl _ s) (by decide +kernel)
  | ddrTrainingDone ch spd ok ms => exact ok_execDdrTrainingDone ch spd ok ms (ok_refl _ s) (by decide +kernel)
  | ddrSelfrefEntryDone ch => exact ok_execDdrSelfrefEntryDone ch (ok_refl _ s) (by decide +kernel)
  | tapReset => exact ok_execTapReset (ok_refl _ s) (by decide +kernel)
  | tapBypass => exact ok_execTapBypass (ok_refl _ s) (by decide +kernel)
  | tapIdcode => exact ok_execTapIdcode (ok_refl _ s) (by decide +kernel)
  | tapSamplePreload => exact ok_execTapSamplePreload (ok_refl _ s) (by decide +kernel)
  | tapExtest => exact ok_execTapExtest (ok_refl _ s) (by decide +kernel)
  | tapClamp => exact ok_execTapClamp (ok_refl _ s) (by decide +kernel)
  | tapHighz => exact ok_execTapHighz (ok_refl _ s) (by decide +kernel)
  | tapExtestPulse => exact ok_execTapExtestPulse (ok_refl _ s) (by decide +kernel)
  | tapExtestTrain => exact ok_execTapExtestTrain (ok_refl _ s) (by decide +kernel)
  | railDown n => exact ok_execRailDown n (ok_refl _ s) (by decide +kernel)
  | losClear n => exact ok_execLosClear n (ok_refl _ s) (by decide +kernel)
  | readingLoLatchesHi src r idx => exact ok_execReadingLoLatchesHi src r idx (ok_refl _ s) (by decide +kernel)
  | cataloguedTimeExceeded mb => exact ok_execCataloguedTimeExceeded mb (ok_refl _ s) (by decide +kernel)
  | autoNegotiationPage n rf done => exact ok_execAutoNegotiationPage n rf done (ok_refl _ s) (by decide +kernel)
  | linkTrainingFrame n done => exact ok_execLinkTrainingFrame n done (ok_refl _ s) (by decide +kernel)
  | dynamicAddressAssignment addr => exact ok_execDynamicAddressAssignment addr (ok_refl _ s) (by decide +kernel)

end Sys2Proof.Machine
end

section
/-!
SUPPORT. What holds of a command whatever it is: it keeps the invariant, its frame and the reserved bits; and how the queue is served.
-/

namespace Sys2Proof.Machine

/-- The invariant says of the queue only what it says of every command in it. -/
theorem inv_of_queue_subset {s : State} {q : List Instr} (h : s.Inv) (hq : ∀ c ∈ q, c ∈ s.pending) :
    State.Inv { s with pending := q } :=
  ⟨fun c hc => h.1 c (hq c hc), h.2⟩

/-- A command keeps the invariant. -/
theorem exec_keeps_inv (c : Instr) {s : State} (h : s.Inv) : ∃ t, exec c s = .next t ∧ t.Inv := by
  obtain ⟨hqueue, hregs, hmem⟩ := h
  obtain ⟨t, he, hok⟩ := exec_ok c s
  exact ⟨t, he, hok.queue ▸ hqueue, hok.regs hregs, hok.mem hmem⟩

theorem step_nil {s : State} (h : s.pending = []) : step s = .next s := by rw [step, h]

theorem step_cons {c : Instr} {q : List Instr} {s : State} (h : s.pending = c :: q) :
    step s = exec c { s with pending := q } := by rw [step, h]

theorem regsOk_nil : RegsOk [] := ⟨mapWf_nil _, by simp⟩

theorem memOk_reset : State.reset.MemOk :=
  ⟨mapWf_nil _, mapWf_nil _, mapWf_nil _, fun _ => mapWf_nil _, mapWf_nil _⟩

end Sys2Proof.Machine
end

section
/-! The statements about every command and every step: O1, O3, O4, O5, O6. -/

namespace Sys2Proof.Machine

/-- Settles O4: a step is exec of the front command on the state without it (`step_cons`), and exec keeps the invariant by the
footprint lemma of each command (`exec_ok`). -/
theorem stepKeepsInv : Obligations.StepKeepsInv := by
  unfold Obligations.StepKeepsInv
  intro s hinv
  cases hq : s.pending with
  | nil => exact ⟨s, step_nil hq, hinv⟩
  | cons c q =>
    rw [step_cons hq]
    exact exec_keeps_inv c (inv_of_queue_subset hinv fun d hd => hq ▸ List.mem_cons_of_mem c hd)

/-- Settles O5: what a command keeps (`exec_ok`) with the footprint read as lists (`frame_of`). -/
theorem footprintKept : Obligations.FootprintKept := by
  unfold Obligations.FootprintKept
  intro c s
  obtain ⟨t, he, hok⟩ := exec_ok c s
  exact ⟨t, he, frame_of hok⟩

/-- Settles O6: a register file in order reads with its reserved bits 0 (`reg_mask`), and a command keeps it in order. -/
theorem reservedReadsZero : Obligations.ReservedReadsZero := by
  unfold Obligations.ReservedReadsZero
  intro c s t hregs he r i
  obtain ⟨u, hu, hok⟩ := exec_ok c s
  obtain rfl : u = t := Host.Outcome.next.inj (hu.symm.trans he)
  exact ⟨reg_mask hregs r i, reg_mask (hok.regs hregs) r i⟩

/-- Settles O1: the queue is served first in, first out (a choice of the model, log entry 1). -/
theorem stepRunsFront : Obligations.StepRunsFront := by
  unfold Obligations.StepRunsFront
  intro c q s hq
  exact step_cons hq

/-- Settles O3: right after reset the queue, the register file and every memory list nothing. -/
theorem resetInv : Obligations.ResetInv := by
  unfold Obligations.ResetInv
  exact ⟨fun c hc => absurd hc List.not_mem_nil, regsOk_nil, memOk_reset⟩

end Sys2Proof.Machine
end

section
/-!
SUPPORT. Device time: which commands may move it, and what the rails and the tick do to it.
-/

namespace Sys2Proof.Machine

variable {s t : State}

/-- A footprint without bit 0 keeps device time. -/
theorem time_of_ok {T : Nat} (h : Ok T s t) (hT : T.testBit 0 = false := by rfl) : t.time = s.time := h.part .time hT

/-- The footprint of every register and of every part but device time, whose bit is 0. -/
def besideTime : Nat := allRegBits + (2 ^ 64 - 2)

theorem besideTime_within : Within besideTime besideTime := rfl

/-- A change of the rails' levels keeps device time. -/
theorem ok_railsUp {s u : State} (h : Ok besideTime s u) (x : Nat) :
    Ok besideTime s { u with power := { u.power with railsUp := x } } := by
  have hT := besideTime_within
  exact ok_with h ..

/-- Device time starts at 0 (R624). -/
theorem powerOn_time (s : State) : s.powerOn.time = 0 := by
  have hT := besideTime_within
  have hrails : Ok besideTime s.volatileLost _ := ok_railsUp (ok_refl _ _) (Nat.lor s.power.railsUp 1)
  exact time_of_ok (ok_fixedUpAll (ok_loadBoard (ok_set (f := F.PWR_RAIL_STAT_ORDER_ERR) rfl hrails)))

/-- A rail other than VDD_AON rises without a power-on reset. -/
theorem ok_railRise_beside {n : Nat} (hn : n ≠ 0) : Ok besideTime s (s.railRise n) := by
  have hT := besideTime_within
  unfold State.railRise
  rw [if_neg hn]
  have hup := ok_railsUp (ok_refl _ s) (s.power.railsUp + 2 ^ n)
  refine ok_ite (ok_refl _ s) (ok_ite hup (ok_ite (ok_fixedUpAll hup) (ok_fixedUpAll ?_)))
  exact ok_ite (ok_wlog _ _ _ _ (ok_set rfl hup)) (ok_set rfl hup)

/-- A rail other than VDD_AON falls without the loss of PD_AON's state. -/
theorem ok_railFall_beside {n : Nat} (hn : n ≠ 0) : Ok besideTime s (s.railFall n) := by
  have hT := besideTime_within
  unfold State.railFall
  rw [if_neg hn]
  have hdrop (u : State) (d : Nat) (h : Ok besideTime s u) :
      Ok besideTime s (if (domainRails d).contains n && u.domSt d != pdOff then u.dropDomain d else u) :=
    ok_ite (ok_dropDomain d h) h
  have hfed := ok_foldl (l := upTo 97) hdrop (ok_railsUp (ok_refl _ s) (s.power.railsUp - 2 ^ n))
  exact ok_ite (ok_refl _ s)
    (ok_dropOrphans (ok_dropOrphans (ok_ite (ok_foldl (fun _ ch h => ok_dramGone ch h) hfed) hfed)))

/-- Beside the tick and the commands of VDD_AON's rail, no footprint holds device time. -/
theorem time_not_touched (c : Instr) (htick : c ≠ .deviceTimeTick) (hpor : c ≠ .powerOnReset) (hup : ∀ n, c ≠ .railUp n)
    (hdown : ∀ n, c ≠ .railDown n) : Part.time ∉ (touches c).1 := by
  cases c with
  | deviceTimeTick => exact absurd rfl htick
  | powerOnReset => exact absurd rfl hpor
  | railUp n => exact absurd rfl (hup n)
  | railDown n => exact absurd rfl (hdown n)
  | _ => dsimp only [touches]; decide

/-- No command but the tick moves device time while PD_AON stays powered. -/
theorem exec_time {c : Instr} (he : exec c s = .next t) (htick : c ≠ .deviceTimeTick) (haon : losesAon c = false) :
    t.time = s.time := by
  by_cases hup : ∃ n, c = .railUp n
  · obtain ⟨n, rfl⟩ := hup
    obtain rfl : s.railRise n = t := Host.Outcome.next.inj he
    exact time_of_ok (ok_railRise_beside (by rintro rfl; exact absurd haon (by decide)))
  by_cases hdown : ∃ n, c = .railDown n
  · obtain ⟨n, rfl⟩ := hdown
    obtain rfl : s.railFall n = t := Host.Outcome.next.inj he
    exact time_of_ok (ok_railFall_beside (by rintro rfl; exact absurd haon (by decide)))
  push Not at hup hdown
  obtain ⟨u, hu, hok⟩ := exec_ok c s
  obtain rfl : u = t := Host.Outcome.next.inj (hu.symm.trans he)
  obtain ⟨-, hpart, -⟩ := frame_of hok
  exact hpart .time (time_not_touched c htick (by rintro rfl; exact absurd haon (by decide)) hup hdown)

/-- A tick adds one cycle of the source of device time (R482). -/
theorem deviceTimeTick_time (hp : s.powered 0 = true) (he : exec .deviceTimeTick s = .next t) :
    t.time = (s.time + (if s.get F.CLK_OSC_STAT_DT_SRC 0 = 0 then 40 else 5)) % 2 ^ 64 := by
  have h : execDeviceTimeTick s = .next t := he
  rw [execDeviceTimeTick, if_pos hp] at h
  rw [← Host.Outcome.next.inj h]

/-- Settles O54: only the tick's footprint and those of VDD_AON's rail hold device time (`exec_time`); the tick's footprint
leaves the parts named, and a power-on reset starts from a state with time 0. -/
theorem deviceTimeOnlyTicks : Obligations.DeviceTimeOnlyTicks := by
  unfold Obligations.DeviceTimeOnlyTicks
  refine ⟨fun c s t he htick haon => exec_time he htick haon, fun s hp => ?_, fun s => ⟨s.powerOn, rfl, powerOn_time s⟩⟩
  obtain ⟨t, he, hok⟩ := exec_ok .deviceTimeTick s
  obtain ⟨-, hpart, -⟩ := frame_of hok
  exact ⟨t, he, deviceTimeTick_time hp he, hpart .memt (by decide), hpart .ddr (by decide), hpart .slots (by decide),
    hpart .planes (by decide), hpart .power (by decide), hpart .nvs (by decide)⟩

end Sys2Proof.Machine
end

section
/-!
SUPPORT. Writes under the access codes of R8, writes that do not reach, and reads that latch.
-/

namespace Sys2Proof.Machine

variable {s : State} {src : Src} {r : Reg} {i : Nat} {v : Word}

/-- RW bits take the value written. -/
theorem maskedWrite_rw (r : Reg) (old v : Word) :
    maskedWrite r old v &&& (rwMask r &&& ~~~(w1cMask r)) = v &&& (rwMask r &&& ~~~(w1cMask r)) := by
  ext j hj
  simp only [maskedWrite, BitVec.getElem_and, BitVec.getElem_or, BitVec.getElem_not]
  cases (rwMask r)[j] <;> cases (w1cMask r)[j] <;> simp

/-- RW1C bits written 1 clear. -/
theorem maskedWrite_w1c (r : Reg) (old v : Word) : maskedWrite r old v &&& (w1cMask r &&& v) = 0 := by
  ext j hj
  simp only [maskedWrite, BitVec.getElem_and, BitVec.getElem_or, BitVec.getElem_not]
  cases (w1cMask r)[j] <;> cases v[j] <;> simp

/-- Bits of the other access codes stay. -/
theorem maskedWrite_rest (r : Reg) (old v : Word) :
    maskedWrite r old v &&& ~~~(rwMask r ||| w1cMask r) = old &&& ~~~(rwMask r ||| w1cMask r) := by
  ext j hj
  simp only [maskedWrite, BitVec.getElem_and, BitVec.getElem_or, BitVec.getElem_not]
  cases (rwMask r)[j] <;> cases (w1cMask r)[j] <;> simp

/-- A register whose write does no more than the access codes say. -/
def PlainWritten (r : Reg) : Prop :=
  ∀ (s : State) (src : Src) (i : Nat) (v : Word), s.writeReg src r i v = s.setReg r i (maskedWrite r (s.reg r i) v)

/-- A write that its source may make, of the selected copy of the register, is carried out. -/
theorem registerWrite_reaches (hm : s.mayWrite src r i = true) (hw : s.windowInst src r i = true) :
    exec (.registerWrite src r i v) s = .next (s.writeReg src r i v) :=
  congrArg Host.Outcome.next (if_pos (.inl ⟨hm, hw⟩))

/-- Any other write changes nothing, unless the HLU counts it (R565). -/
theorem registerWrite_ignored (h : s.mayWrite src r i = false ∨ s.windowInst src r i = false)
    (hb : src ≠ .other ∨ r ≠ .HLU_BOARD) : exec (.registerWrite src r i v) s = .next s := by
  refine congrArg Host.Outcome.next (if_neg ?_)
  rintro (⟨hm, hw⟩ | ⟨hsrc, hr, -⟩)
  · rcases h with h | h
    · exact absurd hm (by simp [h])
    · exact absurd hw (by simp [h])
  · exact hb.elim (· hsrc) (· hr)

/-- A plane's active time stands beside every register but its bench's BENCH_PLANE_STAT. -/
theorem planeTime_setReg (s : State) (hr : Reg.BENCH_PLANE_STAT ≠ r) (i : Nat) (v : Word) (k : Nat) :
    (s.setReg r i v).planeTime k = s.planeTime k := by
  have hget (f : Fld) (hf : f.reg = .BENCH_PLANE_STAT) (b : Nat) : (s.setReg r i v).get f b = s.get f b := by
    unfold State.get
    rw [reg_setReg_ne _ _ (.inl (hf ▸ hr))]
  unfold State.planeTime State.online State.flag State.sinceEdge
  rw [hget F.BENCH_PLANE_STAT_ONLINE rfl, hget F.BENCH_PLANE_STAT_ACTIVE rfl, State.setReg_planes, State.setReg_time]

/-- Latching the upper half leaves the counter. -/
theorem wideCount_setReg_hi {x : Nat} {r2 : Reg} (h : s.wideCount r i = some (x, r2)) (j : Nat) (v : Word) :
    (s.setReg r2 j v).wideCount r i = some (x, r2) := by
  rw [← h]
  unfold State.wideCount at h ⊢
  split at h
  · obtain ⟨-, rfl⟩ := Prod.mk.inj (Option.some.inj h)
    exact congrArg (fun n => some (n, Reg.BENCH_PLANE_TIME_HI)) (planeTime_setReg s (by decide) j v i)
  all_goals rfl

/-- A read of a LO register stores the counter's upper half in its HI register (R283). -/
theorem readingLo_latches {x : Nat} {r2 : Reg} (hm : s.mayRead src r i = true) (h : s.wideCount r i = some (x, r2)) :
    exec (.readingLoLatchesHi src r i) s = .next (s.setReg r2 i (BitVec.ofNat 32 (x / 2 ^ 32))) := by
  refine congrArg Host.Outcome.next ((if_pos hm).trans ?_)
  rw [State.latchHi, h]

/-- A read that its source may not make, or of a register without an upper half, changes nothing. -/
theorem readingLo_ignored (h : s.mayRead src r i = false ∨ s.wideCount r i = none) :
    exec (.readingLoLatchesHi src r i) s = .next s := by
  refine congrArg Host.Outcome.next ?_
  split
  next hm =>
    rcases h with h | h
    · exact absurd hm (by simp [h])
    · rw [State.latchHi, h]
  next => rfl

/-- A LO register reads as the lower half of its counter. -/
theorem readReg_of_wideCount {x : Nat} {r2 : Reg} (h : s.wideCount r i = some (x, r2)) :
    s.readReg r i = BitVec.ofNat 32 x := by rw [State.readReg, h]

/-- Settles O44: each register of the list is written under the access codes alone (`PlainWritten`); the masks of a write say what
each kind of bit becomes; a latched HI register does not enter the counter. -/
theorem registerAccess : Obligations.RegisterAccess := by
  unfold Obligations.RegisterAccess
  refine ⟨fun s src r i v hm hw hr => ?_, fun s src r i v h hb => ⟨s, registerWrite_ignored h hb, rfl⟩,
    fun s src r r2 i x hm hx => ?_, fun s src r i h => ⟨s, readingLo_ignored h, rfl⟩⟩
  · have hplain : PlainWritten r := by
      intro s src i v
      fin_cases hr <;> rfl
    have hreg := reg_setReg_same s r i (maskedWrite r (s.reg r i) v)
    refine ⟨_, (registerWrite_reaches hm hw).trans (congrArg _ (hplain s src i v)), rfl, hreg, ?_⟩
    rw [hreg]
    exact ⟨maskedWrite_rw r _ v, maskedWrite_w1c r _ v, maskedWrite_rest r _ v⟩
  · refine ⟨_, readingLo_latches hm hx, rfl, ?_, readReg_of_wideCount (wideCount_setReg_hi hx i _)⟩
    rw [reg_setReg_same, BitVec.toNat_ofNat]

end Sys2Proof.Machine
end

section
/-! SUPPORT. What the registers read right after reset. -/

namespace Sys2Proof.Machine

/-- Right after reset every register reads what its table says. -/
theorem reg_reset (r : Reg) (i : Nat) : State.reset.reg r i = regReset r i := regDefault_regKey r i

theorem get_reset (f : Fld) (i : Nat) : State.reset.get f i = bitsOf (regReset f.reg i).toNat f.lo f.w := by
  rw [State.get, reg_reset]

/-- A field over a whole word reads the word. -/
theorem bitsOf_word (n : Nat) : bitsOf (BitVec.ofNat 32 n).toNat 0 32 = n % 2 ^ 32 := by simp [bitsOf]

/-- Settles O60: an empty register file reads as the tables' reset values; every field without a reset value starts empty (a
choice of the model, log entry 5). -/
theorem registersAfterReset : Obligations.RegistersAfterReset := by
  unfold Obligations.RegistersAfterReset
  refine ⟨reg_reset, fun i => ⟨rfl, rfl, rfl, ?_⟩, fun q => ⟨?_, ?_⟩, rfl, rfl, rfl⟩
  · rw [State.ddrSt, get_reset, show regReset F.DDR_CH_STAT_STATE.reg i = resetWord .DDR_CH_STAT from rfl]
    decide
  · exact (get_reset F.HLU_BOARD_VALUE q).trans (bitsOf_word _)
  · exact (get_reset F.HLU_FW_VALUE q).trans (bitsOf_word _)

end Sys2Proof.Machine
end

section
/-! SUPPORT. The end of a bore test, and a round of tests that a spare swap interrupts (R371, R374). -/

namespace Sys2Proof.Machine

/-- A group reads what was stored for it. -/
theorem group_setGroup_same (s : State) (g : Nat) (x : Group) : (s.setGroup g x).group g = x := by
  simp only [State.group, State.setGroup, mapGet_mapSet_same]

/-- BORE_TEST_END reaches a group that carries traffic. -/
theorem exec_boreTestEnd_of_groupRuns {s : State} {g : Nat} (m : Bool) (h : s.groupRuns g = true) :
    exec (.boreTestEnd g m) s = .next (s.boreTestEnd g m) := congrArg Host.Outcome.next (if_pos h)

/-- A group that a swap or a fold has paused drops the test under way, whatever its outcome, and the rest of its round. -/
theorem boreTestEnd_of_paused {s : State} {g : Nat} {bore : Nat × Bool} (m : Bool) (ht : (s.group g).test = some bore)
    (hp : (s.group g).paused = true) : s.boreTestEnd g m = s.setGroup g { s.group g with test := none } := by
  simp only [State.boreTestEnd, ht, hp, Bool.true_or, if_true]

/-- F–L periphery group 0 of column 0: PERIPH is bit 27 of an identifier (R22). -/
def peripheryGroup : Nat := 2 ^ 27

/-- Data bore 0 of an acquired group with four idle spares has failed once and is under its second test. -/
def boreRetested : State :=
  State.reset.setGroup peripheryGroup { acqDone := true, acqStep := 8, test := some (0, true) }

/-- The retest fails too: the bore is hard and the group pauses for the swap, with the test of data bore 1 next. -/
def swapInRound : State := boreRetested.boreTestEnd peripheryGroup true

theorem swapInRound_group : swapInRound.groupRuns peripheryGroup = true
    ∧ (swapInRound.group peripheryGroup).test = some (1, false)
    ∧ (swapInRound.group peripheryGroup).paused = true := by decide +kernel

/-- Refutes O12 in its clause on BORE_TEST_END: where the second failure of data bore 0 has paused the group for the swap
(`swapInRound`), a mismatch of data bore 1 is not tested again, since the pause ends the round (`boreTestEnd_of_paused`). -/
theorem not_boreTrims : ¬ Obligations.BoreTrims := by
  unfold Obligations.BoreTrims
  rintro ⟨-, -, -, -, -, -, htestEnd, -, -⟩
  obtain ⟨hruns, htest, hpaused⟩ := swapInRound_group
  obtain ⟨t, hexec, hagain, -, -⟩ := htestEnd swapInRound peripheryGroup 1 true false hruns htest
  rw [exec_boreTestEnd_of_groupRuns true hruns, boreTestEnd_of_paused true htest hpaused] at hexec
  have hnone : (t.group peripheryGroup).test = none := by
    rw [← Host.Outcome.next.inj hexec, group_setGroup_same]
  exact absurd (hnone.symm.trans (hagain rfl rfl)) (by simp)

end Sys2Proof.Machine
end

section
/-!
SUPPORT. What an edge of a bench's clocks leaves: the frames of every other bench and the count of the fold pause, which
FABRIC_CLOCK_EDGE itself moves on (R50, R151, R377).
-/

namespace Sys2Proof.Machine

/-- The active plane is one of the eight of its bench. -/
theorem activePlane_lt {s : State} {b p : Nat} (h : s.activePlane b = some p) : p < 8 := by
  unfold State.activePlane at h
  split at h
  · obtain rfl := Option.some.inj h
    exact bitsOf_lt _ _ 3
  · cases h

/-- A frame keeps its value when one of another bench is written. -/
theorem planeFrame_setPlaneFrame_ne (s : State) {b c p q f g : Nat} (x : Nat) (hb : c ≠ b) (hp : p < 8) (hq : q < 8)
    (hf : f < slotFrames) (hg : g < slotFrames) : (s.setPlaneFrame b p f x).planeFrame c q g = s.planeFrame c q g := by
  refine mapGet_mapSet_ne _ _ _ fun e => ?_
  simp only [slotFrames] at e hf hg
  omega

/-- What an edge of bench b's clocks leaves of the planes' part of the state. -/
structure EdgeKeeps (b : Nat) (s t : State) : Prop where
  fold : t.planes.foldEdges = s.planes.foldEdges
  frame : ∀ c p f, c ≠ b → p < 8 → f < slotFrames → t.planeFrame c p f = s.planeFrame c p f

namespace EdgeKeeps

variable {s0 s t u : State} {b clk p : Nat}

theorem refl (b : Nat) (s : State) : EdgeKeeps b s s := ⟨rfl, fun _ _ _ _ _ _ => rfl⟩

theorem trans (h : EdgeKeeps b s t) (h2 : EdgeKeeps b t u) : EdgeKeeps b s u :=
  ⟨h2.fold.trans h.fold, fun c p f hc hp hf => (h2.frame c p f hc hp hf).trans (h.frame c p f hc hp hf)⟩

/-- A change that leaves the frames and the fold pause whole. -/
theorem of_eq (hfold : t.planes.foldEdges = s.planes.foldEdges) (hframes : t.planes.frames = s.planes.frames) :
    EdgeKeeps b s t := ⟨hfold, fun _ _ _ _ _ _ => by rw [State.planeFrame, hframes, State.planeFrame]⟩

/-- The operations in flight are no frame. -/
theorem stages (h : EdgeKeeps b s t) (x : SMap AbStage) :
    EdgeKeeps b s { t with planes := { t.planes with stages := x } } := h.trans (of_eq rfl rfl)

theorem foldl {β : Type} {f : State → β → State} {l : List β} (h : ∀ t, ∀ x ∈ l, EdgeKeeps b t (f t x)) :
    EdgeKeeps b s (l.foldl f s) :=
  List.foldlRecOn l f (refl b s) fun t ht x hx => ht.trans (h t x hx)

theorem setPlaneFrame {f x : Nat} (hp : p < 8) (hf : f < slotFrames) : EdgeKeeps b s (s.setPlaneFrame b p f x) :=
  ⟨rfl, fun _ _ _ hc hq hg => planeFrame_setPlaneFrame_ne s x hc hp hq hf hg⟩

/-- A run of bits that ends before the plane's last frame does. -/
theorem setRunBits {f0 : Nat} (hp : p < 8) (w : Nat) {i x : Nat} (hi : 512 * f0 + i + w ≤ 512 * slotFrames) :
    EdgeKeeps b s (s.setRunBits b p f0 i w x) := by
  induction w generalizing s i x with
  | zero => exact refl b s
  | succ w ih =>
    rw [State.setRunBits]
    exact (setPlaneFrame hp (by omega)).trans (ih (by omega))

/-- An arithmetic block's state bits lie in the 256 frames from `abRun` on. -/
theorem abEdge {sx k : Nat} (hp : p < 8) (hsx : sx < 32) (hk : k < 4) : EdgeKeeps b s (s0.abEdge s b p sx k) := by
  have hrun {t : State} (w : Nat) {i x : Nat} (hi : i + w ≤ 512 * 256) : EdgeKeeps b t (t.setRunBits b p abRun i w x) :=
    setRunBits hp w (by simp only [abRun, slotFrames]; omega)
  unfold State.abEdge
  dsimp only
  split
  · exact refl b s
  · refine stages (((hrun 256 ?_).trans (hrun 5 ?_)).trans (hrun 576 ?_)) _ <;> omega

theorem latchPorts : EdgeKeeps b s (s0.latchPorts s b p clk) :=
  foldl fun t i _ => by
    split
    · exact of_eq rfl rfl
    · exact refl b t

theorem bndEdge : EdgeKeeps b s (s0.bndEdge s b clk) :=
  foldl fun t h _ => by
    split
    · exact of_eq rfl rfl
    · exact refl b t

/-- The status port is a register. -/
theorem statusEdge : EdgeKeeps b s (s0.statusEdge s b) := by
  have hplanes : (s0.statusEdge s b).planes = s.planes :=
    (ok_statusEdge (T0 := 0x400000000000000000000000000000) b (ok_refl _ s) rfl).part .planes rfl
  exact of_eq (by rw [hplanes]) (by rw [hplanes])

theorem sampleEdge : EdgeKeeps b s (s0.sampleEdge s b) := of_eq rfl rfl

/-- The boundary cells and what samples at bench clock 0 come after the bench's logic. -/
theorem boundary (h : EdgeKeeps b s t) : EdgeKeeps b s (if clk = 0 then
    s0.sampleEdge (s0.statusEdge (s0.bndEdge t b clk) b) b else s0.bndEdge t b clk) := by
  have hbnd : EdgeKeeps b s (s0.bndEdge t b clk) := h.trans bndEdge
  split
  · exact (hbnd.trans statusEdge).trans sampleEdge
  · exact hbnd

/-- An edge writes the flip-flop and arithmetic frames of its own bench's active plane only. -/
theorem benchEdge (s0 s : State) (b clk : Nat) (late : List (Nat × Nat)) : EdgeKeeps b s (s0.benchEdge s b clk late) := by
  unfold State.benchEdge
  split
  case isFalse => exact refl b s
  refine boundary ?_
  split
  next => exact refl b s
  next p hactive =>
    have hp := activePlane_lt hactive
    have hff (t : State) (j : Nat) (hj : j ∈ upTo 256) :
        EdgeKeeps b t (t.setPlaneFrame b p (ffRun + j) (s0.ffFrame t b p clk j late)) := by
      have := List.mem_range.1 hj
      exact setPlaneFrame hp (by simp only [ffRun, slotFrames]; omega)
    have hab (t : State) (i : Nat) (hi : i ∈ upTo 128) : EdgeKeeps b t
        (if s0.abCfg b p (i / 4) (i % 4) / 2 ^ 14 = clk then s0.abEdge t b p (i / 4) (i % 4) else t) := by
      have := List.mem_range.1 hi
      split
      · exact abEdge hp (by omega) (by omega)
      · exact refl b t
    exact ((foldl hff).trans (foldl hab)).trans latchPorts

end EdgeKeeps
end Sys2Proof.Machine
end

section
/-! FABRIC_CLOCK_EDGE: O14. -/

namespace Sys2Proof.Machine

variable {s0 s : State} {b clk p f : Nat} {edges : List (Nat × Nat)} {late : List (Nat × Nat × Nat)}

/-- An edge that does not act reaches nothing (R674). -/
theorem benchEdge_of_not_acts (h : s0.edgeActs b clk = false) (s : State) (l : List (Nat × Nat)) :
    s0.benchEdge s b clk l = s := if_neg (by simp [h])

/-- A clock that does not run has no edge that acts. -/
theorem edgeActs_of_not_runs (h : s.clkRuns b clk = false) : s.edgeActs b clk = false := by simp [State.edgeActs, h]

theorem tailEdge_planes (s : State) (b clk : Nat) : (s.tailEdge b clk).planes = s.planes :=
  (ok_tailEdge (T0 := 0x10000000) b clk (ok_refl _ s) rfl).part .planes rfl

theorem tailEdge_clocks (s : State) (b clk : Nat) : (s.tailEdge b clk).clocks = s.clocks :=
  (ok_tailEdge (T0 := 0x10000000) b clk (ok_refl _ s) rfl).part .clocks rfl

theorem benchEdge_clocks (s0 s : State) (b clk : Nat) (l : List (Nat × Nat)) : (s0.benchEdge s b clk l).clocks = s.clocks :=
  (ok_benchEdge (T0 := 0x400000000000000000000000000800) b clk l (ok_refl _ s) rfl).part .clocks rfl

/-- A clock that does not run numbers no edge. -/
theorem countEdge_of_not_runs (h : s0.clkRuns b clk = false) (s : State) : s0.countEdge s b clk = s := if_neg (by simp [h])

/-- A generated edge moves its number on. -/
theorem countEdge_edgeNo (h : s0.clkRuns b clk = true) (s : State) :
    mapGet (fun _ => 0) (s0.countEdge s b clk).clocks.edgeNo (4 * b + clk)
      = (mapGet (fun _ => 0) s.clocks.edgeNo (4 * b + clk) + 1) % 16 := by
  rw [State.countEdge, if_pos h]
  exact mapGet_mapSet_same _ _ _ _

/-- A generated edge of clock 0 counts off the fold pause. -/
theorem countEdge_foldEdges (h : s0.clkRuns b clk = true) (s : State) :
    mapGet (fun _ => 0) (s0.countEdge s b clk).planes.foldEdges b
      = mapGet (fun _ => 0) s.planes.foldEdges b - (if clk = 0 then 1 else 0) := by
  rw [State.countEdge, if_pos h]
  exact mapGet_mapSet_same _ _ _ _

/-- Numbering an edge leaves the frames. -/
theorem countEdge_planeFrame (s0 s : State) (b clk c p f : Nat) :
    (s0.countEdge s b clk).planeFrame c p f = s.planeFrame c p f := by
  unfold State.countEdge
  split <;> rfl

/-- The logic of the benches after `edges`. -/
def State.logicEdges (s : State) (edges : List (Nat × Nat)) (late : List (Nat × Nat × Nat)) : State :=
  edges.foldl (fun acc e => s.benchEdge acc e.1 e.2 ((late.filter fun x => x.1 == e.1).map fun x => x.2)) s

/-- `t`, with the edges among `edges` that act counted as cycles of the read sides they clock. -/
def State.readEdges (s t : State) (edges : List (Nat × Nat)) : State :=
  edges.foldl (fun acc e => if s.edgeActs e.1 e.2 then acc.tailEdge e.1 e.2 else acc) t

/-- `t` with the edges that `edges` generates numbered. -/
def State.countEdges (s t : State) (edges : List (Nat × Nat)) : State :=
  edges.foldl (fun acc e => s.countEdge acc e.1 e.2) t

/-- What `edges` change of the device before the next free values are taken. -/
def State.playEdges (s : State) (edges : List (Nat × Nat)) (late : List (Nat × Nat × Nat)) : State :=
  s.countEdges (s.readEdges (s.logicEdges edges late) edges) edges

theorem exec_fabricClockEdge (s : State) (edges : List (Nat × Nat)) (late : List (Nat × Nat × Nat)) :
    exec (.fabricClockEdge edges late) s
      = .next { s.playEdges edges late with freeCtr := (s.playEdges edges late).freeCtr + 1 } := rfl

/-- The footprint of the edges: PLANES, CLOCKS and HOPPERS of the state's parts, and BENCH_USER_STAT. -/
def edgePrint : Nat := 0x400000000000000000000014000800

theorem ok_playEdges (s : State) (edges : List (Nat × Nat)) (late : List (Nat × Nat × Nat)) :
    Ok edgePrint s (s.playEdges edges late) := by
  have hlogic : Ok edgePrint s (s.logicEdges edges late) :=
    ok_foldl (fun _ e h => ok_benchEdge e.1 e.2 _ h rfl) (ok_refl _ s)
  have hread : Ok edgePrint s (s.readEdges (s.logicEdges edges late) edges) :=
    ok_foldl (fun _ e h => ok_ite (ok_tailEdge e.1 e.2 h rfl) h) hlogic
  exact ok_foldl (fun _ e h => ok_countEdge e.1 e.2 h rfl) hread

/-- The frames of a bench none of whose edges acts. -/
theorem playEdges_planeFrame (hp : p < 8) (hf : f < slotFrames)
    (hidle : ∀ e ∈ edges, e.1 = b → s.edgeActs b e.2 = false) :
    (s.playEdges edges late).planeFrame b p f = s.planeFrame b p f := by
  have hlogic : (s.logicEdges edges late).planeFrame b p f = s.planeFrame b p f := by
    refine List.foldlRecOn (motive := fun t : State => t.planeFrame b p f = s.planeFrame b p f) edges _ rfl fun t ht e he => ?_
    by_cases hb : e.1 = b
    · rw [benchEdge_of_not_acts (hb ▸ hidle e he hb)]
      exact ht
    · exact ((EdgeKeeps.benchEdge s t e.1 e.2 _).frame b p f (Ne.symm hb) hp hf).trans ht
  have hread : (s.readEdges (s.logicEdges edges late) edges).planeFrame b p f = s.planeFrame b p f := by
    refine List.foldlRecOn (motive := fun t : State => t.planeFrame b p f = s.planeFrame b p f) edges _ hlogic fun t ht e _ => ?_
    split
    · rw [State.planeFrame, tailEdge_planes]
      exact ht
    · exact ht
  exact List.foldlRecOn (motive := fun t : State => t.planeFrame b p f = s.planeFrame b p f) edges _ hread
    fun t ht e _ => (countEdge_planeFrame s t e.1 e.2 b p f).trans ht

/-- A single edge is numbered in a state whose edge numbers and fold pauses stand as before it. -/
theorem playEdges_singleton (s : State) (b clk : Nat) (late : List (Nat × Nat × Nat)) : ∃ t,
    s.playEdges [(b, clk)] late = s.countEdge t b clk ∧ t.clocks = s.clocks ∧ t.planes.foldEdges = s.planes.foldEdges := by
  refine ⟨s.readEdges (s.logicEdges [(b, clk)] late) [(b, clk)], rfl, ?_⟩
  have hclocks := benchEdge_clocks s s b clk ((late.filter fun x => x.1 == b).map fun x => x.2)
  have hfold := (EdgeKeeps.benchEdge s s b clk ((late.filter fun x => x.1 == b).map fun x => x.2)).fold
  simp only [State.readEdges, State.logicEdges, List.foldl_cons, List.foldl_nil]
  split
  · rw [tailEdge_clocks, tailEdge_planes]
    exact ⟨hclocks, hfold⟩
  · exact ⟨hclocks, hfold⟩

/-- An edge of a clock that does not run is none. -/
theorem playEdges_of_not_runs (h : s.clkRuns b clk = false) (late : List (Nat × Nat × Nat)) :
    s.playEdges [(b, clk)] late = s := by
  have hacts := edgeActs_of_not_runs h
  simp only [State.playEdges, State.countEdges, State.readEdges, State.logicEdges, List.foldl_cons, List.foldl_nil,
    benchEdge_of_not_acts hacts, hacts, Bool.false_eq_true, if_false, countEdge_of_not_runs h]

/-- Settles O14: the footprint of the edges (`ok_playEdges`) leaves memory, network and store; an edge that acts writes frames of
its own bench only (`EdgeKeeps.benchEdge`); and every generated edge is numbered, suppressed or not, one of clock 0 counting off
the fold pause all the same (a choice of the model, log entry 69). -/
theorem fabricEdges : Obligations.FabricEdges := by
  unfold Obligations.FabricEdges
  refine ⟨fun s edges late => ?_, fun s b clk late hruns => ?_, fun s b clk late hstill => ?_⟩
  · have hok := ok_playEdges s edges late
    exact ⟨_, exec_fabricClockEdge s edges late, congrArg (· + 1) (hok.part .freeCtr rfl), hok.part .memt rfl,
      hok.part .haul rfl, hok.part .slots rfl, fun b p f _ hp hf hidle => playEdges_planeFrame hp hf hidle⟩
  · obtain ⟨t, hplay, hclocks, hfold⟩ := playEdges_singleton s b clk late
    refine ⟨_, exec_fabricClockEdge s [(b, clk)] late, ?_⟩
    rw [hplay, ← hclocks, ← hfold]
    exact ⟨countEdge_edgeNo hruns t, countEdge_foldEdges hruns t⟩
  · exact ⟨_, exec_fabricClockEdge s [(b, clk)] late, by rw [playEdges_of_not_runs hstill]⟩

end Sys2Proof.Machine
end

section
/-! The delay monitors: a measurement and a change of converter (R72, R73). O16. -/

namespace Sys2Proof.Machine

variable {s t u : State} {b c sx sy : Nat}

theorem monitor_setMonitor_same (s : State) (b sx : Nat) (x : Monitor) : (s.setMonitor b sx x).monitor b sx = x :=
  mapGet_mapSet_same _ _ _ _

/-- No two monitors of the device share a key. -/
theorem monKey_ne (hx : sx < 33) (hy : sy < 33) (h : c ≠ b ∨ sy ≠ sx) : monKey c sy ≠ monKey b sx := by
  simp only [monKey]
  omega

theorem monitor_setMonitor_ne (s : State) (x : Monitor) (hx : sx < 33) (hy : sy < 33) (h : c ≠ b ∨ sy ≠ sx) :
    (s.setMonitor b sx x).monitor c sy = s.monitor c sy := mapGet_mapSet_ne _ _ _ (monKey_ne hx hy h)

/-- What a measurement of bench b leaves: every other bench's monitors and every converter. -/
structure MeasureKeeps (b : Nat) (s t : State) : Prop where
  monitor : ∀ c sx, c ≠ b → sx < 33 → t.monitor c sx = s.monitor c sx
  convs : t.repair.convs = s.repair.convs
  convOut : t.repair.convOut = s.repair.convOut

namespace MeasureKeeps

theorem refl (b : Nat) (s : State) : MeasureKeeps b s s := ⟨fun _ _ _ _ => rfl, rfl, rfl⟩

theorem trans (h : MeasureKeeps b s t) (h2 : MeasureKeeps b t u) : MeasureKeeps b s u :=
  ⟨fun c sx hc hx => (h2.monitor c sx hc hx).trans (h.monitor c sx hc hx), h2.convs.trans h.convs,
    h2.convOut.trans h.convOut⟩

theorem setMonitor (s : State) (x : Monitor) (hx : sx < 33) : MeasureKeeps b s (s.setMonitor b sx x) :=
  ⟨fun _ _ hc hy => monitor_setMonitor_ne s x hx hy (.inl hc), rfl, rfl⟩

/-- A monitor that holds its value (R73) and one that measures are both stored under their own key. -/
theorem measureMonitor (s : State) (d : Nat) (hx : sx < 33) : MeasureKeeps b s (s.measureMonitor b sx d) := by
  unfold State.measureMonitor
  dsimp only
  split
  · exact setMonitor s _ hx
  · exact setMonitor s _ hx

/-- The alarm is outside the monitors and converters. -/
theorem alarmCheck (s : State) (b : Nat) : MeasureKeeps b s (s.alarmCheck b) := by
  have hrepair : (s.alarmCheck b).repair = s.repair :=
    (ok_alarmCheck (T0 := 0x4000000000000000018) b (ok_refl _ s) rfl).part .repair rfl
  exact ⟨fun c sx _ _ => by rw [State.monitor, hrepair, State.monitor], by rw [hrepair], by rw [hrepair]⟩

end MeasureKeeps

/-- A bench that is down measures nothing. -/
theorem exec_dlymonMeasure_of_down (h : s.benchUp b = false) (ps : List Nat) :
    exec (.dlymonMeasure b ps) s = .next s := congrArg Host.Outcome.next (if_neg (by simp [h]))

/-- A measurement completes in every state. -/
theorem exec_dlymonMeasure (s : State) (b : Nat) (ps : List Nat) :
    ∃ t, exec (.dlymonMeasure b ps) s = .next t ∧ MeasureKeeps b s t := by
  refine ⟨_, rfl, ?_⟩
  split
  · refine .trans ?_ (.alarmCheck _ b)
    refine List.foldlRecOn (motive := MeasureKeeps b s) (upTo 33) _ (.refl b s) fun t ht sx hx => ?_
    split
    · exact ht.trans (.measureMonitor t _ (List.mem_range.1 hx))
    · exact ht
  · exact .refl b s

/-- A bench that is down changes no converter. -/
theorem exec_dlymonConverterRotate_of_down (h : s.benchUp b = false) (sx : Nat) :
    exec (.dlymonConverterRotate b sx) s = .next s := congrArg Host.Outcome.next (if_neg (by simp [h]))

/-- A change of converter stores the monitor that was, as one that holds a stale value, and its new converter (R73). -/
theorem exec_dlymonConverterRotate_of_up (hb : b < 64) (hx : sx < 33) (hup : s.benchUp b = true) :
    ∃ t : State, exec (.dlymonConverterRotate b sx) s = .next (t.setMonitor b sx { s.monitor b sx with stale := true, hold := true })
      ∧ (∀ y, t.monitor b y = s.monitor b y) ∧ t.repair.convs = mapSet (fun k => k % 64) s.repair.convs (monKey b sx)
        (mapGet (fun _ => 33) s.repair.convOut b) :=
  ⟨_, congrArg Host.Outcome.next (if_pos ⟨hb, hx, hup⟩), fun _ => rfl, rfl⟩

/-- Settles O16: a measurement stores each monitor under its own key (`MeasureKeeps`), and a change of converter writes STALE and
the hold beside the values of its own monitor. -/
theorem delayMonitorReadings : Obligations.DelayMonitorReadings := by
  unfold Obligations.DelayMonitorReadings
  refine ⟨fun s b ps => ?_, fun s b sx hb hx hup => ?_, fun s b sx hdown =>
    ⟨s, exec_dlymonConverterRotate_of_down hdown sx, rfl⟩⟩
  · obtain ⟨t, hexec, hkeep⟩ := exec_dlymonMeasure s b ps
    refine ⟨t, hexec, fun hdown => ?_, fun c sx _ hc hx => hkeep.monitor c sx hc hx, hkeep.convs, hkeep.convOut⟩
    exact Host.Outcome.next.inj (hexec.symm.trans (exec_dlymonMeasure_of_down hdown ps))
  · obtain ⟨t, hexec, hmonitor, hconvs⟩ := exec_dlymonConverterRotate_of_up hb hx hup
    refine ⟨_, hexec, ?_⟩
    rw [monitor_setMonitor_same]
    refine ⟨rfl, rfl, rfl, fun y hy hne => ⟨?_, ?_⟩⟩
    · rw [monitor_setMonitor_ne t _ hx hy (.inr hne), hmonitor]
    · rw [show (t.setMonitor b sx _).repair.convs = t.repair.convs from rfl, hconvs]
      exact mapGet_mapSet_ne _ _ _ (monKey_ne hx hy (.inr hne))

end Sys2Proof.Machine
end

section
/-!
The single-error-correcting, double-error-detecting codes (R95, R96, R99, R306, R641). O47. A word's syndrome and its parity are
linear over XOR, so that one inverted bit adds that bit's column of the check matrix and two add the XOR of two columns; the columns
are pairwise different.
-/

namespace Sys2Proof.Machine

variable {w n m d cw k j c : Nat}

/-! ### Bits, their number and their parity -/

theorem bitOf_eq_toNat_testBit (v i : Nat) : bitOf v i = (v.testBit i).toNat := (Nat.toNat_testBit v i).symm

theorem bitOf_xor (a b i : Nat) : bitOf (a ^^^ b) i = (bitOf a i + bitOf b i) % 2 := by
  simp only [bitOf_eq_toNat_testBit, Nat.testBit_xor]
  cases a.testBit i <;> cases b.testBit i <;> rfl

theorem bitOf_two_pow (k i : Nat) : bitOf (2 ^ k) i = if k = i then 1 else 0 := by
  rw [bitOf_eq_toNat_testBit, Nat.testBit_two_pow]
  split <;> simp [*]

theorem bitOf_mod_two_pow {i : Nat} (v : Nat) (h : i < n) : bitOf (v % 2 ^ n) i = bitOf v i := by
  simp [bitOf_eq_toNat_testBit, Nat.testBit_mod_two_pow, h]

theorem popCount_congr {a b : Nat} (h : ∀ i < w, bitOf a i = bitOf b i) : popCount a w = popCount b w := by
  induction w with
  | zero => rfl
  | succ w ih => rw [popCount, popCount, ih fun i hi => h i (by omega), h w (by omega)]

theorem popCount_mod_two_pow (v n : Nat) : popCount (v % 2 ^ n) n = popCount v n :=
  popCount_congr fun _ => bitOf_mod_two_pow v

/-- The bits of a number are its `n` lowest ones and those above. -/
theorem popCount_add (v n m : Nat) : popCount v (n + m) = popCount v n + popCount (v / 2 ^ n) m := by
  induction m with
  | zero => rfl
  | succ m ih =>
    have hbit : bitOf v (n + m) = bitOf (v / 2 ^ n) m := by rw [bitOf, bitOf, Nat.div_div_eq_div_mul, pow_add]
    rw [← Nat.add_assoc, popCount, ih, popCount, hbit, Nat.add_assoc]

theorem popCount_two_pow (k w : Nat) : popCount (2 ^ k) w = if k < w then 1 else 0 := by
  induction w with
  | zero => rfl
  | succ w ih =>
    rw [popCount, ih, bitOf_two_pow]
    split_ifs <;> omega

theorem parity_eq_popCount (v w : Nat) : parity v w = popCount v w % 2 := by
  induction w with
  | zero => rfl
  | succ w ih => rw [parity, popCount, ih, Nat.mod_add_mod]

theorem parity_xor (a b w : Nat) : parity (a ^^^ b) w = (parity a w + parity b w) % 2 := by
  induction w with
  | zero => rfl
  | succ w ih =>
    simp only [parity, ih, bitOf_xor]
    omega

theorem parity_two_pow (h : k < w) : parity (2 ^ k) w = 1 := by
  rw [parity_eq_popCount, popCount_two_pow, if_pos h]

/-! ### The codes of the data bits -/

/-- A code of w bits has at least two of them set (R95). -/
theorem mem_secCodes (h : c ∈ secCodes w n) : c < 2 ^ w ∧ 2 ≤ popCount c w := by
  obtain ⟨hrange, hbits⟩ := List.mem_filter.1 (List.mem_of_mem_take h)
  exact ⟨List.mem_range.1 hrange, of_decide_eq_true hbits⟩

theorem nodup_secCodes (w n : Nat) : (secCodes w n).Nodup :=
  (List.nodup_range.sublist List.filter_sublist).sublist (List.take_sublist n _)

/-- No code of a data bit is the column of a check bit, or 0. -/
theorem two_pow_mod_notMem_secCodes (w n m : Nat) : 2 ^ m % 2 ^ w ∉ secCodes w n := by
  intro h
  have hbits := (mem_secCodes h).2
  rw [popCount_mod_two_pow, popCount_two_pow] at hbits
  split at hbits <;> omega

theorem zero_notMem_secCodes (w n : Nat) : 0 ∉ secCodes w n := by
  simpa using two_pow_mod_notMem_secCodes w n w

theorem posOf_eq_none {x : Nat} {l : List Nat} (h : x ∉ l) (i : Nat) : posOf x l i = none := by
  induction l generalizing i with
  | nil => rfl
  | cons y ys ih =>
    rw [List.mem_cons, not_or] at h
    rw [posOf, if_neg h.1, ih h.2]

/-- In a list without repetition an element is found where it stands. -/
theorem posOf_getElem {l : List Nat} (hl : l.Nodup) (hk : k < l.length) (i : Nat) : posOf l[k] l i = some (i + k) := by
  induction l generalizing i k with
  | nil => exact absurd hk (by simp)
  | cons y ys ih =>
    obtain ⟨hy, hys⟩ := List.nodup_cons.1 hl
    cases k with
    | zero => simp [posOf]
    | succ k =>
      have hk : k < ys.length := by simpa using hk
      have hne : ys[k] ≠ y := fun e => hy (e ▸ List.getElem_mem hk)
      rw [List.getElem_cons_succ, posOf, if_neg hne, ih hys hk, Nat.add_right_comm, Nat.add_assoc]

theorem find_two_pow (h : m < w) : ((upTo w).find? fun j => 2 ^ m == 2 ^ j) = some m := by
  refine List.find?_range_eq_some.2 ⟨beq_self_eq_true _, List.mem_range.2 h, fun j hj => ?_⟩
  simpa using hj.ne'

/-! ### The low check bits -/

theorem secLow_cons (c : Nat) (cs : List Nat) (d : Nat) :
    secLow (c :: cs) d = (if d % 2 = 1 then c else 0) ^^^ secLow cs (d / 2) := rfl

theorem secLow_zero (cs : List Nat) : secLow cs 0 = 0 := by
  induction cs with
  | nil => rfl
  | cons c cs ih => exact (Nat.zero_xor _).trans ih

theorem secLow_xor (cs : List Nat) (a b : Nat) : secLow cs (a ^^^ b) = secLow cs a ^^^ secLow cs b := by
  induction cs generalizing a b with
  | nil => exact (Nat.xor_self 0).symm
  | cons c cs ih =>
    have hterm : (if (a ^^^ b) % 2 = 1 then c else 0) = (if a % 2 = 1 then c else 0) ^^^ (if b % 2 = 1 then c else 0) := by
      rw [Nat.xor_mod_two_eq]
      rcases Nat.mod_two_eq_zero_or_one a with ha | ha <;> rcases Nat.mod_two_eq_zero_or_one b with hb | hb <;>
        simp [Nat.add_mod, ha, hb]
    calc secLow (c :: cs) (a ^^^ b)
        = (if (a ^^^ b) % 2 = 1 then c else 0) ^^^ secLow cs ((a ^^^ b) / 2) := secLow_cons c cs _
      _ = ((if a % 2 = 1 then c else 0) ^^^ (if b % 2 = 1 then c else 0)) ^^^ (secLow cs (a / 2) ^^^ secLow cs (b / 2)) := by
          rw [hterm, Nat.xor_div_two, ih]
      _ = secLow (c :: cs) a ^^^ secLow (c :: cs) b := by
          rw [secLow_cons, secLow_cons]
          ac_rfl

/-- A data bit alone adds its code. -/
theorem secLow_two_pow {cs : List Nat} (h : k < cs.length) : secLow cs (2 ^ k) = cs[k] := by
  induction cs generalizing k with
  | nil => exact absurd h (by simp)
  | cons c cs ih =>
    cases k with
    | zero => exact (congrArg (c ^^^ ·) (secLow_zero cs)).trans (Nat.xor_zero c)
    | succ k =>
      have hk : k < cs.length := by simpa using h
      rw [secLow, if_neg (by omega), pow_succ, Nat.mul_div_cancel _ two_pos, ih hk]
      exact Nat.zero_xor _

theorem secLow_lt {cs : List Nat} (h : ∀ c ∈ cs, c < 2 ^ w) (d : Nat) : secLow cs d < 2 ^ w := by
  induction cs generalizing d with
  | nil => exact Nat.two_pow_pos w
  | cons c cs ih =>
    refine Nat.xor_lt_two_pow ?_ (ih (fun c hc => h c (List.mem_cons_of_mem _ hc)) _)
    split
    · exact h c List.mem_cons_self
    · exact Nat.two_pow_pos w

/-! ### Syndromes and columns -/

/-- The syndrome of a word: its low check bits against those of its data (R96). -/
def secSyndrome (w n cw : Nat) : Nat := (cw / 2 ^ n % 2 ^ w) ^^^ secLow (secCodes w n) (cw % 2 ^ n)

/-- The column of a bit of the word: a data bit's code, a check bit's own bit, nothing for the parity bit. -/
def secColumn (w n k : Nat) : Nat := if k < n then (secCodes w n).getD k 0 else 2 ^ (k - n) % 2 ^ w

theorem secSyndrome_xor (w n a b : Nat) : secSyndrome w n (a ^^^ b) = secSyndrome w n a ^^^ secSyndrome w n b := by
  simp only [secSyndrome, Nat.xor_div_two_pow, Nat.xor_mod_two_pow, secLow_xor]
  ac_rfl

theorem secSyndrome_two_pow (hn : (secCodes w n).length = n) (k : Nat) : secSyndrome w n (2 ^ k) = secColumn w n k := by
  unfold secSyndrome secColumn
  split
  case isTrue h =>
    have hlt : 2 ^ k < 2 ^ n := Nat.pow_lt_pow_right one_lt_two h
    have hl : k < (secCodes w n).length := by rwa [hn]
    rw [Nat.div_eq_of_lt hlt, Nat.mod_eq_of_lt hlt, secLow_two_pow hl, List.getD_eq_getElem _ _ hl, Nat.zero_mod, Nat.zero_xor]
  case isFalse h =>
    have hmod : 2 ^ k % 2 ^ n = 0 := Nat.mod_eq_zero_of_dvd (pow_dvd_pow 2 (by omega))
    rw [Nat.pow_div (by omega) two_pos, hmod, secLow_zero, Nat.xor_zero]

/-- No two bits of the word share a column. -/
theorem secColumn_ne (hn : (secCodes w n).length = n) (hk : k < n + w + 1) (hj : j < k) :
    secColumn w n k ≠ secColumn w n j := by
  unfold secColumn
  by_cases hjn : j < n
  · have hjl : j < (secCodes w n).length := by rwa [hn]
    rw [if_pos hjn, List.getD_eq_getElem _ _ hjl]
    split
    case isTrue hkn =>
      have hkl : k < (secCodes w n).length := by rwa [hn]
      rw [List.getD_eq_getElem _ _ hkl, Ne, (nodup_secCodes w n).getElem_inj_iff]
      omega
    case isFalse => exact fun e => two_pow_mod_notMem_secCodes w n _ (e ▸ List.getElem_mem hjl)
  · rw [if_neg hjn, if_neg (by omega), Nat.mod_eq_of_lt (Nat.pow_lt_pow_right one_lt_two (by omega : j - n < w))]
    rcases Nat.lt_or_ge (k - n) w with h | h
    · rw [Nat.mod_eq_of_lt (Nat.pow_lt_pow_right one_lt_two h)]
      exact (Nat.pow_lt_pow_right one_lt_two (by omega)).ne'
    · rw [Nat.mod_eq_zero_of_dvd (pow_dvd_pow 2 h)]
      exact (Nat.two_pow_pos _).ne

/-! ### What is encoded is a codeword -/

theorem secEncode_mod (w n d : Nat) : secEncode w n d % 2 ^ n = d % 2 ^ n := by
  rw [secEncode, Nat.add_mul_mod_self_right, Nat.mod_mod]

theorem secEncode_div (w n d : Nat) : secEncode w n d / 2 ^ n = secCheck w n d := by
  rw [secEncode, Nat.add_mul_div_right _ _ (Nat.two_pow_pos n), Nat.div_eq_of_lt (Nat.mod_lt _ (Nat.two_pow_pos n)), Nat.zero_add]

theorem secLow_secCodes_lt (w n d : Nat) : secLow (secCodes w n) d < 2 ^ w := secLow_lt (fun _ h => (mem_secCodes h).1) d

theorem secCheck_mod (w n d : Nat) : secCheck w n d % 2 ^ w = secLow (secCodes w n) (d % 2 ^ n) := by
  rw [secCheck, Nat.add_mul_mod_self_right, Nat.mod_eq_of_lt (secLow_secCodes_lt w n _)]

theorem secCheck_div (w n d : Nat) : secCheck w n d / 2 ^ w
    = (parity (d % 2 ^ n) n + parity (secLow (secCodes w n) (d % 2 ^ n)) w) % 2 := by
  rw [secCheck, Nat.add_mul_div_right _ _ (Nat.two_pow_pos w), Nat.div_eq_of_lt (secLow_secCodes_lt w n _), Nat.zero_add]

theorem secEncode_lt (w n d : Nat) : secEncode w n d < 2 ^ (n + w + 1) := by
  have hcheck : secCheck w n d < 2 ^ (w + 1) := by
    have hdiv := secCheck_div w n d
    rw [pow_succ, mul_comm, ← Nat.div_lt_iff_lt_mul (Nat.two_pow_pos w)]
    omega
  have hdiv := secEncode_div w n d
  rw [add_assoc, pow_add, mul_comm, ← Nat.div_lt_iff_lt_mul (Nat.two_pow_pos n)]
  omega

theorem secSyndrome_secEncode (w n d : Nat) : secSyndrome w n (secEncode w n d) = 0 := by
  rw [secSyndrome, secEncode_div, secEncode_mod, secCheck_mod, Nat.xor_self]

/-- The parity bit makes the parity of the whole word even. -/
theorem parity_secEncode (w n d : Nat) : parity (secEncode w n d) (n + w + 1) = 0 := by
  have hdata : popCount (secEncode w n d) n = popCount (d % 2 ^ n) n := by rw [← popCount_mod_two_pow, secEncode_mod]
  have hlow : popCount (secCheck w n d) w = popCount (secLow (secCodes w n) (d % 2 ^ n)) w := by
    rw [← popCount_mod_two_pow, secCheck_mod]
  have hpar : bitOf (secCheck w n d) w = (parity (d % 2 ^ n) n + parity (secLow (secCodes w n) (d % 2 ^ n)) w) % 2 := by
    rw [bitOf, secCheck_div, Nat.mod_mod]
  rw [parity_eq_popCount, add_assoc, popCount_add, secEncode_div, popCount, hdata, hlow, hpar, parity_eq_popCount,
    parity_eq_popCount]
  omega

/-! ### What a check finds -/

theorem secDecode_of_clean (hs : secSyndrome w n cw = 0) (hp : parity cw (n + w + 1) = 0) :
    secDecode w n cw = ⟨.clean, cw % 2 ^ n, 0, 0, 0⟩ := by
  change Nat.xor _ _ = 0 at hs
  simp only [secDecode, hp, hs, if_true]

/-- A wrong syndrome under an even parity is uncorrectable. -/
theorem secDecode_of_even {x : Nat} (hs : secSyndrome w n cw = x) (hx : x ≠ 0) (hp : parity cw (n + w + 1) = 0) :
    secDecode w n cw = ⟨.bad, cw % 2 ^ n, x, 0, 0⟩ := by
  change Nat.xor _ _ = x at hs
  simp only [secDecode, hp, hs, if_true, if_neg hx]

/-- Under an odd parity the syndrome names the bit whose column it is, and the data are those of the word with that bit
inverted. -/
theorem secDecode_of_odd (hn : (secCodes w n).length = n) (hk : k < n + w + 1) (hs : secSyndrome w n cw = secColumn w n k)
    (hp : parity cw (n + w + 1) = 1) :
    secDecode w n cw = ⟨.corrected, (cw ^^^ 2 ^ k) % 2 ^ n, secColumn w n k, 1, k⟩ := by
  change Nat.xor _ _ = secColumn w n k at hs
  simp only [secDecode, hp, hs, one_ne_zero, if_false, Nat.xor_mod_two_pow]
  by_cases hkn : k < n
  · have hl : k < (secCodes w n).length := by rwa [hn]
    have hcol : secColumn w n k = (secCodes w n)[k] := by rw [secColumn, if_pos hkn, List.getD_eq_getElem _ _ hl]
    have hne : (secCodes w n)[k] ≠ 0 := fun e => zero_notMem_secCodes w n (e ▸ List.getElem_mem hl)
    rw [hcol, if_neg hne, posOf_getElem (nodup_secCodes w n) hl, Nat.mod_eq_of_lt (Nat.pow_lt_pow_right one_lt_two hkn),
      Nat.zero_add]
    rfl
  · obtain ⟨m, rfl⟩ := Nat.exists_eq_add_of_le (not_lt.1 hkn)
    have hdata : cw % 2 ^ n ^^^ 2 ^ (n + m) % 2 ^ n = cw % 2 ^ n := by
      rw [pow_add, Nat.mul_mod_right, Nat.xor_zero]
    have hcol : secColumn w n (n + m) = 2 ^ m % 2 ^ w := by rw [secColumn, if_neg hkn, Nat.add_sub_cancel_left]
    rw [hdata, hcol, posOf_eq_none (two_pow_mod_notMem_secCodes w n m)]
    rcases Nat.lt_or_ge m w with h | h
    · rw [Nat.mod_eq_of_lt (Nat.pow_lt_pow_right one_lt_two h), if_neg (Nat.two_pow_pos _).ne', find_two_pow h]
    · rw [Nat.mod_eq_zero_of_dvd (pow_dvd_pow 2 h), if_pos rfl, show m = w by omega]

/-! ### An encoded word with no bit, one bit and two bits inverted -/

theorem secDecode_secEncode (w n d : Nat) : secDecode w n (secEncode w n d) = ⟨.clean, d % 2 ^ n, 0, 0, 0⟩ := by
  rw [secDecode_of_clean (secSyndrome_secEncode w n d) (parity_secEncode w n d), secEncode_mod]

theorem secDecode_one_inverted (hn : (secCodes w n).length = n) (d : Nat) (hk : k < n + w + 1) :
    secDecode w n (secEncode w n d ^^^ 2 ^ k) = ⟨.corrected, d % 2 ^ n, secColumn w n k, 1, k⟩ := by
  have hs : secSyndrome w n (secEncode w n d ^^^ 2 ^ k) = secColumn w n k := by
    rw [secSyndrome_xor, secSyndrome_secEncode, secSyndrome_two_pow hn, Nat.zero_xor]
  have hp : parity (secEncode w n d ^^^ 2 ^ k) (n + w + 1) = 1 := by
    rw [parity_xor, parity_secEncode, parity_two_pow hk]
  rw [secDecode_of_odd hn hk hs hp, Nat.xor_assoc, Nat.xor_self, Nat.xor_zero, secEncode_mod]

theorem secDecode_two_inverted (hn : (secCodes w n).length = n) (d : Nat) (hk : k < n + w + 1) (hj : j < k) :
    secDecode w n (secEncode w n d ^^^ 2 ^ k ^^^ 2 ^ j)
      = ⟨.bad, (secEncode w n d ^^^ 2 ^ k ^^^ 2 ^ j) % 2 ^ n, secColumn w n k ^^^ secColumn w n j, 0, 0⟩ := by
  have hs : secSyndrome w n (secEncode w n d ^^^ 2 ^ k ^^^ 2 ^ j) = secColumn w n k ^^^ secColumn w n j := by
    rw [secSyndrome_xor, secSyndrome_xor, secSyndrome_secEncode, secSyndrome_two_pow hn, secSyndrome_two_pow hn, Nat.zero_xor]
  have hp : parity (secEncode w n d ^^^ 2 ^ k ^^^ 2 ^ j) (n + w + 1) = 0 := by
    rw [parity_xor, parity_xor, parity_secEncode, parity_two_pow hk, parity_two_pow (hj.trans hk)]
  exact secDecode_of_even hs (fun h => secColumn_ne hn hk hj (Nat.xor_eq_zero_iff.1 h)) hp

/-! ### The codes of the device -/

/-- Each of the three codes has a column for every one of its data bits. -/
theorem secCodes_length : ∀ p ∈ [(7, 64), (8, 128), (5, 22)], (secCodes p.1 p.2).length = p.2 := by decide +kernel

/-- A poison codeword has check bits 0 and 1 inverted (R99). -/
theorem poisonEncode_eq (d : Nat) : poisonEncode d = secEncode 7 64 d ^^^ 2 ^ 65 ^^^ 2 ^ 64 :=
  (Nat.xor_assoc (secEncode 7 64 d) (2 ^ 65) (2 ^ 64)).symm

theorem eccDecode_poisonEncode (d : Nat) : eccDecode (poisonEncode d) = ⟨.bad, d % 2 ^ 64, 0x03, 0, 0⟩ := by
  have hdata : (secEncode 7 64 d ^^^ 2 ^ 65 ^^^ 2 ^ 64) % 2 ^ 64 = d % 2 ^ 64 := by
    rw [Nat.xor_assoc, Nat.xor_mod_two_pow, secEncode_mod, show (2 ^ 65 ^^^ 2 ^ 64) % 2 ^ 64 = 0 from rfl, Nat.xor_zero]
  rw [poisonEncode_eq, eccDecode, secDecode_two_inverted (secCodes_length (7, 64) (by simp)) d (by omega) (by omega), hdata]
  rfl

/-- Settles O47: an encoded word has syndrome 0 and even parity; one inverted bit makes the parity odd and the syndrome that bit's
column, two leave the parity even and the syndrome the XOR of two different columns. -/
theorem checkCodesCorrectAndDetect : Obligations.CheckCodesCorrectAndDetect := by
  unfold Obligations.CheckCodesCorrectAndDetect
  refine ⟨fun p hp d hd => ?_, ⟨by decide +kernel, by decide +kernel, by decide +kernel⟩, fun d hd => ?_⟩
  · have hn := secCodes_length p hp
    have hclean := secDecode_secEncode p.1 p.2 d
    have hone := fun k => secDecode_one_inverted (k := k) hn d
    rw [Nat.mod_eq_of_lt hd] at hclean hone
    refine ⟨secEncode_lt p.1 p.2 d, by rw [hclean], by rw [hclean], fun k hk => ?_, fun k hk j hj => ?_⟩
    · exact ⟨congrArg _ (hone k hk), congrArg _ (hone k hk), congrArg _ (hone k hk)⟩
    · exact congrArg _ (secDecode_two_inverted hn d hk hj)
  · rw [eccDecode_poisonEncode, Nat.mod_eq_of_lt hd]

end Sys2Proof.Machine
end

section
/-! Counters stop at the highest value of their field, and a write of 0 clears them (R118, R119, R186, R219, R655). O57. -/

namespace Sys2Proof.Machine

variable {s : State} {src : Src} {r : Reg} {i : Nat}

/-- A counter's field takes what it counts up to its highest value. -/
theorem get_incBy_same (s : State) (f : Fld) (i n : Nat) (h : f.lo + f.w ≤ 32) :
    (s.incBy f i n).get f i = min (2 ^ f.w - 1) (s.get f i + n) := by
  have hpos := Nat.two_pow_pos f.w
  exact (get_set_same s f i _ h).trans (Nat.mod_eq_of_lt (by omega))

/-- A register of RW bits only takes the word written. -/
theorem maskedWrite_full (hrw : rwMask r = BitVec.allOnes 32) (hw1c : w1cMask r = 0#32) (old v : Word) :
    maskedWrite r old v = v := by
  rw [maskedWrite, hrw, hw1c, BitVec.not_allOnes, BitVec.and_zero, BitVec.zero_or, BitVec.and_allOnes, BitVec.and_zero,
    BitVec.not_zero, BitVec.and_allOnes]

theorem registerWrite_full (hplain : PlainWritten r) (hrw : rwMask r = BitVec.allOnes 32) (hw1c : w1cMask r = 0#32)
    (hm : s.mayWrite src r i = true) (hw : s.windowInst src r i = true) (v : Word) :
    exec (.registerWrite src r i v) s = .next (s.setReg r i v) := by
  rw [registerWrite_reaches hm hw, hplain, maskedWrite_full hrw hw1c]

/-- Settles O57: a saturated count fits its field; the six counters are plain RW registers over their whole word. -/
theorem countersSaturateAndClear : Obligations.CountersSaturateAndClear := by
  unfold Obligations.CountersSaturateAndClear
  refine ⟨fun s f i hf => ⟨get_incBy_same s f i 1 hf, fun _ _ h => reg_set_ne s f _ h⟩, fun s src r i hm hw hr => ?_⟩
  obtain ⟨hplain, hrw, hw1c⟩ : PlainWritten r ∧ rwMask r = BitVec.allOnes 32 ∧ w1cMask r = 0#32 := by
    fin_cases hr <;> exact ⟨fun _ _ _ _ => rfl, rfl, rfl⟩
  exact ⟨_, registerWrite_full hplain hrw hw1c hm hw 0, reg_setReg_same s r i 0, fun _ _ h => reg_setReg_ne s 0 h⟩

end Sys2Proof.Machine
end

section
/-! SUPPORT. The slot patrol at a slot that a load channel holds (R215, R243). -/

namespace Sys2Proof.Machine

/-- The patrol passes a held slot over, whatever its state: to every operation but the load it is WRITING. -/
theorem exec_slotPatrolStep_of_held {s : State} {c ptr : Nat} (ups : List Nat) (hc : c < 4) (hp : s.powered (dCfg c) = true)
    (hen : s.flag F.CTX_PATROL_EN c = true) (hptr : mapGet (fun _ => 0) s.slots.patrol c = ptr)
    (hheld : s.slotHeld (1024 * c + ptr / slotFrames) = true) :
    exec (.slotPatrolStep c ups) s = .next { s with slots := { s.slots with
      patrol := mapSet (fun _ => 0) s.slots.patrol c ((ptr / slotFrames + 1) * slotFrames % (1024 * slotFrames)) } } := by
  subst hptr
  refine congrArg Host.Outcome.next ((if_pos ⟨hc, hp, hen⟩).trans ?_)
  simp only [hheld, Bool.not_true, Bool.and_false, Bool.false_eq_true, if_false]

/-- Column 3 is powered, its slot 0 is VALID, and target entry 0 of load channel 0 names that slot. -/
def loadTargetValid : State :=
  (((State.reset.set F.PWR_DOM_STATE (dCfg 3) 3).setSlotSt 3072 slValid).set F.MEY_LOAD_TGT_VALID 0 1).set
    F.MEY_LOAD_TGT_GSLOT 0 3072

/-- The channel has taken its declarations, one CLOCK record, and holds its target until HOLD ends (R242, R243). -/
def heldValid : State := loadTargetValid.loadDecls 0 { decl := [0x406, 0, 0, 1, 0, 0].flatMap (leBytes 4) }

theorem heldValid_slot : heldValid.powered (dCfg 3) = true ∧ heldValid.flag F.CTX_PATROL_EN 3 = true
    ∧ mapGet (fun _ => 0) heldValid.slots.patrol 3 = 0 ∧ heldValid.slotSt 3072 = slValid
    ∧ heldValid.slotHeld 3072 = true := by decide +kernel

/-- Refutes O22 in its clause on SLOT_PATROL_STEP: between the check of a load's targets and the end of HOLD a target is VALID
and held (`heldValid`), and the patrol passes it over (`exec_slotPatrolStep_of_held`) where the clause has its next codeword
read. -/
theorem not_contextSlots : ¬ Obligations.ContextSlots := by
  unfold Obligations.ContextSlots
  rintro ⟨-, -, -, -, hpatrol⟩
  obtain ⟨hpow, hen, hptr, hvalid, hheld⟩ := heldValid_slot
  obtain ⟨t, hexec, hread, -⟩ := hpatrol heldValid 3 (by decide) hpow hen
  rw [hptr] at hread
  rw [exec_slotPatrolStep_of_held [] (by decide) hpow hen hptr hheld] at hexec
  have hpassed : mapGet (fun _ => 0) t.slots.patrol 3 = slotFrames := by
    rw [← Host.Outcome.next.inj hexec, mapGet_mapSet_same]
    rfl
  exact absurd (hpassed.symm.trans (hread hvalid)) (by decide)

end Sys2Proof.Machine
end

section
/-! SUPPORT. The load channels (R240 to R245): fields read beside the one written, what a channel's end leaves, and what the
stream, the hold and the commit do. -/

namespace Sys2Proof.Machine

variable {s : State} {n : Nat} {r : LoadRun}

/-! ### Reads after writes -/

/-- A field keeps its value, of whatever instance, when bits beside it are written. -/
theorem get_set_apart (s : State) (f f2 : Fld) (i i2 x : Nat) (hf : f.lo + f.w ≤ 32)
    (h : f2.reg ≠ f.reg ∨ f2.lo + f2.w ≤ f.lo ∨ f.lo + f.w ≤ f2.lo) : (s.set f i x).get f2 i2 = s.get f2 i2 :=
  get_set_ne s f f2 i i2 x hf (h.imp_right .inr)

theorem get_setReg_ne (s : State) {f : Fld} {q : Reg} (i i2 : Nat) (v : Word) (h : f.reg ≠ q) :
    (s.setReg q i v).get f i2 = s.get f i2 := by
  unfold State.get
  rw [reg_setReg_ne _ _ (.inl h)]

theorem load_setLoad_same (s : State) (n : Nat) (x : Option LoadRun) : (s.setLoad n x).load n = x := mapGet_mapSet_same _ _ _ _

theorem reg_setLoad (s : State) (n : Nat) (x : Option LoadRun) (q : Reg) (i : Nat) : (s.setLoad n x).reg q i = s.reg q i := rfl

theorem get_setLoad (s : State) (n : Nat) (x : Option LoadRun) (f : Fld) (i : Nat) : (s.setLoad n x).get f i = s.get f i := by
  unfold State.get
  rw [reg_setLoad]

theorem load_wlog (s : State) (code source severity detail m : Nat) : (s.wlog code source severity detail).load m = s.load m := rfl

/-- A channel event sets its bit; that it may be raised touches no register. -/
theorem get_loadEvt (s : State) (n : Nat) (e f : Fld) (i : Nat) : (s.loadEvt n e).get f i = (s.set e n 1).get f i := by
  unfold State.loadEvt
  dsimp only
  split <;> rfl

theorem load_loadEvt (s : State) (n : Nat) (e : Fld) (m : Nat) : (s.loadEvt n e).load m = s.load m := by
  unfold State.loadEvt
  dsimp only
  split <;> rfl

/-- The footprint of `dropPreload`: the memory tier. -/
theorem dropPreload_ok (s : State) (n : Nat) : Ok 0x4000 s (s.dropPreload n) := ok_dropPreload n (ok_refl _ s) rfl

theorem get_dropPreload (s : State) (n : Nat) (f : Fld) (i : Nat) : (s.dropPreload n).get f i = s.get f i := by
  have hbit : Nat.testBit 0x4000 (64 + f.reg.ctorIdx) = false :=
    Nat.testBit_lt_two_pow (lt_of_lt_of_le (by decide : 0x4000 < 2 ^ 64) (Nat.pow_le_pow_right two_pos (Nat.le_add_right ..)))
  unfold State.get
  rw [(dropPreload_ok s n).reg _ _ hbit]

theorem load_dropPreload (s : State) (n m : Nat) : (s.dropPreload n).load m = s.load m := by
  unfold State.load
  rw [show (s.dropPreload n).loads = s.loads from (dropPreload_ok s n).part .loads rfl]

/-! ### A load that ends in error -/

/-- Channel n is idle, has raised ERR and shows the result (R242, R253, R256). -/
structure LoadFailed (t : State) (n result : Nat) : Prop where
  idle : t.load n = none
  notBusy : t.flag F.MEY_LOAD_STAT_BUSY n = false
  result : t.get F.MEY_LOAD_STAT_RESULT n = result
  err : t.flag F.MEY_LOAD_EVT_ERR n = true

/-- Whatever becomes of the targets, a failed load leaves its channel so. -/
theorem loadFail_failed (s : State) (n : Nat) (r : LoadRun) {x : Nat} (hx : x < 32) : LoadFailed (s.loadFail n r x) n x := by
  unfold State.loadFail
  dsimp only
  generalize (if r.held = true then _ else _ : State) = u
  constructor
  · rw [load_wlog, load_loadEvt, load_dropPreload, load_setLoad_same]
  · rw [State.wlog_flag, State.flag, get_loadEvt]
    simp (disch := decide) only [get_set_apart, get_dropPreload, get_setLoad, get_set_same]
    rfl
  · rw [State.wlog_get, get_loadEvt]
    simp (disch := decide) only [get_set_apart, get_dropPreload, get_setLoad, get_set_same]
    exact Nat.mod_eq_of_lt hx
  · rw [State.wlog_flag, State.flag, get_loadEvt, get_set_same _ _ _ _ (by decide)]
    rfl

/-! ### MEY_LOAD_CTL (R249) -/

theorem loadCtlWrite_of_go {v : Word} (hgo : fldOf F.MEY_LOAD_CTL_GO v = 1) (habort : fldOf F.MEY_LOAD_CTL_ABORT v = 0) :
    s.loadCtlWrite n v = if s.flag F.MEY_LOAD_STAT_BUSY n then (s.plainWrite .MEY_LOAD_CTL n v).set F.MEY_LOAD_STAT_REJECT n 1
      else (s.plainWrite .MEY_LOAD_CTL n v).loadStart n v := by
  simp only [State.loadCtlWrite, hgo, habort, zero_ne_one, if_true, if_false]

theorem loadCtlWrite_of_abort {v : Word} (hgo : fldOf F.MEY_LOAD_CTL_GO v = 0) (habort : fldOf F.MEY_LOAD_CTL_ABORT v = 1)
    (hload : s.load n = some r) : s.loadCtlWrite n v = (s.plainWrite .MEY_LOAD_CTL n v).loadFail n r ldAborted := by
  have hkept : (s.plainWrite .MEY_LOAD_CTL n v).load n = some r := hload
  simp only [State.loadCtlWrite, hgo, habort, hkept, zero_ne_one, if_true, if_false]

/-- Whether GO with this word is refused for its source (log entry 37: as GO is written). -/
def State.goDenied (s : State) (n : Nat) (v : Word) : Bool :=
  srcDenied (fldOf F.MEY_LOAD_CTL_SRC_KIND v) (s.get F.MEY_LOAD_SRC_LO_SRC_LO n + s.get F.MEY_LOAD_SRC_HI_SRC_HI n * 2 ^ 32)
    (s.get F.MEY_LOAD_LEN_LEN n)

/-- A write of MEY_LOAD_CTL_n leaves the address and the length. -/
theorem goDenied_plainWrite (s : State) (n : Nat) (v : Word) : (s.plainWrite .MEY_LOAD_CTL n v).goDenied n v = s.goDenied n v := by
  simp (disch := decide) only [State.goDenied, State.plainWrite, get_setReg_ne]

theorem loadStart_of_allowed {v : Word} (h : s.goDenied n v = false) :
    (s.loadStart n v).flag F.MEY_LOAD_STAT_BUSY n = true ∧ (s.loadStart n v).get F.MEY_LOAD_STAT_PHASE n = phHeader
      ∧ ((s.loadStart n v).load n).isSome = true ∧ (s.loadStart n v).get F.MEY_LOAD_PROG_FRAMES n = 0 := by
  simp only [State.goDenied] at h
  simp (disch := decide) only [State.loadStart, h, Bool.false_eq_true, if_false, State.flag, get_setLoad, get_setReg_ne,
    get_set_apart, get_set_same, load_setLoad_same]
  exact ⟨rfl, rfl, rfl, rfl⟩

theorem loadStart_of_denied {v : Word} (h : s.goDenied n v = true) : LoadFailed (s.loadStart n v) n ldSrcDenied := by
  simp only [State.goDenied] at h
  simp only [State.loadStart, h, if_true]
  exact loadFail_failed _ _ _ (by decide)

/-! ### The stream (R240, R242) -/

/-- The channel's load once the bytes bs have come at time now. -/
def LoadRun.fed (r : LoadRun) (bs : List Byte) (now : Nat) : LoadRun :=
  { r with buf := r.buf ++ bs, pos := r.pos + bs.length, since := now }

theorem loadRoom_le (r : LoadRun) (k : Nat) : loadRoom r k ≤ k := by
  simp only [loadRoom]
  split <;> split <;> omega

/-- Before the header is checked, only the buffer bounds what is taken. -/
theorem loadRoom_of_header (hhdr : r.hdr = false) (k : Nat) :
    loadRoom r k = if r.held then k else min k (65536 - r.buf.length) := by
  simp only [loadRoom, hhdr, Bool.false_eq_true, if_false]

/-- Before the header is checked, all the bytes are taken, or as many of them as fill the buffer (R246). -/
theorem loadRoom_cases (hhdr : r.hdr = false) (k : Nat) :
    loadRoom r k = k ∨ loadRoom r k = 65536 - r.buf.length ∧ loadRoom r k ≤ k := by
  rw [loadRoom_of_header hhdr]
  split <;> omega

/-- What the channel takes it has room for. -/
theorem loadRoom_loadRoom (hhdr : r.hdr = false) (k : Nat) : loadRoom r (loadRoom r k) = loadRoom r k := by
  simp only [loadRoom_of_header hhdr]
  split <;> omega

theorem loadFeed_nil (s : State) (n fuel : Nat) : (s.loadFeed n fuel []).2 = s := by
  cases fuel with
  | zero => rfl
  | succ fuel =>
    unfold State.loadFeed
    split
    · rfl
    · next r _ => simp only [List.length_nil, Nat.le_zero.1 (loadRoom_le r 0), if_true]

/-- Bytes for which there is room are buffered together and used as far as they go. -/
theorem loadFeed_of_room {bs : List Byte} (hload : s.load n = some r) (hne : bs ≠ [])
    (hroom : loadRoom r bs.length = bs.length) (fuel : Nat) :
    s.loadFeed n (fuel + 1) bs
      = ((s.setLoad n (some (r.fed bs s.time))).loadUse n (loadFuel (r.fed bs s.time).buf.length)).loadFeed n fuel [] := by
  have hpos : bs.length ≠ 0 := mt List.length_eq_zero_iff.1 hne
  simp only [State.loadFeed, hload, hroom, hpos, if_false, List.take_length, List.drop_length, LoadRun.fed]

theorem loadArrive_of_room {bs : List Byte} (hload : s.load n = some r) (hne : bs ≠ [])
    (hroom : loadRoom r bs.length = bs.length) :
    s.loadArrive n bs = (s.setLoad n (some (r.fed bs s.time))).loadUse n (loadFuel (r.fed bs s.time).buf.length) :=
  (congrArg Prod.snd (loadFeed_of_room hload hne hroom 2)).trans (loadFeed_nil _ n 2)

theorem sourceBytes_of_host (hkind : r.kind < 2) (bytes : List Byte) : s.sourceBytes r bytes = (some bytes, s) := by
  unfold State.sourceBytes
  split
  case h_1 h => omega
  case h_2 h => omega
  case h_3 => rfl

theorem exec_loadDataArrival_of_host {bytes : List Byte} (hup : s.floorReset = 0) (hload : s.load n = some r)
    (hkind : r.kind < 2) (hlive : s.portLive r.kind = true) :
    exec (.loadDataArrival n bytes) s = .next (s.loadArrive n (bytes.take (loadRoom r bytes.length))) := by
  refine congrArg Host.Outcome.next ?_
  simp only [hload, hup, hlive, State.loadData, sourceBytes_of_host hkind, implies_true, and_self, if_true]

/-- There is fuel for a use of what has arrived. -/
theorem loadFuel_eq (k : Nat) : loadFuel k = k / 32 + 19 + 1 := rfl

/-- Less than a header waits in the buffer. -/
theorem loadUse_of_short (hload : s.load n = some r) (hbad : r.bad = false) (hhdr : r.hdr = false) (hshort : r.buf.length < 256)
    (fuel : Nat) : s.loadUse n (fuel + 1) = s := by
  simp only [State.loadUse, hload, hbad, hhdr, Bool.false_eq_true, Bool.not_false, if_true, if_false, Nat.not_le.2 hshort]

theorem loadUse_of_none (h : s.load n = none) (fuel : Nat) : s.loadUse n fuel = s := by
  cases fuel with
  | zero => rfl
  | succ fuel => simp only [State.loadUse, h]

/-- A header whose CRC fails ends the load (R240). -/
theorem loadUse_of_headerCrc (hload : s.load n = some r) (hbad : r.bad = false) (hhdr : r.hdr = false)
    (hlong : 256 ≤ r.buf.length) (hcrc : crc32c (r.buf.take 0xFC) ≠ leAt (r.buf.take 256) 0xFC 4) (fuel : Nat) :
    s.loadUse n (fuel + 1) = s.loadFail n r ldHeaderCrc := by
  have hheader : s.loadHeader n r = s.loadFail n r ldHeaderCrc := by
    refine if_pos ?_
    rwa [List.take_take]
  simp only [State.loadUse, hload, hbad, hhdr, Bool.false_eq_true, Bool.not_false, if_true, if_false, hlong, hheader]
  exact loadUse_of_none (loadFail_failed s n r (by decide)).idle fuel

/-- The channel waits for the frames of a section. -/
theorem loadUse_of_frame {c : LoadSection} (hload : s.load n = some r) (hbad : r.bad = false) (hhdr : r.hdr = true)
    (hholding : r.holding = false) (hsect : r.table[r.sect]? = some c) (hframes : c.frames ≠ 0) (hbuf : r.buf = []) (fuel : Nat) :
    s.loadUse n (fuel + 1) = s := by
  have htable : r.table ≠ [] := fun h => by simp [h] at hsect
  simp only [State.loadUse, hload, hbad, hhdr, hholding, hsect, hframes, htable, hbuf, Bool.false_eq_true, Bool.not_true,
    if_false, List.length_nil, Nat.reduceLeDiff]

/-! ### The targets (R243, R244) -/

theorem slotSt_setSlotSt_same (s : State) (g : Nat) {x : Nat} (hx : x < 4) : (s.setSlotSt g x).slotSt g = x :=
  (get_set_same s F.CTX_SLOT_STAT_STATE g x (by decide)).trans (Nat.mod_eq_of_lt hx)

theorem slotSt_setSlotSt_ne (s : State) {g g2 : Nat} (x : Nat) (h : g2 ≠ g) : (s.setSlotSt g x).slotSt g2 = s.slotSt g2 :=
  get_set_ne s F.CTX_SLOT_STAT_STATE F.CTX_SLOT_STAT_STATE g g2 x (by decide) (.inr (.inl h))

theorem slotSt_setSlotGen (s : State) (g x g2 : Nat) : (s.setSlotGen g x).slotSt g2 = s.slotSt g2 :=
  get_set_apart s F.CTX_SLOT_STAT_GEN F.CTX_SLOT_STAT_STATE g g2 x (by decide) (by decide)

/-- A slot's state stands in its register, beside the slots' memory. -/
theorem slotSt_slots (s : State) (x : Slots) (g : Nat) : ({ s with slots := x } : State).slotSt g = s.slotSt g := rfl

theorem slotSt_setSlotData (s : State) (g f d g2 : Nat) : (s.setSlotData g f d).slotSt g2 = s.slotSt g2 := by
  unfold State.setSlotData State.setSlotWord
  exact slotSt_slots s _ g2

theorem slotSt_dropStages (s : State) (loc g : Nat) : (s.dropStages loc).slotSt g = s.slotSt g := rfl

/-- A step that puts its own slot into state x and leaves the others', taken for every slot of a list. -/
theorem slotSt_foldl {f : State → Nat → State} {x : Nat} (hsame : ∀ s g, (f s g).slotSt g = x)
    (hne : ∀ s g g2, g2 ≠ g → (f s g).slotSt g2 = s.slotSt g2) (l : List Nat) (s : State) :
    ∀ g ∈ l, (l.foldl f s).slotSt g = x := by
  induction l using List.reverseRecOn with
  | nil => simp
  | append_singleton l a ih =>
    intro g hg
    rw [List.foldl_concat]
    by_cases h : g = a
    · rw [h, hsame]
    · rw [hne _ _ _ h, ih g (by simpa [h] using hg)]

/-- A target becomes WRITING at the end of HOLD; a FREE one counts as GEN 0 (R243, R244). -/
def State.claimTarget (s : State) (g : Nat) : State := (if s.slotSt g = slFree then s.setSlotGen g 0 else s).setSlotSt g slWriting

/-- The header of a target that counts `gen` (R244). -/
def LoadRun.slotHeader (r : LoadRun) (gen : Nat) : SlotHeader :=
  { gen := gen, imageId := r.imageId, clkSrc := r.clkSrc, swEn := if r.swAllow then r.swEn else 0 }

/-- A target gets its header and becomes VALID (R244). -/
def State.commitTarget (r : LoadRun) (s : State) (g : Nat) : State :=
  (((s.setSlotData g 0 (headerWord (r.slotHeader (s.slotGen g + 1)))).setSlotGen g (s.slotGen g + 1)).dropStages
    (512 + g)).setSlotSt g slValid

theorem slotSt_claimTargets (l : List Nat) (s : State) : ∀ g ∈ l, (l.foldl State.claimTarget s).slotSt g = slWriting := by
  refine slotSt_foldl (f := State.claimTarget) (fun s g => slotSt_setSlotSt_same _ g (by decide)) (fun s g g2 h => ?_) l s
  unfold State.claimTarget
  rw [slotSt_setSlotSt_ne _ _ h]
  split
  · exact slotSt_setSlotGen s g 0 g2
  · rfl

theorem slotSt_commitTargets (r : LoadRun) (l : List Nat) (s : State) :
    ∀ g ∈ l, (l.foldl (State.commitTarget r) s).slotSt g = slValid := by
  refine slotSt_foldl (f := State.commitTarget r) (fun s g => slotSt_setSlotSt_same _ g (by decide)) (fun s g g2 h => ?_) l s
  rw [State.commitTarget, slotSt_setSlotSt_ne _ _ h, slotSt_dropStages, slotSt_setSlotGen, slotSt_setSlotData]

/-- The load once its targets are WRITING. -/
def LoadRun.heldAt (r : LoadRun) (now : Nat) : LoadRun := { r with holding := false, held := true, since := now }

theorem loadHold_of_passed (hload : s.load n = some r) (hholding : r.holding = true) (hpass : r.refused = false) :
    s.loadHold n = (((r.targets.foldl State.claimTarget (s.dropHolds n)).set F.MEY_LOAD_STAT_PHASE n phConfig).setLoad n
      (some (r.heldAt s.time))).loadUse n (loadFuel r.buf.length) := by
  rw [State.loadHold, hload]
  exact (if_neg (by simp [hholding])).trans (if_neg (by simp [hpass]))

theorem loadHold_of_refused (hload : s.load n = some r) (hholding : r.holding = true) (href : r.refused = true) :
    s.loadHold n = s.loadFail n r ldTargetBusy := by
  simp only [State.loadHold, hload, hholding, href, Bool.not_true, Bool.false_eq_true, if_false, if_true]

theorem loadCommit_of_ready (hload : s.load n = some r) (hready : r.ready = true) (hbad : r.bad = false) (hacks : r.acks = 0) :
    s.loadCommit n = ((((r.targets.foldl (State.commitTarget r) s).set F.MEY_LOAD_STAT_BUSY n 0).set F.MEY_LOAD_STAT_RESULT n
      ldOk).setLoad n none).loadEvt n F.MEY_LOAD_EVT_DONE := by
  rw [State.loadCommit, hload]
  exact (if_neg (by simp [hbad])).trans (if_pos (by simp [hready, hacks]))

end Sys2Proof.Machine
end

section
/-! The load channels' commands. O23. -/

namespace Sys2Proof.Machine

/-- A GO without ABORT (R242, R249, R253). -/
theorem exec_loadGo_outcome {s : State} {src : Src} {n : Nat} {v : Word} (hw : s.mayWrite src .MEY_LOAD_CTL n = true)
    (hgo : fldOf F.MEY_LOAD_CTL_GO v = 1) (habort : fldOf F.MEY_LOAD_CTL_ABORT v = 0) :
    ∃ t, exec (.loadGo src n v) s = .next t
      ∧ (s.flag F.MEY_LOAD_STAT_BUSY n = false → s.goDenied n v = false → t.flag F.MEY_LOAD_STAT_BUSY n = true
        ∧ t.get F.MEY_LOAD_STAT_PHASE n = phHeader ∧ (t.load n).isSome = true ∧ t.get F.MEY_LOAD_PROG_FRAMES n = 0)
      ∧ (s.flag F.MEY_LOAD_STAT_BUSY n = false → s.goDenied n v = true → LoadFailed t n ldSrcDenied)
      ∧ (s.flag F.MEY_LOAD_STAT_BUSY n = true → t.flag F.MEY_LOAD_STAT_REJECT n = true ∧ t.loads = s.loads) := by
  refine ⟨_, congrArg Host.Outcome.next (if_pos hw), ?_⟩
  rw [loadCtlWrite_of_go hgo habort, ← goDenied_plainWrite s n v]
  refine ⟨fun hidle hok => ?_, fun hidle hdenied => ?_, fun hbusy => ?_⟩
  · rw [hidle, if_neg Bool.false_ne_true]
    exact loadStart_of_allowed hok
  · rw [hidle, if_neg Bool.false_ne_true]
    exact loadStart_of_denied hdenied
  · rw [if_pos hbusy]
    refine ⟨?_, State.set_loads ..⟩
    rw [State.flag, get_set_same _ _ _ _ (by decide)]
    rfl

/-- Bytes of the host reach a channel that awaits its header (R240, R242). -/
theorem exec_loadDataArrival_header {s : State} {n : Nat} {bytes : List Byte} {r : LoadRun} (hup : s.floorReset = 0)
    (hload : s.load n = some r) (hhdr : r.hdr = false) (hbad : r.bad = false) (hkind : r.kind < 2)
    (hlive : s.portLive r.kind = true) (hbuf : r.buf.length < 256) (hne : bytes ≠ []) :
    ∃ t, exec (.loadDataArrival n bytes) s = .next t
      ∧ ((r.buf ++ bytes).length < 256 → t.load n = some (r.fed bytes s.time))
      ∧ (256 ≤ (r.buf ++ bytes).length → crc32c ((r.buf ++ bytes).take 0xFC) ≠ leAt ((r.buf ++ bytes).take 256) 0xFC 4 →
        LoadFailed t n ldHeaderCrc) := by
  have hpos : 0 < bytes.length := List.length_pos_of_ne_nil hne
  obtain ⟨k, hk⟩ : ∃ k, loadRoom r bytes.length = k := ⟨_, rfl⟩
  have htakes : k = bytes.length ∨ k = 65536 - r.buf.length ∧ k ≤ bytes.length := hk ▸ loadRoom_cases hhdr _
  have hlen : (bytes.take k).length = k := by
    rw [List.length_take]
    omega
  have htaken : bytes.take k ≠ [] := List.ne_nil_of_length_pos (by omega)
  have hroom : loadRoom r (bytes.take k).length = (bytes.take k).length := by rw [hlen, ← hk, loadRoom_loadRoom hhdr]
  refine ⟨_, exec_loadDataArrival_of_host hup hload hkind hlive, ?_⟩
  rw [hk, loadArrive_of_room hload htaken hroom, List.length_append]
  have hfed := load_setLoad_same s n (some (r.fed (bytes.take k) s.time))
  have hfedLen : (r.fed (bytes.take k) s.time).buf.length = r.buf.length + k := by
    rw [LoadRun.fed, List.length_append, hlen]
  refine ⟨fun hshort => ?_, fun hlong hcrc => ?_⟩
  · obtain rfl : k = bytes.length := by omega
    rw [loadFuel_eq, loadUse_of_short hfed hbad hhdr (by omega), hfed, List.take_length]
  · have hprefix : ∀ m ≤ 256, (r.fed (bytes.take k) s.time).buf.take m = (r.buf ++ bytes).take m := fun m hm => by
      rw [LoadRun.fed, List.take_append, List.take_append, List.take_take, min_eq_left (by omega)]
    rw [loadFuel_eq, loadUse_of_headerCrc hfed hbad hhdr (by omega) (by rwa [hprefix _ (by omega), hprefix _ le_rfl])]
    exact loadFail_failed _ _ _ (by decide)

/-- HOLD ends with the next section's frames still to come (R243). -/
theorem exec_loadHoldDone_outcome {s : State} {n : Nat} {r : LoadRun} {c : LoadSection} (hup : s.floorReset = 0)
    (hload : s.load n = some r) (hholding : r.holding = true) (hhdr : r.hdr = true) (hbuf : r.buf = [])
    (hsect : r.table[r.sect]? = some c) (hframes : c.frames ≠ 0) (hbad : r.bad = false) :
    ∃ t, exec (.loadHoldDone n) s = .next t
      ∧ (r.refused = false → (∀ g ∈ r.targets, t.slotSt g = slWriting) ∧ t.get F.MEY_LOAD_STAT_PHASE n = phConfig
        ∧ t.load n = some (r.heldAt s.time))
      ∧ (r.refused = true → LoadFailed t n ldTargetBusy) := by
  refine ⟨_, congrArg Host.Outcome.next (if_pos hup), fun hpass => ?_, fun href => ?_⟩
  · rw [loadHold_of_passed hload hholding hpass, loadFuel_eq,
      loadUse_of_frame (r := r.heldAt s.time) (load_setLoad_same ..) hbad hhdr rfl hsect hframes hbuf]
    refine ⟨fun g hg => ?_, ?_, load_setLoad_same ..⟩
    · refine Eq.trans ?_ (slotSt_claimTargets r.targets (s.dropHolds n) g hg)
      simp (disch := decide) only [State.slotSt, get_setLoad, get_set_apart]
    · rw [get_setLoad, get_set_same _ _ _ _ (by decide)]
      rfl
  · rw [loadHold_of_refused hload hholding href]
    exact loadFail_failed _ _ _ (by decide)

/-- COMMIT of a load whose trailer has passed and whose preload writes are answered (R244). -/
theorem exec_loadCommit_outcome {s : State} {n : Nat} {r : LoadRun} (hup : s.floorReset = 0) (hload : s.load n = some r)
    (hready : r.ready = true) (hbad : r.bad = false) (hacks : r.acks = 0) :
    ∃ t, exec (.loadCommit n) s = .next t ∧ (∀ g ∈ r.targets, t.slotSt g = slValid)
      ∧ t.flag F.MEY_LOAD_STAT_BUSY n = false ∧ t.get F.MEY_LOAD_STAT_RESULT n = ldOk
      ∧ t.flag F.MEY_LOAD_EVT_DONE n = true ∧ t.load n = none := by
  refine ⟨_, congrArg Host.Outcome.next (if_pos hup), ?_⟩
  rw [loadCommit_of_ready hload hready hbad hacks]
  refine ⟨fun g hg => ?_, ?_⟩
  · refine Eq.trans ?_ (slotSt_commitTargets r r.targets s g hg)
    simp (disch := decide) only [State.slotSt, get_loadEvt, get_set_apart, get_setLoad]
  · simp (disch := decide) only [State.flag, get_loadEvt, get_set_apart, get_setLoad, get_set_same, load_loadEvt, load_setLoad_same]
    decide

/-- Settles O23: every end in error leaves the channel as `LoadFailed` says; the accepted GO, the stream up to the header's CRC
(`loadUse_of_headerCrc`), the hold and the commit (`slotSt_foldl` over the targets) are each one lemma. That SRC_DENIED is
decided at GO is the model's choice (log entry 37). -/
theorem loadChannels : Obligations.LoadChannels := by
  unfold Obligations.LoadChannels
  refine ⟨fun s src n v hw hgo habort => ?_, fun s src n v r hw hgo habort hload => ?_,
    fun s n bytes r hup hload hhdr hbad hkind hlive hbuf hne => ?_,
    fun s n r c hup hload hholding hhdr hbuf hsect hframes hbad => ?_,
    fun s n r hup hload hready hbad hacks => exec_loadCommit_outcome hup hload hready hbad hacks,
    fun s n r hload hawaits hup htmo => ?_, fun s n r hload hup => ?_⟩
  · obtain ⟨t, hexec, hstart, hdenied, hbusy⟩ := exec_loadGo_outcome hw hgo habort
    exact ⟨t, hexec, hstart, fun hidle hsrc => ⟨(hdenied hidle hsrc).notBusy, (hdenied hidle hsrc).result⟩, hbusy⟩
  · have hend := loadFail_failed (s.plainWrite .MEY_LOAD_CTL n v) n r (by decide : ldAborted < 32)
    refine ⟨_, congrArg Host.Outcome.next ((if_pos hw).trans (loadCtlWrite_of_abort hgo habort hload)), ?_⟩
    exact ⟨hend.idle, hend.notBusy, hend.result, hend.err⟩
  · obtain ⟨t, hexec, hshort, hcrc⟩ := exec_loadDataArrival_header hup hload hhdr hbad hkind hlive hbuf hne
    exact ⟨t, hexec, hshort, fun hlong hne => ⟨(hcrc hlong hne).idle, (hcrc hlong hne).result⟩⟩
  · obtain ⟨t, hexec, hpass, hrefused⟩ := exec_loadHoldDone_outcome hup hload hholding hhdr hbuf hsect hframes hbad
    exact ⟨t, hexec, hpass, fun href => ⟨(hrefused href).idle, (hrefused href).result⟩⟩
  · have hend := loadFail_failed s n r (by decide : ldTimeout < 32)
    refine ⟨s.loadFail n r ldTimeout, congrArg Host.Outcome.next ?_, hend.idle, hend.result, hend.notBusy⟩
    simp only [hload, hawaits, hup, htmo, and_self, if_true]
  · have hend := loadFail_failed (if r.kind < 2 then s.inc F.PCIE_ERR_HOST_ERR r.kind else s) n r (by decide : ldSrcError < 32)
    refine ⟨_, congrArg Host.Outcome.next ?_, hend.idle, hend.result, hend.err⟩
    simp only [hload, hup, if_true]

end Sys2Proof.Machine
end

section
/-!
SUPPORT. Operations that write the registers of one owner only: what a bench, a VF's ring or a mailbox does to its own.
-/

namespace Sys2Proof.Machine

/-- From s to t only the i-th of each of the registers `rs` changes; device time, the stores that outlast power, the haul network,
the memories and the domains are kept. -/
structure WritesOnly (rs : List Reg) (i : Nat) (s t : State) : Prop where
  reg : ∀ r j, r ∉ rs ∨ j ≠ i → t.reg r j = s.reg r j
  time : t.time = s.time
  nvs : t.nvs = s.nvs
  haul : t.haul = s.haul
  memt : t.memt = s.memt
  ddr : t.ddr = s.ddr
  power : t.power = s.power

namespace WritesOnly

variable {rs : List Reg} {i : Nat} {s t u : State} {f : Fld} {r : Reg}

theorem refl (rs : List Reg) (i : Nat) (s : State) : WritesOnly rs i s s := ⟨fun _ _ _ => rfl, rfl, rfl, rfl, rfl, rfl, rfl⟩

/-- A change beside the registers and the parts kept. -/
theorem beside (h : WritesOnly rs i s t) (hregs : u.regs = t.regs := by rfl) (htime : u.time = t.time := by rfl)
    (hnvs : u.nvs = t.nvs := by rfl) (hhaul : u.haul = t.haul := by rfl) (hmemt : u.memt = t.memt := by rfl)
    (hddr : u.ddr = t.ddr := by rfl) (hpower : u.power = t.power := by rfl) : WritesOnly rs i s u :=
  ⟨fun r j hr => by rw [← h.reg r j hr, State.reg, hregs, State.reg], htime.trans h.time, hnvs.trans h.nvs,
    hhaul.trans h.haul, hmemt.trans h.memt, hddr.trans h.ddr, hpower.trans h.power⟩

theorem setReg (h : WritesOnly rs i s t) (hr : r ∈ rs) (v : Word) : WritesOnly rs i s (t.setReg r i v) :=
  ⟨fun q j hq => (reg_setReg_ne t v (hq.imp_left fun hq e => hq (e ▸ hr))).trans (h.reg q j hq), h.time, h.nvs, h.haul, h.memt,
    h.ddr, h.power⟩

theorem set (h : WritesOnly rs i s t) (hf : f.reg ∈ rs) (x : Nat) : WritesOnly rs i s (t.set f i x) := h.setReg hf _

theorem plainWrite (h : WritesOnly rs i s t) (hr : r ∈ rs) (v : Word) : WritesOnly rs i s (t.plainWrite r i v) := h.setReg hr _

theorem clampFld (h : WritesOnly rs i s t) (hf : f.reg ∈ rs) (lo hi : Nat) : WritesOnly rs i s (t.clampFld f i lo hi) :=
  h.set hf _

/-- A write that leaves the domains' registers leaves every domain as it is. -/
theorem powered (h : WritesOnly rs i s t) (hdom : .PWR_DOM ∉ rs) (d : Nat) : t.powered d = s.powered d := by
  unfold State.powered State.get
  rw [h.reg F.PWR_DOM_STATE.reg d (.inl hdom)]

/-- A change that a condition decides on. -/
theorem orKept {c : Prop} [Decidable c] (h : WritesOnly rs i s t) : WritesOnly rs i s (if c then t else s) := by
  split
  · exact h
  · exact refl rs i s

/-- A change that a condition forbids. -/
theorem keptOr {c : Prop} [Decidable c] (h : WritesOnly rs i s t) : WritesOnly rs i s (if c then s else t) := by
  split
  · exact refl rs i s
  · exact h

theorem emit (h : WritesOnly rs i s t) (o : Output) : WritesOnly rs i s (t.emit o) := h.beside

theorem startTimer (h : WritesOnly rs i s t) (k : Nat) : WritesOnly rs i s (t.startTimer k) := h.beside

theorem raiseBench (h : WritesOnly rs i s t) (b bit : Nat) : WritesOnly rs i s (t.raiseBench b bit) := h.beside

theorem wlog (h : WritesOnly rs i s t) (code source severity detail : Nat) :
    WritesOnly rs i s (t.wlog code source severity detail) := h.beside

theorem setBox (h : WritesOnly rs i s t) (m : Nat) (x : Mbx) : WritesOnly rs i s (t.setBox m x) := h.beside

theorem setExpiry (h : WritesOnly rs i s t) (b : Nat) (x held : Option Nat) : WritesOnly rs i s (t.setExpiry b x held) := h.beside

theorem setHop (h : WritesOnly rs i s t) (j : Nat) (x : Hopper) : WritesOnly rs i s (t.setHop j x) := h.beside

theorem setCtxRun (h : WritesOnly rs i s t) (b : Nat) (x : Option CtxRun) : WritesOnly rs i s (t.setCtxRun b x) := h.beside

theorem setRingSt (h : WritesOnly rs i s t) (r : Nat) (x : RingSt) : WritesOnly rs i s (t.setRingSt r x) := h.beside

theorem setPendBits (h : WritesOnly rs i s t) (fn x : Nat) : WritesOnly rs i s (t.setPendBits fn x) := by
  unfold State.setPendBits
  split <;> exact h.beside

theorem raiseVec (h : WritesOnly rs i s t) (fn vec : Nat) : WritesOnly rs i s (t.raiseVec fn vec) := by
  unfold State.raiseVec
  split
  · exact h.emit _
  · exact h.setPendBits ..

/-- A write under the access codes, with a field of the register held to its range. -/
theorem rangedWrite (r : Reg) (i : Nat) (v : Word) (s : State) : WritesOnly [r] i s (s.rangedWrite r i v) := by
  have hplain : WritesOnly [r] i s (s.plainWrite r i v) := (refl [r] i s).plainWrite (List.mem_singleton_self r) v
  unfold State.rangedWrite
  dsimp only
  split
  -- HOP_TAIL, whose 0 turns the timeout off and lies outside the range
  case h_2 =>
    split
    · exact hplain
    · exact hplain.clampFld (List.mem_singleton_self _) ..
  case h_10 => exact hplain
  all_goals exact hplain.clampFld (List.mem_singleton_self _) ..

/-! ### Mailboxes (R550 to R556) -/

/-- The registers that a mailbox's operations write. -/
def mailbox : List Reg := [.MBX_STATUS, .MBX_CTL]

theorem setMbSt (h : WritesOnly mailbox i s t) (st : Nat) : WritesOnly mailbox i s (t.setMbSt i st) := set h (by decide) st

theorem sbAnswer (h : WritesOnly rs i s t) (kind : Nat) (page : List Byte) : WritesOnly rs i s (t.sbAnswer kind page) := by
  unfold State.sbAnswer
  split
  · exact h
  · exact emit (setBox h ..) _

theorem postPage (h : WritesOnly mailbox i s t) (page : List Byte) (rest : List (List Byte)) :
    WritesOnly mailbox i s (t.postPage i page rest) := by
  have hposted := startTimer (setMbSt (setBox h i { t.box i with rspBuf := page, pages := rest }) mbRsp) (tmPage i)
  unfold State.postPage
  dsimp only
  split
  · exact hposted.sbAnswer ..
  split
  · split <;> exact hposted.raiseVec ..
  · exact hposted

theorem respond (h : WritesOnly mailbox i s t) (op tag st : Nat) (payload : List Byte) :
    WritesOnly mailbox i s (t.respond i op tag st payload) := by
  unfold State.respond
  split
  · exact h
  · exact postPage (setBox h ..) ..

/-- While PD_MGT is powered, a command is answered through its own mailbox (R562 has hardware answer the sideband
otherwise). -/
theorem takeCommand (h : WritesOnly mailbox i s t) (hp : s.powered 1 = true) (x : Mbx) :
    WritesOnly mailbox i s (t.takeCommand i x) := by
  have hpt : ¬ t.powered 1 = false := by simp [h.powered (by decide), hp]
  have hcmd := h.setMbSt mbCmd
  unfold State.takeCommand
  dsimp only
  rw [if_neg hpt]
  split
  · exact h.respond ..
  split
  · exact h.respond ..
  split
  · exact h.respond ..
  · exact hcmd.beside

theorem takePage (h : WritesOnly mailbox i s t) (hp : s.powered 1 = true) (pg : List Byte) :
    WritesOnly mailbox i s (t.takePage i pg) := by
  unfold State.takePage
  dsimp only
  split
  · exact respond (set h (by decide) _) ..
  split
  · exact takeCommand (set (setBox h ..) (by decide) _) hp _
  split
  · exact sbAnswer (startTimer (setMbSt (set (setBox h ..) (by decide) _) _) _) ..
  · exact startTimer (setMbSt (set (setBox h ..) (by decide) _) _) _

theorem ring (hp : s.powered 1 = true) (page : List Byte) : WritesOnly mailbox i s (s.ring i page) := by
  have hself := refl mailbox i s
  unfold State.ring
  dsimp only
  split
  · exact set hself (by decide) 1
  split
  · exact respond (set (setBox hself ..) (by decide) _) ..
  · exact takePage (setBox hself ..) hp _

theorem ack (i : Nat) (s : State) : WritesOnly mailbox i s (s.ack i) := by
  have hself := refl mailbox i s
  unfold State.ack
  split
  · exact set hself (by decide) 1
  split
  · exact hself.setMbSt mbIdle
  · exact hself.postPage ..

theorem mbxAbort (h : WritesOnly mailbox i s t) : WritesOnly mailbox i s (t.mbxAbort i) := by
  have hidle := setMbSt (setBox h i { t.box i with payload := [], pages := [], msgTag := none }) mbIdle
  unfold State.mbxAbort
  dsimp only
  split
  · exact h
  split
  · exact hidle.beside
  · exact hidle

theorem mbxCtlWrite (i : Nat) (v : Word) (s : State) : WritesOnly mailbox i s (s.mbxCtlWrite i v) := by
  have hplain : WritesOnly mailbox i s (s.plainWrite .MBX_CTL i v) := (refl _ i s).plainWrite (by decide) v
  unfold State.mbxCtlWrite
  dsimp only
  split
  · exact hplain.mbxAbort
  · exact hplain

/-! ### Registers of a bench's control block -/

theorem dlymonCtlWrite (i : Nat) (v : Word) (s : State) : WritesOnly [.BENCH_DLYMON_CTL] i s (s.dlymonCtlWrite i v) := by
  have hplain : WritesOnly [.BENCH_DLYMON_CTL] i s (s.plainWrite .BENCH_DLYMON_CTL i v) :=
    (refl _ i s).plainWrite (by decide) v
  unfold State.dlymonCtlWrite State.alarmCheck
  split
  · exact hplain
  split
  · exact wlog (raiseBench (set hplain (by decide) 1) ..) ..
  · exact hplain

/-- The registers that requests of a bench's planes write. -/
def planeSel : List Reg := [.BENCH_PLANE_SEL, .BENCH_PLANE_STAT, .BENCH_PLANE_EVT, .BENCH_PLANE_ERRCNT]

theorem planeEvt (h : WritesOnly rs i s t) (hf : f.reg ∈ rs) : WritesOnly rs i s (t.planeEvt i f) := by
  unfold State.planeEvt
  dsimp only
  split
  · exact raiseBench (set h hf 1) ..
  · exact set h hf 1

theorem planeRefuse (h : WritesOnly planeSel i s t) (r : PlaneReq) (reason : Nat) :
    WritesOnly planeSel i s (t.planeRefuse i r reason) := by
  have hcount {u : State} {c : Prop} [Decidable c] (hu : WritesOnly planeSel i s u) :
      WritesOnly planeSel i s (if c then u else u.inc F.BENCH_PLANE_ERRCNT_REFUSE_CNT i) := by
    split
    · exact hu
    · exact hu.set (f := F.BENCH_PLANE_ERRCNT_REFUSE_CNT) (by decide) _
  have hkey {u : State} (hu : WritesOnly planeSel i s u) (key : Nat) : WritesOnly planeSel i s (u.setLastRef i key) := hu.beside
  unfold State.planeRefuse
  dsimp only
  split
  · exact hkey (hcount (planeEvt (set (set (set (set h (by decide) _) (by decide) _) (by decide) _) (by decide) _) (by decide))) _
  · exact hcount (planeEvt (set (set (set (set h (by decide) _) (by decide) _) (by decide) _) (by decide) _) (by decide))

theorem planeSelWrite (i : Nat) (v : Word) (s : State) : WritesOnly planeSel i s (s.planeSelWrite i v) := by
  have hself := refl planeSel i s
  have hplane := hself.set (f := F.BENCH_PLANE_SEL_PLANE) (by decide) (fldOf F.BENCH_PLANE_SEL_PLANE v)
  have hpending := hplane.set (f := F.BENCH_PLANE_SEL_PENDING) (by decide) 1
  unfold State.planeSelWrite
  dsimp only
  split
  · exact hself
  split
  · exact hself.planeRefuse ..
  split
  · exact hplane.planeRefuse ..
  · exact hpending.beside

theorem schedCtlWrite (i : Nat) (v : Word) (s : State) : WritesOnly [.BENCH_SCHED_CTL] i s (s.schedCtlWrite i v) := by
  have hplain : WritesOnly [.BENCH_SCHED_CTL] i s (s.plainWrite .BENCH_SCHED_CTL i v) := (refl _ i s).plainWrite (by decide) v
  unfold State.schedCtlWrite
  dsimp only
  split
  · split <;> exact setExpiry (set hplain (by decide) _) ..
  split
  · exact setExpiry hplain ..
  · exact hplain

/-- The registers that a command of a bench's context engine writes. -/
def ctxCmd : List Reg := [.CTX_CMD, .CTX_STAT]

theorem ctxStart (h : WritesOnly ctxCmd i s t) (src : Src) (op plane slot : Nat) :
    WritesOnly ctxCmd i s (t.ctxStart i src op plane slot) :=
  setCtxRun (set (set (set h (by decide) 1) (by decide) 0) (by decide) 0) ..

theorem ctxCmdWrite (src : Src) (i : Nat) (v : Word) (s : State) : WritesOnly ctxCmd i s (s.ctxCmdWrite src i v) := by
  have habort {u : State} (hu : WritesOnly ctxCmd i s u) : WritesOnly ctxCmd i s
      (if fldOf F.CTX_CMD_ABORT v = 1 then
        match u.ctxRun i with
        | some r => u.setCtxRun i (some { r with abort := true })
        | none => u
      else u) := by
    split
    · split
      · exact hu.setCtxRun ..
      · exact hu
    · exact hu
  have hplain : WritesOnly ctxCmd i s (s.plainWrite .CTX_CMD i v) := (refl _ i s).plainWrite (by decide) v
  unfold State.ctxCmdWrite
  dsimp only
  split
  · exact habort (set (refl _ i s) (by decide) 1)
  split
  · exact ctxStart (habort hplain) ..
  · exact habort hplain

/-- The registers of a VF's event ring that its control register moves. -/
def ringCtl : List Reg := [.BENCH_RING_CTL, .BENCH_RING_HEAD, .BENCH_RING_TAIL]

/-- A VF's ring stands in its bench's registers. -/
theorem setRing {vf pf : Fld} (h : WritesOnly rs i s t) (hi : i < 64) (hf : vf.reg ∈ rs) (x : Nat) :
    WritesOnly rs i s (t.setRing i vf pf x) := by
  unfold State.setRing ringFld
  rw [if_pos hi]
  exact h.set hf x

theorem ringCtlWrite (hi : i < 64) (v : Word) (s : State) : WritesOnly ringCtl i s (s.ringCtlWrite i v) := by
  have hplain : WritesOnly ringCtl i s (s.plainWrite .BENCH_RING_CTL i v) := (refl _ i s).plainWrite (by decide) v
  unfold State.ringCtlWrite ringCtlReg
  rw [if_pos hi]
  dsimp only
  generalize (if s.ringEn i = 1 then _ else _ : Nat) = size
  have hsized : WritesOnly ringCtl i s ((s.plainWrite .BENCH_RING_CTL i v).setRing i F.BENCH_RING_CTL_SIZE_EXP
    F.PF_RING_CTL_SIZE_EXP size) := setRing hplain hi (by decide) size
  split
  · exact setRingSt (setRing (setRing hsized hi (by decide) 0) hi (by decide) 0) ..
  · exact hsized

end WritesOnly
end Sys2Proof.Machine
end

section
/-! What a virtual function's register writes reach: O58. -/

namespace Sys2Proof.Machine

variable {s : State} {n : Nat} {r : Reg} {i : Nat}

/-- The registers within VF n's reach: its mailbox's, its aperture register, and what BAR0 may write in the control block of its
bench while that bench serves it (R259, R421, R422). -/
def State.VfReaches (s : State) (n : Nat) (r : Reg) (j : Nat) : Prop :=
  ((isMailboxReg r = true ∨ r = .PCIE_VF_APER) ∧ j = n)
  ∨ (vfAccess r = .write ∧ benchOfInst r j = n ∧ s.get F.BENCH_ASSIGN_FN n = 0)

theorem validInst_of_mayWrite {src : Src} (h : s.mayWrite src r i = true) : validInst r i = true := by
  simp only [State.mayWrite, Bool.and_eq_true] at h
  exact h.1.1

/-- A register that takes a write lies in a powered domain, BENCH_PLANE_SEL apart (R153, R498). -/
theorem powered_of_mayWrite {src : Src} (h : s.mayWrite src r i = true) (hr : r ≠ .BENCH_PLANE_SEL) :
    s.powered (regDomain r i) = true := by
  simp only [State.mayWrite, Bool.and_eq_true, Bool.or_eq_true, beq_iff_eq, hr, false_and, or_false] at h
  exact h.1.2

/-- What VF n may write lies within its reach. -/
theorem vfReaches_of_mayWrite (h : s.mayWrite (.vf n) r i = true) : s.VfReaches n r i := by
  simp only [State.mayWrite, Bool.and_eq_true] at h
  obtain ⟨-, -, h⟩ := h
  split at h
  next hown => exact .inl ⟨by simpa using hown, by simpa using h⟩
  next => exact .inr (by simpa [and_assoc] using h)

/-- The registers that a VF may write and whose write does more than store the word. -/
def vfActing : List Reg := [.MBX_CMD_DOOR, .MBX_RSP_DOOR, .MBX_CTL, .BENCH_DLYMON_CTL, .HOP_CTL, .BENCH_PLANE_SEL,
  .BENCH_SCHED_CTL, .CTX_CMD, .BENCH_RING_BASE_LO, .BENCH_RING_BASE_HI, .BENCH_RING_CTL]

/-- The other registers that a VF may write. -/
def vfPlain : List Reg := [.BENCH_DLYMON_SEL, .BENCH_DLYMON_VAL, .BENCH_DLYMON_WORST, .HOP_STAT, .HOP_COUNT, .HOP_LEVEL,
  .HOP_TAIL, .HOP_IDLE_0, .HOP_IDLE_1, .HOP_IDLE_2, .HOP_ERRCNT, .HOP_EVT, .HOP_EVT_EN, .BENCH_PLANE_STAT, .BENCH_PLANE_STATE,
  .BENCH_PLANE_CNT, .BENCH_PLANE_ERRCNT, .BENCH_PLANE_EVT, .BENCH_PLANE_EVT_EN, .BENCH_SCHED_LIST, .BENCH_SCHED_QUANT,
  .BENCH_USER_STAT, .BENCH_PLANE_TIME_LO, .BENCH_PLANE_TIME_HI, .CTX_STAT, .CTX_CE_CNT, .CTX_EVT, .CTX_EVT_EN, .CTX_HOME,
  .BENCH_RING_HEAD, .BENCH_RING_TAIL, .BENCH_HPORT_STAT, .BENCH_HPORT_ERR, .BENCH_HPORT_DROP, .BENCH_HPORT_TMO,
  .BENCH_HPORT_TOCNT, .MBX_STATUS, .PCIE_VF_APER]

theorem vfPlain_or_vfActing (r : Reg) : isMailboxReg r = true ∨ r = .PCIE_VF_APER ∨ vfAccess r = .write →
    r ∈ vfPlain ∨ r ∈ vfActing := by
  cases r <;> decide

theorem writeReg_of_vfPlain (h : r ∈ vfPlain) (s : State) (src : Src) (i : Nat) (v : Word) :
    s.writeReg src r i v = s.rangedWrite r i v := by
  fin_cases h <;> rfl

/-- Registers that lie beside r in every control block, and that a VF reaches wherever it reaches r. -/
def Beside (r : Reg) (rs : List Reg) : Prop :=
  ∀ q ∈ rs, isMailboxReg q = isMailboxReg r ∧ vfAccess q = .write ∧ (regPlace q).2.tail = (regPlace r).2.tail

/-- Within VF n's reach lies what stands beside a register of its reach. -/
theorem vfReaches_beside {rs : List Reg} (h : s.VfReaches n r i) (hr : r ≠ .PCIE_VF_APER) (hrs : Beside r rs) :
    ∀ q ∈ rs, s.VfReaches n q i := by
  intro q hq
  obtain ⟨hmailbox, haccess, hplace⟩ := hrs q hq
  refine h.imp (fun ⟨hown, hi⟩ => ⟨Or.inl ?_, hi⟩) fun ⟨_, hbench, hfn⟩ => ⟨haccess, ?_, hfn⟩
  · rw [hmailbox]
    exact hown.resolve_right hr
  · rwa [benchOfInst, hplace]

/-- A write that does more than store the word still writes registers beside its own only. -/
theorem writeReg_of_vfActing (h : r ∈ vfActing) {src : Src} (hm : s.mayWrite src r i = true) (v : Word) :
    ∃ rs, WritesOnly rs i s (s.writeReg src r i v) ∧ Beside r rs := by
  have hpower := powered_of_mayWrite hm
  have hvalid := validInst_of_mayWrite hm
  have hself := WritesOnly.refl
  simp only [vfActing, List.mem_cons, List.not_mem_nil, or_false] at h
  unfold Beside
  rcases h with rfl | rfl | rfl | rfl | rfl | rfl | rfl | rfl | rfl | rfl | rfl
  · exact ⟨_, .orKept (.ring (hpower (by decide)) []), by decide⟩
  · exact ⟨_, .orKept (.ack i s), by decide⟩
  · exact ⟨_, .mbxCtlWrite i v s, by decide⟩
  · exact ⟨_, .dlymonCtlWrite i v s, by decide⟩
  · exact ⟨[], .orKept (.setHop (hself [] i s) ..), by decide⟩
  · exact ⟨_, .planeSelWrite i v s, by decide⟩
  · exact ⟨_, .schedCtlWrite i v s, by decide⟩
  · exact ⟨_, .ctxCmdWrite src i v s, by decide⟩
  · exact ⟨[.BENCH_RING_BASE_LO], .keptOr (.plainWrite (hself _ i s) (by decide) v), by decide⟩
  · exact ⟨[.BENCH_RING_BASE_HI], .keptOr (.plainWrite (hself _ i s) (by decide) v), by decide⟩
  · exact ⟨_, .ringCtlWrite (of_decide_eq_true hvalid) v s, by decide⟩

/-- A VF's write changes nothing beyond its reach. -/
theorem writeReg_vf (hm : s.mayWrite (.vf n) r i = true) (v : Word) :
    ∃ rs, WritesOnly rs i s (s.writeReg (.vf n) r i v) ∧ ∀ q ∈ rs, s.VfReaches n q i := by
  have hreach := vfReaches_of_mayWrite hm
  have hr : isMailboxReg r = true ∨ r = .PCIE_VF_APER ∨ vfAccess r = .write := by
    unfold State.VfReaches at hreach
    tauto
  rcases vfPlain_or_vfActing r hr with hplain | hacting
  · exact ⟨[r], writeReg_of_vfPlain hplain .. ▸ .rangedWrite r i v s, by simpa using hreach⟩
  · obtain ⟨rs, hwrites, hbeside⟩ := writeReg_of_vfActing hacting hm v
    exact ⟨rs, hwrites, vfReaches_beside hreach (by rintro rfl; exact absurd hacting (by decide)) hbeside⟩

/-- Settles O58: a write that its source may not make changes nothing; one that VF n may make writes, beside its own register,
only registers that stand beside it in the same mailbox or control block (`writeReg_vf`). -/
theorem virtualFunctionReach : Obligations.VirtualFunctionReach := by
  unfold Obligations.VirtualFunctionReach
  intro n r i v s t he
  by_cases hm : s.mayWrite (.vf n) r i = true ∧ s.windowInst (.vf n) r i = true
  · obtain rfl := Host.Outcome.next.inj ((registerWrite_reaches hm.1 hm.2).symm.trans he)
    obtain ⟨rs, hwrites, hreach⟩ := writeReg_vf hm.1 v
    refine ⟨fun q j hne => ?_, hwrites.time, hwrites.nvs, hwrites.haul, hwrites.memt, hwrites.ddr, hwrites.power⟩
    by_cases hq : q ∉ rs ∨ j ≠ i
    · exact absurd (hwrites.reg q j hq) hne
    · push Not at hq
      exact hq.2 ▸ hreach q hq.1
  · have hm' : s.mayWrite (.vf n) r i = false ∨ s.windowInst (.vf n) r i = false := by
      simpa only [← Bool.not_eq_true, ← not_and_or] using hm
    obtain rfl := Host.Outcome.next.inj ((registerWrite_ignored hm' (.inl (by simp))).symm.trans he)
    exact ⟨fun q j hne => absurd rfl hne, rfl, rfl, rfl, rfl, rfl, rfl⟩

end Sys2Proof.Machine
end

section
/-!
SUPPORT. Event rings (R288 to R295): fields of a ring read after writes, what a record's message leaves, and a ring's control
register.
-/

namespace Sys2Proof.Machine

variable {s : State} {r fn vec src : Nat}

/-! ### Reads after writes -/

/-- An RW field takes its bits of the word written. -/
theorem get_plainWrite_rw (s : State) (f : Fld) (i : Nat) (v : Word)
    (h : ∀ j < f.w, (rwMask f.reg).getLsbD (f.lo + j) = true ∧ (w1cMask f.reg).getLsbD (f.lo + j) = false) :
    (s.plainWrite f.reg i v).get f i = fldOf f v := by
  unfold State.get State.plainWrite
  rw [reg_setReg_same]
  refine Nat.eq_of_testBit_eq fun j => ?_
  rw [fldOf, testBit_bitsOf, testBit_bitsOf]
  by_cases hj : j < f.w
  · obtain ⟨hrw, hw1c⟩ := h j hj
    change (_ && (maskedWrite _ _ v).getLsbD (f.lo + j)) = (_ && v.getLsbD (f.lo + j))
    simp only [maskedWrite, BitVec.getLsbD_and, BitVec.getLsbD_or, BitVec.getLsbD_not, hrw, hw1c]
    cases hbit : v.getLsbD (f.lo + j)
    · simp
    · simp [BitVec.lt_of_getLsbD hbit]
  · simp [hj]

theorem getRing_setRing_same (s : State) (r x : Nat) {vf pf : Fld} (hv : vf.lo + vf.w ≤ 32) (hp : pf.lo + pf.w ≤ 32)
    (hw : pf.w = vf.w) : (s.setRing r vf pf x).getRing r vf pf = x % 2 ^ vf.w := by
  unfold State.setRing State.getRing ringFld
  split
  · exact get_set_same s vf r x hv
  · rw [get_set_same s pf 0 x hp, hw]

theorem getRing_setRing_apart (s : State) (r x : Nat) {vf pf vf2 pf2 : Fld} (hv : vf.lo + vf.w ≤ 32) (hp : pf.lo + pf.w ≤ 32)
    (hv2 : vf2.reg ≠ vf.reg ∨ vf2.lo + vf2.w ≤ vf.lo ∨ vf.lo + vf.w ≤ vf2.lo)
    (hp2 : pf2.reg ≠ pf.reg ∨ pf2.lo + pf2.w ≤ pf.lo ∨ pf.lo + pf.w ≤ pf2.lo) :
    (s.setRing r vf pf x).getRing r vf2 pf2 = s.getRing r vf2 pf2 := by
  unfold State.setRing State.getRing ringFld
  split
  · exact get_set_apart s vf vf2 r r x hv hv2
  · exact get_set_apart s pf pf2 0 0 x hp hp2

/-- A ring's fields stand in registers. -/
theorem getRing_congr {t : State} (h : t.regs = s.regs) (r : Nat) (vf pf : Fld) : t.getRing r vf pf = s.getRing r vf pf := by
  unfold State.getRing State.get State.reg
  rw [h]

theorem ringTail_setStaged (s : State) (src : Nat) (e : Staged) (r : Nat) : (s.setStaged src e).ringTail r = s.ringTail r :=
  getRing_congr rfl ..

theorem ringTail_setRingSt (s : State) (q : Nat) (x : RingSt) (r : Nat) : (s.setRingSt q x).ringTail r = s.ringTail r :=
  getRing_congr rfl ..

theorem getRing_setRingSt (s : State) (q : Nat) (x : RingSt) (r : Nat) (vf pf : Fld) :
    (s.setRingSt q x).getRing r vf pf = s.getRing r vf pf := getRing_congr rfl ..

theorem stagedOf_setRingSt (s : State) (q : Nat) (x : RingSt) (src : Nat) : (s.setRingSt q x).stagedOf src = s.stagedOf src := rfl

theorem stagedOf_setStaged_same (s : State) (src : Nat) (e : Staged) : (s.setStaged src e).stagedOf src = e :=
  mapGet_mapSet_same _ _ _ _

theorem ringSt_setRingSt_same (s : State) (r : Nat) (x : RingSt) : (s.setRingSt r x).ringSt r = x := mapGet_mapSet_same _ _ _ _

theorem pendBits_setPendBits_same (s : State) (fn x : Nat) : (s.setPendBits fn x).pendBits fn = x := by
  unfold State.setPendBits State.pendBits
  split
  · rfl
  · exact mapGet_mapSet_same _ _ _ _

/-! ### Messages (R293, R429) -/

theorem raiseVec_of_canSend (h : s.canSend fn vec = true) : s.raiseVec fn vec = s.emit (.msix (s.msgPort fn) fn vec) := if_pos h

theorem raiseVec_of_not_canSend (h : s.canSend fn vec = false) :
    s.raiseVec fn vec = s.setPendBits fn (Nat.lor (s.pendBits fn) (2 ^ vec)) := if_neg (by simp [h])

/-- A vector that is raised leaves the registers and the collector, and takes no output back. -/
theorem raiseVec_keeps (s : State) (fn vec : Nat) : (s.raiseVec fn vec).regs = s.regs
    ∧ (s.raiseVec fn vec).collector = s.collector ∧ ∀ o ∈ s.out, o ∈ (s.raiseVec fn vec).out := by
  unfold State.raiseVec State.setPendBits
  split
  · exact ⟨rfl, rfl, fun o => List.mem_cons_of_mem _⟩
  · split <;> exact ⟨rfl, rfl, fun _ => id⟩

/-- A record's message leaves the registers and the staging entries, and takes no output back. -/
theorem ringMessage_keeps (s : State) (r vec : Nat) : (s.ringMessage r vec).regs = s.regs
    ∧ (s.ringMessage r vec).collector.staged = s.collector.staged ∧ ∀ o ∈ s.out, o ∈ (s.ringMessage r vec).out := by
  unfold State.ringMessage State.msgSend
  split
  · exact ⟨rfl, rfl, fun _ => id⟩
  · obtain ⟨hregs, hcollector, hout⟩ := raiseVec_keeps (s.setRingSt r _) (ringFn r) vec
    exact ⟨hregs, congrArg (·.staged) hcollector, hout⟩

/-! ### Records (R291, R292) -/

/-- TAIL moves within its ring, and a ring is no larger than TAIL counts. -/
theorem mod_ringSize_lt (s : State) (r x : Nat) : x % s.ringSize r < 2 ^ 16 := by
  have hsize : s.ringSize r ≤ 2 ^ 16 := Nat.pow_le_pow_right two_pos (by unfold clampNat; omega)
  exact (Nat.mod_lt _ (Nat.two_pow_pos _)).trans_le hsize

/-- The record of source `src` written at TAIL, TAIL moved on, PHASE inverted on a wrap and the entry emptied: a record's write
before its message. -/
def State.recordStored (s : State) (src : Nat) : State :=
  let r := s.ringOf src
  let tail := (s.ringTail r + 1) % s.ringSize r
  let s1 := s.emit (.hostWrite (s.msgPort (ringFn r)) (s.ringBase r + 16 * s.ringTail r)
    (leBytes 16 (recordWord src (s.stagedOf src) (s.ringSt r).phase)))
  let s2 := (s1.setRing r F.BENCH_RING_TAIL_TAIL F.PF_RING_TAIL_TAIL tail).setStaged src {}
  if tail = 0 then s2.setRingSt r { s2.ringSt r with phase := !(s2.ringSt r).phase } else s2

theorem writeRecord_eq (s : State) (src : Nat) : s.writeRecord src
    = (s.recordStored src).ringMessage (s.ringOf src) (recordVec (s.ringOf src) (s.stagedOf src).kinds) := rfl

theorem recordStored_staged (s : State) (src : Nat) : (s.recordStored src).stagedOf src = {} := by
  unfold State.recordStored
  dsimp only
  split
  · rw [stagedOf_setRingSt, stagedOf_setStaged_same]
  · rw [stagedOf_setStaged_same]

theorem recordStored_ringTail (s : State) (src : Nat) : (s.recordStored src).ringTail (s.ringOf src)
    = (s.ringTail (s.ringOf src) + 1) % s.ringSize (s.ringOf src) := by
  have htail (u : State) : (u.setRing (s.ringOf src) F.BENCH_RING_TAIL_TAIL F.PF_RING_TAIL_TAIL
      ((s.ringTail (s.ringOf src) + 1) % s.ringSize (s.ringOf src))).ringTail (s.ringOf src)
      = (s.ringTail (s.ringOf src) + 1) % s.ringSize (s.ringOf src) :=
    (getRing_setRing_same u _ _ (by decide) (by decide) (by rfl)).trans (Nat.mod_eq_of_lt (mod_ringSize_lt ..))
  unfold State.recordStored
  dsimp only
  split
  · rw [ringTail_setRingSt, ringTail_setStaged, htail]
  · rw [ringTail_setStaged, htail]

theorem recordStored_out (s : State) (src : Nat) : (s.recordStored src).out
    = .hostWrite (s.msgPort (ringFn (s.ringOf src))) (s.ringBase (s.ringOf src) + 16 * s.ringTail (s.ringOf src))
      (leBytes 16 (recordWord src (s.stagedOf src) (s.ringSt (s.ringOf src)).phase)) :: s.out := by
  unfold State.recordStored
  dsimp only
  split <;> rfl

/-- A record is written at TAIL, TAIL moves on and the entry empties (R292). -/
theorem writeRecord_outcome (s : State) (src : Nat) : (s.writeRecord src).stagedOf src = {}
    ∧ (s.writeRecord src).ringTail (s.ringOf src) = (s.ringTail (s.ringOf src) + 1) % s.ringSize (s.ringOf src)
    ∧ .hostWrite (s.msgPort (ringFn (s.ringOf src))) (s.ringBase (s.ringOf src) + 16 * s.ringTail (s.ringOf src))
      (leBytes 16 (recordWord src (s.stagedOf src) (s.ringSt (s.ringOf src)).phase)) ∈ (s.writeRecord src).out := by
  obtain ⟨hregs, hstaged, hout⟩ := ringMessage_keeps (s.recordStored src) (s.ringOf src)
    (recordVec (s.ringOf src) (s.stagedOf src).kinds)
  rw [writeRecord_eq, State.stagedOf, hstaged]
  refine ⟨recordStored_staged s src, (getRing_congr hregs ..).trans (recordStored_ringTail s src), hout _ ?_⟩
  rw [recordStored_out]
  exact List.mem_cons_self

/-! ### A ring's control register (R295) -/

/-- The size that a ring holds after a write of its control register: the one it runs with, else the one written, in its range. -/
def State.ringCtlSize (s : State) (r : Nat) (v : Word) : Nat :=
  if s.ringEn r = 1 then s.getRing r F.BENCH_RING_CTL_SIZE_EXP F.PF_RING_CTL_SIZE_EXP
  else clampNat 4 16 (fldOf F.BENCH_RING_CTL_SIZE_EXP v)

/-- A ring's control register written. -/
def State.ringCtlStored (s : State) (r : Nat) (v : Word) : State :=
  (s.plainWrite (ringCtlReg r).1 (ringCtlReg r).2 v).setRing r F.BENCH_RING_CTL_SIZE_EXP F.PF_RING_CTL_SIZE_EXP
    (s.ringCtlSize r v)

/-- A ring starts: HEAD and TAIL 0, the first pass. -/
def State.ringStart (s : State) (r : Nat) : State :=
  ((s.setRing r F.BENCH_RING_HEAD_HEAD F.PF_RING_HEAD_HEAD 0).setRing r
    F.BENCH_RING_TAIL_TAIL F.PF_RING_TAIL_TAIL 0).setRingSt r { s.ringSt r with phase := true }

theorem ringCtlWrite_eq (s : State) (r : Nat) (v : Word) : s.ringCtlWrite r v
    = if s.ringEn r = 0 ∧ (s.ringCtlStored r v).ringEn r = 1 then (s.ringCtlStored r v).ringStart r else s.ringCtlStored r v :=
  rfl

theorem ringEn_ringCtlStored (s : State) (r : Nat) (v : Word) :
    (s.ringCtlStored r v).ringEn r = fldOf F.BENCH_RING_CTL_EN v := by
  refine (getRing_setRing_apart _ r _ (by decide) (by decide) (by decide) (by decide)).trans ?_
  unfold State.getRing ringFld ringCtlReg
  split
  · exact get_plainWrite_rw s F.BENCH_RING_CTL_EN r v (by decide)
  · exact get_plainWrite_rw s F.PF_RING_CTL_EN 0 v (by decide)

theorem clampNat_mem {lo hi : Nat} (h : lo ≤ hi) (x : Nat) : lo ≤ clampNat lo hi x ∧ clampNat lo hi x ≤ hi := by
  unfold clampNat
  omega

/-- A ring that does not run takes the size written, in its range. -/
theorem ringSize_ringCtlStored {v : Word} (hoff : s.ringEn r = 0) :
    (s.ringCtlStored r v).ringSize r = 2 ^ clampNat 4 16 (fldOf F.BENCH_RING_CTL_SIZE_EXP v) := by
  have hsize : s.ringCtlSize r v = clampNat 4 16 (fldOf F.BENCH_RING_CTL_SIZE_EXP v) := if_neg (by simp [hoff])
  obtain ⟨hlo, hhi⟩ := clampNat_mem (by decide : 4 ≤ 16) (fldOf F.BENCH_RING_CTL_SIZE_EXP v)
  unfold State.ringSize State.ringCtlStored
  rw [getRing_setRing_same _ _ _ (by decide) (by decide) (by rfl), hsize]
  generalize clampNat 4 16 (fldOf F.BENCH_RING_CTL_SIZE_EXP v) = x at hlo hhi ⊢
  refine congrArg (2 ^ ·) ?_
  unfold clampNat
  rw [show F.BENCH_RING_CTL_SIZE_EXP.w = 5 from rfl]
  omega

/-- What a ring that starts keeps of its control register. -/
theorem getRing_ringStart (s : State) (r : Nat) {vf pf : Fld} (hhead : vf.reg ≠ .BENCH_RING_HEAD ∧ pf.reg ≠ .PF_RING_HEAD)
    (htail : vf.reg ≠ .BENCH_RING_TAIL ∧ pf.reg ≠ .PF_RING_TAIL) : (s.ringStart r).getRing r vf pf = s.getRing r vf pf := by
  unfold State.ringStart
  rw [getRing_setRingSt, getRing_setRing_apart _ r 0 (by decide) (by decide) (.inl htail.1) (.inl htail.2),
    getRing_setRing_apart _ r 0 (by decide) (by decide) (.inl hhead.1) (.inl hhead.2)]

theorem ringEn_ringStart (s : State) (r : Nat) : (s.ringStart r).ringEn r = s.ringEn r :=
  getRing_ringStart s r (by decide) (by decide)

theorem ringSize_ringStart (s : State) (r : Nat) : (s.ringStart r).ringSize r = s.ringSize r := by
  unfold State.ringSize
  rw [getRing_ringStart s r (by decide) (by decide)]

theorem ringTail_ringStart (s : State) (r : Nat) : (s.ringStart r).ringTail r = 0 := by
  unfold State.ringStart State.ringTail
  rw [getRing_setRingSt, getRing_setRing_same _ _ _ (by decide) (by decide) (by rfl), Nat.zero_mod]

theorem ringHead_ringStart (s : State) (r : Nat) : (s.ringStart r).ringHead r = 0 := by
  unfold State.ringStart State.ringHead
  rw [getRing_setRingSt, getRing_setRing_apart _ _ _ (by decide) (by decide) (by decide) (by decide),
    getRing_setRing_same _ _ _ (by decide) (by decide) (by rfl), Nat.zero_mod]

end Sys2Proof.Machine
end

section
/-! The completion collector's commands: O26. -/

namespace Sys2Proof.Machine

variable {s : State} {r vec src : Nat}

/-- An event in flight reaches its source's staging entry (R288). -/
theorem exec_collectorEvent_taken {x : Event} {rest : List Event} (hp : s.powered 1 = true)
    (htake : takeEvent src s.collector.inFlight = (some x, rest)) :
    exec (.collectorEvent src) s = .next (({ s with collector := { s.collector with inFlight := rest } }).setStaged src
      (mergeEvent (s.stagedOf src) x)) := by
  refine congrArg Host.Outcome.next ?_
  simp only [htake, hp, if_true]

/-- The next source's record is written while its port is live (R292, R294). -/
theorem exec_collectorRecordWrite_written (hp : s.powered 1 = true) (hup : s.floorReset = 0) (hsrc : s.nextSource = some src)
    (hlive : s.portLive (s.msgPort (ringFn (s.ringOf src))) = true) :
    exec (.collectorRecordWrite true) s = .next ((s.takeTurn src).writeRecord src) := by
  refine congrArg Host.Outcome.next ?_
  simp only [hp, hup, hsrc, hlive, beq_self_eq_true, Bool.and_self, if_true]

/-- A write that the host does not take stops the ring (R292). -/
theorem exec_collectorRecordWrite_failed (hp : s.powered 1 = true) (hup : s.floorReset = 0) (hsrc : s.nextSource = some src) :
    exec (.collectorRecordWrite false) s = .next (((s.takeTurn src).setRing (s.ringOf src) F.BENCH_RING_CTL_DMA_ERR
      F.PF_RING_CTL_DMA_ERR 1).setRing (s.ringOf src) F.BENCH_RING_CTL_EN F.PF_RING_CTL_EN 0) := by
  refine congrArg Host.Outcome.next ?_
  simp only [hp, hup, hsrc, beq_self_eq_true, Bool.and_self, if_true, Bool.false_and, Bool.false_eq_true, if_false]

/-- A delayed message that MOD_US no longer holds back goes out (R293). -/
theorem exec_msixModerationExpiry_due (hwaits : mapGet (fun _ => false) (s.ringSt r).waiting vec = true)
    (hdue : s.msgHeld r vec = false) : exec (.msixModerationExpiry r vec) s = .next (s.msgSend r vec) :=
  congrArg Host.Outcome.next (if_pos (by simp [hwaits, hdue]))

/-- What a ring knows of its messages once one of vector vec has gone out. -/
def RingSt.sent (x : RingSt) (vec now : Nat) : RingSt :=
  { x with waiting := mapSet (fun _ => false) x.waiting vec false, lastMsg := mapSet (fun _ => none) x.lastMsg vec (some now) }

theorem msgSend_eq (s : State) (r vec : Nat) :
    s.msgSend r vec = (s.setRingSt r ((s.ringSt r).sent vec s.time)).raiseVec (ringFn r) vec := rfl

theorem ringSt_msgSend (s : State) (r vec : Nat) : (s.msgSend r vec).ringSt r = (s.ringSt r).sent vec s.time := by
  obtain ⟨-, hcollector, -⟩ := raiseVec_keeps (s.setRingSt r ((s.ringSt r).sent vec s.time)) (ringFn r) vec
  rw [msgSend_eq, State.ringSt, hcollector]
  exact ringSt_setRingSt_same ..

theorem bitOf_lor_two_pow (x i : Nat) : bitOf (Nat.lor x (2 ^ i)) i = 1 := by
  rw [bitOf_eq_toNat_testBit]
  change ((x ||| 2 ^ i).testBit i).toNat = 1
  simp

/-- Settles O26: a record's write is told by its steps (`writeRecord_outcome`), a delayed message goes out or leaves its vector
pending (`raiseVec`), and a ring that is enabled starts empty with the size written in its range (`ringCtlWrite_eq`). -/
theorem collectorAndRings : Obligations.CollectorAndRings := by
  unfold Obligations.CollectorAndRings
  refine ⟨fun s source x rest hp htake => ?_, fun s src r hp hup hsrc hr hlive => ?_, fun s src r hp hup hsrc hr => ?_,
    fun s r vec hwaits hdue => ?_, fun s src r v hw hoff hon => ?_⟩
  · exact ⟨_, exec_collectorEvent_taken hp htake, stagedOf_setStaged_same .., rfl⟩
  · subst hr
    obtain ⟨hempty, htail, hout⟩ := writeRecord_outcome (s.takeTurn src) src
    exact ⟨_, exec_collectorRecordWrite_written hp hup hsrc hlive, congrArg Staged.full hempty, htail, hout⟩
  · subst hr
    refine ⟨_, exec_collectorRecordWrite_failed hp hup hsrc, ?_, ?_, rfl⟩
    · unfold State.ringEn
      rw [getRing_setRing_same _ _ _ (by decide) (by decide) (by rfl), Nat.zero_mod]
    · rw [getRing_setRing_apart _ _ _ (by decide) (by decide) (by decide) (by decide),
        getRing_setRing_same _ _ _ (by decide) (by decide) (by rfl)]
      rfl
  · refine ⟨_, exec_msixModerationExpiry_due hwaits hdue, ?_, ?_, fun hsend => ?_, fun hno => ?_⟩
    · rw [ringSt_msgSend]
      exact mapGet_mapSet_same (fun _ => false) _ vec false
    · rw [ringSt_msgSend]
      exact mapGet_mapSet_same (fun _ => none) _ vec (some s.time)
    · rw [msgSend_eq, raiseVec_of_canSend (s := s.setRingSt r ((s.ringSt r).sent vec s.time)) hsend]
      rfl
    · rw [msgSend_eq, raiseVec_of_not_canSend (s := s.setRingSt r ((s.ringSt r).sent vec s.time)) hno,
        pendBits_setPendBits_same]
      exact bitOf_lor_two_pow ..
  · have hstart : s.ringCtlWrite r v = (s.ringCtlStored r v).ringStart r :=
      (ringCtlWrite_eq s r v).trans (if_pos ⟨hoff, (ringEn_ringCtlStored s r v).trans hon⟩)
    refine ⟨_, congrArg Host.Outcome.next ((if_pos hw).trans hstart), ?_, ringHead_ringStart .., ringTail_ringStart .., ?_, ?_⟩
    · rw [ringEn_ringStart, ringEn_ringCtlStored, hon]
    · exact congrArg RingSt.phase (ringSt_setRingSt_same ..)
    · rw [ringSize_ringStart, ringSize_ringCtlStored hoff]
      rfl

end Sys2Proof.Machine
end

section
/-! SUPPORT. A change of FN whose staged record waits for its round-robin turn (R260, R294). O24. -/

namespace Sys2Proof.Machine

/-- Until 10 µs have passed, a change of FN waits while the staged record's turn has not come, whether or not the ring could take
the record. -/
theorem fnEffect_of_turn_elsewhere {s : State} {b fn : Nat}
    (hpending : (mapGet (fun _ => none) s.collector.fnPending b : Option Nat) = some fn) (hfull : (s.stagedOf b).full = true)
    (hturn : s.nextSource ≠ some b) (hearly : s.time < mapGet (fun _ => 0) s.collector.fnSince b + 10000) :
    s.fnEffect b = s := by
  have hlate : decide (mapGet (fun _ => 0) s.collector.fnSince b + 10000 ≤ s.time) = false := decide_eq_false (by omega)
  simp only [State.fnEffect, hpending, hfull, hlate, beq_eq_false_iff_ne.2 hturn, Bool.or_self, Bool.and_false, Bool.true_eq_false,
    Bool.false_eq_true, if_false, if_true]

/-- The PF's ring takes records; benches 0 and 1 both have one staged for it, bench 0 has the turn, and bench 1 is to go to its
VF. -/
def turnElsewhere : State :=
  { ((((State.reset.set F.PWR_DOM_STATE 1 pdOn).set F.PWR_DOM_STATE (dPcie 0) pdOn).set F.PCIE_LINK_STAT_UP 0 1).set
      F.PCIE_LINK_STAT_PERST 0 0).set F.PF_RING_CTL_EN 0 1 with
    collector := { staged := [(0, { full := true }), (1, { full := true })], fnPending := [(1, some 0)] } }

theorem turnElsewhere_waits : turnElsewhere.ringTakes 1 = true ∧ turnElsewhere.nextSource = some 0
    ∧ (turnElsewhere.stagedOf 1).full = true := by decide +kernel

/-- Refutes O24 in its clause on FN_CHANGE_EFFECT: where bench 0 has the collector's turn (`turnElsewhere`), bench 1's change of FN
waits although the ring can take its record, since the record goes out in its own turn (`fnEffect_of_turn_elsewhere`). -/
theorem not_tenancyAndGangs : ¬ Obligations.TenancyAndGangs := by
  unfold Obligations.TenancyAndGangs
  rintro ⟨-, heffect, -⟩
  obtain ⟨htakes, hturn, hfull⟩ := turnElsewhere_waits
  obtain ⟨t, hexec, -, htaken, -⟩ := heffect turnElsewhere 1 0 rfl (by decide) (.inr (.inl htakes))
  have hwaits : turnElsewhere.fnEffect 1 = turnElsewhere :=
    fnEffect_of_turn_elsewhere rfl hfull (by rw [hturn]; decide) (by decide)
  obtain rfl : turnElsewhere = t := hwaits.symm.trans (Host.Outcome.next.inj hexec)
  exact absurd htaken (by decide)

end Sys2Proof.Machine
end

section
/-! SUPPORT. Injection on a lost link (R386). O25. -/

namespace Sys2Proof.Machine

variable {s : State} {k l b p : Nat}

/-- No flit goes on while the end point's link takes no words. -/
theorem injRun_of_closed (h : s.injOpen k l = false) (n : Nat) (x : InjPkt) : s.injRun k l n x = (some x, s) := by
  cases n <;> simp [State.injRun, h]

/-- A fold whose steps leave the state beside its accumulator. -/
theorem foldl_snd_eq {α β : Type} {f : α × State → β → α × State} (h : ∀ a x, a.2 = s → (f a x).2 = s) (q : List β) (a : α) :
    (q.foldl f (a, s)).2 = s :=
  List.foldlRecOn (motive := fun acc : α × State => acc.2 = s) q f rfl fun acc hacc x _ => h acc x hacc

theorem out_setInj (s : State) (e : Nat) (q : List InjPkt) : (s.setInj e q).out = s.out := rfl

theorem injMove_out_of_closed (h : s.injOpen k l = false) : (s.injMove k l).out = s.out := by
  unfold State.injMove
  rw [out_setInj, foldl_snd_eq]
  intro acc x hacc
  split
  · exact hacc
  · rw [hacc, injRun_of_closed h]

/-- A packet that a weighbridge lets in on a link that takes no words stays with its end point. -/
theorem wbAdmit_out_of_closed (c : Nat) (x : WbPacket) (rest : List WbPacket)
    (h : s.injOpen (routerOf (epCol (hportId b p)) (epRow (hportId b p)) (epX (hportId b p))) (epLocal (hportId b p)) = false) :
    (s.wbAdmit b p c x rest).out = s.out := by
  unfold State.wbAdmit State.inject
  dsimp only
  rw [injMove_out_of_closed]
  · split
    · rfl
    · split <;> rfl
  · refine Eq.trans ?_ h
    split
    · rfl
    · split <;> rfl

/-- A weighbridge lets its first packet in (R278). -/
theorem exec_weighbridgeAdmit_first {c : Nat} {x : WbPacket} {rest : List WbPacket} (hc : c < 3) (hruns : s.portRuns b p = true)
    (hopen : s.wbOpen b p c = true) (hheld : c = 1 ∨ s.holdsRequests b p = false) (hwaiting : s.waiting b p c = x :: rest)
    (hfirst : s.behindOwn b p x = false) (hready : s.injReady (hportId b p) (hClass x.hdr) = true) :
    exec (.weighbridgeAdmit b p c) s = .next (s.wbAdmit b p c x rest) := by
  refine congrArg Host.Outcome.next ((if_pos ⟨hc, hruns, hopen, hheld⟩).trans ?_)
  simp only [hwaiting, hfirst, hready, Bool.not_true, Bool.or_self, Bool.false_eq_true, if_false]

/-- A response of one flit. -/
def writeAnswer : WbPacket := ⟨mkHeader 0 0 0 0 clsRsp 0 0 opWack 0 0, [], none, none, 0⟩

/-- Haul port 0 of bench 0, at router 4, has a response to send; the link from the port to the router is lost. -/
def portLinkLost : State :=
  ((((State.reset.set F.PWR_DOM_STATE (dBench 0) pdOn).set F.PWR_DOM_STATE (dHn 0) pdOn).set F.HN_LINK_SPARE_L0 4 8).setWbTokens 1
    1024).setWaiting 0 0 1 [writeAnswer]

theorem portLinkLost_admits : portLinkLost.portRuns 0 0 = true ∧ portLinkLost.wbOpen 0 0 1 = true
    ∧ portLinkLost.waiting 0 0 1 = [writeAnswer] ∧ portLinkLost.behindOwn 0 0 writeAnswer = false
    ∧ portLinkLost.injReady (hportId 0 0) (hClass writeAnswer.hdr) = true
    ∧ mapGet (fun _ => false) portLinkLost.haul.retrain (linkKey 4 4) = false
    ∧ portLinkLost.injOpen 4 0 = false := by decide +kernel

/-- Refutes O25 in its clause on WEIGHBRIDGE_ADMIT: where the port's link to its router is lost (`portLinkLost`), no link
retrains, and the packet let in still goes out as no link word (`wbAdmit_out_of_closed`; R386). -/
theorem not_weighbridgesAndMeters : ¬ Obligations.WeighbridgesAndMeters := by
  unfold Obligations.WeighbridgesAndMeters
  rintro ⟨-, -, hadmit, -⟩
  obtain ⟨hruns, hopen, hwaiting, hfirst, hready, hretrain, hclosed⟩ := portLinkLost_admits
  obtain ⟨t, hexec, -, -, hword⟩ := hadmit portLinkLost 0 0 1 4 0 writeAnswer [] (by decide) hruns hopen (.inl rfl) hwaiting
    hfirst hready rfl rfl hretrain
  rw [exec_weighbridgeAdmit_first (by decide) hruns hopen (.inl rfl) hwaiting hfirst hready] at hexec
  have hout : t.out = [] := by
    rw [← Host.Outcome.next.inj hexec, wbAdmit_out_of_closed 1 writeAnswer [] hclosed]
    rfl
  exact absurd hword (by simp [hout])

end Sys2Proof.Machine
end

section
/-! SUPPORT. Words on a lost link (R386). O28. -/

namespace Sys2Proof.Machine

/-- A word that arrives on a lost link changes nothing: its receiver treats the link as absent (R386). -/
theorem exec_flitArrival_of_lost {s : State} {k port : Nat} (w : Nat) (hlost : 8 ≤ s.sparesUsed k port) :
    exec (.flitArrival k port w) s = .next s :=
  congrArg Host.Outcome.next (if_neg fun ⟨_, _, _, _, hspares⟩ => Nat.not_lt.2 hlost hspares)

/-- A link word of which wires 548 and 549, both of the sideband, come in wrong: more than the sideband's code corrects (R306). -/
def sidebandWordBad : Nat := 3 * 2 ^ 548

/-- In `portLinkLost`, input 4 of router 4 is that lost link and shows no other reason to turn a word away. -/
theorem portLinkLost_input : portPresent 4 4 = true ∧ portLinkLost.powered (dHn (routerCol 4)) = true
    ∧ portLinkLost.flag F.HN_RTR_STAT_RETIRED 4 = false ∧ portLinkLost.floorReset = 0
    ∧ portLinkLost.sparesUsed 4 4 = 8 ∧ mapGet (fun _ => false) portLinkLost.haul.retrain (linkKey 4 4) = false
    ∧ (linkDecode sidebandWordBad).badSide = true := by decide +kernel

/-- Refutes O28 in its clause on an uncorrectable sideband: where the link of the input is lost (`portLinkLost`), the word is not
taken (`exec_flitArrival_of_lost`), so that the link does not retrain. -/
theorem not_routers : ¬ Obligations.Routers := by
  unfold Obligations.Routers
  rintro ⟨-, -, hbadSideband, -⟩
  obtain ⟨hpresent, hpowered, hinService, hup, hlost, hquiet, hbad⟩ := portLinkLost_input
  obtain ⟨t, hexec, hretrains, -⟩ :=
    hbadSideband portLinkLost 4 4 sidebandWordBad (by decide) hpresent hpowered hinService hup hbad
  obtain rfl : portLinkLost = t :=
    Host.Outcome.next.inj ((exec_flitArrival_of_lost sidebandWordBad hlost.ge).symm.trans hexec)
  exact absurd (hquiet.symm.trans hretrains) (by decide)

end Sys2Proof.Machine
end

section
/-!
SUPPORT. A gang resumes together: RESUME of one member's column shift waits until every member has moved its planes (R383). O29.
-/

namespace Sys2Proof.Machine

variable {s : State} {b m : Nat} {r : ShiftRun}

/-- A member with planes still to move holds its gang (R383). -/
theorem gangMoved_of_moving (hmem : m ∈ s.gangOf b) (hrun : s.shift m = some r) (hplanes : r.planes.isEmpty = false) :
    s.gangMoved b = false := by
  refine List.all_eq_false.2 ⟨m, hmem, ?_⟩
  simp [hrun, hplanes]

/-- SHIFT_RESUME changes nothing while a member of the gang has not moved (R383). -/
theorem exec_shiftResume_of_moving (hmoving : s.gangMoved b = false) (fab host sched last : Bool) :
    exec (.shiftResume b fab host sched last) s = .next s := by
  refine congrArg Host.Outcome.next ?_
  unfold State.shiftResume
  split
  · rfl
  · rw [if_pos (by simp [hmoving])]

/-- The shift of bench 0 when its planes have moved. -/
def movedRun : ShiftRun := { col := 5, mapped := true }

/-- The shift of bench 1 when plane 0 is still to move. -/
def movingRun : ShiftRun := { col := 9, mapped := true, planes := [0] }

/-- Bench b shifts a column, and its map is set (R381). -/
def mappedShift (s : State) (b : Nat) (r : ShiftRun) : State :=
  (((s.set F.BENCH_SHIFT_REPAIRING b 1).set F.BENCH_SHIFT_SHIFTED b 1).set F.BENCH_SHIFT_RETIRED_SX b r.col).setShift b (some r)

/-- Benches 0 and 1 form a gang, led by bench 0 and offline; both shift a column, and bench 1 has not moved all its planes. -/
def gangMoving : State :=
  mappedShift (mappedShift ((State.reset.set F.BENCH_GANG_STAT_IN_GANG 0 1).set F.BENCH_GANG_STAT_IN_GANG 1 1) 0 movedRun) 1
    movingRun

theorem gangMoving_admits : gangMoving.shift 0 = some movedRun ∧ gangMoving.shift 1 = some movingRun
    ∧ 1 ∈ gangMoving.gangOf 0 ∧ gangMoving.floorReset = 0 := by decide

/-- Refutes O29 in its clause on SHIFT_RESUME: bench 0 has moved its planes, but bench 1 of its gang has not (`gangMoving`), so that
RESUME waits (`exec_shiftResume_of_moving`; R383) and the shift of bench 0 does not end. -/
theorem not_columnShiftsAndLinks : ¬ Obligations.ColumnShiftsAndLinks := by
  unfold Obligations.ColumnShiftsAndLinks
  rintro ⟨-, -, -, hresume, -⟩
  obtain ⟨hmoved, hmoving, hmember, hfloor⟩ := gangMoving_admits
  obtain ⟨t, hexec, -, hended, -⟩ := hresume gangMoving 0 movedRun hmoved rfl rfl hfloor (.inl rfl)
  have hwaits := exec_shiftResume_of_moving (gangMoved_of_moving hmember hmoving rfl) false false false true
  obtain rfl : gangMoving = t := Host.Outcome.next.inj (hwaits.symm.trans hexec)
  exact absurd (hmoved.symm.trans hended) (by simp)

end Sys2Proof.Machine
end

section
/-!
SUPPORT. The scrubbers (R396 to R405): what a scrubber's record reads after each step of its pass, the restores that a compared
frame queues, and PERR after a failed parity group. O30.
-/

namespace Sys2Proof.Machine

variable {s t : State} {c i b p f g : Nat}

/-! ### A scrubber's record -/

@[simp] theorem scrubber_setScrubber_same (s : State) (c i : Nat) (x : Scrubber) : (s.setScrubber c i x).scrubber c i = x :=
  mapGet_mapSet_same _ _ _ _

theorem scrubber_setScrubber_twin (s : State) (c : Nat) (hi : i < 2) (x : Scrubber) :
    (s.setScrubber c (1 - i) x).scrubber c i = s.scrubber c i :=
  mapGet_mapSet_ne _ _ _ (by omega)

theorem scrubber_eq_of_scrub (h : t.scrub = s.scrub) (c i : Nat) : t.scrubber c i = s.scrubber c i := by
  unfold State.scrubber
  rw [h]

/-! ### The start of a pass (R396, R405, R406) -/

theorem majority_same (v : Nat) : majority [v, v, v] = v := by
  change (v &&& v ||| v &&& v) ||| v &&& v = v
  simp

theorem scrubber_scrubRefresh_readable (s : State) (c i : Nat) :
    (s.scrubRefresh c i true).scrubber c i = { s.scrubber c i with
      en := [s.nvsScrub c % 2 ^ 16, s.nvsScrub c % 2 ^ 16, s.nvsScrub c % 2 ^ 16]
      ro := [bitOf (s.nvsScrub c) 16, bitOf (s.nvsScrub c) 16, bitOf (s.nvsScrub c) 16] } :=
  scrubber_setScrubber_same ..

theorem scrubRefresh_unreadable (s : State) (c i : Nat) : s.scrubRefresh c i false
    = ((s.set F.CTX_SCRUB_STAT_NVS_ERR c 1).raise (68 + c) 4).wlog 0x0311 (68 + c) sevAlert c := by
  simp only [State.scrubRefresh, Bool.false_eq_true, if_false]

/-- A Refresh that cannot read NVS keeps the settings (R405). -/
theorem scrubber_scrubRefresh_unreadable (s : State) (c i : Nat) :
    (s.scrubRefresh c i false).scrubber c i = s.scrubber c i := by
  rw [scrubRefresh_unreadable]
  exact scrubber_eq_of_scrub (by rw [State.wlog_scrub, State.raise_scrub, State.set_scrub]) c i

theorem nvsErr_scrubRefresh_unreadable (s : State) (c i : Nat) :
    (s.scrubRefresh c i false).flag F.CTX_SCRUB_STAT_NVS_ERR c = true := by
  rw [scrubRefresh_unreadable, State.wlog_flag, State.raise_flag]
  exact beq_iff_eq.2 (get_set_same s F.CTX_SCRUB_STAT_NVS_ERR c 1 (by decide))

/-- Refresh leaves the grid of the passes. -/
theorem next_scrubRefresh (s : State) (c i : Nat) (nvsOk : Bool) :
    ((s.scrubRefresh c i nvsOk).scrubber c i).next = (s.scrubber c i).next := by
  cases nvsOk with
  | true => rw [scrubber_scrubRefresh_readable]
  | false => rw [scrubber_scrubRefresh_unreadable]

/-- What the check of its twin leaves to scrubber i of column c: its own record, and NVS_ERR. -/
def KeepsOwn (c i : Nat) (s t : State) : Prop :=
  t.scrubber c i = s.scrubber c i ∧ t.flag F.CTX_SCRUB_STAT_NVS_ERR c = s.flag F.CTX_SCRUB_STAT_NVS_ERR c

namespace KeepsOwn

theorem own (h : KeepsOwn c i s t) : t.scrubber c i = s.scrubber c i := h.1

theorem nvsErr (h : KeepsOwn c i s t) : t.flag F.CTX_SCRUB_STAT_NVS_ERR c = s.flag F.CTX_SCRUB_STAT_NVS_ERR c := h.2

theorem refl (c i : Nat) (s : State) : KeepsOwn c i s s := ⟨rfl, rfl⟩

theorem setTwin (h : KeepsOwn c i s t) (hi : i < 2) (x : Scrubber) : KeepsOwn c i s (t.setScrubber c (1 - i) x) :=
  ⟨(scrubber_setScrubber_twin t c hi x).trans h.own, h.nvsErr⟩

theorem setFld (h : KeepsOwn c i s t) {fld : Fld} (j x : Nat) (hfit : fld.lo + fld.w ≤ 32)
    (hne : F.CTX_SCRUB_STAT_NVS_ERR.reg ≠ fld.reg ∨ F.CTX_SCRUB_STAT_NVS_ERR.lo + F.CTX_SCRUB_STAT_NVS_ERR.w ≤ fld.lo) :
    KeepsOwn c i s (t.set fld j x) :=
  ⟨h.own, (congrArg (· == 1) (get_set_apart t fld _ j c x hfit (hne.imp_right .inl))).trans h.nvsErr⟩

theorem setFail (h : KeepsOwn c i s t) (j x : Nat) : KeepsOwn c i s (t.set (failFld j) c x) := by
  unfold failFld
  split
  · exact h.setFld c x (by decide) (.inr (by decide))
  · exact h.setFld c x (by decide) (.inr (by decide))

theorem wlog (h : KeepsOwn c i s t) (code source severity detail : Nat) :
    KeepsOwn c i s (t.wlog code source severity detail) := ⟨h.own, h.nvsErr⟩

theorem raise (h : KeepsOwn c i s t) (source bit : Nat) : KeepsOwn c i s (t.raise source bit) := ⟨h.own, h.nvsErr⟩

theorem raiseVec (h : KeepsOwn c i s t) (fn vec : Nat) : KeepsOwn c i s (t.raiseVec fn vec) := by
  unfold State.raiseVec State.setPendBits
  split
  · exact ⟨h.own, h.nvsErr⟩
  · split
    · exact ⟨h.own, h.nvsErr⟩
    · exact ⟨h.own, h.nvsErr⟩

theorem ite {a u : State} {q : Prop} [Decidable q] (ha : KeepsOwn c i s a) (hu : KeepsOwn c i s u) :
    KeepsOwn c i s (if q then a else u) := by
  split
  · exact ha
  · exact hu

theorem twinTriplets (s : State) (c : Nat) (hi : i < 2) (nvsOk : Bool) :
    KeepsOwn c i s (s.twinTriplets c (1 - i) nvsOk).2 := by
  unfold State.twinTriplets
  extract_lets x v en ro fixed enLogged roLogged
  have hfixed : KeepsOwn c i s fixed := ((refl c i s).setTwin hi _).setFld c _ (by decide) (.inl (by decide))
  have hen : KeepsOwn c i s enLogged := ite (hfixed.wlog ..) hfixed
  exact ite (hen.wlog ..) hen

theorem twinFail (h : KeepsOwn c i s t) (hi : i < 2) : KeepsOwn c i s (t.twinFail c (1 - i)) :=
  ((((h.setTwin hi _).setFail _ _).raiseVec _ _).raise _ _).wlog ..

/-- The check of the twin (R406). -/
theorem twinCheck (s : State) (c : Nat) (hi : i < 2) (nvsOk : Bool) : KeepsOwn c i s (s.twinCheck c i nvsOk).2 := by
  have htriplets := twinTriplets s c hi nvsOk
  unfold State.twinCheck
  dsimp only
  split
  · split
    · exact (htriplets.setTwin hi _).setFail _ _
    · exact htriplets
  · split
    · exact htriplets.twinFail hi
    · exact htriplets

end KeepsOwn

/-- The next start on a grid lies beyond the present (R396). -/
theorem lt_next_start {x now iv : Nat} (hx : x ≤ now) (hiv : 0 < iv) : now < x + iv * ((now - x) / iv + 1) := by
  have := Nat.lt_mul_div_succ (now - x) hiv
  omega

theorem passNs_pos (all : Bool) : 0 < passNs all := by cases all <;> decide

/-- A pass starts with the record that Refresh leaves, its grid beyond the present. -/
theorem scrubber_passStart (hi : i < 2) (hdue : (s.scrubber c i).next ≤ s.time) (nvsOk : Bool) :
    ∃ next all place, s.time < next ∧ (s.passStart c i nvsOk).scrubber c i = { (s.scrubRefresh c i nvsOk).scrubber c i with
      next := next, started := s.time, all := all, pos := some place, home := none, par := some [] } := by
  have hown := (KeepsOwn.twinCheck (s.scrubRefresh c i nvsOk) c hi nvsOk).own
  refine ⟨_, _, _, ?_, (scrubber_setScrubber_same ..).trans (by rw [hown])⟩
  rw [next_scrubRefresh]
  exact lt_next_start hdue (passNs_pos _)

theorem nvsErr_passStart_unreadable (hi : i < 2) : (s.passStart c i false).flag F.CTX_SCRUB_STAT_NVS_ERR c = true :=
  (KeepsOwn.twinCheck (s.scrubRefresh c i false) c hi false).nvsErr.trans (nvsErr_scrubRefresh_unreadable s c i)

theorem exec_scrubPassStart (hc : c < 4) (hi : i < 2) (hp : s.powered (dCfg c) = true) (hfloor : s.floorReset = 0)
    (hup : (s.scrubber c i).failed = false) (hdue : (s.scrubber c i).next ≤ s.time) (nvsOk : Bool) :
    exec (.scrubPassStart c i nvsOk []) s = .next (s.passStart c i nvsOk) :=
  congrArg Host.Outcome.next (if_pos ⟨hc, hi, hp, hfloor, hup, hdue⟩)

/-! ### Comparison (R396, R398, R399) -/

theorem planeFrame_eq_of_planes (h : t.planes = s.planes) (b p f : Nat) : t.planeFrame b p f = s.planeFrame b p f :=
  congrArg (fun x : Planes => mapGet (fun _ => 0) x.frames (slotFrames * (8 * b + p) + f)) h

/-- A clean codeword is read as it stands. -/
theorem slotRead_of_clean (h : (slotDecode (s.slotWord g f)).kind = .clean) :
    s.slotRead g f [] = (some (s.slotData g f), false, s.setSlotWord g f (s.slotWord g f)) := by
  unfold State.slotRead
  extract_lets cw o
  have hkind : o.kind = .clean := h
  have hdata : o.data = s.slotData g f := rfl
  clear_value o
  simp only [hkind, hdata, cw, List.foldl_nil]

/-- A hard fault's repair leaves the scrubbers. -/
theorem scrub_scrubHard (s : State) (c : Nat) (w : WatchEnt) : (s.scrubHard c w).scrub = s.scrub :=
  (ok_scrubHard (T0 := 0x420000100000000000004000017e00000000400000000014014ade) c w (ok_refl _ s) rfl).part .scrub rfl

theorem scrub_scrubLog (s : State) (c : Nat) (w : WatchEnt) : (s.scrubLog c w).scrub = s.scrub :=
  (ok_scrubLog (T0 := 0x18000000000000000000000000000000000) c w (ok_refl _ s) rfl).part .scrub rfl

/-- The restore of bit k of a frame whose home slot holds d. -/
def frameRestore (b p f d : Nat) (home : Option Nat) (k : Nat) : Restore := ⟨b, p, f, k, bitOf d k, home.getD 0⟩

/-- A mismatch, hard or not, enters the watch table and queues its restore (R399, R401). -/
theorem scrubber_mismatch (hro : votedRo (s.scrubber c i) = false) (b p f d k : Nat) (deliv : Bool) :
    ∃ watch, (s.mismatch c i b p f k (bitOf d k) deliv).scrubber c i = { s.scrubber c i with
      watch := watch
      restores := (s.scrubber c i).restores ++ [frameRestore b p f d (s.scrubber c i).home k] } := by
  simp only [State.mismatch, hro, Bool.false_eq_true, if_false]
  split
  · exact ⟨_, (scrubber_eq_of_scrub (scrub_scrubHard ..) c i).trans (scrubber_setScrubber_same ..)⟩
  · exact ⟨_, scrubber_setScrubber_same ..⟩

/-- The mismatches of a frame queue one restore each. -/
theorem scrubber_mismatches (b p f d : Nat) (deliv : Bool) (l : List Nat) (s : State)
    (hro : votedRo (s.scrubber c i) = false) :
    ∃ watch, (l.foldl (fun s k => s.mismatch c i b p f k (bitOf d k) deliv) s).scrubber c i = { s.scrubber c i with
      watch := watch
      restores := (s.scrubber c i).restores ++ l.map (frameRestore b p f d (s.scrubber c i).home) } := by
  induction l generalizing s with
  | nil => exact ⟨(s.scrubber c i).watch, by simp⟩
  | cons k l ih =>
    obtain ⟨w1, hone⟩ := scrubber_mismatch hro b p f d k deliv
    obtain ⟨w, hrest⟩ := ih _ (by rw [hone]; exact hro)
    refine ⟨w, hrest.trans ?_⟩
    simp [hone]

/-- A readable frame is compared whole, and each bit that differs queues its restore. -/
theorem compareFrame_of_clean (hclean : (slotDecode (s.slotWord g f)).kind = .clean)
    (hro : votedRo (s.scrubber c i) = false) (b p : Nat) :
    ∃ u watch, s.compareFrame c i b p f g [] [] = (true, u) ∧ u.scrubber c i = { s.scrubber c i with
      watch := watch
      restores := (s.scrubber c i).restores
        ++ (diffBits (s.planeFrame b p f) (s.slotData g f)).map (frameRestore b p f (s.slotData g f) (s.scrubber c i).home) } := by
  obtain ⟨watch, hmis⟩ := scrubber_mismatches (c := c) (i := i) b p f (s.slotData g f) false
    (diffBits (s.planeFrame b p f) (s.slotData g f)) (s.setSlotWord g f (s.slotWord g f)) hro
  refine ⟨_, watch, ?_, hmis⟩
  unfold State.compareFrame
  rw [slotRead_of_clean hclean]
  have hframe : (s.setSlotWord g f (s.slotWord g f)).planeFrame b p f = s.planeFrame b p f := planeFrame_eq_of_planes rfl b p f
  simp only [Bool.false_eq_true, if_false, hframe, List.filter_nil, ite_self, List.foldl_nil]

/-- Going on to the next plane keeps the restores. -/
theorem restores_scrubNext (s : State) (c i : Nat) (l : List (Nat × Nat)) :
    ((s.scrubNext c i l).scrubber c i).restores = (s.scrubber c i).restores := by
  unfold State.scrubNext
  dsimp only
  split
  · rw [scrubber_setScrubber_same]
  · rw [scrubber_eq_of_scrub (State.incWrap_scrub ..), scrubber_setScrubber_same]

/-- A frame of the running pass, its plane in scope and its home slot the one read. -/
theorem scrubCompare_of_frame {k : Nat} {u : State} (hpos : (s.scrubber c i).pos = some (k, p, f)) (hf : f ≠ 0)
    (hscope : s.inScope (16 * c + k) p = true) (hhome : s.home (16 * c + k) p = (s.scrubber c i).home)
    (hread : s.compareFrame c i (16 * c + k) p f (1024 * c + (s.scrubber c i).home.getD 0) [] [] = (true, u)) :
    s.scrubCompare c i [] [] [] = if f < 31828 then u.setScrubber c i { u.scrubber c i with pos := some (k, p, f + 1) }
      else u.scrubNext c i (planesAfter (scrubBenches i (s.scrubber c i).all) k p) := by
  simp only [State.scrubCompare, hpos, hf, false_and, if_false, hscope, hhome, Bool.true_eq_false, ne_eq, not_true_eq_false,
    or_self, List.foldl_nil, hread, Bool.true_and, decide_eq_true_eq, if_true]

/-- A header that reads clean is followed by frame 1. -/
theorem scrubHeader_of_clean (hhome : (s.scrubber c i).home = some g)
    (hclean : (slotDecode (s.slotWord (1024 * c + g) 0)).kind = .clean) (b p : Nat) (after : List (Nat × Nat)) :
    s.scrubHeader c i b p [] after = (s.setSlotWord (1024 * c + g) 0 (s.slotWord (1024 * c + g) 0)).setScrubber c i
      { s.scrubber c i with pos := some (b % 16, p, 1) } := by
  unfold State.scrubHeader
  dsimp only
  rw [hhome, Option.getD_some, slotRead_of_clean hclean]
  simp only [Bool.false_eq_true, if_false]

/-- The header of a home slot, its plane in scope and its home slot the one read. -/
theorem scrubCompare_of_header {k : Nat} (hpos : (s.scrubber c i).pos = some (k, p, 0))
    (hhome : (s.scrubber c i).home = some g) (hk : k < 16) (hscope : s.inScope (16 * c + k) p = true)
    (hslot : s.home (16 * c + k) p = some g) (hclean : (slotDecode (s.slotWord (1024 * c + g) 0)).kind = .clean) :
    s.scrubCompare c i [] [] [] = (s.setSlotWord (1024 * c + g) 0 (s.slotWord (1024 * c + g) 0)).setScrubber c i
      { s.scrubber c i with pos := some (k, p, 1) } := by
  have hbench : (16 * c + k) % 16 = k := by omega
  have hheader := scrubHeader_of_clean hhome hclean (16 * c + k) p (planesAfter (scrubBenches i (s.scrubber c i).all) k p)
  rw [hbench] at hheader
  simp only [State.scrubCompare, hpos, hhome, hscope, hslot, reduceCtorEq, and_false, if_false, Bool.true_eq_false, ne_eq,
    not_true_eq_false, or_self, if_true, hheader]

theorem exec_scrubFrameCompare (hc : c < 4) (hi : i < 2) (hp : s.powered (dCfg c) = true) (hfloor : s.floorReset = 0) :
    exec (.scrubFrameCompare c i [] [] []) s = .next (s.scrubCompare c i [] [] []) :=
  congrArg Host.Outcome.next (if_pos ⟨hc, hi, hp, hfloor⟩)

/-! ### Restores (R399) -/

theorem exec_scrubRestore (hc : c < 4) (hi : i < 2) (hp : s.powered (dCfg c) = true) (hfloor : s.floorReset = 0) :
    exec (.scrubRestore c i) s = .next (s.scrubRestore c i) :=
  congrArg Host.Outcome.next (if_pos ⟨hc, hi, hp, hfloor⟩)

/-- The footprint of the counts of a mismatch: registers alone. -/
theorem scrubCount_ok (s : State) (c b : Nat) : Ok 0x1000000000000000000004000000000000000000000000000000000 s (s.scrubCount c b) :=
  ok_scrubCount c b (ok_refl _ s) rfl

theorem planeFrame_setPlaneFrame_same (s : State) (b p f x : Nat) : (s.setPlaneFrame b p f x).planeFrame b p f = x % 2 ^ 512 :=
  mapGet_mapSet_same _ _ _ _

/-- The oldest restore leaves the queue, written or dropped. -/
theorem restores_scrubRestore {r : Restore} {rest : List Restore} (hr : (s.scrubber c i).restores = r :: rest) :
    ((s.scrubRestore c i).scrubber c i).restores = rest := by
  simp only [State.scrubRestore, hr]
  split
  · rw [scrubber_eq_of_scrub ((scrubCount_ok ..).part .scrub rfl)]
    exact congrArg Scrubber.restores (scrubber_setScrubber_same ..)
  · rw [scrubber_setScrubber_same]

/-- A restore whose plane and home stand is written. -/
theorem planeFrame_scrubRestore {r : Restore} {rest : List Restore} (hr : (s.scrubber c i).restores = r :: rest)
    (hst : s.planeSt r.bench r.plane = psReady) (hhome : s.home r.bench r.plane = some r.home) :
    (s.scrubRestore c i).planeFrame r.bench r.plane r.frame
      = putBits (s.planeFrame r.bench r.plane r.frame) r.bit 1 r.val % 2 ^ 512 := by
  simp only [State.scrubRestore, hr, hst, hhome, true_or, and_self, if_true]
  rw [planeFrame_eq_of_planes ((scrubCount_ok ..).part .planes rfl), planeFrame_setPlaneFrame_same]
  rfl

/-- A restore whose home has changed is dropped. -/
theorem planes_scrubRestore {r : Restore} {rest : List Restore} (hr : (s.scrubber c i).restores = r :: rest)
    (hhome : s.home r.bench r.plane ≠ some r.home) : (s.scrubRestore c i).planes = s.planes := by
  simp only [State.scrubRestore, hr, hhome, and_false, if_false]
  rfl

/-! ### State parity (R403) -/

/-- The parity groups of a frozen copy that fail. -/
def State.failedGroups (s : State) (b p : Nat) : List Nat :=
  (upTo 512).flatMap fun j => (s.parityBad b p j).map fun g => 64 * j + g

theorem failedGroups_eq_nil_iff (s : State) (b p : Nat) :
    s.failedGroups b p = [] ↔ ((upTo 512).any fun j => !(s.parityBad b p j).isEmpty) = false := by
  simp [State.failedGroups]

/-- Scrubber i has checked the plane's state in its pass. -/
def State.stateChecked (s : State) (b p i : Nat) : State :=
  s.setScrubber (benchCol b) i
    { s.scrubber (benchCol b) i with par := (s.scrubber (benchCol b) i).par.map fun l => l ++ [8 * b + p] }

theorem exec_scrubStateParityCheck (hb : b < 64) (hp : p < 8) (hcfg : s.powered (dCfg (benchCol b)) = true)
    (hup : s.benchUp b = true) (hfloor : s.floorReset = 0) (hst : s.planeSt b p = psReady)
    (hi : s.stateScrubber b p = some i) : exec (.scrubStateParityCheck b p []) s
      = .next ((s.failedGroups b p).foldl (fun s g => s.parityFail b p g) (s.stateChecked b p i)) := by
  refine congrArg Host.Outcome.next ((if_pos ⟨hb, hp, hcfg, hup, hfloor, hst, by rw [hi]; rfl⟩).trans ?_)
  rw [hi, State.failedGroups, List.flatMap_eq_foldl]
  rfl

/-- What a repeated failure starts leaves CTX_SCRUB_BENCH. -/
theorem perr_parityNote (s : State) (b p grp px : Nat) :
    (s.parityNote b p grp px).get F.CTX_SCRUB_BENCH_PERR b = s.get F.CTX_SCRUB_BENCH_PERR b := by
  have hok := ok_parityNote (T0 := 0x420000100000000000000000017e00000000000000000014014adc) b p grp px (ok_refl _ s) rfl
  exact congrArg (fun v : Word => bitsOf v.toNat F.CTX_SCRUB_BENCH_PERR.lo F.CTX_SCRUB_BENCH_PERR.w) (hok.reg .CTX_SCRUB_BENCH b rfl)

/-- A failure not reported yet for this freezing sets the plane's bit. -/
theorem perr_parityFail_of_new {grp : Nat} (hp : p < 8)
    (hnew : (mapGet (fun _ => []) s.planes.parSeen (8 * b + p) : List Nat).contains (32768 + grp) = false) :
    bitOf ((s.parityFail b p grp).get F.CTX_SCRUB_BENCH_PERR b) p = 1 := by
  unfold State.parityFail
  dsimp only
  rw [if_neg (ne_true_of_eq_false hnew), perr_parityNote, State.wlog_get, State.raise_get, get_set_same _ _ _ _ (by decide)]
  exact (bitOf_mod_two_pow _ hp).trans (bitOf_lor_two_pow ..)

/-- A later failure leaves a bit of PERR that is set. -/
theorem perr_parityFail_of_set {grp : Nat} (hp : p < 8) (hset : bitOf (s.get F.CTX_SCRUB_BENCH_PERR b) p = 1) :
    bitOf ((s.parityFail b p grp).get F.CTX_SCRUB_BENCH_PERR b) p = 1 := by
  cases hseen : (mapGet (fun _ => []) s.planes.parSeen (8 * b + p) : List Nat).contains (32768 + grp) with
  | false => exact perr_parityFail_of_new hp hseen
  | true => 
    unfold State.parityFail
    rwa [if_pos hseen]

theorem perr_parityFails_of_set (hp : p < 8) (l : List Nat) (s : State)
    (hset : bitOf (s.get F.CTX_SCRUB_BENCH_PERR b) p = 1) :
    bitOf ((l.foldl (fun s g => s.parityFail b p g) s).get F.CTX_SCRUB_BENCH_PERR b) p = 1 := by
  induction l generalizing s with
  | nil => exact hset
  | cons grp l ih => exact ih _ (perr_parityFail_of_set hp hset)

/-- A frozen copy with a failure, none of it reported yet, has its plane marked. -/
theorem perr_parityFails {l : List Nat} (hp : p < 8) (hl : l ≠ [])
    (hnew : mapGet (fun _ => []) s.planes.parSeen (8 * b + p) = ([] : List Nat)) :
    bitOf ((l.foldl (fun s g => s.parityFail b p g) s).get F.CTX_SCRUB_BENCH_PERR b) p = 1 := by
  obtain ⟨grp, l, rfl⟩ := List.exists_cons_of_ne_nil hl
  exact perr_parityFails_of_set hp l _ (perr_parityFail_of_new hp (by rw [hnew]; rfl))

/-- Settles O30: a pass starts with the record of its Refresh (`scrubber_passStart`), which the check of the twin leaves
(`KeepsOwn`); a frame's mismatches queue one restore each (`scrubber_mismatches`), since no repair they start touches a scrubber
(`scrub_scrubHard`); and a failing group sets the plane's bit of PERR, which nothing after it clears (`perr_parityFails`). -/
theorem scrubbing : Obligations.Scrubbing := by
  unfold Obligations.Scrubbing
  refine ⟨fun s c i nvsOk hc hi hp hfloor hup hdue => ?_, fun s c i k p f g hc hi hp hfloor hpos hf hscope hhome hg hro hclean => ?_,
    fun s c i k p g hc hi hp hfloor hpos hhome hk hscope hslot hclean => ?_, fun s c i r rest hc hi hp hfloor hr => ?_,
    fun s b p i hb hp hcfg hup hfloor hst hi hseen => ?_⟩
  · obtain ⟨next, all, place, hlt, hown⟩ := scrubber_passStart hi hdue nvsOk
    refine ⟨_, exec_scrubPassStart hc hi hp hfloor hup hdue nvsOk, ?_⟩
    rw [hown]
    refine ⟨rfl, rfl, hlt, ?_, ?_⟩
    · rintro rfl
      rw [scrubber_scrubRefresh_readable]
      exact majority_same _
    · rintro rfl
      rw [scrubber_scrubRefresh_unreadable]
      exact ⟨nvsErr_passStart_unreadable hi, rfl⟩
  · subst hg
    obtain ⟨u, watch, hread, hu⟩ := compareFrame_of_clean hclean hro (16 * c + k) p
    refine ⟨_, exec_scrubFrameCompare hc hi hp hfloor, ?_⟩
    rw [scrubCompare_of_frame hpos hf hscope hhome hread]
    by_cases hlast : f < 31828
    · simp [hlast, hu]
    · simp [hlast, restores_scrubNext, hu]
  · refine ⟨_, exec_scrubFrameCompare hc hi hp hfloor, ?_⟩
    rw [scrubCompare_of_header hpos hhome hk hscope hslot hclean]
    exact ⟨by rw [scrubber_setScrubber_same], rfl⟩
  · exact ⟨_, exec_scrubRestore hc hi hp hfloor, restores_scrubRestore hr, planeFrame_scrubRestore hr, planes_scrubRestore hr⟩
  · refine ⟨_, exec_scrubStateParityCheck hb hp hcfg hup hfloor hst hi, fun hbad => ?_, fun hgood => ?_⟩
    · have hsome : s.failedGroups b p ≠ [] := fun h => absurd (hbad.symm.trans ((failedGroups_eq_nil_iff s b p).1 h)) (by decide)
      exact perr_parityFails hp hsome hseen
    · rw [(failedGroups_eq_nil_iff s b p).2 hgood]
      rfl

end Sys2Proof.Machine
end

section
/-!
SUPPORT. The PCI Express ports' part of the state (R413 to R433): fields and flags read after writes and across a footprint, TAGs,
configuration spaces and engines read after writes, and what the network takes from a port.
-/

namespace Sys2Proof.Machine

variable {s t : State} {x i fn : Nat} {r : BarReq}

/-! ### Fields and flags -/

/-- Whether a one-bit field that has been written reads as set. -/
theorem flag_set_same (s : State) (f : Fld) (i v : Nat) (h : f.lo + f.w ≤ 32) : (s.set f i v).flag f i = (v % 2 ^ f.w == 1) := by
  rw [State.flag, get_set_same s f i v h]

/-- A flag keeps its value when bits beside it are written. -/
theorem flag_set_apart (s : State) (f f2 : Fld) (i i2 v : Nat) (hf : f.lo + f.w ≤ 32)
    (h : f2.reg ≠ f.reg ∨ f2.lo + f2.w ≤ f.lo ∨ f.lo + f.w ≤ f2.lo) : (s.set f i v).flag f2 i2 = s.flag f2 i2 := by
  rw [State.flag, get_set_apart s f f2 i i2 v hf h, State.flag]

theorem get_incBy_apart (s : State) (f f2 : Fld) (i i2 n : Nat) (hf : f.lo + f.w ≤ 32)
    (h : f2.reg ≠ f.reg ∨ f2.lo + f2.w ≤ f.lo ∨ f.lo + f.w ≤ f2.lo) : (s.incBy f i n).get f2 i2 = s.get f2 i2 :=
  get_set_apart s f f2 i i2 _ hf h

/-- A field of a register outside the footprint keeps its value. -/
theorem get_of_ok {T : Nat} (h : Ok T s t) {f : Fld} (i : Nat) (hT : T.testBit (64 + f.reg.ctorIdx) = false := by decide) :
    t.get f i = s.get f i := by
  rw [State.get, h.reg f.reg i hT, State.get]

/-- A flag of a register outside the footprint keeps its value. -/
theorem flag_of_ok {T : Nat} (h : Ok T s t) {f : Fld} (i : Nat) (hT : T.testBit (64 + f.reg.ctorIdx) = false := by decide) :
    t.flag f i = s.flag f i := by
  rw [State.flag, get_of_ok h i hT, State.flag]

/-- Fields and flags stand in the registers. -/
theorem get_of_regs (h : t.regs = s.regs) (f : Fld) (i : Nat) : t.get f i = s.get f i := by
  unfold State.get State.reg
  rw [h]

theorem flag_of_regs (h : t.regs = s.regs) (f : Fld) (i : Nat) : t.flag f i = s.flag f i := by
  rw [State.flag, get_of_regs h, State.flag]

theorem get_clearReg (s : State) {f : Fld} {r : Reg} (i : Nat) (h : f.reg = r) :
    (s.clearReg r i).get f i = bitsOf (regReset r i).toNat f.lo f.w := by
  rw [State.get, h, State.clearReg, reg_setReg_same]

/-- A footprint without bit 7 keeps the PCI Express ports. -/
theorem pcie_of_ok {T : Nat} (h : Ok T s t) (hT : T.testBit 7 = false := by rfl) : t.pcie = s.pcie := h.part .pcie hT

/-! ### TAGs, configuration spaces and engines -/

theorem pcie_setFtag (s : State) (x i : Nat) (g : FloorTag) :
    (s.setFtag x i g).pcie = { s.pcie with ftags := mapSet (fun _ => {}) s.pcie.ftags (512 * x + i) g } := rfl

theorem pcie_setDmaEng (s : State) (x : Nat) (e : DmaEng) :
    (s.setDmaEng x e).pcie = { s.pcie with dma := mapSet (fun _ => {}) s.pcie.dma x e } := rfl

theorem ftag_of_pcie (h : t.pcie.ftags = s.pcie.ftags) (x i : Nat) : t.ftag x i = s.ftag x i := by
  unfold State.ftag
  rw [h]

theorem cfg_of_pcie (h : t.pcie.cfg = s.pcie.cfg) (x fn : Nat) : t.cfg x fn = s.cfg x fn := by
  unfold State.cfg
  rw [h]

theorem dmaEng_of_pcie (h : t.pcie.dma = s.pcie.dma) (x : Nat) : t.dmaEng x = s.dmaEng x := by
  unfold State.dmaEng
  rw [h]

@[simp] theorem ftag_setFtag_same (s : State) (x i : Nat) (g : FloorTag) : (s.setFtag x i g).ftag x i = g :=
  mapGet_mapSet_same _ _ _ _

@[simp] theorem cfg_resetCfg_same (s : State) (x fn : Nat) : (s.resetCfg x fn).cfg x fn = {} :=
  mapGet_mapSet_same (fun _ => ({} : CfgSpace)) s.pcie.cfg (cfgKey x fn) {}

/-- A configuration space at its reset values stays there through a reset of any function. -/
theorem cfg_resetCfg_of_reset (h : s.cfg x fn = {}) (y gn : Nat) : (s.resetCfg y gn).cfg x fn = {} := by
  by_cases hkey : cfgKey x fn = cfgKey y gn
  · unfold State.cfg
    rw [hkey]
    exact cfg_resetCfg_same s y gn
  · exact (mapGet_mapSet_ne (fun _ => ({} : CfgSpace)) s.pcie.cfg {} hkey).trans h

theorem dmaEng_set (s : State) (f : Fld) (i v x : Nat) : (s.set f i v).dmaEng x = s.dmaEng x :=
  dmaEng_of_pcie (by rw [State.set_pcie]) x

theorem dmaEng_setFtag (s : State) (y i : Nat) (g : FloorTag) (x : Nat) : (s.setFtag y i g).dmaEng x = s.dmaEng x :=
  dmaEng_of_pcie (by rw [pcie_setFtag]) x

theorem ftag_setDmaEng (s : State) (y : Nat) (e : DmaEng) (x i : Nat) : (s.setDmaEng y e).ftag x i = s.ftag x i :=
  ftag_of_pcie (by rw [pcie_setDmaEng]) x i

theorem out_setDmaEng (s : State) (x : Nat) (e : DmaEng) : (s.setDmaEng x e).out = s.out := by
  unfold State.setDmaEng
  rw [State.set_out]

@[simp] theorem dmaEng_setDmaEng_same (s : State) (x : Nat) (e : DmaEng) : (s.setDmaEng x e).dmaEng x = e :=
  mapGet_mapSet_same _ _ _ _

/-- An engine's new state shows in IDLE alone of the registers (R433). -/
theorem get_setDmaEng (s : State) (x : Nat) (e : DmaEng) (f : Fld) (i : Nat)
    (h : f.reg ≠ F.PCIE_DMA_CTL_IDLE.reg ∨ f.lo + f.w ≤ F.PCIE_DMA_CTL_IDLE.lo
      ∨ F.PCIE_DMA_CTL_IDLE.lo + F.PCIE_DMA_CTL_IDLE.w ≤ f.lo) : (s.setDmaEng x e).get f i = s.get f i :=
  get_set_apart _ F.PCIE_DMA_CTL_IDLE f x i _ (by decide) h

theorem flag_setDmaEng (s : State) (x : Nat) (e : DmaEng) (f : Fld) (i : Nat)
    (h : f.reg ≠ F.PCIE_DMA_CTL_IDLE.reg ∨ f.lo + f.w ≤ F.PCIE_DMA_CTL_IDLE.lo
      ∨ F.PCIE_DMA_CTL_IDLE.lo + F.PCIE_DMA_CTL_IDLE.w ≤ f.lo) : (s.setDmaEng x e).flag f i = s.flag f i := by
  rw [State.flag, get_setDmaEng s x e f i h, State.flag]

/-! ### An engine's events (R428) -/

theorem pcie_dmaEvt (s : State) (x bit : Nat) : (s.dmaEvt x bit).pcie = s.pcie := State.raise_pcie ..

theorem dmaEng_dmaEvt (s : State) (x bit y : Nat) : (s.dmaEvt x bit).dmaEng y = s.dmaEng y :=
  dmaEng_of_pcie (by rw [pcie_dmaEvt]) y

theorem get_dmaEvt (s : State) (x bit : Nat) (f : Fld) (i : Nat) : (s.dmaEvt x bit).get f i = s.get f i := State.raise_get ..

theorem flag_dmaEvt (s : State) (x bit : Nat) (f : Fld) (i : Nat) : (s.dmaEvt x bit).flag f i = s.flag f i := State.raise_flag ..

theorem out_dmaEvt (s : State) (x bit : Nat) : (s.dmaEvt x bit).out = s.out := State.raise_out ..

/-! ### What a port injects -/

theorem pcie_inject (s : State) (id h : Nat) (data : List (Nat × Bool)) : (s.inject id h data).pcie = s.pcie :=
  pcie_of_ok (ok_inject (T0 := 0x404) id h data (ok_refl _ s) rfl)

/-- A flit that is injected takes no output back. -/
theorem out_injFlit (s : State) (k l : Nat) (p : InjPkt) : s.out <:+ (s.injFlit k l p).2.out := by
  unfold State.injFlit
  dsimp only
  split
  · exact List.suffix_cons ..
  · split
    · exact List.suffix_rfl
    · exact List.suffix_cons ..

theorem out_injRun (k l fuel : Nat) (p : InjPkt) (s : State) : s.out <:+ (s.injRun k l fuel p).2.out := by
  induction fuel generalizing s p with
  | zero => exact List.suffix_rfl
  | succ fuel ih =>
    unfold State.injRun
    split
    · have hflit := out_injFlit s k l p
      split
      · simpa [*] using hflit
      · rename_i q u hu
        rw [hu] at hflit
        exact hflit.trans (ih q u)
    · exact List.suffix_rfl

theorem out_injMove (s : State) (k l : Nat) : s.out <:+ (s.injMove k l).out := by
  unfold State.injMove
  refine List.foldlRecOn (motive := fun acc : List InjPkt × State => s.out <:+ acc.2.out) _ _ List.suffix_rfl
    fun acc hacc p _ => ?_
  split
  · exact hacc
  · have hrun := out_injRun k l 66 p acc.2
    split
    all_goals
      rename_i hu
      rw [hu] at hrun
      exact hacc.trans hrun

theorem out_inject (s : State) (id h : Nat) (data : List (Nat × Bool)) : s.out <:+ (s.inject id h data).out := by
  unfold State.inject
  exact out_injMove (s.setInj _ _) _ _

/-- Accesses that enter the network change the ports in their list of accesses alone. -/
theorem pcie_issueBars (s : State) (x : Nat) : ∃ bars, (s.issueBars x).pcie = { s.pcie with bars := bars } := by
  unfold State.issueBars
  split
  · exact ⟨_, rfl⟩
  · refine ⟨_, congrArg (fun p : Pcie => ({ p with bars := _ } : Pcie)) ?_⟩
    refine List.foldlRecOn (motive := fun acc : List BarReq × State => acc.2.pcie = s.pcie) _ _ rfl fun acc hacc q _ => ?_
    dsimp only
    split
    · exact (pcie_inject ..).trans hacc
    · exact hacc

theorem ftag_issueBars (s : State) (y x i : Nat) : (s.issueBars y).ftag x i = s.ftag x i := by
  obtain ⟨bars, hbars⟩ := pcie_issueBars s y
  exact ftag_of_pcie (by rw [hbars]) x i

theorem out_issueBars (s : State) (x : Nat) : s.out <:+ (s.issueBars x).out := by
  unfold State.issueBars
  split
  · exact List.suffix_rfl
  · refine List.foldlRecOn (motive := fun acc : List BarReq × State => s.out <:+ acc.2.out) _ _ List.suffix_rfl
      fun acc hacc q _ => ?_
    dsimp only
    split
    · exact hacc.trans (out_inject ..)
    · exact hacc

/-- An access that its end point does not answer itself is carried, and holds its TAG (R322). -/
theorem ftag_barCarry_busy {m : Bool} (h : s.localStatus m r.addr r.len = none) :
    ((s.barCarry r (some m)).ftag r.port r.ht).busy = true := by
  unfold State.barCarry
  simp only [h, ftag_issueBars]
  exact congrArg FloorTag.busy (ftag_setFtag_same ..)

/-- An access leaves its port's list, and its TAG is free. -/
def State.barLeft (s : State) (r : BarReq) : State :=
  let u := s.setFtag r.port r.ht { s.ftag r.port r.ht with busy := false }
  { u with pcie := { u.pcie with bars := u.pcie.bars.erase r } }

theorem barClose_eq (s : State) (r : BarReq) : s.barClose r = (s.barLeft r).issueBars r.port := rfl

/-- An access that has ended frees its TAG (R322). -/
theorem ftag_barClose_free (s : State) (r : BarReq) : ((s.barClose r).ftag r.port r.ht).busy = false := by
  rw [barClose_eq, ftag_issueBars]
  exact congrArg FloorTag.busy (ftag_setFtag_same ..)

/-- The end of an access takes no output back. -/
theorem out_barClose (s : State) (r : BarReq) : s.out <:+ (s.barClose r).out := out_issueBars (s.barLeft r) r.port

end Sys2Proof.Machine
end

section
/-!
SUPPORT. The copy rings of the PCI Express ports (R425 to R433): their registers' writes, a descriptor's fetch, its pieces and its
write-back. O11.
-/

namespace Sys2Proof.Machine

variable {s : State} {src : Src} {x i j : Nat} {v : Word} {d : DmaDesc} {p : DmaPiece}

/-! ### The rings' registers (R433) -/

/-- A write of PCIE_DMA_CTL_x leaves EN as written. -/
theorem flag_en_dmaCtlWrite (s : State) (x : Nat) (v : Word) :
    (s.dmaCtlWrite x v).flag F.PCIE_DMA_CTL_EN x = (fldOf F.PCIE_DMA_CTL_EN v == 1) := by
  have hen : fldOf F.PCIE_DMA_CTL_EN v % 2 ^ 1 = fldOf F.PCIE_DMA_CTL_EN v := Nat.mod_eq_of_lt (bitsOf_lt ..)
  unfold State.dmaCtlWrite
  dsimp only
  split
  all_goals
    simp (disch := decide) only [flag_setDmaEng, flag_set_apart, flag_set_same]
    exact congrArg (· == 1) hen

/-- A ring that a write enables starts empty, with the size written, held to its range. -/
theorem dmaCtlWrite_starts (hoff : s.flag F.PCIE_DMA_CTL_EN x = false) (hen : fldOf F.PCIE_DMA_CTL_EN v = 1) :
    (s.dmaCtlWrite x v).get F.PCIE_DMA_PROD_PROD x = 0 ∧ (s.dmaCtlWrite x v).get F.PCIE_DMA_CONS_CONS x = 0
      ∧ (s.dmaCtlWrite x v).get F.PCIE_DMA_CTL_SIZE_EXP x = clampNat 4 16 (fldOf F.PCIE_DMA_CTL_SIZE_EXP v)
      ∧ ((s.dmaCtlWrite x v).dmaEng x).fetchIdx = 0 := by
  have hsize : clampNat 4 16 (fldOf F.PCIE_DMA_CTL_SIZE_EXP v) < 2 ^ 5 :=
    lt_of_le_of_lt (clampNat_mem (by decide) _).2 (by decide)
  unfold State.dmaCtlWrite
  simp (disch := decide) only [hoff, hen, and_self, if_true, Bool.false_eq_true, if_false, get_setDmaEng, get_set_apart, get_set_same,
    dmaEng_setDmaEng_same]
  exact ⟨rfl, rfl, Nat.mod_eq_of_lt hsize, trivial⟩

/-- A producer index outside the ring, or one that would turn a non-empty ring to empty, is ignored with PROD_ERR (R428). -/
theorem dmaProdWrite_refused (h : s.dmaRingSize x ≤ fldOf F.PCIE_DMA_PROD_PROD v) :
    s.dmaProdWrite x v = s.set F.PCIE_DMA_CTL_PROD_ERR x 1 := if_pos (.inl h)

theorem dmaProdWrite_taken (hin : fldOf F.PCIE_DMA_PROD_PROD v < s.dmaRingSize x)
    (hpending : ¬(fldOf F.PCIE_DMA_PROD_PROD v = s.get F.PCIE_DMA_CONS_CONS x
      ∧ s.get F.PCIE_DMA_PROD_PROD x ≠ s.get F.PCIE_DMA_CONS_CONS x)) :
    s.dmaProdWrite x v = s.set F.PCIE_DMA_PROD_PROD x (fldOf F.PCIE_DMA_PROD_PROD v) :=
  if_neg (not_or.2 ⟨not_le.2 hin, hpending⟩)

/-! ### Descriptors (R427, R428) -/

/-- The engine of port x may fetch a descriptor: its ring is enabled and has one that it has not fetched, and it has room. -/
structure State.Fetches (s : State) (x : Nat) : Prop where
  port : x < 2
  live : s.portLive x = true
  up : s.floorReset = 0
  enabled : s.flag F.PCIE_DMA_CTL_EN x = true
  room : (s.dmaEng x).descs.length < 8
  behind : (s.dmaEng x).fetchIdx ≠ s.get F.PCIE_DMA_PROD_PROD x

theorem exec_dmaDescFetch_word (h : s.Fetches x) (w : Nat) :
    exec (.dmaDescFetch x (some w)) s = .next (s.dmaStart x (w % 2 ^ 256)) :=
  congrArg Host.Outcome.next (if_pos ⟨h.port, h.live, h.up, h.enabled, h.room, h.behind⟩)

theorem exec_dmaDescFetch_error (h : s.Fetches x) : exec (.dmaDescFetch x none) s
    = .next (((s.set F.PCIE_DMA_CTL_EN x 0).set F.PCIE_DMA_CTL_FETCH_ERR x 1).dmaEvt x 2) :=
  congrArg Host.Outcome.next (if_pos ⟨h.port, h.live, h.up, h.enabled, h.room, h.behind⟩)

/-- A fetched descriptor joins those in progress, and the next one is fetched next. -/
theorem dmaEng_dmaStart (s : State) (x w : Nat) : ((s.dmaStart x w).dmaEng x).descs.length = (s.dmaEng x).descs.length + 1
    ∧ ((s.dmaStart x w).dmaEng x).fetchIdx = ((s.dmaEng x).fetchIdx + 1) % s.dmaRingSize x := by
  unfold State.dmaStart
  simp

@[simp] theorem descs_setDesc (s : State) (x j : Nat) (d : DmaDesc) :
    ((s.setDesc x j d).dmaEng x).descs = (s.dmaEng x).descs.set j d :=
  congrArg DmaEng.descs (dmaEng_setDmaEng_same ..)

/-! ### Pieces (R427) -/

theorem dmaEng_inject (s : State) (id h : Nat) (data : List (Nat × Bool)) (x : Nat) :
    (s.inject id h data).dmaEng x = s.dmaEng x := dmaEng_of_pcie (by rw [pcie_inject]) x

theorem ftag_inject (s : State) (id h : Nat) (data : List (Nat × Bool)) (x i : Nat) :
    (s.inject id h data).ftag x i = s.ftag x i := ftag_of_pcie (by rw [pcie_inject]) x i

theorem ftag_setDesc (s : State) (x j : Nat) (d : DmaDesc) (y i : Nat) : (s.setDesc x j d).ftag y i = s.ftag y i :=
  ftag_setDmaEng ..

/-- A piece that is issued holds its TAG, and its descriptor has the later pieces still to issue. -/
theorem dmaIssue_outcome {a n : Nat} {rest : List (Nat × Nat)} {host : Option (List Byte)} (hdesc : (s.dmaEng x).descs[j]? = some d)
    (hlocal : s.localStatus false a n = none) (hdata : dsToHost d.word = true ∨ host ≠ none) :
    ((s.dmaIssue x j i d host a n rest).ftag (engOf x) i).busy = true
      ∧ (((s.dmaIssue x j i d host a n rest).dmaEng x).descs[j]?.map fun y => y.todo) = some rest := by
  have hj : j < (s.dmaEng x).descs.length := (List.getElem?_eq_some_iff.1 hdesc).1
  have hhost : ¬(dsToHost d.word = false ∧ host = none) := fun ⟨hdir, hnone⟩ =>
    hdata.elim (fun h => absurd (hdir.symm.trans h) (by decide)) fun h => h hnone
  unfold State.dmaIssue
  simp only [hlocal, if_neg hhost, ftag_inject, dmaEng_inject, dmaEng_setFtag, ftag_setFtag_same, descs_setDesc]
  simp [hj]

theorem ftag_dmaHostWrites (x y i : Nat) (fuel a : Nat) (bs : List Byte) (s : State) :
    (s.dmaHostWrites x fuel a bs).ftag y i = s.ftag y i := by
  induction fuel generalizing s a bs with
  | zero => rfl
  | succ fuel ih =>
    unfold State.dmaHostWrites
    split
    · rfl
    · exact ih ..

/-- The piece found under a TAG holds it. -/
theorem ht_of_pieceOf (h : s.pieceOf x i = some (j, d, p)) : p.ht = i := by
  obtain ⟨k, -, hk⟩ := List.exists_of_findSome?_eq_some h
  split at hk
  · exact absurd hk (by simp)
  · split at hk
    · exact absurd hk (by simp)
    · rename_i hfind
      obtain ⟨-, -, rfl⟩ : _ ∧ _ ∧ _ := by simpa using hk
      simpa using List.find?_some hfind

/-- A response frees its piece's TAG (R322), whatever its status. -/
theorem ftag_dmaPieceEnd_free (s : State) (x j : Nat) (d : DmaDesc) (p : DmaPiece) (st : Nat) (flits : List (Nat × Bool)) :
    ((s.dmaPieceEnd x j d p st flits).ftag (engOf x) p.ht).busy = false := by
  unfold State.dmaPieceEnd
  dsimp only
  split
  · split
    · rw [ftag_dmaHostWrites, ftag_setDesc, ftag_setFtag_same]
    · rw [ftag_setDesc, ftag_setFtag_same]
  · rw [ftag_setDesc, ftag_setFtag_same]

theorem exec_dmaPieceComplete_issue {a n : Nat} {rest : List (Nat × Nat)} {host : Option (List Byte)} (hx : x < 2)
    (hp : s.powered (dPcie x) = true) (hup : s.floorReset = 0) (hdesc : (s.dmaEng x).descs[j]? = some d)
    (htodo : d.todo = (a, n) :: rest) (hgoes : (s.ftagFree (engOf x) i && !s.floorHolds x
      && s.floorRoom (engOf x) (!dsToHost d.word) a n && s.injReady (pcieId x) clsReq && s.descTurn x j d) = true) :
    exec (.dmaPieceComplete x (.issue j i host)) s = .next (s.dmaIssue x j i d host a n rest) := by
  refine congrArg Host.Outcome.next ((if_pos ⟨hx, hp, hup⟩).trans ?_)
  simp only [hdesc, htodo, hgoes, if_true]

theorem exec_dmaPieceComplete_answer {hdr : Nat} {flits : List (Nat × Bool)} (hx : x < 2) (hp : s.powered (dPcie x) = true)
    (hup : s.floorReset = 0) (hsound : rspSound hdr flits = true) (hpiece : s.pieceOf x (hTag hdr % 2 ^ 9) = some (j, d, p))
    (hgen : (s.ftag (engOf x) (hTag hdr % 2 ^ 9)).gen = hTag hdr / 2 ^ 9) :
    exec (.dmaPieceComplete x (.answer hdr flits)) s = .next (s.dmaPieceEnd x j d p (rspStatus hdr flits) flits) := by
  refine congrArg Host.Outcome.next ((if_pos ⟨hx, hp, hup⟩).trans ?_)
  simp only [hsound, hpiece, if_pos hgen, Bool.not_true, Bool.false_eq_true, if_false]

/-! ### Write-back (R427) -/

/-- The 8 bytes that a finished descriptor's write-back writes: its last, with STATUS and DONE. -/
def DmaDesc.statusBytes (d : DmaDesc) : List Byte := leBytes 8 (putBits (putBits (bitsOf d.word 192 64) 0 8 d.status) 31 1 1)

/-- Where the host reads the last 8 bytes of a descriptor of port x. -/
def State.statusAddr (s : State) (x : Nat) (d : DmaDesc) : Nat :=
  s.get F.PCIE_DMA_BASE_LO_BASE_LO x * 2 ^ 12 + s.get F.PCIE_DMA_BASE_HI_BASE_HI x * 2 ^ 32 + 32 * d.idx + 24

/-- The oldest descriptor leaves the engine, its status goes to the host, and CONS moves on. -/
def State.writtenBack (s : State) (x : Nat) (d : DmaDesc) (rest : List DmaDesc) : State :=
  ((s.emit (.hostWrite x (s.statusAddr x d) d.statusBytes)).setDmaEng x { s.dmaEng x with descs := rest }).set F.PCIE_DMA_CONS_CONS x
    ((s.get F.PCIE_DMA_CONS_CONS x + 1) % s.dmaRingSize x)

theorem exec_dmaWriteback_whole {rest : List DmaDesc} (hx : x < 2) (hup : s.floorReset = 0) (hdescs : (s.dmaEng x).descs = d :: rest)
    (hwhole : d.whole = true) : exec (.dmaWriteback x) s
      = .next (if d.status ≠ 0 then (s.writtenBack x d rest).dmaEvt x 1
        else if dsIrq d.word then (s.writtenBack x d rest).dmaEvt x 0 else s.writtenBack x d rest) := by
  refine congrArg Host.Outcome.next ?_
  split
  · rename_i hnil
    exact absurd (hdescs.symm.trans hnil) (by simp)
  · rename_i e es hcons
    obtain ⟨rfl, rfl⟩ := List.cons.inj (hdescs.symm.trans hcons)
    exact if_pos ⟨hx, hwhole, hup⟩

theorem writtenBack_outcome (s : State) (x : Nat) (d : DmaDesc) (rest : List DmaDesc) :
    ((s.writtenBack x d rest).dmaEng x).descs = rest
      ∧ (s.writtenBack x d rest).get F.PCIE_DMA_CONS_CONS x = (s.get F.PCIE_DMA_CONS_CONS x + 1) % s.dmaRingSize x % 2 ^ 16
      ∧ (s.writtenBack x d rest).out = .hostWrite x (s.statusAddr x d) d.statusBytes :: s.out := by
  unfold State.writtenBack
  refine ⟨?_, get_set_same _ _ _ _ (by decide), ?_⟩
  · rw [dmaEng_set, dmaEng_setDmaEng_same]
  · rw [State.set_out, out_setDmaEng]
    rfl

/-- The event of a write-back reaches neither the engine, nor CONS, nor the outputs. -/
theorem writtenBack_dmaEvt_outcome (s : State) (x : Nat) (d : DmaDesc) (rest : List DmaDesc) (bit : Nat) :
    (((s.writtenBack x d rest).dmaEvt x bit).dmaEng x).descs = rest
      ∧ ((s.writtenBack x d rest).dmaEvt x bit).get F.PCIE_DMA_CONS_CONS x
        = (s.get F.PCIE_DMA_CONS_CONS x + 1) % s.dmaRingSize x % 2 ^ 16
      ∧ ((s.writtenBack x d rest).dmaEvt x bit).out = .hostWrite x (s.statusAddr x d) d.statusBytes :: s.out := by
  rw [dmaEng_dmaEvt, get_dmaEvt, out_dmaEvt]
  exact writtenBack_outcome s x d rest

/-- Settles O11: EN, the indices and the size after a write of PCIE_DMA_CTL_x (`flag_en_dmaCtlWrite`, `dmaCtlWrite_starts`), PROD's two
outcomes, a descriptor's fetch (`dmaEng_dmaStart`), a piece's TAG taken and freed (`dmaIssue_outcome`, `ftag_dmaPieceEnd_free`; log
entry 54), and the state that a write-back leaves (`State.writtenBack`). -/
theorem copyRings : Obligations.CopyRings := by
  unfold Obligations.CopyRings
  refine ⟨fun s src x v hw hen => ?_, fun s src x v hw hen => ?_, fun s src x v hw => ?_,
    fun s x word hx hlive hup hen hroom hbehind => ?_,
    fun s x j i a n host d rest hx hp hup hdesc htodo hfree hholds hroom hready hturn hlocal hdata => ?_,
    fun s x hdr j flits d p hx hp hup hsound hpiece hgen => ?_, fun s x d rest hx hup hdescs hwhole => ?_⟩
  · refine ⟨_, congrArg Host.Outcome.next (if_pos ⟨hw, hen⟩), ?_, fun hoff => dmaCtlWrite_starts hoff hen⟩
    rw [flag_en_dmaCtlWrite, hen]
    rfl
  · refine ⟨_, congrArg Host.Outcome.next (if_pos ⟨hw, hen⟩), ?_⟩
    rw [flag_en_dmaCtlWrite, hen]
    rfl
  · refine ⟨_, congrArg Host.Outcome.next (if_pos hw), fun hin hpending => ?_, fun hout => ?_⟩
    · rw [dmaProdWrite_taken hin hpending, get_set_same _ _ _ _ (by decide)]
      exact Nat.mod_eq_of_lt (bitsOf_lt ..)
    · rw [dmaProdWrite_refused hout, flag_set_same _ _ _ _ (by decide), get_set_apart _ _ _ _ _ _ (by decide) (by decide)]
      exact ⟨rfl, rfl⟩
  · have hfetches : s.Fetches x := ⟨hx, hlive, hup, hen, hroom, hbehind⟩
    cases word with
    | none =>
      refine ⟨_, exec_dmaDescFetch_error hfetches, fun h => absurd rfl h, fun _ => ?_⟩
      rw [flag_dmaEvt, flag_dmaEvt, flag_set_apart _ _ _ _ _ _ (by decide) (by decide), flag_set_same _ _ _ _ (by decide),
        flag_set_same _ _ _ _ (by decide)]
      exact ⟨rfl, rfl⟩
    | some w => exact ⟨_, exec_dmaDescFetch_word hfetches w, fun _ => dmaEng_dmaStart .., fun h => absurd h (by simp)⟩
  · exact ⟨_, exec_dmaPieceComplete_issue hx hp hup hdesc htodo
      (by simp only [hfree, hholds, hroom, hready, hturn, Bool.not_false, Bool.and_self]),
      dmaIssue_outcome hdesc hlocal hdata⟩
  · refine ⟨_, exec_dmaPieceComplete_answer hx hp hup hsound hpiece hgen, ?_⟩
    rw [← ht_of_pieceOf hpiece]
    exact ftag_dmaPieceEnd_free ..
  · refine ⟨_, exec_dmaWriteback_whole hx hup hdescs hwhole, ?_⟩
    split
    · obtain ⟨hrest, hcons, hout⟩ := writtenBack_dmaEvt_outcome s x d rest 1
      exact ⟨hrest, hcons, by rw [hout]; rfl⟩
    · split
      · obtain ⟨hrest, hcons, hout⟩ := writtenBack_dmaEvt_outcome s x d rest 0
        exact ⟨hrest, hcons, by rw [hout]; rfl⟩
      · obtain ⟨hrest, hcons, hout⟩ := writtenBack_outcome s x d rest
        exact ⟨hrest, hcons, by rw [hout]; rfl⟩

end Sys2Proof.Machine
end

section
/-!
SUPPORT. Resets of the PCI Express ports (R419, R428, R501, R624): the end of an engine's work, the loss of a link, PERST, and
Function Level Resets. O9.
-/

namespace Sys2Proof.Machine

variable {s : State} {x n : Nat}

/-! ### The end of an engine's work (R428) -/

/-- Load channels that use the engine of port x end with SRC_ERROR (R245). -/
def State.engineLoadsEnd (s : State) (x : Nat) : State :=
  (upTo 4).foldl (fun s n => match s.load n with
    | some r => if r.kind = x then s.loadFail n r ldSrcError else s
    | none => s) s

/-- The engine of port x drops its descriptors, their TAGs are free, and EN clears. -/
def State.engineIdle (s : State) (x : Nat) : State :=
  ((s.freePieces x ((s.dmaEng x).descs.map fun (d : DmaDesc) => d.open_).flatten).setDmaEng x
    { s.dmaEng x with descs := [] }).set F.PCIE_DMA_CTL_EN x 0

theorem dmaEnd_eq (s : State) (x : Nat) : s.dmaEnd x = ((s.engineIdle x).dmaEvt x 2).engineLoadsEnd x := rfl

/-- The footprint of the loads that end: their channels, slots and events. -/
theorem ok_engineLoadsEnd (s : State) (x : Nat) : Ok 0x12020000000000000000000000000000007018 s (s.engineLoadsEnd x) := by
  refine ok_foldl (fun u n hu => ?_) (ok_refl _ s)
  split
  · split
    · exact ok_loadFail n _ ldSrcError hu rfl
    · exact hu
  · exact hu

theorem pcie_dmaEnd (s : State) (x : Nat) : (s.dmaEnd x).pcie = (s.engineIdle x).pcie := by
  rw [dmaEnd_eq, pcie_of_ok (ok_engineLoadsEnd ..), pcie_dmaEvt]

theorem descs_dmaEnd (s : State) (x : Nat) : ((s.dmaEnd x).dmaEng x).descs = [] := by
  rw [dmaEng_of_pcie (t := s.dmaEnd x) (s := s.engineIdle x) (by rw [pcie_dmaEnd])]
  unfold State.engineIdle
  rw [dmaEng_set, dmaEng_setDmaEng_same]

theorem flag_en_dmaEnd (s : State) (x : Nat) : (s.dmaEnd x).flag F.PCIE_DMA_CTL_EN x = false := by
  rw [dmaEnd_eq, flag_of_ok (ok_engineLoadsEnd ..), flag_dmaEvt]
  exact flag_set_same _ _ _ _ (by decide)

/-- TAGs that are freed leave the configuration spaces. -/
theorem cfg_freePieces (s : State) (x : Nat) (ps : List DmaPiece) : (s.freePieces x ps).pcie.cfg = s.pcie.cfg := by
  unfold State.freePieces
  refine List.foldlRecOn (motive := fun u : State => u.pcie.cfg = s.pcie.cfg) _ _ rfl fun u hu p _ => ?_
  rw [pcie_setFtag]
  exact hu

theorem cfg_dmaEnd (s : State) (x y fn : Nat) : (s.dmaEnd x).cfg y fn = s.cfg y fn := by
  refine cfg_of_pcie ?_ y fn
  rw [pcie_dmaEnd, State.engineIdle, State.set_pcie, pcie_setDmaEng, cfg_freePieces]

/-- The footprint of an engine's end. -/
theorem dmaEnd_ok (s : State) (x : Nat) : Ok 0x20000000000000000012020000000000000000000000000000007098 s (s.dmaEnd x) :=
  ok_dmaEnd x (ok_refl _ s) rfl

/-! ### Loss of a link and PERST (R428, R501, R624) -/

/-- The record of a link that has gone down (R430). -/
def State.linkDownRecord (s : State) (x : Nat) : State :=
  ((((s.set F.PCIE_LINK_STAT_UP x 0).set F.PCIE_LINK_STAT_SPEED x 0).set F.PCIE_LINK_STAT_WIDTH x 0).set
    F.PCIE_LINK_STAT_FLIT x 0).inc F.PCIE_LINK_STAT_DOWN_CNT x

theorem linkDown_of_up (h : s.flag F.PCIE_LINK_STAT_UP x = true) :
    s.linkDown x = ((s.linkDownRecord x).dmaEnd x).dmaEvt x 3 := if_pos h

/-- A link that goes down clears its record and its copy ring, and is counted. -/
structure LinkCleared (s t : State) (x : Nat) : Prop where
  up : t.flag F.PCIE_LINK_STAT_UP x = false
  speed : t.get F.PCIE_LINK_STAT_SPEED x = 0
  width : t.get F.PCIE_LINK_STAT_WIDTH x = 0
  ring : t.flag F.PCIE_DMA_CTL_EN x = false
  counted : t.get F.PCIE_LINK_STAT_DOWN_CNT x = min 255 (s.get F.PCIE_LINK_STAT_DOWN_CNT x + 1)

theorem linkDown_cleared (h : s.flag F.PCIE_LINK_STAT_UP x = true) : LinkCleared s (s.linkDown x) x := by
  rw [linkDown_of_up h]
  constructor
  case ring => rw [flag_dmaEvt, flag_en_dmaEnd]
  all_goals
    simp only [State.flag, get_dmaEvt]
    rw [get_of_ok (dmaEnd_ok ..)]
    simp (disch := decide) only [State.linkDownRecord, State.inc, get_incBy_apart, get_incBy_same, get_set_apart, get_set_same]
  all_goals rfl

/-- A port that is reset has no link and no copy ring. -/
theorem flags_pcieReset (s : State) (x : Nat) : (s.pcieReset x).flag F.PCIE_LINK_STAT_UP x = false
    ∧ (s.pcieReset x).flag F.PCIE_DMA_CTL_EN x = false := by
  have hend : (if s.flag F.PCIE_LINK_STAT_UP x then s.linkDown x else s.dmaEnd x).flag F.PCIE_LINK_STAT_UP x = false
      ∧ (if s.flag F.PCIE_LINK_STAT_UP x then s.linkDown x else s.dmaEnd x).flag F.PCIE_DMA_CTL_EN x = false := by
    split
    · rename_i hup
      exact ⟨(linkDown_cleared hup).up, (linkDown_cleared hup).ring⟩
    · rename_i hdown
      rw [flag_of_ok (dmaEnd_ok ..)]
      exact ⟨by simpa using hdown, flag_en_dmaEnd s x⟩
  exact hend

/-- The levels of the PERST pins, bit x for port x. -/
def State.withPins (s : State) (pins : Nat) : State := { s with power := { s.power with perst := pins } }

theorem flag_withPins (s : State) (pins : Nat) (f : Fld) (i : Nat) : (s.withPins pins).flag f i = s.flag f i :=
  flag_of_regs (t := s.withPins pins) rfl f i

/-- The record of PERST at a port that was reset. -/
def State.perstRecord (s : State) (x : Nat) : State := (s.pcieReset x).set F.PCIE_LINK_STAT_PERST x 1

/-- PERST is asserted at a port that was reset. -/
def State.perstHeld (s : State) (x : Nat) : State :=
  (s.perstRecord x).withPins (Nat.lor (s.perstRecord x).power.perst (2 ^ x))

theorem perstDown_eq (s : State) (x : Nat) : s.perstDown x
    = if (s.perstHeld x).powered 1 then ((upTo 64).filter fun n => s.vfPort n == x).foldl State.mbxAbort (s.perstHeld x)
      else s.perstHeld x := rfl

/-- PERST touches nothing more of the port than mailboxes. -/
theorem perstDown_ok (s : State) (x : Nat) :
    Ok 0x10000000000000000000000000000000000000000000000000000000000000000080000 (s.perstHeld x) (s.perstDown x) := by
  rw [perstDown_eq]
  split
  · exact ok_foldl (fun u n hu => ok_mbxAbort n hu rfl) (ok_refl _ _)
  · exact ok_refl _ _

theorem perstDown_outcome (s : State) (x : Nat) : bitOf (s.perstDown x).power.perst x = 1
    ∧ (s.perstDown x).flag F.PCIE_LINK_STAT_PERST x = true ∧ (s.perstDown x).flag F.PCIE_LINK_STAT_UP x = false
    ∧ (s.perstDown x).flag F.PCIE_DMA_CTL_EN x = false := by
  obtain ⟨hup, hring⟩ := flags_pcieReset s x
  have hok := perstDown_ok s x
  rw [show (s.perstDown x).power = (s.perstHeld x).power from hok.part .power rfl, flag_of_ok hok, flag_of_ok hok, flag_of_ok hok]
  unfold State.perstHeld
  rw [flag_withPins, flag_withPins, flag_withPins, State.perstRecord, flag_set_same _ _ _ _ (by decide),
    flag_set_apart _ _ _ _ _ _ (by decide) (by decide), flag_set_apart _ _ _ _ _ _ (by decide) (by decide)]
  exact ⟨bitOf_lor_two_pow .., rfl, hup, hring⟩

theorem bitOf_add_two_pow_of_zero {v i : Nat} (h : bitOf v i = 0) : bitOf (v + 2 ^ i) i = 1 := by
  unfold bitOf at h ⊢
  rw [Nat.add_div_right _ (Nat.two_pow_pos i)]
  omega

theorem bitOf_sub_two_pow_of_one {v i : Nat} (h : bitOf v i = 1) : bitOf (v - 2 ^ i) i = 0 := by
  unfold bitOf at h ⊢
  have hdiv := Nat.sub_mul_div v (2 ^ i) 1
  rw [Nat.mul_one] at hdiv
  omega

/-! ### Function Level Resets (R419) -/

/-- Functions reset one after another: one that is among them, or was reset before, has its configuration space at its reset
values. -/
theorem cfg_resetCfgs {fn : Nat} (l : List Nat) (s : State) (h : fn ∈ l.map (· + 1) ∨ s.cfg x fn = {}) :
    (l.foldl (fun s k => s.resetCfg x (k + 1)) s).cfg x fn = {} := by
  induction l generalizing s with
  | nil => exact h.resolve_left List.not_mem_nil
  | cons k l ih =>
    refine ih _ ?_
    rcases h with hmem | hreset
    · rcases List.mem_cons.1 hmem with rfl | hlater
      · exact .inr (cfg_resetCfg_same ..)
      · exact .inl hlater
    · exact .inr (cfg_resetCfg_of_reset hreset ..)

/-- PF_FLR after the boot resets the PF (R419). -/
theorem cfg_pfReset_pf (s : State) (x : Nat) : (((s.resetCfg x 0).vfsOff x).dmaEnd x).cfg x 0 = {} := by
  rw [cfg_dmaEnd]
  exact cfg_resetCfgs _ _ (.inr (cfg_resetCfg_same ..))

/-- PF_FLR after the boot resets every VF (R419). -/
theorem cfg_pfReset_vf (s : State) (x : Nat) (hn : n < 64) : (((s.resetCfg x 0).vfsOff x).dmaEnd x).cfg x (n + 1) = {} := by
  rw [cfg_dmaEnd]
  exact cfg_resetCfgs _ _ (.inl (List.mem_map_of_mem (List.mem_range.2 hn)))

theorem cfg_setPendBits (s : State) (fn v : Nat) : (s.setPendBits fn v).pcie.cfg = s.pcie.cfg := by
  unfold State.setPendBits
  split <;> rfl

theorem cfg_vfCfgReset (s : State) (x n : Nat) : (s.vfCfgReset x n).cfg x (n + 1) = {} := by
  refine Eq.trans (cfg_of_pcie ?_ x (n + 1)) (cfg_resetCfg_same s x (n + 1))
  unfold State.vfCfgReset
  dsimp only
  split
  · rw [State.clearReg_pcie]
    exact cfg_setPendBits ..
  · rfl

/-- At the port to which a VF is attached its reset reaches, of the registers, its aperture's. -/
theorem regs_vfCfgReset (h : s.vfPort n = x) :
    (s.vfCfgReset x n).regs = (((s.resetCfg x (n + 1)).setPendBits (n + 1) 0).clearReg .PCIE_VF_APER n).regs := by
  unfold State.vfCfgReset
  simp only [if_pos h]

theorem regReset_aper (n : Nat) : regReset .PCIE_VF_APER n = 0 := by
  unfold regReset
  rfl

/-- The VF's aperture is at its reset value at the port to which it is attached (R437). -/
theorem aper_vfCfgReset (h : s.vfPort n = x) : (s.vfCfgReset x n).get F.PCIE_VF_APER_APER n = 0 := by
  rw [get_of_regs (regs_vfCfgReset h), get_clearReg (r := .PCIE_VF_APER) _ _ rfl, regReset_aper]
  rfl

theorem mbSt_mbxAbort (s : State) (m : Nat) : (s.mbxAbort m).mbSt m = mbIdle := by
  have hidle : ((s.setBox m { s.box m with payload := [], pages := [], msgTag := none }).setMbSt m mbIdle).mbSt m = mbIdle :=
    get_set_same _ F.MBX_STATUS_STATE m mbIdle (by decide)
  unfold State.mbxAbort
  dsimp only
  generalize State.setMbSt _ m mbIdle = u at hidle ⊢
  split
  · assumption
  · split
    · exact (get_of_regs (s := u) rfl F.MBX_STATUS_STATE m).trans hidle
    · exact hidle

theorem mbSt_mbxReset (s : State) (n : Nat) : (s.mbxReset n).mbSt n = mbIdle := by
  unfold State.mbxReset State.mbSt
  rw [State.setBox_get, get_set_apart _ _ _ _ _ _ (by decide) (by decide)]
  exact mbSt_mbxAbort s n

/-- The footprint of a mailbox's reset: mailboxes alone. -/
theorem mbxReset_ok (s : State) (n : Nat) :
    Ok 0x30000000000000000000000000000000000000000000000000000000000000000080000 s (s.mbxReset n) :=
  ok_mbxReset n (ok_refl _ s) rfl

theorem vfReset_attached (hport : s.vfPort n = x) (hp : s.powered 1 = true) :
    s.vfReset x n = ((s.vfCfgReset x n).set F.BENCH_RING_CTL_EN n 0).mbxReset n := if_pos ⟨hport, hp⟩

theorem vfReset_apart (h : ¬(s.vfPort n = x ∧ s.powered 1 = true)) : s.vfReset x n = s.vfCfgReset x n := if_neg h

theorem cfg_vfReset (s : State) (x n : Nat) : (s.vfReset x n).cfg x (n + 1) = {} := by
  by_cases h : s.vfPort n = x ∧ s.powered 1 = true
  · rw [vfReset_attached h.1 h.2]
    refine Eq.trans (cfg_of_pcie ?_ x (n + 1)) (cfg_vfCfgReset s x n)
    rw [pcie_of_ok (mbxReset_ok ..), State.set_pcie]
  · rw [vfReset_apart h, cfg_vfCfgReset]

theorem aper_vfReset (hport : s.vfPort n = x) : (s.vfReset x n).get F.PCIE_VF_APER_APER n = 0 := by
  by_cases h : s.vfPort n = x ∧ s.powered 1 = true
  · rw [vfReset_attached h.1 h.2, get_of_ok (mbxReset_ok ..), get_set_apart _ _ _ _ _ _ (by decide) (by decide),
      aper_vfCfgReset hport]
  · rw [vfReset_apart h, aper_vfCfgReset hport]

/-- The VF's event ring stops and its mailbox is idle (R419). -/
theorem vfReset_attached_outcome (hport : s.vfPort n = x) (hp : s.powered 1 = true) :
    (s.vfReset x n).flag F.BENCH_RING_CTL_EN n = false ∧ (s.vfReset x n).mbSt n = mbIdle := by
  rw [vfReset_attached hport hp, flag_of_ok (mbxReset_ok ..), flag_set_same _ _ _ _ (by decide)]
  exact ⟨rfl, mbSt_mbxReset ..⟩

/-- A live port answers VF_FLR with a retry until the boot is complete (R416). -/
theorem exec_vfFlr_live (hx : x < 2) (hn : n < 64) (hlive : s.portLive x = true) (hfn : s.hasFn x (n + 1) = true) :
    exec (.vfFlr x n) s
      = .next (if s.flag F.PWR_BOOT_STAT_DONE 0 then s.vfReset x n else s.emit (.cfgRetry x (n + 1))) := by
  refine congrArg Host.Outcome.next ((if_pos ⟨hx, hn, hlive⟩).trans ?_)
  rw [if_pos hfn]

theorem exec_pfFlr_live (hx : x < 2) (hlive : s.portLive x = true) : exec (.pfFlr x) s
    = .next (if s.flag F.PWR_BOOT_STAT_DONE 0 then ((s.resetCfg x 0).vfsOff x).dmaEnd x else s.emit (.cfgRetry x 0)) :=
  congrArg Host.Outcome.next (if_pos ⟨hx, hlive⟩)

/-! ### Links that come up (R414, R430) -/

/-- The record of a link that has come up. -/
def State.linkTrained (s : State) (x speed width : Nat) (flit : Bool) : State :=
  (((s.set F.PCIE_LINK_STAT_UP x 1).set F.PCIE_LINK_STAT_SPEED x speed).set F.PCIE_LINK_STAT_WIDTH x width).set
    F.PCIE_LINK_STAT_FLIT x (b2n flit)

/-- A speed and a width of a link fit their fields. -/
theorem linkMode_fits {speed width : Nat} {flit : Bool} (h : linkMode speed width flit = true) :
    speed < 2 ^ 3 ∧ width < 2 ^ 5 := by
  simp only [linkMode, Bool.and_eq_true, decide_eq_true_eq, List.contains_iff_mem, List.mem_cons, List.not_mem_nil,
    or_false] at h
  omega

theorem sendPort_ok (s : State) (x : Nat) : Ok 0x84 s (s.sendPort x) := ok_sendPort x (ok_refl _ s) rfl

theorem linkTrained_outcome (s : State) {x speed width : Nat} {flit : Bool} (h : linkMode speed width flit = true) :
    (s.linkTrained x speed width flit).flag F.PCIE_LINK_STAT_UP x = true
      ∧ (s.linkTrained x speed width flit).get F.PCIE_LINK_STAT_SPEED x = speed
      ∧ (s.linkTrained x speed width flit).get F.PCIE_LINK_STAT_WIDTH x = width
      ∧ (s.linkTrained x speed width flit).flag F.PCIE_LINK_STAT_FLIT x = flit := by
  obtain ⟨hspeed, hwidth⟩ := linkMode_fits h
  unfold State.linkTrained
  simp (disch := decide) only [flag_set_apart, flag_set_same, get_set_apart, get_set_same]
  exact ⟨rfl, Nat.mod_eq_of_lt hspeed, Nat.mod_eq_of_lt hwidth, by cases flit <;> rfl⟩

theorem exec_pcieLinkUp_trains {speed width : Nat} {flit : Bool} (hx : x < 2) (hp : s.powered (dPcie x) = true)
    (hpins : s.side.tapPins = false) (hup : s.floorReset = 0) (hmode : linkMode speed width flit = true)
    (hperst : s.flag F.PCIE_LINK_STAT_PERST x = false) (hdown : s.flag F.PCIE_LINK_STAT_UP x = false) :
    exec (.pcieLinkUp x speed width flit) s = .next (((s.linkTrained x speed width flit).dmaEvt x 3).sendPort x) :=
  congrArg Host.Outcome.next (if_pos ⟨hx, hp, hpins, hup, hmode, hperst, hdown⟩)

/-! ### The pins (R624, R630) -/

theorem exec_perstAssert_released (hx : x < 2) (h : bitOf s.power.perst x = 0) : exec (.perstAssert x) s
    = .next (if s.powered (dPcie x) then s.perstDown x
      else s.withPins (s.power.perst + 2 ^ x)) :=
  congrArg Host.Outcome.next (if_neg (by omega))

theorem exec_perstDeassert_asserted (hx : x < 2) (h : bitOf s.power.perst x = 1) : exec (.perstDeassert x) s
    = .next (if s.powered (dPcie x) then (s.withPins (s.power.perst - 2 ^ x)).set F.PCIE_LINK_STAT_PERST x 0
      else s.withPins (s.power.perst - 2 ^ x)) :=
  congrArg Host.Outcome.next (if_neg (by omega))

/-- Settles O9: PERST and a lost link end the engine's work and clear the link's record (`perstDown_outcome`, `linkDown_cleared`), a
link that trains records its mode (`linkTrained_outcome`), and a Function Level Reset gets a retry before the boot is complete, and
resets configuration spaces after it (`cfg_vfReset`, `cfg_pfReset_pf`, `cfg_pfReset_vf`), with what is the VF's own at its port. -/
theorem portResets : Obligations.PortResets := by
  unfold Obligations.PortResets
  refine ⟨fun s x hx hpin => ⟨_, exec_perstAssert_released hx hpin, ?_⟩,
    fun s x hx hpin => ⟨_, exec_perstDeassert_asserted hx hpin, ?_⟩,
    fun s x speed width flit hx hp hpins hup hmode hperst hdown =>
      ⟨_, exec_pcieLinkUp_trains hx hp hpins hup hmode hperst hdown, ?_⟩,
    fun s x hx hup => ⟨_, congrArg Host.Outcome.next (if_pos hx), ?_⟩,
    fun s x n hx hn hlive hfn => ⟨_, exec_vfFlr_live hx hn hlive hfn, fun hboot => if_neg (by simp [hboot]), fun hdone => ?_,
      fun hdone hport => ?_⟩,
    fun s x hx hlive => ⟨_, exec_pfFlr_live hx hlive, fun hboot => if_neg (by simp [hboot]), fun hdone => ?_,
      fun n hn hdone => ?_⟩⟩
  · split
    · obtain ⟨hbit, hflags⟩ := perstDown_outcome s x
      exact ⟨hbit, fun _ => hflags⟩
    · exact ⟨bitOf_add_two_pow_of_zero hpin, fun hp => absurd hp ‹_›⟩
  · split
    · refine ⟨?_, fun _ => flag_set_same _ _ _ _ (by decide)⟩
      rw [State.set_power]
      exact bitOf_sub_two_pow_of_one hpin
    · exact ⟨bitOf_sub_two_pow_of_one hpin, fun hp => absurd hp ‹_›⟩
  · have hok := sendPort_ok ((s.linkTrained x speed width flit).dmaEvt x 3) x
    rw [flag_of_ok hok, get_of_ok hok, get_of_ok hok, flag_of_ok hok, flag_dmaEvt, get_dmaEvt, get_dmaEvt, flag_dmaEvt]
    exact linkTrained_outcome s hmode
  · obtain ⟨hdown, hspeed, hwidth, hring, hcount⟩ := linkDown_cleared hup
    exact ⟨hdown, hspeed, hwidth, hring, hcount⟩
  · rw [if_pos hdone, cfg_vfReset]
  · rw [if_pos hdone]
    exact ⟨aper_vfReset hport, vfReset_attached_outcome hport⟩
  · rw [if_pos hdone]
    exact ⟨cfg_pfReset_pf s x, flag_en_dmaEnd .., descs_dmaEnd ..⟩
  · rw [if_pos hdone]
    exact cfg_pfReset_vf s x hn

end Sys2Proof.Machine
end

section
/-!
SUPPORT. Accesses of the host to the PCI Express ports (R416 to R424, R429): configuration requests, BAR reads and writes and their
responses, attachment of the VFs, and the MSI-X table. O10.
-/

namespace Sys2Proof.Machine

variable {s : State} {src : Src} {x fn tag o len ht b vec half : Nat} {data : List Byte} {v : Word}

/-! ### Words and bytes -/

/-- Bytes that lie within the first word are bytes of that word. -/
theorem gatherWords_word (word : Nat → Nat) (hlen : 0 < len) (hfit : b + len ≤ 4) :
    gatherWords word b len = bitsOf (word 0 % 2 ^ 32) (8 * b) (8 * len) := by
  have hmod : b % 4 = b := Nat.mod_eq_of_lt (by omega)
  have hdiv : b / 4 = 0 := Nat.div_eq_of_lt (by omega)
  have hone : (b % 4 + len + 3) / 4 = 1 := by omega
  rw [gatherWords, hone, hmod, hdiv]
  simp [upTo]

/-- Of a word with one bit, the bytes from byte 0 on hold it, and all others are 0. -/
theorem gatherWords_bit (word : Nat → Nat) (hbit : word 0 < 2) (hlen : 0 < len) (hfit : b + len ≤ 4) :
    gatherWords word b len = if b = 0 then word 0 else 0 := by
  rw [gatherWords_word word hlen hfit, Nat.mod_eq_of_lt (lt_trans hbit (by decide)), bitsOf]
  split
  · rename_i hb
    subst hb
    rw [Nat.mul_zero, Nat.pow_zero, Nat.div_one]
    exact Nat.mod_eq_of_lt (lt_of_lt_of_le hbit (Nat.pow_le_pow_right (n := 2) (i := 1) (by decide) (by omega)))
  · rw [Nat.div_eq_of_lt (lt_of_lt_of_le hbit (Nat.pow_le_pow_right (n := 2) (i := 1) (by decide) (by omega))), Nat.zero_mod]

/-! ### Configuration requests (R416) -/

theorem exec_pcieConfigRequest_live {q : CfgReq} (hx : x < 2) (hfn : fn < 65) (hlive : s.portLive x = true) :
    exec (.pcieConfigRequest x fn tag q) s = .next (if s.flag F.PWR_BOOT_STAT_DONE 0 then
        if s.hasFn x fn then (s.cfgWrite x fn q).emit (.completion x fn tag false (some (s.cfgRead x fn q)))
        else s.emit (.unsupported x fn tag)
      else s.emit (.cfgRetry x fn)) :=
  congrArg Host.Outcome.next (if_pos ⟨hx, hfn, hlive⟩)

/-! ### BAR accesses (R420 to R424) -/

/-- An access as it comes to a port: nothing is known yet of the network's part in it. -/
def barAccess (x fn tag : Nat) (write : Bool) (data : List Byte) (len ht : Nat) : BarReq :=
  { port := x, fn := fn, tag := tag, write := write, cls := clsReq, addr := 0, dst := 0, data := data, len := len, ht := ht }

/-- A read that the port answers by itself. -/
def State.barDone (s : State) (x fn tag len v : Nat) : State := s.emit (.completion x fn tag false (some (v % 2 ^ (8 * len))))

/-- A read of an open BAR, by the place where it goes. -/
def State.barReadAt (s : State) (x fn tag len ht : Nat) : BarPlace → State
  | .msix b => s.barDone x fn tag len (gatherWords (fun o => s.msixWord x fn (o / 4)) b len)
  | .pba b => s.barDone x fn tag len (gatherWords (s.pbaWord fn) b len)
  | .aper b => s.barDone x fn tag len (gatherWords (fun o => if o = 0 then s.get F.PCIE_VF_APER_APER (fn - 1) else 0) b len)
  | .none => s.barDone x fn tag len 0
  | .haul cls m a =>
    if s.ftagFree x ht then s.barCarry { barAccess x fn tag false [] len ht with cls := cls, addr := a } (some m) else s
  | .mailbox a => if s.ftagFree x ht then s.barCarry { barAccess x fn tag false [] len ht with addr := a } none else s

theorem exec_pcieBarRead_open (hopen : s.barOpen x fn = true) (hlen : 0 < len) (hup : s.floorReset = 0) :
    exec (.pcieBarRead x fn tag o len ht) s = .next (s.barReadAt x fn tag len ht (s.barPlace x fn o)) := by
  refine congrArg Host.Outcome.next ((if_pos ⟨hopen, hlen⟩).trans ((if_neg (not_not.2 hup)).trans ?_))
  cases s.barPlace x fn o <;> rfl

/-- A write to an open BAR, by the place where it goes. -/
def State.barWriteAt (s : State) (x fn : Nat) (data : List Byte) (ht : Nat) : BarPlace → State
  | .msix b => s.msixBytes x fn b data
  | .pba _ => s
  | .aper b => if b = 0 then s.set F.PCIE_VF_APER_APER (fn - 1) (leNat data) else s
  | .none => s
  | .haul cls m a =>
    if s.ftagFree x ht then s.barCarry { barAccess x fn 0 true data data.length ht with cls := cls, addr := a } (some m) else s
  | .mailbox a => if s.ftagFree x ht then s.barCarry { barAccess x fn 0 true data data.length ht with addr := a } none else s

theorem exec_pcieBarWrite_open (hopen : s.barOpen x fn = true) (hdata : data ≠ []) (hup : s.floorReset = 0) :
    exec (.pcieBarWrite x fn o data ht) s = .next (s.barWriteAt x fn data ht (s.barPlace x fn o)) := by
  refine congrArg Host.Outcome.next ((if_pos ⟨hopen, hdata⟩).trans ((if_neg (not_not.2 hup)).trans ?_))
  cases s.barPlace x fn o <;> rfl

theorem barDone_of_lt {w : Nat} (h : w < 2 ^ (8 * len)) :
    s.barDone x fn tag len w = s.emit (.completion x fn tag false (some w)) := by
  rw [State.barDone, Nat.mod_eq_of_lt h]

/-- A read of the aperture's register: its bit from byte 0 on, and 0 beyond it (R437). -/
theorem barReadAt_aper (hlen : 0 < len) (hfit : b + len ≤ 4) : s.barReadAt x fn tag len ht (.aper b)
    = s.emit (.completion x fn tag false (some (if b = 0 then s.get F.PCIE_VF_APER_APER (fn - 1) else 0))) := by
  have hbit : s.get F.PCIE_VF_APER_APER (fn - 1) < 2 := bitsOf_lt ..
  have hsmall : (if b = 0 then s.get F.PCIE_VF_APER_APER (fn - 1) else 0) < 2 ^ (8 * len) := by
    refine lt_of_lt_of_le ?_ (Nat.pow_le_pow_right (n := 2) (i := 1) (by decide) (by omega))
    split
    · exact hbit
    · decide
  rw [State.barReadAt, gatherWords_bit _ hbit hlen hfit]
  exact barDone_of_lt hsmall

/-- A carried read holds the free TAG (R322). -/
theorem barReadAt_haul_busy {cls a : Nat} {m : Bool} (hfree : s.ftagFree x ht = true) (hlocal : s.localStatus m a len = none) :
    ((s.barReadAt x fn tag len ht (.haul cls m a)).ftag x ht).busy = true := by
  rw [State.barReadAt, if_pos hfree]
  exact ftag_barCarry_busy (r := { barAccess x fn tag false [] len ht with cls := cls, addr := a }) hlocal

/-- A carried write holds the free TAG (R322). -/
theorem barWriteAt_haul_busy {cls a : Nat} {m : Bool} (hfree : s.ftagFree x ht = true)
    (hlocal : s.localStatus m a data.length = none) : ((s.barWriteAt x fn data ht (.haul cls m a)).ftag x ht).busy = true := by
  rw [State.barWriteAt, if_pos hfree]
  exact ftag_barCarry_busy (r := { barAccess x fn 0 true data data.length ht with cls := cls, addr := a }) hlocal

/-! ### Responses of BAR accesses (R424) -/

/-- The access that a response answers is of its port and holds its TAG. -/
theorem barReq_of_find {i : Nat} {r : BarReq} (h : (s.pcie.bars.find? fun q => q.port == x && q.ht == i && q.inj.isSome) = some r) :
    r.port = x ∧ r.ht = i := by
  have hmatch := List.find?_some h
  simp only [Bool.and_eq_true, beq_iff_eq] at hmatch
  exact hmatch.1

theorem exec_barHaulResponse_answers {hdr : Nat} {flits : List (Nat × Bool)} {r : BarReq} (hx : x < 2)
    (hp : s.powered (dPcie x) = true) (hup : s.floorReset = 0)
    (hreq : (s.pcie.bars.find? fun q => q.port == x && q.ht == hTag hdr % 2 ^ 9 && q.inj.isSome) = some r)
    (hgen : (s.ftag x (hTag hdr % 2 ^ 9)).gen = hTag hdr / 2 ^ 9) (hsound : rspSound hdr flits = true) :
    exec (.barHaulResponse x hdr flits) s = .next ((s.barAnswer r (rspStatus hdr flits) flits).barClose r) := by
  refine congrArg Host.Outcome.next ((if_pos ⟨hx, hp, hup, hsound⟩).trans ?_)
  simp only [hreq, if_pos hgen]

/-- An OK counts as one, whatever the access finds. -/
theorem barStatus_ok (s : State) (r : BarReq) : s.barStatus r stOk = stOk := by
  unfold State.barStatus
  split <;> rfl

/-- A read that is answered OK completes with what it finds in the device, or with the response's data. -/
theorem barAnswer_read {r : BarReq} (hread : r.write = false) (hkept : r.discard = false) (flits : List (Nat × Bool)) :
    s.barAnswer r stOk flits = (s.barSide r).emit (.completion r.port r.fn r.tag false
      (some (((s.barSide r).barContent r).getD (rangeOfFlits r.addr r.len flits)))) := by
  simp only [State.barAnswer, barStatus_ok, hread, hkept, Bool.false_eq_true, if_false, if_true]

theorem barAnswer_write {r : BarReq} (hwrite : r.write = true) (flits : List (Nat × Bool)) :
    s.barAnswer r stOk flits = s.barStore r := by
  simp only [State.barAnswer, barStatus_ok, hwrite, if_true]

/-! ### Attachment of the VFs (R418) -/

/-- The half of PCIE_VF_MAP that a write goes to. -/
def vfMapFld (half : Nat) : Fld := if half = 0 then F.PCIE_VF_MAP_LO_MAP_LO else F.PCIE_VF_MAP_HI_MAP_HI

/-- The write `v` of a half of PCIE_VF_MAP moves no VF that is busy. -/
def State.movesNoBusy (s : State) (half : Nat) (v : Word) : Bool :=
  (upTo 32).all fun i => bitOf (s.get (vfMapFld half) 0) i == bitOf v.toNat i || !s.vfBusy (32 * half + i)

theorem vfMapWrite_eq (s : State) (half : Nat) (v : Word) : s.vfMapWrite half v
    = if s.movesNoBusy half v then ((s.set (vfMapFld half) 0 v.toNat).sendPort 0).sendPort 1
      else s.set F.PCIE_DEV_CTL_MAP_ERR 0 1 := by
  have hbusy : s.movesNoBusy half v = !((upTo 32).any fun i =>
      bitOf (s.get (vfMapFld half) 0) i != bitOf v.toNat i && s.vfBusy (32 * half + i)) := by
    rw [List.not_any_eq_all_not]
    simp only [State.movesNoBusy, Bool.not_and, bne, Bool.not_not]
  rw [hbusy]
  simp only [Bool.not_eq_true', ← Bool.not_eq_true, ite_not]
  rfl

/-- The half takes the word written, and messages that go out leave it (R435). -/
theorem get_vfMapWrite_taken (h : s.movesNoBusy half v = true) : (s.vfMapWrite half v).get (vfMapFld half) 0 = v.toNat := by
  rw [vfMapWrite_eq, if_pos h]
  unfold vfMapFld
  split
  all_goals
    rw [get_of_ok (sendPort_ok ..), get_of_ok (sendPort_ok ..), get_set_same _ _ _ _ (by decide)]
    exact Nat.mod_eq_of_lt v.isLt

theorem mapErr_vfMapWrite_refused (h : s.movesNoBusy half v = false) :
    (s.vfMapWrite half v).flag F.PCIE_DEV_CTL_MAP_ERR 0 = true := by
  rw [vfMapWrite_eq, if_neg (by simp [h]), flag_set_same _ _ _ _ (by decide)]
  rfl

/-! ### The MSI-X table (R429) -/

theorem msixEntry_setMsixEntry_same (s : State) (x fn vec : Nat) (e : MsixEntry) :
    (s.setMsixEntry x fn vec e).msixEntry x fn vec = e := mapGet_mapSet_same _ _ _ _

theorem msix_setPendBits (s : State) (fn w : Nat) : (s.setPendBits fn w).pcie.msix = s.pcie.msix := by
  unfold State.setPendBits
  split <;> rfl

/-- A pending message that goes out leaves the table. -/
theorem msixEntry_sendPending (s : State) (gn k x fn vec : Nat) : (s.sendPending gn k).msixEntry x fn vec = s.msixEntry x fn vec := by
  have hmsix : (s.sendPending gn k).pcie.msix = s.pcie.msix := by
    unfold State.sendPending
    split
    · rw [State.emit_pcie, msix_setPendBits]
    · rfl
  unfold State.msixEntry
  rw [hmsix]

/-- A 0 in the fourth word of a vector's entry clears its Mask bit. -/
theorem mask_msixWrite (hvec : vec < vecCount fn) : ((s.msixWrite x fn (4 * vec + 3) 0).msixEntry x fn vec).mask = false := by
  have hentry : (4 * vec + 3) / 4 = vec := by omega
  have hword : (4 * vec + 3) % 4 = 3 := by omega
  unfold State.msixWrite
  simp only [hentry, hword, if_pos hvec]
  split
  · rw [msixEntry_sendPending, msixEntry_setMsixEntry_same]
    rfl
  · rw [msixEntry_setMsixEntry_same]
    rfl

/-- Settles O10: a request is answered as its port and its function stand (log entry 75 for what a configuration read returns); a BAR
access goes by its place (`State.barReadAt`, `State.barWriteAt`); the response of a carried one ends it (`barAnswer_read`,
`barAnswer_write`; log entry 76) and frees its TAG, and later accesses that go take no output back (`out_barClose`); a write of
PCIE_VF_MAP is taken when it moves no busy VF (`State.movesNoBusy`). -/
theorem pcieAccesses : Obligations.PcieAccesses := by
  unfold Obligations.PcieAccesses
  refine ⟨fun s x fn tag q hx hfn hlive => ⟨_, exec_pcieConfigRequest_live hx hfn hlive, fun hdone hhas => ?_, fun hdone hno => ?_,
      fun hboot => if_neg (by simp [hboot])⟩,
    fun s x fn tag o len ht hopen hlen hup => ⟨_, exec_pcieBarRead_open hopen hlen hup, fun b hplace => ?_, fun b hplace => ?_,
      fun hplace => ?_, fun hplace hfit => ?_, fun b hplace hb hfit => ?_, fun cls m a hplace hfree hlocal => ?_⟩,
    fun s x fn o data ht hopen hdata hup => ⟨_, exec_pcieBarWrite_open hopen hdata hup, fun b hplace => ?_, fun hplace => ?_,
      fun hplace => ?_, fun b hplace hb => ?_, fun cls m a hplace hfree hlocal => ?_⟩,
    fun s x hdr flits r hx hp hup hreq hgen hsound =>
      ⟨_, exec_barHaulResponse_answers hx hp hup hreq hgen hsound, ?_, fun hok hread hkept => ?_, fun hok hwrite => ?_⟩,
    fun s src half v hhalf hw =>
      ⟨_, congrArg Host.Outcome.next (if_pos ⟨hhalf, hw⟩), get_vfMapWrite_taken, mapErr_vfMapWrite_refused⟩,
    fun s x fn vec hx hlive hfn hvec => ⟨_, congrArg Host.Outcome.next (if_pos ⟨hx, hlive, hfn⟩), mask_msixWrite hvec⟩⟩
  · rw [if_pos hdone, if_pos hhas]
    rfl
  · rw [if_pos hdone, if_neg (by simp [hno])]
  · rw [hplace]
    rfl
  · rw [hplace]
    rfl
  · rw [hplace]
    exact barDone_of_lt (Nat.two_pow_pos _)
  · rw [hplace, barReadAt_aper hlen (by omega), if_pos rfl]
  · rw [hplace, barReadAt_aper hlen hfit, if_neg hb.ne']
  · rw [hplace]
    exact barReadAt_haul_busy hfree hlocal
  · rw [hplace]
    rfl
  · rw [hplace]
    rfl
  · rw [hplace]
    exact get_set_same s F.PCIE_VF_APER_APER (fn - 1) (leNat data) (by decide)
  · rw [hplace]
    exact if_neg hb.ne'
  · rw [hplace]
    exact barWriteAt_haul_busy hfree hlocal
  · obtain ⟨hport, hht⟩ := barReq_of_find hreq
    rw [← hport, ← hht]
    exact ftag_barClose_free ..
  · obtain ⟨rfl, -⟩ := barReq_of_find hreq
    rw [hok, barAnswer_read hread hkept]
    exact (out_barClose _ r).subset (List.mem_cons_self ..)
  · rw [hok, barAnswer_write hwrite]

end Sys2Proof.Machine
end
